-- ==== Sys2Proof/Word.lean ====
section
/-! DEFINITION. The words of the Zalore and the values its commands carry: registers are
32-bit words (R9), frames and messages are octets in transmission order (R10), and an
item is one Ethernet frame or bus PDU on its path through the core (R24, R25). -/

namespace Sys2Proof

/-- A register or memory word (R9). -/
abbrev Word := BitVec 32

/-- An octet of a frame or message (R10). -/
abbrev Byte := BitVec 8

/-- The place of a field in its word: bits hi down to lo (R8). -/
structure Fld where
  hi : Nat
  lo : Nat
  deriving DecidableEq, Repr

/-- The register field types of R12; a reserved field has no entry. -/
inductive FieldType where
  | rw | ro | rc | w1c | w1s | wo | rwl
  deriving DecidableEq, Repr

/-- One field of a register table. -/
structure FieldDesc where
  fld : Fld
  ty : FieldType
  reset : Nat
  deriving DecidableEq, Repr

/-- One row of the address map: c1 × c2 equal words at base + s1·i + s2·j. -/
structure RegDesc where
  base : Nat
  s1 : Nat
  c1 : Nat
  s2 : Nat
  c2 : Nat
  fields : List FieldDesc
  deriving DecidableEq, Repr

/-- The interfaces of R478. -/
inductive Iface where
  | pcie | spi | thimble | twin
  deriving DecidableEq, Repr

/-- Who asks for a datum change (R85, R107): the registers through an interface, an OAP session
for a datum, or the servo with its own values (R97). -/
inductive DatumSrc where
  | regs (i : Iface)
  | dict (session datum : Nat)
  | servo (eff : Nat) (step : Bool) (offset rate : Nat)
  deriving DecidableEq, Repr

/-- What a received gPTP message completes (R95, R97, R102). -/
inductive GptpIn where
  /-- a Sync with its Follow_Up: the measured offset in ticks -/
  | offset (ticks : Int)
  /-- a Pdelay exchange: the mean link delay in 1/16 ns -/
  | linkDelay (d : Nat)
  /-- a Pdelay_Req, which is answered -/
  | pdelayReq
  /-- an Announce: priority1 of the grandmaster it names, and the rest of its vector, lower being better -/
  | announce (priority1 rest : Nat)
  /-- a Signaling with the message interval request TLV: logSyncInterval, logPdelayReqInterval, logAnnounceInterval -/
  | signal (sync pdelay announce : Int)
  /-- a message that completes nothing -/
  | other
  deriving DecidableEq, Repr

/-- A CAN frame on a bus (R142, R225): format 0 classical, 1 FD, 2 XL. -/
structure CanFrame where
  fmt : Nat
  ide : Bool
  rtr : Bool
  brs : Bool
  esi : Bool
  sec : Bool
  ident : Nat
  sdt : Nat
  vcid : Nat
  af : Nat
  data : List Byte
  /-- the DLC of a classical frame, which is above the number of its octets from 9 on (R159) -/
  dlc : Nat := 0
  deriving DecidableEq, Repr

/-- How an OAP PDU arrives (R455 to R458): in the payload of an OAP frame on trunk port n, with its source address and
outer tag; as a CAN XL frame on management bus b; or as the request submitted to mailbox k (0 PCIe, 1 SPI). -/
inductive OapIn where
  | port (n : Nat) (addr tag payload : List Byte)
  | mb (b : Nat) (frame : CanFrame)
  | mailbox (k : Nat)
  deriving DecidableEq, Repr

end Sys2Proof

namespace Sys2Proof.Machine

/-- An item on its path through the core: an Ethernet frame or a bus PDU (R24 to R26). -/
structure Item where
  /-- true: an Ethernet frame, whose `data` run from the destination address to the last octet before the FCS. -/
  eth : Bool
  /-- bus PDU: 0 classical CAN, 1 CAN FD, 2 CAN XL, 3 LIN (R225) -/
  fmt : Nat
  ide : Bool
  rtr : Bool
  brs : Bool
  esi : Bool
  sec : Bool
  ident : Nat
  sdt : Nat
  vcid : Nat
  af : Nat
  data : List Byte
  tenant : Nat
  /-- the ingress in the SRC form of R218: kind in [13:12], number in [11:0]; 16,384 × (panel + 1) for an item
  that no port, bus or channel brought in -/
  src : Nat
  /-- the item's stamp in Meridian ticks (R91) -/
  stamp : Nat
  reentry : Nat
  hash : Nat
  /-- control class (R27) -/
  ctl : Bool
  pcp : Nat
  dei : Bool
  tagged : Bool
  vid : Nat
  /-- queue set by a filter rule, an emit or an injection (R124, R219, R298) -/
  queue : Option Nat
  /-- transmit time-stamp request: source code and identifier (R103) -/
  tsreq : Option (Nat × Nat)
  /-- stream handle, and its sequence number + 2^16 · ENC + 2^17 · DEC as the lookup found them (R238, R250, R427) -/
  handle : Option (Nat × Nat)
  /-- red, yellow or green under R273: 0 green, 1 yellow -/
  colour : Nat
  /-- a word of it is poison-tagged (R572) -/
  poison : Bool
  /-- chosen by random tagging (R587) -/
  traced : Bool
  /-- a survey record is due where the path ends: 0 by sampling, r + 1 by filter rule r (R276) -/
  mirror : Option Nat
  /-- ingress Meridian stamp ts_in of a frame from a port (R100, R277) -/
  tsIn : Nat
  /-- spilled at some time (R277) -/
  spilled : Bool
  /-- DEI is set on the egress tag (R273) -/
  setDei : Bool
  /-- the virtual-bus member whose request it is; 0 for a routed item (R176, R227) -/
  member : Nat
  /-- the request's due time where it is not its stamp: a bobbin release's rt_eff, an emit's tau (R178) -/
  tau : Option Nat
  /-- words 8 to 11 of its work-item descriptor (R293, R365) -/
  extra : List Word
  /-- a tagged item's stage stamps: stage and tick (R588) -/
  stamps : List (Nat × Nat)
  /-- the capture bobbin whose unwind frame it is (R371) -/
  unw : Option Nat
  /-- a frame that failed a check of R119 after its start had gone on towards a cut-through egress (R280) -/
  bad : Bool
  /-- the panel the item has come to, where it is not that of its ingress (R23, R31) -/
  at_ : Option Nat
  deriving DecidableEq, Repr

/-- Where an item can be delivered (R23, R25, R254, R425): q is a data queue, 16 the control queue. -/
inductive Dest where
  | port (n q : Nat)
  | plca (m q : Nat)
  | loom (n : Nat)
  | vbus (v : Nat)
  /-- the Seam egress of a group, towards a port of the twin -/
  | seam (g n q : Nat)
  | punt (q : Nat)
  /-- a stitch program, with the destination descriptor that named it -/
  | work (prog : Nat) (desc : Option Nat)
  deriving DecidableEq, Repr

/-- An item with no content: what the commands' helpers start from. -/
def Item.blank : Item :=
  { eth := true, fmt := 0, ide := false, rtr := false, brs := false, esi := false, sec := false,
    ident := 0, sdt := 0, vcid := 0, af := 0, data := [], tenant := 0, src := 0, stamp := 0,
    reentry := 0, hash := 0, ctl := false, pcp := 0, dei := false, tagged := false, vid := 0,
    queue := none, tsreq := none, handle := none, colour := 0, poison := false, traced := false,
    mirror := none, tsIn := 0, spilled := false, setDei := false, member := 0, tau := none, extra := [],
    stamps := [], unw := none, bad := false, at_ := none }

end Sys2Proof.Machine
end

