-- ==== Sys2Proof/Syntax.lean ====
section
/-! DEFINITION. The commands of the block: one constructor for each row of
spec/opcode_table.json. A command's operands are what it carries from outside: the number
of the unit it acts on, written words, received octets, measured values. -/

namespace Sys2Proof

/-- A command of the Zalore. -/
inductive Instr where
  /-- POWER_ON_RESET, R600: PORST_N low (or the brown-out detector) resets every value of the manual, including those that survive SLEEP. -/
  | powerOnReset
  /-- DEVICE_RESET, R600: RST_N low while PORST_N is high resets to the values of R14, except those that R549 keeps. -/
  | deviceReset
  /-- BROWN_OUT, R626: A group 1 rail, or a core rail below 0.60 V, for 2 us acts as PORST_N low until every rail has been in range for 100 us. -/
  | brownOut
  /-- RESET_RELEASE, R603: Release of a reset samples the straps and starts the boot sequence with time PLL lock. -/
  | resetRelease (nid : Nat)
  /-- PLL_LOCK, R73: The first lock of the time PLL after reset starts Meridian counting and sets TIME_STAT.RUN. -/
  | pllLock
  /-- BOOT_ROM_VERIFY, R534: The boot ROM records the boot attempt, verifies the selected manifest, falls back if needed and loads the parts. -/
  | bootRomVerify (stuck : Bool) (shield : Bool)
  /-- THIMBLE_BOOT_COMPLETE, R603: When Thimble boot ends, the governor sends its first command and the memory initialisers start. -/
  | thimbleBootComplete
  /-- INIT_CLASS_DONE, R574: An initialiser finishes its memory class and sets its DONE bit, and ALL once every class is done. -/
  | initClassDone (k : Nat)
  /-- KEY_STORE_RESTORE, R385: Once class 6 is done, proof unit 1 restores the key store from the newest committed blob generation and sets READY. -/
  | keyStoreRestore
  /-- SETTINGS_RESTORE, R524: Once ECC_INIT.ALL is 1, the Thimble restores settings, enables the join ports and moves the node from INIT to JOINING. -/
  | settingsRestore
  /-- MONITOR_WINDOW_END, R51: At the end of each 1.28 us window a pace monitor publishes its count and margin. -/
  | monitorWindowEnd (n : Nat) (count : Nat)
  /-- CONTROL_PERIOD_END, R59: At each control period the governor raises, lowers or holds its rail. -/
  | controlPeriodEnd (d : Nat)
  /-- DEGRADED_LEVEL_RAISE, R64: A breach that lasts a further 10 ms moves the die up one degraded level. -/
  | degradedLevelRaise (d : Nat)
  /-- DEGRADED_LEVEL_EXIT, R66: 10 ms of margin at least EXIT steps the die down one level. -/
  | degradedLevelExit (d : Nat)
  /-- AVS_TRANSACTION_END, R57: An AVSBus transaction completes, or is retried, or fails after four attempts and sets AVS_ERR. -/
  | avsTransactionEnd (rail : Nat) (res : Nat)
  /-- RAIL_DEVIATION, R58: A rail more than 30 mV from its command for 1 ms sets RAIL_ERR. -/
  | railDeviation (rail : Nat) (mv : Nat)
  /-- PACE_VCMD_WRITE, R63: While EN is 0, a write of PACE_VCMD sends the clamped target to the rails. -/
  | paceVcmdWrite (i : Iface) (w : Word)
  /-- PACE_LIMIT_WRITE, R61: A write of limits or thresholds updates LIM_ERR and applies a moved limit at the next period. -/
  | paceLimitWrite (i : Iface) (vlim : Bool) (w : Word)
  /-- PACE_EVT_WRITE, R58: W1C write of PACE_EVT; a 1 in RAIL also clears RAIL_ERR0 and RAIL_ERR1. -/
  | paceEvtWrite (i : Iface) (w : Word)
  /-- REFERENCE_LOSS, R75: Loss of the 25 MHz time reference puts the time PLL into holdover. -/
  | referenceLoss
  /-- REFERENCE_RELOCK, R75: After 10 ms of a good reference, the PLL slews back to lock and clears HOLDOVER. -/
  | referenceRelock
  /-- TWIN_DIFF_REMEASURE, R76: The once-a-second re-measure of the twin Meridian difference; a move above 4 ns sets TIME_EVT.TWIN. -/
  | twinDiffRemeasure (diff : Int)
  /-- DATUM_COMMIT, R638: A datum change is judged and, if accepted, becomes the pending record. -/
  | datumCommit (src : DatumSrc)
  /-- DATUM_CANCEL, R84: A datum cancel is judged and removes the pending record. -/
  | datumCancel (src : DatumSrc)
  /-- DATUM_FETCH, R638: A fetch copies the pending record into the staging registers. -/
  | datumFetch (i : Iface)
  /-- DATUM_CHANGE_COMPLETE, R86: A datum change completes once both twins hold it, and BUSY clears. -/
  | datumChangeComplete (dict : Bool) (result : Nat)
  /-- PENDING_RECORD_EFFECT, R79: At E the pending record takes effect and GEN increments; a step sets TIME_EVT.STEP. -/
  | pendingRecordEffect (d : Nat)
  /-- GPTP_MESSAGE_RECEIVE, R95: A gPTP message received on a gPTP-enabled port is consumed by the servo. -/
  | gptpMessageReceive (n : Nat) (msg : GptpIn)
  /-- PPS_IN_EDGE, R98: An active edge on PPS_IN is stamped and counted. -/
  | ppsInEdge (rising : Bool)
  /-- PPS_OUT_RISE, R99: PPS_OUT rises when the selected datum reaches a whole second. -/
  | ppsOutRise
  /-- PPS_OUT_FALL, R99: PPS_OUT falls after WIDTH us. -/
  | ppsOutFall
  /-- TX_TIMESTAMP_ENTRY, R103: A requested frame crossing the reference plane writes an entry to its port's time-stamp queue. -/
  | txTimestampEntry (n : Nat)
  /-- TSQ_HEAD_READ, R105: A read of TSQ word 0 removes the oldest entry into the interface's snapshot. -/
  | tsqHeadRead (i : Iface) (u : Nat)
  /-- MERIDIAN_READ, R74: A read of TIME_MER_LO samples Meridian and latches HI. -/
  | meridianRead (i : Iface)
  /-- VIEW_READ, R78: A read of TIME_VIEW_LO evaluates the selected datum and latches HI and VMER. -/
  | viewRead (i : Iface)
  /-- DATUM_SNAPSHOT_READ, R78: A read of TIME_DATd word 0 snapshots the datum's active record. -/
  | datumSnapshotRead (i : Iface) (d : Nat)
  /-- PPSI_STAMP_READ, R98: A read of TIME_PPSI_LO latches HI. -/
  | ppsiStampRead (i : Iface)
  /-- PORT_ENABLE, R115: A PORT_CFGn write taking EN from 0 to 1 applies the configuration and enables the port, or refuses it. -/
  | portEnable (i : Iface) (n : Nat) (w : Word)
  /-- PORT_STOP, R116: A write of EN 0 stops the port and starts its drain. -/
  | portStop (i : Iface) (n : Nat) (w : Word)
  /-- PORT_DRAINED, R116: Once the drain is complete, STOPPED is set and the lanes go to electrical idle. -/
  | portDrained (n : Nat)
  /-- PORT_CONFIG_WRITE, R115: A PORT_CFGn write that does not enable or stop stores or ignores its fields. -/
  | portConfigWrite (i : Iface) (n : Nat) (w : Word)
  /-- LANE_EQ_WRITE, R114: A write of a lane equalisation entry takes effect on its lane. -/
  | laneEqWrite (i : Iface) (lane : Nat) (w : Word)
  /-- REF_WINDOW_END, R113: A 1 us window of the panel reference detector ends and updates presence and LOST. -/
  | refWindowEnd (p : Nat) (edges : Nat)
  /-- TRAINING_COMPLETE, R111: Auto-negotiation and link training of a port complete. -/
  | trainingComplete (n : Nat)
  /-- TRAINING_TIMEOUT, R112: A training attempt not complete within 300 ms is abandoned and restarted. -/
  | trainingTimeout (n : Nat)
  /-- LINK_DOWN, R117: A fault condition that lasts DN_HOLD declares link down. -/
  | linkDown (n : Nat) (fault : Bool)
  /-- LINK_UP, R117: UP_HOLD ms free of faults declares link up. -/
  | linkUp (n : Nat)
  /-- REMOTE_FAULT, R118: Receipt of remote fault sets RFAULT and the port sends only idles. -/
  | remoteFault (n : Nat)
  /-- FRAME_RECEIVE, R119: A frame completes at a MAC and is accepted, filtered or discarded, then handed to the parser. -/
  | frameReceive (n : Nat) (octets : List Byte) (found : Nat) (raw : Nat)
  /-- ITEM_LOOKUP, R24: The parser tags an item, and the filter stage, table search, stream identification and policing run in one lookup. -/
  | itemLookup (p : Nat) (full : List Nat) (slow : Bool)
  /-- ITEM_ENQUEUE, R256: An item is offered to its destination queue under the dynamic threshold. -/
  | itemEnqueue (p : Nat)
  /-- TRANSMIT_START, R127: The MAC starts the head frame of the first eligible queue. -/
  | transmitStart (n : Nat) (raw : Nat)
  /-- TRANSMIT_COMPLETE, R259: A frame's transmission completes and its reference count falls. -/
  | transmitComplete (u : Nat)
  /-- GATE_CHANGE, R129: A write of CHANGE copies the administrative gate configuration into a pending one, or refuses it. -/
  | gateChange (i : Iface) (n : Nat) (w : Word)
  /-- GATE_CONFIG_EFFECT, R130: At B' the pending gate list becomes operational. -/
  | gateConfigEffect (n : Nat)
  /-- GATE_EVENT, R131: A gate list entry boundary changes the gate states and may preempt a frame. -/
  | gateEvent (n : Nat)
  /-- VERIFY_SEND, R133: A preemption verify mPacket is sent every VERIFY_TIME ms, failing after three attempts. -/
  | verifySend (n : Nat)
  /-- VERIFY_RESPONSE, R133: A successful verify response makes preemption active. -/
  | verifyResponse (n : Nat)
  /-- LPI_ENTRY, R135: After IDLE us of empty queues the port transmits LPI. -/
  | lpiEntry (n : Nat)
  /-- LPI_EXIT, R135: A ready frame or an excluding condition makes the port leave LPI. -/
  | lpiExit (n : Nat)
  /-- GROUP_HASH_WRITE, R126: A write of a group-hash word takes effect for later frames. -/
  | groupHashWrite (i : Iface) (n : Nat) (k : Nat) (w : Word)
  /-- STATS_READ, R136: A read of a counter's low word clears it and latches the high word. -/
  | statsRead (i : Iface) (n : Nat) (c : Nat)
  /-- CHANNEL_ENABLE, R139: A write enabling a loom or PLCA channel applies its configuration or refuses it. -/
  | channelEnable (i : Iface) (u : Nat) (w : Word)
  /-- CHANNEL_STOP, R139: A write of EN 0 stops a channel as a port is stopped. -/
  | channelStop (i : Iface) (u : Nat) (w : Word)
  /-- CAN_FRAME_RECEIVE, R140: A correctly received CAN frame goes to the data path, the host buffers or both. -/
  | canFrameReceive (c : Nat) (frame : CanFrame) (found : Nat) (rec : Nat) (sof : Nat)
  /-- CHANNEL_ITEM_ARRIVAL, R149: An item reaches a loom channel and enters its transmit set, or is discarded, or wakes the channel. -/
  | channelItemArrival (n : Nat)
  /-- CAN_TX_ATTEMPT_END, R147: A transmission attempt ends in success, lost arbitration or error, with error counting. -/
  | canTxAttemptEnd (c : Nat) (how : Nat) (lec : Nat) (eights : Nat) (tdcv : Option Nat) (sof : Nat)
  /-- LOOM_RECOVER, R148: A write of LCn_ERR.RECOVER starts bus-off recovery. -/
  | loomRecover (i : Iface) (n : Nat) (w : Word)
  /-- BUS_OFF_RECOVERY_COMPLETE, R148: After 128 occurrences of 11 recessive bits the channel returns to error-active. -/
  | busOffRecoveryComplete (c : Nat)
  /-- LIN_HEADER_RECEIVE, R150: A LIN header is received and answered or received by the channel. -/
  | linHeaderReceive (n : Nat) (ident : Nat) (resp : Nat × Option (List Byte)) (stamp : Nat)
  /-- LIN_NO_RESPONSE, R150: A response that has not ended in time is counted in LIN_NORESP. -/
  | linNoResponse (n : Nat)
  /-- LIN_SCHEDULE_ENTRY, R151: A commander's schedule entry falls due and sends its header. -/
  | linScheduleEntry (n : Nat × Bool)
  /-- LIN_IDLE_TIMEOUT, R152: 4 s of bus inactivity sends a LIN responder to sleep. -/
  | linIdleTimeout (n : Nat)
  /-- LIN_LOCAL_WAKE_START, R163: 100 ms after the wake-up signal of a local wake, a commander starts its schedule. -/
  | linLocalWakeStart (n : Nat)
  /-- RX_RELEASE, R153: RELEASE empties the current host buffer and moves the shadow into it. -/
  | rxRelease (i : Iface) (n : Nat) (w : Word)
  /-- HOST_BUFFER_READ, R154: A read of the current receive buffer returns the held frame without stalling. -/
  | hostBufferRead (i : Iface) (n : Nat) (k : Nat)
  /-- TRX_REQUEST, R157: An LCn_TRX write with REQ_V requests a transceiver state. -/
  | trxRequest (i : Iface) (n : Nat) (w : Word)
  /-- TRX_MODE_SETTLED, R156: T_MODE expires and the channel accepts frames again. -/
  | trxModeSettled (c : Nat)
  /-- INH_OFF_DELAY, R156: T_INHOFF expires and INH goes low, ending sleep entry. -/
  | inhOffDelay (n : Nat)
  /-- INH_ON_SETTLED, R156: T_INHON expires and the code of the target state is driven. -/
  | inhOnSettled (n : Nat)
  /-- CHANNEL_WAKE, R158: A wake pattern takes the channel to normal and starts its timers. -/
  | channelWake (c : Nat) (low : Nat)
  /-- WAKE_FRAME_DECODE, R159: The wake-frame decoder takes a classical frame, counting errors or finding a match. -/
  | wakeFrameDecode (c : Nat) (frame : CanFrame) (bad : Bool) (sof : Nat)
  /-- FALSE_WAKE_WINDOW_END, R161: A wake not valid by the end of FW_WIN is false and the channel sleeps again. -/
  | falseWakeWindowEnd (n : Nat)
  /-- LOOM_SUPP_CLEAR, R161: A write of 1 to LCn_EVT.SUPP re-arms the detector and clears FW_CNT. -/
  | loomSuppClear (i : Iface) (n : Nat) (w : Word)
  /-- MAXAWAKE, R162: The awake timer reaches MAXAWAKE and the channel is forced to sleep. -/
  | maxawake (n : Nat)
  /-- PLCA_FRAME_RECEIVE, R167: A frame completes on a PLCA channel and is accepted or discarded as on a port. -/
  | plcaFrameReceive (m : Nat) (octets : List Byte) (found : Nat) (raw : Nat)
  /-- PLCA_TX_ATTEMPT_END, R166: A PLCA or CSMA/CD attempt ends, and a 16th collision discards the frame. -/
  | plcaTxAttemptEnd (m : Nat) (ok : Bool) (raw : Nat)
  /-- PLCA_BEACON, R166: A follower receives a beacon and sets PLCA_ST. -/
  | plcaBeacon (m : Nat) (seen : Nat)
  /-- PLCA_BEACON_LOSS, R166: No beacon for the timeout clears PLCA_ST. -/
  | plcaBeaconLoss (m : Nat)
  /-- MDIO_ACCESS, R168: A write of BUSY starts a Clause 22 access. -/
  | mdioAccess (i : Iface) (w : Word)
  /-- MDIO_COMPLETE, R168: The MDIO access completes and BUSY clears. -/
  | mdioComplete (v : Nat)
  /-- PHY_LINK_POLL, R168: Every 10 ms the PHY link status of each enabled PLCA channel is polled. -/
  | phyLinkPoll (m : Nat) (up : Bool)
  /-- MB_CONFIG_APPLY, R170: A host write to management-bus settings takes effect at the next bus-idle moment. -/
  | mbConfigApply (b : Nat)
  /-- VBUS_ENABLE, R174: A write enabling a virtual bus applies its configuration or refuses it. -/
  | vbusEnable (i : Iface) (v : Nat) (w : Word)
  /-- VBUS_STOP, R201: EN 0 stops the bus and discards its pending requests and undelivered frames. -/
  | vbusStop (i : Iface) (v : Nat) (w : Word)
  /-- VBUS_STOPPED, R201: STOPPED is set once the stop is complete. -/
  | vbusStopped (v : Nat)
  /-- VBUS_REQUEST, R179: A request reaches the arbiter, is checked, and gets its effective time. -/
  | vbusRequest (v : Nat)
  /-- SLOT_CLOSE, R180: At the close tick of a slot the arbiter decides the winner and models the attempt. -/
  | slotClose (v : Nat)
  /-- VBUS_DELIVERY, R186: A completed frame is delivered to routes, attachments and the sender. -/
  | vbusDelivery (v : Nat)
  /-- MEMBER_RECOVER, R189: A write of a member's RECOVER bit starts its bus-off recovery. -/
  | memberRecover (i : Iface) (v : Nat) (m : Nat) (w : Word)
  /-- MEMBER_RECOVERY_COMPLETE, R189: After 128 occurrences the member is error-active again. -/
  | memberRecoveryComplete (v : Nat) (m : Nat)
  /-- INJECTOR_WRITE, R190: A write of a fault-injector entry takes effect for later slots. -/
  | injectorWrite (i : Iface) (f : Nat) (w : Word)
  /-- VBUS_LIN_SCHEDULE_ENTRY, R192: A schedule entry of the Zalore commander falls due as a header slot. -/
  | vbusLinScheduleEntry (v : Nat)
  /-- VBUS_LIN_NO_RESPONSE, R194: A header without a held response occupies the bus for the timeout and counts LIN_NORESP. -/
  | vbusLinNoResponse (v : Nat)
  /-- VBUS_FALSE_WAKE_WINDOW_END, R197: A bus wake not valid by the end of FW_WIN is false and the bus sleeps. -/
  | vbusFalseWakeWindowEnd (v : Nat)
  /-- VBUS_SLEEP_REQUEST, R198: A write of VBn_SLEEP.REQ puts the bus to sleep or wakes it locally. -/
  | vbusSleepRequest (i : Iface) (v : Nat) (w : Word)
  /-- VBUS_IDLE_SLEEP, R198: IDLE_SLEEP ms, or 4 s on LIN, without traffic sends the bus to sleep. -/
  | vbusIdleSleep (v : Nat)
  /-- VBUS_MAXAWAKE, R199: The bus awake timer reaches MAXAWAKE and forces sleep. -/
  | vbusMaxawake (v : Nat)
  /-- VBUS_SUPP_CLEAR, R197: A write of 1 to VBn_EVT.SUPP ends suppression and clears FW_CNT. -/
  | vbusSuppClear (i : Iface) (v : Nat) (w : Word)
  /-- LOAD_WINDOW_END, R185: The end of a load window updates VBn_LOAD.LOAD. -/
  | loadWindowEnd (v : Nat)
  /-- NTSCF_RECEIVE, R205: An NTSCF frame matching an attachment is unpacked into requests. -/
  | ntscfReceive (p : Nat)
  /-- ABORT, R208: An expander ABORT removes pending requests of its member and answers ABORT_ACK. -/
  | abortReq (v : Nat)
  /-- WAKE_REQ, R208: An expander WAKE_REQ is offered to the bus wake rule. -/
  | wakeReq (v : Nat)
  /-- TABLE_STAGE_WRITE, R249: A write of a non-zero word of a multi-word entry goes to the interface's staging copy. -/
  | tableStageWrite (i : Iface) (a : Nat) (w : Word)
  /-- TABLE_COMMIT, R249: A write of word 0 commits a table entry with its staged words, or refuses it. -/
  | tableCommit (i : Iface) (a : Nat) (w : Word)
  /-- OWNERSHIP_WRITE, R216: A write of an ownership entry is applied or refused with OWN_ERR. -/
  | ownershipWrite (i : Iface) (a : Nat) (w : Word)
  /-- WALKER_VISIT, R236: The station walker visits a bucket and removes aged entries. -/
  | walkerVisit (b : Nat)
  /-- STA_READ, R234: CORE_STACMD read by key fills the station data registers. -/
  | staRead (i : Iface) (w : Word)
  /-- STA_INSERT, R234: CORE_STACMD insert or replace adds a station entry. -/
  | staInsert (i : Iface) (w : Word)
  /-- STA_DELETE, R234: CORE_STACMD delete removes a station entry. -/
  | staDelete (i : Iface) (w : Word)
  /-- STA_FLUSH_TENANT, R234: CORE_STACMD flush removes the tenant's entries. -/
  | staFlushTenant (i : Iface) (w : Word)
  /-- STA_FLUSH_TENANT_DEST, R234: CORE_STACMD flush removes the tenant's entries with one DEST. -/
  | staFlushTenantDest (i : Iface) (w : Word)
  /-- STA_CMD_COMPLETE, R234: A station command completes and BUSY clears with its RESULT. -/
  | staCmdComplete
  /-- LPM_ADD, R246: CORE_LPMCMD add or replace installs a prefix. -/
  | lpmAdd (i : Iface) (w : Word)
  /-- LPM_DELETE, R246: CORE_LPMCMD delete removes a prefix. -/
  | lpmDelete (i : Iface) (w : Word)
  /-- LPM_LOOKUP, R246: CORE_LPMCMD longest-match lookup returns a leaf. -/
  | lpmLookup (i : Iface) (w : Word)
  /-- LPM_EXACT_READ, R246: CORE_LPMCMD exact read returns a prefix's leaf. -/
  | lpmExactRead (i : Iface) (w : Word)
  /-- LPM_CMD_COMPLETE, R246: An LPM command completes atomically and BUSY clears. -/
  | lpmCmdComplete
  /-- FENCE_REQUEST, R250: A write of CORE_TBLFENCE.REQ clears DONE and starts a fence. -/
  | fenceRequest (i : Iface) (w : Word)
  /-- FENCE_DONE, R250: Everything begun before the fence has completed and DONE is set. -/
  | fenceDone
  /-- SPILL_FRAME, R260: A spilling panel moves a victim frame into the spill pool. -/
  | spillFrame (p : Nat)
  /-- SPILL_WRITE_COMPLETE, R261: A frame's spill write completes and its fast cells are freed. -/
  | spillWriteComplete (p : Nat)
  /-- RECALL_FRAME, R262: A short fast prefix makes the panel recall the oldest spilled frame. -/
  | recallFrame (p : Nat)
  /-- RECALL_COMPLETE, R263: A recall completes and the frame becomes eligible. -/
  | recallComplete (p : Nat) (bad : Bool)
  /-- SPILL_CELLS_FREED, R265: Deep cells of a stopped port's spilled frames become free. -/
  | spillCellsFreed
  /-- LAG_MEMBER_LEAVE, R271: A member leaving the active set has its slots reassigned. -/
  | lagMemberLeave (a : Nat) (i : Nat)
  /-- LAG_SLOT_MOVE, R271: A slot moves to a joining member when nothing it carried is in flight. -/
  | lagSlotMove (a : Nat)
  /-- SURVEY_RECORD, R278: A survey record is written into its ring half, or dropped. -/
  | surveyRecord (p : Nat)
  /-- WORK_ITEM_DISPATCH, R290: A work item joins its engine's input queue, or is discarded as full. -/
  | workItemDispatch
  /-- WORK_ITEM_START, R294: The engine takes the next work item and starts it at ENTRY. -/
  | workItemStart (e : Nat)
  /-- PROGRAM_COMMIT, R286: A commit of a program entry is applied or refused. -/
  | programCommit (i : Iface) (p : Nat) (w : Word)
  /-- IMEM_WRITE, R288: A host write into instruction memory is applied or ignored. -/
  | imemWrite (i : Iface) (e : Nat) (k : Nat) (w : Word)
  /-- STITCH_QUEUE_COMMIT, R301: A commit of a stitch queue entry empties it, or is refused. -/
  | stitchQueueCommit (i : Iface) (q : Nat) (w : Word)
  /-- ADD, R327: rd = ra + rb. -/
  | add (e : Nat)
  /-- SUB, R327: rd = ra - rb. -/
  | sub (e : Nat)
  /-- AND, R327: rd = ra & rb. -/
  | andW (e : Nat)
  /-- OR, R327: rd = ra | rb. -/
  | orW (e : Nat)
  /-- XOR, R327: rd = ra ^ rb. -/
  | xorW (e : Nat)
  /-- SLL, R327: Shift left by rb. -/
  | sll (e : Nat)
  /-- SRL, R327: Logical shift right by rb. -/
  | srl (e : Nat)
  /-- SRA, R327: Arithmetic shift right by rb. -/
  | sra (e : Nat)
  /-- SLLI, R327: Shift left by an immediate. -/
  | slli (e : Nat)
  /-- SRLI, R327: Logical shift right by an immediate. -/
  | srli (e : Nat)
  /-- SRAI, R327: Arithmetic shift right by an immediate. -/
  | srai (e : Nat)
  /-- MUL, R327: Low word of the product. -/
  | mul (e : Nat)
  /-- MULHU, R327: High word of the unsigned product. -/
  | mulhu (e : Nat)
  /-- MULHS, R327: High word of the signed product. -/
  | mulhs (e : Nat)
  /-- DIVU, R327: Unsigned division, raising DIVZERO on zero. -/
  | divu (e : Nat)
  /-- REMU, R327: Unsigned remainder, raising DIVZERO on zero. -/
  | remu (e : Nat)
  /-- MIN, R327: Signed minimum. -/
  | minW (e : Nat)
  /-- MAX, R327: Signed maximum. -/
  | maxW (e : Nat)
  /-- MINU, R327: Unsigned minimum. -/
  | minu (e : Nat)
  /-- MAXU, R327: Unsigned maximum. -/
  | maxu (e : Nat)
  /-- CMP, R327: Compare and set Z, N, C, V. -/
  | cmp (e : Nat)
  /-- TST, R327: AND and set Z and N. -/
  | tst (e : Nat)
  /-- BSWAP, R327: Reverse the octets of ra. -/
  | bswap (e : Nat)
  /-- CLZ, R327: Count leading zeros. -/
  | clz (e : Nat)
  /-- MOVF, R327: Copy the flags to rd. -/
  | movf (e : Nat)
  /-- SETF, R327: Set the flags from ra. -/
  | setf (e : Nat)
  /-- ADDS, R327: Saturating signed add, setting Q on saturation. -/
  | adds (e : Nat)
  /-- SUBS, R327: Saturating signed subtract, setting Q on saturation. -/
  | subs (e : Nat)
  /-- ADDI, R328: Add a sign-extended immediate. -/
  | addi (e : Nat)
  /-- ANDI, R328: AND with a zero-extended immediate. -/
  | andi (e : Nat)
  /-- ORI, R328: OR with a zero-extended immediate. -/
  | ori (e : Nat)
  /-- XORI, R328: XOR with a zero-extended immediate. -/
  | xori (e : Nat)
  /-- LUI, R328: Load the upper immediate. -/
  | lui (e : Nat)
  /-- CMPI, R328: Compare with an immediate. -/
  | cmpi (e : Nat)
  /-- LDW, R328: Load a word. -/
  | ldw (e : Nat)
  /-- LDH, R328: Load a zero-extended halfword. -/
  | ldh (e : Nat)
  /-- LDHS, R328: Load a sign-extended halfword. -/
  | ldhs (e : Nat)
  /-- LDB, R328: Load a zero-extended byte. -/
  | ldb (e : Nat)
  /-- LDBS, R328: Load a sign-extended byte. -/
  | ldbs (e : Nat)
  /-- STW, R328: Store a word. -/
  | stw (e : Nat)
  /-- STH, R328: Store a halfword. -/
  | sth (e : Nat)
  /-- STB, R328: Store a byte. -/
  | stb (e : Nat)
  /-- BC, R329: Branch when the condition holds. -/
  | bc (e : Nat)
  /-- JAL, R329: Jump and link. -/
  | jal (e : Nat)
  /-- JALR, R329: Jump to a register and link. -/
  | jalr (e : Nat)
  /-- SIGX, R331: Extract a signal of 1 to 32 bits. -/
  | sigx (e : Nat)
  /-- SIGI, R331: Insert a signal of 1 to 32 bits. -/
  | sigi (e : Nat)
  /-- SCALE, R332: Multiply, shift and saturate. -/
  | scale (e : Nat)
  /-- CTR_INCREMENT, R333: CTR with fn 0 advances a rolling counter. -/
  | ctrIncrement (e : Nat)
  /-- CTR_DELTA, R333: CTR with fn 1 computes a rolling-counter delta. -/
  | ctrDelta (e : Nat)
  /-- CRC, R334: Advance a running CRC over memory. -/
  | crc (e : Nat)
  /-- AMOADD, R335: Atomic add to a word. -/
  | amoadd (e : Nat)
  /-- AMOSWAP, R335: Atomic swap of a word. -/
  | amoswap (e : Nat)
  /-- AMOMAXU, R335: Atomic unsigned maximum of a word. -/
  | amomaxu (e : Nat)
  /-- TIME, R337: Read tenant, system-datum-0 or Meridian time into a register pair. -/
  | timeRead (e : Nat)
  /-- QOP_GET, R338: Get an item from a stitch queue. -/
  | qopGet (e : Nat)
  /-- QOP_PUT, R338: Put an item into a stitch queue. -/
  | qopPut (e : Nat)
  /-- QOP_MARK, R338: Mark the read position of a stitch queue. -/
  | qopMark (e : Nat)
  /-- QOP_REWIND, R338: Rewind a stitch queue to its mark. -/
  | qopRewind (e : Nat)
  /-- QOP_RELEASE, R338: Release every item read so far. -/
  | qopRelease (e : Nat)
  /-- QOP_FILL, R338: Read the FILL word of a stitch queue. -/
  | qopFill (e : Nat)
  /-- RLKP, R339: Route lookup for a source and identifier. -/
  | rlkp (e : Nat)
  /-- SLKP, R340: Station lookup for a VID and MAC. -/
  | slkp (e : Nat)
  /-- FRSH_READ, R341: Read a freshness entry. -/
  | frshRead (e : Nat)
  /-- FRSH_RAISE, R341: Raise a freshness entry, or report STALE. -/
  | frshRaise (e : Nat)
  /-- FRSH_INCREMENT, R341: Increment a freshness entry. -/
  | frshIncrement (e : Nat)
  /-- CIPH, R342: Send a cipher request and stall for its status. -/
  | ciph (e : Nat)
  /-- EMIT, R347: Stage an emit header and data. -/
  | emit (e : Nat)
  /-- END, R295: End the work item and release its staged emits. -/
  | endItem (e : Nat)
  /-- DROP, R295: End the work item and discard it with reason 0 or 1. -/
  | dropItem (e : Nat)
  /-- NOTIFY, R347: Write a notify completion record if a credit is held. -/
  | notify (e : Nat)
  /-- STALL_END, R324: The awaited lookup, freshness, cipher, heap or queue event arrives and the stalled instruction completes. -/
  | stallEnd (e : Nat)
  /-- STALL_LIMIT_EXPIRY, R324: A stall exceeding STALL_LIMIT raises STALL and abandons its operation. -/
  | stallLimitExpiry (e : Nat) (reached : Bool)
  /-- HOST_QUEUE_GET, R305: A host read of GET takes an item into the interface's snapshot. -/
  | hostQueueGet (i : Iface) (q : Nat)
  /-- HOST_QUEUE_PUT, R305: A host write of PUT puts the staged item. -/
  | hostQueuePut (i : Iface) (q : Nat) (w : Word)
  /-- HOST_QUEUE_MARK, R305: CTRL 1 marks the host queue. -/
  | hostQueueMark (i : Iface) (q : Nat)
  /-- HOST_QUEUE_REWIND, R305: CTRL 2 rewinds the host queue. -/
  | hostQueueRewind (i : Iface) (q : Nat)
  /-- HOST_QUEUE_RELEASE, R305: CTRL 3 releases the host queue. -/
  | hostQueueRelease (i : Iface) (q : Nat)
  /-- COMPLETION_READ, R310: A read of PANEL_CQ0 removes the oldest completion record and returns its credit. -/
  | completionRead (i : Iface)
  /-- FRESHNESS_HOST_WRITE, R307: A host write of a freshness entry sets VALUE after engine operations arriving with it. -/
  | freshnessHostWrite (i : Iface) (f : Nat) (w : Word)
  /-- BOBBIN_COMMIT, R349: A commit of a bobbin entry is applied or refused with CFG_ERR. -/
  | bobbinCommit (i : Iface) (b : Nat) (w : Word)
  /-- WIND_FRAME, R355: A wind frame is checked and wound, ignored as duplicate or gap, or discarded. -/
  | windFrame
  /-- WIND_WRITE_COMPLETE, R358: Wound records are written to the stack and become stageable. -/
  | windWriteComplete (die : Nat)
  /-- BOBBIN_START, R359: START puts a stopped bobbin into RUNNING. -/
  | bobbinStart (b : Nat)
  /-- BOBBIN_START_AT, R359: START_AT starts a bobbin with SHIFT aligned to T. -/
  | bobbinStartAt (b : Nat)
  /-- BOBBIN_PAUSE, R359: PAUSE stops releases at the present view. -/
  | bobbinPause (b : Nat)
  /-- BOBBIN_RESUME, R359: RESUME advances SHIFT by the paused time and runs again. -/
  | bobbinResume (b : Nat)
  /-- BOBBIN_STOP, R359: STOP frees staged cells and returns the position. -/
  | bobbinStop (b : Nat)
  /-- BOBBIN_FLUSH, R359: FLUSH empties the ring and resets its sequence state. -/
  | bobbinFlush (b : Nat)
  /-- STAGE_RECORD, R361: The stager takes the next record at its lead, eliminating hem duplicates and jumping for loops. -/
  | stageRecord (b : Nat)
  /-- BOBBIN_RELEASE, R363: A staged record is released at its tick as an item. -/
  | bobbinRelease (b : Nat)
  /-- UNWIND_FRAME, R371: A capture bobbin sends an unwind frame when full or after 100 us, retrying 1 us later if refused. -/
  | unwindFrame (b : Nat)
  /-- CIPHER_RESULT, R377: A cipher lane finishes a request and returns its status and output. -/
  | cipherResult (n : Nat)
  /-- LANE_ALARM, R397: A glitch, voltage excursion or pace anomaly resets a cipher lane. -/
  | laneAlarm (n : Nat) (cause : Nat)
  /-- LANE_RESET_COMPLETE, R397: The lane returns to service after its reset. -/
  | laneResetComplete (n : Nat)
  /-- LANE_ENABLE_WRITE, R398: A write of CIPH_LANEn.EN 1 returns a disabled lane and clears ALM_DIS. -/
  | laneEnableWrite (i : Iface) (n : Nat) (w : Word)
  /-- GLOBAL_TAMPER, R399: A global tamper alarm erases the key store and moves the node to SAFE. -/
  | globalTamper (cause : Nat)
  /-- PROOF_MISMATCH, R396: A proof unit's two copies disagree and nothing is released. -/
  | proofMismatch (u : Nat)
  /-- KEY_UPDATE_SUBMIT, R389: A key-update message is submitted through KUMCMD or the dictionary and queued. -/
  | keyUpdateSubmit (i : Iface) (w : Word) (octets : List Byte)
  /-- KEY_UPDATE_PROCESS, R391: A key-update message is judged and, if accepted, applied through blob, counter and store commits. -/
  | keyUpdateProcess (persistOk : Bool)
  /-- SEAM_ENABLE, R412: A write of SEAM_CTRL.EN starts or stops Seam bring-up. -/
  | seamEnable (i : Iface) (w : Word)
  /-- SEAM_RESTART, R412: SEAM_CMD.RESTART returns the Seam to TRAIN. -/
  | seamRestart (i : Iface)
  /-- SEAM_TRAINED, R412: Every Seam lane is trained and the Seam enters ALIGN. -/
  | seamTrained
  /-- ALIGNMENT_MARKER, R407: A Seam lane receives, or misses, an alignment marker and moves its lock state. -/
  | alignmentMarker (k : Nat) (octets : List Byte) (bip : Bool)
  /-- GROUP_ALIGNED, R408: All eight lanes of a group lock within the skew limit. -/
  | groupAligned (g : Nat) (skew : Nat)
  /-- ALIGN_TIMEOUT, R412: 10 ms without alignment returns the Seam to TRAIN. -/
  | alignTimeout
  /-- SEAM_BLOCK, R404: A Seam block is received, opening, continuing or ending a packet, or is invalid. -/
  | seamBlock (g : Nat) (octets : List Byte) (bad : Bool)
  /-- SEAM_HELLO, R413: A HELLO is received; the peer is accepted with key agreement, or rejected. -/
  | seamHello (uid : List Byte) (node : Nat) (ident : List Byte) (sig : Bool)
  /-- MEASURE_COMPLETE, R414: Sixteen PROBE pairs complete and SEAM_DIFF is set. -/
  | measureComplete (probes : List (Int × Int × Int × Int))
  /-- HEARTBEAT_SEND, R415: Each 1 us a heartbeat is sent on each group. -/
  | heartbeatSend
  /-- HEARTBEAT_RECEIVE, R415: A valid heartbeat updates the twin's port and authority view. -/
  | heartbeatReceive (g : Nat) (body : List Byte) (ok : Bool)
  /-- SEAM_LOSS, R415: 7 us without a heartbeat, or lost alignment, declares the Seam lost. -/
  | seamLoss
  /-- MIRROR_PACKET, R411: A sequenced mirror packet is accepted and its records applied, or discarded. -/
  | mirrorPacket (octets : List Byte) (ok : Bool)
  /-- MIRROR_RETRANSMIT, R411: 20 us without ACK progress resends from the oldest unacknowledged packet. -/
  | mirrorRetransmit
  /-- EPOCH_DIFF_CHECK, R421: 100 ms after an EPOCH record differs, a standing difference sets EPOCH_DIFF. -/
  | epochDiffCheck (x : Nat)
  /-- TXN_REQUEST, R423: Twin A receives a forwarded write and sends PREPARE. -/
  | txnRequest (pdu : List Byte)
  /-- TXN_PREPARE, R423: Twin B checks a prepared write and returns VOTE. -/
  | txnPrepare (num : Nat) (pdu : List Byte)
  /-- TXN_VOTE, R423: Twin A applies and commits on an accepting vote, or aborts. -/
  | txnVote (num : Nat) (status : Nat)
  /-- TXN_COMMIT, R423: Twin B applies a committed write. -/
  | txnCommit (num : Nat)
  /-- TXN_ABORT, R423: Twin B drops an aborted write. -/
  | txnAbort (num : Nat)
  /-- TXN_TIMEOUT, R423: Twin A aborts a transaction not committed within 200 us. -/
  | txnTimeout
  /-- SEAM_DATA_PACKET, R426: A received data packet becomes an item queued on the named port. -/
  | seamDataPacket
  /-- TWIN_STATUS_SEND, R470: Every 1 ms a TWIN_STATUS frame goes on MB0 and MB1. -/
  | twinStatusSend
  /-- TWIN_STATUS, R470: A TWIN_STATUS frame from the twin is checked and makes the twin heard. -/
  | twinStatus (node : Nat) (body : List Byte) (ok : Bool)
  /-- TWIN_SILENCE, R432: 5 ms without a twin status reclassifies the twin as down. -/
  | twinSilence
  /-- TAKEOVER, R435: A takeover request while TWIN_DOWN gives twin B configuration authority. -/
  | takeover (reg : Bool)
  /-- AUTO_TAKEOVER, R435: 5 ms after TWIN_DOWN with AUTO_TAKEOVER, twin B takes over. -/
  | autoTakeover
  /-- RECONCILE_COMPLETE, R436: Reconciliation completes and the Seam becomes PAIRED. -/
  | reconcileComplete (writes : List (List Byte)) (diverged : Bool) (both : Bool)
  /-- OPEN, R459: An OPEN request allocates a session with a signed key exchange, or is refused. -/
  | openSession
  /-- PROVE, R460: A PROVE signature authenticates the session role, or closes the session. -/
  | proveSession
  /-- PROVE_TIMEOUT, R460: No PROVE within 1 s closes a session. -/
  | proveTimeout
  /-- CLOSE, R461: A CLOSE request closes the session. -/
  | closeSession
  /-- READ, R451: A READ returns an object value or a DOMAIN snapshot segment. -/
  | oapRead
  /-- WRITE, R452: A WRITE applies a value, record segment or message segment. -/
  | oapWrite (twin : Option Nat)
  /-- OAP_REQUEST_RECEIVE, R444: An OAP PDU arrives and is checked, sequenced and queued. -/
  | oapRequestReceive (a : OapIn)
  /-- HELD_REQUEST_TIMEOUT, R463: A request held 100 ms for its turn is discarded. -/
  | heldRequestTimeout
  /-- SESSION_IDLE_TIMEOUT, R461: SESSION_IDLE seconds without a valid request close the session. -/
  | sessionIdleTimeout
  /-- SNAPSHOT_TIMEOUT, R453: 1 s without a read discards a session's DOMAIN snapshot. -/
  | snapshotTimeout
  /-- ASSEMBLY_TIMEOUT, R454: 1 s without a segment discards a message assembly. -/
  | assemblyTimeout
  /-- OAP_RELAY, R456: A request for another node, or its response, is relayed along the tree. -/
  | oapRelay (n : Nat) (addr : List Byte) (tag : List Byte) (octets : List Byte)
  /-- RELAY_ENTRY_EXPIRY, R456: A relay-table entry expires after 1 s. -/
  | relayEntryExpiry
  /-- BROADCAST_EXECUTE, R469: A broadcast READ executes after its node-number stagger. -/
  | broadcastExecute
  /-- STATE_REQ, R447: STATE_REQ moves the node between CONFIG and RUN. -/
  | stateReq (v : Nat)
  /-- DATA_STOP, R468: DATA_STOP stops every port, channel, bus and bobbin. -/
  | dataStop
  /-- TENANT_STOP, R468: A tenant's STOP stops the resources bound to that tenant. -/
  | tenantStop (t : Nat)
  /-- MAILBOX_SUBMIT, R498: A SUBMIT write passes the mailbox request to the Thimble. -/
  | mailboxSubmit (i : Iface) (w : Word)
  /-- MAILBOX_RESPONSE, R498: The response reaches the mailbox and BUSY clears. -/
  | mailboxResponse (k : Nat)
  /-- MAILBOX_RELEASE, R498: RELEASE clears RESP and NORESP. -/
  | mailboxRelease (i : Iface) (w : Word)
  /-- REGISTER_WRITE, R478: A write to a register with no row of its own sets its fields under the type rules. -/
  | registerWrite (i : Iface) (a : Nat) (be : Nat) (flaw : Nat) (w : Word)
  /-- ALIAS_WRITE, R482: An alias write changes one bit of a register as one indivisible write. -/
  | aliasWrite (i : Iface) (b : Nat) (a : Nat) (w : Word)
  /-- LOCKALL, R480: SYS_CTRL.LOCKALL sets every LOCK at once. -/
  | lockall (i : Iface) (w : Word)
  /-- IRQ_REARM, R484: A write of SYS_IRQ_REARM sends another message for a pending source. -/
  | irqRearm (i : Iface) (w : Word)
  /-- SPI_TRANSACTION_END, R497: SPI_CS_N rises and the transaction ends cleanly or with a framing error. -/
  | spiTransactionEnd (n : Nat) (cmd : Nat) (whole : Bool)
  /-- SPI_READ_WORD, R495: An SPI read word's access completes and its ready byte and data are sent. -/
  | spiReadWord (i : Iface) (a : Nat) (bad : Bool)
  /-- FUNCTION_LEVEL_RESET, R485: A PCIe FLR resets the punt queues, PCIe mailbox and PCIe interface state. -/
  | functionLevelReset
  /-- PCIE_PERST, R629: PCIE_PERST_N low holds the link down and resets the PCIe interface. -/
  | pciePerst (low : Bool)
  /-- PUNT_ITEM, R487: An item punted to a punt queue is admitted or discarded. -/
  | puntItem (q : Nat)
  /-- PUNT_SLOT_WRITE, R488: When the up ring has room, the Zalore writes the next slot and advances UP_WR. -/
  | puntSlotWrite (q : Nat)
  /-- PUNT_TIMEOUT, R489: The oldest unread slot waiting IRQ_TMO us sets PEND. -/
  | puntTimeout (q : Nat)
  /-- PUNT_CONFIG_WRITE, R486: A write of punt queue word 0 changes its configuration or VALID. -/
  | puntConfigWrite (i : Iface) (q : Nat) (w : Word)
  /-- UP_RD_WRITE, R489: A host write of UP_RD returns up-ring slots. -/
  | upRdWrite (i : Iface) (q : Nat) (w : Word)
  /-- DN_WR_WRITE, R490: A host write of DN_WR offers down-ring slots. -/
  | dnWrWrite (i : Iface) (q : Nat) (w : Word)
  /-- INJECT_SLOT, R491: The Zalore reads an injection slot and judges it into an item or a discard. -/
  | injectSlot (q : Nat) (slot : List Byte) (bad : Bool)
  /-- BRIDGE_OPERATION, R502: A bridge operation is sent to its expander or the twin. -/
  | bridgeOperation (i : Iface) (write : Bool) (a : Nat) (ws : List Word) (n : Nat)
  /-- BRIDGE_RESPONSE, R501: A bridge response is accepted and completes its operation. -/
  | bridgeResponse (twin : Option (List Byte))
  /-- BRIDGE_TIMEOUT, R504: TMO without a response retries or fails the operation. -/
  | bridgeTimeout (k : Nat)
  /-- BRIDGE_REQUEST_RECEIVE, R505: A bridge request from the twin is performed and answered. -/
  | bridgeRequestReceive (octets : List Byte)
  /-- PREFETCH_EXPIRY, R503: The prefetch buffer is discarded 100 us after its fetch. -/
  | prefetchExpiry (k : Nat)
  /-- LOCKSTEP_FAILURE, R507: A lockstep mismatch of the Thimble cores enters SAFE. -/
  | lockstepFailure
  /-- THERMAL_SAMPLE, R508: A thermal diode is sampled, raising a warning or low-temperature tamper. -/
  | thermalSample (n : Nat) (temp : Nat)
  /-- THERMAL_CRITICAL, R507: A reading at CRIT for 1 ms enters SAFE. -/
  | thermalCritical (n : Nat)
  /-- PMBUS_POLL, R510: Each 10 ms a regulator is polled over PMBus. -/
  | pmbusPoll (r : Nat) (res : Option (Nat × Nat × Nat × Nat))
  /-- LOG_WRITE, R515: A queued event-log record is written to MRAM. -/
  | logWrite
  /-- ANCHOR_UPDATE, R520: An anchored-settings message programs a new OTP generation. -/
  | anchorUpdate (octets : List Byte)
  /-- SAVE, R523: SAVE starts a settings save. -/
  | saveStart
  /-- SAVE_DELAY_EXPIRY, R523: SAVE_DELAY after a change, a settings save starts. -/
  | saveDelayExpiry
  /-- SAVE_COMPLETE, R523: The snapshot's commit word is written and SAVED is set. -/
  | saveComplete
  /-- BLOCK_HEADER, R527: A block header is staged for the session. -/
  | blockHeader (session : Nat) (octets : List Byte)
  /-- BLOCK, R528: A submitted update block is judged and committed to the standby bank. -/
  | submitBlock (session : Nat) (octets : List Byte)
  /-- IMG_STORE_BLOCK, R529: THIM_IMGCTL OP 1 stores the staged block. -/
  | imgStoreBlock (i : Iface) (w : Word)
  /-- ACTIVATE, R533: ACTIVATE 1 or 2 (or IMGCTL OP 2) selects the standby bank in trial. -/
  | activateImage (v : Nat) (reg : Bool) (twin : Option Nat)
  /-- ACTIVATE_SKIP_TWIN, R533: ACTIVATE 3 (or IMGCTL OP 4) activates without the twin check while the twin is down. -/
  | activateSkipTwin (reg : Bool)
  /-- ACTIVATION_RESET, R533: 10 ms after ACTIVATE 2 the Zalore performs RST_N. -/
  | activationReset
  /-- CONFIRM, R535: CONFIRM writes a CONFIRMED record and burns the security floor. -/
  | confirmImage
  /-- AUTO_CONFIRM, R535: AUTO_CONFIRM seconds after first reaching RUN confirms the trial image. -/
  | autoConfirm
  /-- DISCARD, R536: DISCARD (or IMGCTL OP 3) clears the standby bank. -/
  | discardImage (reg : Bool)
  /-- REVOKE_KEYS, R536: REVOKE_KEYS burns thermometer counter 1. -/
  | revokeKeys (k : Nat)
  /-- THREAD_FORWARD, R530: A committed block is forwarded to the downstream node. -/
  | threadForward (resp : Option Nat)
  /-- THREAD_REOPEN, R531: A failed downstream session is reopened and resumed at NEXT_BLOCK. -/
  | threadReopen (next : Nat) (same : Bool)
  /-- EXPANDER_PUSH, R534: After confirmed boot, part 5 is sent to each valid attachment. -/
  | expanderPush
  /-- POWER_REQ_ACTIVE, R541: A request for ACTIVE leaves DROWSY or wakes from STANDBY. -/
  | powerReqActive (src : Option (Iface × Word))
  /-- POWER_REQ_DROWSY, R542: A request for DROWSY enters it. -/
  | powerReqDrowsy (src : Option (Iface × Word))
  /-- POWER_REQ_STANDBY, R543: A request for STANDBY runs the entry sequence. -/
  | powerReqStandby (src : Option (Iface × Word)) (test : Bool)
  /-- POWER_REQ_SLEEP, R545: A request for SLEEP runs the entry sequence and powers off. -/
  | powerReqSleep (src : Option (Iface × Word)) (test : Bool)
  /-- STANDBY_ENTRY_COMPLETE, R543: The switched domains turn off and the power state becomes STANDBY. -/
  | standbyEntryComplete
  /-- NETWORK_WAKE, R546: A wake on MB0, MB1 or a loom source starts exit. -/
  | networkWake (c : Nat)
  /-- PIN_WAKE, R546: WAKE high for 10 us starts exit and ends suppression. -/
  | pinWake (high : Bool)
  /-- TWIN_SIDEBAND_WAKE, R546: The SL0 sideband pattern for 80 us starts exit. -/
  | twinSidebandWake
  /-- WAKE_TIMER_EXPIRY, R546: SYS_PWR_TIMER expiry in STANDBY starts exit. -/
  | wakeTimerExpiry
  /-- STANDBY_EXIT_READY, R548: Domains and memories are back and READY is set. -/
  | standbyExitReady
  /-- DEVICE_FALSE_WAKE, R550: A network wake not valid within FW_WIN re-enters the former state. -/
  | deviceFalseWake
  /-- SUPP_CLR, R550: SUPP_CLR or WAKE_CLEAR 2 ends wake suppression. -/
  | suppClr (src : Option (Iface × Word))
  /-- WAKE_CLEAR, R565: WAKE_CLEAR 1 clears WAKE_CAUSE. -/
  | wakeClear
  /-- LIFECYCLE_REQ, R558: A signed lifecycle message erases and advances the lifecycle state. -/
  | lifecycleReq (octets : List Byte)
  /-- OBS_REQ, R561: OBS_REQ raises or lowers the observation level. -/
  | obsReq (level : Nat) (role : Nat)
  /-- JTAG_INSTRUCTION, R563: A JTAG instruction is loaded and selects its function or BYPASS. -/
  | jtagInstruction (code : Nat)
  /-- LEAK_TICK, R569: Each LEAK ms a class's leaky bucket falls by one. -/
  | leakTick (c : Nat)
  /-- SCRUB_ACCESS, R576: The scrubber reads the next code word of a class. -/
  | scrubAccess (c : Nat) (a : Nat) (upset : List Nat)
  /-- MERGE_FLUSH, R575: A merge-buffer entry is flushed to its memory. -/
  | mergeFlush (c : Nat)
  /-- ECC_FLIP_ARM, R577: A write of ECC_FLIP arms the next write to corrupt bits. -/
  | eccFlipArm (i : Iface) (w : Word)
  /-- FIFO_PARITY_ERROR, R578: A crossing word with bad parity is delivered poison-tagged. -/
  | fifoParityError (island : Nat)
  /-- SNAPSHOT_REQUEST, R583: REQ or SNAPSHOT_CMD starts a counter snapshot. -/
  | snapshotRequest (i : Iface) (w : Word)
  /-- SNAPSHOT_PERIOD, R583: A periodic snapshot starts or is skipped. -/
  | snapshotPeriod
  /-- SNAPSHOT_COMPLETE, R583: The copy completes and BANK and SNAPSEQ advance. -/
  | snapshotComplete
  /-- TRACE_RECORD, R592: A trace record enters the die's trace queue, or is dropped. -/
  | traceRecord (d : Nat)
  /-- TRACE_FRAME, R595: A trace frame leaves when full or after 50 us. -/
  | traceFrame (d : Nat)
  /-- OL_LOCK_CHANGE, R594: An observation lane receiver changes lock state. -/
  | olLockChange (d : Nat) (st : Nat)
  /-- FAULT_REPORT, R597: A fault report opens or joins a coalescer entry. -/
  | faultReport (suspect : Nat) (reporter : Nat) (sev : Nat) (code : Nat)
  /-- COALESCER_CLOSE, R597: An entry closes after QUIET or WIN_MAX and writes one record. -/
  | coalescerClose (k : Nat)
  /-- JOIN_HELLO_SEND, R611: A HELLO is sent after its back-off. -/
  | joinHelloSend (n : Nat)
  /-- JOIN_HELLO, R611: A received HELLO updates the neighbour and the tree vector. -/
  | joinHello (n : Nat) (octets : List Byte)
  /-- NEIGHBOUR_LOSS, R611: 35 ms without a HELLO loses the neighbour. -/
  | neighbourLoss (n : Nat)
  /-- JOIN_RECORD_CREATE, R613: Once tree, time and Seam conditions hold, the node creates its record. -/
  | joinRecordCreate
  /-- JOIN_RECORDS, R613: A RECORDS frame is applied and forwarded or entered at the root. -/
  | joinRecords (n : Nat) (octets : List Byte)
  /-- JOIN_ACK, R610: An ACK advances a port's acknowledged sequence. -/
  | joinAck (n : Nat) (octets : List Byte)
  /-- JOIN_RESEND, R610: 2 ms without ACK progress resends unacknowledged frames. -/
  | joinResend (n : Nat)
  /-- JOIN_COMPLETE, R614: A COMPLETE frame is received and forwarded to the children. -/
  | joinComplete (n : Nat) (octets : List Byte)
  /-- ROOT_COMPLETION, R614: The root declares the system complete on the expected set, JOIN_WAIT or JOIN_QUIET. -/
  | rootCompletion
  /-- JOIN_LEAVE, R615: The node leaves JOINING as member, root, alone or orphan. -/
  | joinLeave
  /-- JOIN_REPORT, R618: A REPORT frame's records are applied as fault reports. -/
  | joinReport (n : Nat) (octets : List Byte)
  /-- REMOTE_FAULT_END, R118: When the port stops receiving remote fault, RFAULT clears and the port may transmit frames again. -/
  | remoteFaultEnd (n : Nat)
  /-- LPI_RECEIVE_CHANGE, R135: The link partner starts or stops sending LPI, and PORT_STATn.LPI_RX follows it. -/
  | lpiReceiveChange (n : Nat) (on : Bool)
  /-- RECOVERY_RESET_TIMEOUT, R428: The sequence-recovery reset timer of a handle runs out after RESET_TO and resets its recovery history. -/
  | recoveryResetTimeout (h : Nat)
  /-- GPTP_MESSAGE_SEND, R95: At each logSyncInterval, logPdelayReqInterval or logAnnounceInterval, a gPTP port sends its Sync with Follow_Up, Pdelay_Req or Announce. -/
  | gptpMessageSend (n : Nat) (kind : Nat)
  /-- BOBBIN_MIRROR_REPORT, R417: Every 1 ms while a bobbin is RUNNING, a BOBBIN record of its state is produced for mirroring to the twin. -/
  | bobbinMirrorReport (b : Nat)
  deriving DecidableEq, Repr

end Sys2Proof
end

