-- ==== Sys2Proof/Config.lean ====
section
/-! DEFINITION. What one part, or the standard a rule cites, fixes and the spec does not
state: the free values (constants without a body, so that nothing can evaluate them) and
the values of a blank part. -/

namespace Sys2Proof

/-- A fresh value that the spec leaves open, numbered by State.freeCtr: nothing constrains it (log entry 3). -/
opaque Config.free : Nat → Nat

/-- The voltage of monitor n at its report k, in mV: what the board supplies (R508; log entry 94). -/
opaque Config.volts : Nat → Nat → Nat

/-- Event code, octets 26–27 of an event-log record (R513), of the event a rule raises: the spec
gives the numbers in no rule (log entry 6). -/
opaque Config.eventCode : Nat → Nat

/-- Severity, octet 25 of a record, of the event a rule raises, where the rule gives none (log entry 6). -/
opaque Config.eventSeverity : Nat → Nat

/-- Octets 32–55 of the record of a rule's event, as one number, from the values the rule names: the spec gives their
places in no rule (log entry 6). -/
opaque Config.eventParams : Nat → List Nat → Nat

/-- SYS_ID.SILICON of the part (R475 table: reset "Trim"); DESIGN CHOICE 0, log entry 4. -/
def Config.silicon : Nat := 0

/-! The published standards the chapters cite are named, not laid down, by the spec: each is an
uninterpreted function of its inputs (log entry 8). -/

/-- Full 16-octet tag of CMAC (alg 0) or GMAC (alg 2): key length 256, key, nonce, data (R374). -/
opaque Config.mac : Nat → Bool → Nat → List Byte → List Byte → List Byte

/-- AEAD encryption, GCM (alg 1) or ChaCha20-Poly1305 (alg 3): ciphertext and 16-octet tag of key
length 256, key, nonce, additional data, plaintext (R374). -/
opaque Config.seal : Nat → Bool → Nat → List Byte → List Byte → List Byte → List Byte × List Byte

/-- AEAD decryption: plaintext and the tag expected, of key length 256, key, nonce, additional data,
ciphertext (R374). -/
opaque Config.unseal : Nat → Bool → Nat → List Byte → List Byte → List Byte → List Byte × List Byte

/-- SHA-384 digest, 48 octets (FIPS 180-4). -/
opaque Config.sha384 : List Byte → List Byte

/-- ECDSA P-384 verification: public key, message, signature (FIPS 186-5). -/
opaque Config.ecdsaOk : List Byte → List Byte → List Byte → Bool

/-- ML-DSA-65 verification: public key, message, signature (FIPS 204). -/
opaque Config.mldsaOk : List Byte → List Byte → List Byte → Bool

/-- The ephemeral point lies on the curve (SP 800-56A). -/
opaque Config.ecPointOk : List Byte → Bool

/-- First 16 octets of HMAC-SHA-384: key, message (R449). -/
opaque Config.hmac : List Byte → List Byte → List Byte

/-- Key n of HKDF-SHA-384 over the ECDH product of two ephemeral keys, given as their public points, under salt and info: 0
client to device, 1 device to client (R460). -/
opaque Config.sessionKey : Nat → List Byte → List Byte → List Byte → List Byte

/-- Octets that the device draws or computes for its part of an OPEN: its nonce, ephemeral key and signature, 208 octets
from the request's body with the first four octets of the response's, and the draw (R459). -/
opaque Config.openReply : List Byte → Nat → List Byte

/-- HKDF-SHA-384 key of the device identity key's ECDH product with a point, under salt and info (R388). -/
opaque Config.kdf : List Byte → List Byte → List Byte → Nat

/-- The device identity public key of the part with a UID, P-384 x then y (R401). -/
opaque Config.identityPub : List Byte → List Byte

/-- A snapshot's entries in another schema, converted with the settings-schema part of the running manifest: the part's form
is not given (R524). -/
opaque Config.convertSettings : List Byte → List (Nat × List Byte) → List (Nat × List Byte)

/-- AES key unwrap of a legacy blob under a 256-bit key: the integrity value and the key (R394). -/
opaque Config.unwrap : Nat → List Byte → Nat × Nat

/-- Value of a sampling or tagging shift register before its first step: kind 0 port sampling, 1 item
tagging, 2 instruction tagging, and its number (R276, R587, R589; log entry 11). -/
opaque Config.lfsrStart : Nat → Nat → Nat

/-- The Zalore uses external port configuration in place of the best master clock algorithm, and the slave port it then
has: R95 has it chosen per Zalore and gives no object for it (log entry 131). -/
opaque Config.gptpExternal : Option (Option Nat)

/-- The part of the own priority vector after priority1, which the spec does not give (R95; log entry 131). -/
opaque Config.gptpOwnRest : Nat

end Sys2Proof
end

