-- ==== Sys2Proof/Machine/Bits.lean ====
section
/-! DEFINITION. Bit fields, signed values, octet order and the sparse maps that hold
registers, memories and tables: sorted lists of the entries that differ from reset. -/

namespace Sys2Proof.Machine

/-- Number of bits of a field. -/
def Fld.width (f : Fld) : Nat := f.hi - f.lo + 1

/-- The field read as an unsigned integer (R7). -/
def getF (w : Word) (f : Fld) : Nat := (w.toNat >>> f.lo) % 2 ^ Fld.width f

/-- The word with the field replaced by v, taken modulo the field's width (R7). -/
def setF (w : Word) (f : Fld) (v : Nat) : Word :=
  BitVec.ofNat 32 (w.toNat % 2 ^ f.lo + 2 ^ f.lo * (v % 2 ^ Fld.width f)
    + 2 ^ (f.hi + 1) * (w.toNat / 2 ^ (f.hi + 1)))

/-- A one-bit field as a truth value. -/
def getB (w : Word) (f : Fld) : Bool := getF w f != 0

/-- 1 for true, 0 for false. -/
def bit (b : Bool) : Nat := if b then 1 else 0

/-- Bits hi down to lo of a number. -/
def bits (x hi lo : Nat) : Nat := (x >>> lo) % 2 ^ (hi - lo + 1)

/-- The two's-complement value of the low n bits of x (R7). -/
def sext (n x : Nat) : Int :=
  let y := x % 2 ^ n
  if y < 2 ^ (n - 1) then (y : Int) else (y : Int) - (2 : Int) ^ n

/-- An integer as an unsigned n-bit number. -/
def trunc (n : Nat) (x : Int) : Nat := (x % (2 : Int) ^ n).toNat

/-- Sum that stays at `top`. -/
def satAdd (a b top : Nat) : Nat := min (a + b) top

/-- Big-endian value of octets, first octet most significant (R10). -/
def beNat (l : List Byte) : Nat := l.foldl (fun a b => a * 256 + b.toNat) 0

/-- n octets of a value, most significant first (R10). -/
def natBe : Nat → Nat → List Byte
  | 0, _ => []
  | n + 1, v => BitVec.ofNat 8 (v / 256 ^ n) :: natBe n v

/-- Little-endian value of octets, first octet least significant (R9). -/
def leNat : List Byte → Nat
  | [] => 0
  | b :: t => b.toNat + 256 * leNat t

/-- n octets of a value, least significant first (R9). -/
def natLe : Nat → Nat → List Byte
  | 0, _ => []
  | n + 1, v => BitVec.ofNat 8 v :: natLe n (v / 256)

/-- n octets of l from offset k, 0 where l has none. -/
def slice (l : List Byte) (k n : Nat) : List Byte :=
  (List.range n).map (fun i => l.getD (k + i) 0)

/-- Octet k of l, 0 where l has none. -/
def oct (l : List Byte) (k : Nat) : Nat := (l.getD k 0).toNat

/-- Big-endian field of n octets at offset k. -/
def beAt (l : List Byte) (k n : Nat) : Nat := beNat (slice l k n)

/-- l with item i replaced; unchanged when it has no item i. -/
def setAt {α : Type} (l : List α) (i : Nat) (v : α) : List α := l.set i v

/-! ### Sparse maps -/

/-- The entry for k, or the default where none is listed. -/
def Sparse.get {α : Type} (d : Nat → α) : List (Nat × α) → Nat → α
  | [], k => d k
  | (j, v) :: t, k => if j = k then v else Sparse.get d t k

/-- The map without an entry for k. -/
def Sparse.erase {α : Type} (m : List (Nat × α)) (k : Nat) : List (Nat × α) :=
  m.filter (fun p => p.1 != k)

/-- The map with an entry put in its place in ascending order. -/
def Sparse.insert {α : Type} : List (Nat × α) → Nat → α → List (Nat × α)
  | [], k, v => [(k, v)]
  | (j, w) :: t, k, v => if k < j then (k, v) :: (j, w) :: t else (j, w) :: Sparse.insert t k v

/-- Write one entry and keep the canonical form: a value equal to the default is not listed. -/
def Sparse.set {α : Type} [DecidableEq α] (d : Nat → α) (m : List (Nat × α)) (k : Nat) (v : α) :
    List (Nat × α) :=
  if v = d k then Sparse.erase m k else Sparse.insert (Sparse.erase m k) k v

/-- The canonical form: keys strictly rising, and no entry equal to its default. -/
def Sparse.wf {α : Type} [DecidableEq α] (d : Nat → α) : List (Nat × α) → Bool
  | [] => true
  | (k, v) :: t => v != d k && t.all (fun p => k < p.1) && Sparse.wf d t

/-! ### Register descriptors -/

/-- The word at a belongs to this row of the address map. -/
def RegDesc.covers (d : RegDesc) (a : Nat) : Bool :=
  d.base ≤ a && (a - d.base) / d.s1 < d.c1 && (a - d.base) % d.s1 % d.s2 == 0 &&
    (a - d.base) % d.s1 / d.s2 < d.c2

/-- The word's value when every field holds its reset value. -/
def RegDesc.resetValue (d : RegDesc) : Word :=
  d.fields.foldl (fun w f => setF w f.fld f.reset) 0

/-- The bits of the fields of type t. -/
def RegDesc.mask (d : RegDesc) (t : FieldType) : Word :=
  d.fields.foldl (fun w f => if f.ty = t then setF w f.fld (2 ^ Fld.width f.fld - 1) else w) 0

/-- The fields of type t set to 0: what a read leaves of the RC fields (R12). -/
def RegDesc.cleared (d : RegDesc) (t : FieldType) (w : Word) : Word :=
  d.fields.foldl (fun w f => if f.ty = t then setF w f.fld 0 else w) w

end Sys2Proof.Machine
end

