-- ==== Sys2Proof/Machine/RegMap.lean ====
section
/-! DEFINITION. The register map: every register and table-window word that the
register tables of spec/ lay out (R474, R475), with its address, its fields, their
access types (R12) and their reset values. The names are the manual's. -/

namespace Sys2Proof.Machine

/-! ### SYS -/

def SYS_ID : Nat := 0x00000000
def SYS_ID_PART : Fld := ⟨31, 16⟩
def SYS_ID_SILICON : Fld := ⟨15, 8⟩
def SYS_CTRL : Nat := 0x00000004
def SYS_CTRL_LOCK : Fld := ⟨31, 31⟩
def SYS_CTRL_LOCKALL : Fld := ⟨30, 30⟩
def SYS_IRQ_STAT : Nat := 0x00000008
def SYS_IRQ_STAT_LEVEL : Fld := ⟨14, 0⟩
def SYS_IRQ_EN : Nat := 0x0000000C
def SYS_IRQ_EN_EN : Fld := ⟨14, 0⟩
def SYS_IRQ_REARM : Nat := 0x00000010
def SYS_IRQ_REARM_REARM : Fld := ⟨14, 0⟩
def SYS_HOSTERR : Nat := 0x00000014
def SYS_HOSTERR_IFACE : Fld := ⟨31, 30⟩
def SYS_HOSTERR_UNMAPPED : Fld := ⟨9, 9⟩
def SYS_HOSTERR_DMA : Fld := ⟨8, 8⟩
def SYS_HOSTERR_PUNT : Fld := ⟨7, 7⟩
def SYS_HOSTERR_POISON : Fld := ⟨6, 6⟩
def SYS_HOSTERR_PARTIAL : Fld := ⟨5, 5⟩
def SYS_HOSTERR_SPI_OVF : Fld := ⟨4, 4⟩
def SYS_HOSTERR_SPI_CMD : Fld := ⟨3, 3⟩
def SYS_HOSTERR_SPI_FRAME : Fld := ⟨2, 2⟩
def SYS_HOSTERR_ALIAS : Fld := ⟨1, 1⟩
def SYS_HOSTERR_LOCKED : Fld := ⟨0, 0⟩
def SYS_HOSTERR_ADDR : Nat := 0x00000018
def SYS_HOSTERR_ADDR_ADDR : Fld := ⟨31, 0⟩
def SYS_SPICNT : Nat := 0x0000001C
def SYS_SPICNT_FRAME : Fld := ⟨31, 16⟩
def SYS_SPICNT_CMD : Fld := ⟨15, 0⟩
def SYS_PCIID : Nat := 0x00000020
def SYS_PCIID_DEVICE : Fld := ⟨31, 16⟩
def SYS_PCIID_VENDOR : Fld := ⟨15, 0⟩
def SYS_SCRATCH : Nat := 0x00000024
def SYS_SCRATCH_DATA : Fld := ⟨31, 0⟩
def SYS_PWR_CTRL : Nat := 0x00000100
def SYS_PWR_CTRL_REQ : Fld := ⟨31, 30⟩
def SYS_PWR_CTRL_TEST : Fld := ⟨29, 29⟩
def SYS_PWR_CTRL_SUPP_CLR : Fld := ⟨28, 28⟩
def SYS_PWR_CTRL_REQ_V : Fld := ⟨27, 27⟩
def SYS_PWR_CTRL_DROWSY_IDLE : Fld := ⟨15, 0⟩
def SYS_PWR_STAT : Nat := 0x00000104
def SYS_PWR_STAT_STATE : Fld := ⟨31, 30⟩
def SYS_PWR_STAT_TRANS : Fld := ⟨29, 29⟩
def SYS_PWR_STAT_READY : Fld := ⟨28, 28⟩
def SYS_PWR_STAT_SUPP : Fld := ⟨27, 27⟩
def SYS_PWR_STAT_FILTER : Fld := ⟨26, 26⟩
def SYS_PWR_STAT_RESULT : Fld := ⟨25, 24⟩
def SYS_PWR_STAT_FW_CNT : Fld := ⟨23, 16⟩
def SYS_PWR_WAKE : Nat := 0x00000108
def SYS_PWR_WAKE_MB0 : Fld := ⟨31, 31⟩
def SYS_PWR_WAKE_MB1 : Fld := ⟨30, 30⟩
def SYS_PWR_WAKE_LOOM : Fld := ⟨29, 29⟩
def SYS_PWR_WAKE_PIN : Fld := ⟨28, 28⟩
def SYS_PWR_WAKE_TWIN : Fld := ⟨27, 27⟩
def SYS_PWR_WAKE_TIMER : Fld := ⟨26, 26⟩
def SYS_PWR_WAKE_TWIN_TX : Fld := ⟨25, 25⟩
def SYS_PWR_WAKE_FW_THR : Fld := ⟨15, 8⟩
def SYS_PWR_WAKE_FW_WIN : Fld := ⟨7, 0⟩
def SYS_PWR_LOOMSRC0 : Nat := 0x0000010C
def SYS_PWR_LOOMSRC0_WAKE_SRC : Fld := ⟨31, 0⟩
def SYS_PWR_LOOMSRC1 : Nat := 0x00000110
def SYS_PWR_LOOMSRC1_WAKE_SRC : Fld := ⟨31, 0⟩
def SYS_PWR_TIMER : Nat := 0x00000114
def SYS_PWR_TIMER_MS : Fld := ⟨31, 0⟩
def SYS_PWR_CAUSE : Nat := 0x00000118
def SYS_PWR_CAUSE_FIRST : Fld := ⟨31, 28⟩
def SYS_PWR_CAUSE_SRC : Fld := ⟨6, 0⟩
def SYS_PWR_DROWSYw (n : Nat) : Nat := 0x00000180 + 4 * n
def SYS_PWR_DROWSYw_PORTS : Fld := ⟨31, 0⟩
def SYS_LCS : Nat := 0x00000200
def SYS_LCS_STATE : Fld := ⟨31, 29⟩
def SYS_LCS_COMPLETED : Fld := ⟨28, 28⟩
def SYS_LCS_OBS : Fld := ⟨27, 26⟩
def SYS_LCS_OBS_CAP : Fld := ⟨25, 24⟩
def SYS_LCS_JTAG_FULL : Fld := ⟨23, 23⟩
def SYS_BOOT : Nat := 0x00000300
def SYS_BOOT_CAUSE : Fld := ⟨31, 30⟩
def SYS_BOOT_NID_SRC : Fld := ⟨29, 29⟩
def SYS_BOOT_PHASE : Fld := ⟨28, 26⟩
def SYS_BOOT_ORPHAN : Fld := ⟨25, 25⟩
def SYS_BOOT_ALONE : Fld := ⟨24, 24⟩
def SYS_BOOT_COMPLETE : Fld := ⟨23, 23⟩
def SYS_BOOT_TIME_UNLOCKED : Fld := ⟨22, 22⟩
def SYS_BOOT_SEAM_LATE : Fld := ⟨21, 21⟩
def SYS_BOOT_ROOT : Fld := ⟨20, 20⟩
def SYS_BOOT_DUP_SEEN : Fld := ⟨19, 19⟩
def SYS_BOOT_NODE : Fld := ⟨9, 0⟩
def SYS_JOINTREE : Nat := 0x00000304
def SYS_JOINTREE_ROOT : Fld := ⟨31, 22⟩
def SYS_JOINTREE_DIST : Fld := ⟨21, 14⟩
def SYS_JOINTREE_PARENT : Fld := ⟨9, 0⟩
def SYS_JOINPORT : Nat := 0x00000308
def SYS_JOINPORT_NEIGHBOURS : Fld := ⟨23, 16⟩
def SYS_JOINPORT_PARENT_PORT : Fld := ⟨9, 0⟩
def SYS_BOOTTk (n : Nat) : Nat := 0x00000310 + 4 * n
def SYS_BOOTTk_US : Fld := ⟨31, 0⟩
def PUNTq (n : Nat) : Nat := 0x00004000 + 64 * n
def PUNTq_VALID : Fld := ⟨31, 31⟩
def PUNTq_ANY : Fld := ⟨30, 30⟩
def PUNTq_VEC : Fld := ⟨29, 25⟩
def PUNTq_SLOT_SZ : Fld := ⟨24, 21⟩
def PUNTq_DEPTH : Fld := ⟨20, 17⟩
def PUNTq_INJ_EN : Fld := ⟨16, 16⟩
def PUNTq_TENANT : Fld := ⟨9, 0⟩
def PUNTq_UP_BASE : Fld := ⟨31, 0⟩
def PUNTq_UP_WR : Fld := ⟨31, 16⟩
def PUNTq_UP_RD : Fld := ⟨15, 0⟩
def PUNTq_DN_BASE : Fld := ⟨31, 0⟩
def PUNTq_DN_WR : Fld := ⟨31, 16⟩
def PUNTq_DN_RD : Fld := ⟨15, 0⟩
def PUNTq_IRQ_THR : Fld := ⟨31, 16⟩
def PUNTq_IRQ_TMO : Fld := ⟨15, 0⟩
def PUNTq_UP_DROP : Fld := ⟨31, 0⟩
def PUNTq_DN_ERR : Fld := ⟨31, 0⟩
def PUNTq_UP_ITEMS : Fld := ⟨31, 0⟩
def PUNTq_PEND : Fld := ⟨0, 0⟩

def regDescsSYS0 : List RegDesc :=
  [⟨0x00000000, 0x4, 1, 0x1, 1, [⟨SYS_ID_PART, .ro, 0x1024⟩, ⟨SYS_ID_SILICON, .ro, 0⟩]⟩,
   ⟨0x00000004, 0x4, 1, 0x1, 1, [⟨SYS_CTRL_LOCK, .w1s, 0⟩, ⟨SYS_CTRL_LOCKALL, .wo, 0⟩]⟩,
   ⟨0x00000008, 0x4, 1, 0x1, 1, [⟨SYS_IRQ_STAT_LEVEL, .ro, 0⟩]⟩,
   ⟨0x0000000C, 0x4, 1, 0x1, 1, [⟨SYS_IRQ_EN_EN, .rw, 0⟩]⟩,
   ⟨0x00000010, 0x4, 1, 0x1, 1, [⟨SYS_IRQ_REARM_REARM, .wo, 0⟩]⟩,
   ⟨0x00000014, 0x4, 1, 0x1, 1, [⟨SYS_HOSTERR_IFACE, .ro, 0⟩, ⟨SYS_HOSTERR_UNMAPPED, .w1c, 0⟩, ⟨SYS_HOSTERR_DMA, .w1c, 0⟩, ⟨SYS_HOSTERR_PUNT, .w1c, 0⟩, ⟨SYS_HOSTERR_POISON, .w1c, 0⟩, ⟨SYS_HOSTERR_PARTIAL, .w1c, 0⟩, ⟨SYS_HOSTERR_SPI_OVF, .w1c, 0⟩, ⟨SYS_HOSTERR_SPI_CMD, .w1c, 0⟩, ⟨SYS_HOSTERR_SPI_FRAME, .w1c, 0⟩, ⟨SYS_HOSTERR_ALIAS, .w1c, 0⟩, ⟨SYS_HOSTERR_LOCKED, .w1c, 0⟩]⟩,
   ⟨0x00000018, 0x4, 1, 0x1, 1, [⟨SYS_HOSTERR_ADDR_ADDR, .ro, 0⟩]⟩,
   ⟨0x0000001C, 0x4, 1, 0x1, 1, [⟨SYS_SPICNT_FRAME, .rc, 0⟩, ⟨SYS_SPICNT_CMD, .rc, 0⟩]⟩,
   ⟨0x00000020, 0x4, 1, 0x1, 1, [⟨SYS_PCIID_DEVICE, .ro, 0⟩, ⟨SYS_PCIID_VENDOR, .ro, 0⟩]⟩,
   ⟨0x00000024, 0x4, 1, 0x1, 1, [⟨SYS_SCRATCH_DATA, .rw, 0⟩]⟩,
   ⟨0x00000100, 0x4, 1, 0x1, 1, [⟨SYS_PWR_CTRL_REQ, .wo, 0⟩, ⟨SYS_PWR_CTRL_TEST, .wo, 0⟩, ⟨SYS_PWR_CTRL_SUPP_CLR, .wo, 0⟩, ⟨SYS_PWR_CTRL_REQ_V, .wo, 0⟩, ⟨SYS_PWR_CTRL_DROWSY_IDLE, .rw, 0x32⟩]⟩,
   ⟨0x00000104, 0x4, 1, 0x1, 1, [⟨SYS_PWR_STAT_STATE, .ro, 0⟩, ⟨SYS_PWR_STAT_TRANS, .ro, 0⟩, ⟨SYS_PWR_STAT_READY, .ro, 0⟩, ⟨SYS_PWR_STAT_SUPP, .ro, 0⟩, ⟨SYS_PWR_STAT_FILTER, .ro, 0⟩, ⟨SYS_PWR_STAT_RESULT, .ro, 0⟩, ⟨SYS_PWR_STAT_FW_CNT, .ro, 0⟩]⟩,
   ⟨0x00000108, 0x4, 1, 0x1, 1, [⟨SYS_PWR_WAKE_MB0, .rw, 1⟩, ⟨SYS_PWR_WAKE_MB1, .rw, 1⟩, ⟨SYS_PWR_WAKE_LOOM, .rw, 0⟩, ⟨SYS_PWR_WAKE_PIN, .rw, 1⟩, ⟨SYS_PWR_WAKE_TWIN, .rw, 1⟩, ⟨SYS_PWR_WAKE_TIMER, .rw, 0⟩, ⟨SYS_PWR_WAKE_TWIN_TX, .rw, 1⟩, ⟨SYS_PWR_WAKE_FW_THR, .rw, 0⟩, ⟨SYS_PWR_WAKE_FW_WIN, .rw, 0⟩]⟩,
   ⟨0x0000010C, 0x4, 1, 0x1, 1, [⟨SYS_PWR_LOOMSRC0_WAKE_SRC, .rw, 0⟩]⟩,
   ⟨0x00000110, 0x4, 1, 0x1, 1, [⟨SYS_PWR_LOOMSRC1_WAKE_SRC, .rw, 0⟩]⟩,
   ⟨0x00000114, 0x4, 1, 0x1, 1, [⟨SYS_PWR_TIMER_MS, .rw, 0⟩]⟩,
   ⟨0x00000118, 0x4, 1, 0x1, 1, [⟨SYS_PWR_CAUSE_FIRST, .ro, 0⟩, ⟨SYS_PWR_CAUSE_SRC, .w1c, 0⟩]⟩,
   ⟨0x00000180, 0x4, 32, 0x1, 1, [⟨SYS_PWR_DROWSYw_PORTS, .rw, 0⟩]⟩,
   ⟨0x00000200, 0x4, 1, 0x1, 1, [⟨SYS_LCS_STATE, .ro, 0⟩, ⟨SYS_LCS_COMPLETED, .ro, 0⟩, ⟨SYS_LCS_OBS, .ro, 0⟩, ⟨SYS_LCS_OBS_CAP, .ro, 3⟩, ⟨SYS_LCS_JTAG_FULL, .ro, 1⟩]⟩,
   ⟨0x00000300, 0x4, 1, 0x1, 1, [⟨SYS_BOOT_CAUSE, .ro, 0⟩, ⟨SYS_BOOT_NID_SRC, .ro, 0⟩, ⟨SYS_BOOT_PHASE, .ro, 0⟩, ⟨SYS_BOOT_ORPHAN, .ro, 0⟩, ⟨SYS_BOOT_ALONE, .ro, 0⟩, ⟨SYS_BOOT_COMPLETE, .ro, 0⟩, ⟨SYS_BOOT_TIME_UNLOCKED, .ro, 0⟩, ⟨SYS_BOOT_SEAM_LATE, .ro, 0⟩, ⟨SYS_BOOT_ROOT, .ro, 0⟩, ⟨SYS_BOOT_DUP_SEEN, .ro, 0⟩, ⟨SYS_BOOT_NODE, .ro, 0⟩]⟩,
   ⟨0x00000304, 0x4, 1, 0x1, 1, [⟨SYS_JOINTREE_ROOT, .ro, 0⟩, ⟨SYS_JOINTREE_DIST, .ro, 0xff⟩, ⟨SYS_JOINTREE_PARENT, .ro, 0⟩]⟩,
   ⟨0x00000308, 0x4, 1, 0x1, 1, [⟨SYS_JOINPORT_NEIGHBOURS, .ro, 0⟩, ⟨SYS_JOINPORT_PARENT_PORT, .ro, 0⟩]⟩,
   ⟨0x00000310, 0x4, 7, 0x1, 1, [⟨SYS_BOOTTk_US, .ro, 0xffffffff⟩]⟩,
   ⟨0x00004000, 0x40, 256, 0x1, 1, [⟨PUNTq_VALID, .rwl, 0⟩, ⟨PUNTq_ANY, .rwl, 0⟩, ⟨PUNTq_VEC, .rwl, 0x10⟩, ⟨PUNTq_SLOT_SZ, .rwl, 2⟩, ⟨PUNTq_DEPTH, .rwl, 8⟩, ⟨PUNTq_INJ_EN, .rwl, 0⟩, ⟨PUNTq_TENANT, .rwl, 0⟩]⟩,
   ⟨0x00004004, 0x40, 256, 0x1, 1, [⟨PUNTq_UP_BASE, .rwl, 0⟩]⟩,
   ⟨0x00004008, 0x40, 256, 0x1, 1, [⟨PUNTq_UP_BASE, .rwl, 0⟩]⟩,
   ⟨0x0000400C, 0x40, 256, 0x1, 1, [⟨PUNTq_UP_WR, .ro, 0⟩, ⟨PUNTq_UP_RD, .rw, 0⟩]⟩,
   ⟨0x00004010, 0x40, 256, 0x1, 1, [⟨PUNTq_DN_BASE, .rwl, 0⟩]⟩,
   ⟨0x00004014, 0x40, 256, 0x1, 1, [⟨PUNTq_DN_BASE, .rwl, 0⟩]⟩,
   ⟨0x00004018, 0x40, 256, 0x1, 1, [⟨PUNTq_DN_WR, .rw, 0⟩, ⟨PUNTq_DN_RD, .ro, 0⟩]⟩,
   ⟨0x0000401C, 0x40, 256, 0x1, 1, [⟨PUNTq_IRQ_THR, .rw, 1⟩, ⟨PUNTq_IRQ_TMO, .rw, 0⟩]⟩,
   ⟨0x00004020, 0x40, 256, 0x1, 1, [⟨PUNTq_UP_DROP, .rc, 0⟩]⟩,
   ⟨0x00004024, 0x40, 256, 0x1, 1, [⟨PUNTq_DN_ERR, .rc, 0⟩]⟩,
   ⟨0x00004028, 0x40, 256, 0x1, 1, [⟨PUNTq_UP_ITEMS, .rc, 0⟩]⟩,
   ⟨0x0000402C, 0x40, 256, 0x1, 1, [⟨PUNTq_PEND, .w1c, 0⟩]⟩,
   ⟨0x00004030, 0x40, 256, 0x4, 4, []⟩]
def regDescsSYS : List RegDesc := regDescsSYS0

/-! ### PACE -/

def PACE_CTRL : Nat := 0x00010000
def PACE_CTRL_LOCK : Fld := ⟨31, 31⟩
def PACE_CTRL_EN : Fld := ⟨30, 30⟩
def PACE_CTRL_ALARM_EN : Fld := ⟨29, 29⟩
def PACE_CTRL_AVSCLK : Fld := ⟨28, 27⟩
def PACE_CTRL_DWELL : Fld := ⟨26, 24⟩
def PACE_CTRL_STEP_EMG : Fld := ⟨23, 19⟩
def PACE_CTRL_STEP_UP : Fld := ⟨18, 15⟩
def PACE_CTRL_STEP_DN : Fld := ⟨14, 11⟩
def PACE_CTRL_HOLD : Fld := ⟨10, 6⟩
def PACE_CTRL_PERIOD : Fld := ⟨5, 0⟩
def PACE_VLIM : Nat := 0x00010004
def PACE_VLIM_VMAX : Fld := ⟨26, 16⟩
def PACE_VLIM_VMIN : Fld := ⟨10, 0⟩
def PACE_THRESH : Nat := 0x00010008
def PACE_THRESH_EXIT : Fld := ⟨29, 20⟩
def PACE_THRESH_LOWER : Fld := ⟨19, 10⟩
def PACE_THRESH_RAISE : Fld := ⟨9, 0⟩
def PACE_STAT : Nat := 0x0001000C
def PACE_STAT_LEVEL1 : Fld := ⟨11, 10⟩
def PACE_STAT_LEVEL0 : Fld := ⟨9, 8⟩
def PACE_STAT_RAIL_ERR1 : Fld := ⟨7, 7⟩
def PACE_STAT_RAIL_ERR0 : Fld := ⟨6, 6⟩
def PACE_STAT_AVS_ERR : Fld := ⟨5, 5⟩
def PACE_STAT_LIM_ERR : Fld := ⟨4, 4⟩
def PACE_STAT_MFAULT1 : Fld := ⟨3, 3⟩
def PACE_STAT_MFAULT0 : Fld := ⟨2, 2⟩
def PACE_STAT_BELOW1 : Fld := ⟨1, 1⟩
def PACE_STAT_BELOW0 : Fld := ⟨0, 0⟩
def PACE_VCMD : Nat := 0x00010010
def PACE_VCMD_V1 : Fld := ⟨26, 16⟩
def PACE_VCMD_V0 : Fld := ⟨10, 0⟩
def PACE_EVT : Nat := 0x00010014
def PACE_EVT_LVL : Fld := ⟨5, 5⟩
def PACE_EVT_RAIL : Fld := ⟨4, 4⟩
def PACE_EVT_AVS : Fld := ⟨3, 3⟩
def PACE_EVT_ANOM : Fld := ⟨2, 2⟩
def PACE_EVT_EMG : Fld := ⟨1, 1⟩
def PACE_EVT_MFLT : Fld := ⟨0, 0⟩
def PACE_MONn (n : Nat) : Nat := 0x00010100 + 4 * n
def PACE_MONn_FAULT : Fld := ⟨31, 31⟩
def PACE_MONn_ANOM : Fld := ⟨30, 30⟩
def PACE_MONn_BELOW : Fld := ⟨29, 29⟩
def PACE_MONn_MARGIN : Fld := ⟨27, 16⟩
def PACE_MONn_COUNT : Fld := ⟨15, 0⟩
def PACE_FLOORn (n : Nat) : Nat := 0x00010200 + 4 * n
def PACE_FLOORn_FLOOR : Fld := ⟨15, 0⟩

def regDescsPACE0 : List RegDesc :=
  [⟨0x00010000, 0x4, 1, 0x1, 1, [⟨PACE_CTRL_LOCK, .w1s, 0⟩, ⟨PACE_CTRL_EN, .rwl, 1⟩, ⟨PACE_CTRL_ALARM_EN, .rwl, 1⟩, ⟨PACE_CTRL_AVSCLK, .rwl, 2⟩, ⟨PACE_CTRL_DWELL, .rwl, 3⟩, ⟨PACE_CTRL_STEP_EMG, .rwl, 0x19⟩, ⟨PACE_CTRL_STEP_UP, .rwl, 5⟩, ⟨PACE_CTRL_STEP_DN, .rwl, 5⟩, ⟨PACE_CTRL_HOLD, .rwl, 0x10⟩, ⟨PACE_CTRL_PERIOD, .rwl, 2⟩]⟩,
   ⟨0x00010004, 0x4, 1, 0x1, 1, [⟨PACE_VLIM_VMAX, .rwl, 0x352⟩, ⟨PACE_VLIM_VMIN, .rwl, 0x28a⟩]⟩,
   ⟨0x00010008, 0x4, 1, 0x1, 1, [⟨PACE_THRESH_EXIT, .rwl, 0x29⟩, ⟨PACE_THRESH_LOWER, .rwl, 0x3d⟩, ⟨PACE_THRESH_RAISE, .rwl, 0x14⟩]⟩,
   ⟨0x0001000C, 0x4, 1, 0x1, 1, [⟨PACE_STAT_LEVEL1, .ro, 0⟩, ⟨PACE_STAT_LEVEL0, .ro, 0⟩, ⟨PACE_STAT_RAIL_ERR1, .ro, 0⟩, ⟨PACE_STAT_RAIL_ERR0, .ro, 0⟩, ⟨PACE_STAT_AVS_ERR, .ro, 0⟩, ⟨PACE_STAT_LIM_ERR, .ro, 0⟩, ⟨PACE_STAT_MFAULT1, .ro, 0⟩, ⟨PACE_STAT_MFAULT0, .ro, 0⟩, ⟨PACE_STAT_BELOW1, .ro, 0⟩, ⟨PACE_STAT_BELOW0, .ro, 0⟩]⟩,
   ⟨0x00010010, 0x4, 1, 0x1, 1, [⟨PACE_VCMD_V1, .rw, 0x320⟩, ⟨PACE_VCMD_V0, .rw, 0x320⟩]⟩,
   ⟨0x00010014, 0x4, 1, 0x1, 1, [⟨PACE_EVT_LVL, .w1c, 0⟩, ⟨PACE_EVT_RAIL, .w1c, 0⟩, ⟨PACE_EVT_AVS, .w1c, 0⟩, ⟨PACE_EVT_ANOM, .w1c, 0⟩, ⟨PACE_EVT_EMG, .w1c, 0⟩, ⟨PACE_EVT_MFLT, .w1c, 0⟩]⟩,
   ⟨0x00010100, 0x4, 32, 0x1, 1, [⟨PACE_MONn_FAULT, .ro, 0⟩, ⟨PACE_MONn_ANOM, .w1c, 0⟩, ⟨PACE_MONn_BELOW, .ro, 0⟩, ⟨PACE_MONn_MARGIN, .ro, 0⟩, ⟨PACE_MONn_COUNT, .ro, 0⟩]⟩,
   ⟨0x00010200, 0x4, 32, 0x1, 1, [⟨PACE_FLOORn_FLOOR, .rwl, 0⟩]⟩]
def regDescsPACE : List RegDesc := regDescsPACE0

/-! ### TIME -/

def TIME_CTRL : Nat := 0x00020000
def TIME_CTRL_LOCK : Fld := ⟨31, 31⟩
def TIME_CTRL_PPSO_EN : Fld := ⟨30, 30⟩
def TIME_CTRL_PPSI_EN : Fld := ⟨29, 29⟩
def TIME_CTRL_PPSI_EDGE : Fld := ⟨28, 28⟩
def TIME_CTRL_PPSO_DATUM : Fld := ⟨10, 0⟩
def TIME_STAT : Nat := 0x00020004
def TIME_STAT_SRV_LOCK : Fld := ⟨3, 3⟩
def TIME_STAT_HOLDOVER : Fld := ⟨2, 2⟩
def TIME_STAT_RUN : Fld := ⟨1, 1⟩
def TIME_STAT_PLL_LOCK : Fld := ⟨0, 0⟩
def TIME_MER_LO : Nat := 0x00020008
def TIME_MER_LO_MER : Fld := ⟨31, 0⟩
def TIME_MER_HI : Nat := 0x0002000C
def TIME_MER_HI_MER : Fld := ⟨31, 0⟩
def TIME_EVT : Nat := 0x00020010
def TIME_EVT_TWIN : Fld := ⟨7, 7⟩
def TIME_EVT_TSQ_OVF : Fld := ⟨6, 6⟩
def TIME_EVT_LATE : Fld := ⟨5, 5⟩
def TIME_EVT_STEP : Fld := ⟨4, 4⟩
def TIME_EVT_PPSI : Fld := ⟨3, 3⟩
def TIME_EVT_SRV : Fld := ⟨2, 2⟩
def TIME_EVT_REFBACK : Fld := ⟨1, 1⟩
def TIME_EVT_REFLOSS : Fld := ⟨0, 0⟩
def TIME_PPSO : Nat := 0x00020018
def TIME_PPSO_WIDTH : Fld := ⟨19, 0⟩
def TIME_PPSI_LO : Nat := 0x00020020
def TIME_PPSI_LO_STAMP : Fld := ⟨31, 0⟩
def TIME_PPSI_HI : Nat := 0x00020024
def TIME_PPSI_HI_STAMP : Fld := ⟨31, 0⟩
def TIME_PPSI_CNT : Nat := 0x00020028
def TIME_PPSI_CNT_COUNT : Fld := ⟨31, 0⟩
def TIME_DSEL : Nat := 0x00020040
def TIME_DSEL_MODE : Fld := ⟨12, 12⟩
def TIME_DSEL_DATUM : Fld := ⟨10, 0⟩
def TIME_DEFF_LO : Nat := 0x00020044
def TIME_DEFF_LO_EFF : Fld := ⟨31, 0⟩
def TIME_DEFF_HI : Nat := 0x00020048
def TIME_DEFF_HI_EFF : Fld := ⟨31, 0⟩
def TIME_DOFF_LO : Nat := 0x0002004C
def TIME_DOFF_LO_OFF : Fld := ⟨31, 0⟩
def TIME_DOFF_HI : Nat := 0x00020050
def TIME_DOFF_HI_OFF : Fld := ⟨31, 0⟩
def TIME_DRATE_LO : Nat := 0x00020054
def TIME_DRATE_LO_RATE : Fld := ⟨31, 0⟩
def TIME_DRATE_HI : Nat := 0x00020058
def TIME_DRATE_HI_RATE : Fld := ⟨15, 0⟩
def TIME_DCMD : Nat := 0x0002005C
def TIME_DCMD_BUSY : Fld := ⟨4, 4⟩
def TIME_DCMD_RESULT : Fld := ⟨3, 2⟩
def TIME_DCMD_CMD : Fld := ⟨1, 0⟩
def TIME_VSEL : Nat := 0x00020060
def TIME_VSEL_DATUM : Fld := ⟨10, 0⟩
def TIME_VIEW_LO : Nat := 0x00020064
def TIME_VIEW_LO_VIEW : Fld := ⟨31, 0⟩
def TIME_VIEW_HI : Nat := 0x00020068
def TIME_VIEW_HI_VIEW : Fld := ⟨31, 0⟩
def TIME_VMER_LO : Nat := 0x0002006C
def TIME_VMER_LO_MER : Fld := ⟨31, 0⟩
def TIME_VMER_HI : Nat := 0x00020070
def TIME_VMER_HI_MER : Fld := ⟨31, 0⟩
def TIME_DATd (n : Nat) : Nat := 0x00021000 + 32 * n
def TIME_DATd_ANCHOR_LO : Fld := ⟨31, 0⟩
def TIME_DATd_ANCHOR_HI : Fld := ⟨31, 0⟩
def TIME_DATd_OFFSET_LO : Fld := ⟨31, 0⟩
def TIME_DATd_OFFSET_HI : Fld := ⟨31, 0⟩
def TIME_DATd_RATE_LO : Fld := ⟨31, 0⟩
def TIME_DATd_PEND : Fld := ⟨31, 31⟩
def TIME_DATd_PMODE : Fld := ⟨30, 30⟩
def TIME_DATd_RATE_HI : Fld := ⟨15, 0⟩
def TIME_DATd_GEN : Fld := ⟨15, 0⟩
def TIME_TSQn (n : Nat) : Nat := 0x00030000 + 32 * n
def TIME_TSQn_VALID : Fld := ⟨31, 31⟩
def TIME_TSQn_DISC : Fld := ⟨30, 30⟩
def TIME_TSQn_SRC : Fld := ⟨29, 28⟩
def TIME_TSQn_ID : Fld := ⟨15, 0⟩
def TIME_TSQn_MER_LO : Fld := ⟨31, 0⟩
def TIME_TSQn_MER_HI : Fld := ⟨31, 0⟩
def TIME_TSQn_TEN_LO : Fld := ⟨31, 0⟩
def TIME_TSQn_TEN_HI : Fld := ⟨31, 0⟩
def TIME_PASYMn (n : Nat) : Nat := 0x00038000 + 16 * n
def TIME_PASYMn_EGR_ASYM : Fld := ⟨31, 16⟩
def TIME_PASYMn_ING_ASYM : Fld := ⟨15, 0⟩
def TIME_PLINKn (n : Nat) : Nat := 0x00038004 + 16 * n
def TIME_PLINKn_AUTO : Fld := ⟨31, 31⟩
def TIME_PLINKn_LINK_DLY : Fld := ⟨19, 0⟩
def TIME_PTSSn (n : Nat) : Nat := 0x00038008 + 16 * n
def TIME_PTSSn_DROPS : Fld := ⟨31, 24⟩
def TIME_PTSSn_OVF : Fld := ⟨8, 8⟩
def TIME_PTSSn_FILL : Fld := ⟨3, 0⟩

def regDescsTIME0 : List RegDesc :=
  [⟨0x00020000, 0x4, 1, 0x1, 1, [⟨TIME_CTRL_LOCK, .w1s, 0⟩, ⟨TIME_CTRL_PPSO_EN, .rwl, 0⟩, ⟨TIME_CTRL_PPSI_EN, .rwl, 0⟩, ⟨TIME_CTRL_PPSI_EDGE, .rwl, 0⟩, ⟨TIME_CTRL_PPSO_DATUM, .rwl, 0x400⟩]⟩,
   ⟨0x00020004, 0x4, 1, 0x1, 1, [⟨TIME_STAT_SRV_LOCK, .ro, 0⟩, ⟨TIME_STAT_HOLDOVER, .ro, 0⟩, ⟨TIME_STAT_RUN, .ro, 0⟩, ⟨TIME_STAT_PLL_LOCK, .ro, 0⟩]⟩,
   ⟨0x00020008, 0x4, 1, 0x1, 1, [⟨TIME_MER_LO_MER, .ro, 0⟩]⟩,
   ⟨0x0002000C, 0x4, 1, 0x1, 1, [⟨TIME_MER_HI_MER, .ro, 0⟩]⟩,
   ⟨0x00020010, 0x4, 1, 0x1, 1, [⟨TIME_EVT_TWIN, .w1c, 0⟩, ⟨TIME_EVT_TSQ_OVF, .w1c, 0⟩, ⟨TIME_EVT_LATE, .w1c, 0⟩, ⟨TIME_EVT_STEP, .w1c, 0⟩, ⟨TIME_EVT_PPSI, .w1c, 0⟩, ⟨TIME_EVT_SRV, .w1c, 0⟩, ⟨TIME_EVT_REFBACK, .w1c, 0⟩, ⟨TIME_EVT_REFLOSS, .w1c, 0⟩]⟩,
   ⟨0x00020018, 0x4, 1, 0x1, 1, [⟨TIME_PPSO_WIDTH, .rwl, 0x186a0⟩]⟩,
   ⟨0x00020020, 0x4, 1, 0x1, 1, [⟨TIME_PPSI_LO_STAMP, .ro, 0⟩]⟩,
   ⟨0x00020024, 0x4, 1, 0x1, 1, [⟨TIME_PPSI_HI_STAMP, .ro, 0⟩]⟩,
   ⟨0x00020028, 0x4, 1, 0x1, 1, [⟨TIME_PPSI_CNT_COUNT, .ro, 0⟩]⟩,
   ⟨0x00020040, 0x4, 1, 0x1, 1, [⟨TIME_DSEL_MODE, .rw, 0⟩, ⟨TIME_DSEL_DATUM, .rw, 0⟩]⟩,
   ⟨0x00020044, 0x4, 1, 0x1, 1, [⟨TIME_DEFF_LO_EFF, .rw, 0⟩]⟩,
   ⟨0x00020048, 0x4, 1, 0x1, 1, [⟨TIME_DEFF_HI_EFF, .rw, 0⟩]⟩,
   ⟨0x0002004C, 0x4, 1, 0x1, 1, [⟨TIME_DOFF_LO_OFF, .rw, 0⟩]⟩,
   ⟨0x00020050, 0x4, 1, 0x1, 1, [⟨TIME_DOFF_HI_OFF, .rw, 0⟩]⟩,
   ⟨0x00020054, 0x4, 1, 0x1, 1, [⟨TIME_DRATE_LO_RATE, .rw, 0⟩]⟩,
   ⟨0x00020058, 0x4, 1, 0x1, 1, [⟨TIME_DRATE_HI_RATE, .rw, 0x100⟩]⟩,
   ⟨0x0002005C, 0x4, 1, 0x1, 1, [⟨TIME_DCMD_BUSY, .ro, 0⟩, ⟨TIME_DCMD_RESULT, .ro, 0⟩, ⟨TIME_DCMD_CMD, .wo, 0⟩]⟩,
   ⟨0x00020060, 0x4, 1, 0x1, 1, [⟨TIME_VSEL_DATUM, .rw, 0⟩]⟩,
   ⟨0x00020064, 0x4, 1, 0x1, 1, [⟨TIME_VIEW_LO_VIEW, .ro, 0⟩]⟩,
   ⟨0x00020068, 0x4, 1, 0x1, 1, [⟨TIME_VIEW_HI_VIEW, .ro, 0⟩]⟩,
   ⟨0x0002006C, 0x4, 1, 0x1, 1, [⟨TIME_VMER_LO_MER, .ro, 0⟩]⟩,
   ⟨0x00020070, 0x4, 1, 0x1, 1, [⟨TIME_VMER_HI_MER, .ro, 0⟩]⟩,
   ⟨0x00021000, 0x20, 1032, 0x1, 1, [⟨TIME_DATd_ANCHOR_LO, .ro, 0⟩]⟩,
   ⟨0x00021004, 0x20, 1032, 0x1, 1, [⟨TIME_DATd_ANCHOR_HI, .ro, 0⟩]⟩,
   ⟨0x00021008, 0x20, 1032, 0x1, 1, [⟨TIME_DATd_OFFSET_LO, .ro, 0⟩]⟩,
   ⟨0x0002100C, 0x20, 1032, 0x1, 1, [⟨TIME_DATd_OFFSET_HI, .ro, 0⟩]⟩,
   ⟨0x00021010, 0x20, 1032, 0x1, 1, [⟨TIME_DATd_RATE_LO, .ro, 0⟩]⟩,
   ⟨0x00021014, 0x20, 1032, 0x1, 1, [⟨TIME_DATd_PEND, .ro, 0⟩, ⟨TIME_DATd_PMODE, .ro, 0⟩, ⟨TIME_DATd_RATE_HI, .ro, 0x100⟩]⟩,
   ⟨0x00021018, 0x20, 1032, 0x1, 1, [⟨TIME_DATd_GEN, .ro, 0⟩]⟩,
   ⟨0x0002101C, 0x20, 1032, 0x1, 1, []⟩,
   ⟨0x00030000, 0x20, 1024, 0x1, 1, [⟨TIME_TSQn_VALID, .rc, 0⟩, ⟨TIME_TSQn_DISC, .rc, 0⟩, ⟨TIME_TSQn_SRC, .rc, 0⟩, ⟨TIME_TSQn_ID, .rc, 0⟩]⟩,
   ⟨0x00030004, 0x20, 1024, 0x1, 1, [⟨TIME_TSQn_MER_LO, .ro, 0⟩]⟩,
   ⟨0x00030008, 0x20, 1024, 0x1, 1, [⟨TIME_TSQn_MER_HI, .ro, 0⟩]⟩,
   ⟨0x0003000C, 0x20, 1024, 0x1, 1, [⟨TIME_TSQn_TEN_LO, .ro, 0⟩]⟩,
   ⟨0x00030010, 0x20, 1024, 0x1, 1, [⟨TIME_TSQn_TEN_HI, .ro, 0⟩]⟩,
   ⟨0x00030014, 0x20, 1024, 0x4, 3, []⟩,
   ⟨0x00038000, 0x10, 1024, 0x1, 1, [⟨TIME_PASYMn_EGR_ASYM, .rw, 0⟩, ⟨TIME_PASYMn_ING_ASYM, .rw, 0⟩]⟩,
   ⟨0x00038004, 0x10, 1024, 0x1, 1, [⟨TIME_PLINKn_AUTO, .rw, 0⟩, ⟨TIME_PLINKn_LINK_DLY, .rw, 0⟩]⟩,
   ⟨0x00038008, 0x10, 1024, 0x1, 1, [⟨TIME_PTSSn_DROPS, .rc, 0⟩, ⟨TIME_PTSSn_OVF, .w1c, 0⟩, ⟨TIME_PTSSn_FILL, .ro, 0⟩]⟩,
   ⟨0x0003800C, 0x10, 1024, 0x1, 1, []⟩]
def regDescsTIME : List RegDesc := regDescsTIME0

/-! ### LOOM -/

def LOOM_GCTRL : Nat := 0x00040000
def LOOM_GCTRL_LOCK : Fld := ⟨31, 31⟩
def LOOM_EVTSUM0 : Nat := 0x00040004
def LOOM_EVTSUM0_PEND : Fld := ⟨31, 0⟩
def LOOM_EVTSUM1 : Nat := 0x00040008
def LOOM_EVTSUM1_PEND : Fld := ⟨31, 0⟩
def LOOM_EVTSUM2 : Nat := 0x0004000C
def LOOM_EVTSUM2_MB : Fld := ⟨17, 16⟩
def LOOM_EVTSUM2_PC : Fld := ⟨15, 0⟩
def LOOM_MDIO : Nat := 0x00040010
def LOOM_MDIO_BUSY : Fld := ⟨31, 31⟩
def LOOM_MDIO_OP : Fld := ⟨30, 30⟩
def LOOM_MDIO_PHYAD : Fld := ⟨29, 25⟩
def LOOM_MDIO_REGAD : Fld := ⟨24, 20⟩
def LOOM_MDIO_DATA : Fld := ⟨15, 0⟩
def LCn_CFG (n : Nat) : Nat := 0x00041000 + 256 * n
def LCn_CFG_EN : Fld := ⟨31, 31⟩
def LCn_CFG_PROTO : Fld := ⟨30, 29⟩
def LCn_CFG_RXMODE : Fld := ⟨28, 27⟩
def LCn_CFG_SELFRX : Fld := ⟨26, 26⟩
def LCn_CFG_TXORD : Fld := ⟨25, 25⟩
def LCn_CFG_AUTO_REC : Fld := ⟨24, 24⟩
def LCn_CFG_LIN_ROLE : Fld := ⟨23, 23⟩
def LCn_CFG_PAD : Fld := ⟨18, 11⟩
def LCn_CFG_BOUND : Fld := ⟨10, 10⟩
def LCn_CFG_TENANT : Fld := ⟨9, 0⟩
def LCn_NBT (n : Nat) : Nat := 0x00041004 + 256 * n
def LCn_NBT_BRP : Fld := ⟨31, 22⟩
def LCn_NBT_TSEG1 : Fld := ⟨21, 14⟩
def LCn_NBT_TSEG2 : Fld := ⟨13, 7⟩
def LCn_NBT_SJW : Fld := ⟨6, 0⟩
def LCn_DBT (n : Nat) : Nat := 0x00041008 + 256 * n
def LCn_DBT_BRP : Fld := ⟨31, 22⟩
def LCn_DBT_TSEG1 : Fld := ⟨21, 14⟩
def LCn_DBT_TSEG2 : Fld := ⟨13, 7⟩
def LCn_DBT_SJW : Fld := ⟨6, 0⟩
def LCn_TDC (n : Nat) : Nat := 0x0004100C + 256 * n
def LCn_TDC_EN : Fld := ⟨31, 31⟩
def LCn_TDC_TDCO : Fld := ⟨14, 8⟩
def LCn_TDC_TDCV : Fld := ⟨6, 0⟩
def LCn_LIN (n : Nat) : Nat := 0x00041010 + 256 * n
def LCn_LIN_BREAK : Fld := ⟨28, 24⟩
def LCn_LIN_SCHED_EN : Fld := ⟨8, 8⟩
def LCn_LIN_SCHED_LEN : Fld := ⟨6, 0⟩
def LCn_TRX (n : Nat) : Nat := 0x00041014 + 256 * n
def LCn_TRX_REQ : Fld := ⟨31, 30⟩
def LCn_TRX_REQ_V : Fld := ⟨29, 29⟩
def LCn_TRX_MAP : Fld := ⟨23, 16⟩
def LCn_TRX_T_INHON : Fld := ⟨15, 8⟩
def LCn_TRX_T_INHOFF : Fld := ⟨7, 4⟩
def LCn_TRX_T_MODE : Fld := ⟨3, 0⟩
def LCn_WAKE (n : Nat) : Nat := 0x00041018 + 256 * n
def LCn_WAKE_EN : Fld := ⟨31, 31⟩
def LCn_WAKE_WMODE : Fld := ⟨30, 30⟩
def LCn_WAKE_TXWAKE : Fld := ⟨29, 29⟩
def LCn_WAKE_TESTMODE : Fld := ⟨28, 28⟩
def LCn_WAKE_WUF_DLC : Fld := ⟨27, 24⟩
def LCn_WAKE_FW_THR : Fld := ⟨23, 16⟩
def LCn_WAKE_WFILT : Fld := ⟨15, 8⟩
def LCn_WAKE_FW_WIN : Fld := ⟨7, 0⟩
def LCn_WTIME (n : Nat) : Nat := 0x0004101C + 256 * n
def LCn_WTIME_MAXAWAKE : Fld := ⟨31, 16⟩
def LCn_WTIME_SU_FILT : Fld := ⟨15, 0⟩
def LCn_WUF_ID (n : Nat) : Nat := 0x00041020 + 256 * n
def LCn_WUF_ID_IDE : Fld := ⟨31, 31⟩
def LCn_WUF_ID_DATA_EN : Fld := ⟨30, 30⟩
def LCn_WUF_ID_ID_MASK : Fld := ⟨28, 0⟩
def LCn_WUF_MASK (n : Nat) : Nat := 0x00041024 + 256 * n
def LCn_WUF_MASK_ID_MASK : Fld := ⟨28, 0⟩
def LCn_WUF_DATA_LO (n : Nat) : Nat := 0x00041028 + 256 * n
def LCn_WUF_DATA_LO_DMASK : Fld := ⟨31, 0⟩
def LCn_WUF_DATA_HI (n : Nat) : Nat := 0x0004102C + 256 * n
def LCn_WUF_DATA_HI_DMASK : Fld := ⟨31, 0⟩
def LCn_ERR (n : Nat) : Nat := 0x00041030 + 256 * n
def LCn_ERR_STATE : Fld := ⟨31, 30⟩
def LCn_ERR_LEC : Fld := ⟨29, 27⟩
def LCn_ERR_REC : Fld := ⟨23, 16⟩
def LCn_ERR_TEC : Fld := ⟨15, 8⟩
def LCn_ERR_RECOVER : Fld := ⟨0, 0⟩
def LCn_STAT (n : Nat) : Nat := 0x00041034 + 256 * n
def LCn_STAT_TRX : Fld := ⟨31, 30⟩
def LCn_STAT_TRANS : Fld := ⟨29, 29⟩
def LCn_STAT_BUSY : Fld := ⟨28, 28⟩
def LCn_STAT_RXCUR : Fld := ⟨27, 27⟩
def LCn_STAT_RXSHD : Fld := ⟨26, 26⟩
def LCn_STAT_WAKE_SUPP : Fld := ⟨25, 25⟩
def LCn_STAT_FW_CNT : Fld := ⟨23, 16⟩
def LCn_EVT (n : Nat) : Nat := 0x00041038 + 256 * n
def LCn_EVT_CFG_ERR : Fld := ⟨10, 10⟩
def LCn_EVT_SUPP : Fld := ⟨9, 9⟩
def LCn_EVT_REQ_ERR : Fld := ⟨8, 8⟩
def LCn_EVT_TSQ_OVF : Fld := ⟨7, 7⟩
def LCn_EVT_RXOVR : Fld := ⟨6, 6⟩
def LCn_EVT_MAXAWAKE : Fld := ⟨5, 5⟩
def LCn_EVT_FALSE_WAKE : Fld := ⟨4, 4⟩
def LCn_EVT_WAKE : Fld := ⟨3, 3⟩
def LCn_EVT_BUSOFF : Fld := ⟨2, 2⟩
def LCn_EVT_PASSIVE : Fld := ⟨1, 1⟩
def LCn_EVT_RECOVERED : Fld := ⟨0, 0⟩
def LCn_RXCTL (n : Nat) : Nat := 0x0004103C + 256 * n
def LCn_RXCTL_RELEASE : Fld := ⟨0, 0⟩
def LCn_CNT (n k : Nat) : Nat := 0x00041040 + 256 * n + 4 * k
def LCn_CNT_COUNT : Fld := ⟨31, 0⟩
def LCn_TSQ (n : Nat) : Nat := 0x00041080 + 256 * n
def LCn_TSQ_VALID : Fld := ⟨31, 31⟩
def LCn_TSQ_DISC : Fld := ⟨30, 30⟩
def LCn_TSQ_SRC : Fld := ⟨29, 28⟩
def LCn_TSQ_ID : Fld := ⟨15, 0⟩
def LCn_TSQ_MER_LO : Fld := ⟨31, 0⟩
def LCn_TSQ_MER_HI : Fld := ⟨31, 0⟩
def LCn_TSQ_TEN_LO : Fld := ⟨31, 0⟩
def LCn_TSQ_TEN_HI : Fld := ⟨31, 0⟩
def LCn_PTSS (n : Nat) : Nat := 0x000410A0 + 256 * n
def LCn_PTSS_DROPS : Fld := ⟨31, 24⟩
def LCn_PTSS_OVF : Fld := ⟨8, 8⟩
def LCn_PTSS_FILL : Fld := ⟨3, 0⟩
def PCm_CFG (n : Nat) : Nat := 0x00046000 + 256 * n
def PCm_CFG_EN : Fld := ⟨31, 31⟩
def PCm_CFG_PHYAD : Fld := ⟨20, 16⟩
def PCm_CFG_BOUND : Fld := ⟨10, 10⟩
def PCm_CFG_TENANT : Fld := ⟨9, 0⟩
def PCm_PLCA (n : Nat) : Nat := 0x00046004 + 256 * n
def PCm_PLCA_EN : Fld := ⟨31, 31⟩
def PCm_PLCA_MAX_BC : Fld := ⟨27, 24⟩
def PCm_PLCA_TO_TMR : Fld := ⟨23, 16⟩
def PCm_PLCA_NODE_CNT : Fld := ⟨15, 8⟩
def PCm_PLCA_NODE_ID : Fld := ⟨7, 0⟩
def PCm_PLCA2 (n : Nat) : Nat := 0x00046008 + 256 * n
def PCm_PLCA2_BURST_TMR : Fld := ⟨7, 0⟩
def PCm_TAG (n : Nat) : Nat := 0x0004600C + 256 * n
def PCm_TAG_ING_MODE : Fld := ⟨31, 30⟩
def PCm_TAG_EGR_MODE : Fld := ⟨29, 28⟩
def PCm_TAG_TPID_SEL : Fld := ⟨27, 26⟩
def PCm_TAG_DEF_PCP : Fld := ⟨22, 20⟩
def PCm_TAG_PVID : Fld := ⟨11, 0⟩
def PCm_FILT (n : Nat) : Nat := 0x00046010 + 256 * n
def PCm_FILT_GALL : Fld := ⟨31, 31⟩
def PCm_FILT_BCAST : Fld := ⟨30, 30⟩
def PCm_STAT (n : Nat) : Nat := 0x00046014 + 256 * n
def PCm_STAT_LINK : Fld := ⟨31, 31⟩
def PCm_STAT_PLCA_ST : Fld := ⟨30, 30⟩
def PCm_EVT (n : Nat) : Nat := 0x00046018 + 256 * n
def PCm_EVT_TSQ_OVF : Fld := ⟨5, 5⟩
def PCm_EVT_EXCESS_COLL : Fld := ⟨4, 4⟩
def PCm_EVT_PLCA_DOWN : Fld := ⟨3, 3⟩
def PCm_EVT_PLCA_UP : Fld := ⟨2, 2⟩
def PCm_EVT_LINK_DOWN : Fld := ⟨1, 1⟩
def PCm_EVT_LINK_UP : Fld := ⟨0, 0⟩
def PCm_STATS (n k : Nat) : Nat := 0x00046040 + 256 * n + 8 * k
def PCm_STATS_CNT_LO : Fld := ⟨31, 0⟩
def PCm_STATS_HI (n k : Nat) : Nat := 0x00046044 + 256 * n + 8 * k
def PCm_STATS_HI_CNT_HI : Fld := ⟨31, 0⟩
def PCm_TSQ (n : Nat) : Nat := 0x000460C0 + 256 * n
def PCm_TSQ_VALID : Fld := ⟨31, 31⟩
def PCm_TSQ_DISC : Fld := ⟨30, 30⟩
def PCm_TSQ_SRC : Fld := ⟨29, 28⟩
def PCm_TSQ_ID : Fld := ⟨15, 0⟩
def PCm_TSQ_MER_LO : Fld := ⟨31, 0⟩
def PCm_TSQ_MER_HI : Fld := ⟨31, 0⟩
def PCm_TSQ_TEN_LO : Fld := ⟨31, 0⟩
def PCm_TSQ_TEN_HI : Fld := ⟨31, 0⟩
def PCm_PTSS (n : Nat) : Nat := 0x000460E0 + 256 * n
def PCm_PTSS_DROPS : Fld := ⟨31, 24⟩
def PCm_PTSS_OVF : Fld := ⟨8, 8⟩
def PCm_PTSS_FILL : Fld := ⟨3, 0⟩
def MBb_CFG (n : Nat) : Nat := 0x00047000 + 256 * n
def MBb_CFG_EN : Fld := ⟨31, 31⟩
def MBb_CFG_ADDR : Fld := ⟨4, 0⟩
def MBb_NBT (n : Nat) : Nat := 0x00047004 + 256 * n
def MBb_NBT_BRP : Fld := ⟨31, 22⟩
def MBb_NBT_TSEG1 : Fld := ⟨21, 14⟩
def MBb_NBT_TSEG2 : Fld := ⟨13, 7⟩
def MBb_NBT_SJW : Fld := ⟨6, 0⟩
def MBb_DBT (n : Nat) : Nat := 0x00047008 + 256 * n
def MBb_DBT_BRP : Fld := ⟨31, 22⟩
def MBb_DBT_TSEG1 : Fld := ⟨21, 14⟩
def MBb_DBT_TSEG2 : Fld := ⟨13, 7⟩
def MBb_DBT_SJW : Fld := ⟨6, 0⟩
def MBb_TDC (n : Nat) : Nat := 0x0004700C + 256 * n
def MBb_TDC_EN : Fld := ⟨31, 31⟩
def MBb_TDC_TDCO : Fld := ⟨14, 8⟩
def MBb_TDC_TDCV : Fld := ⟨6, 0⟩
def MBb_TRX (n : Nat) : Nat := 0x00047014 + 256 * n
def MBb_TRX_MAP : Fld := ⟨23, 16⟩
def MBb_TRX_T_MODE : Fld := ⟨3, 0⟩
def MBb_WAKE (n : Nat) : Nat := 0x00047018 + 256 * n
def MBb_WAKE_EN : Fld := ⟨31, 31⟩
def MBb_WAKE_WMODE : Fld := ⟨30, 30⟩
def MBb_WAKE_TXWAKE : Fld := ⟨29, 29⟩
def MBb_WAKE_TESTMODE : Fld := ⟨28, 28⟩
def MBb_WAKE_WUF_DLC : Fld := ⟨27, 24⟩
def MBb_WAKE_WFILT : Fld := ⟨15, 8⟩
def MBb_WTIME (n : Nat) : Nat := 0x0004701C + 256 * n
def MBb_WTIME_SU_FILT : Fld := ⟨15, 0⟩
def MBb_WUF_ID (n : Nat) : Nat := 0x00047020 + 256 * n
def MBb_WUF_ID_IDE : Fld := ⟨31, 31⟩
def MBb_WUF_ID_DATA_EN : Fld := ⟨30, 30⟩
def MBb_WUF_ID_ID_MASK : Fld := ⟨28, 0⟩
def MBb_WUF_MASK (n : Nat) : Nat := 0x00047024 + 256 * n
def MBb_WUF_MASK_ID_MASK : Fld := ⟨28, 0⟩
def MBb_WUF_DATA_LO (n : Nat) : Nat := 0x00047028 + 256 * n
def MBb_WUF_DATA_LO_DMASK : Fld := ⟨31, 0⟩
def MBb_WUF_DATA_HI (n : Nat) : Nat := 0x0004702C + 256 * n
def MBb_WUF_DATA_HI_DMASK : Fld := ⟨31, 0⟩
def MBb_ERR (n : Nat) : Nat := 0x00047030 + 256 * n
def MBb_ERR_STATE : Fld := ⟨31, 30⟩
def MBb_ERR_LEC : Fld := ⟨29, 27⟩
def MBb_ERR_REC : Fld := ⟨23, 16⟩
def MBb_ERR_TEC : Fld := ⟨15, 8⟩
def MBb_STAT (n : Nat) : Nat := 0x00047034 + 256 * n
def MBb_STAT_TRX : Fld := ⟨31, 30⟩
def MBb_STAT_TRANS : Fld := ⟨29, 29⟩
def MBb_STAT_BUSY : Fld := ⟨28, 28⟩
def MBb_STAT_FW_CNT : Fld := ⟨23, 16⟩
def MBb_EVT (n : Nat) : Nat := 0x00047038 + 256 * n
def MBb_EVT_CFG_ERR : Fld := ⟨10, 10⟩
def MBb_EVT_REQ_ERR : Fld := ⟨8, 8⟩
def MBb_EVT_MAXAWAKE : Fld := ⟨5, 5⟩
def MBb_EVT_FALSE_WAKE : Fld := ⟨4, 4⟩
def MBb_EVT_WAKE : Fld := ⟨3, 3⟩
def MBb_EVT_BUSOFF : Fld := ⟨2, 2⟩
def MBb_EVT_PASSIVE : Fld := ⟨1, 1⟩
def MBb_EVT_RECOVERED : Fld := ⟨0, 0⟩
def MBb_CNT (n k : Nat) : Nat := 0x00047040 + 256 * n + 4 * k
def MBb_CNT_COUNT : Fld := ⟨31, 0⟩

def regDescsLOOM0 : List RegDesc :=
  [⟨0x00040000, 0x4, 1, 0x1, 1, [⟨LOOM_GCTRL_LOCK, .w1s, 0⟩]⟩,
   ⟨0x00040004, 0x4, 1, 0x1, 1, [⟨LOOM_EVTSUM0_PEND, .ro, 0⟩]⟩,
   ⟨0x00040008, 0x4, 1, 0x1, 1, [⟨LOOM_EVTSUM1_PEND, .ro, 0⟩]⟩,
   ⟨0x0004000C, 0x4, 1, 0x1, 1, [⟨LOOM_EVTSUM2_MB, .ro, 0⟩, ⟨LOOM_EVTSUM2_PC, .ro, 0⟩]⟩,
   ⟨0x00040010, 0x4, 1, 0x1, 1, [⟨LOOM_MDIO_BUSY, .rw, 0⟩, ⟨LOOM_MDIO_OP, .rw, 0⟩, ⟨LOOM_MDIO_PHYAD, .rw, 0⟩, ⟨LOOM_MDIO_REGAD, .rw, 0⟩, ⟨LOOM_MDIO_DATA, .rw, 0⟩]⟩,
   ⟨0x00041000, 0x100, 64, 0x1, 1, [⟨LCn_CFG_EN, .rw, 0⟩, ⟨LCn_CFG_PROTO, .rw, 0⟩, ⟨LCn_CFG_RXMODE, .rw, 0⟩, ⟨LCn_CFG_SELFRX, .rw, 0⟩, ⟨LCn_CFG_TXORD, .rw, 0⟩, ⟨LCn_CFG_AUTO_REC, .rw, 1⟩, ⟨LCn_CFG_LIN_ROLE, .rw, 0⟩, ⟨LCn_CFG_PAD, .rw, 0xcc⟩, ⟨LCn_CFG_BOUND, .rw, 0⟩, ⟨LCn_CFG_TENANT, .rw, 0⟩]⟩,
   ⟨0x00041004, 0x100, 64, 0x1, 1, [⟨LCn_NBT_BRP, .rw, 2⟩, ⟨LCn_NBT_TSEG1, .rw, 0x3f⟩, ⟨LCn_NBT_TSEG2, .rw, 0x10⟩, ⟨LCn_NBT_SJW, .rw, 0x10⟩]⟩,
   ⟨0x00041008, 0x100, 64, 0x1, 1, [⟨LCn_DBT_BRP, .rw, 1⟩, ⟨LCn_DBT_TSEG1, .rw, 0xb⟩, ⟨LCn_DBT_TSEG2, .rw, 4⟩, ⟨LCn_DBT_SJW, .rw, 4⟩]⟩,
   ⟨0x0004100C, 0x100, 64, 0x1, 1, [⟨LCn_TDC_EN, .rw, 0⟩, ⟨LCn_TDC_TDCO, .rw, 0⟩, ⟨LCn_TDC_TDCV, .ro, 0⟩]⟩,
   ⟨0x00041010, 0x100, 64, 0x1, 1, [⟨LCn_LIN_BREAK, .rw, 0xd⟩, ⟨LCn_LIN_SCHED_EN, .rw, 0⟩, ⟨LCn_LIN_SCHED_LEN, .rw, 0⟩]⟩,
   ⟨0x00041014, 0x100, 64, 0x1, 1, [⟨LCn_TRX_REQ, .wo, 0⟩, ⟨LCn_TRX_REQ_V, .wo, 0⟩, ⟨LCn_TRX_MAP, .rw, 0x4b⟩, ⟨LCn_TRX_T_INHON, .rw, 0x14⟩, ⟨LCn_TRX_T_INHOFF, .rw, 5⟩, ⟨LCn_TRX_T_MODE, .rw, 4⟩]⟩,
   ⟨0x00041018, 0x100, 64, 0x1, 1, [⟨LCn_WAKE_EN, .rw, 0⟩, ⟨LCn_WAKE_WMODE, .rw, 0⟩, ⟨LCn_WAKE_TXWAKE, .rw, 0⟩, ⟨LCn_WAKE_TESTMODE, .rw, 0⟩, ⟨LCn_WAKE_WUF_DLC, .rw, 0⟩, ⟨LCn_WAKE_FW_THR, .rw, 0⟩, ⟨LCn_WAKE_WFILT, .rw, 5⟩, ⟨LCn_WAKE_FW_WIN, .rw, 0⟩]⟩,
   ⟨0x0004101C, 0x100, 64, 0x1, 1, [⟨LCn_WTIME_MAXAWAKE, .rw, 0⟩, ⟨LCn_WTIME_SU_FILT, .rw, 0⟩]⟩,
   ⟨0x00041020, 0x100, 64, 0x1, 1, [⟨LCn_WUF_ID_IDE, .rw, 0⟩, ⟨LCn_WUF_ID_DATA_EN, .rw, 0⟩, ⟨LCn_WUF_ID_ID_MASK, .rw, 0⟩]⟩,
   ⟨0x00041024, 0x100, 64, 0x1, 1, [⟨LCn_WUF_MASK_ID_MASK, .rw, 0⟩]⟩,
   ⟨0x00041028, 0x100, 64, 0x1, 1, [⟨LCn_WUF_DATA_LO_DMASK, .rw, 0⟩]⟩,
   ⟨0x0004102C, 0x100, 64, 0x1, 1, [⟨LCn_WUF_DATA_HI_DMASK, .rw, 0⟩]⟩,
   ⟨0x00041030, 0x100, 64, 0x1, 1, [⟨LCn_ERR_STATE, .ro, 0⟩, ⟨LCn_ERR_LEC, .ro, 0⟩, ⟨LCn_ERR_REC, .ro, 0⟩, ⟨LCn_ERR_TEC, .ro, 0⟩, ⟨LCn_ERR_RECOVER, .wo, 0⟩]⟩,
   ⟨0x00041034, 0x100, 64, 0x1, 1, [⟨LCn_STAT_TRX, .ro, 2⟩, ⟨LCn_STAT_TRANS, .ro, 0⟩, ⟨LCn_STAT_BUSY, .ro, 0⟩, ⟨LCn_STAT_RXCUR, .ro, 0⟩, ⟨LCn_STAT_RXSHD, .ro, 0⟩, ⟨LCn_STAT_WAKE_SUPP, .ro, 0⟩, ⟨LCn_STAT_FW_CNT, .ro, 0⟩]⟩,
   ⟨0x00041038, 0x100, 64, 0x1, 1, [⟨LCn_EVT_CFG_ERR, .w1c, 0⟩, ⟨LCn_EVT_SUPP, .w1c, 0⟩, ⟨LCn_EVT_REQ_ERR, .w1c, 0⟩, ⟨LCn_EVT_TSQ_OVF, .w1c, 0⟩, ⟨LCn_EVT_RXOVR, .w1c, 0⟩, ⟨LCn_EVT_MAXAWAKE, .w1c, 0⟩, ⟨LCn_EVT_FALSE_WAKE, .w1c, 0⟩, ⟨LCn_EVT_WAKE, .w1c, 0⟩, ⟨LCn_EVT_BUSOFF, .w1c, 0⟩, ⟨LCn_EVT_PASSIVE, .w1c, 0⟩, ⟨LCn_EVT_RECOVERED, .w1c, 0⟩]⟩,
   ⟨0x0004103C, 0x100, 64, 0x1, 1, [⟨LCn_RXCTL_RELEASE, .wo, 0⟩]⟩,
   ⟨0x00041040, 0x100, 64, 0x4, 14, [⟨LCn_CNT_COUNT, .rc, 0⟩]⟩,
   ⟨0x00041080, 0x100, 64, 0x1, 1, [⟨LCn_TSQ_VALID, .rc, 0⟩, ⟨LCn_TSQ_DISC, .rc, 0⟩, ⟨LCn_TSQ_SRC, .rc, 0⟩, ⟨LCn_TSQ_ID, .rc, 0⟩]⟩,
   ⟨0x00041084, 0x100, 64, 0x1, 1, [⟨LCn_TSQ_MER_LO, .ro, 0⟩]⟩,
   ⟨0x00041088, 0x100, 64, 0x1, 1, [⟨LCn_TSQ_MER_HI, .ro, 0⟩]⟩,
   ⟨0x0004108C, 0x100, 64, 0x1, 1, [⟨LCn_TSQ_TEN_LO, .ro, 0⟩]⟩,
   ⟨0x00041090, 0x100, 64, 0x1, 1, [⟨LCn_TSQ_TEN_HI, .ro, 0⟩]⟩,
   ⟨0x000410A0, 0x100, 64, 0x1, 1, [⟨LCn_PTSS_DROPS, .rc, 0⟩, ⟨LCn_PTSS_OVF, .w1c, 0⟩, ⟨LCn_PTSS_FILL, .ro, 0⟩]⟩,
   ⟨0x00046000, 0x100, 16, 0x1, 1, [⟨PCm_CFG_EN, .rw, 0⟩, ⟨PCm_CFG_PHYAD, .rw, 0⟩, ⟨PCm_CFG_BOUND, .rw, 0⟩, ⟨PCm_CFG_TENANT, .rw, 0⟩]⟩,
   ⟨0x00046004, 0x100, 16, 0x1, 1, [⟨PCm_PLCA_EN, .rw, 0⟩, ⟨PCm_PLCA_MAX_BC, .rw, 0⟩, ⟨PCm_PLCA_TO_TMR, .rw, 0x20⟩, ⟨PCm_PLCA_NODE_CNT, .rw, 8⟩, ⟨PCm_PLCA_NODE_ID, .rw, 0xff⟩]⟩,
   ⟨0x00046008, 0x100, 16, 0x1, 1, [⟨PCm_PLCA2_BURST_TMR, .rw, 0x80⟩]⟩,
   ⟨0x0004600C, 0x100, 16, 0x1, 1, [⟨PCm_TAG_ING_MODE, .rw, 0⟩, ⟨PCm_TAG_EGR_MODE, .rw, 0⟩, ⟨PCm_TAG_TPID_SEL, .rw, 0⟩, ⟨PCm_TAG_DEF_PCP, .rw, 0⟩, ⟨PCm_TAG_PVID, .rw, 1⟩]⟩,
   ⟨0x00046010, 0x100, 16, 0x1, 1, [⟨PCm_FILT_GALL, .rw, 1⟩, ⟨PCm_FILT_BCAST, .rw, 1⟩]⟩,
   ⟨0x00046014, 0x100, 16, 0x1, 1, [⟨PCm_STAT_LINK, .ro, 0⟩, ⟨PCm_STAT_PLCA_ST, .ro, 0⟩]⟩,
   ⟨0x00046018, 0x100, 16, 0x1, 1, [⟨PCm_EVT_TSQ_OVF, .w1c, 0⟩, ⟨PCm_EVT_EXCESS_COLL, .w1c, 0⟩, ⟨PCm_EVT_PLCA_DOWN, .w1c, 0⟩, ⟨PCm_EVT_PLCA_UP, .w1c, 0⟩, ⟨PCm_EVT_LINK_DOWN, .w1c, 0⟩, ⟨PCm_EVT_LINK_UP, .w1c, 0⟩]⟩,
   ⟨0x00046040, 0x100, 16, 0x8, 16, [⟨PCm_STATS_CNT_LO, .rc, 0⟩]⟩,
   ⟨0x00046044, 0x100, 16, 0x8, 16, [⟨PCm_STATS_HI_CNT_HI, .ro, 0⟩]⟩,
   ⟨0x000460C0, 0x100, 16, 0x1, 1, [⟨PCm_TSQ_VALID, .rc, 0⟩, ⟨PCm_TSQ_DISC, .rc, 0⟩, ⟨PCm_TSQ_SRC, .rc, 0⟩, ⟨PCm_TSQ_ID, .rc, 0⟩]⟩,
   ⟨0x000460C4, 0x100, 16, 0x1, 1, [⟨PCm_TSQ_MER_LO, .ro, 0⟩]⟩,
   ⟨0x000460C8, 0x100, 16, 0x1, 1, [⟨PCm_TSQ_MER_HI, .ro, 0⟩]⟩]
def regDescsLOOM1 : List RegDesc :=
  [⟨0x000460CC, 0x100, 16, 0x1, 1, [⟨PCm_TSQ_TEN_LO, .ro, 0⟩]⟩,
   ⟨0x000460D0, 0x100, 16, 0x1, 1, [⟨PCm_TSQ_TEN_HI, .ro, 0⟩]⟩,
   ⟨0x000460E0, 0x100, 16, 0x1, 1, [⟨PCm_PTSS_DROPS, .rc, 0⟩, ⟨PCm_PTSS_OVF, .w1c, 0⟩, ⟨PCm_PTSS_FILL, .ro, 0⟩]⟩,
   ⟨0x00047000, 0x100, 2, 0x1, 1, [⟨MBb_CFG_EN, .rwl, 1⟩, ⟨MBb_CFG_ADDR, .ro, 0⟩]⟩,
   ⟨0x00047004, 0x100, 2, 0x1, 1, [⟨MBb_NBT_BRP, .rwl, 2⟩, ⟨MBb_NBT_TSEG1, .rwl, 0x3f⟩, ⟨MBb_NBT_TSEG2, .rwl, 0x10⟩, ⟨MBb_NBT_SJW, .rwl, 0x10⟩]⟩,
   ⟨0x00047008, 0x100, 2, 0x1, 1, [⟨MBb_DBT_BRP, .rwl, 1⟩, ⟨MBb_DBT_TSEG1, .rwl, 5⟩, ⟨MBb_DBT_TSEG2, .rwl, 2⟩, ⟨MBb_DBT_SJW, .rwl, 2⟩]⟩,
   ⟨0x0004700C, 0x100, 2, 0x1, 1, [⟨MBb_TDC_EN, .rwl, 1⟩, ⟨MBb_TDC_TDCO, .rwl, 0⟩, ⟨MBb_TDC_TDCV, .ro, 0⟩]⟩,
   ⟨0x00047014, 0x100, 2, 0x1, 1, [⟨MBb_TRX_MAP, .rw, 0x4b⟩, ⟨MBb_TRX_T_MODE, .rw, 4⟩]⟩,
   ⟨0x00047018, 0x100, 2, 0x1, 1, [⟨MBb_WAKE_EN, .rwl, 0⟩, ⟨MBb_WAKE_WMODE, .rwl, 0⟩, ⟨MBb_WAKE_TXWAKE, .rwl, 0⟩, ⟨MBb_WAKE_TESTMODE, .rwl, 0⟩, ⟨MBb_WAKE_WUF_DLC, .rwl, 0⟩, ⟨MBb_WAKE_WFILT, .rwl, 5⟩]⟩,
   ⟨0x0004701C, 0x100, 2, 0x1, 1, [⟨MBb_WTIME_SU_FILT, .rwl, 0⟩]⟩,
   ⟨0x00047020, 0x100, 2, 0x1, 1, [⟨MBb_WUF_ID_IDE, .rwl, 0⟩, ⟨MBb_WUF_ID_DATA_EN, .rwl, 0⟩, ⟨MBb_WUF_ID_ID_MASK, .rwl, 0⟩]⟩,
   ⟨0x00047024, 0x100, 2, 0x1, 1, [⟨MBb_WUF_MASK_ID_MASK, .rwl, 0⟩]⟩,
   ⟨0x00047028, 0x100, 2, 0x1, 1, [⟨MBb_WUF_DATA_LO_DMASK, .rwl, 0⟩]⟩,
   ⟨0x0004702C, 0x100, 2, 0x1, 1, [⟨MBb_WUF_DATA_HI_DMASK, .rwl, 0⟩]⟩,
   ⟨0x00047030, 0x100, 2, 0x1, 1, [⟨MBb_ERR_STATE, .ro, 0⟩, ⟨MBb_ERR_LEC, .ro, 0⟩, ⟨MBb_ERR_REC, .ro, 0⟩, ⟨MBb_ERR_TEC, .ro, 0⟩]⟩,
   ⟨0x00047034, 0x100, 2, 0x1, 1, [⟨MBb_STAT_TRX, .ro, 2⟩, ⟨MBb_STAT_TRANS, .ro, 0⟩, ⟨MBb_STAT_BUSY, .ro, 0⟩, ⟨MBb_STAT_FW_CNT, .ro, 0⟩]⟩,
   ⟨0x00047038, 0x100, 2, 0x1, 1, [⟨MBb_EVT_CFG_ERR, .w1c, 0⟩, ⟨MBb_EVT_REQ_ERR, .w1c, 0⟩, ⟨MBb_EVT_MAXAWAKE, .w1c, 0⟩, ⟨MBb_EVT_FALSE_WAKE, .w1c, 0⟩, ⟨MBb_EVT_WAKE, .w1c, 0⟩, ⟨MBb_EVT_BUSOFF, .w1c, 0⟩, ⟨MBb_EVT_PASSIVE, .w1c, 0⟩, ⟨MBb_EVT_RECOVERED, .w1c, 0⟩]⟩,
   ⟨0x00047040, 0x100, 2, 0x4, 14, [⟨MBb_CNT_COUNT, .rc, 0⟩]⟩]
def regDescsLOOM : List RegDesc := regDescsLOOM0 ++ regDescsLOOM1

/-! ### VBUS -/

def VBUS_GCTRL : Nat := 0x00080000
def VBUS_GCTRL_LOCK : Fld := ⟨31, 31⟩
def VBUS_GCTRL_CTLTYPE : Fld := ⟨6, 0⟩
def VBUS_EVTSUMw (n : Nat) : Nat := 0x00080100 + 4 * n
def VBUS_EVTSUMw_PEND : Fld := ⟨31, 0⟩
def VBn_CFG (n : Nat) : Nat := 0x00081000 + 64 * n
def VBn_CFG_EN : Fld := ⟨31, 31⟩
def VBn_CFG_PROTO : Fld := ⟨30, 29⟩
def VBn_CFG_LIN_CMDR : Fld := ⟨28, 28⟩
def VBn_CFG_CMDR_MEMBER : Fld := ⟨27, 24⟩
def VBn_CFG_PAD : Fld := ⟨23, 16⟩
def VBn_CFG_SELFRX : Fld := ⟨15, 15⟩
def VBn_CFG_BOUND : Fld := ⟨10, 10⟩
def VBn_CFG_TENANT : Fld := ⟨9, 0⟩
def VBn_NBT (n : Nat) : Nat := 0x00081004 + 64 * n
def VBn_NBT_NBT : Fld := ⟨21, 0⟩
def VBn_DBT (n : Nat) : Nat := 0x00081008 + 64 * n
def VBn_DBT_DBT : Fld := ⟨17, 0⟩
def VBn_LEAD (n : Nat) : Nat := 0x0008100C + 64 * n
def VBn_LEAD_LEAD : Fld := ⟨19, 0⟩
def VBn_GWDLY (n : Nat) : Nat := 0x00081010 + 64 * n
def VBn_GWDLY_GW_DLY : Fld := ⟨23, 0⟩
def VBn_LIN (n : Nat) : Nat := 0x00081014 + 64 * n
def VBn_LIN_BREAK : Fld := ⟨28, 24⟩
def VBn_LIN_SCHED_EN : Fld := ⟨21, 21⟩
def VBn_LIN_SCHED_BASE : Fld := ⟨20, 7⟩
def VBn_LIN_SCHED_LEN : Fld := ⟨6, 0⟩
def VBn_WAKE (n : Nat) : Nat := 0x00081018 + 64 * n
def VBn_WAKE_EN : Fld := ⟨31, 31⟩
def VBn_WAKE_WMODE : Fld := ⟨30, 30⟩
def VBn_WAKE_WF_DELIVER : Fld := ⟨29, 29⟩
def VBn_WAKE_TESTMODE : Fld := ⟨28, 28⟩
def VBn_WAKE_WUF_DLC : Fld := ⟨27, 24⟩
def VBn_WAKE_FW_THR : Fld := ⟨23, 16⟩
def VBn_WAKE_FW_WIN : Fld := ⟨15, 0⟩
def VBn_WTIME (n : Nat) : Nat := 0x0008101C + 64 * n
def VBn_WTIME_MAXAWAKE : Fld := ⟨31, 16⟩
def VBn_WTIME_SU_FILT : Fld := ⟨15, 0⟩
def VBn_WUF_ID (n : Nat) : Nat := 0x00081020 + 64 * n
def VBn_WUF_MASK (n : Nat) : Nat := 0x00081024 + 64 * n
def VBn_WUF_DATA_LO (n : Nat) : Nat := 0x00081028 + 64 * n
def VBn_WUF_DATA_HI (n : Nat) : Nat := 0x0008102C + 64 * n
def VBn_SLEEP (n : Nat) : Nat := 0x00081030 + 64 * n
def VBn_SLEEP_REQ : Fld := ⟨31, 30⟩
def VBn_SLEEP_IDLE_SLEEP : Fld := ⟨15, 0⟩
def VBn_STAT (n : Nat) : Nat := 0x00081034 + 64 * n
def VBn_STAT_STOPPED : Fld := ⟨31, 31⟩
def VBn_STAT_ASLEEP : Fld := ⟨30, 30⟩
def VBn_STAT_WAKE_SUPP : Fld := ⟨29, 29⟩
def VBn_STAT_FW_CNT : Fld := ⟨23, 16⟩
def VBn_STAT_PENDING : Fld := ⟨6, 0⟩
def VBn_EVT (n : Nat) : Nat := 0x00081038 + 64 * n
def VBn_EVT_SEQ_GAP : Fld := ⟨11, 11⟩
def VBn_EVT_FMT_ERR : Fld := ⟨10, 10⟩
def VBn_EVT_REQ_DROP : Fld := ⟨9, 9⟩
def VBn_EVT_SLEEP : Fld := ⟨8, 8⟩
def VBn_EVT_MAXAWAKE : Fld := ⟨7, 7⟩
def VBn_EVT_SUPP : Fld := ⟨6, 6⟩
def VBn_EVT_FALSE_WAKE : Fld := ⟨5, 5⟩
def VBn_EVT_WAKE : Fld := ⟨4, 4⟩
def VBn_EVT_BUSOFF : Fld := ⟨3, 3⟩
def VBn_EVT_LATE : Fld := ⟨2, 2⟩
def VBn_EVT_ARB_LAG : Fld := ⟨1, 1⟩
def VBn_EVT_CFG_ERR : Fld := ⟨0, 0⟩
def VBn_LOAD (n : Nat) : Nat := 0x0008103C + 64 * n
def VBn_LOAD_LOAD : Fld := ⟨31, 16⟩
def VBn_LOAD_WIN : Fld := ⟨15, 0⟩

def regDescsVBUS0 : List RegDesc :=
  [⟨0x00080000, 0x4, 1, 0x1, 1, [⟨VBUS_GCTRL_LOCK, .w1s, 0⟩, ⟨VBUS_GCTRL_CTLTYPE, .rwl, 0x7c⟩]⟩,
   ⟨0x00080100, 0x4, 128, 0x1, 1, [⟨VBUS_EVTSUMw_PEND, .ro, 0⟩]⟩,
   ⟨0x00081000, 0x40, 4096, 0x1, 1, [⟨VBn_CFG_EN, .rw, 0⟩, ⟨VBn_CFG_PROTO, .rw, 0⟩, ⟨VBn_CFG_LIN_CMDR, .rw, 0⟩, ⟨VBn_CFG_CMDR_MEMBER, .rw, 0⟩, ⟨VBn_CFG_PAD, .rw, 0xcc⟩, ⟨VBn_CFG_SELFRX, .rw, 0⟩, ⟨VBn_CFG_BOUND, .rw, 0⟩, ⟨VBn_CFG_TENANT, .rw, 0⟩]⟩,
   ⟨0x00081004, 0x40, 4096, 0x1, 1, [⟨VBn_NBT_NBT, .rw, 0xfa0⟩]⟩,
   ⟨0x00081008, 0x40, 4096, 0x1, 1, [⟨VBn_DBT_DBT, .rw, 0x3e8⟩]⟩,
   ⟨0x0008100C, 0x40, 4096, 0x1, 1, [⟨VBn_LEAD_LEAD, .rw, 0x30d40⟩]⟩,
   ⟨0x00081010, 0x40, 4096, 0x1, 1, [⟨VBn_GWDLY_GW_DLY, .rw, 0⟩]⟩,
   ⟨0x00081014, 0x40, 4096, 0x1, 1, [⟨VBn_LIN_BREAK, .rw, 0xd⟩, ⟨VBn_LIN_SCHED_EN, .rw, 0⟩, ⟨VBn_LIN_SCHED_BASE, .rw, 0⟩, ⟨VBn_LIN_SCHED_LEN, .rw, 0⟩]⟩,
   ⟨0x00081018, 0x40, 4096, 0x1, 1, [⟨VBn_WAKE_EN, .rw, 0⟩, ⟨VBn_WAKE_WMODE, .rw, 0⟩, ⟨VBn_WAKE_WF_DELIVER, .rw, 0⟩, ⟨VBn_WAKE_TESTMODE, .rw, 0⟩, ⟨VBn_WAKE_WUF_DLC, .rw, 0⟩, ⟨VBn_WAKE_FW_THR, .rw, 0⟩, ⟨VBn_WAKE_FW_WIN, .rw, 0⟩]⟩,
   ⟨0x0008101C, 0x40, 4096, 0x1, 1, [⟨VBn_WTIME_MAXAWAKE, .rw, 0⟩, ⟨VBn_WTIME_SU_FILT, .rw, 0⟩]⟩,
   ⟨0x00081020, 0x40, 4096, 0x1, 1, [⟨LCn_WUF_ID_IDE, .rw, 0⟩, ⟨LCn_WUF_ID_DATA_EN, .rw, 0⟩, ⟨LCn_WUF_ID_ID_MASK, .rw, 0⟩]⟩,
   ⟨0x00081024, 0x40, 4096, 0x1, 1, [⟨LCn_WUF_MASK_ID_MASK, .rw, 0⟩]⟩,
   ⟨0x00081028, 0x40, 4096, 0x1, 1, [⟨LCn_WUF_DATA_LO_DMASK, .rw, 0⟩]⟩,
   ⟨0x0008102C, 0x40, 4096, 0x1, 1, [⟨LCn_WUF_DATA_HI_DMASK, .rw, 0⟩]⟩,
   ⟨0x00081030, 0x40, 4096, 0x1, 1, [⟨VBn_SLEEP_REQ, .wo, 0⟩, ⟨VBn_SLEEP_IDLE_SLEEP, .rw, 0⟩]⟩,
   ⟨0x00081034, 0x40, 4096, 0x1, 1, [⟨VBn_STAT_STOPPED, .ro, 1⟩, ⟨VBn_STAT_ASLEEP, .ro, 0⟩, ⟨VBn_STAT_WAKE_SUPP, .ro, 0⟩, ⟨VBn_STAT_FW_CNT, .ro, 0⟩, ⟨VBn_STAT_PENDING, .ro, 0⟩]⟩,
   ⟨0x00081038, 0x40, 4096, 0x1, 1, [⟨VBn_EVT_SEQ_GAP, .w1c, 0⟩, ⟨VBn_EVT_FMT_ERR, .w1c, 0⟩, ⟨VBn_EVT_REQ_DROP, .w1c, 0⟩, ⟨VBn_EVT_SLEEP, .w1c, 0⟩, ⟨VBn_EVT_MAXAWAKE, .w1c, 0⟩, ⟨VBn_EVT_SUPP, .w1c, 0⟩, ⟨VBn_EVT_FALSE_WAKE, .w1c, 0⟩, ⟨VBn_EVT_WAKE, .w1c, 0⟩, ⟨VBn_EVT_BUSOFF, .w1c, 0⟩, ⟨VBn_EVT_LATE, .w1c, 0⟩, ⟨VBn_EVT_ARB_LAG, .w1c, 0⟩, ⟨VBn_EVT_CFG_ERR, .w1c, 0⟩]⟩,
   ⟨0x0008103C, 0x40, 4096, 0x1, 1, [⟨VBn_LOAD_LOAD, .ro, 0⟩, ⟨VBn_LOAD_WIN, .rw, 0x64⟩]⟩]
def regDescsVBUS : List RegDesc := regDescsVBUS0

/-! ### PANEL -/

def PANEL_STCTRL : Nat := 0x00100000
def PANEL_STCTRL_LOCK : Fld := ⟨31, 31⟩
def PANEL_STCTRL_STALL_LIMIT : Fld := ⟨15, 0⟩
def PANEL_STEVT : Nat := 0x00100004
def PANEL_STEVT_CQ_LOST : Fld := ⟨5, 5⟩
def PANEL_STEVT_PUT_FAIL : Fld := ⟨4, 4⟩
def PANEL_STEVT_INQ_FULL : Fld := ⟨3, 3⟩
def PANEL_STEVT_SUSP : Fld := ⟨2, 2⟩
def PANEL_STEVT_EXC : Fld := ⟨1, 1⟩
def PANEL_STEVT_OWN_ERR : Fld := ⟨0, 0⟩
def PANEL_HEAPWIN : Nat := 0x00100008
def PANEL_HEAPWIN_STACK : Fld := ⟨31, 31⟩
def PANEL_HEAPWIN_WIN : Fld := ⟨8, 0⟩
def PANEL_CQ0 : Nat := 0x00100010
def PANEL_CQ0_WORD : Fld := ⟨31, 0⟩
def PANEL_CQk (n : Nat) : Nat := 0x00100014 + 4 * n
def PANEL_CQk_WORD : Fld := ⟨31, 0⟩
def PANEL_CQFILL : Nat := 0x00100020
def PANEL_CQFILL_FILL : Fld := ⟨11, 0⟩
def PANEL_ENGe_STAT (e : Nat) : Nat := 0x00101000 + 0x20000 * (e / 8) + 256 * (e % 8)
def PANEL_ENGe_STAT_BUSY : Fld := ⟨31, 31⟩
def PANEL_ENGe_STAT_STALLED : Fld := ⟨30, 30⟩
def PANEL_ENGe_STAT_INQ : Fld := ⟨29, 24⟩
def PANEL_ENGe_STAT_EMITS : Fld := ⟨21, 17⟩
def PANEL_ENGe_STAT_CREDITS : Fld := ⟨16, 12⟩
def PANEL_ENGe_STAT_PROGRAM : Fld := ⟨11, 0⟩
def PANEL_ENGe_CNTc (e : Nat) : Nat := 0x00101010 + 0x20000 * (e / 8) + 256 * (e % 8)
def PANEL_ENGe_CNTc_COUNT : Fld := ⟨31, 0⟩
def PANEL_ENGe_INSTR (e : Nat) : Nat := 0x00101040 + 0x20000 * (e / 8) + 256 * (e % 8)
def PANEL_ENGe_INSTR_CNT_LO : Fld := ⟨31, 0⟩
def PANEL_ENGe_INSTR_HI (e : Nat) : Nat := 0x00101044 + 0x20000 * (e / 8) + 256 * (e % 8)
def PANEL_ENGe_INSTR_HI_CNT_HI : Fld := ⟨31, 0⟩

def regDescsPANEL0 : List RegDesc :=
  [⟨0x00100000, 0x4, 1, 0x1, 1, [⟨PANEL_STCTRL_LOCK, .w1s, 0⟩, ⟨PANEL_STCTRL_STALL_LIMIT, .rwl, 0x64⟩]⟩,
   ⟨0x00100004, 0x4, 1, 0x1, 1, [⟨PANEL_STEVT_CQ_LOST, .w1c, 0⟩, ⟨PANEL_STEVT_PUT_FAIL, .w1c, 0⟩, ⟨PANEL_STEVT_INQ_FULL, .w1c, 0⟩, ⟨PANEL_STEVT_SUSP, .w1c, 0⟩, ⟨PANEL_STEVT_EXC, .w1c, 0⟩, ⟨PANEL_STEVT_OWN_ERR, .w1c, 0⟩]⟩,
   ⟨0x00100008, 0x4, 1, 0x1, 1, [⟨PANEL_HEAPWIN_STACK, .rw, 0⟩, ⟨PANEL_HEAPWIN_WIN, .rw, 0⟩]⟩,
   ⟨0x00100010, 0x4, 1, 0x1, 1, [⟨PANEL_CQ0_WORD, .rc, 0⟩]⟩,
   ⟨0x00100014, 0x4, 3, 0x1, 1, [⟨PANEL_CQk_WORD, .ro, 0⟩]⟩,
   ⟨0x00100020, 0x4, 1, 0x1, 1, [⟨PANEL_CQFILL_FILL, .ro, 0⟩]⟩,
   ⟨0x00101000, 0x20000, 16, 0x100, 8, [⟨PANEL_ENGe_STAT_BUSY, .ro, 0⟩, ⟨PANEL_ENGe_STAT_STALLED, .ro, 0⟩, ⟨PANEL_ENGe_STAT_INQ, .ro, 0⟩, ⟨PANEL_ENGe_STAT_EMITS, .ro, 0⟩, ⟨PANEL_ENGe_STAT_CREDITS, .ro, 0x10⟩, ⟨PANEL_ENGe_STAT_PROGRAM, .ro, 0⟩]⟩,
   ⟨0x00101010, 0x20000, 16, 0x100, 8, [⟨PANEL_ENGe_CNTc_COUNT, .rc, 0⟩]⟩,
   ⟨0x00101014, 0x20000, 16, 0x100, 8, [⟨PANEL_ENGe_CNTc_COUNT, .rc, 0⟩]⟩,
   ⟨0x00101018, 0x20000, 16, 0x100, 8, [⟨PANEL_ENGe_CNTc_COUNT, .rc, 0⟩]⟩,
   ⟨0x0010101C, 0x20000, 16, 0x100, 8, [⟨PANEL_ENGe_CNTc_COUNT, .rc, 0⟩]⟩,
   ⟨0x00101020, 0x20000, 16, 0x100, 8, [⟨PANEL_ENGe_CNTc_COUNT, .rc, 0⟩]⟩,
   ⟨0x00101024, 0x20000, 16, 0x100, 8, [⟨PANEL_ENGe_CNTc_COUNT, .rc, 0⟩]⟩,
   ⟨0x00101028, 0x20000, 16, 0x100, 8, [⟨PANEL_ENGe_CNTc_COUNT, .rc, 0⟩]⟩,
   ⟨0x0010102C, 0x20000, 16, 0x100, 8, [⟨PANEL_ENGe_CNTc_COUNT, .rc, 0⟩]⟩,
   ⟨0x00101040, 0x20000, 16, 0x100, 8, [⟨PANEL_ENGe_INSTR_CNT_LO, .rc, 0⟩]⟩,
   ⟨0x00101044, 0x20000, 16, 0x100, 8, [⟨PANEL_ENGe_INSTR_HI_CNT_HI, .ro, 0⟩]⟩]
def regDescsPANEL : List RegDesc := regDescsPANEL0

/-! ### PORT -/

def PORT_CFGn (n : Nat) : Nat := 0x00300000 + 64 * n
def PORT_CFGn_EN : Fld := ⟨31, 31⟩
def PORT_CFGn_LANES : Fld := ⟨29, 27⟩
def PORT_CFGn_SPEED : Fld := ⟨26, 24⟩
def PORT_CFGn_FEC : Fld := ⟨23, 22⟩
def PORT_CFGn_MEDIA : Fld := ⟨21, 20⟩
def PORT_CFGn_AN_EN : Fld := ⟨19, 19⟩
def PORT_CFGn_GPTP : Fld := ⟨18, 18⟩
def PORT_CFGn_BOUND : Fld := ⟨10, 10⟩
def PORT_CFGn_TENANT : Fld := ⟨9, 0⟩
def PORT_STATn (n : Nat) : Nat := 0x00300004 + 64 * n
def PORT_STATn_LINK : Fld := ⟨31, 31⟩
def PORT_STATn_STOPPED : Fld := ⟨30, 30⟩
def PORT_STATn_LPI_TX : Fld := ⟨29, 29⟩
def PORT_STATn_LPI_RX : Fld := ⟨28, 28⟩
def PORT_STATn_RFAULT : Fld := ⟨27, 27⟩
def PORT_STATn_LFAULT : Fld := ⟨26, 26⟩
def PORT_STATn_PVS : Fld := ⟨25, 24⟩
def PORT_STATn_GATE_OPER : Fld := ⟨23, 23⟩
def PORT_STATn_GATE_PEND : Fld := ⟨22, 22⟩
def PORT_STATn_TRAIN : Fld := ⟨21, 20⟩
def PORT_EVTn (n : Nat) : Nat := 0x00300008 + 64 * n
def PORT_EVTn_RFAULT : Fld := ⟨7, 7⟩
def PORT_EVTn_GATE_ERR : Fld := ⟨6, 6⟩
def PORT_EVTn_GATE_CHG : Fld := ⟨5, 5⟩
def PORT_EVTn_VERIFY_FAIL : Fld := ⟨4, 4⟩
def PORT_EVTn_CFG_ERR : Fld := ⟨3, 3⟩
def PORT_EVTn_TRAIN_FAIL : Fld := ⟨2, 2⟩
def PORT_EVTn_LINK_DOWN : Fld := ⟨1, 1⟩
def PORT_EVTn_LINK_UP : Fld := ⟨0, 0⟩
def PORT_LINKTn (n : Nat) : Nat := 0x0030000C + 64 * n
def PORT_LINKTn_UP_HOLD : Fld := ⟨23, 16⟩
def PORT_LINKTn_DN_HOLD : Fld := ⟨7, 0⟩
def PORT_FRAMEn (n : Nat) : Nat := 0x00300010 + 64 * n
def PORT_FRAMEn_MAXLEN : Fld := ⟨13, 0⟩
def PORT_TAGn (n : Nat) : Nat := 0x00300014 + 64 * n
def PORT_TAGn_ING_MODE : Fld := ⟨31, 30⟩
def PORT_TAGn_EGR_MODE : Fld := ⟨29, 28⟩
def PORT_TAGn_TPID_SEL : Fld := ⟨27, 26⟩
def PORT_TAGn_DEF_PCP : Fld := ⟨22, 20⟩
def PORT_TAGn_PVID : Fld := ⟨11, 0⟩
def PORT_PCPQn (n : Nat) : Nat := 0x00300018 + 64 * n
def PORT_PCPQn_Q7_Q0 : Fld := ⟨31, 0⟩
def PORT_FILTn (n : Nat) : Nat := 0x0030001C + 64 * n
def PORT_FILTn_GALL : Fld := ⟨31, 31⟩
def PORT_FILTn_BCAST : Fld := ⟨30, 30⟩
def PORT_LPIn (n : Nat) : Nat := 0x00300020 + 64 * n
def PORT_LPIn_EN : Fld := ⟨31, 31⟩
def PORT_LPIn_IDLE : Fld := ⟨15, 0⟩
def PORT_PREn (n : Nat) : Nat := 0x00300024 + 64 * n
def PORT_PREn_EN : Fld := ⟨31, 31⟩
def PORT_PREn_VERIFY_DIS : Fld := ⟨30, 30⟩
def PORT_PREn_ADDFRAG : Fld := ⟨29, 28⟩
def PORT_PREn_VERIFY_TIME : Fld := ⟨23, 16⟩
def PORT_PREn_PMASK : Fld := ⟨15, 0⟩
def PORT_GCTLn (n : Nat) : Nat := 0x00300028 + 64 * n
def PORT_GCTLn_EN : Fld := ⟨31, 31⟩
def PORT_GCTLn_CHANGE : Fld := ⟨30, 30⟩
def PORT_GCTLn_ADMIN_LEN : Fld := ⟨22, 16⟩
def PORT_GCTLn_INIT_GATES : Fld := ⟨15, 0⟩
def PORT_GCYCLEn (n : Nat) : Nat := 0x0030002C + 64 * n
def PORT_GCYCLEn_CYCLE : Fld := ⟨31, 0⟩
def PORT_GBASE_LOn (n : Nat) : Nat := 0x00300030 + 64 * n
def PORT_GBASE_LOn_BASE : Fld := ⟨31, 0⟩
def PORT_GBASE_HIn (n : Nat) : Nat := 0x00300034 + 64 * n
def PORT_GBASE_HIn_BASE : Fld := ⟨31, 0⟩
def PORT_GEXTn (n : Nat) : Nat := 0x00300038 + 64 * n
def PORT_GEXTn_EXT : Fld := ⟨31, 0⟩
def PORT_STATSn (n k : Nat) : Nat := 0x00310000 + 128 * n + 8 * k
def PORT_STATSn_CNT_LO : Fld := ⟨31, 0⟩
def PORT_STATSn_HI (n k : Nat) : Nat := 0x00310004 + 128 * n + 8 * k
def PORT_STATSn_HI_CNT_HI : Fld := ⟨31, 0⟩
def PORT_GCTRL : Nat := 0x00330000
def PORT_GCTRL_LOCK : Fld := ⟨31, 31⟩
def PORT_GCTRL_TPID_ALT : Fld := ⟨15, 0⟩
def PORT_REFSTAT : Nat := 0x00330004
def PORT_REFSTAT_LOST : Fld := ⟨31, 16⟩
def PORT_REFSTAT_PRESENT : Fld := ⟨15, 0⟩
def PORT_EVTSUMw (n : Nat) : Nat := 0x00330100 + 4 * n
def PORT_EVTSUMw_PEND : Fld := ⟨31, 0⟩

def regDescsPORT0 : List RegDesc :=
  [⟨0x00300000, 0x40, 1024, 0x1, 1, [⟨PORT_CFGn_EN, .rw, 0⟩, ⟨PORT_CFGn_LANES, .rwl, 0⟩, ⟨PORT_CFGn_SPEED, .rwl, 0⟩, ⟨PORT_CFGn_FEC, .rwl, 0⟩, ⟨PORT_CFGn_MEDIA, .rwl, 0⟩, ⟨PORT_CFGn_AN_EN, .rwl, 1⟩, ⟨PORT_CFGn_GPTP, .rwl, 0⟩, ⟨PORT_CFGn_BOUND, .rw, 0⟩, ⟨PORT_CFGn_TENANT, .rw, 0⟩]⟩,
   ⟨0x00300004, 0x40, 1024, 0x1, 1, [⟨PORT_STATn_LINK, .ro, 0⟩, ⟨PORT_STATn_STOPPED, .ro, 1⟩, ⟨PORT_STATn_LPI_TX, .ro, 0⟩, ⟨PORT_STATn_LPI_RX, .ro, 0⟩, ⟨PORT_STATn_RFAULT, .ro, 0⟩, ⟨PORT_STATn_LFAULT, .ro, 0⟩, ⟨PORT_STATn_PVS, .ro, 0⟩, ⟨PORT_STATn_GATE_OPER, .ro, 0⟩, ⟨PORT_STATn_GATE_PEND, .ro, 0⟩, ⟨PORT_STATn_TRAIN, .ro, 0⟩]⟩,
   ⟨0x00300008, 0x40, 1024, 0x1, 1, [⟨PORT_EVTn_RFAULT, .w1c, 0⟩, ⟨PORT_EVTn_GATE_ERR, .w1c, 0⟩, ⟨PORT_EVTn_GATE_CHG, .w1c, 0⟩, ⟨PORT_EVTn_VERIFY_FAIL, .w1c, 0⟩, ⟨PORT_EVTn_CFG_ERR, .w1c, 0⟩, ⟨PORT_EVTn_TRAIN_FAIL, .w1c, 0⟩, ⟨PORT_EVTn_LINK_DOWN, .w1c, 0⟩, ⟨PORT_EVTn_LINK_UP, .w1c, 0⟩]⟩,
   ⟨0x0030000C, 0x40, 1024, 0x1, 1, [⟨PORT_LINKTn_UP_HOLD, .rw, 0xa⟩, ⟨PORT_LINKTn_DN_HOLD, .rw, 2⟩]⟩,
   ⟨0x00300010, 0x40, 1024, 0x1, 1, [⟨PORT_FRAMEn_MAXLEN, .rw, 0x2400⟩]⟩,
   ⟨0x00300014, 0x40, 1024, 0x1, 1, [⟨PORT_TAGn_ING_MODE, .rw, 0⟩, ⟨PORT_TAGn_EGR_MODE, .rw, 0⟩, ⟨PORT_TAGn_TPID_SEL, .rw, 0⟩, ⟨PORT_TAGn_DEF_PCP, .rw, 0⟩, ⟨PORT_TAGn_PVID, .rw, 1⟩]⟩,
   ⟨0x00300018, 0x40, 1024, 0x1, 1, [⟨PORT_PCPQn_Q7_Q0, .rw, 0xeca86420⟩]⟩,
   ⟨0x0030001C, 0x40, 1024, 0x1, 1, [⟨PORT_FILTn_GALL, .rw, 1⟩, ⟨PORT_FILTn_BCAST, .rw, 1⟩]⟩,
   ⟨0x00300020, 0x40, 1024, 0x1, 1, [⟨PORT_LPIn_EN, .rw, 0⟩, ⟨PORT_LPIn_IDLE, .rw, 0x32⟩]⟩,
   ⟨0x00300024, 0x40, 1024, 0x1, 1, [⟨PORT_PREn_EN, .rw, 0⟩, ⟨PORT_PREn_VERIFY_DIS, .rw, 0⟩, ⟨PORT_PREn_ADDFRAG, .rw, 0⟩, ⟨PORT_PREn_VERIFY_TIME, .rw, 0xa⟩, ⟨PORT_PREn_PMASK, .rw, 0⟩]⟩,
   ⟨0x00300028, 0x40, 1024, 0x1, 1, [⟨PORT_GCTLn_EN, .rw, 0⟩, ⟨PORT_GCTLn_CHANGE, .wo, 0⟩, ⟨PORT_GCTLn_ADMIN_LEN, .rw, 1⟩, ⟨PORT_GCTLn_INIT_GATES, .rw, 0xffff⟩]⟩,
   ⟨0x0030002C, 0x40, 1024, 0x1, 1, [⟨PORT_GCYCLEn_CYCLE, .rw, 0x1e8480⟩]⟩,
   ⟨0x00300030, 0x40, 1024, 0x1, 1, [⟨PORT_GBASE_LOn_BASE, .rw, 0⟩]⟩,
   ⟨0x00300034, 0x40, 1024, 0x1, 1, [⟨PORT_GBASE_HIn_BASE, .rw, 0⟩]⟩,
   ⟨0x00300038, 0x40, 1024, 0x1, 1, [⟨PORT_GEXTn_EXT, .rw, 0⟩]⟩,
   ⟨0x0030003C, 0x40, 1024, 0x1, 1, []⟩,
   ⟨0x00310000, 0x80, 1024, 0x8, 16, [⟨PORT_STATSn_CNT_LO, .rc, 0⟩]⟩,
   ⟨0x00310004, 0x80, 1024, 0x8, 16, [⟨PORT_STATSn_HI_CNT_HI, .ro, 0⟩]⟩,
   ⟨0x00330000, 0x4, 1, 0x1, 1, [⟨PORT_GCTRL_LOCK, .w1s, 0⟩, ⟨PORT_GCTRL_TPID_ALT, .rwl, 0x9100⟩]⟩,
   ⟨0x00330004, 0x4, 1, 0x1, 1, [⟨PORT_REFSTAT_LOST, .w1c, 0⟩, ⟨PORT_REFSTAT_PRESENT, .ro, 0⟩]⟩,
   ⟨0x00330100, 0x4, 32, 0x1, 1, [⟨PORT_EVTSUMw_PEND, .ro, 0⟩]⟩]
def regDescsPORT : List RegDesc := regDescsPORT0

/-! ### CORE -/

def CORE_CTRL : Nat := 0x00340000
def CORE_CTRL_LOCK : Fld := ⟨31, 31⟩
def CORE_CTRL_SPILL_EN : Fld := ⟨30, 30⟩
def CORE_CTRL_SV_EN : Fld := ⟨29, 29⟩
def CORE_CTRL_SV_WRAP : Fld := ⟨28, 28⟩
def CORE_EVT : Nat := 0x00340004
def CORE_EVT_LAG_CHG : Fld := ⟨6, 6⟩
def CORE_EVT_POL_REMOTE : Fld := ⟨5, 5⟩
def CORE_EVT_CTRL_DROP : Fld := ⟨4, 4⟩
def CORE_EVT_SV_FULL : Fld := ⟨3, 3⟩
def CORE_EVT_SV_DROP : Fld := ⟨2, 2⟩
def CORE_EVT_SPILL_ERR : Fld := ⟨1, 1⟩
def CORE_EVT_SPILL_FULL : Fld := ⟨0, 0⟩
def CORE_HSELk (n : Nat) : Nat := 0x00340100 + 8 * n
def CORE_HSELk_SEL : Fld := ⟨10, 0⟩
def CORE_HSEEDk (n : Nat) : Nat := 0x00340104 + 8 * n
def CORE_HSEEDk_SEED : Fld := ⟨31, 0⟩
def CORE_SVWIN : Nat := 0x00340200
def CORE_SVWIN_HALF : Fld := ⟨31, 31⟩
def CORE_SVWIN_WIN : Fld := ⟨12, 0⟩
def CORE_SVWPTR0 : Nat := 0x00340204
def CORE_SVWPTR0_WRAPPED : Fld := ⟨31, 31⟩
def CORE_SVWPTR0_WPTR : Fld := ⟨21, 0⟩
def CORE_SVWPTR1 : Nat := 0x00340208
def CORE_SVWPTR1_WRAPPED : Fld := ⟨31, 31⟩
def CORE_SVWPTR1_WPTR : Fld := ⟨21, 0⟩
def CORE_SVRPTR0 : Nat := 0x0034020C
def CORE_SVRPTR0_RPTR : Fld := ⟨21, 0⟩
def CORE_SVRPTR1 : Nat := 0x00340210
def CORE_SVRPTR1_RPTR : Fld := ⟨21, 0⟩
def CORE_SVSEQ0 : Nat := 0x00340214
def CORE_SVSEQ0_SEQ : Fld := ⟨31, 0⟩
def CORE_SVSEQ1 : Nat := 0x00340218
def CORE_SVSEQ1_SEQ : Fld := ⟨31, 0⟩
def CORE_SPUSE0 : Nat := 0x00340220
def CORE_SPUSE0_CELLS : Fld := ⟨25, 0⟩
def CORE_SPUSE1 : Nat := 0x00340224
def CORE_SPUSE1_CELLS : Fld := ⟨25, 0⟩
def CORE_PNLp_ALPHA0 (n : Nat) : Nat := 0x00341000 + 256 * n
def CORE_PNLp_ALPHA0_E7_E0_ALPHA0_E15_E8_ALPHA1_ : Fld := ⟨31, 0⟩
def CORE_PNLp_ALPHA1 (n : Nat) : Nat := 0x00341004 + 256 * n
def CORE_PNLp_ALPHA1_E7_E0_ALPHA0_E15_E8_ALPHA1_ : Fld := ⟨31, 0⟩
def CORE_PNLp_SPILLCFG (n : Nat) : Nat := 0x00341008 + 256 * n
def CORE_PNLp_SPILLCFG_SPILL_MARK : Fld := ⟨31, 16⟩
def CORE_PNLp_SPILLCFG_HYST : Fld := ⟨15, 0⟩
def CORE_PNLp_RECALL (n : Nat) : Nat := 0x0034100C + 256 * n
def CORE_PNLp_RECALL_RECALL_MARK : Fld := ⟨15, 0⟩
def CORE_PNLp_FREE (n : Nat) : Nat := 0x00341010 + 256 * n
def CORE_PNLp_FREE_CTRL_FREE : Fld := ⟨31, 16⟩
def CORE_PNLp_FREE_SHARED_FREE : Fld := ⟨15, 0⟩
def CORE_PNLp_STAT (n : Nat) : Nat := 0x00341014 + 256 * n
def CORE_PNLp_STAT_SPILLING : Fld := ⟨31, 31⟩
def CORE_PNLp_STAT_RECALLING : Fld := ⟨30, 30⟩
def CORE_PNLp_STAGE (n : Nat) : Nat := 0x00341018 + 256 * n
def CORE_PNLp_STAGE_STAGE_USE : Fld := ⟨31, 16⟩
def CORE_PNLp_STAGE_STAGE_MAX : Fld := ⟨15, 0⟩
def CORE_PNLp_CNTc (n k : Nat) : Nat := 0x00341020 + 256 * n + 4 * k
def CORE_PNLp_CNTc_COUNT : Fld := ⟨31, 0⟩
def CORE_BOBCFG : Nat := 0x00350000
def CORE_BOBCFG_WIND_ETYPE : Fld := ⟨15, 0⟩
def CORE_BOBCMD : Nat := 0x00350010
def CORE_BOBCMD_BUSY : Fld := ⟨31, 31⟩
def CORE_BOBCMD_OP : Fld := ⟨30, 28⟩
def CORE_BOBCMD_RESULT : Fld := ⟨27, 26⟩
def CORE_BOBCMD_BOBBIN : Fld := ⟨11, 0⟩
def CORE_BOBT_LO : Nat := 0x00350014
def CORE_BOBT_LO_T : Fld := ⟨31, 0⟩
def CORE_BOBT_HI : Nat := 0x00350018
def CORE_BOBT_HI_T : Fld := ⟨31, 0⟩
def CORE_BOBPOOLWIN : Nat := 0x0035001C
def CORE_BOBPOOLWIN_STACK : Fld := ⟨31, 31⟩
def CORE_BOBPOOLWIN_MIB : Fld := ⟨14, 0⟩
def CORE_BOBEVTSUMw (n : Nat) : Nat := 0x00350100 + 4 * n
def CORE_BOBEVTSUMw_PEND : Fld := ⟨31, 0⟩
def CORE_BOBWINDw (n : Nat) : Nat := 0x00350300 + 4 * n
def CORE_BOBWINDw_EN : Fld := ⟨31, 0⟩
def CORE_TBLCTRL : Nat := 0x00360000
def CORE_TBLCTRL_LOCK : Fld := ⟨31, 31⟩
def CORE_TBLCTRL_WALK_EN : Fld := ⟨30, 30⟩
def CORE_TBLEVT : Nat := 0x00360004
def CORE_TBLEVT_LPM_FULL : Fld := ⟨4, 4⟩
def CORE_TBLEVT_LEARN_DROP : Fld := ⟨3, 3⟩
def CORE_TBLEVT_QUOTA : Fld := ⟨2, 2⟩
def CORE_TBLEVT_STA_FULL : Fld := ⟨1, 1⟩
def CORE_TBLEVT_OWN_ERR : Fld := ⟨0, 0⟩
def CORE_TBLFENCE : Nat := 0x00360008
def CORE_TBLFENCE_REQ : Fld := ⟨31, 31⟩
def CORE_TBLFENCE_DONE : Fld := ⟨0, 0⟩
def CORE_STACMD : Nat := 0x00360010
def CORE_STACMD_BUSY : Fld := ⟨31, 31⟩
def CORE_STACMD_OP : Fld := ⟨30, 28⟩
def CORE_STACMD_RESULT : Fld := ⟨27, 26⟩
def CORE_STACMD_STATIC_ONLY : Fld := ⟨25, 25⟩
def CORE_STADATAk (n : Nat) : Nat := 0x00360014 + 4 * n
def CORE_STADATAk_DATA : Fld := ⟨31, 0⟩
def CORE_LPMCMD : Nat := 0x00360040
def CORE_LPMCMD_BUSY : Fld := ⟨31, 31⟩
def CORE_LPMCMD_OP : Fld := ⟨30, 28⟩
def CORE_LPMCMD_RESULT : Fld := ⟨27, 26⟩
def CORE_LPMCMD_FAMILY : Fld := ⟨25, 24⟩
def CORE_LPMCMD_LEN : Fld := ⟨23, 16⟩
def CORE_LPMCMD_OWNER : Fld := ⟨12, 0⟩
def CORE_LPMKEY0 : Nat := 0x00360044
def CORE_LPMKEY0_KEY : Fld := ⟨31, 0⟩
def CORE_LPMKEY1 : Nat := 0x00360048
def CORE_LPMKEY1_KEY : Fld := ⟨31, 0⟩
def CORE_LPMLEAF : Nat := 0x0036004C
def CORE_LPMLEAF_INTER : Fld := ⟨31, 31⟩
def CORE_LPMLEAF_LEAF : Fld := ⟨19, 0⟩
def CORE_LPMUSE : Nat := 0x00360050
def CORE_LPMUSE_UNITS : Fld := ⟨20, 0⟩
def CORE_LPMUSEX : Nat := 0x00360054
def CORE_LPMUSEX_PREFIXES : Fld := ⟨16, 0⟩
def CORE_TBLCNTc (n : Nat) : Nat := 0x00360100 + 4 * n
def CORE_TBLCNTc_COUNT : Fld := ⟨31, 0⟩

def regDescsCORE0 : List RegDesc :=
  [⟨0x00340000, 0x4, 1, 0x1, 1, [⟨CORE_CTRL_LOCK, .w1s, 0⟩, ⟨CORE_CTRL_SPILL_EN, .rwl, 1⟩, ⟨CORE_CTRL_SV_EN, .rwl, 0⟩, ⟨CORE_CTRL_SV_WRAP, .rwl, 1⟩]⟩,
   ⟨0x00340004, 0x4, 1, 0x1, 1, [⟨CORE_EVT_LAG_CHG, .w1c, 0⟩, ⟨CORE_EVT_POL_REMOTE, .w1c, 0⟩, ⟨CORE_EVT_CTRL_DROP, .w1c, 0⟩, ⟨CORE_EVT_SV_FULL, .w1c, 0⟩, ⟨CORE_EVT_SV_DROP, .w1c, 0⟩, ⟨CORE_EVT_SPILL_ERR, .w1c, 0⟩, ⟨CORE_EVT_SPILL_FULL, .w1c, 0⟩]⟩,
   ⟨0x00340100, 0x8, 16, 0x1, 1, [⟨CORE_HSELk_SEL, .rwl, 0x1fd⟩]⟩,
   ⟨0x00340104, 0x8, 16, 0x1, 1, [⟨CORE_HSEEDk_SEED, .rwl, 0xffffffff⟩]⟩,
   ⟨0x00340200, 0x4, 1, 0x1, 1, [⟨CORE_SVWIN_HALF, .rw, 0⟩, ⟨CORE_SVWIN_WIN, .rw, 0⟩]⟩,
   ⟨0x00340204, 0x4, 1, 0x1, 1, [⟨CORE_SVWPTR0_WRAPPED, .ro, 0⟩, ⟨CORE_SVWPTR0_WPTR, .ro, 0⟩]⟩,
   ⟨0x00340208, 0x4, 1, 0x1, 1, [⟨CORE_SVWPTR1_WRAPPED, .ro, 0⟩, ⟨CORE_SVWPTR1_WPTR, .ro, 0⟩]⟩,
   ⟨0x0034020C, 0x4, 1, 0x1, 1, [⟨CORE_SVRPTR0_RPTR, .rw, 0⟩]⟩,
   ⟨0x00340210, 0x4, 1, 0x1, 1, [⟨CORE_SVRPTR1_RPTR, .rw, 0⟩]⟩,
   ⟨0x00340214, 0x4, 1, 0x1, 1, [⟨CORE_SVSEQ0_SEQ, .ro, 0⟩]⟩,
   ⟨0x00340218, 0x4, 1, 0x1, 1, [⟨CORE_SVSEQ1_SEQ, .ro, 0⟩]⟩,
   ⟨0x00340220, 0x4, 1, 0x1, 1, [⟨CORE_SPUSE0_CELLS, .ro, 0⟩]⟩,
   ⟨0x00340224, 0x4, 1, 0x1, 1, [⟨CORE_SPUSE1_CELLS, .ro, 0⟩]⟩,
   ⟨0x00341000, 0x100, 16, 0x1, 1, [⟨CORE_PNLp_ALPHA0_E7_E0_ALPHA0_E15_E8_ALPHA1_, .rwl, 0x66666666⟩]⟩,
   ⟨0x00341004, 0x100, 16, 0x1, 1, [⟨CORE_PNLp_ALPHA1_E7_E0_ALPHA0_E15_E8_ALPHA1_, .rwl, 0x66666666⟩]⟩,
   ⟨0x00341008, 0x100, 16, 0x1, 1, [⟨CORE_PNLp_SPILLCFG_SPILL_MARK, .rwl, 0x2000⟩, ⟨CORE_PNLp_SPILLCFG_HYST, .rwl, 0x800⟩]⟩,
   ⟨0x0034100C, 0x100, 16, 0x1, 1, [⟨CORE_PNLp_RECALL_RECALL_MARK, .rwl, 0x2000⟩]⟩,
   ⟨0x00341010, 0x100, 16, 0x1, 1, [⟨CORE_PNLp_FREE_CTRL_FREE, .ro, 0x800⟩, ⟨CORE_PNLp_FREE_SHARED_FREE, .ro, 0xb800⟩]⟩,
   ⟨0x00341014, 0x100, 16, 0x1, 1, [⟨CORE_PNLp_STAT_SPILLING, .ro, 0⟩, ⟨CORE_PNLp_STAT_RECALLING, .ro, 0⟩]⟩,
   ⟨0x00341018, 0x100, 16, 0x1, 1, [⟨CORE_PNLp_STAGE_STAGE_USE, .ro, 0⟩, ⟨CORE_PNLp_STAGE_STAGE_MAX, .rwl, 0x1000⟩]⟩,
   ⟨0x00341020, 0x100, 16, 0x4, 16, [⟨CORE_PNLp_CNTc_COUNT, .rc, 0⟩]⟩,
   ⟨0x00350000, 0x4, 1, 0x1, 1, [⟨CORE_BOBCFG_WIND_ETYPE, .rwl, 0x88b5⟩]⟩,
   ⟨0x00350010, 0x4, 1, 0x1, 1, [⟨CORE_BOBCMD_BUSY, .ro, 0⟩, ⟨CORE_BOBCMD_OP, .wo, 0⟩, ⟨CORE_BOBCMD_RESULT, .ro, 0⟩, ⟨CORE_BOBCMD_BOBBIN, .wo, 0⟩]⟩,
   ⟨0x00350014, 0x4, 1, 0x1, 1, [⟨CORE_BOBT_LO_T, .rw, 0⟩]⟩,
   ⟨0x00350018, 0x4, 1, 0x1, 1, [⟨CORE_BOBT_HI_T, .rw, 0⟩]⟩,
   ⟨0x0035001C, 0x4, 1, 0x1, 1, [⟨CORE_BOBPOOLWIN_STACK, .rw, 0⟩, ⟨CORE_BOBPOOLWIN_MIB, .rw, 0⟩]⟩,
   ⟨0x00350100, 0x4, 128, 0x1, 1, [⟨CORE_BOBEVTSUMw_PEND, .ro, 0⟩]⟩,
   ⟨0x00350300, 0x4, 32, 0x1, 1, [⟨CORE_BOBWINDw_EN, .rwl, 0⟩]⟩,
   ⟨0x00360000, 0x4, 1, 0x1, 1, [⟨CORE_TBLCTRL_LOCK, .w1s, 0⟩, ⟨CORE_TBLCTRL_WALK_EN, .rwl, 1⟩]⟩,
   ⟨0x00360004, 0x4, 1, 0x1, 1, [⟨CORE_TBLEVT_LPM_FULL, .w1c, 0⟩, ⟨CORE_TBLEVT_LEARN_DROP, .w1c, 0⟩, ⟨CORE_TBLEVT_QUOTA, .w1c, 0⟩, ⟨CORE_TBLEVT_STA_FULL, .w1c, 0⟩, ⟨CORE_TBLEVT_OWN_ERR, .w1c, 0⟩]⟩,
   ⟨0x00360008, 0x4, 1, 0x1, 1, [⟨CORE_TBLFENCE_REQ, .wo, 0⟩, ⟨CORE_TBLFENCE_DONE, .ro, 1⟩]⟩,
   ⟨0x00360010, 0x4, 1, 0x1, 1, [⟨CORE_STACMD_BUSY, .ro, 0⟩, ⟨CORE_STACMD_OP, .wo, 0⟩, ⟨CORE_STACMD_RESULT, .ro, 0⟩, ⟨CORE_STACMD_STATIC_ONLY, .wo, 0⟩]⟩,
   ⟨0x00360014, 0x4, 4, 0x1, 1, [⟨CORE_STADATAk_DATA, .rw, 0⟩]⟩,
   ⟨0x00360040, 0x4, 1, 0x1, 1, [⟨CORE_LPMCMD_BUSY, .ro, 0⟩, ⟨CORE_LPMCMD_OP, .wo, 0⟩, ⟨CORE_LPMCMD_RESULT, .ro, 0⟩, ⟨CORE_LPMCMD_FAMILY, .rw, 0⟩, ⟨CORE_LPMCMD_LEN, .rw, 0⟩, ⟨CORE_LPMCMD_OWNER, .rw, 0⟩]⟩,
   ⟨0x00360044, 0x4, 1, 0x1, 1, [⟨CORE_LPMKEY0_KEY, .rw, 0⟩]⟩,
   ⟨0x00360048, 0x4, 1, 0x1, 1, [⟨CORE_LPMKEY1_KEY, .rw, 0⟩]⟩,
   ⟨0x0036004C, 0x4, 1, 0x1, 1, [⟨CORE_LPMLEAF_INTER, .rw, 0⟩, ⟨CORE_LPMLEAF_LEAF, .rw, 0⟩]⟩,
   ⟨0x00360050, 0x4, 1, 0x1, 1, [⟨CORE_LPMUSE_UNITS, .ro, 0⟩]⟩,
   ⟨0x00360054, 0x4, 1, 0x1, 1, [⟨CORE_LPMUSEX_PREFIXES, .ro, 0⟩]⟩,
   ⟨0x00360100, 0x4, 16, 0x1, 1, [⟨CORE_TBLCNTc_COUNT, .rc, 0⟩]⟩]
def regDescsCORE : List RegDesc := regDescsCORE0

/-! ### CIPH -/

def CIPH_CTRL : Nat := 0x00380000
def CIPH_CTRL_LOCK : Fld := ⟨31, 31⟩
def CIPH_CTRL_ALM_LIMIT : Fld := ⟨7, 0⟩
def CIPH_STAT : Nat := 0x00380004
def CIPH_STAT_READY : Fld := ⟨31, 31⟩
def CIPH_STAT_TAMPER : Fld := ⟨30, 30⟩
def CIPH_STAT_RESTORE_ERR : Fld := ⟨29, 29⟩
def CIPH_STAT_CKPT_END : Fld := ⟨28, 28⟩
def CIPH_STAT_KUM_QUEUE : Fld := ⟨22, 20⟩
def CIPH_EVT : Nat := 0x00380008
def CIPH_EVT_TAMPER : Fld := ⟨6, 6⟩
def CIPH_EVT_PROOF_MISMATCH : Fld := ⟨5, 5⟩
def CIPH_EVT_KUM_REFUSED : Fld := ⟨4, 4⟩
def CIPH_EVT_KUM_ACCEPTED : Fld := ⟨3, 3⟩
def CIPH_EVT_LANE_DIS : Fld := ⟨2, 2⟩
def CIPH_EVT_LANE_ALM : Fld := ⟨1, 1⟩
def CIPH_EVT_RESTORE_ERR : Fld := ⟨0, 0⟩
def CIPH_LANEn (n : Nat) : Nat := 0x00380100 + 4 * n
def CIPH_LANEn_EN : Fld := ⟨31, 31⟩
def CIPH_LANEn_ALM_DIS : Fld := ⟨30, 30⟩
def CIPH_LANEn_RESET : Fld := ⟨29, 29⟩
def CIPH_LANEn_LAST_ALM : Fld := ⟨23, 20⟩
def CIPH_LANEn_LAST_REF : Fld := ⟨19, 16⟩
def CIPH_LANEn_ALM_1S : Fld := ⟨7, 0⟩
def CIPH_PROOFu (n : Nat) : Nat := 0x00380200 + 4 * n
def CIPH_PROOFu_MISMATCHES : Fld := ⟨31, 16⟩
def CIPH_PROOFu_BUSY : Fld := ⟨0, 0⟩
def CIPH_KCTR : Nat := 0x00380300
def CIPH_KCTR_COUNTER : Fld := ⟨31, 0⟩
def CIPH_KFLOOR : Nat := 0x00380304
def CIPH_KFLOOR_FLOOR : Fld := ⟨31, 0⟩
def CIPH_KSTEPS : Nat := 0x00380308
def CIPH_KSTEPS_USED : Fld := ⟨9, 0⟩
def CIPH_KRES : Nat := 0x0038030C
def CIPH_KRES_RESULT : Fld := ⟨31, 24⟩
def CIPH_KRES_ENTRY : Fld := ⟨23, 16⟩
def CIPH_FRU : Nat := 0x00380310
def CIPH_FRU_UNWRAPS : Fld := ⟨31, 16⟩
def CIPH_FRU_FAILS : Fld := ⟨15, 0⟩
def CIPH_LANECNTn (n k : Nat) : Nat := 0x00381000 + 64 * n + 4 * k
def CIPH_LANECNTn_COUNT : Fld := ⟨31, 0⟩

def regDescsCIPH0 : List RegDesc :=
  [⟨0x00380000, 0x4, 1, 0x1, 1, [⟨CIPH_CTRL_LOCK, .w1s, 0⟩, ⟨CIPH_CTRL_ALM_LIMIT, .rwl, 0x10⟩]⟩,
   ⟨0x00380004, 0x4, 1, 0x1, 1, [⟨CIPH_STAT_READY, .ro, 0⟩, ⟨CIPH_STAT_TAMPER, .ro, 0⟩, ⟨CIPH_STAT_RESTORE_ERR, .ro, 0⟩, ⟨CIPH_STAT_CKPT_END, .ro, 0⟩, ⟨CIPH_STAT_KUM_QUEUE, .ro, 0⟩]⟩,
   ⟨0x00380008, 0x4, 1, 0x1, 1, [⟨CIPH_EVT_TAMPER, .w1c, 0⟩, ⟨CIPH_EVT_PROOF_MISMATCH, .w1c, 0⟩, ⟨CIPH_EVT_KUM_REFUSED, .w1c, 0⟩, ⟨CIPH_EVT_KUM_ACCEPTED, .w1c, 0⟩, ⟨CIPH_EVT_LANE_DIS, .w1c, 0⟩, ⟨CIPH_EVT_LANE_ALM, .w1c, 0⟩, ⟨CIPH_EVT_RESTORE_ERR, .w1c, 0⟩]⟩,
   ⟨0x00380100, 0x4, 32, 0x1, 1, [⟨CIPH_LANEn_EN, .rw, 1⟩, ⟨CIPH_LANEn_ALM_DIS, .ro, 0⟩, ⟨CIPH_LANEn_RESET, .ro, 0⟩, ⟨CIPH_LANEn_LAST_ALM, .ro, 0⟩, ⟨CIPH_LANEn_LAST_REF, .ro, 0⟩, ⟨CIPH_LANEn_ALM_1S, .ro, 0⟩]⟩,
   ⟨0x00380200, 0x4, 4, 0x1, 1, [⟨CIPH_PROOFu_MISMATCHES, .rc, 0⟩, ⟨CIPH_PROOFu_BUSY, .ro, 0⟩]⟩,
   ⟨0x00380300, 0x4, 1, 0x1, 1, [⟨CIPH_KCTR_COUNTER, .ro, 0⟩]⟩,
   ⟨0x00380304, 0x4, 1, 0x1, 1, [⟨CIPH_KFLOOR_FLOOR, .ro, 0⟩]⟩,
   ⟨0x00380308, 0x4, 1, 0x1, 1, [⟨CIPH_KSTEPS_USED, .ro, 0⟩]⟩,
   ⟨0x0038030C, 0x4, 1, 0x1, 1, [⟨CIPH_KRES_RESULT, .ro, 0⟩, ⟨CIPH_KRES_ENTRY, .ro, 0xff⟩]⟩,
   ⟨0x00380310, 0x4, 1, 0x1, 1, [⟨CIPH_FRU_UNWRAPS, .rc, 0⟩, ⟨CIPH_FRU_FAILS, .rc, 0⟩]⟩,
   ⟨0x00381000, 0x40, 32, 0x4, 16, [⟨CIPH_LANECNTn_COUNT, .rc, 0⟩]⟩]
def regDescsCIPH : List RegDesc := regDescsCIPH0

/-! ### KEYS -/

def KEYS_CTRL : Nat := 0x003C0000
def KEYS_CTRL_LOCK : Fld := ⟨31, 31⟩
def KEYS_CTRL_HOST_KUM_DIS : Fld := ⟨30, 30⟩
def KEYS_KUMCMD0 : Nat := 0x003C0004
def KEYS_KUMCMD0_BUSY : Fld := ⟨31, 31⟩
def KEYS_KUMCMD0_SUBMIT : Fld := ⟨30, 30⟩
def KEYS_KUMCMD0_RESULT : Fld := ⟨23, 16⟩
def KEYS_KUMCMD0_LEN : Fld := ⟨10, 0⟩
def KEYS_KUMCMD1 : Nat := 0x003C0008
def KEYS_KUMCMD1_BUSY : Fld := ⟨31, 31⟩
def KEYS_KUMCMD1_SUBMIT : Fld := ⟨30, 30⟩
def KEYS_KUMCMD1_RESULT : Fld := ⟨23, 16⟩
def KEYS_KUMCMD1_LEN : Fld := ⟨10, 0⟩
def KEYS_FILL : Nat := 0x003C000C
def KEYS_FILL_VALID : Fld := ⟨12, 0⟩

def regDescsKEYS0 : List RegDesc :=
  [⟨0x003C0000, 0x4, 1, 0x1, 1, [⟨KEYS_CTRL_LOCK, .w1s, 0⟩, ⟨KEYS_CTRL_HOST_KUM_DIS, .rwl, 0⟩]⟩,
   ⟨0x003C0004, 0x4, 1, 0x1, 1, [⟨KEYS_KUMCMD0_BUSY, .ro, 0⟩, ⟨KEYS_KUMCMD0_SUBMIT, .wo, 0⟩, ⟨KEYS_KUMCMD0_RESULT, .ro, 0⟩, ⟨KEYS_KUMCMD0_LEN, .rw, 0⟩]⟩,
   ⟨0x003C0008, 0x4, 1, 0x1, 1, [⟨KEYS_KUMCMD1_BUSY, .ro, 0⟩, ⟨KEYS_KUMCMD1_SUBMIT, .wo, 0⟩, ⟨KEYS_KUMCMD1_RESULT, .ro, 0⟩, ⟨KEYS_KUMCMD1_LEN, .rw, 0⟩]⟩,
   ⟨0x003C000C, 0x4, 1, 0x1, 1, [⟨KEYS_FILL_VALID, .ro, 0⟩]⟩]
def regDescsKEYS : List RegDesc := regDescsKEYS0

/-! ### SEAM -/

def SEAM_CTRL : Nat := 0x00400000
def SEAM_CTRL_LOCK : Fld := ⟨31, 31⟩
def SEAM_CTRL_EN : Fld := ⟨30, 30⟩
def SEAM_CTRL_MEDIA : Fld := ⟨29, 28⟩
def SEAM_CTRL_HSYNC : Fld := ⟨15, 0⟩
def SEAM_STAT : Nat := 0x00400004
def SEAM_STAT_STATE : Fld := ⟨31, 29⟩
def SEAM_STAT_ROLE : Fld := ⟨28, 28⟩
def SEAM_STAT_AUTH : Fld := ⟨27, 27⟩
def SEAM_STAT_TWIN_MB : Fld := ⟨26, 26⟩
def SEAM_STAT_SPLIT : Fld := ⟨25, 25⟩
def SEAM_STAT_TWIN_DOWN : Fld := ⟨24, 24⟩
def SEAM_STAT_UP : Fld := ⟨23, 23⟩
def SEAM_STAT_LOCK1 : Fld := ⟨15, 8⟩
def SEAM_STAT_LOCK0 : Fld := ⟨7, 0⟩
def SEAM_EVT : Nat := 0x00400008
def SEAM_EVT_SKEW : Fld := ⟨11, 11⟩
def SEAM_EVT_DATUM_LATE : Fld := ⟨10, 10⟩
def SEAM_EVT_TAKEOVER : Fld := ⟨9, 9⟩
def SEAM_EVT_EPOCH_DIFF : Fld := ⟨8, 8⟩
def SEAM_EVT_CFG_DIVERGE : Fld := ⟨7, 7⟩
def SEAM_EVT_MIRROR_DROP : Fld := ⟨6, 6⟩
def SEAM_EVT_RECONCILED : Fld := ⟨5, 5⟩
def SEAM_EVT_PEER_REJECT : Fld := ⟨4, 4⟩
def SEAM_EVT_TWIN_DOWN : Fld := ⟨3, 3⟩
def SEAM_EVT_SPLIT : Fld := ⟨2, 2⟩
def SEAM_EVT_DOWN : Fld := ⟨1, 1⟩
def SEAM_EVT_UP : Fld := ⟨0, 0⟩
def SEAM_DIFF_LO : Nat := 0x0040000C
def SEAM_DIFF_LO_DIFF : Fld := ⟨31, 0⟩
def SEAM_DIFF_HI : Nat := 0x00400010
def SEAM_DIFF_HI_DIFF : Fld := ⟨31, 0⟩
def SEAM_ASYM : Nat := 0x00400014
def SEAM_ASYM_ASYM : Fld := ⟨15, 0⟩
def SEAM_CMD : Nat := 0x00400018
def SEAM_CMD_TAKEOVER : Fld := ⟨31, 31⟩
def SEAM_CMD_RESTART : Fld := ⟨30, 30⟩
def SEAM_LANEk (n : Nat) : Nat := 0x00400100 + 4 * n
def SEAM_LANEk_LSTATE : Fld := ⟨31, 30⟩
def SEAM_LANEk_L : Fld := ⟨29, 27⟩
def SEAM_LANEk_MARK_ERR : Fld := ⟨15, 8⟩
def SEAM_LANEk_BIP_ERR : Fld := ⟨7, 0⟩
def SEAM_CNTc (n : Nat) : Nat := 0x00400200 + 4 * n
def SEAM_CNTc_COUNT : Fld := ⟨31, 0⟩
def SEAM_PEER_UIDk (n : Nat) : Nat := 0x00400300 + 4 * n
def SEAM_PEER_UIDk_UID : Fld := ⟨31, 0⟩

def regDescsSEAM0 : List RegDesc :=
  [⟨0x00400000, 0x4, 1, 0x1, 1, [⟨SEAM_CTRL_LOCK, .w1s, 0⟩, ⟨SEAM_CTRL_EN, .rwl, 1⟩, ⟨SEAM_CTRL_MEDIA, .rwl, 0⟩, ⟨SEAM_CTRL_HSYNC, .rwl, 0x64⟩]⟩,
   ⟨0x00400004, 0x4, 1, 0x1, 1, [⟨SEAM_STAT_STATE, .ro, 0⟩, ⟨SEAM_STAT_ROLE, .ro, 0⟩, ⟨SEAM_STAT_AUTH, .ro, 0⟩, ⟨SEAM_STAT_TWIN_MB, .ro, 0⟩, ⟨SEAM_STAT_SPLIT, .ro, 0⟩, ⟨SEAM_STAT_TWIN_DOWN, .ro, 0⟩, ⟨SEAM_STAT_UP, .ro, 0⟩, ⟨SEAM_STAT_LOCK1, .ro, 0⟩, ⟨SEAM_STAT_LOCK0, .ro, 0⟩]⟩,
   ⟨0x00400008, 0x4, 1, 0x1, 1, [⟨SEAM_EVT_SKEW, .w1c, 0⟩, ⟨SEAM_EVT_DATUM_LATE, .w1c, 0⟩, ⟨SEAM_EVT_TAKEOVER, .w1c, 0⟩, ⟨SEAM_EVT_EPOCH_DIFF, .w1c, 0⟩, ⟨SEAM_EVT_CFG_DIVERGE, .w1c, 0⟩, ⟨SEAM_EVT_MIRROR_DROP, .w1c, 0⟩, ⟨SEAM_EVT_RECONCILED, .w1c, 0⟩, ⟨SEAM_EVT_PEER_REJECT, .w1c, 0⟩, ⟨SEAM_EVT_TWIN_DOWN, .w1c, 0⟩, ⟨SEAM_EVT_SPLIT, .w1c, 0⟩, ⟨SEAM_EVT_DOWN, .w1c, 0⟩, ⟨SEAM_EVT_UP, .w1c, 0⟩]⟩,
   ⟨0x0040000C, 0x4, 1, 0x1, 1, [⟨SEAM_DIFF_LO_DIFF, .ro, 0⟩]⟩,
   ⟨0x00400010, 0x4, 1, 0x1, 1, [⟨SEAM_DIFF_HI_DIFF, .ro, 0⟩]⟩,
   ⟨0x00400014, 0x4, 1, 0x1, 1, [⟨SEAM_ASYM_ASYM, .rw, 0⟩]⟩,
   ⟨0x00400018, 0x4, 1, 0x1, 1, [⟨SEAM_CMD_TAKEOVER, .wo, 0⟩, ⟨SEAM_CMD_RESTART, .wo, 0⟩]⟩,
   ⟨0x00400100, 0x4, 16, 0x1, 1, [⟨SEAM_LANEk_LSTATE, .ro, 0⟩, ⟨SEAM_LANEk_L, .ro, 0⟩, ⟨SEAM_LANEk_MARK_ERR, .rc, 0⟩, ⟨SEAM_LANEk_BIP_ERR, .rc, 0⟩]⟩,
   ⟨0x00400200, 0x4, 13, 0x1, 1, [⟨SEAM_CNTc_COUNT, .rc, 0⟩]⟩,
   ⟨0x00400300, 0x4, 4, 0x1, 1, [⟨SEAM_PEER_UIDk_UID, .ro, 0⟩]⟩]
def regDescsSEAM : List RegDesc := regDescsSEAM0

/-! ### THIM -/

def THIM_MBEVT : Nat := 0x00440000
def THIM_MBEVT_MBX_ERR : Fld := ⟨2, 2⟩
def THIM_MBEVT_RESP1 : Fld := ⟨1, 1⟩
def THIM_MBEVT_RESP0 : Fld := ⟨0, 0⟩
def THIM_MBCTLk (n : Nat) : Nat := 0x00440010 + 16 * n
def THIM_MBCTLk_SUBMIT : Fld := ⟨31, 31⟩
def THIM_MBCTLk_BUSY : Fld := ⟨30, 30⟩
def THIM_MBCTLk_RESP : Fld := ⟨29, 29⟩
def THIM_MBCTLk_RELEASE : Fld := ⟨28, 28⟩
def THIM_MBCTLk_NORESP : Fld := ⟨27, 27⟩
def THIM_MBCTLk_LEN : Fld := ⟨10, 0⟩
def THIM_MBRLENk (n : Nat) : Nat := 0x00440014 + 16 * n
def THIM_MBRLENk_RLEN : Fld := ⟨10, 0⟩
def THIM_CTRL : Nat := 0x00440100
def THIM_CTRL_LOCK : Fld := ⟨31, 31⟩
def THIM_STAT : Nat := 0x00440104
def THIM_STAT_UPD : Fld := ⟨31, 29⟩
def THIM_STAT_BANK : Fld := ⟨28, 28⟩
def THIM_STAT_STBY : Fld := ⟨27, 26⟩
def THIM_STAT_ATTEMPTS : Fld := ⟨25, 23⟩
def THIM_STAT_ANCHOR_GEN : Fld := ⟨22, 20⟩
def THIM_STAT_NO_ANCHOR : Fld := ⟨19, 19⟩
def THIM_STAT_DEFAULTS : Fld := ⟨18, 18⟩
def THIM_STAT_SKIPPED : Fld := ⟨17, 10⟩
def THIM_STAT_NEXT_BLOCK : Fld := ⟨9, 0⟩
def THIM_EVT : Nat := 0x00440108
def THIM_EVT_SAFE : Fld := ⟨5, 5⟩
def THIM_EVT_FALLBACK : Fld := ⟨4, 4⟩
def THIM_EVT_RAIL : Fld := ⟨3, 3⟩
def THIM_EVT_TWARN : Fld := ⟨2, 2⟩
def THIM_EVT_SAVED : Fld := ⟨1, 1⟩
def THIM_EVT_LOGLOST : Fld := ⟨0, 0⟩
def THIM_THERM : Nat := 0x0044010C
def THIM_THERM_CRIT : Fld := ⟨31, 16⟩
def THIM_THERM_WARN : Fld := ⟨15, 0⟩
def THIM_TMAX : Nat := 0x00440110
def THIM_TMAX_SENSOR : Fld := ⟨21, 16⟩
def THIM_TMAX_TEMP : Fld := ⟨15, 0⟩
def THIM_LOGSEQ : Nat := 0x00440114
def THIM_LOGSEQ_SEQ : Fld := ⟨31, 0⟩
def THIM_LOGLOST : Nat := 0x00440118
def THIM_LOGLOST_COUNT : Fld := ⟨31, 0⟩
def THIM_LOGWINSEL : Nat := 0x0044011C
def THIM_LOGWINSEL_WIN : Fld := ⟨6, 0⟩
def THIM_OTPCNT : Nat := 0x00440120
def THIM_OTPCNT_C3 : Fld := ⟨31, 24⟩
def THIM_OTPCNT_C2 : Fld := ⟨23, 16⟩
def THIM_OTPCNT_C1 : Fld := ⟨15, 8⟩
def THIM_OTPCNT_C0 : Fld := ⟨7, 0⟩
def THIM_TSENSn (n : Nat) : Nat := 0x00440200 + 4 * n
def THIM_TSENSn_TEMP : Fld := ⟨15, 0⟩
def THIM_VMONn (n : Nat) : Nat := 0x00440300 + 4 * n
def THIM_VMONn_MV : Fld := ⟨10, 0⟩
def THIM_RAILr (n : Nat) : Nat := 0x00440380 + 8 * n
def THIM_RAILr_ERR : Fld := ⟨31, 31⟩
def THIM_RAILr_VOUT : Fld := ⟨30, 16⟩
def THIM_RAILr_IOUT : Fld := ⟨15, 0⟩
def THIM_RAILr_STATUS : Fld := ⟨31, 16⟩
def THIM_RAILr_TEMP : Fld := ⟨15, 0⟩
def THIM_RAILCFGr (n : Nat) : Nat := 0x004403C0 + 4 * n
def THIM_RAILCFGr_VALID : Fld := ⟨31, 31⟩
def THIM_RAILCFGr_ADDR : Fld := ⟨6, 0⟩
def THIM_IMGCTL : Nat := 0x00440400
def THIM_IMGCTL_BUSY : Fld := ⟨31, 31⟩
def THIM_IMGCTL_OP : Fld := ⟨30, 28⟩
def THIM_IMGCTL_RESULT : Fld := ⟨27, 24⟩
def THIM_IMGCTL_LEN : Fld := ⟨16, 0⟩
def THIM_IMGMID_LO : Nat := 0x00440404
def THIM_IMGMID_LO_MID : Fld := ⟨31, 0⟩
def THIM_IMGMID_HI : Nat := 0x00440408
def THIM_IMGMID_HI_MID : Fld := ⟨31, 0⟩
def THIM_IMGBLK : Nat := 0x0044040C
def THIM_IMGBLK_COUNT : Fld := ⟨31, 16⟩
def THIM_IMGBLK_NUMBER : Fld := ⟨15, 0⟩
def THIM_IMGCRC : Nat := 0x00440410
def THIM_IMGCRC_CRC : Fld := ⟨31, 0⟩
def THIM_MBREQ (n k : Nat) : Nat := 0x00441000 + 4096 * n + 4 * k
def THIM_MBREQ_OCTETS : Fld := ⟨31, 0⟩
def THIM_MBRESP (n k : Nat) : Nat := 0x00441800 + 4096 * n + 4 * k
def THIM_MBRESP_OCTETS : Fld := ⟨31, 0⟩
def THIM_IMGBUF (n : Nat) : Nat := 0x00450000 + 4 * n
def THIM_IMGBUF_OCTETS : Fld := ⟨31, 0⟩
def THIM_LOGWIN (n : Nat) : Nat := 0x00460000 + 4 * n
def THIM_LOGWIN_OCTETS : Fld := ⟨31, 0⟩

def regDescsTHIM0 : List RegDesc :=
  [⟨0x00440000, 0x4, 1, 0x1, 1, [⟨THIM_MBEVT_MBX_ERR, .w1c, 0⟩, ⟨THIM_MBEVT_RESP1, .w1c, 0⟩, ⟨THIM_MBEVT_RESP0, .w1c, 0⟩]⟩,
   ⟨0x00440010, 0x10, 2, 0x1, 1, [⟨THIM_MBCTLk_SUBMIT, .wo, 0⟩, ⟨THIM_MBCTLk_BUSY, .ro, 0⟩, ⟨THIM_MBCTLk_RESP, .ro, 0⟩, ⟨THIM_MBCTLk_RELEASE, .wo, 0⟩, ⟨THIM_MBCTLk_NORESP, .ro, 0⟩, ⟨THIM_MBCTLk_LEN, .rw, 0⟩]⟩,
   ⟨0x00440014, 0x10, 2, 0x1, 1, [⟨THIM_MBRLENk_RLEN, .ro, 0⟩]⟩,
   ⟨0x00440100, 0x4, 1, 0x1, 1, [⟨THIM_CTRL_LOCK, .w1s, 0⟩]⟩,
   ⟨0x00440104, 0x4, 1, 0x1, 1, [⟨THIM_STAT_UPD, .ro, 0⟩, ⟨THIM_STAT_BANK, .ro, 0⟩, ⟨THIM_STAT_STBY, .ro, 0⟩, ⟨THIM_STAT_ATTEMPTS, .ro, 0⟩, ⟨THIM_STAT_ANCHOR_GEN, .ro, 0⟩, ⟨THIM_STAT_NO_ANCHOR, .ro, 0⟩, ⟨THIM_STAT_DEFAULTS, .ro, 0⟩, ⟨THIM_STAT_SKIPPED, .ro, 0⟩, ⟨THIM_STAT_NEXT_BLOCK, .ro, 0⟩]⟩,
   ⟨0x00440108, 0x4, 1, 0x1, 1, [⟨THIM_EVT_SAFE, .w1c, 0⟩, ⟨THIM_EVT_FALLBACK, .w1c, 0⟩, ⟨THIM_EVT_RAIL, .w1c, 0⟩, ⟨THIM_EVT_TWARN, .w1c, 0⟩, ⟨THIM_EVT_SAVED, .w1c, 0⟩, ⟨THIM_EVT_LOGLOST, .w1c, 0⟩]⟩,
   ⟨0x0044010C, 0x4, 1, 0x1, 1, [⟨THIM_THERM_CRIT, .rwl, 0x780⟩, ⟨THIM_THERM_WARN, .rwl, 0x690⟩]⟩,
   ⟨0x00440110, 0x4, 1, 0x1, 1, [⟨THIM_TMAX_SENSOR, .rc, 0⟩, ⟨THIM_TMAX_TEMP, .rc, 0x8000⟩]⟩,
   ⟨0x00440114, 0x4, 1, 0x1, 1, [⟨THIM_LOGSEQ_SEQ, .ro, 0⟩]⟩,
   ⟨0x00440118, 0x4, 1, 0x1, 1, [⟨THIM_LOGLOST_COUNT, .rc, 0⟩]⟩,
   ⟨0x0044011C, 0x4, 1, 0x1, 1, [⟨THIM_LOGWINSEL_WIN, .rw, 0⟩]⟩,
   ⟨0x00440120, 0x4, 1, 0x1, 1, [⟨THIM_OTPCNT_C3, .ro, 0⟩, ⟨THIM_OTPCNT_C2, .ro, 0⟩, ⟨THIM_OTPCNT_C1, .ro, 0⟩, ⟨THIM_OTPCNT_C0, .ro, 0⟩]⟩,
   ⟨0x00440200, 0x4, 64, 0x1, 1, [⟨THIM_TSENSn_TEMP, .ro, 0x8000⟩]⟩,
   ⟨0x00440300, 0x4, 32, 0x1, 1, [⟨THIM_VMONn_MV, .ro, 0⟩]⟩,
   ⟨0x00440380, 0x8, 8, 0x1, 1, [⟨THIM_RAILr_ERR, .ro, 0⟩, ⟨THIM_RAILr_VOUT, .ro, 0⟩, ⟨THIM_RAILr_IOUT, .ro, 0⟩]⟩,
   ⟨0x00440384, 0x8, 8, 0x1, 1, [⟨THIM_RAILr_STATUS, .ro, 0⟩, ⟨THIM_RAILr_TEMP, .ro, 0⟩]⟩,
   ⟨0x004403C0, 0x4, 8, 0x1, 1, [⟨THIM_RAILCFGr_VALID, .rwl, 0⟩, ⟨THIM_RAILCFGr_ADDR, .rwl, 0⟩]⟩,
   ⟨0x00440400, 0x4, 1, 0x1, 1, [⟨THIM_IMGCTL_BUSY, .ro, 0⟩, ⟨THIM_IMGCTL_OP, .wo, 0⟩, ⟨THIM_IMGCTL_RESULT, .ro, 0⟩, ⟨THIM_IMGCTL_LEN, .rw, 0⟩]⟩,
   ⟨0x00440404, 0x4, 1, 0x1, 1, [⟨THIM_IMGMID_LO_MID, .rw, 0⟩]⟩,
   ⟨0x00440408, 0x4, 1, 0x1, 1, [⟨THIM_IMGMID_HI_MID, .rw, 0⟩]⟩,
   ⟨0x0044040C, 0x4, 1, 0x1, 1, [⟨THIM_IMGBLK_COUNT, .rw, 0⟩, ⟨THIM_IMGBLK_NUMBER, .rw, 0⟩]⟩,
   ⟨0x00440410, 0x4, 1, 0x1, 1, [⟨THIM_IMGCRC_CRC, .rw, 0⟩]⟩,
   ⟨0x00441000, 0x1000, 2, 0x4, 264, [⟨THIM_MBREQ_OCTETS, .rw, 0⟩]⟩,
   ⟨0x00441800, 0x1000, 2, 0x4, 264, [⟨THIM_MBRESP_OCTETS, .ro, 0⟩]⟩,
   ⟨0x00450000, 0x4, 16384, 0x1, 1, [⟨THIM_IMGBUF_OCTETS, .rw, 0⟩]⟩,
   ⟨0x00460000, 0x4, 16384, 0x1, 1, [⟨THIM_LOGWIN_OCTETS, .ro, 0⟩]⟩]
def regDescsTHIM : List RegDesc := regDescsTHIM0

/-! ### OBS -/

def OBS_CTRL : Nat := 0x00480000
def OBS_CTRL_LOCK : Fld := ⟨31, 31⟩
def OBS_EVT : Nat := 0x00480004
def OBS_EVT_CFG_ERR : Fld := ⟨7, 7⟩
def OBS_EVT_COAL_FULL : Fld := ⟨6, 6⟩
def OBS_EVT_FAULT : Fld := ⟨5, 5⟩
def OBS_EVT_OL1_LOCK : Fld := ⟨4, 4⟩
def OBS_EVT_OL0_LOCK : Fld := ⟨3, 3⟩
def OBS_EVT_TRC_LOSS : Fld := ⟨2, 2⟩
def OBS_EVT_SNAP_SKIP : Fld := ⟨1, 1⟩
def OBS_EVT_SNAP_DONE : Fld := ⟨0, 0⟩
def OBS_SNAPCTL : Nat := 0x00480010
def OBS_SNAPCTL_REQ : Fld := ⟨31, 31⟩
def OBS_SNAPCTL_CLR : Fld := ⟨30, 30⟩
def OBS_SNAPCTL_BUSY : Fld := ⟨29, 29⟩
def OBS_SNAPCTL_BANK : Fld := ⟨28, 28⟩
def OBS_SNAPCTL_PERIOD : Fld := ⟨19, 0⟩
def OBS_SNAPSEQ : Nat := 0x00480014
def OBS_SNAPSEQ_SEQ : Fld := ⟨31, 0⟩
def OBS_SNAPT_LO : Nat := 0x00480018
def OBS_SNAPT_LO_MER : Fld := ⟨31, 0⟩
def OBS_SNAPT_HI : Nat := 0x0048001C
def OBS_SNAPT_HI_MER : Fld := ⟨31, 0⟩
def OBS_SNAPWIN : Nat := 0x00480020
def OBS_SNAPWIN_BANK : Fld := ⟨0, 0⟩
def OBS_TAGCTL : Nat := 0x00480030
def OBS_TAGCTL_TEN_EN : Fld := ⟨31, 31⟩
def OBS_TAGCTL_TENANT : Fld := ⟨25, 16⟩
def OBS_TAGCTL_ITAG_N : Fld := ⟨12, 8⟩
def OBS_TAGCTL_TAG_N : Fld := ⟨4, 0⟩
def OBS_TAGRING : Nat := 0x00480034
def OBS_TAGRING_WRAPPED : Fld := ⟨31, 31⟩
def OBS_TAGRING_WPTR : Fld := ⟨26, 16⟩
def OBS_TRCTL : Nat := 0x00480040
def OBS_TRCTL_EN : Fld := ⟨31, 31⟩
def OBS_TRCTL_OL_EN : Fld := ⟨30, 30⟩
def OBS_TRCTL_PORT_EN : Fld := ⟨29, 29⟩
def OBS_TRCTL_RXGATE : Fld := ⟨28, 28⟩
def OBS_TRCTL_KINDS : Fld := ⟨4, 0⟩
def OBS_TRPORT : Nat := 0x00480044
def OBS_TRPORT_ETYPE : Fld := ⟨31, 16⟩
def OBS_TRPORT_QUEUE : Fld := ⟨13, 10⟩
def OBS_TRPORT_PORT : Fld := ⟨9, 0⟩
def OBS_TRDA_HI : Nat := 0x00480048
def OBS_TRDA_HI_DA : Fld := ⟨31, 0⟩
def OBS_TRDA_LO : Nat := 0x0048004C
def OBS_TRDA_LO_DA : Fld := ⟨31, 16⟩
def OBS_OLSTAT : Nat := 0x00480050
def OBS_OLSTAT_RX1 : Fld := ⟨31, 30⟩
def OBS_OLSTAT_RX0 : Fld := ⟨29, 28⟩
def OBS_OLSTAT_TX1 : Fld := ⟨1, 1⟩
def OBS_OLSTAT_TX0 : Fld := ⟨0, 0⟩
def OBS_TRCNTd (n : Nat) : Nat := 0x00480060 + 8 * n
def OBS_TRCNTd_SENT : Fld := ⟨31, 0⟩
def OBS_TRCNTd_LOST : Fld := ⟨31, 0⟩
def OBS_COAL : Nat := 0x00480070
def OBS_COAL_QUIET : Fld := ⟨31, 16⟩
def OBS_COAL_WIN_MAX : Fld := ⟨15, 0⟩
def OBS_COALCNT : Nat := 0x00480074
def OBS_COALCNT_FULL : Fld := ⟨31, 16⟩
def OBS_COALCNT_OPEN : Fld := ⟨8, 0⟩

def regDescsOBS0 : List RegDesc :=
  [⟨0x00480000, 0x4, 1, 0x1, 1, [⟨OBS_CTRL_LOCK, .w1s, 0⟩]⟩,
   ⟨0x00480004, 0x4, 1, 0x1, 1, [⟨OBS_EVT_CFG_ERR, .w1c, 0⟩, ⟨OBS_EVT_COAL_FULL, .w1c, 0⟩, ⟨OBS_EVT_FAULT, .w1c, 0⟩, ⟨OBS_EVT_OL1_LOCK, .w1c, 0⟩, ⟨OBS_EVT_OL0_LOCK, .w1c, 0⟩, ⟨OBS_EVT_TRC_LOSS, .w1c, 0⟩, ⟨OBS_EVT_SNAP_SKIP, .w1c, 0⟩, ⟨OBS_EVT_SNAP_DONE, .w1c, 0⟩]⟩,
   ⟨0x00480010, 0x4, 1, 0x1, 1, [⟨OBS_SNAPCTL_REQ, .wo, 0⟩, ⟨OBS_SNAPCTL_CLR, .rw, 0⟩, ⟨OBS_SNAPCTL_BUSY, .ro, 0⟩, ⟨OBS_SNAPCTL_BANK, .ro, 0⟩, ⟨OBS_SNAPCTL_PERIOD, .rw, 0⟩]⟩,
   ⟨0x00480014, 0x4, 1, 0x1, 1, [⟨OBS_SNAPSEQ_SEQ, .ro, 0⟩]⟩,
   ⟨0x00480018, 0x4, 1, 0x1, 1, [⟨OBS_SNAPT_LO_MER, .ro, 0⟩]⟩,
   ⟨0x0048001C, 0x4, 1, 0x1, 1, [⟨OBS_SNAPT_HI_MER, .ro, 0⟩]⟩,
   ⟨0x00480020, 0x4, 1, 0x1, 1, [⟨OBS_SNAPWIN_BANK, .rw, 0⟩]⟩,
   ⟨0x00480030, 0x4, 1, 0x1, 1, [⟨OBS_TAGCTL_TEN_EN, .rw, 0⟩, ⟨OBS_TAGCTL_TENANT, .rw, 0⟩, ⟨OBS_TAGCTL_ITAG_N, .rw, 0⟩, ⟨OBS_TAGCTL_TAG_N, .rw, 0⟩]⟩,
   ⟨0x00480034, 0x4, 1, 0x1, 1, [⟨OBS_TAGRING_WRAPPED, .ro, 0⟩, ⟨OBS_TAGRING_WPTR, .ro, 0⟩]⟩,
   ⟨0x00480040, 0x4, 1, 0x1, 1, [⟨OBS_TRCTL_EN, .rw, 0⟩, ⟨OBS_TRCTL_OL_EN, .rw, 0⟩, ⟨OBS_TRCTL_PORT_EN, .rw, 0⟩, ⟨OBS_TRCTL_RXGATE, .rw, 1⟩, ⟨OBS_TRCTL_KINDS, .rw, 0⟩]⟩,
   ⟨0x00480044, 0x4, 1, 0x1, 1, [⟨OBS_TRPORT_ETYPE, .rwl, 0x88b5⟩, ⟨OBS_TRPORT_QUEUE, .rwl, 0⟩, ⟨OBS_TRPORT_PORT, .rwl, 0⟩]⟩,
   ⟨0x00480048, 0x4, 1, 0x1, 1, [⟨OBS_TRDA_HI_DA, .rwl, 0xffffffff⟩]⟩,
   ⟨0x0048004C, 0x4, 1, 0x1, 1, [⟨OBS_TRDA_LO_DA, .rwl, 0xffff⟩]⟩,
   ⟨0x00480050, 0x4, 1, 0x1, 1, [⟨OBS_OLSTAT_RX1, .ro, 0⟩, ⟨OBS_OLSTAT_RX0, .ro, 0⟩, ⟨OBS_OLSTAT_TX1, .ro, 0⟩, ⟨OBS_OLSTAT_TX0, .ro, 0⟩]⟩,
   ⟨0x00480060, 0x8, 2, 0x1, 1, [⟨OBS_TRCNTd_SENT, .rc, 0⟩]⟩,
   ⟨0x00480064, 0x8, 2, 0x1, 1, [⟨OBS_TRCNTd_LOST, .rc, 0⟩]⟩,
   ⟨0x00480070, 0x4, 1, 0x1, 1, [⟨OBS_COAL_QUIET, .rw, 0x64⟩, ⟨OBS_COAL_WIN_MAX, .rw, 0x64⟩]⟩,
   ⟨0x00480074, 0x4, 1, 0x1, 1, [⟨OBS_COALCNT_FULL, .rc, 0⟩, ⟨OBS_COALCNT_OPEN, .ro, 0⟩]⟩]
def regDescsOBS : List RegDesc := regDescsOBS0

/-! ### ECC -/

def ECC_CTRL : Nat := 0x004C0000
def ECC_CTRL_LOCK : Fld := ⟨31, 31⟩
def ECC_CTRL_SCRUB_EN : Fld := ⟨30, 30⟩
def ECC_EVT : Nat := 0x004C0004
def ECC_EVT_FLIP_USED : Fld := ⟨17, 17⟩
def ECC_EVT_EARLY : Fld := ⟨16, 16⟩
def ECC_EVT_FIFO_UE : Fld := ⟨15, 15⟩
def ECC_EVT_UE : Fld := ⟨14, 8⟩
def ECC_EVT_CE_OVF : Fld := ⟨6, 0⟩
def ECC_INIT : Nat := 0x004C0008
def ECC_INIT_ALL : Fld := ⟨31, 31⟩
def ECC_INIT_DONE : Fld := ⟨6, 0⟩
def ECC_FLIP : Nat := 0x004C0010
def ECC_FLIP_ARM : Fld := ⟨31, 31⟩
def ECC_FLIP_EN1 : Fld := ⟨30, 30⟩
def ECC_FLIP_EN0 : Fld := ⟨29, 29⟩
def ECC_FLIP_POS1 : Fld := ⟨23, 16⟩
def ECC_FLIP_POS0 : Fld := ⟨15, 8⟩
def ECC_FLIPADDR : Nat := 0x004C0014
def ECC_FLIPADDR_ADDR : Fld := ⟨31, 0⟩
def ECC_CLSk (n : Nat) : Nat := 0x004C0100 + 32 * n
def ECC_CLSk_DEPTH : Fld := ⟨31, 16⟩
def ECC_CLSk_LEAK : Fld := ⟨15, 0⟩
def ECC_CLSk_LEVEL : Fld := ⟨15, 0⟩
def ECC_CLSk_CE_CNT : Fld := ⟨31, 0⟩
def ECC_CLSk_CB_CNT : Fld := ⟨31, 0⟩
def ECC_CLSk_UE_CNT : Fld := ⟨31, 0⟩
def ECC_CLSk_UE_ADDR : Fld := ⟨31, 0⟩
def ECC_CLSk_CE_ADDR : Fld := ⟨31, 0⟩
def ECC_CLSk_PERIOD : Fld := ⟨31, 16⟩
def ECC_CLSk_PASSES : Fld := ⟨15, 0⟩

def regDescsECC0 : List RegDesc :=
  [⟨0x004C0000, 0x4, 1, 0x1, 1, [⟨ECC_CTRL_LOCK, .w1s, 0⟩, ⟨ECC_CTRL_SCRUB_EN, .rwl, 1⟩]⟩,
   ⟨0x004C0004, 0x4, 1, 0x1, 1, [⟨ECC_EVT_FLIP_USED, .w1c, 0⟩, ⟨ECC_EVT_EARLY, .w1c, 0⟩, ⟨ECC_EVT_FIFO_UE, .w1c, 0⟩, ⟨ECC_EVT_UE, .w1c, 0⟩, ⟨ECC_EVT_CE_OVF, .w1c, 0⟩]⟩,
   ⟨0x004C0008, 0x4, 1, 0x1, 1, [⟨ECC_INIT_ALL, .ro, 0⟩, ⟨ECC_INIT_DONE, .ro, 0⟩]⟩,
   ⟨0x004C0010, 0x4, 1, 0x1, 1, [⟨ECC_FLIP_ARM, .rwl, 0⟩, ⟨ECC_FLIP_EN1, .rwl, 0⟩, ⟨ECC_FLIP_EN0, .rwl, 0⟩, ⟨ECC_FLIP_POS1, .rwl, 0⟩, ⟨ECC_FLIP_POS0, .rwl, 0⟩]⟩,
   ⟨0x004C0014, 0x4, 1, 0x1, 1, [⟨ECC_FLIPADDR_ADDR, .rwl, 0⟩]⟩,
   ⟨0x004C0100, 0x4, 1, 0x1, 1, [⟨ECC_CLSk_DEPTH, .rwl, 0x40⟩, ⟨ECC_CLSk_LEAK, .rwl, 1⟩]⟩,
   ⟨0x004C0104, 0x4, 1, 0x1, 1, [⟨ECC_CLSk_LEVEL, .ro, 0⟩]⟩,
   ⟨0x004C0108, 0x4, 1, 0x1, 1, [⟨ECC_CLSk_CE_CNT, .rc, 0⟩]⟩,
   ⟨0x004C010C, 0x4, 1, 0x1, 1, [⟨ECC_CLSk_CB_CNT, .rc, 0⟩]⟩,
   ⟨0x004C0110, 0x4, 1, 0x1, 1, [⟨ECC_CLSk_UE_CNT, .rc, 0⟩]⟩,
   ⟨0x004C0114, 0x4, 1, 0x1, 1, [⟨ECC_CLSk_UE_ADDR, .ro, 0⟩]⟩,
   ⟨0x004C0118, 0x4, 1, 0x1, 1, [⟨ECC_CLSk_CE_ADDR, .ro, 0⟩]⟩,
   ⟨0x004C011C, 0x4, 1, 0x1, 1, [⟨ECC_CLSk_PERIOD, .rwl, 0xa⟩, ⟨ECC_CLSk_PASSES, .ro, 0⟩]⟩,
   ⟨0x004C0120, 0x4, 1, 0x1, 1, [⟨ECC_CLSk_DEPTH, .rwl, 0x40⟩, ⟨ECC_CLSk_LEAK, .rwl, 1⟩]⟩,
   ⟨0x004C0124, 0x4, 1, 0x1, 1, [⟨ECC_CLSk_LEVEL, .ro, 0⟩]⟩,
   ⟨0x004C0128, 0x4, 1, 0x1, 1, [⟨ECC_CLSk_CE_CNT, .rc, 0⟩]⟩,
   ⟨0x004C012C, 0x4, 1, 0x1, 1, [⟨ECC_CLSk_CB_CNT, .rc, 0⟩]⟩,
   ⟨0x004C0130, 0x4, 1, 0x1, 1, [⟨ECC_CLSk_UE_CNT, .rc, 0⟩]⟩,
   ⟨0x004C0134, 0x4, 1, 0x1, 1, [⟨ECC_CLSk_UE_ADDR, .ro, 0⟩]⟩,
   ⟨0x004C0138, 0x4, 1, 0x1, 1, [⟨ECC_CLSk_CE_ADDR, .ro, 0⟩]⟩,
   ⟨0x004C013C, 0x4, 1, 0x1, 1, [⟨ECC_CLSk_PERIOD, .rwl, 0xa⟩, ⟨ECC_CLSk_PASSES, .ro, 0⟩]⟩,
   ⟨0x004C0140, 0x4, 1, 0x1, 1, [⟨ECC_CLSk_DEPTH, .rwl, 0x40⟩, ⟨ECC_CLSk_LEAK, .rwl, 1⟩]⟩,
   ⟨0x004C0144, 0x4, 1, 0x1, 1, [⟨ECC_CLSk_LEVEL, .ro, 0⟩]⟩,
   ⟨0x004C0148, 0x4, 1, 0x1, 1, [⟨ECC_CLSk_CE_CNT, .rc, 0⟩]⟩,
   ⟨0x004C014C, 0x4, 1, 0x1, 1, [⟨ECC_CLSk_CB_CNT, .rc, 0⟩]⟩,
   ⟨0x004C0150, 0x4, 1, 0x1, 1, [⟨ECC_CLSk_UE_CNT, .rc, 0⟩]⟩,
   ⟨0x004C0154, 0x4, 1, 0x1, 1, [⟨ECC_CLSk_UE_ADDR, .ro, 0⟩]⟩,
   ⟨0x004C0158, 0x4, 1, 0x1, 1, [⟨ECC_CLSk_CE_ADDR, .ro, 0⟩]⟩,
   ⟨0x004C015C, 0x4, 1, 0x1, 1, [⟨ECC_CLSk_PERIOD, .rwl, 1⟩, ⟨ECC_CLSk_PASSES, .ro, 0⟩]⟩,
   ⟨0x004C0160, 0x4, 1, 0x1, 1, [⟨ECC_CLSk_DEPTH, .rwl, 0x40⟩, ⟨ECC_CLSk_LEAK, .rwl, 1⟩]⟩,
   ⟨0x004C0164, 0x4, 1, 0x1, 1, [⟨ECC_CLSk_LEVEL, .ro, 0⟩]⟩,
   ⟨0x004C0168, 0x4, 1, 0x1, 1, [⟨ECC_CLSk_CE_CNT, .rc, 0⟩]⟩,
   ⟨0x004C016C, 0x4, 1, 0x1, 1, [⟨ECC_CLSk_CB_CNT, .rc, 0⟩]⟩,
   ⟨0x004C0170, 0x4, 1, 0x1, 1, [⟨ECC_CLSk_UE_CNT, .rc, 0⟩]⟩,
   ⟨0x004C0174, 0x4, 1, 0x1, 1, [⟨ECC_CLSk_UE_ADDR, .ro, 0⟩]⟩,
   ⟨0x004C0178, 0x4, 1, 0x1, 1, [⟨ECC_CLSk_CE_ADDR, .ro, 0⟩]⟩,
   ⟨0x004C017C, 0x4, 1, 0x1, 1, [⟨ECC_CLSk_PERIOD, .rwl, 1⟩, ⟨ECC_CLSk_PASSES, .ro, 0⟩]⟩,
   ⟨0x004C0180, 0x4, 1, 0x1, 1, [⟨ECC_CLSk_DEPTH, .rwl, 0x40⟩, ⟨ECC_CLSk_LEAK, .rwl, 1⟩]⟩,
   ⟨0x004C0184, 0x4, 1, 0x1, 1, [⟨ECC_CLSk_LEVEL, .ro, 0⟩]⟩,
   ⟨0x004C0188, 0x4, 1, 0x1, 1, [⟨ECC_CLSk_CE_CNT, .rc, 0⟩]⟩]
def regDescsECC1 : List RegDesc :=
  [⟨0x004C018C, 0x4, 1, 0x1, 1, [⟨ECC_CLSk_CB_CNT, .rc, 0⟩]⟩,
   ⟨0x004C0190, 0x4, 1, 0x1, 1, [⟨ECC_CLSk_UE_CNT, .rc, 0⟩]⟩,
   ⟨0x004C0194, 0x4, 1, 0x1, 1, [⟨ECC_CLSk_UE_ADDR, .ro, 0⟩]⟩,
   ⟨0x004C0198, 0x4, 1, 0x1, 1, [⟨ECC_CLSk_CE_ADDR, .ro, 0⟩]⟩,
   ⟨0x004C019C, 0x4, 1, 0x1, 1, [⟨ECC_CLSk_PERIOD, .rwl, 0x3c⟩, ⟨ECC_CLSk_PASSES, .ro, 0⟩]⟩,
   ⟨0x004C01A0, 0x4, 1, 0x1, 1, [⟨ECC_CLSk_DEPTH, .rwl, 0x40⟩, ⟨ECC_CLSk_LEAK, .rwl, 1⟩]⟩,
   ⟨0x004C01A4, 0x4, 1, 0x1, 1, [⟨ECC_CLSk_LEVEL, .ro, 0⟩]⟩,
   ⟨0x004C01A8, 0x4, 1, 0x1, 1, [⟨ECC_CLSk_CE_CNT, .rc, 0⟩]⟩,
   ⟨0x004C01AC, 0x4, 1, 0x1, 1, [⟨ECC_CLSk_CB_CNT, .rc, 0⟩]⟩,
   ⟨0x004C01B0, 0x4, 1, 0x1, 1, [⟨ECC_CLSk_UE_CNT, .rc, 0⟩]⟩,
   ⟨0x004C01B4, 0x4, 1, 0x1, 1, [⟨ECC_CLSk_UE_ADDR, .ro, 0⟩]⟩,
   ⟨0x004C01B8, 0x4, 1, 0x1, 1, [⟨ECC_CLSk_CE_ADDR, .ro, 0⟩]⟩,
   ⟨0x004C01BC, 0x4, 1, 0x1, 1, [⟨ECC_CLSk_PERIOD, .rwl, 0xe10⟩, ⟨ECC_CLSk_PASSES, .ro, 0⟩]⟩,
   ⟨0x004C01C0, 0x4, 1, 0x1, 1, [⟨ECC_CLSk_DEPTH, .rwl, 0x40⟩, ⟨ECC_CLSk_LEAK, .rwl, 1⟩]⟩,
   ⟨0x004C01C4, 0x4, 1, 0x1, 1, [⟨ECC_CLSk_LEVEL, .ro, 0⟩]⟩,
   ⟨0x004C01C8, 0x4, 1, 0x1, 1, [⟨ECC_CLSk_CE_CNT, .rc, 0⟩]⟩,
   ⟨0x004C01CC, 0x4, 1, 0x1, 1, [⟨ECC_CLSk_CB_CNT, .rc, 0⟩]⟩,
   ⟨0x004C01D0, 0x4, 1, 0x1, 1, [⟨ECC_CLSk_UE_CNT, .rc, 0⟩]⟩,
   ⟨0x004C01D4, 0x4, 1, 0x1, 1, [⟨ECC_CLSk_UE_ADDR, .ro, 0⟩]⟩,
   ⟨0x004C01D8, 0x4, 1, 0x1, 1, [⟨ECC_CLSk_CE_ADDR, .ro, 0⟩]⟩,
   ⟨0x004C01DC, 0x4, 1, 0x1, 1, [⟨ECC_CLSk_PERIOD, .rwl, 1⟩, ⟨ECC_CLSk_PASSES, .ro, 0⟩]⟩,
   ⟨0x004C01E0, 0x4, 1, 0x1, 1, []⟩,
   ⟨0x004C01E4, 0x4, 1, 0x1, 1, [⟨ECC_CLSk_LEVEL, .ro, 0⟩]⟩,
   ⟨0x004C01E8, 0x4, 1, 0x1, 1, [⟨ECC_CLSk_CE_CNT, .rc, 0⟩]⟩,
   ⟨0x004C01EC, 0x4, 1, 0x1, 1, [⟨ECC_CLSk_CB_CNT, .rc, 0⟩]⟩,
   ⟨0x004C01F0, 0x4, 1, 0x1, 1, [⟨ECC_CLSk_UE_CNT, .rc, 0⟩]⟩,
   ⟨0x004C01F4, 0x4, 1, 0x1, 1, [⟨ECC_CLSk_UE_ADDR, .ro, 0⟩]⟩,
   ⟨0x004C01F8, 0x4, 1, 0x1, 1, [⟨ECC_CLSk_CE_ADDR, .ro, 0⟩]⟩,
   ⟨0x004C01FC, 0x4, 1, 0x1, 1, [⟨ECC_CLSk_PASSES, .ro, 0⟩]⟩]
def regDescsECC : List RegDesc := regDescsECC0 ++ regDescsECC1

/-! ### BRDG -/

def BRDG_CTRL : Nat := 0x00500000
def BRDG_CTRL_LOCK : Fld := ⟨31, 31⟩
def BRDG_CTRL_EN : Fld := ⟨30, 30⟩
def BRDG_CTRL_RETRY : Fld := ⟨19, 16⟩
def BRDG_CTRL_TMO : Fld := ⟨15, 0⟩
def BRDG_ETYPE : Nat := 0x00500004
def BRDG_ETYPE_ETYPE : Fld := ⟨15, 0⟩
def BRDG_STAT : Nat := 0x00500008
def BRDG_STAT_ERR : Fld := ⟨31, 31⟩
def BRDG_STAT_IFACE : Fld := ⟨30, 29⟩
def BRDG_STAT_CAUSE : Fld := ⟨28, 26⟩
def BRDG_STAT_WINDOW : Fld := ⟨5, 0⟩
def BRDG_EADDR : Nat := 0x0050000C
def BRDG_EADDR_ADDR : Fld := ⟨31, 0⟩
def BRDG_ECNT : Nat := 0x00500010
def BRDG_ECNT_DROP : Fld := ⟨31, 16⟩
def BRDG_ECNT_FAILS : Fld := ⟨15, 0⟩
def BRDG_PEND : Nat := 0x00500014
def BRDG_PEND_SPI : Fld := ⟨22, 16⟩
def BRDG_PEND_PCIE : Fld := ⟨6, 0⟩
def BRDG_WINw (n : Nat) : Nat := 0x00500100 + 16 * n
def BRDG_WINw_VALID : Fld := ⟨31, 31⟩
def BRDG_WINw_KIND : Fld := ⟨30, 30⟩
def BRDG_WINw_PF_EN : Fld := ⟨29, 29⟩
def BRDG_WINw_ATT : Fld := ⟨9, 0⟩
def BRDG_WINw_REMOTE_BASE : Fld := ⟨31, 22⟩
def BRDG_WINw_PF_LO : Fld := ⟨21, 0⟩
def BRDG_WINw_PF_HI : Fld := ⟨21, 0⟩

def regDescsBRDG0 : List RegDesc :=
  [⟨0x00500000, 0x4, 1, 0x1, 1, [⟨BRDG_CTRL_LOCK, .w1s, 0⟩, ⟨BRDG_CTRL_EN, .rwl, 1⟩, ⟨BRDG_CTRL_RETRY, .rwl, 2⟩, ⟨BRDG_CTRL_TMO, .rwl, 0xc8⟩]⟩,
   ⟨0x00500004, 0x4, 1, 0x1, 1, [⟨BRDG_ETYPE_ETYPE, .rwl, 0x88b5⟩]⟩,
   ⟨0x00500008, 0x4, 1, 0x1, 1, [⟨BRDG_STAT_ERR, .w1c, 0⟩, ⟨BRDG_STAT_IFACE, .ro, 0⟩, ⟨BRDG_STAT_CAUSE, .ro, 0⟩, ⟨BRDG_STAT_WINDOW, .ro, 0⟩]⟩,
   ⟨0x0050000C, 0x4, 1, 0x1, 1, [⟨BRDG_EADDR_ADDR, .ro, 0⟩]⟩,
   ⟨0x00500010, 0x4, 1, 0x1, 1, [⟨BRDG_ECNT_DROP, .rc, 0⟩, ⟨BRDG_ECNT_FAILS, .rc, 0⟩]⟩,
   ⟨0x00500014, 0x4, 1, 0x1, 1, [⟨BRDG_PEND_SPI, .ro, 0⟩, ⟨BRDG_PEND_PCIE, .ro, 0⟩]⟩,
   ⟨0x00500100, 0x10, 64, 0x1, 1, [⟨BRDG_WINw_VALID, .rwl, 0⟩, ⟨BRDG_WINw_KIND, .rwl, 0⟩, ⟨BRDG_WINw_PF_EN, .rwl, 0⟩, ⟨BRDG_WINw_ATT, .rwl, 0⟩]⟩,
   ⟨0x00500104, 0x10, 64, 0x1, 1, [⟨BRDG_WINw_REMOTE_BASE, .rwl, 0⟩]⟩,
   ⟨0x00500108, 0x10, 64, 0x1, 1, [⟨BRDG_WINw_PF_LO, .rwl, 0⟩]⟩,
   ⟨0x0050010C, 0x10, 64, 0x1, 1, [⟨BRDG_WINw_PF_HI, .rwl, 0⟩]⟩]
def regDescsBRDG : List RegDesc := regDescsBRDG0

/-! ### WINPORT -/

def GROUP_HASH (n k : Nat) : Nat := 0x00900000 + 512 * n + 4 * k
def GROUP_HASH_BINS : Fld := ⟨31, 0⟩
def GATE_ADMIN (n k : Nat) : Nat := 0x00A00000 + 1024 * n + 8 * k
def GATE_ADMIN_OP : Fld := ⟨17, 16⟩
def GATE_ADMIN_GATES : Fld := ⟨15, 0⟩
def GATE_ADMIN_INTERVAL : Fld := ⟨31, 0⟩
def GATE_OPER (n k : Nat) : Nat := 0x00A00200 + 1024 * n + 8 * k
def GATE_OPER_OP : Fld := ⟨17, 16⟩
def GATE_OPER_GATES : Fld := ⟨15, 0⟩
def GATE_OPER_INTERVAL : Fld := ⟨31, 0⟩
def CBSHAPER (n k : Nat) : Nat := 0x00B00000 + 64 * n + 4 * k
def CBSHAPER_EN : Fld := ⟨31, 31⟩
def CBSHAPER_IDLE_SLOPE : Fld := ⟨23, 0⟩
def EQ_TRUNK (n : Nat) : Nat := 0x00B80000 + 8 * n
def EQ_TRUNK_PRE3 : Fld := ⟨29, 24⟩
def EQ_TRUNK_PRE2 : Fld := ⟨23, 18⟩
def EQ_TRUNK_PRE1 : Fld := ⟨17, 12⟩
def EQ_TRUNK_MAIN : Fld := ⟨11, 6⟩
def EQ_TRUNK_POST1 : Fld := ⟨5, 0⟩
def EQ_TRUNK_RX_AUTO : Fld := ⟨31, 31⟩
def EQ_TRUNK_CTLE : Fld := ⟨4, 0⟩
def EQ_SEAM (n : Nat) : Nat := 0x00B82000 + 8 * n
def EQ_SEAM_PRE3 : Fld := ⟨29, 24⟩
def EQ_SEAM_PRE2 : Fld := ⟨23, 18⟩
def EQ_SEAM_PRE1 : Fld := ⟨17, 12⟩
def EQ_SEAM_MAIN : Fld := ⟨11, 6⟩
def EQ_SEAM_POST1 : Fld := ⟨5, 0⟩
def EQ_SEAM_RX_AUTO : Fld := ⟨31, 31⟩
def EQ_SEAM_CTLE : Fld := ⟨4, 0⟩
def EQ_OBS (n : Nat) : Nat := 0x00B82080 + 8 * n
def EQ_OBS_PRE3 : Fld := ⟨29, 24⟩
def EQ_OBS_PRE2 : Fld := ⟨23, 18⟩
def EQ_OBS_PRE1 : Fld := ⟨17, 12⟩
def EQ_OBS_MAIN : Fld := ⟨11, 6⟩
def EQ_OBS_POST1 : Fld := ⟨5, 0⟩
def EQ_OBS_RX_AUTO : Fld := ⟨31, 31⟩
def EQ_OBS_CTLE : Fld := ⟨4, 0⟩
def LOOM_RXBUF (n k : Nat) : Nat := 0x00C00000 + 4096 * n + 4 * k
def LOOM_RXBUF_OCTETS : Fld := ⟨31, 0⟩
def LIN_SCHED (n k : Nat) : Nat := 0x00C40000 + 512 * n + 8 * k
def LIN_SCHED_CMD_SLEEP : Fld := ⟨15, 15⟩
def LIN_SCHED_FRAME_ID : Fld := ⟨5, 0⟩
def LIN_SCHED_DELAY : Fld := ⟨31, 0⟩
def LIN_LEN (n k : Nat) : Nat := 0x00C48000 + 32 * n + 4 * k
def LIN_LEN_LENS : Fld := ⟨31, 0⟩
def PC_HASH (n k : Nat) : Nat := 0x00C50000 + 64 * n + 4 * k
def PC_HASH_BINS : Fld := ⟨31, 0⟩
def MEMBER (n k : Nat) : Nat := 0x00D00000 + 256 * n + 16 * k
def MEMBER_VALID : Fld := ⟨31, 31⟩
def MEMBER_KIND : Fld := ⟨30, 29⟩
def MEMBER_ORDER : Fld := ⟨28, 28⟩
def MEMBER_LISTEN : Fld := ⟨27, 27⟩
def MEMBER_AUTO_REC : Fld := ⟨26, 26⟩
def MEMBER_BUS_ID : Fld := ⟨20, 16⟩
def MEMBER_ATT : Fld := ⟨9, 0⟩
def MEMBER_STATE : Fld := ⟨31, 30⟩
def MEMBER_REC : Fld := ⟨23, 16⟩
def MEMBER_TEC : Fld := ⟨15, 8⟩
def MEMBER_PENDING : Fld := ⟨7, 1⟩
def MEMBER_RECOVER : Fld := ⟨0, 0⟩
def ATTACH (n : Nat) : Nat := 0x00E00000 + 32 * n
def ATTACH_VALID : Fld := ⟨31, 31⟩
def ATTACH_PORT : Fld := ⟨9, 0⟩
def ATTACH_RXSID_HI : Fld := ⟨31, 0⟩
def ATTACH_RXSID_LO : Fld := ⟨31, 0⟩
def ATTACH_TXSID_HI : Fld := ⟨31, 0⟩
def ATTACH_TXSID_LO : Fld := ⟨31, 0⟩
def ATTACH_DA_HI : Fld := ⟨31, 0⟩
def ATTACH_DA_LO : Fld := ⟨31, 16⟩
def ATTACH_PCP : Fld := ⟨15, 13⟩
def ATTACH_TAG : Fld := ⟨12, 12⟩
def ATTACH_VID : Fld := ⟨11, 0⟩
def ATTACH_PATH_DLY : Fld := ⟨31, 16⟩
def ATTACH_SEQ_GAP : Fld := ⟨15, 0⟩
def INJECTOR (n : Nat) : Nat := 0x00E08000 + 16 * n
def INJECTOR_EN : Fld := ⟨31, 31⟩
def INJECTOR_KIND : Fld := ⟨30, 28⟩
def INJECTOR_BUS : Fld := ⟨27, 16⟩
def INJECTOR_FLAGGER : Fld := ⟨15, 12⟩
def INJECTOR_IDE : Fld := ⟨31, 31⟩
def INJECTOR_ID : Fld := ⟨28, 0⟩
def INJECTOR_MASK : Fld := ⟨28, 0⟩
def INJECTOR_COUNT : Fld := ⟨31, 24⟩
def INJECTOR_EVERY : Fld := ⟨23, 16⟩
def INJECTOR_POS : Fld := ⟨15, 0⟩
def VLIN_SCHED (n : Nat) : Nat := 0x00E10000 + 8 * n
def VLIN_SCHED_CMD_SLEEP : Fld := ⟨15, 15⟩
def VLIN_SCHED_FRAME_ID : Fld := ⟨5, 0⟩
def VLIN_SCHED_DELAY : Fld := ⟨31, 0⟩
def VLIN_LEN (n k : Nat) : Nat := 0x00E30000 + 32 * n + 4 * k
def VLIN_LEN_LENS : Fld := ⟨31, 0⟩
def VBn_CNT (n k : Nat) : Nat := 0x00E80000 + 64 * n + 4 * k
def VBn_CNT_COUNT : Fld := ⟨31, 0⟩

def regDescsWINPORT0 : List RegDesc :=
  [⟨0x00900000, 0x200, 1024, 0x4, 128, [⟨GROUP_HASH_BINS, .rw, 0⟩]⟩,
   ⟨0x00A00000, 0x400, 1024, 0x8, 64, [⟨GATE_ADMIN_OP, .rw, 0⟩, ⟨GATE_ADMIN_GATES, .rw, 0⟩]⟩,
   ⟨0x00A00004, 0x400, 1024, 0x8, 64, [⟨GATE_ADMIN_INTERVAL, .rw, 0⟩]⟩,
   ⟨0x00A00200, 0x400, 1024, 0x8, 64, [⟨GATE_OPER_OP, .ro, 0⟩, ⟨GATE_OPER_GATES, .ro, 0⟩]⟩,
   ⟨0x00A00204, 0x400, 1024, 0x8, 64, [⟨GATE_OPER_INTERVAL, .ro, 0⟩]⟩,
   ⟨0x00B00000, 0x40, 1024, 0x4, 16, [⟨CBSHAPER_EN, .rw, 0⟩, ⟨CBSHAPER_IDLE_SLOPE, .rw, 0⟩]⟩,
   ⟨0x00B80000, 0x8, 1024, 0x1, 1, [⟨EQ_TRUNK_PRE3, .rw, 0⟩, ⟨EQ_TRUNK_PRE2, .rw, 0⟩, ⟨EQ_TRUNK_PRE1, .rw, 0x38⟩, ⟨EQ_TRUNK_MAIN, .rw, 0x38⟩, ⟨EQ_TRUNK_POST1, .rw, 0⟩]⟩,
   ⟨0x00B80004, 0x8, 1024, 0x1, 1, [⟨EQ_TRUNK_RX_AUTO, .rw, 1⟩, ⟨EQ_TRUNK_CTLE, .rw, 0⟩]⟩,
   ⟨0x00B82000, 0x8, 16, 0x1, 1, [⟨EQ_SEAM_PRE3, .rw, 0⟩, ⟨EQ_SEAM_PRE2, .rw, 0⟩, ⟨EQ_SEAM_PRE1, .rw, 0x38⟩, ⟨EQ_SEAM_MAIN, .rw, 0x38⟩, ⟨EQ_SEAM_POST1, .rw, 0⟩]⟩,
   ⟨0x00B82004, 0x8, 16, 0x1, 1, [⟨EQ_SEAM_RX_AUTO, .rw, 1⟩, ⟨EQ_SEAM_CTLE, .rw, 0⟩]⟩,
   ⟨0x00B82080, 0x8, 2, 0x1, 1, [⟨EQ_OBS_PRE3, .rw, 0⟩, ⟨EQ_OBS_PRE2, .rw, 0⟩, ⟨EQ_OBS_PRE1, .rw, 0x38⟩, ⟨EQ_OBS_MAIN, .rw, 0x38⟩, ⟨EQ_OBS_POST1, .rw, 0⟩]⟩,
   ⟨0x00B82084, 0x8, 2, 0x1, 1, [⟨EQ_OBS_RX_AUTO, .rw, 1⟩, ⟨EQ_OBS_CTLE, .rw, 0⟩]⟩,
   ⟨0x00C00000, 0x1000, 64, 0x4, 1024, [⟨LOOM_RXBUF_OCTETS, .ro, 0⟩]⟩,
   ⟨0x00C40000, 0x200, 64, 0x8, 64, [⟨LIN_SCHED_CMD_SLEEP, .rw, 0⟩, ⟨LIN_SCHED_FRAME_ID, .rw, 0⟩]⟩,
   ⟨0x00C40004, 0x200, 64, 0x8, 64, [⟨LIN_SCHED_DELAY, .rw, 0⟩]⟩,
   ⟨0x00C48000, 0x20, 64, 0x4, 8, [⟨LIN_LEN_LENS, .rw, 0⟩]⟩,
   ⟨0x00C50000, 0x40, 16, 0x4, 16, [⟨PC_HASH_BINS, .rw, 0⟩]⟩,
   ⟨0x00D00000, 0x100, 4096, 0x10, 16, [⟨MEMBER_VALID, .rw, 0⟩, ⟨MEMBER_KIND, .rw, 0⟩, ⟨MEMBER_ORDER, .rw, 0⟩, ⟨MEMBER_LISTEN, .rw, 0⟩, ⟨MEMBER_AUTO_REC, .rw, 1⟩, ⟨MEMBER_BUS_ID, .rw, 0⟩, ⟨MEMBER_ATT, .rw, 0⟩]⟩,
   ⟨0x00D00004, 0x100, 4096, 0x10, 16, [⟨MEMBER_STATE, .ro, 0⟩, ⟨MEMBER_REC, .ro, 0⟩, ⟨MEMBER_TEC, .ro, 0⟩, ⟨MEMBER_PENDING, .ro, 0⟩, ⟨MEMBER_RECOVER, .wo, 0⟩]⟩,
   ⟨0x00D00008, 0x100, 4096, 0x10, 16, []⟩,
   ⟨0x00D0000C, 0x100, 4096, 0x10, 16, []⟩,
   ⟨0x00E00000, 0x20, 1024, 0x1, 1, [⟨ATTACH_VALID, .rw, 0⟩, ⟨ATTACH_PORT, .rw, 0⟩]⟩,
   ⟨0x00E00004, 0x20, 1024, 0x1, 1, [⟨ATTACH_RXSID_HI, .rw, 0⟩]⟩,
   ⟨0x00E00008, 0x20, 1024, 0x1, 1, [⟨ATTACH_RXSID_LO, .rw, 0⟩]⟩,
   ⟨0x00E0000C, 0x20, 1024, 0x1, 1, [⟨ATTACH_TXSID_HI, .rw, 0⟩]⟩,
   ⟨0x00E00010, 0x20, 1024, 0x1, 1, [⟨ATTACH_TXSID_LO, .rw, 0⟩]⟩,
   ⟨0x00E00014, 0x20, 1024, 0x1, 1, [⟨ATTACH_DA_HI, .rw, 0⟩]⟩,
   ⟨0x00E00018, 0x20, 1024, 0x1, 1, [⟨ATTACH_DA_LO, .rw, 0⟩, ⟨ATTACH_PCP, .rw, 0⟩, ⟨ATTACH_TAG, .rw, 0⟩, ⟨ATTACH_VID, .rw, 0⟩]⟩,
   ⟨0x00E0001C, 0x20, 1024, 0x1, 1, [⟨ATTACH_PATH_DLY, .rw, 0⟩, ⟨ATTACH_SEQ_GAP, .rc, 0⟩]⟩,
   ⟨0x00E08000, 0x10, 64, 0x1, 1, [⟨INJECTOR_EN, .rw, 0⟩, ⟨INJECTOR_KIND, .rw, 0⟩, ⟨INJECTOR_BUS, .rw, 0⟩, ⟨INJECTOR_FLAGGER, .rw, 0⟩]⟩,
   ⟨0x00E08004, 0x10, 64, 0x1, 1, [⟨INJECTOR_IDE, .rw, 0⟩, ⟨INJECTOR_ID, .rw, 0⟩]⟩,
   ⟨0x00E08008, 0x10, 64, 0x1, 1, [⟨INJECTOR_MASK, .rw, 0⟩]⟩,
   ⟨0x00E0800C, 0x10, 64, 0x1, 1, [⟨INJECTOR_COUNT, .rw, 0⟩, ⟨INJECTOR_EVERY, .rw, 0⟩, ⟨INJECTOR_POS, .rw, 0⟩]⟩,
   ⟨0x00E10000, 0x8, 16384, 0x1, 1, [⟨VLIN_SCHED_CMD_SLEEP, .rw, 0⟩, ⟨VLIN_SCHED_FRAME_ID, .rw, 0⟩]⟩,
   ⟨0x00E10004, 0x8, 16384, 0x1, 1, [⟨VLIN_SCHED_DELAY, .rw, 0⟩]⟩,
   ⟨0x00E30000, 0x20, 4096, 0x4, 8, [⟨VLIN_LEN_LENS, .rw, 0⟩]⟩,
   ⟨0x00E80000, 0x40, 4096, 0x4, 16, [⟨VBn_CNT_COUNT, .rc, 0⟩]⟩]
def regDescsWINPORT : List RegDesc := regDescsWINPORT0

/-! ### WINTBL -/

def ROUTE (n : Nat) : Nat := 0x01000000 + 4 * n
def ROUTE_VALID : Fld := ⟨31, 31⟩
def ROUTE_PUNT : Fld := ⟨30, 30⟩
def ROUTE_CNT : Fld := ⟨21, 18⟩
def ROUTE_DIDX : Fld := ⟨17, 0⟩
def DESCRIPTOR (n : Nat) : Nat := 0x01400000 + 16 * n
def DESCRIPTOR_VALID : Fld := ⟨31, 31⟩
def DESCRIPTOR_MEDIUM : Fld := ⟨30, 28⟩
def DESCRIPTOR_FMT : Fld := ⟨27, 26⟩
def DESCRIPTOR_KEEP_FMT : Fld := ⟨25, 25⟩
def DESCRIPTOR_KEEP_ID : Fld := ⟨24, 24⟩
def DESCRIPTOR_BRS : Fld := ⟨23, 23⟩
def DESCRIPTOR_INTER : Fld := ⟨22, 22⟩
def DESCRIPTOR_DTENANT : Fld := ⟨21, 12⟩
def DESCRIPTOR_TARGET : Fld := ⟨11, 0⟩
def DESCRIPTOR_IDE : Fld := ⟨31, 31⟩
def DESCRIPTOR_SEC : Fld := ⟨30, 30⟩
def DESCRIPTOR_NEW_ID : Fld := ⟨28, 0⟩
def DESCRIPTOR_AF : Fld := ⟨31, 0⟩
def DESCRIPTOR_SDT : Fld := ⟨31, 24⟩
def DESCRIPTOR_VCID : Fld := ⟨23, 16⟩
def DESCRIPTOR_AF_SRC : Fld := ⟨15, 15⟩
def DESCRIPTOR_STITCH : Fld := ⟨12, 12⟩
def DESCRIPTOR_PROG : Fld := ⟨11, 0⟩
def PAGEBASE (n : Nat) : Nat := 0x01800000 + 4 * n
def PAGEBASE_VALID : Fld := ⟨31, 31⟩
def PAGEBASE_EXT_EN : Fld := ⟨30, 30⟩
def PAGEBASE_NPAGES : Fld := ⟨28, 26⟩
def PAGEBASE_TENANT : Fld := ⟨21, 12⟩
def PAGEBASE_PAGE_BASE : Fld := ⟨11, 0⟩
def PAGE_OWNER (n : Nat) : Nat := 0x01810000 + 4 * n
def PAGE_OWNER_ASSIGNED : Fld := ⟨31, 31⟩
def PAGE_OWNER_TENANT : Fld := ⟨9, 0⟩
def BLOCK_OWNER (n : Nat) : Nat := 0x01818000 + 4 * n
def BLOCK_OWNER_ASSIGNED : Fld := ⟨31, 31⟩
def BLOCK_OWNER_TENANT : Fld := ⟨9, 0⟩
def POLICER_OWNER (n : Nat) : Nat := 0x0181C000 + 4 * n
def POLICER_OWNER_ASSIGNED : Fld := ⟨31, 31⟩
def POLICER_OWNER_TENANT : Fld := ⟨9, 0⟩
def TENANT (n : Nat) : Nat := 0x01820000 + 32 * n
def TENANT_LEARN : Fld := ⟨31, 31⟩
def TENANT_FLOOD : Fld := ⟨30, 30⟩
def TENANT_TTL_PUNT : Fld := ⟨29, 29⟩
def TENANT_DENY_DEF : Fld := ⟨28, 28⟩
def TENANT_RMAC_EN : Fld := ⟨27, 27⟩
def TENANT_AGE_LIMIT : Fld := ⟨15, 0⟩
def TENANT_STA_QUOTA : Fld := ⟨21, 0⟩
def TENANT_STA_COUNT : Fld := ⟨21, 0⟩
def TENANT_FLT_LEN : Fld := ⟨22, 16⟩
def TENANT_FLT_BASE : Fld := ⟨11, 0⟩
def TENANT_RMAC_HI : Fld := ⟨31, 0⟩
def TENANT_RMAC_LO : Fld := ⟨31, 16⟩
def TENANT_PUNT_Q : Fld := ⟨7, 0⟩
def TENANT_LPM_QUOTA : Fld := ⟨20, 0⟩
def TENANT_LPM_USE : Fld := ⟨20, 0⟩
def SPILLCAP (n : Nat) : Nat := 0x01828000 + 8 * n
def SPILLCAP_EN : Fld := ⟨31, 31⟩
def SPILLCAP_CAP : Fld := ⟨15, 0⟩
def SPILLCAP_USED : Fld := ⟨25, 0⟩
def RULE (n k : Nat) : Nat := 0x02000000 + 128 * n + 4 * k
def RULE_KEY : Fld := ⟨31, 0⟩
def RULE_VALID : Fld := ⟨31, 31⟩
def RULE_FORM : Fld := ⟨30, 29⟩
def RULE_ACT : Fld := ⟨28, 26⟩
def RULE_MIRROR : Fld := ⟨25, 25⟩
def RULE_SET_PCP : Fld := ⟨24, 24⟩
def RULE_PCP : Fld := ⟨23, 21⟩
def RULE_SET_POL : Fld := ⟨20, 20⟩
def RULE_POLICER : Fld := ⟨17, 0⟩
def RULE_SET_STREAM : Fld := ⟨31, 31⟩
def RULE_STREAM : Fld := ⟨15, 0⟩
def RULE_SET_Q : Fld := ⟨31, 31⟩
def RULE_QUEUE : Fld := ⟨30, 27⟩
def RULE_REDIR_PORT : Fld := ⟨9, 0⟩
def RULE_HITS (n : Nat) : Nat := 0x02800000 + 8 * n
def RULE_HITS_CNT_LO : Fld := ⟨31, 0⟩
def RULE_HITS_HI (n : Nat) : Nat := 0x02800004 + 8 * n
def RULE_HITS_HI_CNT_HI : Fld := ⟨31, 0⟩
def VLAN (n : Nat) : Nat := 0x02900000 + 16 * n
def VLAN_VALID : Fld := ⟨31, 31⟩
def VLAN_LEARN_DIS : Fld := ⟨30, 30⟩
def VLAN_MEMBERS (n k : Nat) : Nat := 0x02A00000 + 512 * n + 4 * k
def VLAN_MEMBERS_BITS : Fld := ⟨31, 0⟩
/-- The bits of PC0 to PC15 in word 32 of a set; bits 1,040 to 2,047 of a set are reserved (R237). -/
def VLAN_MEMBERS_PLCA : Fld := ⟨15, 0⟩
def VLAN_UNTAGGED_PLCA : Fld := ⟨15, 0⟩
def VLAN_UNTAGGED (n k : Nat) : Nat := 0x02A00100 + 512 * n + 4 * k
def VLAN_UNTAGGED_BITS : Fld := ⟨31, 0⟩
def HANDLE (n : Nat) : Nat := 0x02C00000 + 16 * n
def HANDLE_VALID : Fld := ⟨31, 31⟩
def HANDLE_GEN : Fld := ⟨30, 30⟩
def HANDLE_REC : Fld := ⟨29, 29⟩
def HANDLE_ENC : Fld := ⟨28, 28⟩
def HANDLE_DEC : Fld := ⟨27, 27⟩
def HANDLE_ALG : Fld := ⟨26, 26⟩
def HANDLE_TENANT : Fld := ⟨25, 16⟩
def HANDLE_HIST_LEN : Fld := ⟨31, 24⟩
def HANDLE_RESET_TO : Fld := ⟨15, 0⟩
def HANDLE_DISCARDED : Fld := ⟨31, 0⟩
def HANDLE_PASSED : Fld := ⟨31, 0⟩
def GROUP (n : Nat) : Nat := 0x02D00000 + 8 * n
def GROUP_VALID : Fld := ⟨31, 31⟩
def GROUP_INTER : Fld := ⟨30, 30⟩
def GROUP_SRC_TENANT : Fld := ⟨29, 20⟩
def GROUP_BASE : Fld := ⟨19, 0⟩
def GROUP_COUNT : Fld := ⟨10, 0⟩
def GROUP_SLOT (n : Nat) : Nat := 0x02E00000 + 4 * n
def GROUP_SLOT_DEST1 : Fld := ⟨26, 16⟩
def GROUP_SLOT_DEST0 : Fld := ⟨10, 0⟩
def NEXTHOP (n : Nat) : Nat := 0x03000000 + 16 * n
def NEXTHOP_VALID : Fld := ⟨31, 31⟩
def NEXTHOP_PUNT : Fld := ⟨30, 30⟩
def NEXTHOP_DROP : Fld := ⟨29, 29⟩
def NEXTHOP_MCAST : Fld := ⟨28, 28⟩
def NEXTHOP_VID : Fld := ⟨27, 16⟩
def NEXTHOP_DEST : Fld := ⟨15, 0⟩
def NEXTHOP_DA_HI : Fld := ⟨31, 0⟩
def NEXTHOP_DA_LO : Fld := ⟨31, 16⟩
def NEXTHOP_TENANT : Fld := ⟨25, 16⟩

def regDescsWINTBL0 : List RegDesc :=
  [⟨0x01000000, 0x4, 1048576, 0x1, 1, [⟨ROUTE_VALID, .rw, 0⟩, ⟨ROUTE_PUNT, .rw, 0⟩, ⟨ROUTE_CNT, .rw, 0⟩, ⟨ROUTE_DIDX, .rw, 0⟩]⟩,
   ⟨0x01400000, 0x10, 262144, 0x1, 1, [⟨DESCRIPTOR_VALID, .rw, 0⟩, ⟨DESCRIPTOR_MEDIUM, .rw, 0⟩, ⟨DESCRIPTOR_FMT, .rw, 0⟩, ⟨DESCRIPTOR_KEEP_FMT, .rw, 0⟩, ⟨DESCRIPTOR_KEEP_ID, .rw, 0⟩, ⟨DESCRIPTOR_BRS, .rw, 0⟩, ⟨DESCRIPTOR_INTER, .rw, 0⟩, ⟨DESCRIPTOR_DTENANT, .rw, 0⟩, ⟨DESCRIPTOR_TARGET, .rw, 0⟩]⟩,
   ⟨0x01400004, 0x10, 262144, 0x1, 1, [⟨DESCRIPTOR_IDE, .rw, 0⟩, ⟨DESCRIPTOR_SEC, .rw, 0⟩, ⟨DESCRIPTOR_NEW_ID, .rw, 0⟩]⟩,
   ⟨0x01400008, 0x10, 262144, 0x1, 1, [⟨DESCRIPTOR_AF, .rw, 0⟩]⟩,
   ⟨0x0140000C, 0x10, 262144, 0x1, 1, [⟨DESCRIPTOR_SDT, .rw, 0⟩, ⟨DESCRIPTOR_VCID, .rw, 0⟩, ⟨DESCRIPTOR_AF_SRC, .rw, 0⟩, ⟨DESCRIPTOR_STITCH, .rw, 0⟩, ⟨DESCRIPTOR_PROG, .rw, 0⟩]⟩,
   ⟨0x01800000, 0x4, 5184, 0x1, 1, [⟨PAGEBASE_VALID, .rw, 0⟩, ⟨PAGEBASE_EXT_EN, .rw, 0⟩, ⟨PAGEBASE_NPAGES, .rw, 0⟩, ⟨PAGEBASE_TENANT, .rw, 0⟩, ⟨PAGEBASE_PAGE_BASE, .rw, 0⟩]⟩,
   ⟨0x01810000, 0x4, 4096, 0x1, 1, [⟨PAGE_OWNER_ASSIGNED, .rw, 0⟩, ⟨PAGE_OWNER_TENANT, .rw, 0⟩]⟩,
   ⟨0x01818000, 0x4, 4096, 0x1, 1, [⟨BLOCK_OWNER_ASSIGNED, .rw, 0⟩, ⟨BLOCK_OWNER_TENANT, .rw, 0⟩]⟩,
   ⟨0x0181C000, 0x4, 4096, 0x1, 1, [⟨POLICER_OWNER_ASSIGNED, .rw, 0⟩, ⟨POLICER_OWNER_TENANT, .rw, 0⟩]⟩,
   ⟨0x01820000, 0x20, 1024, 0x1, 1, [⟨TENANT_LEARN, .rw, 1⟩, ⟨TENANT_FLOOD, .rw, 1⟩, ⟨TENANT_TTL_PUNT, .rw, 0⟩, ⟨TENANT_DENY_DEF, .rw, 0⟩, ⟨TENANT_RMAC_EN, .rw, 0⟩, ⟨TENANT_AGE_LIMIT, .rw, 0x9503⟩]⟩,
   ⟨0x01820004, 0x20, 1024, 0x1, 1, [⟨TENANT_STA_QUOTA, .rw, 0x800⟩]⟩,
   ⟨0x01820008, 0x20, 1024, 0x1, 1, [⟨TENANT_STA_COUNT, .ro, 0⟩]⟩,
   ⟨0x0182000C, 0x20, 1024, 0x1, 1, [⟨TENANT_FLT_LEN, .rw, 0⟩, ⟨TENANT_FLT_BASE, .rw, 0⟩]⟩,
   ⟨0x01820010, 0x20, 1024, 0x1, 1, [⟨TENANT_RMAC_HI, .rw, 0⟩]⟩,
   ⟨0x01820014, 0x20, 1024, 0x1, 1, [⟨TENANT_RMAC_LO, .rw, 0⟩, ⟨TENANT_PUNT_Q, .rw, 0⟩]⟩,
   ⟨0x01820018, 0x20, 1024, 0x1, 1, [⟨TENANT_LPM_QUOTA, .rw, 0⟩]⟩,
   ⟨0x0182001C, 0x20, 1024, 0x1, 1, [⟨TENANT_LPM_USE, .ro, 0⟩]⟩,
   ⟨0x01828000, 0x8, 1024, 0x1, 1, [⟨SPILLCAP_EN, .rw, 0⟩, ⟨SPILLCAP_CAP, .rw, 0⟩]⟩,
   ⟨0x01828004, 0x8, 1024, 0x1, 1, [⟨SPILLCAP_USED, .ro, 0⟩]⟩,
   ⟨0x02000000, 0x80, 65536, 0x4, 16, [⟨RULE_KEY, .rw, 0⟩]⟩,
   ⟨0x02000040, 0x80, 65536, 0x1, 1, [⟨RULE_VALID, .rw, 0⟩, ⟨RULE_FORM, .rw, 0⟩, ⟨RULE_ACT, .rw, 0⟩, ⟨RULE_MIRROR, .rw, 0⟩, ⟨RULE_SET_PCP, .rw, 0⟩, ⟨RULE_PCP, .rw, 0⟩, ⟨RULE_SET_POL, .rw, 0⟩, ⟨RULE_POLICER, .rw, 0⟩]⟩,
   ⟨0x02000044, 0x80, 65536, 0x1, 1, [⟨RULE_SET_STREAM, .rw, 0⟩, ⟨RULE_STREAM, .rw, 0⟩]⟩,
   ⟨0x02000048, 0x80, 65536, 0x1, 1, [⟨RULE_SET_Q, .rw, 0⟩, ⟨RULE_QUEUE, .rw, 0⟩, ⟨RULE_REDIR_PORT, .rw, 0⟩]⟩,
   ⟨0x0200004C, 0x80, 65536, 0x4, 13, []⟩,
   ⟨0x02800000, 0x8, 65536, 0x1, 1, [⟨RULE_HITS_CNT_LO, .rc, 0⟩]⟩,
   ⟨0x02800004, 0x8, 65536, 0x1, 1, [⟨RULE_HITS_HI_CNT_HI, .ro, 0⟩]⟩,
   ⟨0x02900000, 0x4, 1, 0x1, 1, [⟨VLAN_VALID, .rw, 0⟩, ⟨VLAN_LEARN_DIS, .rw, 0⟩]⟩,
   ⟨0x02900004, 0x10, 4096, 0x4, 3, []⟩,
   ⟨0x02900010, 0x4, 1, 0x1, 1, [⟨VLAN_VALID, .rw, 1⟩, ⟨VLAN_LEARN_DIS, .rw, 0⟩]⟩,
   ⟨0x02900020, 0x10, 4094, 0x1, 1, [⟨VLAN_VALID, .rw, 0⟩, ⟨VLAN_LEARN_DIS, .rw, 0⟩]⟩,
   ⟨0x02A00000, 0x200, 4096, 0x4, 32, [⟨VLAN_MEMBERS_BITS, .rw, 0⟩]⟩,
   ⟨0x02A00080, 0x200, 4096, 0x1, 1, [⟨VLAN_MEMBERS_PLCA, .rw, 0⟩]⟩,
   ⟨0x02A00084, 0x200, 4096, 0x4, 31, []⟩,
   ⟨0x02A00100, 0x200, 4096, 0x4, 32, [⟨VLAN_UNTAGGED_BITS, .rw, 0⟩]⟩,
   ⟨0x02A00180, 0x200, 4096, 0x1, 1, [⟨VLAN_UNTAGGED_PLCA, .rw, 0⟩]⟩,
   ⟨0x02A00184, 0x200, 4096, 0x4, 31, []⟩,
   ⟨0x02C00000, 0x10, 65536, 0x1, 1, [⟨HANDLE_VALID, .rw, 0⟩, ⟨HANDLE_GEN, .rw, 0⟩, ⟨HANDLE_REC, .rw, 0⟩, ⟨HANDLE_ENC, .rw, 0⟩, ⟨HANDLE_DEC, .rw, 0⟩, ⟨HANDLE_ALG, .rw, 0⟩, ⟨HANDLE_TENANT, .rw, 0⟩]⟩,
   ⟨0x02C00004, 0x10, 65536, 0x1, 1, [⟨HANDLE_HIST_LEN, .rw, 0⟩, ⟨HANDLE_RESET_TO, .rw, 0⟩]⟩,
   ⟨0x02C00008, 0x10, 65536, 0x1, 1, [⟨HANDLE_DISCARDED, .rc, 0⟩]⟩,
   ⟨0x02C0000C, 0x10, 65536, 0x1, 1, [⟨HANDLE_PASSED, .rc, 0⟩]⟩,
   ⟨0x02D00000, 0x8, 65536, 0x1, 1, [⟨GROUP_VALID, .rw, 0⟩, ⟨GROUP_INTER, .rw, 0⟩, ⟨GROUP_SRC_TENANT, .rw, 0⟩, ⟨GROUP_BASE, .rw, 0⟩]⟩,
   ⟨0x02D00004, 0x8, 65536, 0x1, 1, [⟨GROUP_COUNT, .rw, 0⟩]⟩,
   ⟨0x02E00000, 0x4, 524288, 0x1, 1, [⟨GROUP_SLOT_DEST1, .rw, 0⟩, ⟨GROUP_SLOT_DEST0, .rw, 0⟩]⟩,
   ⟨0x03000000, 0x10, 65536, 0x1, 1, [⟨NEXTHOP_VALID, .rw, 0⟩, ⟨NEXTHOP_PUNT, .rw, 0⟩, ⟨NEXTHOP_DROP, .rw, 0⟩, ⟨NEXTHOP_MCAST, .rw, 0⟩, ⟨NEXTHOP_VID, .rw, 0⟩, ⟨NEXTHOP_DEST, .rw, 0⟩]⟩]
def regDescsWINTBL1 : List RegDesc :=
  [⟨0x03000004, 0x10, 65536, 0x1, 1, [⟨NEXTHOP_DA_HI, .rw, 0⟩]⟩,
   ⟨0x03000008, 0x10, 65536, 0x1, 1, [⟨NEXTHOP_DA_LO, .rw, 0⟩]⟩,
   ⟨0x0300000C, 0x10, 65536, 0x1, 1, [⟨NEXTHOP_TENANT, .rw, 0⟩]⟩]
def regDescsWINTBL : List RegDesc := regDescsWINTBL0 ++ regDescsWINTBL1

/-! ### WINCORE -/

def POLICER (n : Nat) : Nat := 0x04000000 + 32 * n
def POLICER_VALID : Fld := ⟨31, 31⟩
def POLICER_CAWARE : Fld := ⟨30, 30⟩
def POLICER_YACT : Fld := ⟨29, 28⟩
def POLICER_ADJ : Fld := ⟨23, 16⟩
def POLICER_MANT : Fld := ⟨31, 16⟩
def POLICER_EXP : Fld := ⟨4, 0⟩
def POLICER_CBS : Fld := ⟨23, 0⟩
def POLICER_PBS : Fld := ⟨23, 0⟩
def POLICER_GREEN : Fld := ⟨31, 0⟩
def POLICER_YELLOW : Fld := ⟨31, 0⟩
def POLICER_RED : Fld := ⟨31, 0⟩
def QUEUE (n k : Nat) : Nat := 0x05000000 + 512 * n + 16 * k
def QUEUE_SPILL_EN : Fld := ⟨31, 31⟩
def QUEUE_QMAX : Fld := ⟨25, 0⟩
def QUEUE_FAST : Fld := ⟨31, 16⟩
def QUEUE_SPILLED : Fld := ⟨25, 0⟩
def QUEUE_DROPS : Fld := ⟨31, 0⟩
def PORTWORD (n : Nat) : Nat := 0x05000110 + 512 * n
def PORTWORD_CT_EN : Fld := ⟨31, 31⟩
def PORTWORD_HPROF : Fld := ⟨27, 24⟩
def PORTWORD_SAMPLE_N : Fld := ⟨20, 16⟩
def LOOM_QUEUE (n : Nat) : Nat := 0x05080004 + 16 * n
def LOOM_QUEUE_FAST : Fld := ⟨31, 16⟩
def LOOM_QUEUE_DROPS : Fld := ⟨31, 0⟩
def PC_QUEUE (n k : Nat) : Nat := 0x05080404 + 128 * n + 16 * k
def PC_QUEUE_FAST : Fld := ⟨31, 16⟩
def PC_QUEUE_DROPS : Fld := ⟨31, 0⟩
def VB_QUEUE (n : Nat) : Nat := 0x05090004 + 16 * n
def VB_QUEUE_FAST : Fld := ⟨31, 16⟩
def VB_QUEUE_DROPS : Fld := ⟨31, 0⟩
def LAG (n : Nat) : Nat := 0x05100000 + 512 * n
def LAG_VALID : Fld := ⟨31, 31⟩
def LAG_TRACK : Fld := ⟨30, 30⟩
def LAG_TENANT : Fld := ⟨25, 16⟩
def LAG_NMEM : Fld := ⟨6, 0⟩
def LAG_ADMIN : Fld := ⟨31, 0⟩
def LAG_ACTIVE : Fld := ⟨31, 0⟩
def LAG_TWIN1 : Fld := ⟨31, 31⟩
def LAG_PORT1 : Fld := ⟨25, 16⟩
def LAG_TWIN0 : Fld := ⟨15, 15⟩
def LAG_PORT0 : Fld := ⟨9, 0⟩
def LAG_S3 : Fld := ⟨29, 24⟩
def LAG_S2 : Fld := ⟨21, 16⟩
def LAG_S1 : Fld := ⟨13, 8⟩
def LAG_S0 : Fld := ⟨5, 0⟩

def regDescsWINCORE0 : List RegDesc :=
  [⟨0x04000000, 0x20, 262144, 0x1, 1, [⟨POLICER_VALID, .rw, 0⟩, ⟨POLICER_CAWARE, .rw, 0⟩, ⟨POLICER_YACT, .rw, 0⟩, ⟨POLICER_ADJ, .rw, 0⟩]⟩,
   ⟨0x04000004, 0x20, 262144, 0x1, 1, [⟨POLICER_MANT, .rw, 0⟩, ⟨POLICER_EXP, .rw, 0⟩]⟩,
   ⟨0x04000008, 0x20, 262144, 0x1, 1, [⟨POLICER_MANT, .rw, 0⟩, ⟨POLICER_EXP, .rw, 0⟩]⟩,
   ⟨0x0400000C, 0x20, 262144, 0x1, 1, [⟨POLICER_CBS, .rw, 0⟩]⟩,
   ⟨0x04000010, 0x20, 262144, 0x1, 1, [⟨POLICER_PBS, .rw, 0⟩]⟩,
   ⟨0x04000014, 0x20, 262144, 0x1, 1, [⟨POLICER_GREEN, .rc, 0⟩]⟩,
   ⟨0x04000018, 0x20, 262144, 0x1, 1, [⟨POLICER_YELLOW, .rc, 0⟩]⟩,
   ⟨0x0400001C, 0x20, 262144, 0x1, 1, [⟨POLICER_RED, .rc, 0⟩]⟩,
   ⟨0x05000000, 0x200, 1024, 0x10, 16, [⟨QUEUE_SPILL_EN, .rw, 1⟩, ⟨QUEUE_QMAX, .rw, 0x3ffffff⟩]⟩,
   ⟨0x05000004, 0x200, 1024, 0x10, 17, [⟨QUEUE_FAST, .ro, 0⟩]⟩,
   ⟨0x05000008, 0x200, 1024, 0x10, 17, [⟨QUEUE_SPILLED, .ro, 0⟩]⟩,
   ⟨0x0500000C, 0x200, 1024, 0x10, 17, [⟨QUEUE_DROPS, .rc, 0⟩]⟩,
   ⟨0x05000100, 0x200, 1024, 0x1, 1, []⟩,
   ⟨0x05000110, 0x200, 1024, 0x1, 1, [⟨PORTWORD_CT_EN, .rw, 0⟩, ⟨PORTWORD_HPROF, .rw, 0⟩, ⟨PORTWORD_SAMPLE_N, .rw, 0⟩]⟩,
   ⟨0x05080000, 0x10, 64, 0x1, 1, []⟩,
   ⟨0x05080004, 0x10, 64, 0x1, 1, [⟨LOOM_QUEUE_FAST, .ro, 0⟩]⟩,
   ⟨0x05080008, 0x10, 64, 0x1, 1, []⟩,
   ⟨0x0508000C, 0x10, 64, 0x1, 1, [⟨LOOM_QUEUE_DROPS, .rc, 0⟩]⟩,
   ⟨0x05080400, 0x80, 16, 0x10, 8, []⟩,
   ⟨0x05080404, 0x80, 16, 0x10, 8, [⟨PC_QUEUE_FAST, .ro, 0⟩]⟩,
   ⟨0x05080408, 0x80, 16, 0x10, 8, []⟩,
   ⟨0x0508040C, 0x80, 16, 0x10, 8, [⟨PC_QUEUE_DROPS, .rc, 0⟩]⟩,
   ⟨0x05090000, 0x10, 4096, 0x1, 1, []⟩,
   ⟨0x05090004, 0x10, 4096, 0x1, 1, [⟨VB_QUEUE_FAST, .ro, 0⟩]⟩,
   ⟨0x05090008, 0x10, 4096, 0x1, 1, []⟩,
   ⟨0x0509000C, 0x10, 4096, 0x1, 1, [⟨VB_QUEUE_DROPS, .rc, 0⟩]⟩,
   ⟨0x05100000, 0x200, 256, 0x1, 1, [⟨LAG_VALID, .rw, 0⟩, ⟨LAG_TRACK, .rw, 0⟩, ⟨LAG_TENANT, .rw, 0⟩, ⟨LAG_NMEM, .rw, 0⟩]⟩,
   ⟨0x05100004, 0x200, 256, 0x1, 1, []⟩,
   ⟨0x05100008, 0x200, 256, 0x4, 2, [⟨LAG_ADMIN, .rw, 0⟩]⟩,
   ⟨0x05100010, 0x200, 256, 0x4, 2, [⟨LAG_ACTIVE, .ro, 0⟩]⟩,
   ⟨0x05100018, 0x200, 256, 0x4, 2, []⟩,
   ⟨0x05100020, 0x200, 256, 0x4, 32, [⟨LAG_TWIN1, .rw, 0⟩, ⟨LAG_PORT1, .rw, 0⟩, ⟨LAG_TWIN0, .rw, 0⟩, ⟨LAG_PORT0, .rw, 0⟩]⟩,
   ⟨0x051000A0, 0x200, 256, 0x4, 24, []⟩,
   ⟨0x05100100, 0x200, 256, 0x4, 64, [⟨LAG_S3, .ro, 0⟩, ⟨LAG_S2, .ro, 0⟩, ⟨LAG_S1, .ro, 0⟩, ⟨LAG_S0, .ro, 0⟩]⟩]
def regDescsWINCORE : List RegDesc := regDescsWINCORE0

/-! ### WINOBS -/

def SV_WINDOW (n : Nat) : Nat := 0x06000000 + 4 * n
def SV_WINDOW_OCTETS : Fld := ⟨31, 0⟩
def COUNTER (n : Nat) : Nat := 0x06200000 + 32 * n
def COUNTER_EN : Fld := ⟨31, 31⟩
def COUNTER_MODE : Fld := ⟨30, 30⟩
def COUNTER_TEN_EN : Fld := ⟨29, 29⟩
def COUNTER_MST_EN : Fld := ⟨28, 28⟩
def COUNTER_ADDR_EN : Fld := ⟨27, 27⟩
def COUNTER_PRIV : Fld := ⟨26, 24⟩
def COUNTER_TENANT : Fld := ⟨21, 12⟩
def COUNTER_EVENT : Fld := ⟨11, 0⟩
def COUNTER_CLASS : Fld := ⟨31, 16⟩
def COUNTER_MASTER : Fld := ⟨13, 0⟩
def COUNTER_ADDR_LO : Fld := ⟨31, 0⟩
def COUNTER_ADDR_HI : Fld := ⟨31, 0⟩
def COUNTER_COUNT_LO : Fld := ⟨31, 0⟩
def COUNTER_WRAP : Fld := ⟨31, 31⟩
def COUNTER_COUNT_HI : Fld := ⟨15, 0⟩
def HISTUNIT (n : Nat) : Nat := 0x06240000 + 16 * n
def HISTUNIT_EN : Fld := ⟨31, 31⟩
def HISTUNIT_SRC : Fld := ⟨30, 28⟩
def HISTUNIT_FROM : Fld := ⟨27, 24⟩
def HISTUNIT_TO : Fld := ⟨23, 20⟩
def HISTUNIT_SHIFT : Fld := ⟨19, 15⟩
def HISTUNIT_TEN_EN : Fld := ⟨10, 10⟩
def HISTUNIT_TENANT : Fld := ⟨9, 0⟩
def HISTUNIT_INST_EN : Fld := ⟨31, 31⟩
def HISTUNIT_INSTANCE : Fld := ⟨13, 0⟩
def SNAPWIN (n : Nat) : Nat := 0x06280000 + 4 * n
def SNAPWIN_VALUE : Fld := ⟨31, 0⟩
def TAGRING (n k : Nat) : Nat := 0x062C0000 + 128 * n + 4 * k
def TAGRING_OCTETS : Fld := ⟨31, 0⟩
def COALESCER (n : Nat) : Nat := 0x06300000 + 32 * n
def COALESCER_SUSPECT : Fld := ⟨31, 0⟩
def COALESCER_PARTNERS : Fld := ⟨31, 16⟩
def COALESCER_CODE : Fld := ⟨15, 0⟩
def COALESCER_COUNT : Fld := ⟨31, 0⟩
def COALESCER_FIRST_LO : Fld := ⟨31, 0⟩
def COALESCER_FIRST_HI : Fld := ⟨31, 0⟩
def COALESCER_LAST_LO : Fld := ⟨31, 0⟩
def COALESCER_LAST_HI : Fld := ⟨31, 0⟩
def COALESCER_OPEN : Fld := ⟨31, 31⟩
def COALESCER_SEVERITY : Fld := ⟨1, 0⟩
def KUM_BUF (n k : Nat) : Nat := 0x06800000 + 4096 * n + 4 * k
def KUM_BUF_OCTETS : Fld := ⟨31, 0⟩
def KEY_ATTR (n k : Nat) : Nat := 0x06900000 + 32 * n + 4 * k
def KEY_ATTR_WORD : Fld := ⟨31, 0⟩

def regDescsWINOBS0 : List RegDesc :=
  [⟨0x06000000, 0x4, 16384, 0x1, 1, [⟨SV_WINDOW_OCTETS, .ro, 0⟩]⟩,
   ⟨0x06200000, 0x20, 4096, 0x1, 1, [⟨COUNTER_EN, .rw, 0⟩, ⟨COUNTER_MODE, .rw, 0⟩, ⟨COUNTER_TEN_EN, .rw, 0⟩, ⟨COUNTER_MST_EN, .rw, 0⟩, ⟨COUNTER_ADDR_EN, .rw, 0⟩, ⟨COUNTER_PRIV, .rw, 0⟩, ⟨COUNTER_TENANT, .rw, 0⟩, ⟨COUNTER_EVENT, .rw, 0⟩]⟩,
   ⟨0x06200004, 0x20, 4096, 0x1, 1, [⟨COUNTER_CLASS, .rw, 0⟩, ⟨COUNTER_MASTER, .rw, 0⟩]⟩,
   ⟨0x06200008, 0x20, 4096, 0x1, 1, [⟨COUNTER_ADDR_LO, .rw, 0⟩]⟩,
   ⟨0x0620000C, 0x20, 4096, 0x1, 1, [⟨COUNTER_ADDR_HI, .rw, 0⟩]⟩,
   ⟨0x06200010, 0x20, 4096, 0x1, 1, [⟨COUNTER_COUNT_LO, .ro, 0⟩]⟩,
   ⟨0x06200014, 0x20, 4096, 0x1, 1, [⟨COUNTER_WRAP, .w1c, 0⟩, ⟨COUNTER_COUNT_HI, .ro, 0⟩]⟩,
   ⟨0x06200018, 0x20, 4096, 0x1, 1, []⟩,
   ⟨0x0620001C, 0x20, 4096, 0x1, 1, []⟩,
   ⟨0x06240000, 0x10, 64, 0x1, 1, [⟨HISTUNIT_EN, .rw, 0⟩, ⟨HISTUNIT_SRC, .rw, 0⟩, ⟨HISTUNIT_FROM, .rw, 0⟩, ⟨HISTUNIT_TO, .rw, 0⟩, ⟨HISTUNIT_SHIFT, .rw, 0⟩, ⟨HISTUNIT_TEN_EN, .rw, 0⟩, ⟨HISTUNIT_TENANT, .rw, 0⟩]⟩,
   ⟨0x06240004, 0x10, 64, 0x1, 1, [⟨HISTUNIT_INST_EN, .rw, 0⟩, ⟨HISTUNIT_INSTANCE, .rw, 0⟩]⟩,
   ⟨0x06240008, 0x10, 64, 0x1, 1, []⟩,
   ⟨0x0624000C, 0x10, 64, 0x1, 1, []⟩,
   ⟨0x06280000, 0x4, 10240, 0x1, 1, [⟨SNAPWIN_VALUE, .ro, 0⟩]⟩,
   ⟨0x062C0000, 0x80, 2048, 0x4, 32, [⟨TAGRING_OCTETS, .ro, 0⟩]⟩,
   ⟨0x06300000, 0x20, 256, 0x1, 1, [⟨COALESCER_SUSPECT, .ro, 0⟩]⟩,
   ⟨0x06300004, 0x20, 256, 0x1, 1, [⟨COALESCER_PARTNERS, .ro, 0⟩, ⟨COALESCER_CODE, .ro, 0⟩]⟩,
   ⟨0x06300008, 0x20, 256, 0x1, 1, [⟨COALESCER_COUNT, .ro, 0⟩]⟩,
   ⟨0x0630000C, 0x20, 256, 0x1, 1, [⟨COALESCER_FIRST_LO, .ro, 0⟩]⟩,
   ⟨0x06300010, 0x20, 256, 0x1, 1, [⟨COALESCER_FIRST_HI, .ro, 0⟩]⟩,
   ⟨0x06300014, 0x20, 256, 0x1, 1, [⟨COALESCER_LAST_LO, .ro, 0⟩]⟩,
   ⟨0x06300018, 0x20, 256, 0x1, 1, [⟨COALESCER_LAST_HI, .ro, 0⟩]⟩,
   ⟨0x0630001C, 0x20, 256, 0x1, 1, [⟨COALESCER_OPEN, .ro, 0⟩, ⟨COALESCER_SEVERITY, .ro, 0⟩]⟩,
   ⟨0x06800000, 0x1000, 2, 0x4, 512, [⟨KUM_BUF_OCTETS, .rw, 0⟩]⟩,
   ⟨0x06900000, 0x20, 4096, 0x4, 8, [⟨KEY_ATTR_WORD, .ro, 0⟩]⟩]
def regDescsWINOBS : List RegDesc := regDescsWINOBS0

/-! ### WINBOB -/

def BOBBIN (n : Nat) : Nat := 0x07000000 + 128 * n
def BOBBIN_VALID : Fld := ⟨31, 31⟩
def BOBBIN_KIND : Fld := ⟨30, 30⟩
def BOBBIN_DKIND : Fld := ⟨29, 28⟩
def BOBBIN_MEMBER : Fld := ⟨27, 24⟩
def BOBBIN_CAP_EN : Fld := ⟨23, 23⟩
def BOBBIN_UNW_EN : Fld := ⟨22, 22⟩
def BOBBIN_TENANT : Fld := ⟨21, 12⟩
def BOBBIN_TARGET : Fld := ⟨15, 0⟩
def BOBBIN_STACK : Fld := ⟨31, 31⟩
def BOBBIN_BASE : Fld := ⟨14, 0⟩
def BOBBIN_SIZE : Fld := ⟨14, 0⟩
def BOBBIN_STAGE_CELLS : Fld := ⟨31, 16⟩
def BOBBIN_STAGE_LEAD : Fld := ⟨15, 0⟩
def BOBBIN_LATE_MAX : Fld := ⟨31, 16⟩
def BOBBIN_LOOPS : Fld := ⟨15, 0⟩
def BOBBIN_MARK_SEG : Fld := ⟨31, 16⟩
def BOBBIN_LOOP_SEG : Fld := ⟨15, 0⟩
def BOBBIN_CAP_SRC : Fld := ⟨13, 0⟩
def BOBBIN_SHIFT_LO : Fld := ⟨31, 0⟩
def BOBBIN_SHIFT_HI : Fld := ⟨31, 0⟩
def BOBBIN_DA_HI : Fld := ⟨31, 0⟩
def BOBBIN_DA_LO : Fld := ⟨31, 16⟩
def BOBBIN_PCP : Fld := ⟨15, 13⟩
def BOBBIN_TAG : Fld := ⟨12, 12⟩
def BOBBIN_VID : Fld := ⟨11, 0⟩
def BOBBIN_STATE : Fld := ⟨31, 30⟩
def BOBBIN_STARVED : Fld := ⟨29, 29⟩
def BOBBIN_CUR_SEG : Fld := ⟨15, 0⟩
def BOBBIN_LAST_SEQ : Fld := ⟨31, 0⟩
def BOBBIN_WNEXT : Fld := ⟨31, 16⟩
def BOBBIN_LOOPS_LEFT : Fld := ⟨15, 0⟩
def BOBBIN_WOFF : Fld := ⟨31, 0⟩
def BOBBIN_ROFF : Fld := ⟨31, 0⟩
def BOBBIN_EVT_LOOP : Fld := ⟨10, 10⟩
def BOBBIN_EVT_STARVED : Fld := ⟨9, 9⟩
def BOBBIN_EVT_END : Fld := ⟨8, 8⟩
def BOBBIN_EVT_CAP_DROP : Fld := ⟨7, 7⟩
def BOBBIN_EVT_WIND_OVR : Fld := ⟨6, 6⟩
def BOBBIN_EVT_WIND_FULL : Fld := ⟨5, 5⟩
def BOBBIN_EVT_WIND_GAP : Fld := ⟨4, 4⟩
def BOBBIN_EVT_WIND_ERR : Fld := ⟨3, 3⟩
def BOBBIN_EVT_SKIP : Fld := ⟨2, 2⟩
def BOBBIN_EVT_LATE : Fld := ⟨1, 1⟩
def BOBBIN_EVT_CFG_ERR : Fld := ⟨0, 0⟩
def BOBBIN_CNT (n k : Nat) : Nat := 0x07080000 + 64 * n + 4 * k
def BOBBIN_CNT_COUNT : Fld := ⟨31, 0⟩
def BOB_POOL (n : Nat) : Nat := 0x07100000 + 4 * n
def BOB_POOL_OCTETS : Fld := ⟨31, 0⟩

def regDescsWINBOB0 : List RegDesc :=
  [⟨0x07000000, 0x80, 4096, 0x1, 1, [⟨BOBBIN_VALID, .rw, 0⟩, ⟨BOBBIN_KIND, .rw, 0⟩, ⟨BOBBIN_DKIND, .rw, 0⟩, ⟨BOBBIN_MEMBER, .rw, 0⟩, ⟨BOBBIN_CAP_EN, .rw, 0⟩, ⟨BOBBIN_UNW_EN, .rw, 0⟩, ⟨BOBBIN_TENANT, .rw, 0⟩]⟩,
   ⟨0x07000004, 0x80, 4096, 0x1, 1, [⟨BOBBIN_TARGET, .rw, 0⟩]⟩,
   ⟨0x07000008, 0x80, 4096, 0x1, 1, [⟨BOBBIN_STACK, .ro, 0⟩, ⟨BOBBIN_BASE, .rw, 0⟩]⟩,
   ⟨0x0700000C, 0x80, 4096, 0x1, 1, [⟨BOBBIN_SIZE, .rw, 0⟩]⟩,
   ⟨0x07000010, 0x80, 4096, 0x1, 1, [⟨BOBBIN_STAGE_CELLS, .rw, 0⟩, ⟨BOBBIN_STAGE_LEAD, .rw, 0⟩]⟩,
   ⟨0x07000014, 0x80, 4096, 0x1, 1, [⟨BOBBIN_LATE_MAX, .rw, 0⟩, ⟨BOBBIN_LOOPS, .rw, 0⟩]⟩,
   ⟨0x07000018, 0x80, 4096, 0x1, 1, [⟨BOBBIN_MARK_SEG, .rw, 0⟩, ⟨BOBBIN_LOOP_SEG, .rw, 0⟩]⟩,
   ⟨0x0700001C, 0x80, 4096, 0x1, 1, [⟨BOBBIN_CAP_SRC, .rw, 0⟩]⟩,
   ⟨0x07000020, 0x80, 4096, 0x1, 1, [⟨BOBBIN_SHIFT_LO, .rw, 0⟩]⟩,
   ⟨0x07000024, 0x80, 4096, 0x1, 1, [⟨BOBBIN_SHIFT_HI, .rw, 0⟩]⟩,
   ⟨0x07000028, 0x80, 4096, 0x1, 1, [⟨BOBBIN_DA_HI, .rw, 0⟩]⟩,
   ⟨0x0700002C, 0x80, 4096, 0x1, 1, [⟨BOBBIN_DA_LO, .rw, 0⟩, ⟨BOBBIN_PCP, .rw, 0⟩, ⟨BOBBIN_TAG, .rw, 0⟩, ⟨BOBBIN_VID, .rw, 0⟩]⟩,
   ⟨0x07000030, 0x80, 4096, 0x4, 4, []⟩,
   ⟨0x07000040, 0x80, 4096, 0x1, 1, [⟨BOBBIN_STATE, .ro, 0⟩, ⟨BOBBIN_STARVED, .ro, 0⟩, ⟨BOBBIN_CUR_SEG, .ro, 0⟩]⟩,
   ⟨0x07000044, 0x80, 4096, 0x1, 1, [⟨BOBBIN_LAST_SEQ, .ro, 0⟩]⟩,
   ⟨0x07000048, 0x80, 4096, 0x1, 1, [⟨BOBBIN_WNEXT, .ro, 0⟩, ⟨BOBBIN_LOOPS_LEFT, .ro, 0⟩]⟩,
   ⟨0x0700004C, 0x80, 4096, 0x1, 1, [⟨BOBBIN_WOFF, .ro, 0⟩]⟩,
   ⟨0x07000050, 0x80, 4096, 0x1, 1, [⟨BOBBIN_ROFF, .ro, 0⟩]⟩,
   ⟨0x07000054, 0x80, 4096, 0x1, 1, []⟩,
   ⟨0x07000058, 0x80, 4096, 0x1, 1, [⟨BOBBIN_EVT_LOOP, .w1c, 0⟩, ⟨BOBBIN_EVT_STARVED, .w1c, 0⟩, ⟨BOBBIN_EVT_END, .w1c, 0⟩, ⟨BOBBIN_EVT_CAP_DROP, .w1c, 0⟩, ⟨BOBBIN_EVT_WIND_OVR, .w1c, 0⟩, ⟨BOBBIN_EVT_WIND_FULL, .w1c, 0⟩, ⟨BOBBIN_EVT_WIND_GAP, .w1c, 0⟩, ⟨BOBBIN_EVT_WIND_ERR, .w1c, 0⟩, ⟨BOBBIN_EVT_SKIP, .w1c, 0⟩, ⟨BOBBIN_EVT_LATE, .w1c, 0⟩, ⟨BOBBIN_EVT_CFG_ERR, .w1c, 0⟩]⟩,
   ⟨0x0700005C, 0x80, 4096, 0x4, 9, []⟩,
   ⟨0x07080000, 0x40, 4096, 0x4, 16, [⟨BOBBIN_CNT_COUNT, .rc, 0⟩]⟩,
   ⟨0x07100000, 0x4, 262144, 0x1, 1, [⟨BOB_POOL_OCTETS, .ro, 0⟩]⟩]
def regDescsWINBOB : List RegDesc := regDescsWINBOB0

/-! ### WINENG -/

def IMEM (n k : Nat) : Nat := 0x08000000 + 65536 * n + 4 * k
def IMEM_WORD : Fld := ⟨31, 0⟩
def DMEM (n k : Nat) : Nat := 0x09000000 + 131072 * n + 4 * k
def DMEM_WORD : Fld := ⟨31, 0⟩
def PROGRAM (n : Nat) : Nat := 0x0A000000 + 64 * n
def PROGRAM_VALID : Fld := ⟨31, 31⟩
def PROGRAM_SUSPENDED : Fld := ⟨30, 30⟩
def PROGRAM_TENANT : Fld := ⟨25, 16⟩
def PROGRAM_ENTRY : Fld := ⟨13, 0⟩
def PROGRAM_CODE_LEN : Fld := ⟨30, 16⟩
def PROGRAM_CODE_BASE : Fld := ⟨13, 0⟩
def PROGRAM_DBASE : Fld := ⟨27, 16⟩
def PROGRAM_DLEN : Fld := ⟨11, 0⟩
def PROGRAM_SBASE : Fld := ⟨25, 16⟩
def PROGRAM_SLEN : Fld := ⟨10, 0⟩
def PROGRAM_HBASE : Fld := ⟨24, 16⟩
def PROGRAM_HLEN : Fld := ⟨9, 0⟩
def PROGRAM_PARAM : Fld := ⟨31, 0⟩
def PROGRAM_EXC_LIMIT : Fld := ⟨31, 24⟩
def PROGRAM_MAX_STEPS : Fld := ⟨15, 0⟩
def PROGRAM_MASK0 : Fld := ⟨31, 0⟩
def PROGRAM_MASK1 : Fld := ⟨31, 0⟩
def PROGRAM_MASK2 : Fld := ⟨31, 0⟩
def PROGRAM_MASK3 : Fld := ⟨31, 0⟩
def PROGRAM_ITEMS : Fld := ⟨31, 0⟩
def PROGRAM_EXCEPTIONS : Fld := ⟨31, 0⟩
def SQUEUE (n : Nat) : Nat := 0x0A100000 + 32 * n
def SQUEUE_VALID : Fld := ⟨31, 31⟩
def SQUEUE_HOST : Fld := ⟨30, 29⟩
def SQUEUE_ISIZE : Fld := ⟨28, 27⟩
def SQUEUE_DEPTH : Fld := ⟨26, 23⟩
def SQUEUE_AUTOREL : Fld := ⟨22, 22⟩
def SQUEUE_TENANT : Fld := ⟨21, 12⟩
def SQUEUE_CONSUMER : Fld := ⟨6, 0⟩
def SQUEUE_BASE : Fld := ⟨17, 0⟩
def SQUEUE_WR : Fld := ⟨31, 16⟩
def SQUEUE_RD : Fld := ⟨15, 0⟩
def SQUEUE_MARK : Fld := ⟨31, 16⟩
def SQUEUE_REL : Fld := ⟨15, 0⟩
def SQUEUE_PUT_FAIL : Fld := ⟨31, 0⟩
def FRESH (n : Nat) : Nat := 0x0A200000 + 16 * n
def FRESH_VALUE_LO : Fld := ⟨31, 0⟩
def FRESH_VALUE_HI : Fld := ⟨31, 0⟩
def FRESH_VALID : Fld := ⟨31, 31⟩
def FRESH_OWNER (n : Nat) : Nat := 0x0A300000 + 4 * n
def FRESH_OWNER_ASSIGNED : Fld := ⟨31, 31⟩
def FRESH_OWNER_TENANT : Fld := ⟨9, 0⟩
def SQ_ITEM (n k : Nat) : Nat := 0x0A400000 + 4096 * n + 4 * k
def SQ_ITEM_WORD : Fld := ⟨31, 0⟩
def SQ_GET (n : Nat) : Nat := 0x0A400100 + 4096 * n
def SQ_GET_WORD : Fld := ⟨31, 0⟩
def SQ_PUT (n : Nat) : Nat := 0x0A400104 + 4096 * n
def SQ_PUT_RESULT : Fld := ⟨31, 0⟩
def SQ_CTRL (n : Nat) : Nat := 0x0A400108 + 4096 * n
def SQ_CTRL_OP : Fld := ⟨31, 0⟩
def SQ_FILL (n : Nat) : Nat := 0x0A40010C + 4096 * n
def SQ_FILL_UNREL : Fld := ⟨31, 16⟩
def SQ_FILL_UNREAD : Fld := ⟨15, 0⟩
def HEAP_WINDOW (n : Nat) : Nat := 0x0B000000 + 4 * n
def HEAP_WINDOW_WORD : Fld := ⟨31, 0⟩
def SHARED (n k : Nat) : Nat := 0x0C000000 + 4194304 * n + 4 * k
def SHARED_WORD : Fld := ⟨31, 0⟩

def regDescsWINENG0 : List RegDesc :=
  [⟨0x08000000, 0x10000, 128, 0x4, 16384, [⟨IMEM_WORD, .rw, 0⟩]⟩,
   ⟨0x09000000, 0x20000, 128, 0x4, 32768, [⟨DMEM_WORD, .rw, 0⟩]⟩,
   ⟨0x0A000000, 0x40, 4096, 0x1, 1, [⟨PROGRAM_VALID, .rw, 0⟩, ⟨PROGRAM_SUSPENDED, .ro, 0⟩, ⟨PROGRAM_TENANT, .rw, 0⟩, ⟨PROGRAM_ENTRY, .rw, 0⟩]⟩,
   ⟨0x0A000004, 0x40, 4096, 0x1, 1, [⟨PROGRAM_CODE_LEN, .rw, 0⟩, ⟨PROGRAM_CODE_BASE, .rw, 0⟩]⟩,
   ⟨0x0A000008, 0x40, 4096, 0x1, 1, [⟨PROGRAM_DBASE, .rw, 0⟩, ⟨PROGRAM_DLEN, .rw, 0⟩]⟩,
   ⟨0x0A00000C, 0x40, 4096, 0x1, 1, [⟨PROGRAM_SBASE, .rw, 0⟩, ⟨PROGRAM_SLEN, .rw, 0⟩]⟩,
   ⟨0x0A000010, 0x40, 4096, 0x1, 1, [⟨PROGRAM_HBASE, .rw, 0⟩, ⟨PROGRAM_HLEN, .rw, 0⟩]⟩,
   ⟨0x0A000014, 0x40, 4096, 0x1, 1, [⟨PROGRAM_PARAM, .rw, 0⟩]⟩,
   ⟨0x0A000018, 0x40, 4096, 0x1, 1, [⟨PROGRAM_EXC_LIMIT, .rw, 0⟩, ⟨PROGRAM_MAX_STEPS, .rw, 0⟩]⟩,
   ⟨0x0A00001C, 0x40, 4096, 0x1, 1, []⟩,
   ⟨0x0A000020, 0x40, 4096, 0x1, 1, [⟨PROGRAM_MASK0, .rw, 0⟩]⟩,
   ⟨0x0A000024, 0x40, 4096, 0x1, 1, [⟨PROGRAM_MASK1, .rw, 0⟩]⟩,
   ⟨0x0A000028, 0x40, 4096, 0x1, 1, [⟨PROGRAM_MASK2, .rw, 0⟩]⟩,
   ⟨0x0A00002C, 0x40, 4096, 0x1, 1, [⟨PROGRAM_MASK3, .rw, 0⟩]⟩,
   ⟨0x0A000030, 0x40, 4096, 0x1, 1, [⟨PROGRAM_ITEMS, .rc, 0⟩]⟩,
   ⟨0x0A000034, 0x40, 4096, 0x1, 1, [⟨PROGRAM_EXCEPTIONS, .rc, 0⟩]⟩,
   ⟨0x0A000038, 0x40, 4096, 0x1, 1, []⟩,
   ⟨0x0A00003C, 0x40, 4096, 0x1, 1, []⟩,
   ⟨0x0A100000, 0x20, 1024, 0x1, 1, [⟨SQUEUE_VALID, .rw, 0⟩, ⟨SQUEUE_HOST, .rw, 0⟩, ⟨SQUEUE_ISIZE, .rw, 0⟩, ⟨SQUEUE_DEPTH, .rw, 0⟩, ⟨SQUEUE_AUTOREL, .rw, 0⟩, ⟨SQUEUE_TENANT, .rw, 0⟩, ⟨SQUEUE_CONSUMER, .rw, 0⟩]⟩,
   ⟨0x0A100004, 0x20, 1024, 0x1, 1, [⟨SQUEUE_BASE, .rw, 0⟩]⟩,
   ⟨0x0A100008, 0x20, 1024, 0x1, 1, [⟨SQUEUE_WR, .ro, 0⟩, ⟨SQUEUE_RD, .ro, 0⟩]⟩,
   ⟨0x0A10000C, 0x20, 1024, 0x1, 1, [⟨SQUEUE_MARK, .ro, 0⟩, ⟨SQUEUE_REL, .ro, 0⟩]⟩,
   ⟨0x0A100010, 0x20, 1024, 0x1, 1, [⟨SQUEUE_PUT_FAIL, .rc, 0⟩]⟩,
   ⟨0x0A100014, 0x20, 1024, 0x1, 1, []⟩,
   ⟨0x0A100018, 0x20, 1024, 0x1, 1, []⟩,
   ⟨0x0A10001C, 0x20, 1024, 0x1, 1, []⟩,
   ⟨0x0A200000, 0x10, 65536, 0x1, 1, [⟨FRESH_VALUE_LO, .rw, 0⟩]⟩,
   ⟨0x0A200004, 0x10, 65536, 0x1, 1, [⟨FRESH_VALUE_HI, .rw, 0⟩]⟩,
   ⟨0x0A200008, 0x10, 65536, 0x1, 1, [⟨FRESH_VALID, .rw, 0⟩]⟩,
   ⟨0x0A20000C, 0x10, 65536, 0x1, 1, []⟩,
   ⟨0x0A300000, 0x4, 1024, 0x1, 1, [⟨FRESH_OWNER_ASSIGNED, .rw, 0⟩, ⟨FRESH_OWNER_TENANT, .rw, 0⟩]⟩,
   ⟨0x0A400000, 0x1000, 1024, 0x4, 32, [⟨SQ_ITEM_WORD, .rw, 0⟩]⟩,
   ⟨0x0A400100, 0x1000, 1024, 0x1, 1, [⟨SQ_GET_WORD, .rc, 0⟩]⟩,
   ⟨0x0A400104, 0x1000, 1024, 0x1, 1, [⟨SQ_PUT_RESULT, .rw, 0⟩]⟩,
   ⟨0x0A400108, 0x1000, 1024, 0x1, 1, [⟨SQ_CTRL_OP, .wo, 0⟩]⟩,
   ⟨0x0A40010C, 0x1000, 1024, 0x1, 1, [⟨SQ_FILL_UNREL, .ro, 0⟩, ⟨SQ_FILL_UNREAD, .ro, 0⟩]⟩,
   ⟨0x0B000000, 0x4, 262144, 0x1, 1, [⟨HEAP_WINDOW_WORD, .rw, 0⟩]⟩,
   ⟨0x0C000000, 0x400000, 16, 0x4, 1048576, [⟨SHARED_WORD, .rw, 0⟩]⟩]
def regDescsWINENG : List RegDesc := regDescsWINENG0

/-- The descriptors of the block or table-window range that holds byte address a. -/
def regBlock (a : Nat) : List RegDesc :=
  if a < 0x00010000 then regDescsSYS
  else if a < 0x00020000 then regDescsPACE
  else if a < 0x00040000 then regDescsTIME
  else if a < 0x00080000 then regDescsLOOM
  else if a < 0x00100000 then regDescsVBUS
  else if a < 0x00300000 then regDescsPANEL
  else if a < 0x00340000 then regDescsPORT
  else if a < 0x00380000 then regDescsCORE
  else if a < 0x003C0000 then regDescsCIPH
  else if a < 0x00400000 then regDescsKEYS
  else if a < 0x00440000 then regDescsSEAM
  else if a < 0x00480000 then regDescsTHIM
  else if a < 0x004C0000 then regDescsOBS
  else if a < 0x00500000 then regDescsECC
  else if a < 0x00800000 then regDescsBRDG
  else if a < 0x01000000 then regDescsWINPORT
  else if a < 0x04000000 then regDescsWINTBL
  else if a < 0x06000000 then regDescsWINCORE
  else if a < 0x07000000 then regDescsWINOBS
  else if a < 0x08000000 then regDescsWINBOB
  else if a < 0x10000000 then regDescsWINENG
  else []

/-- The descriptor of the word at byte address a; none where no chapter defines a word (R476). -/
def regDesc? (a : Nat) : Option RegDesc := (regBlock a).find? (fun d => RegDesc.covers d a)

/-- The value the word at byte address a holds at reset, from the Reset columns of the register tables. -/
def regReset (a : Nat) : Word :=
  match regDesc? a with
  | some d => RegDesc.resetValue d
  | none => 0

end Sys2Proof.Machine
end

