-- ==== Sys2Proof/Machine/State.lean ====
section
/-! DEFINITION. The state of the Zalore: every register and table word, every memory,
queue, timer and mode of spec/, the queue of waiting commands, and the record of what left
the device. Plain data: every field is comparable. -/

namespace Sys2Proof.Machine

/-- Why a run stops. No command of this model stops: every row of the table has an effect or
leaves the state as it is. -/
inductive Fault where
  /-- never raised; kept so that the type has a value. Safe. -/
  | none
  deriving DecidableEq, Repr

/-- Why a command has no meaning. -/
inductive Refusal where
  /-- raised by an arm of exec whose command has no meaning yet. Safe. -/
  | notModelled (mnemonic : String)
  deriving DecidableEq, Repr


/-- The node states of R445. -/
inductive NodeState where
  | init | joining | config | run | degraded | safe
  deriving DecidableEq, Repr

/-- The number R445 gives a node state. -/
def NodeState.code : NodeState → Nat
  | .init => 0
  | .joining => 1
  | .config => 2
  | .run => 3
  | .degraded => 4
  | .safe => 5

/-- A record of the event log before it is laid out under R513: the rule that raises it,
the Meridian of its first and last report, its count, its instance and parameters. -/
structure LogRec where
  rule : Nat
  first : Nat
  last : Nat
  count : Nat
  inst : Nat
  node : NodeState
  lost : Bool
  params : List Nat
  /-- event code and severity of a coalesced fault report (R597); none: those of the raising rule -/
  code : Option (Nat × Nat)
  deriving DecidableEq, Repr

/-- What leaves the device, newest first in State.out. -/
inductive Out where
  /-- an MSI-X message (R484, R489) -/
  | msix (vector : Nat)
  /-- an AVSBus frame: rail, command 0 voltage write, 1 voltage read, 2 status read, and mV (R55) -/
  | avs (rail cmd mv : Nat)
  /-- a frame leaving a trunk port (0–1023) or PLCA channel (1024–1039); badFcs: FCS inverted (R280) -/
  | frame (dest : Nat) (item : Item) (badFcs : Bool)
  /-- the word a read returns to its interface (R478) -/
  | readData (iface : Iface) (addr : Nat) (value : Word)
  /-- a mirror packet to the twin, as header and body before sealing (R410); HEARTBEAT packets leave on each group -/
  | mirror (octets : List Byte)
  /-- a gPTP message sent on a port: message type (R95) -/
  | gptp (port msg : Nat)
  /-- the result of a key-update message to its source: 0 PCIe, 1 SPI, 2 OAP (R389) -/
  | kumResult (src result : Nat)
  /-- a frame a loom channel (0–63) or management bus (64, 65) drives: its item (R147, R150, R169) -/
  | bus (chan : Nat) (item : Item)
  /-- a LIN header a commander sends (R151) -/
  | linHeader (chan ident : Nat)
  /-- a LIN wake-up signal (R163) -/
  | linWake (chan : Nat)
  /-- a PLCA coordinator sends its beacon (R166) -/
  | beacon (chan : Nat)
  /-- an MDIO access: operation, PHY and register address, data (R168) -/
  | mdio (write : Bool) (phy reg data : Nat)
  /-- a verify mPacket on a port (R133) -/
  | verify (port : Nat)
  /-- a data packet over a group of Seam lanes (R409, R425) -/
  | seamData (group : Nat) (octets : List Byte)
  /-- PPS_OUT changes level (R99) -/
  | ppsOut (level : Bool)
  /-- a trace record on an observation lane (R593) -/
  | trace (lane : Nat) (octets : List Byte)
  /-- the status under R444 with which an action on an object (256 · index + subindex) ends -/
  | status (object code : Nat)
  /-- PMBus commands to a regulator (R510) -/
  | pmbus (regulator : Nat) (commands : List Nat)
  /-- the update thread opens a session to a node through a port, or sends it a block (R530) -/
  | threadOpen (node port : Nat)
  | threadBlock (node port block : Nat)
  /-- part 5 goes to an attachment (R534) -/
  | push (att : Nat)
  /-- an OAP response to its carrier: kind 0 trunk port, 1 management bus, 2 mailbox, and its number (R455 to R458) -/
  | oap (kind num : Nat) (pdu : List Byte)
  /-- the HELLO of this twin (R413) -/
  | seamHello
  /-- a status frame on each management bus: its body (R470) -/
  | twinStatus (body : List Byte)
  /-- a slot of an up ring in host memory: punt queue, slot number, octets (R488) -/
  | puntSlot (queue slot : Nat) (octets : List Byte)
  /-- a bridge frame to an attachment's port, or to the twin where there is none (R500, R501) -/
  | bridge (att : Option Nat) (octets : List Byte)
  /-- an operation of the bridge ends: interface, host address, words read or applied, and CAUSE, 0 where it succeeded
  (R502, R504) -/
  | bridgeEnd (iface addr cause : Nat) (words : List Word)
  /-- the sideband pattern on SL0 (R416) -/
  | sideband
  deriving DecidableEq, Repr

/-- A pace monitor's history (R51 to R54, R59, R64, R66). -/
structure MonSt where
  /-- count of the previous window; none before the first -/
  prev : Option Nat
  /-- the last window's count was 0 or 65,535 -/
  lastBad : Bool
  /-- the last window's count lay from 1 to 65,534 -/
  lastGood : Bool
  /-- windows ended in the control period, and how many of them were below floor -/
  windows : Nat
  below : Nat
  /-- whole control periods on end below floor under R64 -/
  breach : Nat
  /-- smallest margin of the windows of the period; none before the first -/
  minMargin : Option Int
  /-- margin of the last window -/
  margin : Int
  deriving DecidableEq, Repr

def MonSt.reset : MonSt :=
  { prev := none, lastBad := false, lastGood := false, windows := 0, below := 0, breach := 0, minMargin := none, margin := 0 }

/-- An AVSBus transaction in progress on a rail (R57, R60). -/
structure AvsTx where
  mv : Nat
  attempts : Nat
  /-- what is sent after it: a raise that fell due meanwhile, or with EN 0 the value written last (R60, R63) -/
  held : Option Nat
  deriving DecidableEq, Repr

/-- One governor instance and its die's degraded state (R59 to R66). -/
structure GovSt where
  /-- the governor's target in mV -/
  target : Nat
  /-- the last value read back as accepted -/
  accepted : Nat
  tx : Option AvsTx
  /-- AVS_ERR stands for this rail: lowering has stopped (R57) -/
  avsErr : Bool
  /-- commands are sent from the end of Thimble boot on (R62) -/
  started : Bool
  lastCmd : Option Nat
  lastEmg : Option Nat
  /-- whole periods above LOWER with no raise or emergency -/
  calm : Nat
  /-- a raise or emergency fell in this period -/
  raised : Bool
  level : Nat
  levelAt : Nat
  /-- since when every non-faulty monitor has had a margin of at least EXIT (R66) -/
  okSince : Option Nat
  /-- since when the breach of R64 has stood without a break -/
  breachAt : Option Nat
  /-- the end of the last control period (R59) -/
  periodAt : Nat
  /-- at level 1, when the die's stack may be read again for staging, in 1/150 tick (R65) -/
  stageFree : Nat
  deriving DecidableEq, Repr

def GovSt.reset : GovSt :=
  { target := 800, accepted := 800, tx := none, avsErr := false, started := false, lastCmd := none,
    lastEmg := none, calm := 0, raised := false, level := 0, levelAt := 0, okSince := none, breachAt := none,
    periodAt := 0, stageFree := 0 }

/-- A datum's active record (R78). -/
structure DatumRec where
  anchor : Nat
  offset : Nat
  rate : Nat
  deriving DecidableEq, Repr

/-- A datum's pending record (R79, R82): `offset` is used in step mode only. -/
structure DatumPend where
  eff : Nat
  step : Bool
  rate : Nat
  offset : Nat
  deriving DecidableEq, Repr

/-- One datum (R77 to R80, R94). -/
structure DatumSt where
  act : DatumRec
  /-- the records before the active one, newest first: a stamp older than its anchor is read under them (R79) -/
  past : List DatumRec
  pend : Option DatumPend
  gen : Nat
  follow : Bool
  nominal : Nat
  deriving DecidableEq, Repr

def DatumSt.reset : DatumSt :=
  { act := { anchor := 0, offset := 0, rate := 2 ^ 40 }, past := [], pend := none, gen := 0, follow := false,
    nominal := 2 ^ 40 }

/-- Values staged for a datum by one OAP session (R107). -/
structure DatumStage where
  eff : Nat
  step : Bool
  offset : Nat
  rate : Nat
  deriving DecidableEq, Repr

def DatumStage.reset : DatumStage := { eff := 0, step := false, offset := 0, rate := 2 ^ 40 }

/-- The farm-time servo (R97). -/
structure ServoSt where
  mode : Nat
  measured : Bool
  good : Nat
  bad : Nat
  /-- mode 3: a software step's E and seconds value awaiting the first PPS_IN edge after E -/
  realign : Option (Nat × Nat)
  deriving DecidableEq, Repr

/-- What the Thimble keeps for a gPTP port (R95, R97): the priority vector last announced on it, the log intervals of
Sync, Pdelay_Req and Announce, when each message type was last sent, and the private queue of event-message stamps as
message type and ts_out, oldest first, at most 8. -/
structure GptpSt where
  vec : Option (Nat × Nat)
  sync : Int
  pdelay : Int
  announce : Int
  last : List (Nat × Nat)
  stamps : List (Nat × Nat)
  deriving DecidableEq, Repr

/-- PRESUMED (log entry 131): the initial intervals of IEEE 802.1AS; on join ports those of the join chapter hold. -/
def GptpSt.reset : GptpSt := { vec := none, sync := -3, pdelay := 0, announce := 0, last := [], stamps := [] }

/-- An entry of a transmit time-stamp queue (R103, R104). -/
structure TsqEntry where
  disc : Bool
  src : Nat
  ident : Nat
  mer : Nat
  ten : Nat
  deriving DecidableEq, Repr

/-- A cipher request held by a lane (R343, R375): the inputs as the engine read them (R345). -/
structure CiphReq where
  engine : Nat
  op : Nat
  alg : Nat
  tbits : Nat
  slot : Nat
  aad : List Byte
  data : List Byte
  nonce : List Byte
  rxTag : List Byte
  tenant : Nat
  stamp : Nat
  /-- the Meridian tick at which the lane accepted it (R381) -/
  accepted : Nat
  /-- attribute words and keys, as they stood then, of the named slot and its partner (R400) -/
  keys : List (Nat × List Word × Nat)
  /-- the lane held it before the latest fence (R250) -/
  fenced : Bool := false
  deriving DecidableEq, Repr

/-- A cipher lane: the requests it holds, oldest first, its alarm times of the last second, and the slots whose expanded
schedules its key cache holds, the latest used first, at most 16 (R375, R376, R398). -/
structure LaneSt where
  reqs : List CiphReq
  alarms : List Nat
  cache : List Nat := []
  deriving DecidableEq, Repr

def LaneSt.reset : LaneSt := { reqs := [], alarms := [] }

/-- A key-update message waiting: from interface 0 PCIe, 1 SPI, or 2 OAP (R393). -/
structure KumMsg where
  src : Nat
  octets : List Byte
  deriving DecidableEq, Repr

/-- A committed blob generation: number, counter, attribute words by address, keys by slot (R385). -/
structure BlobGen where
  gen : Nat
  counter : Nat
  attrs : List (Nat × Word)
  keys : List (Nat × Nat)
  /-- its GCM tag verifies -/
  sound : Bool
  deriving DecidableEq, Repr

/-- The wrapped-key region of MRAM (R385, R386). -/
structure KeyMram where
  ctrA : Option (Nat × Nat)
  ctrB : Option (Nat × Nat)
  blob0 : Option BlobGen
  blob1 : Option BlobGen
  tamper : Bool
  deriving DecidableEq, Repr

/-- One anchored-settings generation slot of OTP: any bit programmed, and its octets (R518, R520). -/
structure AnchorSlot where
  spent : Bool
  octets : List Byte
  deriving DecidableEq, Repr

/-- One-time-programmable storage (R516). -/
structure OtpSt where
  uid : List Byte
  /-- the four manifest-key hashes (R516, R526) -/
  mkeys : List (List Byte)
  /-- the device certificate (R516) -/
  cert : List Byte
  /-- the eight lifecycle words (R554) -/
  lifecycle : List Word
  /-- thermometer counters 0 to 3: steps burnt (R517) -/
  therm : List Nat
  anchored : List AnchorSlot
  deriving DecidableEq, Repr

/-- A part with nothing programmed. -/
def OtpSt.blank : OtpSt :=
  { uid := List.replicate 16 0, mkeys := List.replicate 4 (List.replicate 48 0), cert := [], lifecycle := List.replicate 8 0, therm := [0, 0, 0, 0],
    anchored := List.replicate 6 { spent := false, octets := [] } }

/-- A frame in a queue (R254, R260): place 0 fast-resident, 1 its spill write under way, 2 spilled,
3 its recall under way. -/
structure QEnt where
  item : Item
  dest : Dest
  chain : Nat
  cells : Nat
  place : Nat
  deriving DecidableEq, Repr

/-- A stored cell chain: its reference count and the cells it holds of each pool (R257 to R259). -/
structure Chain where
  refs : Nat
  panel : Nat
  shared : Nat
  ctl : Nat
  deriving DecidableEq, Repr

/-- One admission at a panel's queue manager (R256, R258): the item, its copies in this panel, and
whether its cells are held already (R366). -/
structure Offer where
  item : Item
  copies : List Dest
  held : Bool
  /-- the tenants that the copies' destinations were bound to when the delivery was decided (R34) -/
  own : List (Option Nat) := []
  /-- the delivery has this one copy alone (R279) -/
  single : Bool := false
  deriving DecidableEq, Repr

/-- A policer's buckets, in units of 2^-24 octet, and the tick of its last decision (R273). -/
structure PolSt where
  tc : Nat
  tp : Nat
  last : Nat
  deriving DecidableEq, Repr

def PolSt.reset : PolSt := { tc := 0, tp := 0, last := 0 }

/-- Work for a stitch program (R290): the item, its program, and the descriptor that named it. -/
structure WorkReq where
  item : Item
  prog : Nat
  desc : Option Nat
  kind : Nat
  /-- cells a bobbin release still holds in a panel (R366) -/
  held : Option (Nat × Nat)
  deriving DecidableEq, Repr

/-- A trace record due in a die (R590 to R592): its kind, body, TSEQ and creation tick. -/
structure TraceRec where
  kind : Nat
  poison : Bool
  tseq : Nat
  mer : Nat
  body : List Byte
  deriving DecidableEq, Repr

/-- A mirror packet awaiting its acknowledgement (R411, R417). -/
structure MirPkt where
  mseq : Nat
  kind : Nat
  values : List Nat
  deriving DecidableEq, Repr

/-- A record held in a bobbin's ring (R351, R352): its 32-octet header and data octets. `id` numbers the
records of a ring in order, `off` is its offset in 16-octet units, `written` says it is in the stack
(R358), `gone` that it has been released, skipped or eliminated (R357). -/
structure RingRec where
  id : Nat
  off : Nat
  units : Nat
  hdr : List Byte
  data : List Byte
  written : Bool
  gone : Bool
  /-- tick at which a capture record was made (R371) -/
  at_ : Nat
  /-- WSEQ of the wind frame that unwinds it (R371) -/
  sent : Option Nat := none
  deriving DecidableEq, Repr

/-- A staged record (R361, R362): its ring number, rt_eff, item and cells. -/
structure Staged where
  id : Nat
  seq : Nat
  rtEff : Nat
  item : Item
  cells : Nat
  /-- staged past its release tick (R364) -/
  late : Bool
  /-- tick from which it may be released: its staging, or the latest RESUME -/
  since : Nat := 0
  deriving DecidableEq, Repr

/-- A bobbin's ring, stager and capture state (R355 to R371). -/
structure BobSt where
  ring : List RingRec
  nextId : Nat
  woff : Nat
  /-- record the stager takes next -/
  pos : Nat
  staged : List Staged
  /-- a segment boundary has been passed since LAST_SEQ (R361) -/
  crossed : Bool
  /-- ring number and SEQ of the last record released -/
  relId : Nat
  relSeq : Nat
  /-- tenant time of the pause (R359) -/
  vp : Nat
  needRst : Bool
  capSeq : Nat
  /-- unwind: the WSEQ of the next frame, whether its RST is due, and when a refused frame is offered again (R371) -/
  uwseq : Nat
  urst : Bool
  uretry : Option Nat
  /-- the staging panel, fixed at the commit (R350) -/
  panel : Nat := 0
  /-- a LAST segment has been wound since the ring was emptied (R352) -/
  lastSeg : Bool := false
  /-- the stager's segment is LAST (R368) -/
  curLast : Bool := false
  /-- the rest of the stager's segment is skipped (R572) -/
  skip : Bool := false
  deriving DecidableEq, Repr

/-- A write that waits for a stack's fill budget (R358, R370): records of a bobbin below a ring number, their octets, and the
source of a capture record. -/
structure FillJob where
  bob : Nat
  last : Nat
  octets : Nat
  src : Option Nat
  deriving DecidableEq, Repr

def BobSt.reset : BobSt :=
  { ring := [], nextId := 0, woff := 0, pos := 0, staged := [], crossed := false, relId := 0, relSeq := 0, vp := 0,
    needRst := false, capSeq := 0, uwseq := 0, urst := true, uretry := none }

/-- A time-aware gate configuration (R129, R130): the tenant whose datum times it, B', CYCLE, EXT, and its
entries as OP, GATES and INTERVAL. -/
structure GateCfg where
  ten : Nat
  base : Nat
  cycle : Nat
  ext : Nat
  list : List (Nat × Nat × Nat)
  deriving DecidableEq, Repr

/-- A frame in transmission, or the remainder of a preempted one; its queue entry stays at the head of queue q
(R127, R133, R134). -/
structure TxFrame where
  q : Nat
  item : Item
  /-- octets from destination address to FCS -/
  len : Nat
  /-- tick at which the first bit after the SFD crosses the reference plane (R100) -/
  raw : Nat
  /-- tick at which the fragment on the wire began -/
  began : Nat
  /-- frame octets sent in earlier fragments -/
  sent : Nat
  pre : Bool
  /-- its time-stamp entry is written (R103) -/
  stamped : Bool
  deriving DecidableEq, Repr

/-- What a port holds beside its registers (R115 to R135). -/
structure PortSt where
  tx : Option TxFrame
  /-- a preempted frame's remainder -/
  rem : Option TxFrame
  /-- the tick of the stop: a frame that was partly received by then is completed (R116) -/
  rxOpen : Option Nat
  /-- the PCS has neither block lock nor lane alignment (R117) -/
  noLock : Bool
  /-- since when the conditions of link down have stood, and since when the link has been free of them (R117) -/
  downAt : Option Nat
  upAt : Option Nat
  /-- start of the training attempt (R112) -/
  trainAt : Nat
  gateOper : Option GateCfg
  gatePend : Option GateCfg
  /-- shaper credits by queue, in 1/20,000 bit (R128), with the tick and gate states they were brought to -/
  credit : List (Nat × Int)
  credAt : Nat
  credGates : Nat
  /-- verify attempts made, and the tick before which the next step is not due (R133) -/
  vTries : Nat
  vAt : Nat
  /-- since when the queues have been empty (R135) -/
  idleAt : Nat
  /-- lane grouping of the last enable (R106) -/
  lanes : Nat
  deriving DecidableEq, Repr

def PortSt.reset : PortSt :=
  { tx := none, rem := none, rxOpen := none, noLock := false, downAt := none, upAt := none, trainAt := 0, gateOper := none, gatePend := none, credit := [], credAt := 0,
    credGates := 65535, vTries := 0, vAt := 0, idleAt := 0, lanes := 0 }

/-- Dictionary objects that no register holds, by 256 · index + subindex: their defaults; octet strings as
big-endian numbers. -/
def odReset (k : Nat) : Nat :=
  match k with
  | 0x000301 => 0x88B6
  | 0x000302 => 2 ^ 1024 - 1
  | 0x000304 => 60
  | 0x008002 => 5
  | 0x008201 => 0xFFFF0000
  | 0x00B002 => 0x88B5
  | 0x00B004 => 2000
  | 0x00B005 => 100
  | 0x00B006 => 500
  | 0x00B007 => 600
  | 0x00B008 => 1
  | _ => 0

/-- A frame held in a host receive buffer of a loom channel, with its two stamps (R153, R154). -/
structure RxBuf where
  item : Item
  mer : Nat
  ten : Nat
  deriving DecidableEq, Repr

/-- A transceiver transition (R156): its target state; phase 0 while the frame in progress is completed, 1 T_MODE,
2 T_INHOFF, 3 T_INHON; when the phase ends; and whether requests meanwhile are ignored (R157). -/
structure LoomTrans where
  target : Nat
  phase : Nat
  due : Nat
  deaf : Bool
  deriving DecidableEq, Repr

/-- A loom channel (0–63) or management bus (64, 65) beside its registers (R138 to R163). -/
structure ChanSt where
  /-- the transmit set, in arrival order (R146) -/
  tset : List (Nat × Item)
  seq : Nat
  /-- the frame in transmission, by arrival number -/
  txNow : Option Nat
  /-- a frame of another node is on the CAN bus: its start of frame has been seen (R156) -/
  rxBusy : Bool
  /-- held LIN responses by identifier (R151) -/
  lin : List (Nat × Item)
  cur : Option RxBuf
  shd : Option RxBuf
  trans : Option LoomTrans
  /-- a request that takes effect when the transition ends (R157) -/
  held : Option Nat
  /-- LCn_INH is high, and the code driven on (M1, M0) (R138, R155) -/
  inh : Bool
  code : Nat
  /-- tenant time at which the awake timer and the false-wake window started (R161, R162) -/
  awake : Option Nat
  fw : Option Nat
  /-- the wake-frame decoder's error count and the start of its last match (R159, R160) -/
  wufErr : Nat
  wufPrev : Option Nat
  /-- a LIN header awaits its response: identifier, and when it counts as missing (R150) -/
  linWait : Option (Nat × Nat)
  /-- end of the channel's own LIN frame on the bus -/
  busyTill : Nat
  /-- last activity on the LIN bus (R152) -/
  linAct : Nat
  /-- next schedule entry and its due time in tenant ticks (R151) -/
  schedIdx : Nat
  schedDue : Nat
  /-- entries that fell due while the bus was busy -/
  late : List Nat
  /-- when a commander starts its schedule after a local wake (R163) -/
  wakeAt : Option Nat
  /-- host writes of a management bus that wait for bus idle: address, word, and whether LOCK was set at the write (R170) -/
  pend : List (Nat × Word × Bool)
  deriving DecidableEq, Repr

def ChanSt.reset : ChanSt :=
  { tset := [], seq := 0, txNow := none, rxBusy := false, lin := [], cur := none, shd := none, trans := none, held := none, inh := true,
    code := 0, awake := none, fw := none, wufErr := 0, wufPrev := none, linWait := none, busyTill := 0, linAct := 0,
    schedIdx := 0, schedDue := 0, late := [], wakeAt := none, pend := [] }

/-- A PLCA channel beside its registers (R165 to R168): the queue of the frame it tries to send, its collisions, the
last beacon and the highest transmit-opportunity count seen; the frames sent since that beacon, when the last of them
ended, and the tick of the stop. -/
structure PlcaSt where
  txq : Option Nat
  coll : Nat
  beaconAt : Nat
  seen : Nat
  sent : Nat
  sentAt : Nat
  rxOpen : Option Nat
  deriving DecidableEq, Repr

def PlcaSt.reset : PlcaSt := { txq := none, coll := 0, beaconAt := 0, seen := 0, sent := 0, sentAt := 0, rxOpen := none }

/-- A request pending on a virtual bus, a LIN header of a commander member among them, or an update of a LIN response
(R178, R179, R192, R193). -/
structure VbReq where
  item : Item
  member : Nat
  /-- tick at which it crossed into the arbiter's island -/
  arrival : Nat
  rho : Int
  deriving DecidableEq, Repr

/-- The update in force of a LIN identifier, and the one later update (R193). -/
structure LinHeld where
  now : Option VbReq
  next : Option VbReq
  deriving DecidableEq, Repr

/-- Something of a bus that is due at bus time `time` + LEAD (R186, R188, R206). -/
structure VbDue where
  time : Int
  /-- 0 a completed frame, 1 an attempt that ended in error, 2 a control message -/
  kind : Nat
  /-- the frame, or the item whose identifier a control message names -/
  item : Item
  /-- the sender of a frame, the addressed member of a message -/
  member : Nat
  /-- start of frame; TIME of a message -/
  sof : Int
  /-- OP and octets 16 to 19 of a message (R207) -/
  op : Nat
  pars : List Nat
  /-- IDENT of a message -/
  ident : Nat
  /-- the words of the wake rule as the slot of a frame or attempt found them: VBn_WAKE, VBn_WTIME and the four of the wake
  frame (R174) -/
  rule : List Word := []
  deriving DecidableEq, Repr

/-- An ABORT or WAKE_REQ on its way to a bus (R208). -/
structure VbCtl where
  op : Nat
  member : Nat
  ident : Nat
  all : Bool
  rho : Int
  deriving DecidableEq, Repr

/-- A virtual bus beside its registers (R178 to R202). Bus times are tenant times of its datum. -/
structure VbSt where
  /-- pending requests by arrival -/
  reqs : List VbReq
  /-- F of R180 -/
  free : Int
  due : List VbDue
  /-- earliest S at which a member takes part again (R184) -/
  susp : List (Nat × Int)
  /-- members in recovery: occurrences counted, and since when idle bus is counted (R189) -/
  recov : List (Nat × Nat × Int)
  /-- the bus time from which it is asleep, while VBn_STAT.ASLEEP is 1 -/
  slp : Int
  /-- start of the awake timer and of the false-wake window (R197, R199) -/
  awake : Option Int
  fw : Option Int
  /-- end of the last completed frame, or the last wake (R198) -/
  last : Int
  /-- start of the last LIN header, or the last wake -/
  lastHdr : Int
  /-- the wake rule's decoder error count and the start of its last match (R196) -/
  wufErr : Nat
  wufPrev : Option Int
  /-- LIN responses by identifier (R193) -/
  lins : List (Nat × LinHeld)
  /-- schedule headers that wait for F: identifier and CMD_SLEEP (R192) -/
  hdrs : List (Nat × Bool)
  /-- ends of response timeouts not yet reached (R194) -/
  noResp : List Int
  schedIdx : Nat
  schedDue : Int
  /-- the load window in progress: its start, its length, and the spans in which the bus is occupied (R185) -/
  winStart : Int
  winLen : Int
  busy : List (Int × Int)
  ctl : List VbCtl
  deriving DecidableEq, Repr

def VbSt.reset : VbSt :=
  { reqs := [], free := 0, due := [], susp := [], recov := [], slp := 0, awake := none, fw := none, last := 0,
    lastHdr := 0, wufErr := 0, wufPrev := none, lins := [], hdrs := [], noResp := [], schedIdx := 0, schedDue := 0,
    winStart := 0, winLen := 0, busy := [], ctl := [] }

/-- A fault-injector entry beside its words: matching attempts counted since its commit, and whether it is due
(R190). -/
structure InjSt where
  seen : Nat
  due : Bool
  deriving DecidableEq, Repr

/-- A station entry (R235). -/
structure StaEnt where
  static : Bool
  drop : Bool
  ten : Nat
  vid : Nat
  mac : Nat
  stamp : Nat
  mcast : Bool
  dest : Nat
  deriving DecidableEq, Repr

/-- A prefix of the LPM trie (R243 to R246): family 0 IPv4, 1 IPv6, 2 extended; its owner, length, and key bits,
left-aligned in 32, 64 or 29 bits; INTER and the leaf. -/
structure LpmEnt where
  fam : Nat
  owner : Nat
  len : Nat
  key : Nat
  inter : Bool
  leaf : Nat
  deriving DecidableEq, Repr

/-- Sequence recovery of a stream handle (R428): RecovSeqNum, the history with bit k for RecovSeqNum − k, TakeAny; the
tick at which the reset timer runs out, while it runs; the tick before which no FRER record is sent, and until which
an item outside the window is accepted (R417, R429). -/
structure RecovSt where
  num : Nat
  hist : Nat
  takeAny : Bool
  due : Option Nat
  quiet : Nat
  open_ : Nat
  late : Bool := false
  deriving DecidableEq, Repr

def RecovSt.reset : RecovSt := { num := 65535, hist := 0, takeAny := true, due := none, quiet := 0, open_ := 0 }

/-- A work item in an engine's input queue: its item, program, descriptor, KIND, and the words 0 to 11 of the program's
entry as it was dispatched with (R289, R290). -/
structure StWork where
  item : Item
  prog : Nat
  desc : Option Nat
  kind : Nat
  entry : List Word
  /-- the tick of its hand-over to the engine (R277) -/
  handed : Nat := 0
  deriving DecidableEq, Repr

/-- A staged emit: header words and data (R298). -/
structure EmitRec where
  hdr : List Word
  data : List Byte
  deriving DecidableEq, Repr

/-- What a stalled engine waits for, and since when: 0 a heap access, 1 a lookup, 2 a freshness operation, 3 a cipher lane
that takes requests, 4 a cipher result, 5 a queue (R296, R322, R375). An instruction that waits more than once numbers its
waits (`step`), and `held` is what it has read before this one. -/
structure Stall where
  kind : Nat
  since : Nat
  step : Nat := 0
  held : List Byte := []
  deriving DecidableEq, Repr

/-- The running work item of an engine and the state of its program (R313). -/
structure Run where
  work : StWork
  /-- g1 to g31; a register that is not listed holds 0 -/
  regs : List (Nat × Word)
  pc : Nat
  /-- Z, N, C, V, Q in bits 0 to 4 -/
  fl : Nat
  /-- instructions issued -/
  steps : Nat
  emits : List EmitRec
  /-- the work-item region by word (R293); a word that is not listed holds 0 -/
  mem : List (Nat × Word)
  /-- tick of its start -/
  began : Nat
  stall : Option Stall
  /-- the instruction issued last (R314) -/
  word : Word := 0
  /-- tick of issue of the present instruction, and whether it has stalled, where it is tagged (R589) -/
  itag : Option (Nat × Bool)
  /-- the lane that holds its cipher request -/
  lane : Nat
  /-- it began before the latest fence (R250) -/
  fenced : Bool := false
  /-- a heap word on its way to it has crossed with bad parity (R578) -/
  hurt : Bool := false
  deriving DecidableEq, Repr

/-- A stitch engine: its input queue, the running item, and stalled ticks not yet counted as whole microseconds. -/
structure EngSt where
  inq : List StWork
  run : Option Run
  stallRem : Nat
  deriving DecidableEq, Repr

def EngSt.reset : EngSt := { inq := [], run := none, stallRem := 0 }

/-- A completion record and the engine whose credit it holds (R310, R311). -/
structure CqRec where
  engine : Nat
  words : List Word
  deriving DecidableEq, Repr

/-- A record in a die's trace queue, and the outlets that have sent it: observation lane, trace port (R592 to R595). -/
structure TraceEnt where
  rcd : TraceRec
  lane : Bool
  port : Bool
  deriving DecidableEq, Repr

/-- A fault report (R596, R597). -/
structure Report where
  suspect : Nat
  reporter : Nat
  sev : Nat
  code : Nat
  deriving DecidableEq, Repr

/-- An open entry of the fault coalescer (R597). -/
structure CoalEnt where
  suspect : Nat
  code : Nat
  sev : Nat
  count : Nat
  first : Nat
  last : Nat
  partners : List Nat
  firstRep : Nat
  lastRep : Nat
  deriving DecidableEq, Repr

/-- An image bank of MRAM: the MID and block count of its block map, and the octets of each committed block
(R511, R528). -/
structure ImgBank where
  mid : Nat
  count : Nat
  blocks : List (Nat × List Byte)
  deriving DecidableEq, Repr

def ImgBank.reset : ImgBank := { mid := 0, count := 0, blocks := [] }

/-- A bank-select record (R532). -/
structure BankSel where
  seq : Nat
  sel : Nat
  prev : Nat
  trial : Bool
  mid : Nat
  svn : Nat
  deriving DecidableEq, Repr

/-- A settings snapshot: its number, its schema, and entries by 256 · index + subindex (R522). -/
structure SetSnap where
  snap : Nat
  schema : Nat
  entries : List (Nat × List Byte)
  deriving DecidableEq, Repr

/-- A save in progress: the area (2 · bank + area) and what is written to it (R523). -/
structure SaveJob where
  area : Nat
  snap : SetSnap
  deriving DecidableEq, Repr

/-- The forwarder of the update thread (R530, R531): whether its session is open, the next block to send, blocks sent
and not yet answered with their ticks, when it reopens its session, and [31:30] and [9:0] of THREAD_STATE. -/
structure ThreadSt where
  open_ : Bool
  next : Nat
  waiting : List (Nat × Nat)
  retry : Option Nat
  state : Nat
  last : Nat
  deriving DecidableEq, Repr

def ThreadSt.reset : ThreadSt := { open_ := false, next := 0, waiting := [], retry := none, state := 0, last := 0 }

/-- Carrier of an OAP request, and where its response goes (R455 to R458): a trunk port with source address and outer
tag, a management bus with the sender's address, or a mailbox (0 PCIe, 1 SPI). -/
inductive OapSrc where
  | port (n : Nat) (addr tag : List Byte)
  | mb (b addr : Nat)
  | mailbox (k : Nat)
  deriving DecidableEq, Repr

/-- A request PDU with its carrier and arrival tick (R465). -/
structure OapReq where
  src : OapSrc
  pdu : List Byte
  at_ : Nat
  deriving DecidableEq, Repr

/-- A session (R459 to R464, R453, R454). -/
structure Session where
  num : Nat
  role : Nat
  /-- its role is proved, or needs no proof -/
  proved : Bool
  src : OapSrc
  /-- tick of the OPEN response -/
  opened : Nat
  /-- tick of the last valid request -/
  used : Nat
  next : Nat
  /-- responses to its last 64 executed requests, newest first -/
  done : List (Nat × List Byte)
  held : List OapReq
  /-- client-to-device and device-to-client keys -/
  keyIn : List Byte
  keyOut : List Byte
  /-- bodies of its OPEN request and response, which PROVE signs -/
  opening : List Byte
  /-- DOMAIN snapshot: object, octets, tick of its last READ -/
  snap : Option (Nat × List Byte × Nat)
  /-- message being assembled: object, octets, tick of its last segment -/
  asm_ : Option (Nat × List Byte × Nat)
  /-- an assembly was discarded, and its next segment is refused with ABORTED -/
  aborted : Bool
  /-- staged block header (R527) -/
  hdr : List Byte
  deriving DecidableEq, Repr

/-- An entry of the relay table (R456): SESSION, SEQ, port, source address, outer tag, tick. -/
structure RelayEnt where
  session : Nat
  seq : Nat
  port : Nat
  addr : List Byte
  tag : List Byte
  at_ : Nat
  deriving DecidableEq, Repr

/-- The Thimble's stores and supervision beside its registers (R506 to R537). -/
structure ThimSt where
  /-- image banks A (0) and B (1) of MRAM (R511) -/
  imgBanks : List (Nat × ImgBank)
  /-- bank-select records S0 and S1 of MRAM (R532) -/
  bankSels : List (Nat × Option BankSel)
  /-- committed boot-attempt records of MRAM, each the SEQ it names (R534) -/
  bootTries : List Nat
  /-- settings areas of MRAM by 2 · bank + area (R522) -/
  setAreas : List (Nat × Option SetSnap)
  /-- event-log records of MRAM by slot (R513) -/
  logRing : List (Nat × List Byte)
  /-- a settings save in progress (R523) -/
  saving : Option SaveJob
  /-- a SAVE arrived during a save (R523) -/
  saveNext : Bool
  /-- when the first stored object changed since the last save (R523) -/
  saveDirty : Option Nat
  /-- when the last save was taken (R523) -/
  saveLast : Option Nat
  /-- the Thimble runs its restricted service (R507) -/
  restricted : Bool
  /-- a thermal excursion is on (R509) -/
  hotWarn : Bool
  /-- since when a sensor has read at or above CRIT (R507) -/
  critSince : List (Nat × Option Nat)
  /-- VOUT_MODE has been sent to a regulator since reset (R510) -/
  pmbSeen : List (Nat × Bool)
  /-- when an ACTIVATE of 2 performs RST_N (R533) -/
  rstDue : Option Nat
  /-- the update thread's forwarder (R530) -/
  thread : ThreadSt
  /-- attachments to which part 5 has been sent since boot (R534) -/
  pushed : List Nat
  deriving DecidableEq, Repr

def ThimSt.reset : ThimSt where
  imgBanks := []
  bankSels := []
  bootTries := []
  setAreas := []
  logRing := []
  saving := none
  saveNext := false
  saveDirty := none
  saveLast := none
  restricted := false
  hotWarn := false
  critSince := []
  pmbSeen := []
  rstDue := none
  thread := ThreadSt.reset
  pushed := []

/-- Requests, sessions and relay table of the Object Access Protocol (R455 to R469). -/
structure OapSt where
  /-- waiting requests, oldest first (R465) -/
  queue : List OapReq
  /-- open sessions (R461) -/
  sessions : List Session
  /-- the number last given to a session -/
  ctr : Nat
  /-- OAP_COUNTERS by place in OD 0x0003.07 -/
  cnt : List (Nat × Nat)
  /-- the relay table (R456) -/
  relays : List RelayEnt
  /-- broadcast READs waiting for their stagger (R469) -/
  bcasts : List OapReq
  /-- response PDUs on their way to a mailbox: 0 PCIe, 1 SPI (R458, R498) -/
  mbResp : List (Nat × List Byte)
  /-- mailbox requests submitted and not yet taken in: mailbox, PDU, tick of the SUBMIT (R465, R498) -/
  mbReq : List (Nat × List Byte × Nat)
  /-- executed requests whose response waits: 1 for a key-update result, 2 for a fence, 3 for a datum change to be complete,
  4 for the save in progress, 5 for the save after it (R86, R252, R389, R523) -/
  waits : List (Nat × OapReq)
  deriving DecidableEq, Repr

def OapSt.reset : OapSt where
  queue := []
  sessions := []
  ctr := 0
  cnt := []
  relays := []
  bcasts := []
  mbResp := []
  mbReq := []
  waits := []

/-- A configuration write carried by TXN packets (R423): its number, the body of the write request, the session and SEQ
of the requester where it came to this twin, and the tick of its REQUEST or arrival. -/
structure Txn where
  num : Nat
  body : List Byte
  req : Option OapReq
  at_ : Nat
  deriving DecidableEq, Repr

/-- The Seam beside its registers (R404 to R437). -/
structure SeamSt where
  /-- tick of entry into the present STATE (R412) -/
  since : Nat
  /-- consecutive markers a lane has had as CANDIDATE, and missed as LOCKED (R407) -/
  run : List (Nat × Nat)
  missed : List (Nat × Nat)
  /-- groups aligned (R408) -/
  aligned : List Nat
  /-- last 58 bits of a group's descrambler, most recent lowest (R405) -/
  scr : List (Nat × Nat)
  /-- octets of the packet open on a group, by 2 · group + class (R404) -/
  open_ : List (Nat × Option (List Byte))
  /-- received data packets with their groups, oldest first (R426) -/
  rxData : List (Nat × List Byte)
  /-- the heartbeat counter, when one was last sent, and when a group last received one (R415) -/
  hbCnt : Nat
  /-- packets sealed and opened since key agreement, which form the nonces and name the key (R410) -/
  nonceTx : Nat
  nonceRx : Nat
  hbSent : Option Nat
  hbAt : List (Nat × Nat)
  /-- last time the twin's ACK advanced (R411) -/
  ackAt : Nat
  /-- keys have been agreed (R413) -/
  keyed : Bool
  /-- the twin's UID is pinned or accepted: node state, authority and last transaction it last reported (R415, R470) -/
  twinNode : Nat
  twinAuth : Bool
  twinTxn : Nat
  /-- COUNT of the last status accepted and of the next one sent, and when it was sent (R470) -/
  statusRx : Option Nat
  statusTx : Nat
  statusAt : Option Nat
  /-- when the twin was last heard on a management bus, and since when the Seam is lost (R432, R433) -/
  heardAt : Option Nat
  lostAt : Option Nat
  /-- when TWIN_DOWN was set (R435) -/
  downAt : Nat
  /-- twin B has taken over (R435) -/
  took : Bool
  /-- EPOCH records that differ: the record's values and when it is judged again (R421) -/
  epochs : List (List Nat × Nat)
  /-- BOBBIN records of the twin by bobbin (R417) -/
  bobs : List (Nat × List Nat)
  /-- last transaction number committed, the transactions under way (on twin A those sent in PREPARE, on twin B the writes it
  has asked for), those that twin A applies alone because their PREPARE was not sent, those held prepared, and the journal (R423, R424,
  R434): transaction numbers with their writes, oldest first; whether it has overflowed -/
  txnNum : Nat
  txns : List Txn
  lone : List Txn := []
  prepared : List Txn
  journal : List (Nat × List Byte)
  overflow : Bool
  /-- writes journaled while the Seam is not up (R437) -/
  alone : List Nat
  deriving DecidableEq, Repr

def SeamSt.reset : SeamSt where
  since := 0
  run := []
  missed := []
  aligned := []
  scr := []
  open_ := []
  rxData := []
  hbCnt := 0
  nonceTx := 0
  nonceRx := 0
  hbSent := none
  hbAt := []
  ackAt := 0
  keyed := false
  twinNode := 0
  twinAuth := false
  twinTxn := 0
  statusRx := none
  statusTx := 0
  statusAt := none
  heardAt := none
  lostAt := none
  downAt := 0
  took := false
  epochs := []
  bobs := []
  txnNum := 0
  txns := []
  prepared := []
  journal := []
  overflow := false
  alone := []

/-- A network wake whose validity is not yet decided (R550): its code under R546, its channel, the state it came from
(2 STANDBY, 3 SLEEP), and the TEST flag of that state's request. -/
structure WakeJudge where
  code : Nat
  chan : Nat
  was : Nat
  test : Bool
  deriving DecidableEq, Repr

/-- Power, boot and test port beside their registers (R539 to R563, R600 to R603). -/
structure PowerSt where
  /-- the state being entered while TRANS is set: 2 STANDBY, 3 SLEEP -/
  entering : Option Nat
  /-- STANDBY is being left -/
  exiting : Bool
  /-- TEST of the last request for STANDBY or SLEEP -/
  test : Bool
  /-- tick of the last completion of entry into STANDBY (R546) -/
  enteredAt : Option Nat
  /-- tick of the first wake after entry; none while FIRST is still open (R547) -/
  firstAt : Option Nat
  /-- the wake that began the exit, or that is latched during entry: code and channel -/
  wake : Option (Nat × Nat)
  judge : Option WakeJudge
  /-- tick at which READY was last set -/
  readyAt : Option Nat
  /-- tick at which the node last left JOINING (R551) -/
  joinedAt : Option Nat
  /-- the WAKE ball has been high without a break for 10 µs (R541, R546) -/
  wakeHigh : Bool
  /-- configuration words held by the always-on wake block in SLEEP, by address (R545) -/
  wakeRegs : List (Nat × Word)
  /-- the time PLL is locked (R600) -/
  pll : Bool
  /-- boot: 0 in reset, 1 released, 2 Meridian runs, 3 boot ROM done, 4 Thimble boot complete, 5 settings restored (R603) -/
  boot : Nat
  /-- levels of NID0 to NID9 at the last release (R602) -/
  straps : Nat
  /-- the JTAG instruction in force (R563) -/
  jtag : Nat
  /-- the node state that the entry into SLEEP ended (R446, R549) -/
  slept : Option NodeState
  deriving DecidableEq, Repr

def PowerSt.reset : PowerSt where
  entering := none
  exiting := false
  test := false
  enteredAt := none
  firstAt := none
  wake := none
  judge := none
  readyAt := none
  joinedAt := none
  wakeHigh := false
  wakeRegs := []
  pll := false
  boot := 0
  straps := 0
  jtag := 1
  slept := none

/-- A neighbour on a join port (R611). -/
structure Neighbour where
  uid : List Byte
  node : Nat
  port : Nat
  /-- its ROOT and DIST; none where its DIST is 0xFF -/
  vec : Option (Nat × Nat)
  cand : Bool
  complete : Bool
  parent : Option Nat
  heard : Nat
  deriving DecidableEq, Repr

/-- Sequencing of one join port (R610): the next SEQ sent, the frames not acknowledged with their SEQ, MSG and records,
those that wait, when the ACKs last advanced, and the SEQ received next. -/
structure JoinLink where
  next : Nat
  unacked : List (Nat × Nat × List (List Byte))
  wait : List (Nat × List (List Byte))
  at_ : Nat
  rx : Nat
  deriving DecidableEq, Repr

def JoinLink.reset : JoinLink := { next := 0, unacked := [], wait := [], at_ := 0, rx := 0 }

/-- gPTP on the join ports (R607): the log intervals of Sync, Pdelay_Req and Announce, and the BMCA priority1. -/
structure JoinGptp where
  sync : Int
  pdelay : Int
  announce : Int
  prio : Nat
  deriving DecidableEq, Repr

/-- The join tree beside its registers (R606 to R618). -/
structure JoinSt where
  /-- JOIN_PORTS and JOIN_ETYPE as they took effect at boot (R606, R619) -/
  ports : Nat
  etype : Nat
  /-- what R607 sets on the join ports; none without JOIN_GPTP -/
  gptp : Option JoinGptp
  neighbours : List (Nat × Neighbour)
  /-- ports that may not be used for the tree -/
  barred : List Nat
  links : List (Nat × JoinLink)
  /-- ROOT, DIST, and the parent with the port that faces it; none where cand is empty -/
  vec : Option (Nat × Nat × Option (Nat × Nat))
  /-- records of the subtree by node, with the port each came through, none for the node's own -/
  store : List (Nat × List Byte × Option Nat)
  /-- join table of the root by node -/
  table : List (Nat × List Byte)
  /-- COMPLETE has been heard or declared -/
  complete : Bool
  /-- the parent has ACKed the node's own record -/
  acked : Bool
  /-- ticks of the entry into JOINING, of the links up, of the first ROOT, of the root's own record, and of the last new
  node in the table -/
  joinAt : Option Nat
  upAt : Option Nat
  rootAt : Option Nat
  ownAt : Option Nat
  newAt : Nat
  /-- training failures on end of a join port -/
  fails : List (Nat × Nat)
  /-- per port: when its last HELLO was sent; and the ports on which a triggered one is due -/
  hello : List (Nat × Nat)
  trig : List Nat
  deriving DecidableEq, Repr

def JoinSt.reset : JoinSt where
  ports := 0
  etype := 0x88B5
  gptp := none
  neighbours := []
  barred := []
  links := []
  vec := none
  store := []
  table := []
  complete := false
  acked := false
  joinAt := none
  upAt := none
  rootAt := none
  ownAt := none
  newAt := 0
  fails := []
  hello := []
  trig := []

/-- A bridge operation (R500 to R504): interface 0 PCIe, 1 SPI, 2 Thimble; the host address of its first word; the words
written, or how many are read; how many are fetched; its TAG sequence; and how often and when it has been sent. -/
structure BrOp where
  iface : Nat
  write : Bool
  addr : Nat
  data : List Word
  count : Nat
  fetch : Nat
  seq : Nat
  tries : Nat
  sentAt : Nat
  deriving DecidableEq, Repr

/-- A prefetch buffer (R503): window, offset of its first word, words, and the tick of its fetch. -/
structure PfBuf where
  win : Nat
  off : Nat
  words : List Word
  at_ : Nat
  deriving DecidableEq, Repr

/-- Punt queues and the bridge beside their registers (R486 to R491, R499 to R505). -/
structure HostSt where
  /-- why the items waiting for an up ring are punted: CAUSE + 16 · filter rule, by queue, oldest first (R488) -/
  why : List (Nat × List Nat)
  /-- ticks at which the unread slots of an up ring were written, oldest first (R489) -/
  slotAt : List (Nat × List Nat)
  /-- bridge operations outstanding, oldest first (R502) -/
  ops : List BrOp
  /-- TAG sequence of an interface's next operation (R500) -/
  seqs : List (Nat × Nat)
  /-- prefetch buffers by interface (R503) -/
  pf : List (Nat × PfBuf)
  /-- responses to the twin's last 16 TAGs, newest first (R505) -/
  done : List (Nat × List Byte)
  /-- frames recognised as bridge frames, oldest first (R501) -/
  brIn : List Item
  /-- PCIE_PERST_N is low: the PCIe link is held down (R629) -/
  perst : Bool
  /-- words of the SPI write queue that wait for the bridge, as address and word, oldest first (R496) -/
  spiQ : List (Nat × Word) := []
  deriving DecidableEq, Repr

def HostSt.reset : HostSt where
  why := []
  slotAt := []
  ops := []
  seqs := []
  pf := []
  done := []
  brIn := []
  perst := false

/-- The state of the block. -/
structure State where
  /-- Meridian in ticks of 0.5 ns, modulo 2^64 (R73) -/
  mer : Nat
  /-- registers and table-window words that differ from their reset value, by byte address (R474) -/
  regs : List (Nat × Word)
  /-- words latched or snapshotted for one reading interface, by interface · 2^32 + address (R478) -/
  lat : List (Nat × Word)
  /-- staging copies of entry words, by interface or session · 2^32 + address (R249) -/
  stage : List (Nat × Word)
  /-- the bits of (level AND SYS_IRQ_EN) at the last moment (R484) -/
  irqPrev : Nat
  /-- MSI-X table words of BAR2 by word number (R485) -/
  msixTable : List (Nat × Word)
  /-- MSI-X pending bits (R484) -/
  msixPend : Nat
  /-- drop counters by tenant · 16 + reason; tenant 1,024 is the system counter (R29, R582) -/
  drops : List (Nat × Nat)
  /-- node state (R445) -/
  node : NodeState
  /-- the state under DEGRADED (R447) -/
  nodeUnder : NodeState
  /-- STATE_SINCE (R446) -/
  nodeSince : Nat
  /-- event-log records in the SRAM queue, oldest first (R515) -/
  logQueue : List LogRec
  /-- the next record written carries LOST (R515) -/
  logLost : Bool
  /-- pace monitors 0–31 (R50) -/
  mons : List (Nat × MonSt)
  /-- pace governors 0 and 1 (R59) -/
  govs : List (Nat × GovSt)
  /-- at degraded level 3, when a panel's parser admits its next data item, in 1/36 tick (R65) -/
  admitAt : List (Nat × Nat)
  /-- a global tamper drives ALARM_N low (R399) -/
  tamperAlarm : Bool
  /-- a SAFE entry drives ALARM_N low (R507) -/
  safeAlarm : Bool
  /-- PCIe and SPI answer: Thimble boot is complete and the device is not in SLEEP (R601, R603, R545) -/
  hostUp : Bool
  /-- the 1,032 datums (R77) -/
  datums : List (Nat × DatumSt)
  /-- staged datum values by session · 2,048 + datum (R107) -/
  datumStage : List (Nat × DatumStage)
  /-- the gPTP servo (R97) -/
  servo : ServoSt
  /-- transmit time-stamp queues: port n at n, LCn at 1,024 + n, PCm at 1,088 + m (R103, R171) -/
  tsqs : List (Nat × List TsqEntry)
  /-- the last accepted PPS_IN edge (R98) -/
  ppsiLast : Option Nat
  /-- PPS_OUT level (R99) -/
  ppsoHigh : Bool
  /-- when PPS_OUT rose last (R99) -/
  ppsoRise : Nat
  /-- the tenant time of the rise after it (R99) -/
  ppsoNext : Nat
  /-- what the Thimble keeps for each gPTP port (R95, R97) -/
  gptp : List (Nat × GptpSt)
  /-- datums of this twin B's requests that twin A has not answered, oldest first (R422) -/
  datumAsk : List Nat
  /-- the 25 MHz time reference is outside its limits (R75) -/
  refBad : Bool
  /-- cipher lanes 0–31 (R374) -/
  lanes : List (Nat × LaneSt)
  /-- lane alarms of the last millisecond as (lane, tick) (R399) -/
  laneAlarms : List (Nat × Nat)
  /-- proof-unit mismatches of the last millisecond (R396) -/
  proofTimes : List Nat
  /-- key material by slot (R378); never read back over any interface -/
  keyMat : List (Nat × Nat)
  /-- key-update messages waiting or in progress, at most 4 waiting (R393) -/
  kumQueue : List KumMsg
  /-- the wrapped-key region of MRAM (R385) -/
  keyMram : KeyMram
  /-- OTP of a blank part (log entry 4) -/
  otp : OtpSt
  /-- the ruling anchored generation as applied at the last reset (R519) -/
  anchor : Option (List Byte)
  /-- results waiting for their engines: engine, status, octets (R324, R377) -/
  replies : List (Nat × (Nat × List Byte))
  /-- switch-core queues by Dest.key, head first (R254) -/
  queues : List (Nat × List QEnt)
  /-- stored cell chains by number (R258) -/
  chains : List (Nat × Chain)
  /-- the number of the next chain -/
  chainCtr : Nat
  /-- items on their way to a panel's queue manager, by panel, oldest first (R256) -/
  offers : List (Nat × List Offer)
  /-- items on their way to a punt queue, by queue, with why they are punted (R487) -/
  puntIn : List (Nat × List (Item × Nat))
  /-- items on their way to a stitch engine, oldest first (R290) -/
  workIn : List WorkReq
  /-- deep cells of discarded spilled frames not yet free: stack, tenant, cells (R265) -/
  deepFreeing : List (Nat × Nat × Nat)
  /-- policer buckets (R273) -/
  pols : List (Nat × PolSt)
  /-- survey records waiting in a panel's FIFO (R278) -/
  svFifo : List (Nat × List (List Byte))
  /-- survey ring records by half · 4,194,304 + record (R278) -/
  svRing : List (Nat × List Byte)
  /-- ports the twin's latest heartbeat shows enabled with link up (R430) -/
  twinPortUp : List Nat
  /-- histogram bins by 32 · unit + bin (R585) -/
  hist : List (Nat × Nat)
  /-- for a level-mode counter, the 4 ns interval last counted, plus 1 (R581) -/
  ctrInt : List (Nat × Nat)
  /-- survey sampling registers by port, none before the first step (R276) -/
  sampleReg : List (Nat × Option Nat)
  /-- item-tagging registers by panel (R587) -/
  tagReg : List (Nat × Option Nat)
  /-- instruction-tagging registers by engine (R589) -/
  itagReg : List (Nat × Option Nat)
  /-- tick of a panel's previous tag, plus 1 (R587) -/
  tagLast : List (Nat × Nat)
  /-- tick of an engine's previous instruction tag, plus 1 (R589) -/
  itagLast : List (Nat × Nat)
  /-- records entered in the tag ring (R589) -/
  tagSeq : Nat
  /-- the TSEQ of a die's next trace record (R591) -/
  traceSeq : List (Nat × Nat)
  /-- trace records due in a die, oldest first, on their way to its queue (R592) -/
  traceIn : List (Nat × List TraceRec)
  /-- mirror packets not yet acknowledged, oldest first (R411) -/
  mirrorOut : List MirPkt
  /-- records waiting in the mirror buffer, as kind and values, oldest first (R419) -/
  mirrorWait : List (Nat × List Nat)
  /-- MSEQ of the next packet sent (R411) -/
  mseqTx : Nat
  /-- MSEQ of the next packet expected (R411) -/
  mseqRx : Nat
  /-- bobbins (R349) -/
  bobs : List (Nat × BobSt)
  /-- wind frames on their way to a winder, oldest first (R353) -/
  windIn : List Item
  /-- by die: wound and captured records waiting to be written to its stack, oldest first (R358, R370) -/
  winder : List (Nat × List FillJob)
  /-- the bobbin pool in 16-octet units, by stack · 2^31 + unit (R357) -/
  pool : List (Nat × List Byte)
  /-- trunk ports (R115) -/
  ports : List (Nat × PortSt)
  /-- good windows on end of a panel's reference detector, at most 10 (R113) -/
  refGood : List (Nat × Nat)
  /-- number of the last window that a panel's reference detector judged (R113) -/
  refWin : List (Nat × Nat)
  /-- control FIFOs: OAP and join frames a port's MAC holds, at most 16, oldest first (R27, R68, R608) -/
  ctlIn : List (Nat × List (List Byte))
  /-- items on their way to a panel's parser, oldest first (R28) -/
  parserIn : List (Nat × List Item)
  /-- dictionary objects that no register holds, by 256 · index + subindex (R439) -/
  ods : List (Nat × Nat)
  /-- loom channels at 0–63, management buses at 64 and 65 (R138, R169) -/
  chans : List (Nat × ChanSt)
  /-- PLCA channels (R165) -/
  plcas : List (Nat × PlcaSt)
  /-- virtual buses (R173) -/
  vbs : List (Nat × VbSt)
  /-- fault-injector entries (R190) -/
  injs : List (Nat × InjSt)
  /-- sequence_num an attachment expects, none before its first frame (R205) -/
  attRx : List (Nat × Option Nat)
  /-- sequence_num of the next frame to an attachment (R206) -/
  attTx : List (Nat × Nat)
  /-- NTSCF frames that match an attachment, by panel and attachment, oldest first (R205) -/
  ntscfIn : List (Nat × Nat × Item)
  /-- station entries by 4 · bucket + way (R234) -/
  sta : List (Nat × Option StaEnt)
  /-- a station command in progress, with its data words -/
  staCmd : Option (Word × List Word)
  /-- prefixes of the LPM trie (R245) -/
  lpm : List LpmEnt
  /-- an LPM command in progress, with its key and leaf words -/
  lpmCmd : Option (Word × List Word)
  /-- next sequence number of a generating stream handle (R427) -/
  frSeq : List (Nat × Nat)
  /-- sequence recovery by stream handle (R428) -/
  frers : List (Nat × RecovSt)
  /-- the twin's history of a stream handle (R429) -/
  frShadow : List (Nat × Option RecovSt)
  /-- inverted bits of stored code words, by class · 2^32 + address (R568, R577) -/
  flaws : List (Nat × List Nat)
  /-- poison-tagged code words (R571) -/
  poison : List (Nat × Bool)
  /-- merge-buffer entries: code word, octets written, accesses since, oldest first (R575) -/
  merge : List (Nat × Nat × Nat)
  /-- the last leak tick of a class (R569) -/
  leakAt : List (Nat × Nat)
  /-- the panels that the die-to-die interface held back at their last lookup (R32, R580) -/
  backPress : List Nat
  /-- the code word a class's scrubber read last (R576) -/
  scrubAt : List (Nat × Nat)
  /-- stitch engines (R283) -/
  engs : List (Nat × EngSt)
  /-- the stitch shared heap by word: die · 2^27 + word (R283, R284) -/
  heap : List (Nat × Word)
  /-- completion records, oldest first (R310) -/
  cq : List CqRec
  /-- ticks of a program's exceptions of the last 1 ms (R297) -/
  excTimes : List (Nat × List Nat)
  /-- snapshot bank 0, by offset in its window; a word that is not listed reads 0 (R584) -/
  snapBank0 : List (Nat × Word)
  /-- snapshot bank 1 -/
  snapBank1 : List (Nat × Word)
  /-- a snapshot being copied: its latch tick and words (R583) -/
  snapCopy : Option (Nat × List (Nat × Word))
  /-- the snapshot in progress cleared the counters at its latch (R581, R583) -/
  snapClr : Bool
  /-- a request made during a copy, and whether it clears (R583) -/
  snapAgain : Option Bool
  /-- the last moment of the snapshot period (R583) -/
  snapLast : Nat
  /-- trace queue of a die, oldest first (R592) -/
  traceQ : List (Nat × List TraceEnt)
  /-- records a die lost since its previous LOSS, and the TSEQ of the first (R591, R592) -/
  traceLoss : List (Nat × Nat × Nat)
  /-- tick at which an observation lane ends the packet it sends (R593) -/
  traceFree : List (Nat × Nat)
  /-- sequence of the next trace frame (R595) -/
  traceFrame : Nat
  /-- open coalescer entries by number; 256 is the overflow entry (R597) -/
  coal : List (Nat × CoalEnt)
  /-- fault reports that wait for the coalescer, at most 4,096, oldest first (R598) -/
  coalIn : List Report
  /-- the first tick at which the coalescer takes another report (R598) -/
  coalFree : Nat
  /-- when the node first reached RUN (R535) -/
  runAt : Option Nat
  /-- the Thimble's stores and supervision (R506 to R537) -/
  th : ThimSt
  /-- requests, sessions and relays (R455 to R469) -/
  oap : OapSt
  /-- the Seam and the twin (R404 to R437) -/
  sm : SeamSt
  /-- power, boot and test port (R539 to R563, R600 to R603) -/
  pw : PowerSt
  /-- the join tree (R606 to R618) -/
  jn : JoinSt
  /-- punt queues and bridge (R486 to R505) -/
  hs : HostSt
  /-- the model's own: how many free values have been taken (log entry 3) -/
  freeCtr : Nat
  /-- the model's own: what has left the device, newest first (log entry 5) -/
  out : List Out
  /-- the model's own: the commands that wait, first in, first out (log entry 1) -/
  pending : List Instr
  deriving DecidableEq, Repr

/-- The machine right after PORST_N, before its release: every register word and table word at the
Reset column's value (nothing listed in `regs`), every memory with nothing listed. -/
def State.reset : State where
  mer := 0
  regs := []
  lat := []
  stage := []
  irqPrev := 0
  msixTable := []
  msixPend := 0
  drops := []
  node := .init
  nodeUnder := .run
  nodeSince := 0
  logQueue := []
  logLost := false
  mons := []
  govs := []
  admitAt := []
  tamperAlarm := false
  safeAlarm := false
  hostUp := false
  datums := []
  datumStage := []
  servo := { mode := 0, measured := false, good := 0, bad := 0, realign := none }
  tsqs := []
  ppsiLast := none
  ppsoHigh := false
  ppsoRise := 0
  ppsoNext := 0
  gptp := []
  datumAsk := []
  refBad := false
  lanes := []
  laneAlarms := []
  proofTimes := []
  keyMat := []
  kumQueue := []
  keyMram := { ctrA := none, ctrB := none, blob0 := none, blob1 := none, tamper := false }
  otp := OtpSt.blank
  anchor := none
  replies := []
  queues := []
  chains := []
  chainCtr := 0
  offers := []
  puntIn := []
  workIn := []
  deepFreeing := []
  pols := []
  svFifo := []
  svRing := []
  twinPortUp := []
  hist := []
  ctrInt := []
  sampleReg := []
  tagReg := []
  itagReg := []
  tagLast := []
  itagLast := []
  tagSeq := 0
  traceSeq := []
  traceIn := []
  mirrorOut := []
  mirrorWait := []
  mseqTx := 0
  mseqRx := 0
  bobs := []
  windIn := []
  winder := []
  pool := []
  ports := []
  refGood := []
  refWin := []
  ctlIn := []
  parserIn := []
  ods := []
  chans := []
  plcas := []
  vbs := []
  injs := []
  attRx := []
  attTx := []
  ntscfIn := []
  sta := []
  staCmd := none
  lpm := []
  lpmCmd := none
  frSeq := []
  frers := []
  frShadow := []
  flaws := []
  poison := []
  merge := []
  leakAt := []
  backPress := []
  scrubAt := []
  engs := []
  heap := []
  cq := []
  excTimes := []
  snapBank0 := []
  snapBank1 := []
  snapCopy := none
  snapClr := false
  snapAgain := none
  snapLast := 0
  traceQ := []
  traceLoss := []
  traceFree := []
  traceFrame := 0
  coal := []
  coalIn := []
  coalFree := 0
  runAt := none
  th := ThimSt.reset
  oap := OapSt.reset
  sm := SeamSt.reset
  pw := PowerSt.reset
  jn := JoinSt.reset
  hs := HostSt.reset
  freeCtr := 0
  out := []
  pending := []

end Sys2Proof.Machine
end

