-- ==== Sys2Proof/Machine/Ops.lean ====
section
/-! DEFINITION. The named operations every command is built from: reading and writing
register words and their fields, events and interrupts, the event log, drop counters, free
values, time, and the frame every meaning ends with. -/

namespace Sys2Proof.Machine

/-! ### Time (R11) -/

/-- Ticks in a microsecond. -/
def usTicks : Nat := 2000
/-- Ticks in a millisecond. -/
def msTicks : Nat := 2000000

/-! ### Register words and fields -/

/-- The word at a byte address. -/
def State.rd (s : State) (a : Nat) : Word := Sparse.get regReset s.regs a

/-- Write a whole word, without any rule of the register. -/
def State.wr (s : State) (a : Nat) (w : Word) : State := { s with regs := Sparse.set regReset s.regs a w }

/-- A field's value. -/
def State.fld (s : State) (a : Nat) (f : Fld) : Nat := getF (s.rd a) f

/-- A one-bit field. -/
def State.flag (s : State) (a : Nat) (f : Fld) : Bool := getB (s.rd a) f

/-- Set a field. -/
def State.setFld (s : State) (a : Nat) (f : Fld) (v : Nat) : State := s.wr a (setF (s.rd a) f v)

/-- Set a one-bit field from a truth value. -/
def State.setFlag (s : State) (a : Nat) (f : Fld) (b : Bool) : State := s.setFld a f (bit b)

/-- Add to a counter field that wraps. -/
def State.bump (s : State) (a : Nat) (f : Fld) (n : Nat := 1) : State := s.setFld a f (s.fld a f + n)

/-- Add to a counter field that stays at its largest value. -/
def State.bumpSat (s : State) (a : Nat) (f : Fld) (n : Nat := 1) : State :=
  s.setFld a f (min (s.fld a f + n) (2 ^ Fld.width f - 1))

/-- Add to a whole-word counter that wraps. -/
def State.count (s : State) (a : Nat) (n : Nat := 1) : State := s.wr a (s.rd a + BitVec.ofNat 32 n)

/-- A 64-bit value held in two words, low word first. -/
def State.rd64 (s : State) (a : Nat) : Nat := (s.rd a).toNat + 2 ^ 32 * (s.rd (a + 4)).toNat

/-- Write a 64-bit value to two words, low word first. -/
def State.wr64 (s : State) (a v : Nat) : State :=
  (s.wr a (BitVec.ofNat 32 v)).wr (a + 4) (BitVec.ofNat 32 (v / 2 ^ 32))

/-- Add to a 64-bit counter held in two words (R136). -/
def State.count64 (s : State) (a : Nat) (n : Nat := 1) : State := s.wr64 a ((s.rd64 a + n) % 2 ^ 64)

/-- Write a word of the stitch shared heap: die · 2^27 + word (R283, R284). -/
def State.heapWrite (s : State) (k : Nat) (w : Word) : State := { s with heap := Sparse.set (fun _ => 0) s.heap k w }

/-- The machine's memories hold their canonical form: register and table words, the shared heap, and the bobbin pool. -/
def Memory.wf (s : State) : Bool :=
  Sparse.wf regReset s.regs && Sparse.wf (fun _ => 0) s.heap && Sparse.wf (fun _ => List.replicate 16 (0 : Byte)) s.pool

/-! ### Outside effects, log, drops, free values -/

/-- Something leaves the device. -/
def State.emitOut (s : State) (o : Out) : State := { s with out := o :: s.out }

/-- One event-log record, raised by a rule; the 512-record queue drops what it cannot hold (R513, R515). -/
def State.log (s : State) (rule inst : Nat) (params : List Nat := []) : State :=
  if s.logQueue.length < 512 then
    { s with
      logQueue := s.logQueue ++ [{ rule := rule, first := s.mer, last := s.mer, count := 1,
                                   inst := inst, node := s.node, lost := s.logLost, params := params, code := none }]
      logLost := false }
  else
    (State.count { s with logLost := true } THIM_LOGLOST).setFld THIM_EVT THIM_EVT_LOGLOST 1

/-- Program the next bit of thermometer counter c. Whether its read-back holds, at the latest when it is burnt again, is
free; where it fails the step counts as not burnt, with one record (R517). -/
def State.burnStep (s : State) (c : Nat) : Bool × State :=
  let t : State := { s with freeCtr := s.freeCtr + 1 }
  if Config.free s.freeCtr % 2 = 0 then
    (true, { t with otp := { t.otp with therm := t.otp.therm.set c (t.otp.therm.getD c 0 + 1) } })
  else (false, t.log 517 c [t.otp.therm.getD c 0])

/-- The last report of voltage monitor n, one every 10 µs of Meridian; 0 before the first (R508). -/
def State.voltage (s : State) (n : Nat) : Nat :=
  if s.mer < 10 * usTicks then 0 else Config.volts n (s.mer / (10 * usTicks)) % 2048

/-- Key of a drop counter; tenant 1,024 stands for the system drop counter (R29). -/
def dropKey (tenant reason : Nat) : Nat := 16 * tenant + reason

/-- A discard, counted once under its reason (R29; the counters are 64 bits wide, R582). -/
def State.dropFor (s : State) (tenant reason : Nat) : State :=
  let n := Sparse.get (fun _ => 0) s.drops (dropKey tenant reason)
  { s with drops := Sparse.set (fun _ => 0) s.drops (dropKey tenant reason) ((n + 1) % 2 ^ 64) }

/-- A drop counter's value. -/
def State.dropCount (s : State) (tenant reason : Nat) : Nat :=
  Sparse.get (fun _ => 0) s.drops (dropKey tenant reason)

/-- Reasons of R29. -/
def rOverrun : Nat := 1
def rMalformed : Nat := 2
def rUnbound : Nat := 3
def rFilterDeny : Nat := 4
def rTenant : Nat := 5
def rNoRoute : Nat := 6
def rPolicer : Nat := 7
def rStitch : Nat := 8
def rAuth : Nat := 9
def rHop : Nat := 10
def rCrossing : Nat := 11
def rQueue : Nat := 12
def rEgress : Nat := 13

/-- The body that carries a record of R417 (kinds 1 to 6), or of a TXN packet (kind 20: OP, status, number, and the octets
of the write, R423). -/
def mirrorBody (kind : Nat) (v : List Nat) : List Byte :=
  let x (i n : Nat) : List Byte := natBe n (v.getD i 0)
  let z (n : Nat) : List Byte := List.replicate n 0
  match kind with
  | 1 => [1, 0] ++ x 0 2 ++ x 1 2 ++ x 2 6 ++ x 3 2 ++ x 4 2 ++ z 16
  | 2 => [2] ++ x 4 1 ++ x 0 2 ++ z 4 ++ x 1 8 ++ x 3 8 ++ x 2 6 ++ z 2
  | 3 => [3, 0] ++ x 0 2 ++ z 4 ++ x 1 8 ++ z 16
  | 4 => [4, 0] ++ x 0 2 ++ x 1 4 ++ x 2 8 ++ x 3 4 ++ natBe 1 (v.getD 4 0 % 2 + 2 * (v.getD 5 0 % 2)) ++ z 11
  | 5 => [5, 0] ++ x 0 2 ++ x 1 1 ++ z 1 ++ x 2 2 ++ x 3 4 ++ x 4 2 ++ x 5 2 ++ x 6 8 ++ x 7 8
  | 6 => [6, 0] ++ x 0 2 ++ x 1 2 ++ x 2 1 ++ z 1 ++ x 3 4 ++ z 20
  | _ => x 0 1 ++ x 1 1 ++ z 2 ++ x 2 4 ++ (v.drop 3).map (fun o => BitVec.ofNat 8 o)

/-- A packet of the mirror class before it is sealed: the header of R410 with the cumulative ACK of R411, and the body; its
length counts the tag. -/
def State.mirrorPacket (s : State) (ty num : Nat) (body : List Byte) : List Byte :=
  natBe 1 ty ++ [0x10] ++ natBe 2 (32 + body.length) ++ natBe 4 num ++ natBe 4 (s.mseqRx + 2 ^ 32 - 1) ++ natBe 4 0 ++ body

/-- A sequenced packet (R411). -/
def State.mirrorOctets (s : State) (p : MirPkt) : List Byte :=
  s.mirrorPacket (if p.kind = 20 then 0x14 else 0x11) p.mseq (mirrorBody p.kind p.values)

/-- A packet of the mirror class is sealed and leaves (R410). -/
def State.mirrorEmit (s : State) (octets : List Byte) : State :=
  State.emitOut (State.count { s with sm := { s.sm with nonceTx := s.sm.nonceTx + 1 } } (SEAM_CNTc 0)) (.mirror octets)

/-- A packet of one record, or of a transaction, goes to the twin (R411, R423). -/
def State.mirrorSend (s : State) (kind : Nat) (values : List Nat) : State :=
  let p : MirPkt := { mseq := s.mseqTx, kind := kind, values := values }
  State.mirrorEmit { s with mirrorOut := s.mirrorOut ++ [p], mseqTx := (s.mseqTx + 1) % 2 ^ 32 } (s.mirrorOctets p)

/-- What names the record of a kind (R419): station key, otherwise its first value. -/
def mirrorKey (kind : Nat) (values : List Nat) : Nat × List Nat := (kind, values.take (if kind = 1 then 3 else 1))

/-- A newer record takes the place of one with its key that waits; a FRESH record keeps the greater VALUE (R419). -/
def mirrorMerge (kind : Nat) (old new : List Nat) : List Nat :=
  if kind = 3 then [new.getD 0 0, max (old.getD 1 0) (new.getD 1 0)] else new

/-- A record for the twin while the Seam is up: it is sent, or waits in the mirror buffer while 4,096 packets are
unacknowledged (R411, R417, R419). -/
def State.mirror (s : State) (kind : Nat) (values : List Nat) : State :=
  if !s.flag SEAM_STAT SEAM_STAT_UP then s
  else if s.mirrorWait.isEmpty && decide (s.mirrorOut.length < 4096) then s.mirrorSend kind values
  else if s.mirrorWait.any (fun r => mirrorKey r.1 r.2 == mirrorKey kind values) then
    { s with mirrorWait := s.mirrorWait.map (fun r =>
        if mirrorKey r.1 r.2 = mirrorKey kind values then (kind, mirrorMerge kind r.2 values) else r) }
  else if kind = 1 ∧ 121848 ≤ (s.mirrorWait.filter (fun r => r.1 == 1)).length then
    (s.count (SEAM_CNTc 5)).setFld SEAM_EVT SEAM_EVT_MIRROR_DROP 1
  else { s with mirrorWait := s.mirrorWait ++ [(kind, values)] }

/-- Take the next free value. -/
def State.takeFree (s : State) : Nat × State := (Config.free s.freeCtr, { s with freeCtr := s.freeCtr + 1 })

/-! ### Node state (R446) -/

/-- Change the node state, with STATE_SINCE and one event-log record (R446); RUN is noted the first time (R535). -/
def State.setNode (s : State) (n : NodeState) : State :=
  if s.node = n then s
  else State.log { s with node := n, nodeSince := s.mer, runAt := if n = .run ∧ s.runAt.isNone then some s.mer else s.runAt }
    446 0 [s.node.code, n.code]

/-- A SAFE entry: from any state but INIT (R446). -/
def State.enterSafe (s : State) : State := if s.node = .init then s else s.setNode .safe

/-! ### Interrupts (R483, R484) -/

/-- The interrupt source an event register drives, with the mask of its event bits (R475, R483). -/
def irqSource (a : Nat) : Option Nat :=
  if a = SYS_HOSTERR then some 0
  else if 0x4000 ≤ a ∧ a < 0x8000 ∧ a % 64 = 44 then some 14
  else if a = PACE_EVT then some 1
  else if a = TIME_EVT then some 2
  else if 0x41000 ≤ a ∧ a < 0x45000 ∧ a % 256 = 0x38 then some 3
  else if 0x46000 ≤ a ∧ a < 0x47000 ∧ a % 256 = 0x18 then some 3
  else if 0x47000 ≤ a ∧ a < 0x47200 ∧ a % 256 = 0x38 then some 3
  else if 0x81000 ≤ a ∧ a < 0xC1000 ∧ a % 64 = 0x38 then some 4
  else if a = PANEL_STEVT then some 5
  else if 0x300000 ≤ a ∧ a < 0x310000 ∧ a % 64 = 8 then some 6
  else if a = CORE_EVT then some 7
  else if a = CORE_TBLEVT then some 7
  else if 0x7000000 ≤ a ∧ a < 0x7080000 ∧ a % 128 = 88 then some 7
  else if a = CIPH_EVT then some 8
  else if a = SEAM_EVT then some 9
  else if a = THIM_MBEVT then some 10
  else if a = THIM_EVT then some 10
  else if a = OBS_EVT then some 11
  else if a = ECC_EVT then some 12
  else if a = BRDG_STAT then some 13
  else none

/-- The word has an event bit set that drives a source. -/
def irqWord (a : Nat) (w : Word) : Bool :=
  if a = BRDG_STAT then getB w BRDG_STAT_ERR
  else if a = SYS_HOSTERR then bits w.toNat 9 0 != 0
  else w != 0

/-- One word's share of the levels. -/
def irqBit (p : Nat × Word) : Nat :=
  match irqSource p.1 with
  | some i => if irqWord p.1 p.2 then 2 ^ i else 0
  | none => 0

/-- The levels of the fifteen sources as bits (R483). -/
def State.irqLevel (s : State) : Nat := s.regs.foldl (fun m p => m ||| irqBit p) 0

/-- Level AND SYS_IRQ_EN, bit by bit (R484). -/
def State.irqNow (s : State) : Nat := s.irqLevel &&& s.fld SYS_IRQ_EN SYS_IRQ_EN_EN

/-- MSI-X vector control words are masked after reset, as the PCI Express specification has it (R485). -/
def msixReset (k : Nat) : Word := if k % 4 = 3 then 1 else 0

/-- The vector is masked in the MSI-X table. -/
def State.msixMasked (s : State) (v : Nat) : Bool :=
  (Sparse.get msixReset s.msixTable (4 * v + 3)).getLsbD 0

/-- Send a message, or set its pending bit while its vector is masked (R484). -/
def State.sendMsix (s : State) (v : Nat) : State :=
  if s.msixMasked v then { s with msixPend := s.msixPend ||| 2 ^ v } else s.emitOut (.msix v)

/-- Messages of the sources named by the bits of m, lowest source first (R484). -/
def State.sendSources (s : State) (m : Nat) : State :=
  (List.range 15).foldl (fun t i => if m.testBit i then t.sendMsix i else t) s

/-- What every command ends with, from the state s before it and what its effect t leaves: messages for the sources whose
(level AND enable) rose (R484); the queue of waiting commands is as before. -/
def settle (s t : State) : State :=
  { t.sendSources ((t.irqNow ^^^ s.irqPrev) &&& t.irqNow) with irqPrev := t.irqNow, pending := s.pending }

/-- A command whose effect on s is t goes on. -/
def finish (s t : State) : Host.Outcome State Fault Refusal := .next (settle s t)

/-! ### Register writes under the type rules (R12, R13, R480) -/

/-- The LOCK that covers a byte address: its register and field, under R480. -/
def lockOf (a : Nat) : Option (Nat × Fld) :=
  if a < 0x4000 then none
  else if a < 0x8000 then some (SYS_CTRL, SYS_CTRL_LOCK)
  else if a < 0x10000 then none
  else if a < 0x20000 then some (PACE_CTRL, PACE_CTRL_LOCK)
  else if a < 0x40000 then some (TIME_CTRL, TIME_CTRL_LOCK)
  else if a < 0x80000 then some (LOOM_GCTRL, LOOM_GCTRL_LOCK)
  else if a < 0x100000 then some (VBUS_GCTRL, VBUS_GCTRL_LOCK)
  else if a < 0x300000 then some (PANEL_STCTRL, PANEL_STCTRL_LOCK)
  else if a < 0x340000 then some (PORT_GCTRL, PORT_GCTRL_LOCK)
  else if a < 0x360000 then some (CORE_CTRL, CORE_CTRL_LOCK)
  else if a < 0x380000 then some (CORE_TBLCTRL, CORE_TBLCTRL_LOCK)
  else if a < 0x3C0000 then some (CIPH_CTRL, CIPH_CTRL_LOCK)
  else if a < 0x400000 then some (KEYS_CTRL, KEYS_CTRL_LOCK)
  else if a < 0x440000 then some (SEAM_CTRL, SEAM_CTRL_LOCK)
  else if a < 0x480000 then some (THIM_CTRL, THIM_CTRL_LOCK)
  else if a < 0x4C0000 then some (OBS_CTRL, OBS_CTRL_LOCK)
  else if a < 0x500000 then some (ECC_CTRL, ECC_CTRL_LOCK)
  else if a < 0x540000 then some (BRDG_CTRL, BRDG_CTRL_LOCK)
  else if a < 0x1000000 then none
  else some (CORE_TBLCTRL, CORE_TBLCTRL_LOCK)

/-- The block of a byte address is locked. -/
def State.locked (s : State) (a : Nat) : Bool :=
  match lockOf a with
  | some (r, f) => s.flag r f
  | none => false

/-- One field of a written word under its type (R12). -/
def writeField (locked : Bool) (new old : Word) (d : FieldDesc) : Word :=
  match d.ty with
  | .rw => setF old d.fld (getF new d.fld)
  | .rwl => if locked then old else setF old d.fld (getF new d.fld)
  | .w1c => setF old d.fld (getF (old &&& ~~~new) d.fld)
  | .w1s => setF old d.fld (getF (old ||| new) d.fld)
  | .ro => old
  | .rc => old
  | .wo => old

/-- The word a write leaves under the type rules. -/
def writeWord (locked : Bool) (d : RegDesc) (old new : Word) : Word :=
  d.fields.foldl (fun w f => writeField locked new w f) old

/-- Some locked field would change (R480). -/
def lockRefuses (d : RegDesc) (old new : Word) : Bool :=
  d.fields.any (fun f => f.ty = .rwl && getF new f.fld != getF old f.fld)

/-- The number of an interface in SYS_HOSTERR.IFACE (R478, R501). -/
def ifaceNum : Iface → Nat
  | .pcie => 0
  | .spi => 1
  | .thimble => 2
  | .twin => 3

/-- Set a bit of SYS_HOSTERR; the first to be set while all are 0 latches its access (R476). -/
def State.hostErr (s : State) (f : Fld) (i : Iface) (a : Nat) : State :=
  if bits (s.rd SYS_HOSTERR).toNat 9 0 = 0 then
    ((s.setFld SYS_HOSTERR SYS_HOSTERR_IFACE (ifaceNum i)).setFld SYS_HOSTERR f 1).wr SYS_HOSTERR_ADDR (BitVec.ofNat 32 a)
  else s.setFld SYS_HOSTERR f 1

/-- A write of one register word under its field types and its block's lock, without the effects
the register's own rule gives it (R12, R13, R476, R480). -/
def State.typedWrite (s : State) (i : Iface) (a : Nat) (w : Word) : State :=
  match regDesc? a with
  | none => s.hostErr SYS_HOSTERR_UNMAPPED i a
  | some d =>
    let t := s.wr a (writeWord (s.locked a) d (s.rd a) w)
    if s.locked a && lockRefuses d (s.rd a) w then t.hostErr SYS_HOSTERR_LOCKED i a else t

/-- Register accesses over PCIe and SPI reach the device once Thimble boot is complete; the
Thimble's own and the twin's reach it then too (R601, R603). -/
def State.hostAccess (s : State) (t : State) : State := if s.hostUp then t else s

/-- The boot ROM found no image that passes, and serves only the mailboxes and the registers of the Thimble (R534). -/
def State.recovering (s : State) : Bool := s.fld THIM_STAT THIM_STAT_UPD == 3

/-- The same for the Thimble's own registers, which are served in recovery too (R529, R534). -/
def State.thimAccess (s : State) (t : State) : State := if s.hostUp || s.recovering then t else s

/-! ### Units by number -/

def State.mon (s : State) (n : Nat) : MonSt := Sparse.get (fun _ => MonSt.reset) s.mons n
def State.setMon (s : State) (n : Nat) (m : MonSt) : State :=
  { s with mons := Sparse.set (fun _ => MonSt.reset) s.mons n m }
def State.gov (s : State) (d : Nat) : GovSt := Sparse.get (fun _ => GovSt.reset) s.govs d
def State.setGov (s : State) (d : Nat) (g : GovSt) : State :=
  { s with govs := Sparse.set (fun _ => GovSt.reset) s.govs d g }

def State.lane (s : State) (n : Nat) : LaneSt := Sparse.get (fun _ => LaneSt.reset) s.lanes n
def State.setLane (s : State) (n : Nat) (x : LaneSt) : State :=
  { s with lanes := Sparse.set (fun _ => LaneSt.reset) s.lanes n x }

/-- CRC-32 of octets with a reflected polynomial, as R234 computes it: the value before its last inversion. -/
def crcStep (poly c : Nat) : Nat → Nat
  | 0 => c
  | k + 1 => crcStep poly (if c % 2 = 1 then (c / 2) ^^^ poly else c / 2) k

def crcRun (poly init : Nat) (l : List Byte) : Nat :=
  l.foldl (fun c b => crcStep poly (c ^^^ b.toNat) 8) init

/-- The (~crc) value of R234. -/
def crc32 (poly : Nat) (l : List Byte) : Nat := (crcRun poly 0xFFFFFFFF l) ^^^ 0xFFFFFFFF

/-- The lifecycle code of the OTP words (R554). -/
def State.lifecycle (s : State) : Nat :=
  let w (k : Nat) : Word := s.otp.lifecycle.getD k 0
  if (w 3 != 0) || (w 4 != 0) || (w 5 != 0) || (w 6 != 0) || (w 7 != 0) then 4
  else if w 2 != 0 then 3
  else if w 1 != 0 then 2
  else if w 0 != 0 then 1
  else 0

/-- The role public key of the ruling anchored generation: 1 Operator, 2 Integrator, 3 Vendor; none
where it is all 0 (R518, R519). -/
def State.roleKey (s : State) (r : Nat) : Option (List Byte) :=
  match s.anchor with
  | none => none
  | some g =>
    let k := slice g (296 + 96 * (r - 1)) 96
    if beNat k = 0 then none else some k

end Sys2Proof.Machine
end

