-- ==== Sys2Proof/Machine/Reset.lean ====
section
/-! DEFINITION. Resets, device wake and the observation level in force: spec/17 R546 to R550, spec/19 R600 to R603. -/

namespace Sys2Proof.Machine

/-! ### Resets (R14, R549, R600) -/

/-- Copy one word of s into t. -/
def State.keepWord (t s : State) (a : Nat) : State := t.wr a (s.rd a)

/-- Copy one field of s into t. -/
def State.keepFld (t s : State) (a : Nat) (f : Fld) : State := t.setFld a f (s.fld a f)

/-- What every reset keeps: MRAM and OTP, with the flaws of MRAM, the place of the event log in it, the state of the balls,
and the model's own fields. -/
def State.blankPart (s : State) : State :=
  let r : State := State.reset
  let th : ThimSt := { r.th with imgBanks := s.th.imgBanks, bankSels := s.th.bankSels, bootTries := s.th.bootTries,
                                 setAreas := s.th.setAreas, logRing := s.th.logRing }
  let pw : PowerSt := { r.pw with wakeHigh := s.pw.wakeHigh, straps := s.pw.straps }
  let mram (k : Nat) : Bool := k / 2 ^ 32 == 5
  State.keepWord { r with
    th := th
    pw := pw
    hs := { r.hs with perst := s.hs.perst }
    keyMram := s.keyMram
    otp := s.otp
    flaws := s.flaws.filter (fun p => mram p.1)
    poison := s.poison.filter (fun p => mram p.1)
    refBad := s.refBad
    out := s.out
    pending := s.pending
    freeCtr := s.freeCtr } s THIM_LOGSEQ

/-- The node enters INIT with one record of the change (R446). -/
def State.intoInit (t s : State) : State := if s.node = .init then t else t.log 446 0 [s.node.code, 0]

/-- PORST_N low: every reset value (R600). -/
def State.powerReset (s : State) : State := s.blankPart.intoInit s

/-- The effects of RST_N, with the cause SYS_BOOT shows: every reset value but what R549 keeps, the time PLL, what only a
power-on reset clears (R399, R507) and SAFE (R446). -/
def State.deviceReset (s : State) (cause : Nat) : State :=
  let t := s.blankPart
  let t := ((t.keepWord s SYS_PWR_CAUSE).keepFld s SYS_PWR_STAT SYS_PWR_STAT_FW_CNT).keepFld s SYS_PWR_STAT SYS_PWR_STAT_SUPP
  let t := (t.keepFld s CIPH_STAT CIPH_STAT_TAMPER).setFld SYS_BOOT SYS_BOOT_CAUSE cause
  let t := t.setFlag TIME_STAT TIME_STAT_PLL_LOCK s.pw.pll
  let pw : PowerSt := { t.pw with pll := s.pw.pll, judge := s.pw.judge }
  let t : State := { t with pw := pw, tamperAlarm := s.tamperAlarm, safeAlarm := s.safeAlarm }
  if s.node = .safe then { t with node := .safe, nodeUnder := s.nodeUnder } else t.intoInit s

/-! ### The power state (R539, R546 to R550) -/

/-- SYS_PWR_STAT.STATE: 0 ACTIVE, 1 DROWSY, 2 STANDBY, 3 SLEEP. -/
def State.powerState (s : State) : Nat := s.fld SYS_PWR_STAT SYS_PWR_STAT_STATE

/-- A port, PLCA channel or virtual bus may be enabled: not in STANDBY (R544), and never in SCRAPPED (R559). -/
def State.mayRun (s : State) : Bool := s.lifecycle != 4 && s.powerState != 2

/-- The wake configuration that rules: the wake block's copy in SLEEP (R545). -/
def State.wakeWord (s : State) (a : Nat) : Word :=
  if s.powerState = 3 then Sparse.get regReset s.pw.wakeRegs a else s.rd a

/-- Channel c is a device wake source (R546). -/
def State.loomSource (s : State) (c : Nat) : Bool :=
  getB (s.wakeWord SYS_PWR_WAKE) SYS_PWR_WAKE_LOOM &&
    (s.wakeWord (if c < 32 then SYS_PWR_LOOMSRC0 else SYS_PWR_LOOMSRC1)).getLsbD (c % 32)

/-- Source of code `code` takes part; REQUEST always does (R546). -/
def State.wakeOn (s : State) (code : Nat) : Bool :=
  code == 7 || (s.wakeWord SYS_PWR_WAKE).getLsbD (32 - code)

/-- The device is in, or on its way into, a state that a wake leaves. -/
def State.wakeable (s : State) : Bool := s.pw.entering.isSome || decide (2 ≤ s.powerState)

/-- FW_CNT and, with `supp`, suppression are cleared (R550). -/
def State.clearFalse (s : State) (supp : Bool) : State :=
  let t := s.setFld SYS_PWR_STAT SYS_PWR_STAT_FW_CNT 0
  if supp then t.setFld SYS_PWR_STAT SYS_PWR_STAT_SUPP 0 else t

/-- The pending network wake is valid (R550). -/
def State.wakeValid (s : State) : State :=
  match s.pw.judge with
  | some _ => State.clearFalse { s with pw := { s.pw with judge := none } } false
  | none => s

/-- The judgement a wake starts: a network wake in the counting regime waits to be valid; every other wake is valid at
once, and a PIN wake also ends suppression (R550, R551). -/
def State.startJudge (s : State) (code chan : Nat) : State :=
  if 4 ≤ code then State.clearFalse { s with pw := { s.pw with judge := none } } (code == 4)
  else if getF (s.wakeWord SYS_PWR_WAKE) SYS_PWR_WAKE_FW_WIN ≠ 0 ∧ !s.flag SYS_PWR_STAT SYS_PWR_STAT_FILTER then
    { s with pw := { s.pw with judge := some { code := code, chan := chan, was := s.powerState, test := s.pw.test } } }
  else s

/-- Exit begins from STANDBY (R548), or the device reset that leaves SLEEP (R549), with one record of FIRST and the bits
set (R547). -/
def State.exitStart (s : State) (code chan : Nat) : State :=
  let t := s.startJudge code chan
  let t := if s.powerState = 3 then State.deviceReset { t with node := s.pw.slept.getD .init } 3
    else State.setFld { t with pw := { t.pw with exiting := true, readyAt := none } } SYS_PWR_STAT SYS_PWR_STAT_TRANS 1
  t.log 547 0 [t.fld SYS_PWR_CAUSE SYS_PWR_CAUSE_FIRST, t.fld SYS_PWR_CAUSE SYS_PWR_CAUSE_SRC]

/-- The boot that ends an exit from SLEEP is in progress (R549). -/
def State.wakeBoot (s : State) : Bool :=
  s.fld SYS_BOOT SYS_BOOT_CAUSE == 3 && decide (s.pw.boot < 5) && s.powerState != 3

/-- A wake of a source that takes part (R546, R547): its bit and FIRST; it begins the exit, or is latched while an entry
runs. During an exit it sets its bit alone. -/
def State.deviceWake (s : State) (code chan : Nat) : State :=
  if s.wakeBoot then s.setFld SYS_PWR_CAUSE SYS_PWR_CAUSE_SRC (s.fld SYS_PWR_CAUSE SYS_PWR_CAUSE_SRC ||| 2 ^ (code - 1))
  else if !s.wakeable || (decide (code ≤ 3) && s.flag SYS_PWR_STAT SYS_PWR_STAT_SUPP) then s
  else
    let t := s.setFld SYS_PWR_CAUSE SYS_PWR_CAUSE_SRC (s.fld SYS_PWR_CAUSE SYS_PWR_CAUSE_SRC ||| 2 ^ (code - 1))
    let t := match s.pw.firstAt with
      | none => State.setFld { t with pw := { t.pw with firstAt := some s.mer } } SYS_PWR_CAUSE SYS_PWR_CAUSE_FIRST code
      | some a => if a = s.mer then t.setFld SYS_PWR_CAUSE SYS_PWR_CAUSE_FIRST (min code (s.fld SYS_PWR_CAUSE SYS_PWR_CAUSE_FIRST)) else t
    if s.pw.exiting then t
    else if s.pw.entering.isSome then { t with pw := { t.pw with wake := some (s.pw.wake.getD (code, chan)) } }
    else t.exitStart code chan

end Sys2Proof.Machine
end

