-- ==== Sys2Proof/Machine/Time.lean ====
section
/-! DEFINITION. Meridian, datums, tenant time, the farm-time servo and time-stamps: spec/03. -/

namespace Sys2Proof.Machine

/-! ### Datums and views (R77 to R94) -/

def State.datum (s : State) (d : Nat) : DatumSt := Sparse.get (fun _ => DatumSt.reset) s.datums d
def State.setDatum (s : State) (d : Nat) (x : DatumSt) : State :=
  { s with datums := Sparse.set (fun _ => DatumSt.reset) s.datums d x }

/-- The view of a record at Meridian value m (R78). -/
def DatumRec.view (r : DatumRec) (m : Nat) : Nat :=
  (r.offset + (((m - r.anchor) * r.rate) >>> 40)) % 2 ^ 64

/-- The record a pending record becomes at its E (R79, R82). -/
def DatumSt.next (x : DatumSt) (p : DatumPend) : DatumRec :=
  { anchor := p.eff, offset := if p.step then p.offset else x.act.view p.eff, rate := p.rate }

/-- The taken-over record in force at m: the newest whose anchor m has reached (R79). -/
def DatumSt.settled (x : DatumSt) (m : Nat) : DatumRec :=
  ((x.act :: x.past).find? (fun r => decide (r.anchor ≤ m))).getD x.act

/-- The record in force at m (R79). -/
def DatumSt.inForce (x : DatumSt) (m : Nat) : DatumRec :=
  match x.pend with
  | some p => if p.eff ≤ m then x.next p else x.settled m
  | none => x.settled m

/-- The view of datum d at Meridian value m (R78, R79). -/
def State.viewAt (s : State) (d m : Nat) : Nat := ((s.datum d).inForce m).view m

/-- The view of datum d now. -/
def State.viewNow (s : State) (d : Nat) : Nat := s.viewAt d s.mer

/-- Tenant time t is at least view v in the modular sense of R87. -/
def reached (v t : Nat) : Bool := !((t + 2 ^ 64 - v % 2 ^ 64) % 2 ^ 64 < 2 ^ 63) || t % 2 ^ 64 == v % 2 ^ 64

/-- The tick at which a record's view first reaches t, for a t it has not reached (R87). -/
def DatumRec.tickOf (r : DatumRec) (t : Nat) : Nat :=
  r.anchor + ((((t + (2 ^ 64 - r.offset % 2 ^ 64)) % 2 ^ 64) <<< 40) + r.rate - 1) / r.rate

/-- The tick at which the view first reached a tenant time that it has reached: within a record, or at the start of a
record that stepped past it; `past`, the records before it, newest first (R87 to R89). -/
def crossTick (t : Nat) : DatumRec → List DatumRec → Nat
  | r, [] => if reached r.offset t then r.anchor else r.tickOf t
  | r, p :: past =>
    if !reached r.offset t then r.tickOf t
    else if 0 < r.anchor ∧ reached (p.view (r.anchor - 1)) t then crossTick t p past
    else r.anchor

/-- The tick at which an action due at tenant time t on datum d occurs; now, when the view has
reached it already (R87). -/
def State.dueTick (s : State) (d t : Nat) : Nat :=
  let x := s.datum d
  if reached (s.viewNow d) t then s.mer
  else
    let r := x.inForce s.mer
    let m := r.tickOf t
    match x.pend with
    | some p =>
      if s.mer < p.eff ∧ p.eff ≤ m then
        (if reached ((x.next p).view p.eff) t then p.eff else (x.next p).tickOf t)
      else m
    | none => m

/-- The lead that a change needs (R83). -/
def State.datumLead (s : State) : Nat := if s.flag SEAM_STAT SEAM_STAT_UP then 60000 else 4000

/-- A paired twin refuses configuration writes while it reconciles (R436), and twin B while the Seam is not up and it
is not the authority (R85, R434). -/
def State.refusesConfig (s : State) : Bool :=
  s.flag SEAM_CTRL SEAM_CTRL_EN && (s.fld SEAM_STAT SEAM_STAT_STATE == 5 ||
    (s.flag SEAM_STAT SEAM_STAT_ROLE && !s.flag SEAM_STAT SEAM_STAT_UP && !s.flag SEAM_STAT SEAM_STAT_AUTH))

/-- Twin B sends its requests to twin A while the Seam is up (R422, R434). -/
def State.viaTwin (s : State) : Bool :=
  s.flag SEAM_CTRL SEAM_CTRL_EN && s.flag SEAM_STAT SEAM_STAT_ROLE && s.flag SEAM_STAT SEAM_STAT_UP

/-- What a datum request names: datum, E, step mode, OFFSET, RATE. -/
structure DatumReq where
  d : Nat
  eff : Nat
  step : Bool
  offset : Nat
  rate : Nat
  deriving DecidableEq, Repr

/-- The request of each source (R82, R94, R107). -/
def State.datumReq (s : State) : DatumSrc → DatumReq
  | .regs _ =>
    { d := s.fld TIME_DSEL TIME_DSEL_DATUM, eff := s.rd64 TIME_DEFF_LO, step := s.flag TIME_DSEL TIME_DSEL_MODE,
      offset := s.rd64 TIME_DOFF_LO,
      rate := (s.rd TIME_DRATE_LO).toNat + 2 ^ 32 * s.fld TIME_DRATE_HI TIME_DRATE_HI_RATE }
  | .dict k d =>
    let g := Sparse.get (fun _ => DatumStage.reset) s.datumStage (2048 * k + d)
    { d := d, eff := g.eff, step := g.step, offset := g.offset, rate := g.rate }
  | .servo e st o r => { d := 1024, eff := e, step := st, offset := o, rate := r }

/-- The applied rate of a following datum (R94). -/
def followRate (nominal r0 : Nat) : Nat := max 1 (min ((nominal * r0) >>> 40) (2 ^ 48 - 1))

/-- Check 2 of R638: the requester may change the datum. -/
def State.datumMay (s : State) (src : DatumSrc) (q : DatumReq) (commit : Bool) : Bool :=
  match src with
  | .servo .. => !s.refusesConfig
  | .regs _ =>
    !s.refusesConfig && !((s.datum q.d).follow && q.d < 1024) &&
      !(q.d == 1024 && (s.servo.mode == 1 || (commit && (s.servo.mode == 2 || s.servo.mode == 3) && !q.step)))
  | .dict .. =>
    !s.refusesConfig &&
      !(q.d == 1024 && (s.servo.mode == 1 || (commit && (s.servo.mode == 2 || s.servo.mode == 3) && !q.step)))

/-- The change is the servo's own. -/
def srcIsServo : DatumSrc → Bool
  | .servo .. => true
  | _ => false

/-- The checks of R638 in order, where `may` is the second: the RESULT code 0 done, 1 late, 2 range error, 3 state
error. -/
def State.datumChecks (s : State) (src : DatumSrc) (q : DatumReq) (commit may : Bool) : Nat :=
  if 1031 < q.d then 2
  else if !may then 3
  else if commit && (q.rate == 0 || (q.d == 1024 && s.servo.mode == 3 && q.step && !srcIsServo src && q.offset % 2000000000 != 0)) then 2
  else if (match (s.datum q.d).pend with | some p => decide (p.eff < s.mer + s.datumLead) | none => false) then 1
  else if commit && (decide (q.eff < s.mer + s.datumLead) || decide (s.mer + 2 ^ 44 < q.eff)) then 1
  else 0

/-- The judgement of R638. -/
def State.datumJudge (s : State) (src : DatumSrc) (q : DatumReq) (commit : Bool) : Nat :=
  s.datumChecks src q commit (s.datumMay src q commit)

/-- What this Zalore judges itself: all of R638, or on a twin B that asks twin A only the second check, which depends on
who asks and for which the record to twin A has no place. DESIGN CHOICE (log entry 132). -/
def State.datumFirst (s : State) (src : DatumSrc) (q : DatumReq) (commit : Bool) : Nat :=
  if s.viaTwin then (if q.d ≤ 1031 ∧ !s.datumMay src q commit then 3 else 0) else s.datumJudge src q commit

/-- Put a pending record in place, with its mirror to the twin: the values of a DATUM record are its datum, E, RATE,
OFFSET and octet 1, of which bit 2 is REQUEST, bit 1 CANCEL and bit 0 MODE (R79, R417). RATE is the rate requested, from which the twin makes
the applied rate of a following datum as this one does. DESIGN CHOICE (log entry 132). -/
def State.putPending (s : State) (d : Nat) (p : DatumPend) (asked : Nat) : State :=
  let t := s.setDatum d { s.datum d with pend := some p }
  t.mirror 2 [d, p.eff, asked, p.offset, bit p.step]

/-- The continuous changes that follow an accepted change of system datum 0 (R94). Each is judged as any change is: where
the follower's own pending record is too near, that one takes effect unchanged (R84). -/
def State.followUpdate (s : State) (eff r0 : Nat) : State :=
  s.datums.foldl (fun t p =>
    if p.2.follow && decide (p.1 < 1024) && !s.th.restricted then
      let raw := (p.2.nominal * r0) >>> 40
      let q : DatumReq := { d := p.1, eff := eff, step := false, offset := 0, rate := p.2.nominal }
      if t.datumChecks (.dict 0 p.1) q true true ≠ 0 then t.setFld TIME_EVT TIME_EVT_LATE 1
      else
        let t := if raw = 0 ∨ 2 ^ 48 ≤ raw then t.log 94 p.1 [p.2.nominal] else t
        t.putPending p.1 { eff := eff, step := false, rate := followRate p.2.nominal r0, offset := 0 } p.2.nominal
    else t) s

/-- An accepted change becomes the pending record (R79, R84, R94). -/
def State.datumAccept (s : State) (q : DatumReq) : State :=
  let x := s.datum q.d
  let s := s.setDatum q.d { x with nominal := if q.d < 1024 then q.rate else x.nominal }
  let r0 := ((s.datum 1024).inForce q.eff).rate
  let follows := x.follow && decide (q.d < 1024)
  let rate := if follows then followRate q.rate r0 else q.rate
  let s := if follows && rate != (q.rate * r0) >>> 40 then s.log 94 q.d [q.rate] else s
  let rate := if q.d = 1024 ∧ s.servo.mode = 2 then 2 ^ 40 else rate
  let t := s.putPending q.d { eff := q.eff, step := q.step, rate := rate, offset := q.offset } (if follows then q.rate else rate)
  if q.d = 1024 then t.followUpdate q.eff rate else t

/-- The result of a request: RESULT and BUSY of TIME_DCMD for the registers; LATE (R638). -/
def State.datumResult (s : State) (src : DatumSrc) (r : Nat) : State :=
  let s := if r = 1 then s.setFld TIME_EVT TIME_EVT_LATE 1 else s
  match src with
  | .regs _ => (s.setFld TIME_DCMD TIME_DCMD_RESULT r).setFld TIME_DCMD TIME_DCMD_BUSY 1
  | _ => s

/-- A register command while BUSY is 1 is ignored. -/
def State.datumReady (s : State) : DatumSrc → Bool
  | .regs _ => s.hostUp && !s.flag TIME_DCMD TIME_DCMD_BUSY
  | _ => true

/-- A request goes to twin A: octet 1 of its record is REQUEST with CANCEL and MODE (R417, R422). -/
def State.datumForward (s : State) (q : DatumReq) (f : Nat) : State :=
  State.mirror { s with datumAsk := s.datumAsk ++ [q.d] } 2 [q.d, q.eff, q.rate, q.offset, f]

/-- DATUM_COMMIT (R82 to R85, R638; twin B sends the request to twin A, R422). -/
def State.datumCommitOp (s : State) (src : DatumSrc) : State :=
  if !s.datumReady src then s
  else
    let q := s.datumReq src
    let r := s.datumFirst src q true
    if s.viaTwin then (if r = 0 then s.datumForward q (4 + bit q.step) else s).datumResult src r
    else
      let t := if r = 0 then s.datumAccept q else s
      let t := if r = 0 && decide (q.d = 1024) && decide (s.servo.mode = 3) && q.step && !srcIsServo src then
          { t with servo := { t.servo with realign := some (q.eff, q.offset) } } else t
      t.datumResult src r

/-- DATUM_CANCEL (R84, R638). DESIGN CHOICE (log entry 132): the cancelling of a change of system datum 0 leaves the
pending records that followed from it as they are. -/
def State.datumCancelOp (s : State) (src : DatumSrc) : State :=
  if !s.datumReady src then s
  else
    let q := s.datumReq src
    let r := s.datumFirst src q false
    if s.viaTwin then (if r = 0 then s.datumForward q 6 else s).datumResult src r
    else
      let t := if r = 0 ∧ (s.datum q.d).pend.isSome then (s.setDatum q.d { s.datum q.d with pend := none }).mirror 2 [q.d, q.eff, q.rate, q.offset, 2] else s
      t.datumResult src r

/-- DATUM_FETCH (R638, TIME_DCMD): the pending record into the staging registers. -/
def State.datumFetchOp (s : State) (_i : Iface) : State :=
  if !s.hostUp || s.flag TIME_DCMD TIME_DCMD_BUSY then s
  else
    let d := s.fld TIME_DSEL TIME_DSEL_DATUM
    if 1031 < d then s.setFld TIME_DCMD TIME_DCMD_RESULT 2
    else
      match (s.datum d).pend with
      | none => s.setFld TIME_DCMD TIME_DCMD_RESULT 3
      | some p =>
        let t := s.setFlag TIME_DSEL TIME_DSEL_MODE p.step
        let t := t.wr64 TIME_DEFF_LO p.eff
        let t := t.wr TIME_DRATE_LO (BitVec.ofNat 32 p.rate)
        let t := t.setFld TIME_DRATE_HI TIME_DRATE_HI_RATE (p.rate / 2 ^ 32)
        let t := t.wr64 TIME_DOFF_LO ((s.datum d).next p).offset
        t.setFld TIME_DCMD TIME_DCMD_RESULT 0

/-- PENDING_RECORD_EFFECT: at E the pending record becomes the active record (R79, R82). -/
def State.pendingEffectOp (s : State) (d : Nat) : State :=
  let x := s.datum d
  match x.pend with
  | none => s
  | some p =>
    if s.mer < p.eff then s
    else
      let t := s.setDatum d { x with act := x.next p, past := x.act :: x.past, pend := none, gen := (x.gen + 1) % 2 ^ 16 }
      if p.step then
        (t.setFld TIME_EVT TIME_EVT_STEP 1).log 82 d [p.eff, x.act.view p.eff, p.offset]
      else t

/-! ### Reads that sample and latch (R74, R78, R98) -/

/-- Key of a word latched for an interface (R478). -/
def latKey (i : Iface) (a : Nat) : Nat := 2 ^ 32 * ifaceNum i + a

/-- The word an interface has latched; 0 before it has latched any (R478). -/
def State.latched (s : State) (i : Iface) (a : Nat) : Word := Sparse.get (fun _ => 0) s.lat (latKey i a)

def State.latch (s : State) (i : Iface) (a : Nat) (w : Word) : State :=
  { s with lat := Sparse.set (fun _ => 0) s.lat (latKey i a) w }

/-- The answer of a read leaves through its interface. -/
def State.answer (s : State) (i : Iface) (a : Nat) (w : Word) : State := s.emitOut (.readData i a w)

/-- MERIDIAN_READ (R74). -/
def State.meridianReadOp (s : State) (i : Iface) : State :=
  s.hostAccess ((s.latch i TIME_MER_HI (BitVec.ofNat 32 (s.mer / 2 ^ 32))).answer i TIME_MER_LO (BitVec.ofNat 32 s.mer))

/-- VIEW_READ (R78): values of TIME_VSEL above 1031 read a view of 0. -/
def State.viewReadOp (s : State) (i : Iface) : State :=
  let d := s.fld TIME_VSEL TIME_VSEL_DATUM
  let v := if 1031 < d then 0 else s.viewNow d
  s.hostAccess ((((s.latch i TIME_VIEW_HI (BitVec.ofNat 32 (v / 2 ^ 32))).latch i TIME_VMER_LO
    (BitVec.ofNat 32 s.mer)).latch i TIME_VMER_HI (BitVec.ofNat 32 (s.mer / 2 ^ 32))).answer i TIME_VIEW_LO
    (BitVec.ofNat 32 v))

/-- The words +0x04 to +0x18 of a datum's active record (TIME_DATd). -/
def State.datumWord (s : State) (d k : Nat) : Word :=
  let x := s.datum d
  BitVec.ofNat 32
    (match k with
     | 0 => x.act.anchor
     | 1 => x.act.anchor / 2 ^ 32
     | 2 => x.act.offset
     | 3 => x.act.offset / 2 ^ 32
     | 4 => x.act.rate
     | 5 => bits x.act.rate 47 32 + 2 ^ 31 * bit x.pend.isSome +
              2 ^ 30 * (match x.pend with | some p => bit p.step | none => 0)
     | 6 => x.gen
     | _ => 0)

/-- DATUM_SNAPSHOT_READ: one snapshot for each interface, held at the words of datum 0 with the
datum's number + 1 beside it (R78). -/
def State.datumSnapshotOp (s : State) (i : Iface) (d : Nat) : State :=
  let t := (List.range 6).foldl (fun t k => t.latch i (TIME_DATd 0 + 4 * (k + 1)) (s.datumWord d (k + 1))) s
  s.hostAccess ((t.latch i (TIME_DATd 0) (BitVec.ofNat 32 (d + 1))).answer i (TIME_DATd d) (s.datumWord d 0))

/-- PPSI_STAMP_READ (R98). -/
def State.ppsiReadOp (s : State) (i : Iface) : State :=
  s.hostAccess ((s.latch i TIME_PPSI_HI (s.rd TIME_PPSI_HI)).answer i TIME_PPSI_LO (s.rd TIME_PPSI_LO))

/-! ### Lanes of an enabled port (R37, R108, R115) -/

/-- Lanes of a LANES code (R108). -/
def lanesOf (c : Nat) : Nat := if c < 4 then 2 ^ c else 1

def State.portLanes (s : State) (n : Nat) : Nat := lanesOf (s.fld (PORT_CFGn n) PORT_CFGn_LANES)

def State.portEn (s : State) (n : Nat) : Bool := s.flag (PORT_CFGn n) PORT_CFGn_EN
def State.portStopped (s : State) (n : Nat) : Bool := s.flag (PORT_STATn n) PORT_STATn_STOPPED

/-- Enabled or stopping: running under R37. -/
def State.portRuns (s : State) (n : Nat) : Bool := s.portEn n || !s.portStopped n

/-- The running port that holds a lane. -/
def State.laneHolder (s : State) (l : Nat) : Option Nat :=
  [l, l - l % 2, l - l % 4, l - l % 8].find? (fun m => s.portRuns m && decide (l < m + s.portLanes m))

/-- The register page of an upper lane of an enabled port reads 0 and ignores writes (R115). -/
def State.portShadowed (s : State) (n : Nat) : Bool :=
  match s.laneHolder n with
  | some m => m != n && s.portEn m
  | none => false

/-! ### Transmit time-stamp queues (R100 to R106, R171) -/

/-- Head word and status word of a unit's queue: ports 0–1023, LCn 1,024 + n, PCm 1,088 + m. -/
def tsqAddr (u : Nat) : Nat :=
  if u < 1024 then TIME_TSQn u else if u < 1088 then LCn_TSQ (u - 1024) else PCm_TSQ (u - 1088)
def tsqStat (u : Nat) : Nat :=
  if u < 1024 then TIME_PTSSn u else if u < 1088 then LCn_PTSS (u - 1024) else PCm_PTSS (u - 1088)

def State.tsq (s : State) (u : Nat) : List TsqEntry := Sparse.get (fun _ => []) s.tsqs u

/-- Replace a queue, with FILL of its status word. -/
def State.setTsq (s : State) (u : Nat) (q : List TsqEntry) : State :=
  State.setFld { s with tsqs := Sparse.set (fun _ => []) s.tsqs u q } (tsqStat u) TIME_PTSSn_FILL q.length

/-- x / 8 rounded to the nearest, ties upward (R100). -/
def roundTick (x : Int) : Int := (x + 4) / 8

/-- ts_in of a frame at raw ticks on port n (R100). -/
def State.tsIn (s : State) (n raw : Nat) : Nat :=
  trunc 64 (roundTick (raw * 8 + sext 16 (s.fld (TIME_PASYMn n) TIME_PASYMn_ING_ASYM)))

/-- ts_out of a frame at raw ticks on port n (R100). -/
def State.tsOut (s : State) (n raw : Nat) : Nat :=
  trunc 64 (roundTick (raw * 8 + sext 16 (s.fld (TIME_PASYMn n) TIME_PASYMn_EGR_ASYM)))

/-- The link delay of port n in ticks (R100). -/
def State.linkTicks (s : State) (n : Nat) : Int := roundTick (s.fld (TIME_PLINKn n) TIME_PLINKn_LINK_DLY)

/-- origin: the ingress stamp delivered to a tenant (R100). -/
def State.originOf (s : State) (n tsin : Nat) : Nat := trunc 64 (tsin - s.linkTicks n)

/-- arrival: the egress stamp delivered to a tenant (R100). -/
def State.arrivalOf (s : State) (n tsout : Nat) : Nat := trunc 64 (tsout + s.linkTicks n)

/-- An entry falls due (R103, R104, R106). -/
def State.tsqPut (s : State) (u : Nat) (e : TsqEntry) : State :=
  if (s.tsq u).length < 8 then s.setTsq u (s.tsq u ++ [e])
  else
    let t := (s.setFld (tsqStat u) TIME_PTSSn_OVF 1).bumpSat (tsqStat u) TIME_PTSSn_DROPS
    if u < 1024 then t.setFld TIME_EVT TIME_EVT_TSQ_OVF 1
    else if u < 1088 then t.setFld (LCn_EVT (u - 1024)) LCn_EVT_TSQ_OVF 1
    else t.setFld (PCm_EVT (u - 1088)) PCm_EVT_TSQ_OVF 1

/-- The entry of a requested frame that is discarded after queueing (R104). -/
def State.tsqDiscard (s : State) (u : Nat) (it : Item) : State :=
  match it.tsreq with
  | some (src, k) => s.tsqPut u { disc := true, src := src, ident := k, mer := 0, ten := 0 }
  | none => s

/-- The page of an upper lane of an enabled port reads 0, and a read of it removes nothing (TIME_TSQn). -/
def State.tsqHidden (s : State) (u : Nat) : Bool := decide (u < 1024) && s.portShadowed u

/-- TSQ_HEAD_READ (R105): the oldest entry into the interface's snapshot. -/
def State.tsqReadOp (s : State) (i : Iface) (u : Nat) : State :=
  let a := tsqAddr u
  if s.tsqHidden u then s.hostAccess (s.answer i a 0) else
  match s.tsq u with
  | [] => s.hostAccess (((((s.latch i (a + 4) 0).latch i (a + 8) 0).latch i (a + 12) 0).latch i (a + 16) 0).answer i a 0)
  | e :: rest =>
    let w : Word := BitVec.ofNat 32 (2 ^ 31 + 2 ^ 30 * bit e.disc + 2 ^ 28 * (e.src % 4) + e.ident % 2 ^ 16)
    s.hostAccess (((((((s.setTsq u rest).latch i (a + 4) (BitVec.ofNat 32 e.mer)).latch i (a + 8)
      (BitVec.ofNat 32 (e.mer / 2 ^ 32))).latch i (a + 12) (BitVec.ofNat 32 e.ten)).latch i (a + 16)
      (BitVec.ofNat 32 (e.ten / 2 ^ 32)))).answer i a w)

/-! ### The reference, the servo and pulses (R75, R76, R95 to R99) -/

/-- One event-log record and the event of REFERENCE_LOSS (R75). DESIGN CHOICE (log entry 133): PLL_LOCK stays as it is in
holdover. -/
def State.referenceLossOp (s : State) : State :=
  if s.flag TIME_STAT TIME_STAT_HOLDOVER || !s.flag TIME_STAT TIME_STAT_PLL_LOCK then { s with refBad := true }
  else (State.setFld (State.setFld { s with refBad := true } TIME_STAT TIME_STAT_HOLDOVER 1) TIME_EVT
    TIME_EVT_REFLOSS 1).log 75 0

/-- REFERENCE_RELOCK after 10 ms of a good reference (R75). -/
def State.referenceRelockOp (s : State) : State :=
  if s.flag TIME_STAT TIME_STAT_HOLDOVER then
    (State.setFld (State.setFld { s with refBad := false } TIME_STAT TIME_STAT_HOLDOVER 0) TIME_EVT
      TIME_EVT_REFBACK 1).log 75 1
  else { s with refBad := false }

/-- SEAM_DIFF, signed, in 1/16 ns (R414). -/
def State.seamDiff (s : State) : Int := sext 64 (s.rd64 SEAM_DIFF_LO)

/-- TWIN_DIFF_REMEASURE: a move above 4 ns, which is 64/16 ns, is reported and taken (R76). -/
def State.twinRemeasureOp (s : State) (diff : Int) : State :=
  if !s.flag SEAM_CTRL SEAM_CTRL_EN || !s.flag SEAM_STAT SEAM_STAT_UP then s
  else if 64 < (diff - s.seamDiff).natAbs then
    ((s.wr64 SEAM_DIFF_LO (trunc 64 diff)).setFld TIME_EVT TIME_EVT_TWIN 1).log 76 0 [trunc 64 diff]
  else s

/-- SRV_LOCK with its event (R97). -/
def State.setSrvLock (s : State) (b : Bool) : State :=
  if s.flag TIME_STAT TIME_STAT_SRV_LOCK = b then s
  else (s.setFlag TIME_STAT TIME_STAT_SRV_LOCK b).setFld TIME_EVT TIME_EVT_SRV 1

/-- The servo's E: at least 1 ms ahead, otherwise open (R97; log entry 10). -/
def servoEff (s : State) (free : Nat) : Nat := s.mer + msTicks + free % (2 ^ 44 - msTicks)

/-- The servo's RATE: within ±500 ppm of 1.0, otherwise open (R97; log entry 10). -/
def servoRate (free : Nat) : Nat := 2 ^ 40 - 2 ^ 40 / 2000 + free % (2 * (2 ^ 40 / 2000) + 1)

/-- One measurement of the servo: the run counts, SRV_LOCK, and the change it commits; whether it makes a continuous one
is open (R97; log entry 10). -/
def State.servoMeasure (s : State) (off : Int) : State :=
  if (s.servo.mode ≠ 1 ∧ s.servo.mode ≠ 3) ∨ s.th.restricted then s
  else
    let v := s.servo
    let good := if off.natAbs ≤ 200 then v.good + 1 else 0
    let bad := if 2000 < off.natAbs then v.bad + 1 else 0
    let t : State := { s with servo := { v with measured := true, good := good, bad := bad } }
    let t := if 16 ≤ good then t.setSrvLock true else if 4 ≤ bad then t.setSrvLock false else t
    let (f1, t) := t.takeFree
    let (f2, t) := t.takeFree
    let e := servoEff s f1
    let (f3, t) := t.takeFree
    if !v.measured && decide (msTicks < off.natAbs) then
      t.datumCommitOp (.servo e true (trunc 64 (s.viewAt 1024 e - off)) (servoRate f2))
    else if f3 % 2 = 1 then t.datumCommitOp (.servo e false 0 (servoRate f2))
    else t

/-- A gPTP port: PORT_CFGn.GPTP decides (R95, R96). -/
def State.gptpPort (s : State) (n : Nat) : Bool := s.flag (PORT_CFGn n) PORT_CFGn_GPTP

def State.gp (s : State) (n : Nat) : GptpSt := Sparse.get (fun _ => GptpSt.reset) s.gptp n
def State.setGp (s : State) (n : Nat) (x : GptpSt) : State :=
  { s with gptp := Sparse.set (fun _ => GptpSt.reset) s.gptp n x }

/-- The own priority1: 246 on node 0, 247 on node 1, 255 elsewhere, as the join chapter sets it. -/
def State.gptpPriority (s : State) : Nat := if (s.fld SYS_BOOT SYS_BOOT_NODE) = 0 then 246 else if (s.fld SYS_BOOT SYS_BOOT_NODE) = 1 then 247 else 255

/-- A priority vector is better than another. -/
def vecBetter (a b : Nat × Nat) : Bool := decide (a.1 < b.1) || (a.1 == b.1 && decide (a.2 < b.2))

/-- The slave port: of an external port configuration, or the enabled gPTP port on which the best vector is announced,
where that is better than the own one (R95). -/
def State.gptpSlave (s : State) : Option Nat :=
  match Config.gptpExternal with
  | some n => n
  | none =>
    (s.gptp.foldl
      (fun (b : Option Nat × (Nat × Nat)) p =>
        match p.2.vec with
        | some v => if s.gptpPort p.1 && s.portEn p.1 && vecBetter v b.2 then (some p.1, v) else b
        | none => b)
      (none, (s.gptpPriority, Config.gptpOwnRest))).1

/-- An interval that a Signaling asks for, where it lies in R95's limits. -/
def interval (now ask lo hi : Int) : Int := if lo ≤ ask ∧ ask ≤ hi then ask else now

/-- The log intervals of Sync, Pdelay_Req and Announce of a port; a join port starts from its own (R607). -/
def State.gptpIntervals (s : State) (n : Nat) : Int × Int × Int :=
  let x := s.gp n
  if s.jn.ports.testBit n && x.sync == -3 && x.pdelay == 0 && x.announce == 0 then (-7, -3, -3) else (x.sync, x.pdelay, x.announce)

/-- 2^k s in ticks, for k of at least −7. -/
def logTicks (k : Int) : Nat := 15625000 * 2 ^ (k + 7).toNat

/-- An event message leaves, with its stamp in the servo's private queue: the 8 oldest are kept (R95, R97). -/
def State.gptpEvent (s : State) (n kind : Nat) : State :=
  let x := s.gp n
  let t := if x.stamps.length < 8 then s.setGp n { x with stamps := x.stamps ++ [(kind, s.tsOut n s.mer)] } else s
  t.emitOut (.gptp n kind)

/-- The oldest stamp of an event message of a kind is taken from the servo's queue; none where it holds none. -/
def State.gptpStamp (s : State) (n kind : Nat) : Option State :=
  let x := s.gp n
  match x.stamps.findIdx? (fun e => e.1 == kind) with
  | some i => some (s.setGp n { x with stamps := x.stamps.eraseIdx i })
  | none => none

/-- Octets of a sent message of a type, destination address to FCS: the lengths of IEEE 802.1AS, padded to 64
(log entry 131). -/
def gptpLen (kind : Nat) : Nat :=
  max 64 (18 + (match kind with | 0 => 44 | 8 => 76 | 11 => 76 | 12 => 60 | _ => 54))

/-- A sent message counts in the statistics of its port (R136). -/
def State.gptpCount (s : State) (n kind : Nat) : State :=
  ((s.count64 (PORT_STATSn n 10)).count64 (PORT_STATSn n 11) (gptpLen kind)).count64 (PORT_STATSn n 12)

/-- A gPTP port that may send: enabled, its link up, no remote fault (R95, R118). -/
def State.gptpLive (s : State) (n : Nat) : Bool :=
  s.gptpPort n && s.portEn n && s.flag (PORT_STATn n) PORT_STATn_LINK && !s.flag (PORT_STATn n) PORT_STATn_RFAULT

/-- GPTP_MESSAGE_RECEIVE (R95, R97, R102): the servo follows the master on the slave port; a Pdelay_Req is answered; an
Announce and the intervals of a Signaling are kept. -/
def State.gptpReceiveOp (s : State) (n : Nat) (msg : GptpIn) : State :=
  if !s.gptpPort n || !s.portEn n then s
  else
    match msg with
    | .offset o => if s.servo.mode = 1 ∧ s.gptpSlave = some n then s.servoMeasure o else s
    | .linkDelay d =>
      let t := (s.gptpStamp n 2).getD s
      if t.flag (TIME_PLINKn n) TIME_PLINKn_AUTO then t.setFld (TIME_PLINKn n) TIME_PLINKn_LINK_DLY d else t
    | .pdelayReq => if s.gptpLive n then (s.gptpEvent n 3).gptpCount n 3 else s
    | .announce p r => s.setGp n { s.gp n with vec := some (p, r) }
    | .signal a b c =>
      let x := s.gp n
      let now := s.gptpIntervals n
      s.setGp n { x with sync := interval now.1 a (-7) 0, pdelay := interval now.2.1 b (-3) 3,
                         announce := interval now.2.2 c (-3) 3 }
    | .other => s

/-- The port sends Sync and Announce: as grandmaster in modes 2 and 3, as relay of a master on another port in mode 1
(R95, R97). -/
def State.gptpMaster (s : State) (n : Nat) : Bool :=
  s.gptpSlave != some n && (s.servo.mode == 2 || s.servo.mode == 3 || (s.servo.mode == 1 && s.gptpSlave.isSome))

/-- The message's interval has passed since the last of its type. -/
def State.gptpDue (s : State) (n kind : Nat) : Bool :=
  let i := s.gptpIntervals n
  let k := if kind = 0 then i.1 else if kind = 2 then i.2.1 else i.2.2
  match (s.gp n).last.find? (fun e => e.1 == kind) with
  | some (_, at_) => decide (at_ + logTicks k ≤ s.mer)
  | none => true

/-- GPTP_MESSAGE_SEND: a Sync, Pdelay_Req or Announce whose interval has passed, or a Follow_Up or
Pdelay_Resp_Follow_Up for the event message whose stamp the servo's queue holds (R95, R97). -/
def State.gptpSendOp (s : State) (n kind : Nat) : State :=
  if !s.gptpLive n then s
  else
    let x := s.gp n
    let sent : State := s.setGp n { x with last := (kind, s.mer) :: x.last.filter (fun e => e.1 != kind) }
    match kind with
    | 0 => if s.gptpMaster n && s.gptpDue n 0 then (sent.gptpEvent n 0).gptpCount n 0 else s
    | 2 => if s.gptpDue n 2 then (sent.gptpEvent n 2).gptpCount n 2 else s
    | 11 => if s.gptpMaster n && s.gptpDue n 11 then (sent.emitOut (.gptp n 11)).gptpCount n 11 else s
    | 8 => match s.gptpStamp n 0 with | some t => (t.emitOut (.gptp n 8)).gptpCount n 8 | none => s
    | 10 => match s.gptpStamp n 3 with | some t => (t.emitOut (.gptp n 10)).gptpCount n 10 | none => s
    | 12 => (s.emitOut (.gptp n 12)).gptpCount n 12
    | _ => s

/-- The servo takes up a mode: in mode 2 it brings RATE to 1.0 (R97). -/
def State.servoMode (s : State) (mode : Nat) : State :=
  let t : State := { s with servo := { mode := mode, measured := false, good := 0, bad := 0, realign := none } }
  if mode = 2 ∧ ((s.datum 1024).inForce s.mer).rate ≠ 2 ^ 40 then
    let (f, t) := t.takeFree
    t.datumCommitOp (.servo (servoEff t f) false 0 (2 ^ 40))
  else t

/-- A tenant's datum begins or ends to follow: from FOLLOW on its applied RATE is composed (R94); the E of that change is
open, and twin B leaves it to twin A. -/
def State.setFollow (s : State) (d : Nat) (on : Bool) : State :=
  let x := s.datum d
  let t := s.setDatum d { x with follow := on }
  let rate := followRate x.nominal ((s.datum 1024).inForce s.mer).rate
  if on && !s.viaTwin && rate != (x.inForce s.mer).rate then
    let (f, t) := t.takeFree
    let e := s.mer + s.datumLead + f % (2 ^ 44 - s.datumLead)
    let q : DatumReq := { d := d, eff := e, step := false, offset := 0, rate := x.nominal }
    if t.datumChecks (.dict 0 d) q true true = 0 then t.datumAccept q else t
  else t

/-- PPS_IN_EDGE (R98), and the servo's measurement in mode 3 (R97). -/
def State.ppsInOp (s : State) (rising : Bool) : State :=
  if !s.flag TIME_CTRL TIME_CTRL_PPSI_EN || rising == s.flag TIME_CTRL TIME_CTRL_PPSI_EDGE then s
  else if (match s.ppsiLast with | some l => decide (s.mer < l + 100 * msTicks) | none => false) then s
  else
    let t := s.wr64 TIME_PPSI_LO s.mer
    let t := (t.count TIME_PPSI_CNT).setFld TIME_EVT TIME_EVT_PPSI 1
    let t : State := { t with ppsiLast := some s.mer }
    if s.servo.mode = 3 then
      match s.servo.realign with
      | some (e, secs) =>
        if e ≤ s.mer then
          let t : State := { t with servo := { t.servo with realign := none } }
          let (f, t) := t.takeFree
          let eff := servoEff s f
          t.datumCommitOp (.servo eff true ((secs + (eff - s.mer)) % 2 ^ 64) (2 ^ 40))
        else t
      | none =>
        let v := s.viewNow 1024 % 2000000000
        t.servoMeasure (if v < 1000000000 then (v : Int) else (v : Int) - 2000000000)
    else t

/-- The datum PPS_OUT follows (TIME_CTRL.PPSO_DATUM: values above 1031 are treated as 1024). -/
def State.ppsoDatum (s : State) : Nat :=
  let d := s.fld TIME_CTRL TIME_CTRL_PPSO_DATUM
  if 1031 < d then 1024 else d

/-- WIDTH in ticks. -/
def State.ppsoWidth (s : State) : Nat := max 1 (s.fld TIME_PPSO TIME_PPSO_WIDTH) * usTicks

/-- The tick at which a PPS_OUT pulse ends: after WIDTH, and never later than half the interval to the next rise, as the
records stand now (R87, R99). -/
def State.ppsoEnd (s : State) : Nat :=
  s.ppsoRise + min s.ppsoWidth ((s.dueTick s.ppsoDatum s.ppsoNext - s.ppsoRise) / 2)

/-- PPS_OUT_RISE on the tick at which the view first reaches a whole second (R99); a pulse that still stands ends. -/
def State.ppsRiseOp (s : State) : State :=
  let d := s.ppsoDatum
  let v := s.viewNow d
  if s.flag TIME_CTRL TIME_CTRL_PPSO_EN && 0 < s.mer && !(s.ppsoHigh && s.ppsoRise == s.mer) &&
      (decide (s.viewAt d (s.mer - 1) / 2000000000 < v / 2000000000) ||
        (v % 2000000000 == 0 && s.viewAt d (s.mer - 1) != v)) then
    let s := if s.ppsoHigh then s.emitOut (.ppsOut false) else s
    State.emitOut { s with ppsoHigh := true, ppsoRise := s.mer, ppsoNext := (v / 2000000000 + 1) * 2000000000 % 2 ^ 64 } (.ppsOut true)
  else s

/-- PPS_OUT_FALL (R99). DESIGN CHOICE (log entry 133): a pulse that stands when PPSO_EN is cleared runs to its fall. -/
def State.ppsFallOp (s : State) : State :=
  if s.ppsoHigh && decide (s.ppsoEnd ≤ s.mer) then State.emitOut { s with ppsoHigh := false } (.ppsOut false) else s

/-- Both twins hold every change: no DATUM record awaits twin B's ACK on twin A, no request an answer on twin B (R85,
R86, R422). -/
def State.datumHeld (s : State) : Bool :=
  !s.flag SEAM_STAT SEAM_STAT_UP ||
    (s.datumAsk.isEmpty && !s.mirrorOut.any (fun p => p.kind == 2) && !s.mirrorWait.any (fun p => p.1 == 2))

/-- BUSY clears once the change is held (R86). -/
def State.datumComplete (s : State) : State :=
  if s.flag TIME_DCMD TIME_DCMD_BUSY && s.datumHeld then s.setFld TIME_DCMD TIME_DCMD_BUSY 0 else s

/-! ### Meanings -/

/-- MERIDIAN_READ, R74: A read of TIME_MER_LO samples Meridian and latches HI. -/
def execMeridianRead (i : Iface) (s : State) : Host.Outcome State Fault Refusal := finish s (s.meridianReadOp i)

/-- VIEW_READ, R78: A read of TIME_VIEW_LO evaluates the selected datum and latches HI and VMER. -/
def execViewRead (i : Iface) (s : State) : Host.Outcome State Fault Refusal := finish s (s.viewReadOp i)

/-- DATUM_SNAPSHOT_READ, R78: A read of TIME_DATd word 0 snapshots the datum's active record. -/
def execDatumSnapshotRead (i : Iface) (d : Nat) (s : State) : Host.Outcome State Fault Refusal := finish s (s.datumSnapshotOp i d)

/-- PPSI_STAMP_READ, R98: A read of TIME_PPSI_LO latches HI. -/
def execPpsiStampRead (i : Iface) (s : State) : Host.Outcome State Fault Refusal := finish s (s.ppsiReadOp i)

/-- DATUM_COMMIT, R638: A datum change is judged and, if accepted, becomes the pending record. -/
def execDatumCommit (src : DatumSrc) (s : State) : Host.Outcome State Fault Refusal := finish s (s.datumCommitOp src)

/-- DATUM_CANCEL, R84: A datum cancel is judged and removes the pending record. -/
def execDatumCancel (src : DatumSrc) (s : State) : Host.Outcome State Fault Refusal := finish s (s.datumCancelOp src)

/-- DATUM_FETCH, R638: A fetch copies the pending record into the staging registers. -/
def execDatumFetch (i : Iface) (s : State) : Host.Outcome State Fault Refusal := finish s (s.datumFetchOp i)

/-- REFERENCE_LOSS, R75: Loss of the 25 MHz time reference puts the time PLL into holdover. -/
def execReferenceLoss (s : State) : Host.Outcome State Fault Refusal := finish s s.referenceLossOp

/-- REFERENCE_RELOCK, R75: After 10 ms of a good reference, the PLL slews back to lock and clears HOLDOVER. -/
def execReferenceRelock (s : State) : Host.Outcome State Fault Refusal := finish s s.referenceRelockOp

/-- TWIN_DIFF_REMEASURE, R76: The once-a-second re-measure of the twin Meridian difference; a move above 4 ns sets TIME_EVT.TWIN. -/
def execTwinDiffRemeasure (diff : Int) (s : State) : Host.Outcome State Fault Refusal := finish s (s.twinRemeasureOp diff)

/-- PPS_IN_EDGE, R98: An active edge on PPS_IN is stamped and counted. -/
def execPpsInEdge (rising : Bool) (s : State) : Host.Outcome State Fault Refusal := finish s (s.ppsInOp rising)

/-- PPS_OUT_RISE, R99: PPS_OUT rises when the selected datum reaches a whole second. -/
def execPpsOutRise (s : State) : Host.Outcome State Fault Refusal := finish s s.ppsRiseOp

/-- PPS_OUT_FALL, R99: PPS_OUT falls after WIDTH us. -/
def execPpsOutFall (s : State) : Host.Outcome State Fault Refusal := finish s s.ppsFallOp

/-- TSQ_HEAD_READ, R105: A read of TSQ word 0 removes the oldest entry into the interface's snapshot. -/
def execTsqHeadRead (i : Iface) (u : Nat) (s : State) : Host.Outcome State Fault Refusal := finish s (s.tsqReadOp i u)

/-- GPTP_MESSAGE_RECEIVE, R95: A gPTP message received on a gPTP-enabled port is consumed by the servo. -/
def execGptpMessageReceive (n : Nat) (msg : GptpIn) (s : State) : Host.Outcome State Fault Refusal := finish s (s.gptpReceiveOp n msg)

/-- GPTP_MESSAGE_SEND, R95: At each logSyncInterval, logPdelayReqInterval or logAnnounceInterval, a gPTP port sends its Sync with Follow_Up, Pdelay_Req or Announce. -/
def execGptpMessageSend (n : Nat) (kind : Nat) (s : State) : Host.Outcome State Fault Refusal := finish s (s.gptpSendOp n kind)


end Sys2Proof.Machine
end

