-- ==== Sys2Proof/Machine/Observe.lean ====
section
/-! DEFINITION. What the path of an item leaves for observation: programmable counters and
histograms, sampling and tagging, survey, tag and trace records: spec/08 R276 to R278 and
spec/18 R579 to R592. -/

namespace Sys2Proof.Machine

/-- The observation level (R559). -/
def State.obsLevel (s : State) : Nat := if s.powerState = 2 then 0 else s.fld SYS_LCS SYS_LCS_OBS

/-- The die of a panel (R21). -/
def panelDie (p : Nat) : Nat := p / 8

/-! ### Programmable counters (R579 to R581) -/

/-- An optional filter: off, or the event has the value it names. -/
def filterOk (en : Bool) (v : Option Nat) (want : Nat) : Bool :=
  !en || (match v with | some x => x == want | none => false)

/-- Counter c takes the event (R579, R580). -/
def State.counterTakes (s : State) (c panel code : Nat) (tenant master cls addr priv : Option Nat) : Bool :=
  let w := s.rd (COUNTER c)
  let w1 := s.rd (COUNTER c + 4)
  let pr := getF w COUNTER_PRIV
  getB w COUNTER_EN && c / 256 == panel && getF w COUNTER_EVENT == code &&
    filterOk (getB w COUNTER_TEN_EN) tenant (getF w COUNTER_TENANT) &&
    filterOk (getB w COUNTER_MST_EN) master (getF w1 COUNTER_MASTER) &&
    (!getB w COUNTER_ADDR_EN || (match addr with
      | some a => decide ((s.rd (COUNTER c + 8)).toNat ≤ a) && decide (a < (s.rd (COUNTER c + 12)).toNat)
      | none => false)) &&
    (getF w1 COUNTER_CLASS == 0 || (match cls with | some q => (getF w1 COUNTER_CLASS).testBit q | none => false)) &&
    (pr == 0 || pr == 7 || (match priv with | some k => pr.testBit k | none => false))

/-- COUNT of a programmable counter. -/
def State.counterValue (s : State) (c : Nat) : Nat :=
  (s.rd (COUNTER c + 16)).toNat + 2 ^ 32 * s.fld (COUNTER c + 20) COUNTER_COUNT_HI

/-- Add to the value of a counter that a snapshot has latched. -/
def latchedAdd (l : List (Nat × Word)) (c n : Nat) : List (Nat × Word) :=
  let get (o : Nat) : Nat := (Sparse.get (fun _ => (0 : Word)) l o).toNat
  let v := get (8 * c) + 2 ^ 32 * (get (8 * c + 4) % 2 ^ 16) + n
  let wrap := if 2 ^ 48 ≤ v then 1 else get (8 * c + 4) / 2 ^ 31
  Sparse.set (fun _ => (0 : Word)) (Sparse.set (fun _ => (0 : Word)) l (8 * c) (BitVec.ofNat 32 v)) (8 * c + 4)
    (BitVec.ofNat 32 (2 ^ 31 * wrap + v / 2 ^ 32 % 2 ^ 16))

/-- The snapshot whose latch fell in this interval of 4 ns takes an event too (R581). -/
def State.latchTakes (s : State) (c n : Nat) : State :=
  match s.snapCopy with
  | some (at_, l) => if at_ / 8 = s.mer / 8 then { s with snapCopy := some (at_, latchedAdd l c n) } else s
  | none => s

/-- The latch fell in this interval and cleared the counters, so that an event counts in the value latched alone. -/
def State.latchKeeps (s : State) : Bool :=
  match s.snapCopy with
  | some (at_, _) => at_ / 8 == s.mer / 8 && s.snapClr
  | none => false

/-- Add to a counter; at 2^48 it wraps to 0 and sets WRAP (R581). -/
def State.counterAdd (s : State) (c n : Nat) : State :=
  let keeps := s.latchKeeps
  let s := s.latchTakes c n
  if keeps then s else
  let v := s.counterValue c + n
  let t := (s.wr (COUNTER c + 16) (BitVec.ofNat 32 v)).setFld (COUNTER c + 20) COUNTER_COUNT_HI (v / 2 ^ 32)
  if 2 ^ 48 ≤ v then t.setFld (COUNTER c + 20) COUNTER_WRAP 1 else t

/-- The counters whose entry is not at reset. -/
def State.liveCounters (s : State) : List Nat :=
  (s.regs.filter (fun p => decide (0x6200000 ≤ p.1) && decide (p.1 < 0x6220000) && p.1 % 32 == 0)).map
    (fun p => (p.1 - 0x6200000) / 32)

/-- One counter's share of an event: the amount in edge mode, once in a 4 ns interval in level mode (R581). -/
def State.counterStep (s : State) (c amount : Nat) : State :=
  if s.flag (COUNTER c) COUNTER_MODE then
    if Sparse.get (fun _ => 0) s.ctrInt c = s.mer / 8 + 1 then s
    else State.counterAdd { s with ctrInt := Sparse.set (fun _ => 0) s.ctrInt c (s.mer / 8 + 1) } c 1
  else s.counterAdd c amount

/-- An E event of R580, or the rise of an L condition, offered to every programmable counter. They count
while the level is at least OBS1. -/
def State.obs (s : State) (panel code amount : Nat) (tenant : Option Nat := none) (master : Option Nat := none)
    (cls : Option Nat := none) (addr : Option Nat := none) (priv : Option Nat := none) : State :=
  if s.obsLevel = 0 then s
  else s.liveCounters.foldl
    (fun t c => if s.counterTakes c panel code tenant master cls addr priv then t.counterStep c amount else t) s

/-- An event of a die, offered to the counters of its eight panels (R579). -/
def State.obsDie (s : State) (die code amount : Nat) (tenant : Option Nat := none) (master : Option Nat := none)
    (cls : Option Nat := none) (addr : Option Nat := none) (priv : Option Nat := none) : State :=
  (List.range 8).foldl (fun t k => t.obs (8 * die + k) code amount tenant master cls addr priv) s

/-! ### Histograms (R585, R586) -/

/-- The bin of a sample (R586). -/
def histBin (shift v : Nat) : Nat :=
  let u := v >>> shift
  if u = 0 then 0 else min 31 (1 + Nat.log2 u)

/-- The histogram units whose entry is not at reset. -/
def State.liveUnits (s : State) : List Nat :=
  (s.regs.filter (fun p => decide (0x6240000 ≤ p.1) && decide (p.1 < 0x6240400) && p.1 % 16 == 0)).map
    (fun p => (p.1 - 0x6240000) / 16)

/-- Unit h takes a sample of source src with an instance in panel p; sources 1 and 6 have none (R585). -/
def State.unitTakes (s : State) (h src p inst : Nat) (tenant : Option Nat) : Bool :=
  let w := s.rd (HISTUNIT h)
  getB w HISTUNIT_EN && getF w HISTUNIT_SRC == src &&
    filterOk (getB w HISTUNIT_TEN_EN) tenant (getF w HISTUNIT_TENANT) &&
    (src == 1 || src == 6 ||
      (h / 4 == p && (!s.flag (HISTUNIT h + 4) HISTUNIT_INST_EN || s.fld (HISTUNIT h + 4) HISTUNIT_INSTANCE == inst)))

/-- A sample into one unit; bins stay at their largest value. -/
def State.histAdd (s : State) (h v : Nat) : State :=
  let k := 32 * h + histBin (s.fld (HISTUNIT h) HISTUNIT_SHIFT) v
  { s with hist := Sparse.set (fun _ => 0) s.hist k (min (Sparse.get (fun _ => 0) s.hist k + 1) (2 ^ 32 - 1)) }

/-- A sample of R585's sources 0 and 2 to 6. -/
def State.histSample (s : State) (src p inst v : Nat) (tenant : Option Nat := none) : State :=
  if s.obsLevel = 0 then s
  else s.liveUnits.foldl (fun t h => if s.unitTakes h src p inst tenant then t.histAdd h v else t) s

/-- A tagged item's tick at a stage (R588). -/
def Item.stamp? (it : Item) (stage : Nat) : Option Nat :=
  match it.stamps.find? (fun p => p.1 == stage) with
  | some p => some p.2
  | none => none

/-- A tagged item reaches a stage (R588). -/
def Item.mark (it : Item) (stage now : Nat) : Item :=
  if it.traced then { it with stamps := it.stamps.filter (fun p => p.1 != stage) ++ [(stage, now)] } else it

/-- The samples of source 1 of an item whose path ends (R585). -/
def State.histStages (s : State) (it : Item) : State :=
  if s.obsLevel = 0 ∨ !it.traced then s
  else s.liveUnits.foldl
    (fun t h =>
      match it.stamp? (s.fld (HISTUNIT h) HISTUNIT_FROM), it.stamp? (s.fld (HISTUNIT h) HISTUNIT_TO) with
      | some a, some b => if s.unitTakes h 1 0 0 (some it.tenant) then t.histAdd h (b - a) else t
      | _, _ => t) s

/-! ### Sampling and tagging registers (R276, R587, R589) -/

/-- One step of the register of polynomial x^32 + x^22 + x^2 + x + 1. -/
def lfsrStep (r : Nat) : Nat :=
  (2 * r + ((bits r 31 31 + bits r 21 21 + bits r 1 1 + bits r 0 0) % 2)) % 2 ^ 32

/-- The low n bits are all 0, n taken as 24 above 24. -/
def lfsrHit (n r : Nat) : Bool := r % 2 ^ (min n 24) == 0

/-- The register after a step. -/
def lfsrNext (m : List (Nat × Option Nat)) (kind k : Nat) : Nat :=
  lfsrStep ((Sparse.get (fun _ => none) m k).getD (Config.lfsrStart kind k))

/-- Sampling of a frame accepted on a port: whether it is sampled (R276). -/
def State.sampleStep (s : State) (n : Nat) : Bool × State :=
  let k := s.fld (PORTWORD n) PORTWORD_SAMPLE_N
  if k = 0 then (false, s)
  else
    let r := lfsrNext s.sampleReg 0 n
    (lfsrHit k r, { s with sampleReg := Sparse.set (fun _ => none) s.sampleReg n (some r) })

/-- Tagging of an item that joins the path in a panel (R587), with its first stamp (R588); one that inherits its source's tag
keeps it. -/
def State.tagJoin (s : State) (p : Nat) (it : Item) : Item × State :=
  let k := s.fld OBS_TAGCTL OBS_TAGCTL_TAG_N
  if s.obsLevel = 0 ∨ k = 0 ∨
      (s.flag OBS_TAGCTL OBS_TAGCTL_TEN_EN ∧ it.tenant ≠ s.fld OBS_TAGCTL OBS_TAGCTL_TENANT) then (it, s)
  else
    let r := lfsrNext s.tagReg 1 p
    let s : State := { s with tagReg := Sparse.set (fun _ => none) s.tagReg p (some r) }
    if !lfsrHit k r ∨ it.ctl ∨ it.traced then (it, s)
    else
      let last := Sparse.get (fun _ => 0) s.tagLast p
      if last ≠ 0 ∧ s.mer < last - 1 + 80 then (it, s.obs p 0x004 1)
      else
        let s : State := { s with tagLast := Sparse.set (fun _ => 0) s.tagLast p (s.mer + 1) }
        (({ it with traced := true } : Item).mark 0 (if it.tsIn ≠ 0 then it.tsIn else it.stamp), s)

/-! ### Trace (R590 to R592) -/

/-- The least level at which a kind is sent (R590). -/
def traceLevel (kind : Nat) : Nat := if kind = 5 then 3 else 2

/-- A trace record falls due in a die: TSEQ rises, and the record goes to the die's queue (R590, R591). For a record of the tag
ring it rises in any case, since TSEQ orders them (R589). -/
def State.traceDue (s : State) (die kind : Nat) (poison : Bool) (body : List Byte) : State :=
  if s.flag OBS_TRCTL OBS_TRCTL_EN && decide (traceLevel kind ≤ s.obsLevel) &&
      (s.fld OBS_TRCTL OBS_TRCTL_KINDS).testBit (kind - 1) then
    let q := Sparse.get (fun _ => 0) s.traceSeq die
    { s with
      traceSeq := Sparse.set (fun _ => 0) s.traceSeq die ((q + 1) % 2 ^ 32)
      traceIn := Sparse.set (fun _ => []) s.traceIn die (Sparse.get (fun _ => []) s.traceIn die ++
        [{ kind := kind, poison := poison, tseq := q, mer := s.mer, body := body }]) }
  else if kind = 2 ∨ kind = 3 then
    { s with traceSeq := Sparse.set (fun _ => 0) s.traceSeq die ((Sparse.get (fun _ => 0) s.traceSeq die + 1) % 2 ^ 32) }
  else s

/-- Octets of a trace record: header and body (R591). -/
def TraceRec.octets (r : TraceRec) : List Byte :=
  [BitVec.ofNat 8 r.kind, if r.poison then 0x80 else 0] ++ natBe 2 (16 + r.body.length) ++ natBe 4 r.tseq ++
    natBe 8 r.mer ++ r.body

/-! ### Where a path ends (R276, R277, R587) -/

/-- Stored length of an item (R253). -/
def Item.stored (it : Item) : Nat := if it.eth then it.data.length + 4 else it.data.length + 32

/-- The panel at which an ingress of the SRC form lies (R20 to R23). -/
def srcPanel (src : Nat) : Nat :=
  let n := src % 4096
  if 16384 ≤ src then (src / 16384 - 1) % 16
  else match src / 4096 with
  | 0 => n / 64
  | 1 => n / 256
  | 2 => if n < 32 then 0 else 8
  | _ => if n < 8 then 0 else 8

/-- The panel at which an item is (R23, R31). -/
def Item.here (it : Item) : Nat := it.at_.getD (srcPanel it.src)

/-- The ingress as records show it: 0 for an item that no port, bus or channel brought in. -/
def srcForm (src : Nat) : Nat := if src < 16384 then src else 0

/-- How an item's path ends: destination kind and number of R277 octets 116–117, queue, verdict (0 delivered,
1 to 13 the reason of R29, 14 punted), panel, and egress stamp. -/
structure Ending where
  kind : Nat
  num : Nat
  queue : Nat
  verdict : Nat
  panel : Nat
  tsOut : Nat
  deriving DecidableEq, Repr

/-- The stored octets of an item as cells hold them: the spec lays down no form for the 32 octets of a
PDU header, which are free (R253). -/
def Item.storedOctets (it : Item) (f : Nat) : List Byte :=
  if it.eth then it.data ++ natLe 4 (crc32 0xEDB88320 it.data) else natBe 32 f ++ it.data

/-- The 128 octets of a survey record (R277). -/
def svOctets (it : Item) (e : Ending) (stored : List Byte) (seq : Nat) : List Byte :=
  let trig := match it.mirror with | some 0 => 1 | _ => 0
  let rule := match it.mirror with | some (r + 1) => r | _ => 0
  slice stored 0 96 ++ natBe 8 (if it.src / 4096 = 0 ∧ it.tsIn ≠ 0 then it.tsIn else it.stamp) ++ natBe 8 e.tsOut ++
    natBe 2 (if it.tenant < 1024 then it.tenant else 0) ++ natBe 2 (srcForm it.src) ++ natBe 2 (8192 * e.kind + e.num) ++
    [BitVec.ofNat 8 e.queue, BitVec.ofNat 8 (128 * trig + 64 * bit it.spilled + 32 * bit (it.colour == 1) + e.verdict)] ++
    natBe 2 it.stored ++ natBe 2 rule ++ natBe 4 seq

def svSeq (d : Nat) : Nat := if d = 0 then CORE_SVSEQ0 else CORE_SVSEQ1

/-- A survey record falls due at the end of an item's path (R276 to R278), with its trace records (R590). -/
def State.surveyDue (s : State) (it : Item) (e : Ending) : State :=
  if it.mirror = none ∨ it.ctl then s
  else
    let (f, s) := if it.eth then (0, s) else s.takeFree
    let stored := it.storedOctets f
    let d := panelDie e.panel
    let rcd := svOctets it e stored (s.rd (svSeq d)).toNat
    let t := s.traceDue d 1 it.poison rcd
    let pay := slice rcd 96 32 ++ stored
    let t := t.traceDue d 5 it.poison (pay ++ List.replicate ((4 - pay.length % 4) % 4) 0)
    if !s.flag CORE_CTRL CORE_CTRL_SV_EN then t
    else
      let t := t.count (svSeq d)
      let q := Sparse.get (fun _ => []) t.svFifo e.panel
      if 1024 ≤ q.length then (t.count (CORE_PNLp_CNTc e.panel 4)).setFld CORE_EVT CORE_EVT_SV_DROP 1
      else { t with svFifo := Sparse.set (fun _ => []) t.svFifo e.panel (q ++ [rcd]) }

/-- A stage's offset from stamp 0 in a tag record (R591). -/
def Item.offset (it : Item) (stage : Nat) : Nat :=
  match it.stamp? stage with
  | some m => min (m - (it.stamp? 0).getD 0) 0xFFFFFFFE
  | none => 0xFFFFFFFF

/-- Enter a record in the tag ring of 2,048 slots (R589). -/
def State.tagRing (s : State) (rcd : List Byte) : State :=
  let w := s.fld OBS_TAGRING OBS_TAGRING_WPTR
  let t := (List.range 32).foldl
    (fun t k => t.wr (TAGRING w k) (BitVec.ofNat 32 (leNat (slice rcd (4 * k) 4)))) s
  let t := if 2048 ≤ s.tagSeq then t.setFld OBS_TAGRING OBS_TAGRING_WRAPPED 1 else t
  State.setFld { t with tagSeq := s.tagSeq + 1 } OBS_TAGRING OBS_TAGRING_WPTR (w + 1)

/-- A tag record where a tagged item's path ends (R587, R591). -/
def State.tagDue (s : State) (it : Item) (e : Ending) : State :=
  if !it.traced ∨ s.obsLevel = 0 then s
  else
    let it := it.mark 9 (if e.tsOut ≠ 0 then e.tsOut else s.mer)
    let it := if e.verdict = 0 ∨ e.verdict = 14 then it else { it with stamps := it.stamps.filter (fun p => p.1 != 9) }
    let body := natBe 2 (if it.tenant < 1024 then it.tenant else 0) ++ natBe 2 (srcForm it.src) ++ natBe 2 (8192 * e.kind + e.num) ++
      [BitVec.ofNat 8 e.queue, BitVec.ofNat 8 e.verdict] ++ natBe 4 it.hash ++ natBe 4 it.stored ++
      natBe 8 ((it.stamp? 0).getD 0) ++ (List.range 9).flatMap (fun k => natBe 4 (it.offset (k + 1))) ++ natBe 4 0
    let d := panelDie e.panel
    let rcd : TraceRec := { kind := 2, poison := it.poison, tseq := Sparse.get (fun _ => 0) s.traceSeq d, mer := s.mer, body := body }
    State.histStages ((s.tagRing rcd.octets).traceDue d 2 it.poison body) it

/-- An item's path ends (R29, R276, R587): what observation takes of it. -/
def State.pathEnd (s : State) (it : Item) (e : Ending) : State := (s.surveyDue it e).tagDue it e

/-- A discard before queueing, counted once for the item's tenant (R29); a frame counted as malformed already
is not counted again (R280). -/
def State.dropItem (s : State) (it : Item) (reason : Nat) : State :=
  if it.bad then s else
  (s.dropFor it.tenant reason).pathEnd it
    { kind := 6, num := 0, queue := 31, verdict := reason, panel := srcPanel it.src, tsOut := 0 }

end Sys2Proof.Machine
end

