-- ==== Sys2Proof/Machine/Ecc.lean ====
section
/-! DEFINITION. Protected memories: correction, leaky buckets, poison, merge buffers, the scrubber and the flip
register: spec/18 R566 to R578. -/

namespace Sys2Proof.Machine

/-- Octets of a code word of a class (R567). -/
def codeOctets (c : Nat) : Nat := if c < 2 then 4 else 16

/-- Data bits and code-word bits of a class (R566). -/
def codeData (c : Nat) : Nat := if c < 2 then 32 else 128
def codeBits (c : Nat) : Nat := if c < 2 then 39 else 137

/-- The code word of class c at an address of the form of R570. -/
def codeKey (c a : Nat) : Nat := c * 2 ^ 32 + a

/-- Where the uses of a stack's 32 GiB lie in it: the heap first, then the survey ring, the bobbin pool and the spill pool. DESIGN
CHOICE (log entry 90): R41 gives their sizes and no places. A survey record and a 16-octet unit of the pool, by number. -/
def surveyOctet (r : Nat) : Nat := r / 2 ^ 22 * 2 ^ 35 + 2 ^ 29 + 128 * (r % 2 ^ 22)
def poolOctet (u : Nat) : Nat := u / 2 ^ 31 * 2 ^ 35 + 2 ^ 30 + 16 * (u % 2 ^ 31)

/-- The address form of the code word that holds octet o of a class; class 4 counts in units of 16 octets. -/
def codeAddr (c o : Nat) : Nat := if c = 4 then o / 16 else o / codeOctets c * codeOctets c

def State.poisoned (s : State) (c a : Nat) : Bool := Sparse.get (fun _ => false) s.poison (codeKey c a)
def State.setPoison (s : State) (c a : Nat) (b : Bool) : State :=
  { s with poison := Sparse.set (fun _ => false) s.poison (codeKey c a) b }

/-- The inverted bits of a stored code word. -/
def State.flawsAt (s : State) (c a : Nat) : List Nat := Sparse.get (fun _ => []) s.flaws (codeKey c a)
def State.setFlaws (s : State) (c a : Nat) (l : List Nat) : State :=
  { s with flaws := Sparse.set (fun _ => []) s.flaws (codeKey c a) l }

/-- Positions inverted twice are as they were. -/
def flip (l : List Nat) (p : Nat) : List Nat := if l.contains p then l.filter (fun x => x != p) else l ++ [p]

/-- A code word's event is offered to the panel its address names, of class 4 to its die, and otherwise to die 0 (R570,
R580). -/
def State.obsEcc (s : State) (c a code : Nat) : State :=
  let one (p : Nat) : State := s.obs p code 1 (addr := some a)
  if c = 2 then one ((a - 0xF0000000) / 2 ^ 24 % 16)
  else if c = 4 then s.obsDie (a / 2 ^ 31 % 2) code 1 (addr := some a)
  else if 0x8000000 ≤ a ∧ a < 0x8800000 then one ((a - 0x8000000) / 2 ^ 19)
  else if 0x9000000 ≤ a ∧ a < 0xA000000 then one ((a - 0x9000000) / 2 ^ 20)
  else if 0xC000000 ≤ a ∧ a < 0x10000000 then one ((a - 0xC000000) / 2 ^ 22)
  else s.obsDie 0 code 1 (addr := some a)

/-- One correction: its counter, its address and the leaky bucket (R568, R569). -/
def State.corrected (s : State) (c a : Nat) (data : Bool) : State :=
  let b := ECC_CLSk c
  let t := if data then s.bumpSat (b + 8) ECC_CLSk_CE_CNT else s.bumpSat (b + 12) ECC_CLSk_CB_CNT
  let t := (t.wr (b + 24) (BitVec.ofNat 32 a)).obsEcc c a 0x080
  let level := t.fld (b + 4) ECC_CLSk_LEVEL + 1
  if max 1 (t.fld b ECC_CLSk_DEPTH) ≤ level then
    let t := t.setFld (b + 4) ECC_CLSk_LEVEL 0
    let t := t.setFld ECC_EVT ECC_EVT_CE_OVF (t.fld ECC_EVT ECC_EVT_CE_OVF ||| 2 ^ c)
    t.log 569 c [c, (t.rd (b + 8)).toNat, (t.rd (b + 12)).toNat, a]
  else t.setFld (b + 4) ECC_CLSk_LEVEL level

/-- An uncorrectable read: counted, with the event; UE_ADDR takes the first since the UE bit was cleared. A `fresh` error
has its record, a word tagged before only once the UE bit has been cleared (R571). -/
def State.uncorrectable (s : State) (c a : Nat) (fresh : Bool) : State :=
  let b := ECC_CLSk c
  let t := (s.bumpSat (b + 16) ECC_CLSk_UE_CNT).obsEcc c a 0x081
  let old := (t.fld ECC_EVT ECC_EVT_UE).testBit c
  let t := if old then t else (t.setFld ECC_EVT ECC_EVT_UE (t.fld ECC_EVT ECC_EVT_UE ||| 2 ^ c)).wr (b + 20) (BitVec.ofNat 32 a)
  if old && !fresh then t else t.log 571 c [c, a]

/-- A code word is read by any agent (R568, R571). -/
def State.codeRead (s : State) (c a : Nat) : State :=
  if s.poisoned c a then s.uncorrectable c a false
  else
    match s.flawsAt c a with
    | [] => s
    | [p] => (s.corrected c a (decide (p < codeData c))).setFlaws c a []
    | _ => ((s.uncorrectable c a true).setFlaws c a []).setPoison c a true

/-! ### Merge buffers (R575), one for each class -/

/-- Octets of a mask are all there. -/
def fullMask (c m : Nat) : Bool := m == 2 ^ codeOctets c - 1

/-- The code word is stored with new check bits: a whole write clears poison; a flush of fewer octets reads it first,
and keeps the tag (R571, R573, R575). -/
def State.codeStore (s : State) (c a : Nat) (whole : Bool) : State :=
  if whole then (s.setFlaws c a []).setPoison c a false else s.codeRead c a

/-- Flush the entry of a code word. -/
def State.flushKey (s : State) (k : Nat) : State :=
  match s.merge.find? (fun e => e.1 == k) with
  | none => s
  | some e => State.codeStore { s with merge := s.merge.filter (fun x => x.1 != k) } (k / 2 ^ 32) (k % 2 ^ 32)
      (fullMask (k / 2 ^ 32) e.2.1)

/-- The flip register is armed for the code word that contains its address (R577). -/
def State.flipArmed (s : State) (c a : Nat) : Bool :=
  let at_ := (s.rd ECC_FLIPADDR).toNat
  s.flag ECC_FLIP ECC_FLIP_ARM && (if c = 4 then at_ else at_ / codeOctets c * codeOctets c) == a && c != 7 &&
    (!s.flag ECC_FLIP ECC_FLIP_EN0 || decide (s.fld ECC_FLIP ECC_FLIP_POS0 < codeBits c)) &&
    (!s.flag ECC_FLIP ECC_FLIP_EN1 || decide (s.fld ECC_FLIP ECC_FLIP_POS1 < codeBits c))

/-- The armed flip is made on the code word just stored. -/
def State.flipNow (s : State) (c a : Nat) : State :=
  let l := s.flawsAt c a
  let l := if s.flag ECC_FLIP ECC_FLIP_EN0 then flip l (s.fld ECC_FLIP ECC_FLIP_POS0) else l
  let l := if s.flag ECC_FLIP ECC_FLIP_EN1 then flip l (s.fld ECC_FLIP ECC_FLIP_POS1) else l
  ((s.setFlaws c a l).setFld ECC_FLIP ECC_FLIP_ARM 0).setFld ECC_EVT ECC_EVT_FLIP_USED 1

/-- An access to a class's port: entries grow older, and one of more than 16 further accesses is flushed. -/
def State.portAccess (s : State) (c : Nat) : State :=
  let old := s.merge.filter (fun e => e.1 / 2 ^ 32 == c && decide (16 ≤ e.2.2 + 1))
  let s : State := { s with merge := s.merge.map (fun e => if e.1 / 2 ^ 32 = c then (e.1, e.2.1, e.2.2 + 1) else e) }
  old.foldl (fun t e => t.flushKey e.1) s

/-- A write of some octets of one code word, from any agent (R573, R575, R577). -/
def State.codeWrite (s : State) (c a mask : Nat) : State :=
  let k := codeKey c a
  if s.flipArmed c a then
    let t := s.flushKey k
    (t.codeStore c a (fullMask c mask)).flipNow c a
  else
    let s := s.portAccess c
    match s.merge.find? (fun e => e.1 == k) with
    | some e =>
      let m := e.2.1 ||| mask
      if fullMask c m then State.codeStore { s with merge := s.merge.filter (fun x => x.1 != k) } c a true
      else { s with merge := s.merge.map (fun x => if x.1 = k then (k, m, 0) else x) }
    | none =>
      if fullMask c mask then s.codeStore c a true
      else
        let mine := s.merge.filter (fun e => e.1 / 2 ^ 32 == c)
        let s := if 8 ≤ mine.length then (match mine with | e :: _ => s.flushKey e.1 | [] => s) else s
        { s with merge := s.merge ++ [(k, mask, 0)] }

/-- A write of n octets from octet o of a class's address space. -/
def State.memWrote (s : State) (c o n : Nat) : State :=
  let w := codeOctets c
  (List.range ((o % w + n + w - 1) / w)).foldl
    (fun t i =>
      let base := o / w * w + i * w
      let mask := (List.range w).foldl (fun m j => if o ≤ base + j ∧ base + j < o + n then m + 2 ^ j else m) 0
      if mask = 0 then t else t.codeWrite c (codeAddr c base) mask) s

/-- The merge buffer holds every octet of [o, o + n) that lies in the code word from octet b (R575). -/
def State.mergeHolds (s : State) (c b o n : Nat) : Bool :=
  match s.merge.find? (fun e => e.1 == codeKey c (codeAddr c b)) with
  | some e => (List.range (codeOctets c)).all (fun j => !(decide (o ≤ b + j) && decide (b + j < o + n)) || e.2.1.testBit j)
  | none => false

/-- A read of n octets from octet o; octets that the merge buffer holds come from it. -/
def State.memRead (s : State) (c o n : Nat) : State :=
  let w := codeOctets c
  (List.range ((o % w + n + w - 1) / w)).foldl
    (fun t i => if t.mergeHolds c (o / w * w + i * w) o n then t else t.codeRead c (codeAddr c (o / w * w + i * w))) (s.portAccess c)

/-- The first octet of a range whose code word is poison-tagged once it has been read. -/
def State.memPoison (s : State) (c o n : Nat) : Option Nat :=
  let w := codeOctets c
  ((List.range ((o % w + n + w - 1) / w)).map (fun i => o / w * w + i * w)).find?
    (fun b => !s.mergeHolds c b o n && (s.poisoned c (codeAddr c b) || decide (2 ≤ (s.flawsAt c (codeAddr c b)).length)))

/-- A store of n octets from MRAM offset o is written whole, with fresh check bits, and with an armed flip of one of its code words
(R511, R512, R573, R577). -/
def State.mramStored (s : State) (o n : Nat) : State :=
  let in_ (k : Nat) : Bool := k / 2 ^ 32 == 5 && decide (o < k % 2 ^ 32 + 16) && decide (k % 2 ^ 32 < o + n)
  let t : State := { s with flaws := s.flaws.filter (fun p => !in_ p.1), poison := s.poison.filter (fun p => !in_ p.1) }
  let a := (s.rd ECC_FLIPADDR).toNat / 16 * 16
  if s.flipArmed 5 a && in_ (codeKey 5 a) then t.flipNow 5 a else t

/-! ### Commands -/

/-- LEAK_TICK of class c: the leak that fell at the latest multiple of LEAK ms (R569). -/
def State.leakTickOp (s : State) (c : Nat) : State :=
  let b := ECC_CLSk c
  let n := s.fld b ECC_CLSk_LEAK * msTicks
  let at_ := s.mer / n * n
  if 7 ≤ c ∨ n = 0 ∨ at_ ≤ Sparse.get (fun _ => 0) s.leakAt c then s
  else
    State.setFld { s with leakAt := Sparse.set (fun _ => 0) s.leakAt c at_ } (b + 4) ECC_CLSk_LEVEL
      (s.fld (b + 4) ECC_CLSk_LEVEL - 1)

/-- SCRUB_ACCESS: the scrubber reads the code word of class c at address a, in ascending order; an address below the last
begins the next pass. `upset`: bits that have inverted since the word was written (R568, R571, R576). -/
def State.scrubOp (s : State) (c a : Nat) (upset : List Nat) : State :=
  if !s.flag ECC_CTRL ECC_CTRL_SCRUB_EN ∨ 7 ≤ c ∨ s.fld (ECC_CLSk c + 28) ECC_CLSk_PERIOD = 0 then s
  else
    let at_ := Sparse.get (fun _ => 0) s.scrubAt c
    let s := if a < at_ then s.bump (ECC_CLSk c + 28) ECC_CLSk_PASSES else s
    let s : State := { s with scrubAt := Sparse.set (fun _ => 0) s.scrubAt c a }
    let s := s.flushKey (codeKey c a)
    let s := s.setFlaws c a ((upset.filter (fun p => decide (p < codeBits c))).foldl flip (s.flawsAt c a))
    s.codeRead c a

/-- MERGE_FLUSH: the oldest entry of a class's merge buffer is flushed (R575). -/
def State.mergeFlushOp (s : State) (c : Nat) : State :=
  match s.merge.find? (fun e => e.1 / 2 ^ 32 == c) with
  | some e => s.flushKey e.1
  | none => s

/-- ECC_FLIP_ARM: a write of ECC_FLIP (R577). -/
def State.flipArmOp (s : State) (i : Iface) (w : Word) : State := s.hostAccess (s.typedWrite i ECC_FLIP w)

/-- A write of ECC_EVT: a cleared UE bit clears its class's UE_ADDR. -/
def State.eccEvtWrite (s : State) (i : Iface) (w : Word) : State :=
  let t := s.typedWrite i ECC_EVT w
  (List.range 8).foldl (fun t c => if w.getLsbD (8 + c) then t.wr (ECC_CLSk c + 20) 0 else t) t

/-- LEAK_TICK, R569: Each LEAK ms a class's leaky bucket falls by one. -/
def execLeakTick (c : Nat) (s : State) : Host.Outcome State Fault Refusal := finish s (s.leakTickOp c)

/-- MERGE_FLUSH, R575: A merge-buffer entry is flushed to its memory. -/
def execMergeFlush (c : Nat) (s : State) : Host.Outcome State Fault Refusal := finish s (s.mergeFlushOp c)

/-- ECC_FLIP_ARM, R577: A write of ECC_FLIP arms the next write to corrupt bits. -/
def execEccFlipArm (i : Iface) (w : Word) (s : State) : Host.Outcome State Fault Refusal := finish s (s.flipArmOp i w)


end Sys2Proof.Machine
end

