-- ==== Sys2Proof/Machine/Staging.lean ====
section
/-! DEFINITION. Staging copies of multi-word entries of the table-window region: spec/07 R249. -/

namespace Sys2Proof.Machine

/-- A table of multi-word entries: c1 × c2 entries at base + s1·i + s2·j of `words` staged words, committed by a
write of word `commit`; `clears`: a commit clears the staging copy (R249). -/
structure TableDesc where
  base : Nat
  s1 : Nat
  c1 : Nat
  s2 : Nat
  c2 : Nat
  words : Nat
  commit : Nat
  clears : Bool
  deriving DecidableEq, Repr

/-- The multi-word entries of the table-window region. Those without a staging copy (tenant, spill cap,
virtual-bus member) and those with one writable word are not among them (R249). -/
def stagedTables : List TableDesc :=
  [⟨0x00A00000, 1024, 1024, 8, 64, 2, 0, false⟩, ⟨0x00B80000, 8, 1024, 1, 1, 2, 0, false⟩,
   ⟨0x00B82000, 8, 16, 1, 1, 2, 0, false⟩, ⟨0x00B82080, 8, 2, 1, 1, 2, 0, false⟩,
   ⟨0x00C40000, 512, 64, 8, 64, 2, 0, false⟩, ⟨0x00E00000, 32, 1024, 1, 1, 8, 0, false⟩,
   ⟨0x00E08000, 16, 64, 1, 1, 4, 0, false⟩, ⟨0x00E10000, 8, 16384, 1, 1, 2, 0, false⟩,
   ⟨0x01400000, 16, 262144, 1, 1, 4, 0, true⟩, ⟨0x02000000, 128, 65536, 1, 1, 19, 16, true⟩,
   ⟨0x02C00000, 16, 65536, 1, 1, 4, 0, true⟩, ⟨0x02D00000, 8, 65536, 1, 1, 2, 0, true⟩,
   ⟨0x03000000, 16, 65536, 1, 1, 4, 0, true⟩, ⟨0x04000000, 32, 262144, 1, 1, 5, 0, false⟩,
   ⟨0x05100000, 512, 256, 1, 1, 40, 0, false⟩, ⟨0x06200000, 32, 4096, 1, 1, 4, 0, false⟩,
   ⟨0x06240000, 16, 64, 1, 1, 2, 0, false⟩, ⟨0x07000000, 128, 4096, 1, 1, 12, 0, false⟩,
   ⟨0x0A000000, 64, 4096, 1, 1, 12, 0, false⟩, ⟨0x0A100000, 32, 1024, 1, 1, 2, 0, false⟩,
   ⟨0x0A200000, 16, 65536, 1, 1, 3, 0, false⟩]

/-- The start of the entry that holds word a of a table, and the word's number in it. -/
def TableDesc.entry? (d : TableDesc) (a : Nat) : Option (Nat × Nat) :=
  if a < d.base then none
  else
    let o := a - d.base
    let i := o / d.s1
    let r := o % d.s1
    if d.c1 ≤ i then none
    else if d.c2 = 1 then (if r / 4 < d.words then some (d.base + d.s1 * i, r / 4) else none)
    else
      let j := r / d.s2
      if d.c2 ≤ j then none
      else if r % d.s2 / 4 < d.words then some (d.base + d.s1 * i + d.s2 * j, r % d.s2 / 4) else none

/-- The table, entry start and word number of a staged entry's word. -/
def stagedEntry? (a : Nat) : Option (TableDesc × Nat × Nat) :=
  stagedTables.findSome? (fun d => match d.entry? a with | some (b, k) => some (d, b, k) | none => none)


/-- A staged word; the word's reset value where nothing has been staged (R249). -/
def State.stagedWord (s : State) (who a : Nat) : Word :=
  Sparse.get (fun k => regReset (k % 2 ^ 32)) s.stage (who * 2 ^ 32 + a)

def State.stageWord (s : State) (who a : Nat) (w : Word) : State :=
  { s with stage := Sparse.set (fun k => regReset (k % 2 ^ 32)) s.stage (who * 2 ^ 32 + a) w }

/-- Forget an interface's staged words of an entry. -/
def State.stageClear (s : State) (who base words : Nat) : State :=
  { s with stage := s.stage.filter (fun p => !(decide (who * 2 ^ 32 + base ≤ p.1) && decide (p.1 < who * 2 ^ 32 + base + 4 * words))) }

/-- Write a word under its field types without host errors; words that name no field stay as they are. -/
def State.typedWord (s : State) (a : Nat) (w : Word) : State :=
  match regDesc? a with
  | some d => s.wr a (writeWord (s.locked a) d (s.rd a) w)
  | none => s

/-- The memory class of a word of the control region or a table window, and its octet address in the form of R570
before division (R566); none for a word that no protected memory holds, or whose place in its stack no rule gives. -/
def winClass (a : Nat) : Option Nat :=
  if a < 0x00800000 then
    if (0x4000 ≤ a ∧ a < 0x8000) ∨ (0x41000 ≤ a ∧ a < 0x47000) ∨ (0x81000 ≤ a ∧ a < 0xC1000) ∨ (0x300000 ≤ a ∧ a < 0x310000)
    then some 1 else none
  else if 0x00D00000 ≤ a ∧ a < 0x00E08400 then some 3
  else if 0x01000000 ≤ a ∧ a < 0x04800000 then some 3
  else if 0x06200000 ≤ a ∧ a < 0x06220000 then some 3
  else if 0x06900000 ≤ a ∧ a < 0x06920000 then some 6
  else if 0x07000000 ≤ a ∧ a < 0x07080000 then some 3
  else if 0x08000000 ≤ a ∧ a < 0x0A000000 then some 0
  else if 0x0A000000 ≤ a ∧ a < 0x0A040000 then some 3
  else if 0x0A200000 ≤ a ∧ a < 0x0A300000 then some 3
  else if 0x0C000000 ≤ a ∧ a < 0x10000000 then some 0
  else none

/-- Words were stored at an address of the control region or a table window (R573, R575, R577). -/
def State.wordsStored (s : State) (a words : Nat) : State :=
  match winClass a with
  | some c => s.memWrote c a (4 * words)
  | none => s

/-- Commit an entry: the commit word w with the staged words of the same writer (R249). -/
def State.commitEntry (s : State) (who : Nat) (d : TableDesc) (base : Nat) (w : Word) : State :=
  let t := (List.range d.words).foldl
    (fun t k => t.typedWord (base + 4 * k) (if k = d.commit then w else s.stagedWord who (base + 4 * k))) s
  let t := t.wordsStored base d.words
  if d.clears then t.stageClear who base d.words else t

/-- Word k that a commit of w would bring. -/
def State.newWord (s : State) (who base commit k : Nat) (w : Word) : Word :=
  if k = commit then w else s.stagedWord who (base + 4 * k)

/-- A write of a word other than the commit word (R249): to the writer's staging copy. -/
def State.tableStage (s : State) (who a : Nat) (w : Word) : State :=
  match stagedEntry? a with
  | some (d, _, k) => if k = d.commit then s else s.stageWord who a w
  | none => s

/-- TABLE_STAGE_WRITE. -/
def State.tableStageOp (s : State) (i : Iface) (a : Nat) (w : Word) : State := s.hostAccess (s.tableStage (ifaceNum i) a w)

end Sys2Proof.Machine
end

