-- ==== Sys2Proof/Machine/Cipher.lean ====
section
/-! DEFINITION. Cipher lanes, the key store, key-update messages, proof units and alarms: spec/12. -/

namespace Sys2Proof.Machine

/-! ### Lane requests (R375, R377, R380 to R382) -/

/-- Counters of a lane: 0 REQUESTS, 1 MATCH_FAIL, 2 REFUSED, 3 LOST, 4 HEM_OLD, 5 ALARMS, 6 REDIRECTED. -/
def State.laneCount (s : State) (n c : Nat) : State := s.count (CIPH_LANECNTn n c)

/-- A result for an engine, which its stalled CIPH takes (R324, R342); 128: the engine has abandoned the request. -/
def State.reply (s : State) (e st : Nat) (out : List Byte) : State :=
  if 128 ≤ e then s
  else { s with replies := Sparse.set (fun _ => (16, [])) s.replies e (st, out) }

/-- Word k of a slot's attribute record (R379). -/
def State.keyWord (s : State) (slot k : Nat) : Nat := (s.rd (KEY_ATTR slot k)).toNat

def State.keyValid (s : State) (x : Nat) : Bool := (s.keyWord x 0).testBit 31
def State.keyKek (s : State) (x : Nat) : Bool := (s.keyWord x 0).testBit 30
def State.keyLong (s : State) (x : Nat) : Bool := (s.keyWord x 0).testBit 29
def State.keyTenant (s : State) (x : Nat) : Nat := bits (s.keyWord x 0) 25 16
def State.keyPair (s : State) (x : Nat) : Nat := bits (s.keyWord x 0) 11 0
def State.keyEpoch (s : State) (x : Nat) : Nat := s.keyWord x 3
def State.keyStart (s : State) (x : Nat) : Nat := s.keyWord x 4 + 2 ^ 32 * s.keyWord x 5
def State.keyHem (s : State) (x : Nat) : Nat := s.keyWord x 6
def State.keyBits (s : State) (x : Nat) : Nat := Sparse.get (fun _ => 0) s.keyMat x

/-- Epoch a is newer than epoch b (R381). -/
def newerEpoch (a b : Nat) : Bool := 1 ≤ (a + 2 ^ 32 - b) % 2 ^ 32 && (a + 2 ^ 32 - b) % 2 ^ 32 ≤ 2 ^ 31 - 1

/-- A slot is live for a request that names slot n at tenant time t (R382). -/
def State.keyLive (s : State) (n t x : Nat) : Bool :=
  s.keyValid x && !s.keyKek x && s.keyTenant x == s.keyTenant n && decide (s.keyStart x ≤ t)

/-- The newer live slot N and the other live slot O, if any (R382). -/
def State.keyResolve (s : State) (n t : Nat) : Option (Nat × Option Nat) :=
  let p := s.keyPair n
  let a := s.keyLive n t n
  let b := p != n && s.keyLive n t p
  if a && b then
    (if newerEpoch (s.keyEpoch p) (s.keyEpoch n) then some (p, some n) else some (n, some p))
  else if a then some (n, none)
  else if b then some (p, none)
  else none

/-- Causes 4 to 8 of R380 for a slot, 0 when it passes. -/
def State.keyRefusal (s : State) (lane : Nat) (q : CiphReq) (x : Nat) : Nat :=
  if !(s.keyWord x 1).testBit lane then 4
  else if !(s.keyWord x 2).testBit (24 + q.alg) then 5
  else if (if q.op = 0 ∨ q.op = 2 then !(s.keyWord x 0).testBit 28 else !(s.keyWord x 0).testBit 27) then 6
  else if q.tbits < bits (s.keyWord x 2) 23 16 then 7
  else if !s.keyLong x && q.alg == 3 then 8
  else 0

/-- The slot's code words are poison-tagged, and it is refused until a message writes it again (R572). -/
def State.keyBad (s : State) (x : Nat) : Bool := (s.memPoison 6 (KEY_ATTR x 0) 32).isSome

/-- What a request keeps of the key store as its lane accepts it: the named slot and its partner (R381, R400), a
poison-tagged one as not valid. -/
def State.keySnap (s : State) (x : Nat) : List (Nat × List Word × Nat) :=
  [x, s.keyPair x].map (fun y =>
    (y, if s.keyBad y then List.replicate 8 0 else (List.range 8).map (fun k => s.rd (KEY_ATTR y k)), s.keyBits y))

/-- The key store as a request's lane accepted it (R400). -/
def State.keysOf (s : State) (q : CiphReq) : State :=
  q.keys.foldl (fun t p =>
    let t := (List.range 8).foldl (fun u k => u.wr (KEY_ATTR p.1 k) (p.2.1.getD k 0)) t
    { t with keyMat := Sparse.set (fun _ => 0) t.keyMat p.1 p.2.2 }) s

/-- The tenant time of a request's key decision (R381). -/
def State.keyTime (s : State) (q : CiphReq) : Nat :=
  s.viewAt (s.keyTenant q.slot) (if q.op = 1 ∨ q.op = 3 then q.stamp else q.accepted)

/-- The cause of a refusal under R380, or the slots to use. -/
def State.keyCheck (s : State) (lane : Nat) (q : CiphReq) : Nat × Nat × Option Nat :=
  if !s.flag CIPH_STAT CIPH_STAT_READY || s.flag CIPH_STAT CIPH_STAT_TAMPER then (10, 0, none)
  else if !s.keyValid q.slot then (1, 0, none)
  else if s.keyKek q.slot then (2, 0, none)
  else if s.keyTenant q.slot ≠ q.tenant then (3, 0, none)
  else
    match s.keyResolve q.slot (s.keyTime q) with
    | none => (9, 0, none)
    | some (n, o) =>
      let c := s.keyRefusal lane q n
      if c ≠ 0 then (c, 0, none)
      else (0, n, match o with | some x => if s.keyRefusal lane q x = 0 then some x else none | none => none)

/-- The first tbits bits of a tag, as octets, with the bits beyond written as 0 (R344). -/
def cutTag (tbits : Nat) (tag : List Byte) : List Byte :=
  let n := (tbits + 7) / 8
  let l := slice tag 0 n
  if tbits % 8 = 0 then l
  else l.take (n - 1) ++ [BitVec.ofNat 8 ((oct l (n - 1) >>> (8 - tbits % 8)) <<< (8 - tbits % 8))]

/-- The tag a key gives a request: of the data for CMAC and GMAC, of AEAD otherwise. -/
def State.keyTag (s : State) (q : CiphReq) (x : Nat) : List Byte :=
  if q.op = 0 ∨ q.op = 1 then Config.mac q.alg (s.keyLong x) (s.keyBits x) q.nonce q.aad
  else if q.op = 2 then (Config.seal q.alg (s.keyLong x) (s.keyBits x) q.nonce q.aad q.data).2
  else (Config.unseal q.alg (s.keyLong x) (s.keyBits x) q.nonce q.aad q.data).2

/-- A slot's tag matches the received tag in its first TBITS bits (R344). -/
def State.tagOk (s : State) (q : CiphReq) (x : Nat) : Bool :=
  cutTag q.tbits (s.keyTag q x) == cutTag q.tbits q.rxTag

/-- Status, output and the counters of one request served by a lane (R342, R344, R380, R382). -/
def State.serve (s : State) (lane : Nat) (q : CiphReq) : Nat × List Byte × State :=
  if q.op = 4 then (0, Config.sha384 q.aad, s)
  else
    let z := s.keysOf q
    let (cause, n, o) := z.keyCheck lane q
    if cause ≠ 0 then (2, [], (s.setFld (CIPH_LANEn lane) CIPH_LANEn_LAST_REF cause).laneCount lane 2)
    else if q.op = 0 then (0, cutTag q.tbits (z.keyTag q n), s)
    else if q.op = 2 then
      (0, slice (Config.seal q.alg (z.keyLong n) (z.keyBits n) q.nonce q.aad q.data).1 0 q.data.length ++ cutTag q.tbits (z.keyTag q n), s)
    else
      let t := z.keyTime q
      let inhem := o.isSome && decide (t < (z.keyStart n + z.keyHem n) % 2 ^ 64)
      let okN := z.tagOk q n
      let okO := inhem && (match o with | some x => z.tagOk q x | none => false)
      let s := if !okN && okO then s.laneCount lane 4 else s
      if okN || okO then
        let x := if okN then n else o.getD n
        (0, if q.op = 3 then slice (Config.unseal q.alg (z.keyLong x) (z.keyBits x) q.nonce q.aad q.data).1 0 q.data.length else [], s)
      else (1, [], s.laneCount lane 1)

/-- The schedule of a request's slot is in the key cache after it (R376). DESIGN CHOICE (log entry 142): the slot used longest
ago gives way. -/
def LaneSt.keyUsed (x : LaneSt) (q : CiphReq) : LaneSt :=
  if q.op = 4 then x else { x with cache := (q.slot :: x.cache.filter (fun y => y != q.slot)).take 16 }

/-- A request joins a lane: in order of arrival, and in engine order among those of one tick (R375). -/
def LaneSt.accept (x : LaneSt) (q : CiphReq) : LaneSt :=
  let before (y : CiphReq) : Bool := decide (y.accepted < q.accepted) || decide (y.engine ≤ q.engine)
  { x with reqs := x.reqs.takeWhile before ++ q :: x.reqs.dropWhile before }

/-- Every lane's cache entries for some slots are gone (R391). -/
def State.cacheDrop (s : State) (slots : List Nat) : State :=
  { s with lanes := s.lanes.map (fun p => (p.1, { p.2 with cache := p.2.cache.filter (fun y => !slots.contains y) })) }

/-- CIPHER_RESULT: the lane's oldest request finishes (R375 to R377, R380 to R382). -/
def State.cipherResultOp (s : State) (n : Nat) : State :=
  match (s.lane n).reqs with
  | [] => s
  | q :: rest =>
    if s.flag (CIPH_LANEn n) CIPH_LANEn_RESET then s
    else
      let (st, out, t) := s.serve n q
      let t := t.histSample 5 (n / 2) n (s.mer - q.accepted) (some q.tenant)
      (t.setLane n { (t.lane n).keyUsed q with reqs := rest }).reply q.engine st out

/-! ### Alarms (R397 to R399) -/

/-- Every request a lane holds returns status 3 and is counted in LOST (R397, R399). -/
def State.loseRequests (s : State) (n : Nat) : State :=
  let t := (s.lane n).reqs.foldl (fun t q => (t.reply q.engine 3 []).laneCount n 3) s
  t.setLane n { t.lane n with reqs := [] }

/-- Set every key word and key of a list of slots to 0 (R386). -/
def State.eraseSlots (s : State) (keep : Nat → Bool) : State :=
  let stays (k : Nat) : Bool := k / 2 ^ 32 != 6 || keep ((k % 2 ^ 32 - 0x6900000) / 32)
  { s with
    regs := s.regs.filter (fun p => !(decide (0x6900000 ≤ p.1) && decide (p.1 < 0x6920000)) || keep ((p.1 - 0x6900000) / 32))
    keyMat := s.keyMat.filter (fun p => keep p.1)
    flaws := s.flaws.filter (fun p => stays p.1)
    poison := s.poison.filter (fun p => stays p.1) }

/-- The valid slots, as KEYS_FILL.VALID shows them. -/
def State.keysFill (s : State) : Nat :=
  (s.regs.filter (fun p => decide (0x6900000 ≤ p.1) && decide (p.1 < 0x6920000) && (p.1 - 0x6900000) % 32 == 0 &&
    p.2.getLsbD 31)).length

def State.showFill (s : State) : State := s.setFld KEYS_FILL KEYS_FILL_VALID s.keysFill

/-- The actions of a global tamper alarm (R399, R386): cause 0 shield, 1 overvoltage, 2 low temperature,
3 lane alarms, 4 proof mismatches. -/
def State.globalTamper (s : State) (cause : Nat) : State :=
  let t := (s.eraseSlots (fun _ => false)).showFill
  let t : State := { t with keyMram := { t.keyMram with tamper := true, blob0 := none, blob1 := none }, tamperAlarm := true }
  let t := (List.range 32).foldl (fun t n => (t.loseRequests n).setFld (CIPH_LANEn n) CIPH_LANEn_LAST_ALM 4) t
  let t := (t.setFld CIPH_STAT CIPH_STAT_TAMPER 1).setFld CIPH_EVT CIPH_EVT_TAMPER 1
  (t.log 399 cause).enterSafe

/-- One lane alarm (R397, R398), with the global alarm of 8 lanes in 1 ms (R399). -/
def State.laneAlarm (s : State) (n cause : Nat) : State :=
  let t := (s.loseRequests n).laneCount n 5
  let recent := ((s.lane n).alarms.filter (fun a => decide (s.mer < a + 1000 * msTicks))) ++ [s.mer]
  let t := t.setLane n { t.lane n with alarms := recent, cache := [] }
  let t := (t.setFld (CIPH_LANEn n) CIPH_LANEn_RESET 1).setFld (CIPH_LANEn n) CIPH_LANEn_LAST_ALM cause
  let t := t.setFld (CIPH_LANEn n) CIPH_LANEn_ALM_1S (min recent.length 255)
  let t := (t.setFld CIPH_EVT CIPH_EVT_LANE_ALM 1).log 397 n [cause]
  let t := if t.fld CIPH_CTRL CIPH_CTRL_ALM_LIMIT < recent.length ∧ t.fld CIPH_CTRL CIPH_CTRL_ALM_LIMIT ≠ 0 then
      ((t.setFld (CIPH_LANEn n) CIPH_LANEn_EN 0).setFld (CIPH_LANEn n) CIPH_LANEn_ALM_DIS 1).setFld CIPH_EVT
        CIPH_EVT_LANE_DIS 1
    else t
  let log := (s.laneAlarms.filter (fun p => p.1 != n && decide (s.mer < p.2 + msTicks))) ++ [(n, s.mer)]
  let t : State := { t with laneAlarms := log }
  if 8 ≤ log.length ∧ !t.flag CIPH_STAT CIPH_STAT_TAMPER then t.globalTamper 3 else t

/-- LANE_ALARM (R397): causes 1 glitch, 2 voltage excursion, 3 pace anomaly. -/
def State.laneAlarmOp (s : State) (n cause : Nat) : State := s.laneAlarm n cause

/-- LANE_RESET_COMPLETE (R397). -/
def State.laneResetOp (s : State) (n : Nat) : State := s.setFld (CIPH_LANEn n) CIPH_LANEn_RESET 0

/-- LANE_ENABLE_WRITE (R398): a write of EN = 1 clears ALM_DIS. -/
def State.laneEnableOp (s : State) (i : Iface) (n : Nat) (w : Word) : State :=
  let t := s.typedWrite i (CIPH_LANEn n) w
  s.hostAccess (if getB w CIPH_LANEn_EN then t.setFld (CIPH_LANEn n) CIPH_LANEn_ALM_DIS 0 else t)

/-- GLOBAL_TAMPER (R399); a shield fault at boot raises it too; in SLEEP no detector runs (R553). -/
def State.globalTamperOp (s : State) (cause : Nat) : State := if s.powerState = 3 then s else s.globalTamper cause

/-- The result goes to CIPH_KRES, and to the interface that submitted the message (R389). -/
def State.kumResult (s : State) (src r entry : Nat) : State :=
  let t := (s.setFld CIPH_KRES CIPH_KRES_RESULT r).setFld CIPH_KRES CIPH_KRES_ENTRY entry
  let t := if r = 0 then t.setFld CIPH_EVT CIPH_EVT_KUM_ACCEPTED 1 else t.setFld CIPH_EVT CIPH_EVT_KUM_REFUSED 1
  let t := t.emitOut (.kumResult src r)
  if src = 0 then (t.setFld KEYS_KUMCMD0 KEYS_KUMCMD0_RESULT r).setFld KEYS_KUMCMD0 KEYS_KUMCMD0_BUSY 0
  else if src = 1 then (t.setFld KEYS_KUMCMD1 KEYS_KUMCMD0_RESULT r).setFld KEYS_KUMCMD1 KEYS_KUMCMD0_BUSY 0
  else t

def State.showQueue (s : State) : State := s.setFld CIPH_STAT CIPH_STAT_KUM_QUEUE (min s.kumQueue.length 4)

/-- PROOF_MISMATCH (R396): the operation's owner gets nothing; the fourth mismatch in 1 ms is a global tamper. -/
def State.proofMismatchOp (s : State) (u : Nat) : State :=
  let t := (s.bumpSat (CIPH_PROOFu u) CIPH_PROOFu_MISMATCHES).setFld CIPH_EVT CIPH_EVT_PROOF_MISMATCH 1
  let t := t.log 396 u
  let times := (s.proofTimes.filter (fun a => decide (s.mer < a + msTicks))) ++ [s.mer]
  let t : State := { t with proofTimes := times }
  let t := if u = 1 then
      match t.kumQueue with
      | [] => t
      | m :: rest =>
        State.kumResult (State.showQueue { t with kumQueue := rest }) m.src 14 255
    else t
  if 4 ≤ times.length ∧ !t.flag CIPH_STAT CIPH_STAT_TAMPER then t.globalTamper 4 else t

/-! ### Key-update messages (R387 to R394) -/

/-- The stored counter (R392). -/
def State.kumFloor (s : State) : Nat := 4096 * (s.otp.therm.getD 2 0 + s.otp.therm.getD 3 0)

def optCounter : Option (Nat × Nat) → Nat
  | some (_, c) => c
  | none => 0

/-- The committed sound generation with the higher number; the other where its tag fails (R385). -/
def KeyMram.pick (m : KeyMram) : Option BlobGen :=
  let ok (b : Option BlobGen) : Option BlobGen := match b with | some x => if x.sound then some x else none | none => none
  match ok m.blob0, ok m.blob1 with
  | some a, some b => if b.gen ≤ a.gen then some a else some b
  | some a, none => some a
  | none, b => b

/-- The greatest of the counter records, the restored generation and the floor (R392). -/
def State.kumCounter (s : State) : Nat :=
  max (max (optCounter s.keyMram.ctrA) (optCounter s.keyMram.ctrB))
    (max s.kumFloor (match s.keyMram.pick with | some b => b.counter | none => 0))

/-- A message arrives: queued, or refused as BUSY (R389, R393). -/
def State.kumArrive (s : State) (src : Nat) (octets : List Byte) : State :=
  if 4 ≤ s.kumQueue.length then s.kumResult src 1 255
  else State.showQueue { s with kumQueue := s.kumQueue ++ [{ src := src, octets := octets }] }

/-- Octets of an interface's message buffer: octet k at byte address base + k (R401, KUM_BUF). -/
def State.kumBuffer (s : State) (k n : Nat) : List Byte :=
  (List.range n).map (fun j => BitVec.ofNat 8 ((s.rd (KUM_BUF k (j / 4))).toNat >>> (8 * (j % 4))))

/-- KEY_UPDATE_SUBMIT: SUBMIT through KUMCMD0 (PCIe) or KUMCMD1 (SPI), or OD 0xE000.01 through the Thimble
with its octets (R389, R393). -/
def State.kumSubmitOp (s : State) (i : Iface) (w : Word) (octets : List Byte) : State :=
  match i with
  | .twin => s
  | .thimble => s.kumArrive 2 octets
  | _ =>
    let k := if i = .pcie then 0 else 1
    let a := if i = .pcie then KEYS_KUMCMD0 else KEYS_KUMCMD1
    if !s.hostUp then s
    else
      let busy := s.flag a KEYS_KUMCMD0_BUSY
      let t := s.typedWrite i a w
      if busy || !getB w KEYS_KUMCMD0_SUBMIT then t
      else if 4 ≤ s.kumQueue.length then t.kumResult k 1 255
      else if s.flag KEYS_CTRL KEYS_CTRL_HOST_KUM_DIS then t.kumResult k 12 255
      else
        let n := getF w KEYS_KUMCMD0_LEN
        (t.setFld a KEYS_KUMCMD0_BUSY 1).kumArrive k (s.kumBuffer k n)

/-- Octets of entry j of a message with n entries, after unsealing (R387). -/
def kumEntry (plain : List Byte) (j : Nat) : List Byte := slice plain (96 * j) 96

/-- The message's fields outside the entries are well formed (R389 MALFORMED). -/
def State.kumFormed (s : State) (m : List Byte) : Bool :=
  let n := oct m 6
  let sg := oct m 7
  decide (1 ≤ n) && decide (n ≤ 16) && m.length == 240 + 96 * n && beAt m 0 4 == 0x4C4B554D && oct m 4 == 1 &&
    decide (1 ≤ oct m 5) && decide (oct m 5 ≤ 4) && beAt m 28 4 == 0 &&
    (sg == 2 || (sg == 3 && (s.lifecycle == 0 || s.lifecycle == 3)))

/-- The unsealed entries, and whether the ephemeral key and the GCM tag hold (R388). -/
def State.kumUnseal (s : State) (m : List Byte) : Bool × List Byte :=
  let n := oct m 6
  let k := Config.kdf (slice m 32 96) (s.otp.uid ++ slice m 24 4) (natBe 19 0x4C696861_6C206B65_79207570_64617465_207631)
  let (p, tag) := Config.unseal 1 true k (natBe 8 0 ++ slice m 24 4) (slice m 0 128) (slice m 128 (96 * n))
  (Config.ecPointOk (slice m 32 96) && tag == slice m (128 + 96 * n) 16, p)

/-- A slot is free for INSTALL, ATTR or IMPORT: not VALID, or the older of a pair whose newer slot's hem
has ended (R390). -/
def State.slotFree (s : State) (x : Nat) : Bool :=
  !s.keyValid x ||
    (let p := s.keyPair x
     p != x && s.keyValid p && newerEpoch (s.keyEpoch p) (s.keyEpoch x) &&
       decide (s.keyStart p + s.keyHem p ≤ s.viewNow (s.keyTenant x)))

/-- A well-formed entry: reserved bits 0, MIN_TBITS not 0 for an entry that gives a record, ERASE all 0 (R387, R390). -/
def entryFormed (ty : Nat) (e : List Byte) : Bool :=
  decide (oct e 0 < 16) && decide (oct e 2 < 2) && oct e 3 == 0 && decide (oct e 4 < 16) && beNat (slice e 6 10) == 0 &&
    beNat (slice e 44 4) == 0 &&
    (if ty = 3 then beNat (slice e 16 80) == 0
     else bits (beAt e 16 4) 26 26 == 0 && bits (beAt e 16 4) 15 12 == 0 && bits (beAt e 24 4) 31 28 == 0 &&
       bits (beAt e 24 4) 15 0 == 0 && oct e 25 != 0 &&
       (if ty = 1 then beNat (slice e 80 16) == 0 && ((beAt e 16 4).testBit 29 || beNat (slice e 64 16) == 0)
        else if ty = 2 then beNat (slice e 48 48) == 0
        else if (beAt e 16 4).testBit 29 then beNat (slice e 88 8) == 0 else beNat (slice e 72 24) == 0))

/-- Write a slot's record, with INSTALLED, and its key if the entry brings one (R379, R390). -/
def State.putSlot (s : State) (x : Nat) (recd : List Byte) (counter : Nat) (key : Option Nat) : State :=
  let t := (List.range 7).foldl (fun t k => t.wr (KEY_ATTR x k) (BitVec.ofNat 32 (beAt recd (4 * k) 4))) s
  let t := (t.wr (KEY_ATTR x 7) (BitVec.ofNat 32 counter)).memWrote 6 (KEY_ATTR x 0) 32
  match key with
  | some v => { t with keyMat := Sparse.set (fun _ => 0) t.keyMat x v }
  | none => t

/-- One entry: its result (0 passes) and the store as it leaves it (R390, R394). -/
def State.kumEntryOp (s : State) (ty counter : Nat) (e : List Byte) : Nat × State :=
  let x := beAt e 0 2 % 4096
  let replace := oct e 2 % 2 == 1
  let recd := slice e 16 32
  if !entryFormed ty e then (2, s)
  else if ty = 3 then (0, s.eraseSlots (fun k => k != x))
  else if ty = 2 ∧ !s.keyValid x then (8, s)
  else if !replace && !s.slotFree x then (8, s)
  else
    let kek := beAt e 4 2 % 4096
    let long := (beAt e 16 4).testBit 29
    let blob := slice e 48 (if long then 40 else 24)
    let (iv, legacy) := Config.unwrap (s.keyBits kek) blob
    if ty = 4 ∧ (!s.keyValid kek ∨ !s.keyKek kek ∨ iv ≠ 0xA6A6A6A6A6A6A6A6) then
      (11, if s.keyValid kek && s.keyKek kek then s.bumpSat CIPH_FRU CIPH_FRU_FAILS else s)
    else
      let s := if ty = 4 then s.bumpSat CIPH_FRU CIPH_FRU_UNWRAPS else s
      let key := if ty = 1 then some (if long then beNat (slice e 48 32) else beNat (slice e 48 16))
                 else if ty = 4 then some legacy else none
      let t := s.putSlot x recd counter key
      let p := t.keyPair x
      if p ≠ x ∧ t.keyValid p ∧
          (t.keyEpoch x ≠ (t.keyEpoch p + 1) % 2 ^ 32 ∨ t.keyStart x < t.keyStart p + 2 * t.keyHem x) then (10, s)
      else (0, t)

/-- The entries in message order: the first failure with its number, or the store they leave (R390). -/
def State.kumEntries (s : State) (ty counter : Nat) (plain : List Byte) : Nat → Nat → Nat × Nat × State
  | 0, _ => (0, 255, s)
  | n + 1, j =>
    let (r, t) := s.kumEntryOp ty counter (kumEntry plain j)
    if r ≠ 0 then (r, j, t) else t.kumEntries ty counter plain n (j + 1)

/-- A slot satisfies the pair rule (R390). -/
def State.pairOk (s : State) (x : Nat) : Bool :=
  let p := s.keyPair x
  !s.keyValid x || p == x || !s.keyValid p || (s.keyPair p == x && s.keyTenant p == s.keyTenant x)

/-- The slots that hold an attribute record. -/
def State.pairScope (s : State) : List Nat :=
  (s.regs.filter (fun p => decide (0x6900000 ≤ p.1) && decide (p.1 < 0x6920000) && (p.1 - 0x6900000) % 32 == 0)).map
    (fun p => (p.1 - 0x6900000) / 32)

/-- The first entry whose slot breaks the pair rule, or is the partner of one that breaks it (R389, R390). -/
def State.pairBad (s : State) (plain : List Byte) (n : Nat) : Option Nat :=
  let bad := s.pairScope.filter (fun x => !s.pairOk x)
  if bad.isEmpty then none
  else some (((List.range n).find? (fun j =>
    bad.any (fun x => x == beAt (kumEntry plain j) 0 2 % 4096 || s.keyPair x == beAt (kumEntry plain j) 0 2 % 4096))).getD (n - 1))

/-- The attribute words of the store. -/
def State.attrWords (s : State) : List (Nat × Word) :=
  s.regs.filter (fun p => decide (0x6900000 ≤ p.1) && decide (p.1 < 0x6920000))

/-- Number of a generation area. -/
def genOf : Option BlobGen → Nat
  | some b => b.gen
  | none => 0

/-- Write the store to the blob area not in use, then the counter record not in use (R391 steps 1 and 2). -/
def State.kumPersist (s : State) (counter : Nat) : State :=
  let m := s.keyMram
  let g := max (genOf m.blob0) (genOf m.blob1) + 1
  let b : BlobGen := { gen := g, counter := counter, attrs := s.attrWords, keys := s.keyMat, sound := true }
  let m := if genOf m.blob0 ≤ genOf m.blob1 then { m with blob0 := some b } else { m with blob1 := some b }
  let cg := max (match m.ctrA with | some x => x.1 | none => 0) (match m.ctrB with | some x => x.1 | none => 0) + 1
  let m := if (match m.ctrA with | some x => x.1 | none => 0) ≤ (match m.ctrB with | some x => x.1 | none => 0)
    then { m with ctrA := some (cg, counter) } else { m with ctrB := some (cg, counter) }
  let o := if genOf s.keyMram.blob0 ≤ genOf s.keyMram.blob1 then 0x7002000 else 0x7081000
  State.mramStored { s with keyMram := m } o 0x7F000

/-- Burn checkpoint steps until none is due (R392); counter 2 first, then counter 3. -/
def State.burnCheckpoint (s : State) (counter : Nat) : Nat → State
  | 0 => s
  | k + 1 =>
    let a := s.otp.therm.getD 2 0
    let b := s.otp.therm.getD 3 0
    if 512 ≤ a + b then s.setFld CIPH_STAT CIPH_STAT_CKPT_END 1
    else if counter < 4096 * (a + b + 1) then s
    else
      let c := if a < 256 then 2 else 3
      if (s.burnStep c).1 then (s.burnStep c).2.burnCheckpoint counter k else (s.burnStep c).2

/-- The counter registers (R392). -/
def State.showCounters (s : State) : State :=
  let used := s.otp.therm.getD 2 0 + s.otp.therm.getD 3 0
  ((s.wr CIPH_KCTR (BitVec.ofNat 32 s.kumCounter)).wr CIPH_KFLOOR (BitVec.ofNat 32 s.kumFloor)).setFld CIPH_KSTEPS
    CIPH_KSTEPS_USED used

/-- The values of a slot's EPOCH record: slot, EPOCH, START, INSTALLED, VALID and KLEN (R417). -/
def State.epochRec (s : State) (x : Nat) : List Nat :=
  [x, (s.rd (KEY_ATTR x 3)).toNat, s.rd64 (KEY_ATTR x 4), (s.rd (KEY_ATTR x 7)).toNat, bits (s.rd (KEY_ATTR x 0)).toNat 31 31,
    bits (s.rd (KEY_ATTR x 0)).toNat 29 29]

/-- EPOCH records of the slots whose attributes differ from those of the state before (R417). -/
def State.epochMirror (s old : State) : State :=
  let slots := ((s.attrWords ++ old.attrWords).map (fun p => (p.1 - 0x6900000) / 32)).eraseDups
  (slots.filter (fun x => (List.range 8).any (fun k => s.rd (KEY_ATTR x k) != old.rd (KEY_ATTR x k)))).foldl
    (fun t x => t.mirror 4 (s.epochRec x)) s

/-- The result of a message that waits at the front, and the state an accepted one leaves (R389 to R391). -/
def State.kumJudge (s : State) (m : List Byte) (persistOk : Bool) : Nat × Nat × State :=
  let counter := beAt m 24 4
  let n := oct m 6
  if !s.flag CIPH_STAT CIPH_STAT_READY || s.flag CIPH_STAT CIPH_STAT_TAMPER then (12, 255, s)
  else if !s.kumFormed m then (2, 255, s)
  else if slice m 8 16 ≠ s.otp.uid then (3, 255, s)
  else if counter ≤ s.kumCounter then (4, 255, s)
  else if s.kumCounter + 4096 < counter then (5, 255, s)
  else if !(match s.roleKey (oct m 7) with
      | some k => Config.ecdsaOk k (slice m 0 (144 + 96 * n)) (slice m (144 + 96 * n) 96)
      | none => false) then (6, 255, s)
  else
    let (ok, plain) := s.kumUnseal m
    if !ok then (7, 255, s)
    else
      let (r, j, t) := s.kumEntries (oct m 5) counter plain n 0
      let u := s.wr CIPH_FRU (t.rd CIPH_FRU)
      if r ≠ 0 then (r, if r = 2 then 255 else j, u)
      else match t.pairBad plain n with
      | some j => (9, j, u)
      | none =>
        if !persistOk then (13, 255, u)
        else
          let t := (((t.kumPersist counter).burnCheckpoint counter 512).showCounters).epochMirror s
          let slots := (List.range n).map (fun j => beAt (kumEntry plain j) 0 2 % 4096)
          (0, 255, State.log (t.showFill.cacheDrop slots) 391 0 (counter :: slots))

/-- The message at the front is judged and, if accepted, applied as one step (R389 to R393);
persistOk: the blob and counter records could be written. -/
def State.kumProcess (s : State) (persistOk : Bool) : State :=
  match s.kumQueue with
  | [] => s
  | q :: rest =>
    let (r, j, t) := s.kumJudge q.octets persistOk
    let t : State := { t with kumQueue := rest }
    t.showQueue.kumResult q.src r j

/-- KEY_STORE_RESTORE, once class 6 is DONE (R385, R392; a tamper record completes the clearing first, R386;
never in SCRAPPED, R559). -/
def State.keyRestoreOp (s : State) : State :=
  if s.lifecycle = 4 || s.flag CIPH_STAT CIPH_STAT_READY || !(s.fld ECC_INIT ECC_INIT_DONE).testBit 6 then s
  else
    let s : State := if s.keyMram.tamper then
        { s with keyMram := { s.keyMram with blob0 := none, blob1 := none, tamper := false } } else s
    let t := match s.keyMram.pick with
      | some b => State.showFill (b.attrs.foldl (fun (t : State) (p : Nat × Word) => t.wr p.1 p.2) { s with keyMat := b.keys })
      | none => (((s.setFld CIPH_STAT CIPH_STAT_RESTORE_ERR 1).setFld CIPH_EVT CIPH_EVT_RESTORE_ERR 1).log 385 0)
    ((t.burnCheckpoint t.kumCounter 512).showCounters).setFld CIPH_STAT CIPH_STAT_READY 1

/-! ### Meanings -/

/-- CIPHER_RESULT, R377: A cipher lane finishes a request and returns its status and output. -/
def execCipherResult (n : Nat) (s : State) : Host.Outcome State Fault Refusal := finish s (s.cipherResultOp n)

/-- LANE_ALARM, R397: A glitch, voltage excursion or pace anomaly resets a cipher lane. -/
def execLaneAlarm (n : Nat) (cause : Nat) (s : State) : Host.Outcome State Fault Refusal := finish s (s.laneAlarmOp n cause)

/-- LANE_RESET_COMPLETE, R397: The lane returns to service after its reset. -/
def execLaneResetComplete (n : Nat) (s : State) : Host.Outcome State Fault Refusal := finish s (s.laneResetOp n)

/-- LANE_ENABLE_WRITE, R398: A write of CIPH_LANEn.EN 1 returns a disabled lane and clears ALM_DIS. -/
def execLaneEnableWrite (i : Iface) (n : Nat) (w : Word) (s : State) : Host.Outcome State Fault Refusal := finish s (s.laneEnableOp i n w)

/-- GLOBAL_TAMPER, R399: A global tamper alarm erases the key store and moves the node to SAFE. -/
def execGlobalTamper (cause : Nat) (s : State) : Host.Outcome State Fault Refusal := finish s (s.globalTamperOp cause)

/-- KEY_UPDATE_SUBMIT, R389: A key-update message is submitted through KUMCMD or the dictionary and queued. -/
def execKeyUpdateSubmit (i : Iface) (w : Word) (octets : List Byte) (s : State) : Host.Outcome State Fault Refusal := finish s (s.kumSubmitOp i w octets)

/-- KEY_STORE_RESTORE, R385: Once class 6 is done, proof unit 1 restores the key store from the newest committed blob generation and sets READY. -/
def execKeyStoreRestore (s : State) : Host.Outcome State Fault Refusal := finish s s.keyRestoreOp


end Sys2Proof.Machine
end

