-- ==== Sys2Proof/Machine/Pace.lean ====
section
/-! DEFINITION. Pace monitors, the pace governors, AVSBus and the degraded levels: spec/02. -/

namespace Sys2Proof.Machine

/-! ### Treated values of the settings -/

def orElse (v d : Nat) : Nat := if v = 0 then d else v

def State.vmax (s : State) : Nat := min (s.fld PACE_VLIM PACE_VLIM_VMAX) 850

/-- VMIN, taken as VMAX where it lies above it (R61). -/
def State.vmin (s : State) : Nat := min (max (s.fld PACE_VLIM PACE_VLIM_VMIN) 650) s.vmax

/-- A target clamped to VMIN to VMAX (R59). -/
def State.clampMv (s : State) (v : Nat) : Nat := min (max v s.vmin) s.vmax

def State.paceEn (s : State) : Bool := s.flag PACE_CTRL PACE_CTRL_EN

/-- The control period in ticks: PERIOD in units of 50 us, 0 and above 20 as 20 (R59). -/
def State.paceTicks (s : State) : Nat :=
  let p := s.fld PACE_CTRL PACE_CTRL_PERIOD
  50 * usTicks * (if p = 0 ∨ 20 < p then 20 else p)

/-- DWELL, 0 as 1 (R64). -/
def State.paceDwell (s : State) : Nat := orElse (s.fld PACE_CTRL PACE_CTRL_DWELL) 1

/-- The monitors of a die (R50). -/
def dieMons (d : Nat) : List Nat := (List.range 16).map (fun k => 16 * d + k)

def State.monFaulty (s : State) (n : Nat) : Bool := s.flag (PACE_MONn n) PACE_MONn_FAULT

/-- The non-faulty monitors of a die. -/
def State.goodMons (s : State) (d : Nat) : List Nat := (dieMons d).filter (fun n => !s.monFaulty n)

def levelFld (d : Nat) : Fld := if d = 0 then PACE_STAT_LEVEL0 else PACE_STAT_LEVEL1
def belowFld (d : Nat) : Fld := if d = 0 then PACE_STAT_BELOW0 else PACE_STAT_BELOW1
def mfaultFld (d : Nat) : Fld := if d = 0 then PACE_STAT_MFAULT0 else PACE_STAT_MFAULT1
def railErrFld (d : Nat) : Fld := if d = 0 then PACE_STAT_RAIL_ERR0 else PACE_STAT_RAIL_ERR1

/-- ALARM_N is low while any of its causes holds it (R65, R399, R507). -/
def State.alarmLow (s : State) : Bool :=
  s.tamperAlarm || s.safeAlarm ||
    (s.flag PACE_CTRL PACE_CTRL_ALARM_EN && (s.fld PACE_STAT PACE_STAT_LEVEL0 == 3 || s.fld PACE_STAT PACE_STAT_LEVEL1 == 3))

/-! ### AVSBus (R55, R57, R60) -/

/-- Start a voltage write with its read-back. -/
def State.avsStart (s : State) (d mv : Nat) : State :=
  let g := s.gov d
  let t := s.setGov d { g with target := mv, started := true, lastCmd := some s.mer,
                               tx := some { mv := mv, attempts := 1, held := none } }
  (t.emitOut (.avs d 0 mv)).emitOut (.avs d 1 mv)

/-- Send a target, clamped: not sent before the Thimble has completed boot (R62), nor when equal to the present target;
during a transaction a raise waits for its end and a lower is dropped (R59, R60). -/
def State.sendTarget (s : State) (d v : Nat) : State :=
  let g := s.gov d
  let mv := s.clampMv v
  if s.pw.boot < 4 then s else
  match g.tx with
  | some x =>
    if g.target < mv then
      s.setGov d { g with tx := some { x with held := some (match x.held with | some h => max h mv | none => mv) } }
    else s
  | none => if mv = g.target then s else s.avsStart d mv

/-- Send a target that software wrote while EN is 0 (R63): during a transaction it waits for its end, up or down, and the
value written last is the one that is sent. -/
def State.sendWritten (s : State) (d v : Nat) : State :=
  let g := s.gov d
  match g.tx with
  | some x => if s.pw.boot < 4 then s else s.setGov d { g with tx := some { x with held := some (s.clampMv v) } }
  | none => s.sendTarget d v

/-- AVS_TRANSACTION_END (R55, R57): res 0 is a response with good CRC and no error, 1 one that reports an error, 2 one
that is missing or has a bad CRC. A failed transaction is repeated up to three times, then AVS_ERR is set and the last
accepted value kept; the status is read after an error response only. -/
def State.avsEndOp (s : State) (rail res : Nat) : State :=
  let g := s.gov rail
  match g.tx with
  | none => s
  | some x =>
    if res = 0 then
      let t := (s.setGov rail { g with tx := none, accepted := x.mv, avsErr := false }).setFld PACE_STAT PACE_STAT_AVS_ERR 0
      match x.held with
      | some h => t.sendTarget rail h
      | none => t
    else
      let s := if res = 1 then s.emitOut (.avs rail 2 x.mv) else s
      if x.attempts < 4 then
        let t := s.setGov rail { g with tx := some { x with attempts := x.attempts + 1 }, lastCmd := some s.mer }
        (t.emitOut (.avs rail 0 x.mv)).emitOut (.avs rail 1 x.mv)
      else
        let t := s.setGov rail { g with tx := none, target := g.accepted, avsErr := true }
        let t := ((t.setFld PACE_STAT PACE_STAT_AVS_ERR 1).setFld PACE_EVT PACE_EVT_AVS 1).log 57 rail [x.mv]
        match x.held with
        | some h => t.sendTarget rail h
        | none => t

/-- RAIL_DEVIATION (R58): the measured rail has differed from the last accepted command by more than
30 mV for longer than 1 ms. -/
def State.railDeviationOp (s : State) (rail mv : Nat) : State :=
  let a := (s.gov rail).accepted
  if mv ≤ a + 30 ∧ a ≤ mv + 30 then s
  else if s.flag PACE_STAT (railErrFld rail) then s
  else ((s.setFld PACE_STAT (railErrFld rail) 1).setFld PACE_EVT PACE_EVT_RAIL 1).log 58 rail [mv, a]

/-! ### Degraded levels (R64 to R67) -/

/-- RUN and CONFIG give way to DEGRADED while a die is at a level, and come back at level 0 (R446, R447). -/
def State.settleDegraded (s : State) : State :=
  let any := s.fld PACE_STAT PACE_STAT_LEVEL0 ≠ 0 ∨ s.fld PACE_STAT PACE_STAT_LEVEL1 ≠ 0
  if any ∧ (s.node = .run ∨ s.node = .config) then State.setNode { s with nodeUnder := s.node } .degraded
  else if ¬any ∧ s.node = .degraded then s.setNode s.nodeUnder
  else s

/-- The non-faulty monitor of a die with the smallest margin, and that margin, as the log gives them (R66).
DESIGN CHOICE (log entry 128): where no monitor of the die is sound the rule names no lowest one, and the record
carries monitor 255 with margin 0. -/
def State.lowestMon (s : State) (d : Nat) : Nat × Int :=
  (s.goodMons d).foldl
    (fun best n =>
      let m := sext 12 (s.fld (PACE_MONn n) PACE_MONn_MARGIN)
      if best.1 = 255 ∨ m < best.2 then (n, m) else best)
    (255, 0)

/-- A change of level, with its event and record (R66). -/
def State.setLevel (s : State) (d l : Nat) : State :=
  let g := s.gov d
  let (n, m) := s.lowestMon d
  let t := (s.setGov d { g with level := l, levelAt := s.mer }).setFld PACE_STAT (levelFld d) l
  let t := (t.setFld PACE_EVT PACE_EVT_LVL 1).log 66 d [g.level, l, s.mer, n, trunc 32 m]
  t.settleDegraded

/-- A non-faulty monitor of the die has been below floor for DWELL whole periods under R64's conditions. -/
def State.inBreach (s : State) (d : Nat) : Bool := (s.goodMons d).any (fun n => s.paceDwell ≤ (s.mon n).breach)

/-- The breach of a die, from its beginning to its end (R64): one that ends and begins again starts anew. -/
def State.trackBreach (s : State) (d : Nat) : State :=
  let g := s.gov d
  if s.inBreach d then (match g.breachAt with | some _ => s | none => s.setGov d { g with breachAt := some s.mer })
  else s.setGov d { g with breachAt := none }

/-- DEGRADED_LEVEL_RAISE: the breach has stood for 10 ms on end at the present level (R64). -/
def State.levelRaiseOp (s : State) (d : Nat) : State :=
  let g := s.gov d
  if g.level ≠ 0 ∧ g.level < 3 ∧ s.inBreach d ∧
      (match g.breachAt with | some a => decide (a + 10 * msTicks ≤ s.mer) | none => false) = true ∧
      g.levelAt + 10 * msTicks ≤ s.mer then s.setLevel d (g.level + 1) else s

/-- DEGRADED_LEVEL_EXIT: every non-faulty monitor has had a margin of at least EXIT for 10 ms (R66). -/
def State.levelExitOp (s : State) (d : Nat) : State :=
  let g := s.gov d
  if g.level ≠ 0 ∧ (match g.okSince with | some a => decide (a + 10 * msTicks ≤ s.mer) | none => false) = true ∧
      g.levelAt + 10 * msTicks ≤ s.mer then s.setLevel d (g.level - 1)
  else s

/-! ### What the levels shed (R65, R67) -/

/-- Staging from a die's stack may read now: freely at level 0, at 2.4 Tbit/s (150 octets a tick) at level 1, not at all
from level 2 on. -/
def State.mayStage (s : State) (d : Nat) : Bool :=
  let g := s.gov d
  if g.level = 0 then true else if g.level = 1 then decide (g.stageFree ≤ 150 * s.mer) else false

/-- A number of octets is read from a die's stack for staging. -/
def State.staged (s : State) (d octets : Nat) : State :=
  let g := s.gov d
  if g.level = 1 then s.setGov d { g with stageFree := max g.stageFree (150 * s.mer) + octets } else s

/-- A data item asks to enter panel p's parser. At level 3 of its die the panel admits three quarters of its 19.2 G/s
lookup floor, 7.2 items a tick, counted in thirty-sixths of a tick; an item beyond that is refused (R28, R65). -/
def State.admitData (s : State) (p : Nat) : Bool × State :=
  if (s.gov (panelDie p)).level < 3 then (true, s)
  else
    let at_ := max (Sparse.get (fun _ => 0) s.admitAt p) (36 * s.mer)
    if at_ < 36 * (s.mer + 1) then (true, { s with admitAt := Sparse.set (fun _ => 0) s.admitAt p (at_ + 5) })
    else (false, s)

/-! ### Monitors (R51 to R54) -/

/-- The margin of a window, for a floor that is not 0 (R51). -/
def paceMargin (count floor : Nat) : Int :=
  max (-2048) (min 2047 (Int.tdiv (((count : Int) - floor) * 1024) floor))

/-- More than two faulty monitors on the die (R53). -/
def State.showMfault (s : State) (d : Nat) : State :=
  s.setFlag PACE_STAT (mfaultFld d) (decide (2 < ((dieMons d).filter (fun n => s.monFaulty n)).length))

/-- Some monitor of a die, faulty or not, was below floor in its last window. -/
def State.showBelow (s : State) (d : Nat) : State :=
  s.setFlag PACE_STAT (belowFld d) ((dieMons d).any (fun n => s.flag (PACE_MONn n) PACE_MONn_BELOW))

/-- Since when every non-faulty monitor's margin has been at least EXIT (R66). DESIGN CHOICE (log entry 128): a die with
no sound monitor meets it, as every one of none does. -/
def State.trackExit (s : State) (d : Nat) : State :=
  let g := s.gov d
  let ok := (s.goodMons d).all
    (fun n => decide ((s.fld PACE_THRESH PACE_THRESH_EXIT : Int) ≤ sext 12 (s.fld (PACE_MONn n) PACE_MONn_MARGIN)))
  if ok then (match g.okSince with | some _ => s | none => s.setGov d { g with okSince := some s.mer })
  else s.setGov d { g with okSince := none }

/-- No voltage command to the rail in the last us microseconds. -/
def quietSince (last : Option Nat) (now us : Nat) : Bool :=
  match last with
  | some a => decide (a + us * usTicks < now)
  | none => true

/-- A window's anomaly (R54): the count differs from the previous one by more than an eighth of it. -/
def countJump (prev : Option Nat) (count : Nat) : Bool :=
  match prev with
  | some p => decide (p < 8 * ((count - p) + (p - count)))
  | none => false

/-- MONITOR_WINDOW_END (R51, R53, R54, R59). -/
def State.monitorWindowOp (s : State) (n count : Nat) : State :=
  let d := n / 16
  let m := s.mon n
  let g := s.gov d
  let floor := s.fld (PACE_FLOORn n) PACE_FLOORn_FLOOR
  let was := s.monFaulty n
  let good := decide (1 ≤ count) && decide (count ≤ 65534)
  let fault := floor == 0 || (!good && m.lastBad) || (was && !(good && m.lastGood))
  let below := decide (count < floor)
  -- the margin of a floor of 0 has no stated value
  let (f, s) := if floor = 0 then s.takeFree else (0, s)
  let margin : Int := if floor = 0 then sext 12 f else paceMargin count floor
  let r := setF (setF (setF (setF (s.rd (PACE_MONn n)) PACE_MONn_COUNT count) PACE_MONn_MARGIN (trunc 12 margin))
    PACE_MONn_BELOW (bit below)) PACE_MONn_FAULT (bit fault)
  let t := s.wr (PACE_MONn n) r
  let t := if fault && !was then (t.setFld PACE_EVT PACE_EVT_MFLT 1).log 53 n [1]
           else if was && !fault then t.log 53 n [0] else t
  let t := (t.showMfault d).showBelow d
  let governs := !was && !fault
  let mm := if governs then some (match m.minMargin with | some x => min x margin | none => margin) else m.minMargin
  let t := t.setMon n { m with prev := some count, lastBad := !good, lastGood := good, windows := m.windows + 1,
                               below := m.below + bit (below && (!s.paceEn || g.target == s.vmax)), minMargin := mm, margin := margin,
                               breach := if below && governs && (!s.paceEn || g.target == s.vmax) then m.breach else 0 }
  let t := (t.trackExit d).trackBreach d
  let t := if countJump m.prev count && quietSince g.lastCmd s.mer 100 then
      (((t.setFld (PACE_MONn n) PACE_MONn_ANOM 1).setFld PACE_EVT PACE_EVT_ANOM 1).laneAlarm (2 * (n / 2)) 3).laneAlarm
        (2 * (n / 2) + 1) 3
    else t
  if below && governs && t.paceEn && g.started && quietSince g.lastEmg s.mer 50 then
    let g := t.gov d
    let want := g.target + orElse (t.fld PACE_CTRL PACE_CTRL_STEP_EMG) 25
    if t.clampMv want = g.target then t.setGov d { g with raised := true }
    else (State.setFld (t.setGov d { g with lastEmg := some s.mer, raised := true }) PACE_EVT PACE_EVT_EMG 1).sendTarget d want
  else t

/-! ### The control period (R59 to R64) -/

/-- A period's share of the breach rule for one monitor: whole periods below floor, while the target is
VMAX or EN is 0 (R64); and the start of its next period. -/
def State.periodMon (s : State) (held : Bool) (n : Nat) : State :=
  let m := s.mon n
  let all := decide (0 < m.windows) && m.below == m.windows && !s.monFaulty n
  s.setMon n { m with breach := if all && held then m.breach + 1 else 0, windows := 0, below := 0, minMargin := none }

/-- The governor's decision at a period's end: the new target, if any (R59, R61, R53). -/
def State.periodTarget (s : State) (d : Nat) : Option Nat :=
  let g := s.gov d
  let good := s.goodMons d
  let last := good.map (fun n => sext 12 (s.fld (PACE_MONn n) PACE_MONn_MARGIN))
  let calm := g.calm + 1
  if s.flag PACE_STAT (mfaultFld d) then some s.vmax
  else if s.clampMv g.target ≠ g.target then some g.target
  else if last.any (fun m => decide (m < (s.fld PACE_THRESH PACE_THRESH_RAISE : Int))) then
    some (g.target + orElse (s.fld PACE_CTRL PACE_CTRL_STEP_UP) 1)
  else if !good.isEmpty && orElse (s.fld PACE_CTRL PACE_CTRL_HOLD) 1 ≤ calm &&
      s.fld PACE_THRESH PACE_THRESH_RAISE < s.fld PACE_THRESH PACE_THRESH_LOWER then
    some (g.target - orElse (s.fld PACE_CTRL PACE_CTRL_STEP_DN) 1)
  else none

/-- The period was calm: every window of every governing monitor lay above LOWER, and nothing was raised. -/
def State.periodCalm (s : State) (d : Nat) : Bool :=
  !(s.gov d).raised && (s.goodMons d).all (fun n =>
    match (s.mon n).minMargin with
    | some x => decide ((s.fld PACE_THRESH PACE_THRESH_LOWER : Int) < x)
    | none => false)

/-- With no calm periods counted. -/
def State.calmless (s : State) (d : Nat) : State := s.setGov d { s.gov d with calm := 0 }

/-- The target that a period's end asks for (R53, R59, R61): without a calm period the count of calm periods is 0, so that
the Lower case does not apply. -/
def State.periodWant (s : State) (d : Nat) : Option Nat :=
  let g := s.gov d
  if !s.paceEn || !g.started then none
  else if s.periodCalm d then s.periodTarget d
  else
    match (s.calmless d).periodTarget d with
    | some v => if s.clampMv v < g.target ∧ s.clampMv g.target = g.target then none else some v
    | none => none

/-- The monitors begin their next period, and the calm periods are counted on. -/
def State.periodOver (s : State) (d : Nat) (want : Option Nat) : State :=
  let g := s.gov d
  let raise := match want with | some v => decide (g.target < s.clampMv v) | none => false
  let t := (dieMons d).foldl (fun t n => t.periodMon (!s.paceEn || g.target == s.vmax) n) s
  t.setGov d { g with calm := if s.periodCalm d && !raise then g.calm + 1 else 0, raised := false, periodAt := s.mer }

/-- A die with a breach goes to level 1 (R64). -/
def State.periodBreach (s : State) (d : Nat) : State :=
  let t := s.trackBreach d
  if (t.gov d).level = 0 && t.inBreach d then t.setLevel d 1 else t

/-- The target that a period asks for is sent; after a failed command no lower one is (R57). -/
def State.periodSend (s : State) (d : Nat) : Option Nat → State
  | some v => if (s.gov d).avsErr && decide (s.clampMv v ≤ (s.gov d).target) then s else s.sendTarget d v
  | none => s

/-- CONTROL_PERIOD_END (R59 to R64), once PERIOD has passed since the period before ended. -/
def State.controlPeriodOp (s : State) (d : Nat) : State :=
  if s.mer < (s.gov d).periodAt + s.paceTicks then s
  else
    let want := s.periodWant d
    ((s.periodOver d want).periodSend d want).periodBreach d

/-! ### Writes -/

/-- PACE_VCMD_WRITE (R63): while EN is 1 the write is ignored; while it is 0 both targets are sent, clamped. -/
def State.vcmdWriteOp (s : State) (i : Iface) (w : Word) : State :=
  s.hostAccess (if s.paceEn then s
    else
      let t := s.typedWrite i PACE_VCMD w
      (t.sendWritten 0 (getF w PACE_VCMD_V0)).sendWritten 1 (getF w PACE_VCMD_V1))

/-- LIM_ERR as the limits, with the values they are treated as, and thresholds have it (R61). -/
def State.showLimErr (s : State) : State :=
  s.setFlag PACE_STAT PACE_STAT_LIM_ERR
    (decide (s.vmax < max (s.fld PACE_VLIM PACE_VLIM_VMIN) 650) ||
     decide (s.fld PACE_THRESH PACE_THRESH_LOWER ≤ s.fld PACE_THRESH PACE_THRESH_RAISE))

/-- PACE_LIMIT_WRITE (R61): of PACE_VLIM or PACE_THRESH. -/
def State.limitWriteOp (s : State) (i : Iface) (vlim : Bool) (w : Word) : State :=
  s.hostAccess (State.showLimErr (s.typedWrite i (if vlim then PACE_VLIM else PACE_THRESH) w))

/-- PACE_EVT_WRITE (R58). -/
def State.paceEvtOp (s : State) (i : Iface) (w : Word) : State :=
  let t := s.typedWrite i PACE_EVT w
  s.hostAccess (if getB w PACE_EVT_RAIL then
      (t.setFld PACE_STAT PACE_STAT_RAIL_ERR0 0).setFld PACE_STAT PACE_STAT_RAIL_ERR1 0
    else t)

/-! ### Meanings -/

/-- MONITOR_WINDOW_END, R51: At the end of each 1.28 us window a pace monitor publishes its count and margin. -/
def execMonitorWindowEnd (n : Nat) (count : Nat) (s : State) : Host.Outcome State Fault Refusal := finish s (s.monitorWindowOp n count)

/-- CONTROL_PERIOD_END, R59: At each control period the governor raises, lowers or holds its rail. -/
def execControlPeriodEnd (d : Nat) (s : State) : Host.Outcome State Fault Refusal := finish s (s.controlPeriodOp d)

/-- DEGRADED_LEVEL_RAISE, R64: A breach that lasts a further 10 ms moves the die up one degraded level. -/
def execDegradedLevelRaise (d : Nat) (s : State) : Host.Outcome State Fault Refusal := finish s (s.levelRaiseOp d)

/-- DEGRADED_LEVEL_EXIT, R66: 10 ms of margin at least EXIT steps the die down one level. -/
def execDegradedLevelExit (d : Nat) (s : State) : Host.Outcome State Fault Refusal := finish s (s.levelExitOp d)

/-- AVS_TRANSACTION_END, R57: An AVSBus transaction completes, or is retried, or fails after four attempts and sets AVS_ERR. -/
def execAvsTransactionEnd (rail : Nat) (res : Nat) (s : State) : Host.Outcome State Fault Refusal := finish s (s.avsEndOp rail res)

/-- RAIL_DEVIATION, R58: A rail more than 30 mV from its command for 1 ms sets RAIL_ERR. -/
def execRailDeviation (rail : Nat) (mv : Nat) (s : State) : Host.Outcome State Fault Refusal := finish s (s.railDeviationOp rail mv)

/-- PACE_VCMD_WRITE, R63: While EN is 0, a write of PACE_VCMD sends the clamped target to the rails. -/
def execPaceVcmdWrite (i : Iface) (w : Word) (s : State) : Host.Outcome State Fault Refusal := finish s (s.vcmdWriteOp i w)

/-- PACE_LIMIT_WRITE, R61: A write of limits or thresholds updates LIM_ERR and applies a moved limit at the next period. -/
def execPaceLimitWrite (i : Iface) (vlim : Bool) (w : Word) (s : State) : Host.Outcome State Fault Refusal := finish s (s.limitWriteOp i vlim w)

/-- PACE_EVT_WRITE, R58: W1C write of PACE_EVT; a 1 in RAIL also clears RAIL_ERR0 and RAIL_ERR1. -/
def execPaceEvtWrite (i : Iface) (w : Word) (s : State) : Host.Outcome State Fault Refusal := finish s (s.paceEvtOp i w)


end Sys2Proof.Machine
end

