-- ==== Sys2Proof/Machine/Switch.lean ====
section
/-! DEFINITION. The switch core: queues in cells, dynamic thresholds, multicast copies, spill and
recall, link aggregation, policers and the flow hash: spec/08. -/

namespace Sys2Proof.Machine

/-! ### Bindings (R33, R34) -/

/-- A binding: the tenant, or none while unbound. -/
def binding (bound : Bool) (t : Nat) : Option Nat := if bound then some t else none

def State.portTenant (s : State) (n : Nat) : Option Nat :=
  binding (s.flag (PORT_CFGn n) PORT_CFGn_BOUND) (s.fld (PORT_CFGn n) PORT_CFGn_TENANT)
def State.busTenant (s : State) (v : Nat) : Option Nat :=
  binding (s.flag (VBn_CFG v) VBn_CFG_BOUND) (s.fld (VBn_CFG v) VBn_CFG_TENANT)
def State.loomTenant (s : State) (n : Nat) : Option Nat :=
  binding (s.flag (LCn_CFG n) LCn_CFG_BOUND) (s.fld (LCn_CFG n) LCn_CFG_TENANT)
def State.plcaTenant (s : State) (m : Nat) : Option Nat :=
  binding (s.flag (PCm_CFG m) PCm_CFG_BOUND) (s.fld (PCm_CFG m) PCm_CFG_TENANT)

/-- Tenant of an Ethernet destination number (R235). -/
def State.ethTenant (s : State) (e : Nat) : Option Nat :=
  if e < 1024 then s.portTenant e else if e < 1040 then s.plcaTenant (e - 1024) else none

/-- Tenant of an ingress of the SRC form. -/
def State.srcTenant (s : State) (src : Nat) : Option Nat :=
  match src / 4096 with
  | 0 => s.portTenant (src % 4096)
  | 1 => s.busTenant (src % 4096)
  | 2 => s.loomTenant (src % 4096)
  | 3 => s.plcaTenant (src % 4096)
  | _ => none

/-! ### Destinations and their queues (R254, R425) -/

/-- The queue a destination has: its number in State.queues. -/
def Dest.key : Dest → Nat
  | .port n q => 32 * n + q
  | .loom n => 32768 + n
  | .plca m q => 33000 + 8 * m + q
  | .vbus v => 34000 + v
  | .seam g _ q => 40000 + 16 * g + q
  | .punt q => 41000 + q
  | .work p _ => 42000 + p

/-- The panel whose fast buffer holds the queue (R22, R23, R254, R425). -/
def Dest.panel : Dest → Nat
  | .port n _ => n / 64
  | .loom n => if n < 32 then 0 else 8
  | .plca m _ => if m < 8 then 0 else 8
  | .vbus v => v / 256
  | .seam g _ _ => 8 * g
  | .punt _ => 0
  | .work _ _ => 0

/-- Destination kind, number and queue as a survey record shows them (R277). -/
def Dest.kindNum : Dest → Nat × Nat × Nat
  | .port n q => (0, n, if q < 16 then q else 31)
  | .vbus v => (1, v, 0)
  | .loom n => (2, n, 0)
  | .plca m q => (3, m, q)
  | .seam _ n q => (0, n, q)
  | .punt q => (5, q, 31)
  | .work p _ => (4, p, 31)

/-- The traffic class of the queue (R254). -/
def Dest.cls : Dest → Nat
  | .port _ q => q % 16
  | .plca _ q => q
  | .seam _ _ q => q
  | _ => 0

/-- The first of the words FAST, SPILLED and DROPS of the queue's entry, if it has one. -/
def Dest.word? : Dest → Option Nat
  | .port n q => some (QUEUE n q + 4)
  | .loom n => some (LOOM_QUEUE n)
  | .plca m q => some (PC_QUEUE m q)
  | .vbus v => some (VB_QUEUE v)
  | _ => none

/-- Most cells of the queue: QMAX, 65,536 for a Seam egress, 16,384 for a punt queue, or 4,096 (R254, R425, R487). -/
def State.qmax (s : State) : Dest → Nat
  | .port n q => if q < 16 then s.fld (QUEUE n q) QUEUE_QMAX else 2 ^ 32
  | .seam _ _ _ => 65536
  | .punt _ => 16384
  | _ => 4096

def State.queue (s : State) (k : Nat) : List QEnt := Sparse.get (fun _ => []) s.queues k

/-- Cells of the entries held in the fast buffer. -/
def fastCells (q : List QEnt) : Nat := (q.filter (fun e => e.place < 2)).foldl (fun a e => a + e.cells) 0

/-- Cells of the entries held in the spill pool. -/
def deepCells (q : List QEnt) : Nat := (q.filter (fun e => 2 ≤ e.place)).foldl (fun a e => a + e.cells) 0

/-- Replace a destination's queue, with the words that show it. -/
def State.setQueue (s : State) (d : Dest) (q : List QEnt) : State :=
  let t : State := { s with queues := Sparse.set (fun _ => []) s.queues d.key q }
  match d.word? with
  | some a =>
    let t := t.setFld a QUEUE_FAST (fastCells q)
    (match d with | .port _ _ => t.setFld (a + 4) QUEUE_SPILLED (deepCells q) | _ => t)
  | none => t

/-! ### Cells (R253, R255 to R259) -/

/-- Cells of 256 octets for a stored length. -/
def cellsOf (l : Nat) : Nat := (l + 255) / 256

def State.sharedFree (s : State) (p : Nat) : Nat := s.fld (CORE_PNLp_FREE p) CORE_PNLp_FREE_SHARED_FREE
def State.ctlFree (s : State) (p : Nat) : Nat := s.fld (CORE_PNLp_FREE p) CORE_PNLp_FREE_CTRL_FREE

/-- A change of F, and with it whether the panel is spilling (R260). -/
def State.setShared (s : State) (p f : Nat) : State :=
  let t := s.setFld (CORE_PNLp_FREE p) CORE_PNLp_FREE_SHARED_FREE f
  let mark := s.fld (CORE_PNLp_SPILLCFG p) CORE_PNLp_SPILLCFG_SPILL_MARK
  let t := if f < mark ∧ mark ≤ s.sharedFree p then t.obs p 0x024 1 else t
  if mark = 0 then t.setFld (CORE_PNLp_STAT p) CORE_PNLp_STAT_SPILLING 0
  else if f < mark then t.setFld (CORE_PNLp_STAT p) CORE_PNLp_STAT_SPILLING 1
  else if mark + s.fld (CORE_PNLp_SPILLCFG p) CORE_PNLp_SPILLCFG_HYST ≤ f then
    t.setFld (CORE_PNLp_STAT p) CORE_PNLp_STAT_SPILLING 0
  else t

def State.setCtlFree (s : State) (p f : Nat) : State :=
  s.setFld (CORE_PNLp_FREE p) CORE_PNLp_FREE_CTRL_FREE f

/-- floor(alpha × F) of a traffic class (R255, R256). -/
def State.threshold (s : State) (p cls f : Nat) : Nat :=
  let w := s.rd (if cls < 8 then CORE_PNLp_ALPHA0 p else CORE_PNLp_ALPHA1 p)
  let e := min 9 (bits w.toNat (4 * (cls % 8) + 3) (4 * (cls % 8)))
  f * 2 ^ e / 64

/-- The admission test of R256 for one copy, against the F before the store; `held` waives c ≤ F (R366). -/
def State.admits (s : State) (p f c : Nat) (yellow held : Bool) (d : Dest) : Bool :=
  let q := s.queue d.key
  let t := s.threshold p d.cls f
  let t := if yellow then t / 2 else t
  decide (fastCells q + c ≤ t) && decide (fastCells q + deepCells q + c ≤ s.qmax d) && (held || decide (c ≤ f))

/-- The path ends at a destination's queue with a discard (R29). -/
def State.dropAt (s : State) (it : Item) (d : Dest) (reason : Nat) : State :=
  if it.bad then s else
  let (k, n, q) := d.kindNum
  (s.dropFor it.tenant reason).pathEnd it
    { kind := k, num := n, queue := q, verdict := reason, panel := d.panel, tsOut := 0 }

/-- A copy refused at its queue: DROPS and the queue-threshold reason (R256, R258). -/
def State.refuseCopy (s : State) (it : Item) (d : Dest) : State :=
  let t := match d.word? with
    | some a => s.count (a + 8)
    | none => s
  let t := t.obs d.panel 0x025 1 (tenant := some it.tenant) (cls := some d.cls)
  t.dropAt it d rQueue

/-- Append a copy of a stored chain to its queue. -/
def State.pushCopy (s : State) (it : Item) (chain c : Nat) (d : Dest) : State :=
  let t := s.setQueue d (s.queue d.key ++ [{ item := it.mark 7 s.mer, dest := d, chain := chain, cells := c, place := 0 }])
  t.obs d.panel 0x020 c (tenant := some it.tenant) (cls := some d.cls)

/-- Take cells for a new chain of n copies. -/
def State.newChain (s : State) (p n shared ctl : Nat) : Nat × State :=
  (s.chainCtr,
    { s with
      chains := Sparse.set (fun _ => { refs := 0, panel := 0, shared := 0, ctl := 0 }) s.chains s.chainCtr
        { refs := n, panel := p, shared := shared, ctl := ctl }
      chainCtr := s.chainCtr + 1 })

/-- One admission at a panel's queue manager (R256 to R258, R366). -/
def State.queueIn (s : State) (p : Nat) (o : Offer) : State :=
  let c := cellsOf o.item.stored
  let f := s.sharedFree p
  if o.copies.isEmpty then (if o.held then s.setShared p (f + c) else s)
  else if o.item.ctl then
    let g := s.ctlFree p
    if g + f < c then
      o.copies.foldl (fun t d => t.dropAt o.item d rQueue)
        ((s.count (CORE_PNLp_CNTc p 5)).setFld CORE_EVT CORE_EVT_CTRL_DROP 1)
    else
      let k := min g c
      let (id, t) := s.newChain p o.copies.length (c - k) k
      let t := (t.setCtlFree p (g - k)).setShared p (f - (c - k))
      o.copies.foldl (fun t d => t.pushCopy o.item id c d) t
  else
    let yellow := o.item.colour == 1
    let ok := o.copies.filter (fun d => s.admits p f c yellow o.held d)
    let t := o.copies.foldl (fun t d => if s.admits p f c yellow o.held d then t else t.refuseCopy o.item d) s
    if ok.isEmpty then (if o.held then t.setShared p (f + c) else t)
    else
      let (id, t) := t.newChain p ok.length c 0
      let t := if o.held then t else t.setShared p (f - c)
      ok.foldl (fun t d => t.pushCopy o.item id c d) t

/-- One copy of a chain ends its path: the count falls, and at 0 each cell returns to its pool (R259). -/
def State.releaseChain (s : State) (id : Nat) : State :=
  let d : Nat → Chain := fun _ => { refs := 0, panel := 0, shared := 0, ctl := 0 }
  let c := Sparse.get d s.chains id
  if c.refs ≤ 1 then
    let t : State := { s with chains := Sparse.erase s.chains id }
    (t.setCtlFree c.panel (s.ctlFree c.panel + c.ctl)).setShared c.panel (s.sharedFree c.panel + c.shared)
  else { s with chains := Sparse.set d s.chains id { c with refs := c.refs - 1 } }

/-- STAT.RECALLING: a recall of some queue of the panel is under way (R262). -/
def State.showRecall (s : State) (p : Nat) : State :=
  s.setFlag (CORE_PNLp_STAT p) CORE_PNLp_STAT_RECALLING
    (s.queues.any (fun q => decide (q.1 < 32768) && q.1 / 2048 == p && q.2.any (fun e => e.place == 3)))

/-- The cells of a queue entry that is taken off its queue (R259, R265): fast cells at once, deep cells of a
discarded frame when SPILL_CELLS_FREED frees them. -/
def State.freeEntry (s : State) (e : QEnt) : State :=
  if 2 ≤ e.place then
    let t : State := { s with deepFreeing := s.deepFreeing ++ [(panelDie e.dest.panel, e.item.tenant, e.cells)],
                              chains := Sparse.erase s.chains e.chain }
    if e.place = 3 then State.showRecall (t.setShared e.dest.panel (t.sharedFree e.dest.panel + e.cells)) e.dest.panel else t
  else
    let t := s.releaseChain e.chain
    if e.place = 1 then
      { t with deepFreeing := t.deepFreeing ++ [(panelDie e.dest.panel, e.item.tenant, e.cells)] }
    else t

/-- R104's time-stamp entry of an item that a destination does not send. -/
def State.unsent (s : State) (it : Item) : Dest → State
  | .port n _ => s.tsqDiscard n it
  | .plca m _ => s.tsqDiscard (1088 + m) it
  | .loom n => s.tsqDiscard (1024 + n) it
  | _ => s

/-- TX_DISCARD of a destination that has one: of a port (R136), a loom channel (R139), a PLCA channel (R168). -/
def State.txDiscard (s : State) : Dest → State
  | .port n _ => s.count64 (PORT_STATSn n 13)
  | .plca m _ => s.count64 (PCm_STATS m 11)
  | .loom n => s.count (LCn_CNT n 7)
  | _ => s

/-- Discard an entry at egress under a reason, with R104's time-stamp entry; TX_DISCARD counts what R116, R118, R121,
R132 and R134 discard, not a poison-tagged frame (R136). -/
def State.discardEntry (s : State) (e : QEnt) (reason : Nat) : State :=
  let t := ((s.freeEntry e).dropAt e.item e.dest reason).unsent e.item e.dest
  if reason = rEgress then t.txDiscard e.dest else t

/-- Why a frame that is not sent is discarded at dequeue: as malformed where a word of it is poison-tagged (R572). -/
def dequeueReason (it : Item) : Nat := if it.poison then rMalformed else rEgress

/-- Empty a destination's queue under the egress reason (R116, R118). -/
def State.flushQueue (s : State) (d : Dest) : State :=
  (s.queue d.key).foldl (fun t e => t.discardEntry e rEgress) (s.setQueue d [])

/-! ### What a port holds, and whether a destination takes items (R116, R118, R425) -/

def State.portLink (s : State) (n : Nat) : Bool := s.flag (PORT_STATn n) PORT_STATn_LINK

/-- A destination takes items: the port is enabled with its link up, the channel's PHY link is up, the Seam is up. -/
def State.destLive (s : State) : Dest → Bool
  | .port n _ => s.portEn n && s.portLink n
  | .plca m _ => s.flag (PCm_CFG m) PCm_CFG_EN && s.flag (PCm_STAT m) PCm_STAT_LINK
  | .seam _ _ _ => s.flag SEAM_STAT SEAM_STAT_UP
  | _ => true

/-- An arriving copy for a destination that takes none is discarded (R116, R118, R168, R425). -/
def State.refuseDead (s : State) (it : Item) (d : Dest) : State :=
  let t := s.dropAt it d rEgress
  if it.bad then t
  else
    let t := (t.unsent it d).txDiscard d
    match d with
    | .seam _ _ _ => t.count (SEAM_CNTc 8)
    | _ => t

/-- A copy whose destination is no longer bound to the tenant it was sent to (R34). -/
def State.refuseStranger (s : State) (it : Item) (d : Dest) : State := (s.dropAt it d rTenant).unsent it d

/-- One item that a function of the device sends is handed to a queue, or discarded where its destination takes none. -/
def State.queueOne (s : State) (it : Item) (d : Dest) : State :=
  if s.destLive d then s.queueIn d.panel { item := it, copies := [d], held := false } else s.refuseDead it d


def State.port (s : State) (n : Nat) : PortSt := Sparse.get (fun _ => PortSt.reset) s.ports n
def State.setPort (s : State) (n : Nat) (x : PortSt) : State :=
  { s with ports := Sparse.set (fun _ => PortSt.reset) s.ports n x }

/-- Frames wait or are in transmission in queue q of port n. -/
def State.portQ (s : State) (n q : Nat) : List QEnt := s.queue (Dest.port n q).key

/-- Every queue of a port is empty. -/
def State.queuesEmpty (s : State) (n : Nat) : Bool := (List.range 17).all (fun q => (s.portQ n q).isEmpty)

/-- Frames of port n have left its queues: where that emptied them all, R135 counts from now. -/
def State.noteIdle (s : State) (n : Nat) : State :=
  if s.queuesEmpty n then s.setPort n { s.port n with idleAt := s.mer } else s

/-- Discard everything queued for a port but the frames in transmission (R116, R118). -/
def State.flushPort (s : State) (n : Nat) : State :=
  let keep (q : Nat) : Bool :=
    (match (s.port n).tx with | some t => t.q == q | none => false) ||
      (match (s.port n).rem with | some t => t.q == q | none => false)
  if s.queuesEmpty n then s
  else ((List.range 17).foldl (fun t q =>
    let l := t.portQ n q
    if keep q then (l.drop 1).foldl (fun u e => u.discardEntry e rEgress) (t.setQueue (.port n q) (l.take 1))
    else t.flushQueue (.port n q)) s).noteIdle n

/-! ### Flow hash (R266, R267) -/

/-- H of a 64-octet key with a seed. -/
def hashOf (seed : Nat) (key : List Byte) : Nat := (crcRun 0x82F63B78 seed key) ^^^ 0xFFFFFFFF

def State.hashSeed (s : State) (k : Nat) : Nat := (s.rd (CORE_HSEEDk k)).toNat

/-- Octets 0–3 of every key. -/
def hashHead (tenant src : Nat) : List Byte := natBe 2 (tenant % 1024) ++ natBe 2 (src % 2 ^ 14)

/-- The hash of a bus PDU. -/
def State.hashPdu (s : State) (it : Item) : Nat :=
  hashOf (s.hashSeed 0) (hashHead it.tenant it.src ++
    natBe 4 (it.fmt * 2 ^ 30 + bit it.ide * 2 ^ 29 + it.ident % 2 ^ 29) ++ List.replicate 56 0)

/-- The hash of a bobbin release. -/
def State.hashBobbin (s : State) (tenant b : Nat) : Nat :=
  hashOf (s.hashSeed 0) (natBe 2 (tenant % 1024) ++ natBe 2 (0x8000 + b) ++ List.replicate 60 0)

/-! ### Link aggregation (R270, R271, R430, R431) -/

/-- Member i of group a: its TWIN bit and port. -/
def State.lagMember (s : State) (a i : Nat) : Bool × Nat :=
  let w := (s.rd (LAG a + 4 * (8 + i / 2))).toNat >>> (16 * (i % 2))
  (w.testBit 15, w % 1024)

def State.lagValid (s : State) (a : Nat) : Bool := s.flag (LAG a) LAG_VALID
def State.lagSize (s : State) (a : Nat) : Nat := s.fld (LAG a) LAG_NMEM

/-- A 64-bit mask of a group, of word pair w (high word first). -/
def State.lagMask (s : State) (a w : Nat) : Nat :=
  (s.rd (LAG a + 4 * (w + 1))).toNat + 2 ^ 32 * (s.rd (LAG a + 4 * w)).toNat

def State.setLagActive (s : State) (a m : Nat) : State :=
  (s.wr (LAG a + 16) (BitVec.ofNat 32 (m >>> 32))).wr (LAG a + 20) (BitVec.ofNat 32 m)

/-- The member slot k of a group names. -/
def State.lagSlot (s : State) (a k : Nat) : Nat := bits (s.rd (LAG a + 4 * (64 + k / 4))).toNat (8 * (k % 4) + 5) (8 * (k % 4))

def State.setLagSlot (s : State) (a k i : Nat) : State :=
  s.setFld (LAG a + 4 * (64 + k / 4)) ⟨8 * (k % 4) + 5, 8 * (k % 4)⟩ i

/-- A member may be active (R271, R430). -/
def State.lagFit (s : State) (a i : Nat) : Bool :=
  let (twin, n) := s.lagMember a i
  let track := s.flag (LAG a) LAG_TRACK
  (s.lagMask a 2).testBit i && decide (i < s.lagSize a) &&
    (if twin then s.flag SEAM_STAT SEAM_STAT_UP && (!track || s.twinPortUp.contains n)
     else !track || s.flag (PORT_STATn n) PORT_STATn_LINK)

/-- The active members, in member-index order. -/
def State.lagActives (s : State) (a : Nat) : List Nat :=
  (List.range (s.lagSize a)).filter (fun i => (s.lagMask a 4).testBit i)

/-- Give a list of slots to the active members in turn (R271). -/
def State.lagDeal (s : State) (a : Nat) (slots : List Nat) : State :=
  let act := s.lagActives a
  if act.isEmpty then s
  else (slots.foldl (fun (p : State × Nat) k => (p.1.setLagSlot a k (act.getD (p.2 % act.length) 0), p.2 + 1)) (s, 0)).1

/-- Members that may be active join the active set; the first to join takes every slot (R271). -/
def State.lagRefresh (s : State) (a : Nat) : State :=
  if !s.lagValid a then s
  else
    let old := s.lagMask a 4
    let new := (List.range (s.lagSize a)).foldl (fun m i => if s.lagFit a i then m ||| 2 ^ i else m) old
    if new = old then s
    else
      let t := (s.setLagActive a new).setFld CORE_EVT CORE_EVT_LAG_CHG 1
      if old = 0 then t.lagDeal a (List.range 256) else t

/-- The valid groups. -/
def State.lagGroups (s : State) : List Nat := (List.range 256).filter s.lagValid

/-- LAG_MEMBER_LEAVE: a member that may no longer be active leaves, and its slots go to the remaining
active members in turn (R271, R431). -/
def State.lagLeaveOp (s : State) (a i : Nat) : State :=
  if !s.lagValid a || !(s.lagMask a 4).testBit i || s.lagFit a i then s
  else
    let t := (s.setLagActive a (s.lagMask a 4 - 2 ^ i)).setFld CORE_EVT CORE_EVT_LAG_CHG 1
    t.lagDeal a ((List.range 256).filter (fun k => s.lagSlot a k == i))

/-- The items queued on a member that leaves are discarded as for a stopped port (R116, R271, R425). -/
def State.lagFlush (s : State) (m : Bool × Nat) : State :=
  match m with
  | (false, n) => s.flushPort n
  | (true, n) =>
    [0, 1].foldl (fun u g => (List.range 16).foldl (fun u q =>
      let l := u.queue (Dest.seam g n q).key
      let here (e : QEnt) : Bool := match e.dest with | .seam _ m _ => m == n | _ => false
      (l.filter here).foldl (fun v e => (v.discardEntry e rEgress).count (SEAM_CNTc 8))
        (u.setQueue (.seam g n q) (l.filter (fun e => !here e)))) u) s

/-- LAG_MEMBER_LEAVE, with the items queued on the member (R116, R271). -/
def State.lagLeaveFullOp (s : State) (a i : Nat) : State :=
  let t := s.lagLeaveOp a i
  if !(s.lagMask a 4).testBit i || (t.lagMask a 4).testBit i then t else t.lagFlush (s.lagMember a i)

/-- The members of group a as a commit leaves them: an index that names another port than before, or none, leaves at
once; the others keep their slots, and what may be active joins and waits for slots (R271). `old`: the state before. -/
def State.lagRecast (s old : State) (a : Nat) : State :=
  let was := if old.lagValid a then old.lagMask a 4 else 0
  let gone := (List.range 64).filter (fun i => was.testBit i && (decide (s.lagSize a ≤ i) || old.lagMember a i != s.lagMember a i))
  let t := s.setLagActive a (gone.foldl (fun m i => m - 2 ^ i) was)
  let t := t.lagDeal a ((List.range 256).filter (fun k => gone.contains (old.lagSlot a k)))
  let t := gone.foldl (fun t i => t.lagFlush (old.lagMember a i)) t
  State.lagRefresh (if gone.isEmpty then t else t.setFld CORE_EVT CORE_EVT_LAG_CHG 1) a

/-- How many slots a member holds. -/
def State.lagHeld (s : State) (a i : Nat) : Nat := ((List.range 256).filter (fun k => s.lagSlot a k == i)).length

/-- No item that slot k distributed is queued for, or on its way to, its old member (R271). -/
def State.lagQuiet (s : State) (a k : Nat) : Bool :=
  let (twin, n) := s.lagMember a (s.lagSlot a k)
  let hits (d : Dest) : Bool := match d with
    | .port m _ => !twin && m == n
    | .seam _ m _ => twin && m == n
    | _ => false
  !(s.queues.any (fun q => q.2.any (fun e => hits e.dest && e.item.hash % 256 == k))) &&
    !(s.offers.any (fun q => q.2.any (fun o => o.item.hash % 256 == k && o.copies.any hits)))

/-- The largest and the smallest holder among the active members, first of equals. -/
def State.lagEnds (s : State) (a : Nat) : Option (Nat × Nat) :=
  match s.lagActives a with
  | [] => none
  | i :: rest =>
    some (rest.foldl (fun b j => if s.lagHeld a b < s.lagHeld a j then j else b) i,
      rest.foldl (fun b j => if s.lagHeld a j < s.lagHeld a b then j else b) i)

/-- LAG_SLOT_MOVE: the highest slot of the member that holds most moves to the member that holds fewest, once
nothing it carried is in flight (R271). -/
def State.lagMoveOp (s : State) (a : Nat) : State :=
  if !s.lagValid a then s
  else
    match s.lagEnds a with
    | none => s
    | some (most, least) =>
      if s.lagHeld a most ≤ s.lagHeld a least + 1 then s
      else
        match ((List.range 256).filter (fun k => s.lagSlot a k == most)).getLast? with
        | none => s
        | some k => if s.lagQuiet a k then s.setLagSlot a k least else s

/-- The valid group a port of this Zalore is a member of (R270). -/
def State.lagOf (s : State) (n : Nat) : Option Nat :=
  s.lagGroups.find? (fun a => (List.range (s.lagSize a)).any (fun i => s.lagMember a i == (false, n)))

/-- The data queue of an item at port n (R124). -/
def State.queueOf (s : State) (it : Item) (n : Nat) : Nat :=
  if it.ctl then 16 else it.queue.getD (bits (s.rd (PORT_PCPQn n)).toNat (4 * it.pcp + 3) (4 * it.pcp))

/-- The port or Seam egress that an item for group a goes to (R270, R271, R425); none with an empty active set. -/
def State.lagVia (s : State) (it : Item) (a : Nat) : Option Dest :=
  if s.lagActives a = [] then none
  else
    let (twin, m) := s.lagMember a (s.lagSlot a (it.hash % 256))
    let q := s.queueOf it m
    if twin then some (.seam (panelDie it.here) m q) else some (.port m q)

/-- Where an item for port n goes. -/
def State.lagDest (s : State) (it : Item) (n : Nat) : Option Dest :=
  match s.lagOf n with
  | none => some (.port n (s.queueOf it n))
  | some a => s.lagVia it a

/-! ### Handing items to queues -/

/-- Put an admission on a panel's list. -/
def State.offer (s : State) (p : Nat) (o : Offer) : State :=
  { s with offers := Sparse.set (fun _ => []) s.offers p (Sparse.get (fun _ => []) s.offers p ++ [o]) }

/-- An item that leaves its panel for one of the other die crosses with a 16-octet descriptor (R31, R580). -/
def State.crossed (s : State) (it : Item) (p : Nat) (cls : Option Nat := none) : State :=
  let from_ := it.here
  if panelDie from_ = panelDie p then s else s.obs from_ 0x030 (it.stored + 16) (cls := cls)

/-- The tenant that a destination with a queue is bound to (R34). -/
def State.destOwner (s : State) : Dest → Option Nat
  | .port n _ => s.portTenant n
  | .plca m _ => s.srcTenant (12288 + m)
  | .loom n => s.srcTenant (8192 + n)
  | .vbus v => s.srcTenant (4096 + v)
  | _ => none

/-- Deliver copies of one item: one admission for each panel (R258), a work request for a program (R290),
a punt for a punt queue (R487). For a panel whose crossing path is full the item is discarded whole, and counted once,
unless it is of control class (R31, R32). -/
def State.deliver (s : State) (it : Item) (ds : List Dest) (held : Bool := false) (full : List Nat := []) : State :=
  let t := (List.range 16).foldl
    (fun t p =>
      let here := ds.filter (fun d => d.panel == p && (match d with | .punt _ => false | .work _ _ => false | _ => true))
      if here.isEmpty then t
      else if !it.ctl && full.contains p && panelDie it.here != panelDie p then t.dropAt it (here.headD (.punt 0)) rCrossing
      else (t.crossed it p (here.head?.map Dest.cls)).offer p
        { item := it, copies := here, held := held, own := here.map s.destOwner, single := ds.length == 1 }) s
  ds.foldl
    (fun t d => match d with
      | .work g k => { t with workIn := t.workIn ++ [{ item := it, prog := g, desc := k, kind := 0, held := none }] }
      | .punt q => { t with puntIn := Sparse.set (fun _ => []) t.puntIn q (Sparse.get (fun _ => []) t.puntIn q ++ [(it, 0)]) }
      | _ => t) t

/-- Punt an item: `why` is its CAUSE, with 16 × the filter rule and 2^20 where an inter-tenant descriptor names the
queue (R487, R488). A punted item crosses to panel 0. -/
def State.puntTo (s : State) (it : Item) (q why : Nat) (full : List Nat := []) : State :=
  if !it.ctl && full.contains 0 && panelDie it.here != 0 then s.dropAt it (.punt q) rCrossing
  else
    let s := s.crossed it 0 (some (Dest.punt q).cls)
    { s with puntIn := Sparse.set (fun _ => []) s.puntIn q (Sparse.get (fun _ => []) s.puntIn q ++ [(it, why)]) }

/-! ### Spill and recall (R260 to R265) -/

/-- Cells of half a spill pool: 8 GiB (R41). -/
def spillHalf : Nat := 2 ^ 25

def spillUse (die : Nat) : Nat := if die = 0 then CORE_SPUSE0 else CORE_SPUSE1

/-- Deep cells taken by a spill (R261, R265). -/
def State.deepTake (s : State) (die tenant c : Nat) : State :=
  (s.setFld (spillUse die) CORE_SPUSE0_CELLS (s.fld (spillUse die) CORE_SPUSE0_CELLS + c)).setFld (SPILLCAP tenant + 4)
    SPILLCAP_USED (s.fld (SPILLCAP tenant + 4) SPILLCAP_USED + c)

/-- Deep cells free again. -/
def State.deepFree (s : State) (die tenant c : Nat) : State :=
  (s.setFld (spillUse die) CORE_SPUSE0_CELLS (s.fld (spillUse die) CORE_SPUSE0_CELLS - c)).setFld (SPILLCAP tenant + 4)
    SPILLCAP_USED (s.fld (SPILLCAP tenant + 4) SPILLCAP_USED - c)

/-- The spill cap, the pool and SPILL_EN have room for a frame (R261, R265). -/
def State.spillRoom (s : State) (die tenant c : Nat) : Bool :=
  s.flag CORE_CTRL CORE_CTRL_SPILL_EN &&
    (!s.flag (SPILLCAP tenant) SPILLCAP_EN ||
      decide (s.fld (SPILLCAP tenant + 4) SPILLCAP_USED + c ≤ s.fld (SPILLCAP tenant) SPILLCAP_CAP * 1024)) &&
    decide (s.fld (spillUse die) CORE_SPUSE0_CELLS + c ≤ spillHalf)

/-- Entries of a queue with their number and the cells before them. -/
def withOffsets (q : List QEnt) : List (Nat × Nat × QEnt) :=
  (q.foldl (fun (a : List (Nat × Nat × QEnt) × Nat) e => (a.1 ++ [(a.1.length, a.2, e)], a.2 + e.cells)) ([], 0)).1

/-- Fast-resident cells of a queue beyond its first `mark` cells. -/
def beyond (mark : Nat) (q : List QEnt) : Nat :=
  (withOffsets q).foldl (fun a x => if x.2.2.place = 0 then a + min x.2.2.cells (x.2.1 + x.2.2.cells - mark) else a) 0

/-- Entry i of the queue may be spilled but for cap, pool and SPILL_EN (R261). -/
def State.mayspill (s : State) (mark : Nat) (x : Nat × Nat × QEnt) : Bool :=
  x.1 != 0 && x.2.2.place == 0 && decide (mark ≤ x.2.1) &&
    (Sparse.get (fun _ => { refs := 0, panel := 0, shared := 0, ctl := 0 }) s.chains x.2.2.chain).refs == 1

/-- The spill-enabled data queues of a panel that hold anything, in port then queue order. -/
def State.spillQueues (s : State) (p : Nat) : List Nat :=
  (s.queues.filter (fun q => decide (q.1 < 32768) && q.1 / 2048 == p && decide (q.1 % 32 < 16) &&
    s.flag (QUEUE (q.1 / 32) (q.1 % 32)) QUEUE_SPILL_EN)).map (fun q => q.1)

/-- The victim: most fast-resident cells beyond the mark, the lowest of equals (R260). -/
def State.spillVictim (s : State) (p mark : Nat) : Option Nat :=
  (s.spillQueues p).foldl
    (fun b k => if beyond mark (s.queue k) = 0 then b
      else match b with
        | none => some k
        | some j => if beyond mark (s.queue j) < beyond mark (s.queue k) then some k else b) none

/-- The newest frame of queue k that may be spilled now: its index, its cells' offset and the entry (R261, R265). -/
def State.spillPick (s : State) (p k : Nat) : Option (Nat × Nat × QEnt) :=
  ((withOffsets (s.queue k)).filter (s.mayspill (s.fld (CORE_PNLp_RECALL p) CORE_PNLp_RECALL_RECALL_MARK))).filter
    (fun x => s.spillRoom (panelDie p) x.2.2.item.tenant x.2.2.cells) |>.getLast?

/-- Some queue of the panel holds an eligible frame (R260, R261). -/
def State.spillAny (s : State) (p : Nat) : Bool := (s.spillQueues p).any (fun k => (s.spillPick p k).isSome)

/-- The victim holds no frame that could be spilled even with room for it. -/
def State.spillBarren (s : State) (p k : Nat) : Bool :=
  ((withOffsets (s.queue k)).filter (s.mayspill (s.fld (CORE_PNLp_RECALL p) CORE_PNLp_RECALL_RECALL_MARK))).isEmpty

/-- The first entry of a panel's port queues at a place, with its queue. -/
def State.firstAt (s : State) (p place : Nat) : Option (Nat × Nat × QEnt) :=
  (s.queues.filter (fun q => decide (q.1 < 32768) && q.1 / 2048 == p)).foldl
    (fun b q => match b with
      | some x => some x
      | none =>
        match (withOffsets q.2).find? (fun x => x.2.2.place == place) with
        | some x => some (q.1, x.1, x.2.2)
        | none => none) none

/-- SPILL_WRITE_COMPLETE: a frame's spill write is complete, and its fast cells are freed (R261). -/
def State.spillDoneOp (s : State) (p : Nat) : State :=
  match s.firstAt p 1 with
  | none => s
  | some (k, i, e) =>
    let t := s.setQueue (.port (k / 32) (k % 32)) (setAt (s.queue k) i { e with place := 2 })
    let t := t.count (CORE_PNLp_CNTc p 0)
    let t := (t.obs p 0x022 e.cells (tenant := some e.item.tenant) (cls := some e.dest.cls)).releaseChain e.chain
    t.obsDie (panelDie p) 0x071 (256 * e.cells)

/-- Cells of the fast prefix of a queue (R262). -/
def fastPrefix (q : List QEnt) : Nat :=
  (q.takeWhile (fun e => e.place < 2)).foldl (fun a e => a + e.cells) 0

/-- A queue of the panel that needs a recall and the oldest spilled frame of it: the queue's number, the frame's
index, its cells' offset and its entry (R262). -/
def State.recallPick (s : State) (p : Nat) : Option (Nat × Nat × Nat × QEnt) :=
  match s.queues.find? (fun q => decide (q.1 < 32768) && q.1 / 2048 == p && q.2.any (fun e => e.place == 2) &&
      decide (fastPrefix q.2 < s.fld (CORE_PNLp_RECALL p) CORE_PNLp_RECALL_RECALL_MARK) &&
      !q.2.any (fun e => e.place == 3)) with
  | none => none
  | some q => ((withOffsets q.2).find? (fun x => x.2.2.place == 2)).map (fun x => (q.1, x))

/-- A recall of the panel falls due and has the cells it needs. -/
def State.recallDue (s : State) (p : Nat) : Bool :=
  match s.recallPick p with
  | some (_, _, _, e) => decide (e.cells ≤ s.sharedFree p)
  | none => false

/-- SPILL_FRAME: a spilling panel starts to move the newest eligible frame of its victim queue (R260, R261, R265), unless
a recall of the panel can go on, which has priority (R262). Spilling ends when no frame of the panel is eligible, and
with SPILL_MARK at 0 (R260). -/
def State.spillFrameOp (s : State) (p : Nat) : State :=
  let stop : State := s.setFld (CORE_PNLp_STAT p) CORE_PNLp_STAT_SPILLING 0
  if !s.flag (CORE_PNLp_STAT p) CORE_PNLp_STAT_SPILLING then s
  else if s.fld (CORE_PNLp_SPILLCFG p) CORE_PNLp_SPILLCFG_SPILL_MARK = 0 then stop
  else if s.recallDue p then s
  else
    match s.spillVictim p (s.fld (CORE_PNLp_RECALL p) CORE_PNLp_RECALL_RECALL_MARK) with
    | none => stop
    | some k =>
      match s.spillPick p k with
      | some x =>
        (s.setQueue (.port (k / 32) (k % 32))
          (setAt (s.queue k) x.1 { x.2.2 with place := 1, item := { x.2.2.item with spilled := true } })).deepTake
          (panelDie p) x.2.2.item.tenant x.2.2.cells
      | none =>
        let t := if s.spillAny p then s else stop
        if s.spillBarren p k then t
        else (t.count (CORE_PNLp_CNTc p 2)).setFld CORE_EVT CORE_EVT_SPILL_FULL 1

/-- RECALL_FRAME: the oldest spilled frame of a queue whose fast prefix is short is recalled (R262). -/
def State.recallFrameOp (s : State) (p : Nat) : State :=
  match s.recallPick p with
  | none => s
  | some (k, i, _, e) =>
    if s.sharedFree p < e.cells then s
    else
      let t := s.setQueue (.port (k / 32) (k % 32)) (setAt (s.queue k) i { e with place := 3 })
      (t.setShared p (s.sharedFree p - e.cells)).showRecall p

/-- RECALL_COMPLETE: the frame is fast-resident again, or discarded when its data carries an
uncorrectable error (R262, R263). -/
def State.recallDoneOp (s : State) (p : Nat) (bad : Bool) : State :=
  match s.firstAt p 3 with
  | none => s
  | some (k, i, e) =>
    let d : Dest := .port (k / 32) (k % 32)
    let t := s.deepFree (panelDie p) e.item.tenant e.cells
    let t := t.obsDie (panelDie p) 0x070 (256 * e.cells)
    if bad then
      let t := t.setQueue d ((s.queue k).eraseIdx i)
      let t := (t.setShared p (t.sharedFree p + e.cells)).dropAt e.item d rMalformed
      let t : State := { t with chains := Sparse.erase t.chains e.chain }
      (((t.tsqDiscard (k / 32) e.item).count (CORE_PNLp_CNTc p 3)).setFld CORE_EVT CORE_EVT_SPILL_ERR 1).showRecall p |>.noteIdle (k / 32)
    else
      let (id, t) := t.newChain p 1 e.cells 0
      let t : State := { t with chains := Sparse.erase t.chains e.chain }
      let t := t.setQueue d (setAt (s.queue k) i { e with place := 0, chain := id })
      ((t.count (CORE_PNLp_CNTc p 1)).showRecall p).obs p 0x023 e.cells (tenant := some e.item.tenant) (cls := some d.cls)

/-- SPILL_CELLS_FREED: deep cells of a stopped port's spilled frames are free again (R265). -/
def State.deepFreedOp (s : State) : State :=
  match s.deepFreeing with
  | [] => s
  | (die, ten, c) :: rest => State.deepFree { s with deepFreeing := rest } die ten c

/-! ### Policers (R272 to R274) -/

/-- MANT × 2^EXP bit/s. -/
def rateOf (w : Word) : Nat := getF w POLICER_MANT * 2 ^ getF w POLICER_EXP

/-- One decision: 0 green, 1 yellow, 2 red, and the buckets it leaves (R273). -/
def polDecide (st : PolSt) (w cir pir : Word) (cbs pbs l now : Nat) (dei : Bool) : Nat × PolSt :=
  let dt := (now + 2 ^ 64 - st.last) % 2 ^ 64
  let c := rateOf cir
  let p := max c (rateOf pir)
  let tc := min (cbs * 2 ^ 24) (st.tc + c * dt * 2 ^ 24 / 16000000000)
  let tp := min (pbs * 2 ^ 24) (st.tp + p * dt * 2 ^ 24 / 16000000000)
  let need := l * 2 ^ 24
  if tp < need then (2, { tc := tc, tp := tp, last := now })
  else if tc < need ∨ (getB w POLICER_CAWARE ∧ dei) then (1, { tc := tc, tp := tp - need, last := now })
  else (0, { tc := tc - need, tp := tp - need, last := now })

/-- The policer's owner is the tenant (R220, R272). -/
def State.polOwned (s : State) (k tenant : Nat) : Bool :=
  s.flag (POLICER_OWNER (k / 64)) POLICER_OWNER_ASSIGNED && s.fld (POLICER_OWNER (k / 64)) POLICER_OWNER_TENANT == tenant

/-- Police an item with policer k: the item that goes on, or none when it is discarded (R220, R272, R273). -/
def State.police (s : State) (it : Item) (panel k : Nat) : Option Item × State :=
  let w := s.rd (POLICER k)
  if !s.polOwned k it.tenant then (none, s.dropItem it rTenant)
  else if k / 16384 ≠ panel then
    (none, ((s.dropItem it rPolicer).count (CORE_PNLp_CNTc panel 7)).setFld CORE_EVT CORE_EVT_POL_REMOTE 1)
  else if !getB w POLICER_VALID then (some it, s)
  else
    let l := (max 1 ((it.stored : Int) + sext 8 (getF w POLICER_ADJ))).toNat
    let st := Sparse.get (fun _ => PolSt.reset) s.pols k
    let (c, st) := polDecide st w (s.rd (POLICER k + 4)) (s.rd (POLICER k + 8)) (s.fld (POLICER k + 12) POLICER_CBS)
      (s.fld (POLICER k + 16) POLICER_PBS) l s.mer (it.eth && it.dei)
    let t : State := { s with pols := Sparse.set (fun _ => PolSt.reset) s.pols k st }
    let t := (t.count (POLICER k + 20 + 4 * c)).obs panel (0x010 + c) 1 (tenant := some it.tenant) (cls := some it.pcp)
    let it := it.mark 3 s.mer
    let act := getF w POLICER_YACT
    if c = 2 ∨ (c = 1 ∧ act = 2) then (none, t.dropItem it rPolicer)
    else if c = 1 then (some { it with colour := 1, setDei := it.setDei || act == 1 }, t)
    else (some it, t)

/-! ### Meanings -/

/-- SPILL_FRAME, R260: A spilling panel moves a victim frame into the spill pool. -/
def execSpillFrame (p : Nat) (s : State) : Host.Outcome State Fault Refusal := finish s (s.spillFrameOp p)

/-- SPILL_WRITE_COMPLETE, R261: A frame's spill write completes and its fast cells are freed. -/
def execSpillWriteComplete (p : Nat) (s : State) : Host.Outcome State Fault Refusal := finish s (s.spillDoneOp p)

/-- RECALL_FRAME, R262: A short fast prefix makes the panel recall the oldest spilled frame. -/
def execRecallFrame (p : Nat) (s : State) : Host.Outcome State Fault Refusal := finish s (s.recallFrameOp p)

/-- RECALL_COMPLETE, R263: A recall completes and the frame becomes eligible. -/
def execRecallComplete (p : Nat) (bad : Bool) (s : State) : Host.Outcome State Fault Refusal := finish s (s.recallDoneOp p bad)

/-- SPILL_CELLS_FREED, R265: Deep cells of a stopped port's spilled frames become free. -/
def execSpillCellsFreed (s : State) : Host.Outcome State Fault Refusal := finish s s.deepFreedOp

/-- LAG_MEMBER_LEAVE, R271: A member leaving the active set has its slots reassigned. -/
def execLagMemberLeave (a : Nat) (i : Nat) (s : State) : Host.Outcome State Fault Refusal := finish s (s.lagLeaveFullOp a i)

/-- LAG_SLOT_MOVE, R271: A slot moves to a joining member when nothing it carried is in flight. -/
def execLagSlotMove (a : Nat) (s : State) : Host.Outcome State Fault Refusal := finish s (s.lagMoveOp a)


end Sys2Proof.Machine
end

