-- ==== Sys2Proof/Machine/Frames.lean ====
section
/-! DEFINITION. Ethernet frames and their tags, tenant bindings, Ethernet destination numbers and
multicast groups: spec/01 R33 to R37, spec/04 R122 to R124, spec/07 R235, R237, R240, R241. -/

namespace Sys2Proof.Machine

/-! ### Stamps -/

/-- The tenant stamp of a Meridian stamp: the tenant's view of it, or itself where no tenant is bound (R101, R141). -/
def State.tenantStamp (s : State) (t : Option Nat) (m : Nat) : Nat :=
  match t with
  | some k => s.viewAt k m
  | none => m

/-! ### Tags (R122, R123) -/

/-- The TPID of a port. -/
def State.portTpid (s : State) (n : Nat) : Nat :=
  match s.fld (PORT_TAGn n) PORT_TAGn_TPID_SEL with
  | 1 => 0x88A8
  | 2 => s.fld PORT_GCTRL PORT_GCTRL_TPID_ALT
  | _ => 0x8100

/-- PVID of a port: 0 and 0xFFF are treated as 1. -/
def State.portPvid (s : State) (n : Nat) : Nat :=
  let v := s.fld (PORT_TAGn n) PORT_TAGn_PVID
  if v = 0 ∨ v = 4095 then 1 else v

/-- The outer tag of a frame under some TPIDs: its PCP, DEI and VID. -/
def outerTag (tpids : List Nat) (data : List Byte) : Option (Nat × Bool × Nat) :=
  if data.length < 16 ∨ !(tpids.contains (beAt data 12 2)) then none
  else
    let t := beAt data 14 2
    some (t / 8192, t.testBit 12, t % 4096)

/-- EtherType after the outer tag, and the octets before it. -/
def Item.etherOff (it : Item) : Nat := if it.tagged then 16 else 12
def Item.etype (it : Item) : Nat := beAt it.data it.etherOff 2
def Item.da (it : Item) : Nat := beAt it.data 0 6
def Item.sa (it : Item) : Nat := beAt it.data 6 6

/-- An Ethernet item from octets that the Zalore was given without an ingress port: a bobbin record, an emit
or an injected frame (R124): the PCP and VID of its outer tag, or 0 and the given VID. -/
def ethItem (tpids : List Nat) (vid : Nat) (data : List Byte) : Item :=
  match outerTag tpids data with
  | some (p, d, v) => { Item.blank with data := data, tagged := true, pcp := p, dei := d, vid := if v = 0 then vid else v }
  | none => { Item.blank with data := data, vid := vid }

/-- TPIDs that mark a tag where no port decides. -/
def State.anyTpid (s : State) : List Nat := [0x8100, 0x88A8, s.fld PORT_GCTRL PORT_GCTRL_TPID_ALT]

/-! ### Ethernet destinations and groups -/

/-- The Ethernet destination number of an ingress, if it is one (R235). -/
def ethOfSrc (src : Nat) : Option Nat :=
  match src / 4096 with
  | 0 => some (src % 4096)
  | 3 => some (1024 + src % 4096)
  | _ => none

/-- Bit e of the VID's member set (R237). -/
def State.vlanMember (s : State) (vid e : Nat) : Bool := (s.rd (VLAN_MEMBERS vid (e / 32))).getLsbD (e % 32)

/-- Bit e of the VID's untagged set. -/
def State.vlanUntagged (s : State) (vid e : Nat) : Bool := (s.rd (VLAN_UNTAGGED vid (e / 32))).getLsbD (e % 32)

/-- The queue of Ethernet destination e an item goes to: a port, a PLCA channel, or the aggregation group
e − 2,048 as a whole (R420); none while its aggregation group has no active member. -/
def State.ethDest (s : State) (it : Item) (e : Nat) : Option Dest :=
  if e < 1024 then s.lagDest it e else if e < 2048 then some (.plca (e - 1024) it.pcp) else s.lagVia it (e - 2048)

/-- One copy to each Ethernet destination of a list, stored once per panel (R258); a copy towards an empty
aggregation group is discarded as for a port whose link is down (R271). -/
def State.deliverEth (s : State) (it : Item) (es : List Nat) (held : Bool := false) (full : List Nat := []) : State :=
  let t := es.foldl (fun t e => match t.ethDest it e with
    | some _ => t
    | none => if e < 1024 then (t.dropItem it rEgress).count64 (PORT_STATSn e 13) else t.dropItem it rEgress) s
  t.deliver it (es.filterMap (fun e => t.ethDest it e)) held full

/-- Slot k of the member store (R240). -/
def State.groupSlot (s : State) (k : Nat) : Nat := bits (s.rd (GROUP_SLOT (k / 2))).toNat (16 * (k % 2) + 10) (16 * (k % 2))

/-- The members of group g (R240). -/
def State.groupMembers (s : State) (g : Nat) : List Nat :=
  let base := s.fld (GROUP g) GROUP_BASE
  (List.range (s.fld (GROUP g + 4) GROUP_COUNT)).map (fun i => s.groupSlot (base + i))

/-- The item came in at destination number e, or at a member of e's aggregation group (R235, R241). -/
def State.cameIn (s : State) (it : Item) (e : Nat) : Bool :=
  match ethOfSrc it.src with
  | some n => e == n || (decide (e < 1024) && decide (n < 1024) && (s.lagOf n).isSome && s.lagOf e == s.lagOf n)
  | none => false

/-- Delivery to group g (R241), of the reasons that hold the first in the order of R29; `vlan`: only within the VID's member set (R237). -/
def State.deliverGroup (s : State) (it : Item) (g : Nat) (held : Bool := false) (full : List Nat := []) (vlan : Bool := false) : State :=
  if !s.flag (GROUP g) GROUP_VALID then s.dropItem it rNoRoute
  else if s.fld (GROUP g) GROUP_SRC_TENANT ≠ it.tenant then s.dropItem it rTenant
  else if s.fld (GROUP g + 4) GROUP_COUNT = 0 then s.dropItem it rNoRoute
  else
    let inter := s.flag (GROUP g) GROUP_INTER
    let ms := (s.groupMembers g).filter (fun e => !s.cameIn it e)
    if ms.isEmpty then s.dropItem it rNoRoute
    else
      let mayGet (e : Nat) : Bool := match s.ethTenant e with | some t => t == it.tenant || inter | none => false
      let inside (e : Nat) : Bool := decide (e < 1040) && (!vlan || s.vlanMember it.vid e)
      let t := ms.foldl (fun t e => if 1040 ≤ e then t.dropItem it rNoRoute else if !mayGet e then t.dropItem it rTenant
        else if inside e then t else t.dropItem it rNoRoute) s
      t.deliverEth it (ms.filter (fun e => inside e && mayGet e)) held full

/-- The router MAC address of a tenant, 0 without one (R215). -/
def State.routerMac (s : State) (t : Nat) : Nat :=
  if s.flag (TENANT t) TENANT_RMAC_EN then (s.rd (TENANT t + 16)).toNat * 65536 + s.fld (TENANT t + 20) TENANT_RMAC_LO else 0

/-- The octets of a tag. -/
def tagOctets (tpid pcp : Nat) (dei : Bool) (vid : Nat) : List Byte :=
  natBe 2 tpid ++ natBe 2 (8192 * pcp + 4096 * bit dei + vid)

end Sys2Proof.Machine
end

