-- ==== Sys2Proof/Machine/Bobbins.lean ====
section
/-! DEFINITION. Bobbins: winding, staging, release, loops, capture and unwind: spec/11. -/

namespace Sys2Proof.Machine

def State.bob (s : State) (b : Nat) : BobSt := Sparse.get (fun _ => BobSt.reset) s.bobs b
def State.setBob (s : State) (b : Nat) (x : BobSt) : State :=
  { s with bobs := Sparse.set (fun _ => BobSt.reset) s.bobs b x }

/-! ### The entry (R349, R350) -/

/-- Word k of a bobbin's entry. -/
def bobWord (b k : Nat) : Nat := BOBBIN b + 4 * k

def State.bobValid (s : State) (b : Nat) : Bool := s.flag (BOBBIN b) BOBBIN_VALID
def State.bobCapture (s : State) (b : Nat) : Bool := s.flag (BOBBIN b) BOBBIN_KIND
def State.bobTenant (s : State) (b : Nat) : Nat := s.fld (BOBBIN b) BOBBIN_TENANT
def State.bobDkind (s : State) (b : Nat) : Nat := s.fld (BOBBIN b) BOBBIN_DKIND
def State.bobTarget (s : State) (b : Nat) : Nat := s.fld (bobWord b 1) BOBBIN_TARGET
def State.bobStack (s : State) (b : Nat) : Nat := s.fld (bobWord b 2) BOBBIN_STACK
def State.bobState (s : State) (b : Nat) : Nat := s.fld (bobWord b 16) BOBBIN_STATE
def State.bobShift (s : State) (b : Nat) : Nat := s.rd64 (bobWord b 8)
def State.setBobShift (s : State) (b v : Nat) : State := s.wr64 (bobWord b 8) (v % 2 ^ 64)
def State.bobLastSeq (s : State) (b : Nat) : Nat := (s.rd (bobWord b 17)).toNat
def State.setBobLastSeq (s : State) (b v : Nat) : State := s.wr (bobWord b 17) (BitVec.ofNat 32 v)
def State.bobLoops (s : State) (b : Nat) : Nat := s.fld (bobWord b 18) BOBBIN_LOOPS_LEFT
def State.setBobLoops (s : State) (b v : Nat) : State := s.setFld (bobWord b 18) BOBBIN_LOOPS_LEFT v

/-- Set an event bit of word 22. -/
def State.bobEvent (s : State) (b : Nat) (f : Fld) : State := s.setFld (bobWord b 22) f 1

/-- Add to a counter: 0 RELEASED, 1 DUPS, 2 LATE, 3 SKIPPED, 4 FMT_ERR, 5 WIND_FRAMES, 6 WIND_ERR, 7 WIND_DUP,
8 WIND_GAP, 9 WIND_FULL, 10 WIND_OVR, 11 CAP_RECORDS, 12 CAP_DROP, 13 LOOPS_DONE, 14 UNW_FRAMES. -/
def State.bobCount (s : State) (b c : Nat) (n : Nat := 1) : State := s.count (BOBBIN_CNT b c) n

/-- A BOBBIN record of its state for the twin (R417). -/
def State.bobMirror (s : State) (b : Nat) : State :=
  s.mirror 5 [b, s.bobState b, s.fld (bobWord b 16) BOBBIN_CUR_SEG, s.bobLastSeq b, s.fld (bobWord b 18) BOBBIN_WNEXT,
    s.bobLoops b, s.bobShift b, s.mer]

def State.setBobState (s : State) (b st : Nat) : State := (s.setFld (bobWord b 16) BOBBIN_STATE st).bobMirror b

/-- The engine mask of program p as 128 bits. -/
def State.progMask (s : State) (p : Nat) : Nat :=
  (s.rd (PROGRAM p + 32)).toNat + 2 ^ 32 * (s.rd (PROGRAM p + 36)).toNat + 2 ^ 64 * (s.rd (PROGRAM p + 40)).toNat +
    2 ^ 96 * (s.rd (PROGRAM p + 44)).toNat

/-- The lowest-numbered panel that holds a program (R30). -/
def State.progPanel (s : State) (p : Nat) : Option Nat :=
  (List.range 16).find? (fun k => bits (s.progMask p) (8 * k + 7) (8 * k) != 0)

/-- The lowest-numbered member port of a group. -/
def State.groupLowest (s : State) (g : Nat) : Option Nat :=
  ((s.groupMembers g).filter (fun e => decide (e < 1024))).foldl
    (fun b e => match b with | some x => some (min x e) | none => some e) none

/-- The staging panel of a playout target (R350). -/
def State.bobPanelOf (s : State) (dkind target : Nat) : Option Nat :=
  match dkind with
  | 0 => if target < 1024 then some (target / 64) else none
  | 1 => if target < 4096 then some (target / 256) else none
  | 2 => match s.groupLowest target with | some e => some (e / 64) | none => none
  | _ => if target < 4096 then s.progPanel target else none

/-- The staging panel of bobbin b, as its commit fixed it (R350). -/
def State.bobPanel (s : State) (b : Nat) : Nat := (s.bob b).panel

/-- A playout destination exists and is the tenant's (R349). -/
def State.bobDestOk (s : State) (t dkind member target : Nat) : Bool :=
  (s.bobPanelOf dkind target).isSome &&
    (match dkind with
     | 0 => s.portTenant target == some t
     | 1 => s.busTenant target == some t && s.flag (MEMBER target member) MEMBER_VALID &&
              s.fld (MEMBER target member) MEMBER_KIND == 2
     | 2 => s.flag (GROUP target) GROUP_VALID && s.fld (GROUP target) GROUP_SRC_TENANT == t
     | _ => s.flag (PROGRAM target) PROGRAM_VALID && s.fld (PROGRAM target) PROGRAM_TENANT == t)

/-- Two extents overlap. -/
def overlap (a n b m : Nat) : Bool := decide (a < b + m) && decide (b < a + n)

/-- The bobbins whose entry is not at reset. -/
def State.liveBobbins (s : State) : List Nat :=
  (s.regs.filter (fun p => decide (0x7000000 ≤ p.1) && decide (p.1 < 0x7080000) && p.1 % 128 == 0)).map
    (fun p => (p.1 - 0x7000000) / 128)

/-- The stack a commit of words w0, w1 gives (R350). -/
def State.bobNewStack (s : State) (w0 w1 : Word) : Nat :=
  let target := getF w1 BOBBIN_TARGET
  if getB w0 BOBBIN_KIND then panelDie (target / 64)
  else panelDie ((s.bobPanelOf (getF w0 BOBBIN_DKIND) target).getD 0)

/-- A commit is refused (R349), whatever its VALID. -/
def State.bobRefuses (s : State) (b : Nat) (w : Nat → Word) : Bool :=
  let t := getF (w 0) BOBBIN_TENANT
  let target := getF (w 1) BOBBIN_TARGET
  let base := getF (w 2) BOBBIN_BASE
  let size := getF (w 3) BOBBIN_SIZE
  let stack := s.bobNewStack (w 0) (w 1)
  s.bobState b != 0 ||
    (!(s.bob b).ring.isEmpty && (getB (w 0) BOBBIN_KIND != s.bobCapture b || base != s.fld (bobWord b 2) BOBBIN_BASE ||
      size != s.fld (bobWord b 3) BOBBIN_SIZE || stack != s.bobStack b)) ||
    (!getB (w 0) BOBBIN_KIND && !s.bobDestOk t (getF (w 0) BOBBIN_DKIND) (getF (w 0) BOBBIN_MEMBER) target) ||
    (getB (w 0) BOBBIN_KIND && (!(decide (target < 1024) && s.portTenant target == some t) ||
      s.srcTenant (getF (w 7) BOBBIN_CAP_SRC) != some t)) ||
    size == 0 || decide (23552 < base + size) ||
    s.liveBobbins.any (fun c => c != b && s.bobValid c && s.bobStack c == stack &&
      overlap base size (s.fld (bobWord c 2) BOBBIN_BASE) (s.fld (bobWord c 3) BOBBIN_SIZE))

/-- Capacity of a bobbin's ring in 16-octet units (R357). -/
def State.bobCap (s : State) (b : Nat) : Nat := s.fld (bobWord b 3) BOBBIN_SIZE * 65536

/-- A commit of a bobbin's entry (R349): whether it was accepted. -/
def State.bobCommit (s : State) (who b : Nat) (w : Word) : Bool × State :=
  let d : TableDesc := ⟨0x07000000, 128, 4096, 1, 1, 12, 0, false⟩
  let nw (k : Nat) : Word := s.newWord who (BOBBIN b) 0 k w
  if s.bobRefuses b nw then (false, s.bobEvent b BOBBIN_EVT_CFG_ERR)
  else
    let t := s.commitEntry who d (BOBBIN b) w
    let t := t.setFld (bobWord b 2) BOBBIN_STACK (s.bobNewStack (nw 0) (nw 1))
    let t := t.setBobLoops b (t.fld (bobWord b 5) BOBBIN_LOOPS)
    let p := if getB (nw 0) BOBBIN_KIND then 0 else (s.bobPanelOf (getF (nw 0) BOBBIN_DKIND) (getF (nw 1) BOBBIN_TARGET)).getD 0
    let t := t.setBob b { t.bob b with woff := (t.bob b).woff % max 1 (t.bobCap b), panel := p }
    (true, t.setFld (bobWord b 16) BOBBIN_STATE 0)

/-- BOBBIN_COMMIT (R349). -/
def State.bobCommitOp (s : State) (i : Iface) (b : Nat) (w : Word) : State := s.hostAccess (s.bobCommit (ifaceNum i) b w).2

/-! ### Records (R351, R352) -/

def recType (h : List Byte) : Nat := oct h 0 / 64
def recLen (h : List Byte) : Nat := beAt h 0 2 % 16384
def recFmt (h : List Byte) : Nat := oct h 2 % 4
def recIde (h : List Byte) : Bool := (oct h 3).testBit 7
def recRtr (h : List Byte) : Bool := (oct h 3).testBit 6
def recBrs (h : List Byte) : Bool := (oct h 3).testBit 5
def recSec (h : List Byte) : Bool := (oct h 3).testBit 4
def recSeq (h : List Byte) : Nat := beAt h 4 4
def recRt (h : List Byte) : Nat := beAt h 8 8
def segNum (h : List Byte) : Nat := beAt h 6 2
def segS (h : List Byte) : Nat := beAt h 8 8
def segE (h : List Byte) : Nat := beAt h 16 8
def segLast (h : List Byte) : Bool := (oct h 2).testBit 7
def RingRec.isSeg (r : RingRec) : Bool := recType r.hdr == 3

/-- LEN within the limits of R348 for a bus PDU. -/
def pduLenOk (fmt : Nat) (rtr : Bool) (len : Nat) : Bool :=
  match fmt with
  | 0 => decide (len ≤ 8)
  | 1 => decide (len ≤ 64)
  | 2 => decide (1 ≤ len) && decide (len ≤ 2048)
  | _ => decide (1 ≤ len) && decide (len ≤ 8) && !rtr

/-- Data octets of a record before padding: a remote frame has none. -/
def recDataLen (h : List Byte) : Nat := if recType h = 1 ∧ recRtr h then 0 else if recType h = 3 then 0 else recLen h

/-- 16-octet units of a record. -/
def recUnits (h : List Byte) : Nat := 2 + (recDataLen h + 15) / 16

/-- A record header that R354 lets pass; QSET picks a queue of a port, and is no flag of a bus PDU (R365). -/
def recFormed (h : List Byte) : Bool :=
  match recType h with
  | 0 => oct h 3 == 0 && decide (14 ≤ recLen h) && decide (recLen h ≤ 10240) &&
          beAt h 16 4 == 0 && beAt h 28 4 == 0
  | 1 =>
    oct h 3 % 16 == 0 && !(oct h 2).testBit 6 && beAt h 16 4 / 2 ^ 29 == 0 && beAt h 28 4 == 0 && pduLenOk (recFmt h) (recRtr h) (recLen h) &&
      (match recFmt h with
       | 0 => !recBrs h && !recSec h
       | 1 => !recRtr h && !recSec h
       | 2 => !recIde h && !recRtr h && !recBrs h
       | _ => !recIde h && !recRtr h && !recBrs h && !recSec h)
  | 2 => false
  | _ => recLen h == 0 && beAt h 2 2 % 32768 == 0 && beAt h 4 2 == 0 && beNat (slice h 24 8) == 0

/-- n records that fill a list of octets exactly. -/
def parseRecs : Nat → List Byte → Option (List (List Byte × List Byte))
  | 0, l => if l.isEmpty then some [] else none
  | n + 1, l =>
    let h := l.take 32
    if h.length < 32 ∨ l.length < 16 * recUnits h then none
    else
      match parseRecs n (l.drop (16 * recUnits h)) with
      | some r => some ((h, (l.drop 32).take (recDataLen h)) :: r)
      | none => none

/-! ### Winding (R353 to R358) -/

/-- A wind frame as the parser finds it (R353): on a port whose wind bit is 1. -/
def State.isWind (s : State) (it : Item) : Bool :=
  it.eth && it.src / 4096 == 0 && (s.rd (CORE_BOBWINDw (it.src / 32))).getLsbD (it.src % 32) &&
    it.etype == s.fld CORE_BOBCFG CORE_BOBCFG_WIND_ETYPE

/-- Header and records of a wind frame that R354 lets pass. -/
def windParse (it : Item) : Option (List Byte × List (List Byte × List Byte)) :=
  let p := it.data.drop (it.etherOff + 2)
  let h := p.take 16
  let n := beAt h 6 2
  let o := beAt h 8 2
  if h.length < 16 ∨ oct h 0 ≠ 16 ∨ oct h 1 % 128 ≠ 0 ∨ oct h 2 / 16 ≠ 0 ∨ beNat (slice h 10 6) ≠ 0 ∨ n = 0 ∨ 1024 < n ∨
      p.length < 16 + o then none
  else
    match parseRecs n ((p.drop 16).take o) with
    | some r => if r.all (fun x => recFormed x.1) then some (h, r) else none
    | none => none

def ringUnits (r : List RingRec) : Nat := r.foldl (fun a x => a + x.units) 0

/-- Whether a loop pins a segment number (R367). -/
def State.bobPins (s : State) (b n : Nat) : Bool :=
  let m := s.fld (bobWord b 6) BOBBIN_MARK_SEG
  let l := s.fld (bobWord b 6) BOBBIN_LOOP_SEG
  s.bobLoops b != 0 && decide ((n + 65536 - m) % 65536 ≤ (l + 65536 - m) % 65536)

/-- Drop the oldest segment while its space is free (R357): `busy`, the records still staged; fuel is the length of the
ring. -/
def State.trimRing (s : State) (b pos : Nat) (busy : List Nat) : Nat → List RingRec → List RingRec
  | 0, r => r
  | n + 1, r =>
    match r with
    | [] => []
    | g :: rest =>
      let body := rest.takeWhile (fun x => !x.isSeg)
      let later := rest.dropWhile (fun x => !x.isSeg)
      let passed := match later with
        | x :: _ => decide (x.id < pos)
        | [] => segLast g.hdr && decide (g.id < pos) && body.all (fun x => decide (x.id < pos))
      if g.isSeg && passed && body.all (fun x => x.gone && !busy.contains x.id) && !s.bobPins b (segNum g.hdr) then
        State.trimRing s b pos busy n later
      else r

/-- Publish the offsets and free what may be freed. -/
def State.bobSettle (s : State) (b : Nat) : State :=
  let x := s.bob b
  let r := if s.bobCapture b then x.ring else s.trimRing b x.pos (x.staged.map (fun q => q.id)) x.ring.length x.ring
  let t := s.setBob b { x with ring := r }
  (t.wr (bobWord b 19) (BitVec.ofNat 32 x.woff)).wr (bobWord b 20)
    (BitVec.ofNat 32 (match r with | y :: _ => y.off | [] => x.woff))

/-- What the winder knows of the open segment: its number, S, E, LAST, and RT and SEQ of its last data record. -/
structure WindCtx where
  seg : Option (Nat × Nat × Nat × Bool)
  prev : Option (Nat × Nat)
  /-- a LAST segment has gone before, whether or not the ring still holds it -/
  ended : Bool := false
  deriving DecidableEq, Repr

/-- SEQ b is newer than a (R356). -/
def newerSeq (a b : Nat) : Bool := 1 ≤ (b + 2 ^ 32 - a) % 2 ^ 32 && (b + 2 ^ 32 - a) % 2 ^ 32 ≤ 2 ^ 31 - 1

/-- The context a record leaves. -/
def WindCtx.after (c : WindCtx) (h : List Byte) : WindCtx :=
  if recType h = 3 then { seg := some (segNum h, segS h, segE h, segLast h), prev := none, ended := c.ended || segLast h }
  else { c with prev := some (recRt h, recSeq h) }

/-- A segment record that R352 lets pass. -/
def WindCtx.segOk (c : WindCtx) (h : List Byte) : Bool :=
  decide (segS h < segE h) && !c.ended &&
    (match c.seg with
     | none => true
     | some (n, s0, e0, _) =>
       segNum h == (n + 1) % 65536 && decide (segS h ≤ e0) &&
         decide (2 * (e0 - segS h) ≤ min (segE h - segS h) (e0 - s0)))

/-- A data record that R356 lets pass. -/
def WindCtx.dataOk (c : WindCtx) (h : List Byte) : Bool :=
  (match c.seg with
   | none => false
   | some (_, s0, e0, _) => decide (s0 ≤ recRt h) && decide (recRt h < e0)) &&
  (match c.prev with
   | none => true
   | some (rt, q) => decide (rt ≤ recRt h) && newerSeq q (recSeq h))

/-- Whether every segment record of a frame passes, and the data records it keeps (R356). -/
def windFilter : WindCtx → List (List Byte × List Byte) → Option (List (List Byte × List Byte) × Nat)
  | _, [] => some ([], 0)
  | c, (h, d) :: rest =>
    if recType h = 3 then
      (if c.segOk h then (match windFilter (c.after h) rest with | some (k, e) => some ((h, d) :: k, e) | none => none) else none)
    else if c.dataOk h then (match windFilter (c.after h) rest with | some (k, e) => some ((h, d) :: k, e) | none => none)
    else (match windFilter c rest with | some (k, e) => some (k, e + 1) | none => none)

/-- The context a bobbin's ring leaves for the next record. -/
def BobSt.ctx (x : BobSt) : WindCtx :=
  let c : WindCtx := x.ring.foldl (fun c x => c.after x.hdr) { seg := none, prev := none }
  { c with ended := c.ended || x.lastSeg }

/-- Append records at the write offset (R357). -/
def State.ringAppend (s : State) (b : Nat) (written : Bool) (recs : List (List Byte × List Byte)) : State :=
  let cap := max 1 (s.bobCap b)
  let x := s.bob b
  let y := recs.foldl
    (fun (y : BobSt) (p : List Byte × List Byte) =>
      { y with ring := y.ring ++ [{ id := y.nextId, off := y.woff, units := recUnits p.1, hdr := p.1, data := p.2,
                                    written := written, gone := false, at_ := s.mer }]
               nextId := y.nextId + 1
               woff := (y.woff + recUnits p.1) % cap }) x
  (s.setBob b y).bobSettle b

/-- The writes that wait for a die's stack. -/
def State.fills (s : State) (die : Nat) : List FillJob := Sparse.get (fun _ => []) s.winder die
def State.setFills (s : State) (die : Nat) (l : List FillJob) : State := { s with winder := Sparse.set (fun _ => []) s.winder die l }

/-- Octets of wound records waiting in a die's winder. -/
def State.winderLoad (s : State) (die : Nat) : Nat :=
  ((s.fills die).filter (fun j => j.src == none)).foldl (fun a j => a + j.octets) 0

/-- A frame whose WSEQ is due (R356 to R358): wound in one piece, or ignored. -/
def State.windIt (s : State) (b wseq : Nat) (recs : List (List Byte × List Byte)) : State :=
  let x := s.bob b
  match windFilter x.ctx recs with
  | none => (s.bobCount b 6).bobEvent b BOBBIN_EVT_WIND_ERR
  | some (keep, bad) =>
    let units := keep.foldl (fun a p => a + recUnits p.1) 0
    let die := s.bobStack b
    if s.bobCap b < ringUnits x.ring + units then (s.bobCount b 9).bobEvent b BOBBIN_EVT_WIND_FULL
    else if 4 * 1048576 < s.winderLoad die + 16 * units then (s.bobCount b 10).bobEvent b BOBBIN_EVT_WIND_OVR
    else
      let t := s.ringAppend b false keep
      let t := t.setBob b { t.bob b with needRst := false, lastSeg := x.lastSeg || keep.any (fun p => recType p.1 == 3 && segLast p.1) }
      let t := (t.setFld (bobWord b 18) BOBBIN_WNEXT ((wseq + 1) % 65536)).bobCount b 5
      let t := if bad = 0 then t else (t.bobCount b 6 bad).bobEvent b BOBBIN_EVT_WIND_ERR
      if keep.isEmpty then t
      else t.setFills die (t.fills die ++ [{ bob := b, last := (t.bob b).nextId, octets := 16 * units, src := none }])

/-- WIND_FRAME: the oldest wind frame at the winders is checked, and wound, ignored or discarded (R354 to R358). -/
def State.windFrameOp (s : State) : State :=
  match s.windIn with
  | [] => s
  | it :: rest =>
    let s : State := { s with windIn := rest }
    match windParse it with
    | none => s.dropItem it rMalformed
    | some (h, recs) =>
      let b := beAt h 2 2 % 4096
      if !s.bobValid b || s.bobCapture b then s.dropItem it rMalformed
      else if s.bobTenant b ≠ it.tenant then s.dropItem it rTenant
      else
        let wseq := beAt h 4 2
        let wn := s.fld (bobWord b 18) BOBBIN_WNEXT
        let x := s.bob b
        let rst := (oct h 1).testBit 7
        let d := (wn + 65536 - wseq) % 65536
        if rst && x.ring.isEmpty then s.windIt b wseq recs
        else if wseq = wn ∧ !x.needRst then s.windIt b wseq recs
        else if 1 ≤ d ∧ d ≤ 32768 then s.bobCount b 7
        else (s.bobCount b 8).bobEvent b BOBBIN_EVT_WIND_GAP

/-- The octets of a record as the pool holds them. -/
def RingRec.octets (r : RingRec) : List Byte := slice (r.hdr ++ r.data) 0 (16 * r.units)

/-- Write a record's units into the bobbin pool of its stack. -/
def State.poolWrite (s : State) (b : Nat) (r : RingRec) : State :=
  let cap := max 1 (s.bobCap b)
  let base := 2 ^ 31 * s.bobStack b + 65536 * s.fld (bobWord b 2) BOBBIN_BASE
  (List.range r.units).foldl
    (fun t k => { t with pool := Sparse.set (fun _ => List.replicate 16 (0 : Byte)) t.pool (base + (r.off + k) % cap)
                           (slice r.octets (16 * k) 16) }) s

/-- The units of the pool that hold a record. -/
def State.poolUnits (s : State) (b : Nat) (r : RingRec) : List Nat :=
  let base := 2 ^ 31 * s.bobStack b + 65536 * s.fld (bobWord b 2) BOBBIN_BASE
  (List.range r.units).map (fun k => base + (r.off + k) % max 1 (s.bobCap b))

/-- Their code words are stored with fresh check bits (R571, R577). -/
def State.poolCoded (s : State) (b : Nat) (r : RingRec) : State :=
  (s.poolUnits b r).foldl (fun t u => t.memWrote 4 (poolOctet u) 16) s

/-- The stager's read of a record in the pool, and whether a word of it is poison-tagged (R568, R571, R572). -/
def State.poolRead (s : State) (b : Nat) (r : RingRec) : State :=
  (s.poolUnits b r).foldl (fun t u => t.memRead 4 (poolOctet u) 16) s
def State.poolBad (s : State) (b : Nat) (r : RingRec) : Bool :=
  (s.poolUnits b r).any (fun u => (s.memPoison 4 (poolOctet u) 16).isSome)

/-- WIND_WRITE_COMPLETE: the oldest write that waits for a die's stack is done, and its records are in the stack. Winding
and capture writes go in order of arrival (R358). -/
def State.windDoneOp (s : State) (die : Nat) : State :=
  match s.fills die with
  | [] => s
  | j :: rest =>
    let s := s.setFills die rest
    let x := s.bob j.bob
    let now := x.ring.filter (fun r => !r.written && decide (r.id < j.last))
    let t := now.foldl (fun t r => (t.poolWrite j.bob r).poolCoded j.bob r) s
    (t.setBob j.bob { x with ring := x.ring.map (fun r => if r.id < j.last then { r with written := true } else r) }).obsDie
      die 0x071 j.octets

/-! ### Staging (R361, R362, R364) -/

def stageCells (s : State) (b : Nat) : Nat := orElse (s.fld (bobWord b 4) BOBBIN_STAGE_CELLS) 256
def stageLead (s : State) (b : Nat) : Nat := orElse (s.fld (bobWord b 4) BOBBIN_STAGE_LEAD) 1 * usTicks

def BobSt.held (x : BobSt) : Nat := x.staged.foldl (fun a r => a + r.cells) 0

/-- Cells of a panel held by staging. -/
def State.addStageUse (s : State) (p n : Nat) : State :=
  s.setFld (CORE_PNLp_STAGE p) CORE_PNLp_STAGE_STAGE_USE (s.fld (CORE_PNLp_STAGE p) CORE_PNLp_STAGE_STAGE_USE + n)
def State.subStageUse (s : State) (p n : Nat) : State :=
  s.setFld (CORE_PNLp_STAGE p) CORE_PNLp_STAGE_STAGE_USE (s.fld (CORE_PNLp_STAGE p) CORE_PNLp_STAGE_STAGE_USE - n)

/-- Staged cells go back to the shared pool. -/
def State.unstage (s : State) (b n : Nat) : State :=
  let p := s.bobPanel b
  (s.subStageUse p n).setShared p (s.sharedFree p + n)

/-- The tick at which the view reached, or will reach, a tenant time: E of a step that passed it (R87, R88). -/
def State.releaseTick (s : State) (d t : Nat) : Nat :=
  let x := s.datum d
  if !reached (s.viewNow d) t then s.dueTick d t
  else match x.pend with
    | some p => if p.eff ≤ s.mer then crossTick t (x.next p) (x.act :: x.past) else crossTick t x.act x.past
    | none => crossTick t x.act x.past

/-- The item of a data record (R351, R365). -/
def State.recItem (s : State) (b : Nat) (r : RingRec) : Item :=
  let h := r.hdr
  let port := s.bobTarget b
  let base : Item :=
    if recType h = 0 then
      (if s.bobDkind b = 0 then ethItem [s.portTpid port] (s.portPvid port) r.data else ethItem s.anyTpid 1 r.data)
    else
      { Item.blank with eth := false, fmt := recFmt h, ide := recIde h, rtr := recRtr h, brs := recBrs h, sec := recSec h,
                        ident := beAt h 16 4 % 2 ^ 29, sdt := oct h 22, vcid := oct h 23, af := beAt h 24 4,
                        data := if recRtr h then List.replicate (recLen h) 0 else r.data }
  { base with
    tenant := s.bobTenant b
    src := 16384 * (1 + s.bobPanel b) + b
    hash := s.hashBobbin (s.bobTenant b) b
    queue := if (oct h 2).testBit 6 then some (oct h 2 / 4 % 16) else none
    tsreq := if (oct h 2).testBit 7 then some (2, beAt h 20 2) else none
    member := s.fld (BOBBIN b) BOBBIN_MEMBER }

/-- The record types a DKIND needs (R365). -/
def recFits (dkind ty : Nat) : Bool :=
  match dkind with
  | 0 => ty == 0
  | 1 => ty == 1
  | 2 => ty == 0
  | _ => true

/-- ENDED once every record of the LAST segment has gone with no loop left (R368); what may be freed is freed then. -/
def State.bobEndCheck (s : State) (b : Nat) : State :=
  let x := s.bob b
  let t := if s.bobState b = 1 ∧ s.bobLoops b = 0 ∧ x.staged = [] ∧ x.curLast = true ∧ !(x.ring.any (fun r => decide (x.pos ≤ r.id))) then
      (s.setBobState b 3).bobEvent b BOBBIN_EVT_END
    else s
  t.bobSettle b

/-- Mark a record of the ring as ended for the stager (R357, R368). -/
def State.ringGone (s : State) (b id : Nat) : State :=
  let x := s.bob b
  (s.setBob b { x with ring := x.ring.map (fun r => if r.id = id then { r with gone := true } else r) }).bobEndCheck b

/-- The stager waits for a record that is not there yet (R361). -/
def State.starve (s : State) (b : Nat) : State :=
  if s.flag (bobWord b 16) BOBBIN_STARVED then s
  else (s.setFld (bobWord b 16) BOBBIN_STARVED 1).bobEvent b BOBBIN_EVT_STARVED

/-- Take a loop, as one action (R367): none when it is not due or MARK_SEG is not held. -/
def State.takeLoop (s : State) (b : Nat) : Option State :=
  let x := s.bob b
  let m := s.fld (bobWord b 6) BOBBIN_MARK_SEG
  let l := s.fld (bobWord b 6) BOBBIN_LOOP_SEG
  match (x.ring.filter (fun r => r.isSeg && decide (r.id < x.pos))).getLast?,
      x.ring.find? (fun r => r.isSeg && segNum r.hdr == m) with
  | some cur, some mark =>
    if segNum cur.hdr ≠ l ∨ s.bobLoops b = 0 ∨ cur.id < mark.id then none
    else
      let t := s.setBobShift b (s.bobShift b + 2 ^ 64 + segE cur.hdr - segS mark.hdr)
      let first := x.ring.find? (fun r => decide (mark.id < r.id) && !r.isSeg)
      let t := match first with
        | some r => if r.id ≤ x.pos then t.setBobLastSeq b ((recSeq r.hdr + 2 ^ 32 - 1) % 2 ^ 32) else t
        | none => t
      let t := t.setBob b { x with pos := mark.id + 1, crossed := true, skip := false, curLast := segLast mark.hdr,
                                   ring := x.ring.map (fun r => if mark.id ≤ r.id ∧ r.id < x.pos then { r with gone := r.isSeg } else r) }
      let t := t.setFld (bobWord b 16) BOBBIN_CUR_SEG m
      let t := if s.bobLoops b = 65535 then t else t.setBobLoops b (s.bobLoops b - 1)
      some (((t.bobCount b 13).bobEvent b BOBBIN_EVT_LOOP).bobMirror b)
  | _, _ => none

/-- LOOP_SEG has just been passed with loops left. -/
def State.loopDue (s : State) (b : Nat) : Bool :=
  let x := s.bob b
  s.bobLoops b != 0 &&
    (match (x.ring.filter (fun r => r.isSeg && decide (r.id < x.pos))).getLast? with
     | some cur => segNum cur.hdr == s.fld (bobWord b 6) BOBBIN_LOOP_SEG
     | none => false)

/-- A record joins the staged ones of a bobbin. -/
def State.addStaged (s : State) (b : Nat) (x : Staged) : State :=
  s.setBob b { s.bob b with staged := (s.bob b).staged ++ [x] }

/-- A data record at the stager (R361, R362, R364, R365, R572); the die's degraded level may hold it back (R65). -/
def State.stageData (s : State) (b : Nat) (r : RingRec) : State :=
  let x := s.bob b
  let seq := recSeq r.hdr
  let p := s.bobPanel b
  let next (t : State) : State := t.setBob b { t.bob b with pos := r.id + 1 }
  if x.skip || s.poolBad b r then
    -- the record and the rest of its segment are skipped
    let t := next (s.poolRead b r)
    (((t.setBob b { t.bob b with skip := true }).bobCount b 3).bobEvent b BOBBIN_EVT_SKIP).ringGone b r.id
  else if x.crossed && !newerSeq (s.bobLastSeq b) seq then ((next s).bobCount b 1).ringGone b r.id
  else if !recFits (s.bobDkind b) (recType r.hdr) then ((next s).bobCount b 4).ringGone b r.id
  else
    let rt := (recRt r.hdr + s.bobShift b) % 2 ^ 64
    let m := s.releaseTick (s.bobTenant b) rt
    if s.mer + stageLead s b < m then s
    else
      let it := s.recItem b r
      let c := cellsOf it.stored
      let sc := stageCells s b
      let use := s.fld (CORE_PNLp_STAGE p) CORE_PNLp_STAGE_STAGE_USE
      if (if sc < c then x.held ≠ 0 else sc ≤ x.held) ∨ s.fld (CORE_PNLp_STAGE p) CORE_PNLp_STAGE_STAGE_MAX ≤ use ∨
          s.sharedFree p < c ∨ !s.mayStage (panelDie p) then s
      else
        let s := (s.poolRead b r).staged (panelDie p) (16 * r.units)
        let max := s.fld (bobWord b 5) BOBBIN_LATE_MAX
        let t := (next s).setBobLastSeq b seq
        let t := t.setBob b { t.bob b with crossed := false }
        let t := t.obsDie (panelDie p) 0x070 (16 * r.units)
        if m < s.mer ∧ max ≠ 65535 ∧ max * usTicks < s.mer - m then
          ((t.bobCount b 3).bobEvent b BOBBIN_EVT_SKIP).ringGone b r.id
        else
          let t := (t.addStageUse p c).setShared p (s.sharedFree p - c)
          t.addStaged b { id := r.id, seq := seq, rtEff := rt, item := it, cells := c, late := decide (m < s.mer), since := s.mer }

/-- The stager's steps up to its next data record; fuel bounds the segment records it passes. -/
def State.stagerRun (s : State) (b : Nat) : Nat → State
  | 0 => s
  | n + 1 =>
    let x := s.bob b
    let cur := (x.ring.filter (fun r => r.isSeg && decide (r.id < x.pos))).getLast?
    match x.ring.find? (fun r => decide (x.pos ≤ r.id)) with
    | none =>
      (match cur with
       | some g =>
         if !segLast g.hdr then s.starve b
         else if s.loopDue b then
           (match s.takeLoop b with
            | some t => State.stagerRun t b n
            | none => (s.setBobLoops b 0).bobEndCheck b)
         else s.bobEndCheck b
       | none => if x.curLast then s.bobEndCheck b else s.starve b)
    | some r =>
      if !r.written then s
      else
        let s := s.setFld (bobWord b 16) BOBBIN_STARVED 0
        if r.isSeg then
          (match (if s.loopDue b then s.takeLoop b else none) with
           | some t => State.stagerRun t b n
           | none =>
             let s := if s.loopDue b then s.setBobLoops b 0 else s
             let t := s.setBob b { x with pos := r.id + 1, crossed := x.crossed || cur.isSome, skip := false, curLast := segLast r.hdr,
                                          ring := x.ring.map (fun q => if q.id = r.id then { q with gone := true } else q) }
             let t := (t.setFld (bobWord b 16) BOBBIN_CUR_SEG (segNum r.hdr)).bobMirror b
             State.stagerRun (t.bobEndCheck b) b n)
        else s.stageData b r

/-- STAGE_RECORD: the stager of a RUNNING playout bobbin takes its next record (R361). -/
def State.stageRecordOp (s : State) (b : Nat) : State :=
  if s.bobValid b && !s.bobCapture b && s.bobState b == 1 then s.stagerRun b ((s.bob b).ring.length + 2) else s

/-! ### Release (R363 to R366) -/

/-- The item's copies are offered; those of its staging panel p keep the staged cells, the others store their own (R31). Where
nothing is offered at p, the cells are free. -/
def State.offerStaged (s : State) (p c : Nat) (f : State → State) : State :=
  let was (q : Nat) : Nat := (Sparse.get (fun _ => []) s.offers q).length
  let t := f (s.subStageUse p c)
  let t : State := { t with offers := t.offers.map (fun q =>
    if q.1 = p then q else (q.1, q.2.take (was q.1) ++ (q.2.drop (was q.1)).map (fun o => { o with held := false }))) }
  if (Sparse.get (fun _ => []) t.offers p).length = was p then t.setShared p (t.sharedFree p + c) else t

/-- The released item goes to its destination (R365, R366), or is a tenant violation where that is bound to another
tenant (R34); `m`: its release tick, which is its stamp. -/
def State.releaseTo (s : State) (b : Nat) (r : Staged) (m : Nat) : State :=
  let p := s.bobPanel b
  let it := { r.item with stamp := m, tau := some r.rtEff, at_ := some p }
  let target := s.bobTarget b
  let (it, s) := s.tagJoin p it
  let foreign := match s.bobDkind b with
    | 0 => s.portTenant target != some it.tenant
    | 1 => s.busTenant target != some it.tenant
    | 2 => false
    | _ => s.flag (PROGRAM target) PROGRAM_VALID && s.fld (PROGRAM target) PROGRAM_TENANT != it.tenant
  if foreign then (s.unstage b r.cells).dropItem it rTenant
  else
  match s.bobDkind b with
  | 0 =>
    (match s.ethDest it target with
     | some d => s.offerStaged p r.cells (fun t => t.deliver it [d] true)
     | none => (s.unstage b r.cells).dropItem it rEgress)
  | 1 => s.offerStaged p r.cells (fun t => t.deliver it [.vbus target] true)
  | 2 => s.offerStaged p r.cells (fun t => t.deliverGroup it target true)
  | _ =>
    let it := { it with extra := [BitVec.ofNat 32 b, BitVec.ofNat 32 r.seq, BitVec.ofNat 32 r.rtEff,
                                  BitVec.ofNat 32 (r.rtEff / 2 ^ 32)] }
    let t := s.subStageUse p r.cells
    { t with workIn := t.workIn ++ [{ item := it, prog := target, desc := none, kind := 2, held := some (p, r.cells) }] }

/-- The tick at which a staged record is due, and at which it is released: not before it was staged, nor while its bobbin was
paused (R363, R364). -/
def State.stagedDue (s : State) (b : Nat) (r : Staged) : Nat := s.releaseTick (s.bobTenant b) r.rtEff
def State.stagedTick (s : State) (b : Nat) (r : Staged) : Nat := max (s.stagedDue b r) r.since

/-- The oldest staged record of a RUNNING bobbin, where its tick has come (R363). -/
def State.releasable (s : State) (b : Nat) : Option Staged :=
  match (s.bob b).staged with
  | [] => none
  | r :: _ => if s.bobState b = 1 ∧ !s.bobCapture b ∧ reached (s.viewNow (s.bobTenant b)) r.rtEff then some r else none

/-- That record is released (R363 to R366). -/
def State.releaseHead (s : State) (b : Nat) : State :=
  match s.releasable b with
  | none => s
  | some r =>
    let x := s.bob b
    let m := s.stagedTick b r
    let t := s.setBob b { x with staged := x.staged.tail, relId := r.id, relSeq := r.seq }
    let t := (t.bobCount b 0).obs (s.bobPanel b) 0x090 1 (tenant := some (s.bobTenant b))
    let t := t.histSample 4 (s.bobPanel b) b (m - s.stagedDue b r) (some (s.bobTenant b))
    let t := if r.late then
        ((t.bobCount b 2).bobEvent b BOBBIN_EVT_LATE).obs (s.bobPanel b) 0x091 1 (tenant := some (s.bobTenant b))
      else t
    (t.releaseTo b r m).ringGone b r.id

/-- Every record of a bobbin whose tick is at most m is released, oldest first; fuel is their number. -/
def State.releaseUpTo (s : State) (b m : Nat) : Nat → State
  | 0 => s
  | n + 1 =>
    match s.releasable b with
    | some r => if s.stagedTick b r ≤ m then State.releaseUpTo (s.releaseHead b) b m n else s
    | none => s

/-- BOBBIN_RELEASE: the oldest staged record of a RUNNING bobbin is released at its tick (R363, R364); what bobbins of lower
number have due at or before that tick goes first. -/
def State.bobReleaseOp (s : State) (b : Nat) : State :=
  match s.releasable b with
  | none => s
  | some r =>
    let m := s.stagedTick b r
    let t := (s.bobs.filter (fun p => decide (p.1 < b))).foldl (fun t p => t.releaseUpTo p.1 m (t.bob p.1).staged.length) s
    t.releaseHead b

/-! ### Commands (R359, R360) -/

/-- Staged records are given back and the position returns to the first record not released (R359). -/
def State.bobStop (s : State) (b : Nat) : State :=
  let x := s.bob b
  let t := if s.bobCapture b then s else (s.unstage b x.held)
  let pos := match x.staged with | r :: _ => r.id | [] => x.pos
  let cur := (x.ring.filter (fun r => r.isSeg && decide (r.id < pos))).getLast?
  let t := t.setFld (bobWord b 16) BOBBIN_STARVED 0
  let t := t.setBob b { x with staged := [], pos := pos, skip := x.skip && x.staged.isEmpty,
                               curLast := if x.staged = [] then x.curLast else match cur with | some g => segLast g.hdr | none => false
                               crossed := x.ring.any (fun r => r.isSeg && decide (x.relId < r.id) && decide (r.id < pos)) }
  let t := match (if x.staged = [] then none else cur) with
    | some g => t.setFld (bobWord b 16) BOBBIN_CUR_SEG (segNum g.hdr)
    | none => t
  (if s.bobCapture b then t else t.setBobLastSeq b x.relSeq).setBobState b 0

/-- The releases due at the tick of a command come before it (R360). -/
def State.releaseDue (s : State) (b : Nat) : State := s.releaseUpTo b s.mer (s.bob b).staged.length

/-- One command: accepted, and the state it leaves (R359). op as in CORE_BOBCMD. -/
def State.bobCmd (s : State) (op b time : Nat) : Bool × State :=
  let st := s.bobState b
  let cap := s.bobCapture b
  let x := s.bob b
  let t := s.bobTenant b
  if !s.bobValid b || s.powerState == 2 || (s.lifecycle == 4 && (op == 1 || op == 2)) then (false, s)
  else
    match op with
    | 1 | 2 =>
      if st ≠ 0 then (false, s)
      else
        let s := if cap ∧ x.ring = [] then s.setBob b { x with capSeq := 0 } else s
        let s := if op = 2 ∧ !cap then
            (match (x.ring.filter (fun r => r.isSeg && decide (r.id ≤ x.pos))).getLast? with
             | some g => s.setBobShift b (time + 2 ^ 64 - segS g.hdr)
             | none => s)
          else s
        (true, s.setBobState b 1)
    | 3 =>
      if st ≠ 1 then (false, s)
      else
        let u := s.releaseDue b
        if u.bobState b ≠ 1 then (false, u) else (true, (u.setBob b { u.bob b with vp := u.viewNow t }).setBobState b 2)
    | 4 =>
      if st ≠ 2 then (false, s)
      else if cap then (true, s.setBobState b 1)
      else
        let d := (s.viewNow t + 2 ^ 64 - x.vp) % 2 ^ 64
        let s := s.setBobShift b (s.bobShift b + d)
        let s := s.setBob b { x with staged := x.staged.map (fun r => { r with rtEff := (r.rtEff + d) % 2 ^ 64, since := s.mer }) }
        (true, s.setBobState b 1)
    | 5 => if st = 0 then (false, s) else (true, (s.releaseDue b).bobStop b)
    | 6 =>
      if st ≠ 0 ∧ st ≠ 3 then (false, s)
      else
        let s := s.setBob b { x with ring := [], pos := x.nextId, staged := [], crossed := false, needRst := true,
                                     relSeq := 0, uwseq := 0, urst := true, uretry := none, lastSeg := false, curLast := false, skip := false }
        let s := (s.setBobLastSeq b 0).setBobLoops b (s.fld (bobWord b 5) BOBBIN_LOOPS)
        (true, (s.bobSettle b).bobMirror b)
    | _ => (false, s)

/-- A command through CORE_BOBCMD, with its RESULT (R359). -/
def State.bobCmdReg (s : State) (op b : Nat) : State :=
  let (ok, t) := s.bobCmd op b (s.rd64 CORE_BOBT_LO)
  s.hostAccess (t.setFld CORE_BOBCMD CORE_BOBCMD_RESULT (bit (!ok)))

def State.bobStartOp (s : State) (b : Nat) : State := s.bobCmdReg 1 b
def State.bobStartAtOp (s : State) (b : Nat) : State := s.bobCmdReg 2 b
def State.bobPauseOp (s : State) (b : Nat) : State := s.bobCmdReg 3 b
def State.bobResumeOp (s : State) (b : Nat) : State := s.bobCmdReg 4 b
def State.bobStopOp (s : State) (b : Nat) : State := s.bobCmdReg 5 b
def State.bobFlushOp (s : State) (b : Nat) : State := s.bobCmdReg 6 b

/-! ### Capture and unwind (R369 to R371) -/

/-- The running capture bobbins of a source. -/
def State.captures (s : State) (src : Nat) : List Nat :=
  s.liveBobbins.filter (fun b => s.bobValid b && s.bobCapture b && s.bobState b == 1 &&
    s.flag (BOBBIN b) BOBBIN_CAP_EN && s.fld (bobWord b 7) BOBBIN_CAP_SRC == src)

/-- The record of a captured frame (R351, R369). -/
def capHdr (it : Item) (seq rt : Nat) : List Byte :=
  natBe 2 ((if it.eth then 0 else 16384) + it.data.length) ++
    [BitVec.ofNat 8 (if it.eth then 0 else it.fmt),
     BitVec.ofNat 8 (if it.eth then 0 else 128 * bit it.ide + 64 * bit it.rtr + 32 * bit it.brs + 16 * bit it.sec)] ++
    natBe 4 seq ++ natBe 8 rt ++ natBe 4 (if it.eth then 0 else it.ident) ++ natBe 2 0 ++
    [BitVec.ofNat 8 (if it.fmt = 2 then it.sdt else 0), BitVec.ofNat 8 (if it.fmt = 2 then it.vcid else 0)] ++
    natBe 4 (if it.fmt = 2 then it.af else 0) ++ natBe 4 0

/-- Records of a source that wait in its capture FIFO (R370). -/
def State.capWaits (s : State) (src : Nat) : Nat :=
  ((List.range 2).flatMap s.fills).countP (fun j => j.src == some src)

/-- One capture bobbin records a frame, or drops its record (R369, R370). The record goes to the stack through the capture
FIFO of its source, in the order of arrival at the stack; a FIFO of 1,024 fills only while the fill budget is exhausted. -/
def State.captureOne (s : State) (b : Nat) (src : Nat) (it : Item) (rt : Nat) : State :=
  let x := s.bob b
  let h := capHdr it x.capSeq rt
  let s := s.setBob b { x with capSeq := (x.capSeq + 1) % 2 ^ 32 }
  let die := s.bobStack b
  if s.bobCap b < ringUnits x.ring + recUnits h ∨ 1024 ≤ s.capWaits src then (s.bobCount b 12).bobEvent b BOBBIN_EVT_CAP_DROP
  else
    let t := (s.ringAppend b false [(h, if it.rtr then [] else it.data)]).bobCount b 11
    t.setFills die (t.fills die ++ [{ bob := b, last := (t.bob b).nextId, octets := 16 * recUnits h, src := some src }])

/-- A frame of a source is offered to its capture bobbins (R369). -/
def State.capture (s : State) (src : Nat) (it : Item) (rt : Nat) : State :=
  (s.captures src).foldl (fun t b => t.captureOne b src it rt) s

/-- Longest run of records from the ring's head within a number of octets, 1,024 at most. -/
def unwindRun (room : Nat) (r : List RingRec) : List RingRec :=
  (r.foldl (fun (a : List RingRec × Nat × Bool) x =>
    if a.2.2 ∧ a.2.1 + 16 * x.units ≤ room ∧ a.1.length < 1024 then (a.1 ++ [x], a.2.1 + 16 * x.units, true)
    else (a.1, a.2.1, false)) ([], 0, true)).1

/-- WSEQ of an unwind frame. -/
def unwSeq (it : Item) : Nat := beAt it.data (it.etherOff + 6) 2

/-- The unwind frames of bobbin b that are queued or on their way. -/
def State.unwindOut (s : State) (b : Nat) : List Nat :=
  ((s.queues.flatMap (fun q => q.2.map (fun e => e.item)) ++ s.offers.flatMap (fun q => q.2.map (fun o => o.item))).filter
    (fun it => it.unw == some b)).map unwSeq

/-- Octets of records that fit a frame of bobbin b. -/
def State.unwindRoom (s : State) (b : Nat) : Nat :=
  min 10240 (max 1518 (s.fld (PORT_FRAMEn (s.bobTarget b)) PORT_FRAMEn_MAXLEN)) - 34

/-- The records in the stack that no frame on its way carries. -/
def State.unwindLeft (s : State) (b : Nat) : List RingRec :=
  let out := s.unwindOut b
  let going (r : RingRec) : Bool := match r.sent with | some w => out.contains w | none => false
  ((s.bob b).ring.dropWhile going).takeWhile (fun r => r.written && !going r)

/-- The records that the next unwind frame of bobbin b takes. -/
def State.unwindTake (s : State) (b : Nat) : List RingRec := unwindRun (s.unwindRoom b) (s.unwindLeft b)

/-- A frame of these records is full: it has 1,024, or no room for another. -/
def State.unwindFull (s : State) (b : Nat) (run : List RingRec) : Bool :=
  decide (run.length < (s.unwindLeft b).length) || run.length == 1024 || decide (s.unwindRoom b < 16 * ringUnits run + 32)

/-- The wind frame that unwinds some records of bobbin b (R353, R371). -/
def State.unwindItem (s : State) (b : Nat) (run : List RingRec) : Item :=
  let x := s.bob b
  let n := s.bobTarget b
  let w11 := s.rd (bobWord b 11)
  let da := (s.rd (bobWord b 10)).toNat * 65536 + getF w11 BOBBIN_DA_LO
  let body := run.flatMap RingRec.octets
  let tag := if getB w11 BOBBIN_TAG then tagOctets (s.portTpid n) (getF w11 BOBBIN_PCP) false (getF w11 BOBBIN_VID) else []
  let data := natBe 6 da ++ natBe 6 (s.routerMac (s.bobTenant b)) ++ tag ++
    natBe 2 (s.fld CORE_BOBCFG CORE_BOBCFG_WIND_ETYPE) ++
    [0x10, if x.urst then 0x80 else 0] ++ natBe 2 b ++ natBe 2 x.uwseq ++ natBe 2 run.length ++ natBe 2 body.length ++
    natBe 6 0 ++ body
  { Item.blank with
    data := data, tagged := getB w11 BOBBIN_TAG, pcp := getF w11 BOBBIN_PCP, vid := getF w11 BOBBIN_VID,
    tenant := s.bobTenant b, src := 16384 * (1 + n / 64) + b, hash := s.hashBobbin (s.bobTenant b) b, stamp := s.mer,
    unw := some b }

/-- Bobbin b unwinds, and is not waiting to offer a refused frame again. -/
def State.unwindReady (s : State) (b : Nat) : Bool :=
  s.bobValid b && s.bobCapture b && s.flag (BOBBIN b) BOBBIN_UNW_EN &&
    (match (s.bob b).uretry with | some a => decide (a ≤ s.mer) | none => true)

/-- A frame takes its records: they carry its WSEQ until it has been transmitted. -/
def BobSt.unwind (x : BobSt) (run : List RingRec) : BobSt :=
  { x with ring := x.ring.map (fun r => if run.any (fun q => q.id == r.id) then { r with sent := some x.uwseq } else r)
           uwseq := (x.uwseq + 1) % 65536
           urst := false
           uretry := none }

/-- UNWIND_FRAME: a capture bobbin sends its next wind frame when it is full or its oldest record has waited
100 µs; refused, it is offered again 1 µs later (R371). -/
def State.unwindFrameOp (s : State) (b : Nat) : State :=
  if !s.unwindReady b then s
  else
    match s.unwindTake b with
    | [] => s
    | first :: more =>
      if !s.unwindFull b (first :: more) ∧ s.mer < first.at_ + 100 * usTicks then s
      else
        let it := s.unwindItem b (first :: more)
        let n := s.bobTarget b
        let d : Dest := .port n (s.queueOf it n)
        if s.admits d.panel (s.sharedFree d.panel) (cellsOf it.stored) false false d then
          let t := (s.setBob b ((s.bob b).unwind (first :: more))).obsDie (s.bobStack b) 0x070 (16 * ringUnits (first :: more))
          (t.bobCount b 14).queueOne it d
        else s.setBob b { s.bob b with uretry := some (s.mer + usTicks) }

/-- An unwind frame has been transmitted: its records' space is free (R371). A frame that its port discards frees nothing, and
its records are unwound again. -/
def State.unwound (s : State) (it : Item) : State :=
  match it.unw with
  | none => s
  | some b => (s.setBob b { s.bob b with ring := (s.bob b).ring.filter (fun r => r.sent != some (unwSeq it)) }).bobSettle b

/-- BOBBIN_MIRROR_REPORT: every 1 ms while a bobbin is RUNNING (R417). -/
def State.bobReportOp (s : State) (b : Nat) : State := if s.bobState b = 1 then s.bobMirror b else s

/-! ### Meanings -/

/-- BOBBIN_COMMIT, R349: A commit of a bobbin entry is applied or refused with CFG_ERR. -/
def execBobbinCommit (i : Iface) (b : Nat) (w : Word) (s : State) : Host.Outcome State Fault Refusal := finish s (s.bobCommitOp i b w)

/-- WIND_FRAME, R355: A wind frame is checked and wound, ignored as duplicate or gap, or discarded. -/
def execWindFrame (s : State) : Host.Outcome State Fault Refusal := finish s s.windFrameOp

/-- WIND_WRITE_COMPLETE, R358: Wound records are written to the stack and become stageable. -/
def execWindWriteComplete (die : Nat) (s : State) : Host.Outcome State Fault Refusal := finish s (s.windDoneOp die)

/-- BOBBIN_START, R359: START puts a stopped bobbin into RUNNING. -/
def execBobbinStart (b : Nat) (s : State) : Host.Outcome State Fault Refusal := finish s (s.bobStartOp b)

/-- BOBBIN_START_AT, R359: START_AT starts a bobbin with SHIFT aligned to T. -/
def execBobbinStartAt (b : Nat) (s : State) : Host.Outcome State Fault Refusal := finish s (s.bobStartAtOp b)

/-- BOBBIN_PAUSE, R359: PAUSE stops releases at the present view. -/
def execBobbinPause (b : Nat) (s : State) : Host.Outcome State Fault Refusal := finish s (s.bobPauseOp b)

/-- BOBBIN_RESUME, R359: RESUME advances SHIFT by the paused time and runs again. -/
def execBobbinResume (b : Nat) (s : State) : Host.Outcome State Fault Refusal := finish s (s.bobResumeOp b)

/-- BOBBIN_STOP, R359: STOP frees staged cells and returns the position. -/
def execBobbinStop (b : Nat) (s : State) : Host.Outcome State Fault Refusal := finish s (s.bobStopOp b)

/-- BOBBIN_FLUSH, R359: FLUSH empties the ring and resets its sequence state. -/
def execBobbinFlush (b : Nat) (s : State) : Host.Outcome State Fault Refusal := finish s (s.bobFlushOp b)

/-- STAGE_RECORD, R361: The stager takes the next record at its lead, eliminating hem duplicates and jumping for loops. -/
def execStageRecord (b : Nat) (s : State) : Host.Outcome State Fault Refusal := finish s (s.stageRecordOp b)

/-- BOBBIN_RELEASE, R363: A staged record is released at its tick as an item. -/
def execBobbinRelease (b : Nat) (s : State) : Host.Outcome State Fault Refusal := finish s (s.bobReleaseOp b)

/-- UNWIND_FRAME, R371: A capture bobbin sends an unwind frame when full or after 100 us, retrying 1 us later if refused. -/
def execUnwindFrame (b : Nat) (s : State) : Host.Outcome State Fault Refusal := finish s (s.unwindFrameOp b)

/-- BOBBIN_MIRROR_REPORT, R417: Every 1 ms while a bobbin is RUNNING, a BOBBIN record of its state is produced for mirroring to the twin. -/
def execBobbinMirrorReport (b : Nat) (s : State) : Host.Outcome State Fault Refusal := finish s (s.bobReportOp b)


end Sys2Proof.Machine
end

