-- ==== Sys2Proof/Machine/Ports.lean ====
section
/-! DEFINITION. Trunk lanes and Ethernet ports: configuration, link, receive, egress selection, gates,
preemption, idle and statistics: spec/04. -/

namespace Sys2Proof.Machine

/-! ### Rates, groupings and owners (R108 to R110, R115) -/

/-- Gbit/s per lane of a SPEED code (R108). -/
def speedOf : Nat → Nat
  | 0 => 200
  | 1 => 100
  | 2 => 50
  | 3 => 25
  | _ => 10

/-- LANES and SPEED name a combination of R108. -/
def comboOk (lanes speed : Nat) : Bool := lanes < 4 && speed < 5 && (speed < 3 || lanes == 0 || lanes == 2)

/-- FEC may be selected at this speed (R110). -/
def fecOk (speed fec : Nat) : Bool := if speed < 3 then fec == 0 else if speed = 3 then true else fec != 1

/-- Port rate in Gbit/s. -/
def State.portRate (s : State) (n : Nat) : Nat := s.portLanes n * speedOf (s.fld (PORT_CFGn n) PORT_CFGn_SPEED)

/-- The reference of a panel is present (R113). -/
def State.refPresent (s : State) (p : Nat) : Bool := (s.fld PORT_REFSTAT PORT_REFSTAT_PRESENT).testBit p

/-- The media modes with link training (R111). -/
def State.portTrains (s : State) (n : Nat) : Bool := s.fld (PORT_CFGn n) PORT_CFGn_MEDIA < 2

def State.portMaxlen (s : State) (n : Nat) : Nat := min 10240 (max 1518 (s.fld (PORT_FRAMEn n) PORT_FRAMEn_MAXLEN))

/-- Enabled gPTP ports other than n. -/
def State.gptpOthers (s : State) (n : Nat) : Nat :=
  (s.regs.filter (fun p => decide (0x300000 ≤ p.1) && decide (p.1 < 0x310000) && p.1 % 64 == 0 && p.1 != PORT_CFGn n &&
    getB p.2 PORT_CFGn_EN && getB p.2 PORT_CFGn_GPTP)).length

/-- An enable with the stored word w is accepted (R115). -/
def State.portMayEnable (s : State) (n : Nat) (w : Word) : Bool :=
  let k := lanesOf (getF w PORT_CFGn_LANES)
  comboOk (getF w PORT_CFGn_LANES) (getF w PORT_CFGn_SPEED) && fecOk (getF w PORT_CFGn_SPEED) (getF w PORT_CFGn_FEC) &&
    n % k == 0 && (List.range k).all (fun i => match s.laneHolder (n + i) with | some m => m == n | none => true) &&
    !(getB w PORT_CFGn_GPTP && decide (64 ≤ s.gptpOthers n)) && s.refPresent (n / 64) && s.mayRun

def State.portEvent (s : State) (n : Nat) (f : Fld) : State := s.setFld (PORT_EVTn n) f 1
def State.portCount (s : State) (n c : Nat) (k : Nat := 1) : State := s.count64 (PORT_STATSn n c) k

/-! ### Gates (R129 to R132) -/

/-- Entries of a list with their start and length in a cycle: cut off at its end, the last one holding to it (R130). -/
def GateCfg.segs (c : GateCfg) : List (Nat × Nat × Nat × Nat) :=
  let r := c.list.foldl (fun (a : List (Nat × Nat × Nat × Nat) × Nat) e =>
    if c.cycle ≤ a.2 then a else (a.1 ++ [(a.2, min e.2.2 (c.cycle - a.2), e.2.1, e.1)], a.2 + e.2.2)) ([], 0)
  match r.1.getLast? with
  | some x => if r.2 < c.cycle then r.1.dropLast ++ [(x.1, c.cycle - x.1, x.2.2)] else r.1
  | none => []

/-- Index of the segment at a position; the last one beyond the cycle's end. -/
def GateCfg.segAt (c : GateCfg) (pos : Nat) : Nat :=
  let q := c.segs
  (q.findIdx? (fun x => decide (pos < x.1 + x.2.1))).getD (q.length - 1)

/-- Gate states at a position of the cycle. -/
def GateCfg.gatesAt (c : GateCfg) (pos : Nat) : Nat := (c.segs.getD (c.segAt pos) (0, 0, 65535, 0)).2.2.1

/-- Preemptable traffic is held at a position: the last Hold or Release of the list before it, cyclically (R134). -/
def GateCfg.holdAt (c : GateCfg) (pos : Nat) : Bool :=
  let q := c.segs
  let i := c.segAt pos
  match ((q.drop (i + 1) ++ q.take (i + 1)).filter (fun x => x.2.2.2 != 0)).getLast? with
  | some x => x.2.2.2 == 1
  | none => false

/-- Start of the cycle that holds view v; `till`: B' and EXT of a configuration about to take over (R130, R131). -/
def GateCfg.cycleStart (c : GateCfg) (v : Nat) (till : Option (Nat × Nat)) : Int :=
  let k : Int := ((v : Int) - c.base) / (c.cycle : Int)
  let st : Int := c.base + k * c.cycle
  match till with
  | some (b, ext) => if 0 < k ∧ (b : Int) < st + c.cycle ∧ (b : Int) - st < ext then st - c.cycle else st
  | none => st

/-- The configuration in force at view v with the takeover ahead of it. -/
def PortSt.gateCfg (x : PortSt) (v : Nat) : Option (GateCfg × Option (Nat × Nat)) :=
  match x.gatePend, x.gateOper with
  | some p, some o => if reached v p.base then some (p, none) else some (o, some (p.base, p.ext))
  | some p, none => if reached v p.base then some (p, none) else none
  | none, some o => some (o, none)
  | none, none => none

/-- The datum that times a port's gates. -/
def PortSt.gateTen (x : PortSt) : Option Nat :=
  match x.gateOper, x.gatePend with
  | some o, _ => some o.ten
  | none, some p => some p.ten
  | none, none => none

/-- Gate states and hold of a port at a view of its datum (R130, R131, R134). -/
def PortSt.gatesFor (x : PortSt) (init v : Nat) : Nat × Bool :=
  match x.gateCfg v with
  | none => (init, false)
  | some (c, till) =>
    let pos := ((v : Int) - c.cycleStart v till).toNat
    (c.gatesAt pos, c.holdAt pos)

/-- Gate states and hold of port n now. -/
def State.gatesNow (s : State) (n : Nat) : Nat × Bool :=
  let init := s.fld (PORT_GCTLn n) PORT_GCTLn_INIT_GATES
  if !s.flag (PORT_GCTLn n) PORT_GCTLn_EN then (init, false)
  else
    match (s.port n).gateTen with
    | none => (init, false)
    | some t => (s.port n).gatesFor init (s.viewNow t)

/-- The next entry boundary after view v. -/
def PortSt.nextBoundary (x : PortSt) (v : Nat) : Option Nat :=
  match x.gateCfg v with
  | none => match x.gatePend with | some p => some p.base | none => none
  | some (c, till) =>
    let st := c.cycleStart v till
    let b := ((c.segs.map (fun y => st + y.1)) ++ [st + c.cycle]).find? (fun t => decide ((v : Int) < t))
    match b, till with
    | some t, some (e, _) => some (min t.toNat e)
    | some t, none => some t.toNat
    | none, some (e, _) => some e
    | none, none => none

/-- The tenant time at which queue q next closes, within a number of boundaries. -/
def PortSt.closeFrom (x : PortSt) (init q : Nat) : Nat → Nat → Option Nat
  | 0, _ => none
  | k + 1, v =>
    match x.nextBoundary v with
    | none => none
    | some b => if (x.gatesFor init b).1.testBit q then x.closeFrom init q k b else some b

/-- The tenant time at which queue q next closes: in the running list, whose at most 64 entries a look at 200 boundaries
covers, or where that never closes it, at or after the takeover of a pending one (R132). -/
def PortSt.nextClose (x : PortSt) (init q v : Nat) : Option Nat :=
  match x.closeFrom init q 200 v, x.gatePend with
  | some b, _ => some b
  | none, some p => if reached v p.base then none else if (x.gatesFor init p.base).1.testBit q then x.closeFrom init q 200 p.base else some p.base
  | none, none => none

/-- The tick at which queue q of port n next closes, under the record in force (R132). -/
def State.closeTick (s : State) (n q : Nat) : Option Nat :=
  if !s.flag (PORT_GCTLn n) PORT_GCTLn_EN then none
  else
    match (s.port n).gateTen with
    | none => none
    | some t =>
      match (s.port n).nextClose (s.fld (PORT_GCTLn n) PORT_GCTLn_INIT_GATES) q (s.viewNow t) with
      | none => none
      | some b => some (((s.datum t).inForce s.mer).tickOf b)

/-- Longest continuous open span of queue q in tenant ticks; none where it never closes (R132). -/
def GateCfg.longest (c : GateCfg) (q : Nat) : Option Nat :=
  if c.segs.all (fun x => x.2.2.1.testBit q) then none
  else
    some ((c.segs ++ c.segs).foldl (fun (a : Nat × Nat) x =>
      if x.2.2.1.testBit q then (a.1 + x.2.1, max a.2 (a.1 + x.2.1)) else (0, a.2)) (0, 0)).2

/-- The pending configuration of a CHANGE, or none where it is refused (R129, R130). DESIGN CHOICE (log entry 129): the
datum that times the list is that of the port's tenant at the CHANGE, and a later binding does not move it. -/
def State.gateChange (s : State) (n : Nat) : Option GateCfg :=
  let len := s.fld (PORT_GCTLn n) PORT_GCTLn_ADMIN_LEN
  let cyc := (s.rd (PORT_GCYCLEn n)).toNat
  let list := (List.range len).map (fun i =>
    (s.fld (GATE_ADMIN n i) GATE_ADMIN_OP, s.fld (GATE_ADMIN n i) GATE_ADMIN_GATES, (s.rd (GATE_ADMIN n i + 4)).toNat))
  match s.portTenant n with
  | none => none
  | some t =>
    if len = 0 ∨ 64 < len ∨ cyc = 0 ∨ list.any (fun e => e.1 == 3 || e.2.2 == 0) then none
    else
      let b := s.rd64 (PORT_GBASE_LOn n)
      let v := s.viewNow t
      let b' := if !reached v b then b else b + ((v + (2 ^ 64 - b)) % 2 ^ 64 / cyc + 1) * cyc
      some { ten := t, base := b' % 2 ^ 64, cycle := cyc, ext := (s.rd (PORT_GEXTn n)).toNat, list := list }

/-- The words of the operational list (R129). -/
def State.showGates (s : State) (n : Nat) (g : GateCfg) : State :=
  (List.range 64).foldl (fun t i =>
    let e := g.list.getD i (0, 0, 0)
    (t.wr (GATE_OPER n i) (BitVec.ofNat 32 (65536 * e.1 + e.2.1))).wr (GATE_OPER n i + 4) (BitVec.ofNat 32 e.2.2)) s

/-! ### Queues, shapers and what may be sent (R118, R121, R123, R127, R128, R132) -/

/-- The R-TAG of an item with a stream handle, put in, rewritten or removed after the outer tag (R427). -/
def State.rtagged (_s : State) (it : Item) (tag : Bool) (data : List Byte) : List Byte :=
  match it.handle with
  | none => data
  | some (_, q) =>
    let off := if tag then 16 else 12
    let has := beAt data off 2 == 0xF1C1
    let bare := if has then data.take off ++ data.drop (off + 6) else data
    if q.testBit 16 then bare.take off ++ natBe 2 0xF1C1 ++ natBe 2 0 ++ natBe 2 q ++ bare.drop off
    else if q.testBit 17 then bare
    else data

/-- The octets with DEI set in the outer tag (R273). -/
def deiSet (data : List Byte) : List Byte := setAt data 14 (BitVec.ofNat 8 (oct data 14 ||| 16))

/-- An egress tag under an EGR_MODE, a TPID and the untagged set (R123). -/
def Item.egressTag (it : Item) (mode tpid : Nat) (untagged : Bool) : Bool × List Byte :=
  if mode = 3 then (it.tagged, if it.setDei && it.tagged then deiSet it.data else it.data)
  else
    let inner := if it.tagged then it.data.take 12 ++ it.data.drop 16 else it.data
    if mode = 2 ∨ (mode = 0 ∧ !untagged) then
      (true, inner.take 12 ++ tagOctets tpid it.pcp ((it.tagged && it.dei) || it.setDei) it.vid ++ inner.drop 12)
    else (false, inner)

/-- Octets padded with zeros to 64 with the FCS (R121). -/
def padded (data : List Byte) : List Byte := data ++ List.replicate (60 - data.length) 0

/-- The octets of an item as port n sends them, without the FCS and without padding. -/
def State.sentData (s : State) (n : Nat) (it : Item) : List Byte :=
  let (tag, d) := if it.ctl then (it.tagged, it.data)
    else it.egressTag (s.fld (PORT_TAGn n) PORT_TAGn_EGR_MODE) (s.portTpid n) (s.vlanUntagged it.vid n)
  s.rtagged it tag d

/-- Preemption is active (R133). -/
def State.preActive (s : State) (n : Nat) : Bool := s.fld (PORT_STATn n) PORT_STATn_PVS == 2

/-- Queue q of port n is preemptable now. -/
def State.preQueue (s : State) (n q : Nat) : Bool :=
  q < 16 && s.preActive n && (s.fld (PORT_PREn n) PORT_PREn_PMASK).testBit q

/-- Minimum non-final fragment in octets of frame data (R134). -/
def State.minFrag (s : State) (n : Nat) : Nat := 64 * (1 + s.fld (PORT_PREn n) PORT_PREn_ADDFRAG) - 4

/-- Shaper credit in 1/20,000 bit after dt ticks (R128). -/
def creditStep (idle rate : Nat) (sending empty open_ : Bool) (dt : Nat) (c : Int) : Int :=
  let idle := min idle (rate * 10000)
  if sending then c + ((idle : Int) - rate * 10000) * dt
  else if empty then (if 0 < c then 0 else if open_ then min 0 (c + idle * dt) else c)
  else if open_ then c + idle * dt
  else c

def State.shaped (s : State) (n q : Nat) : Bool := s.flag (CBSHAPER n q) CBSHAPER_EN

/-- Bring a port's credits to now. -/
def State.portSync (s : State) (n : Nat) : State :=
  let x := s.port n
  let dt := s.mer - x.credAt
  let cr := (List.range 16).foldl (fun (c : List (Nat × Int)) q =>
    if s.shaped n q then
      Sparse.set (fun _ => 0) c q (creditStep (s.fld (CBSHAPER n q) CBSHAPER_IDLE_SLOPE) (s.portRate n)
        (match x.tx with | some t => t.q == q | none => false) (s.portQ n q).isEmpty (x.credGates.testBit q) dt
        (Sparse.get (fun _ => 0) c q))
    else Sparse.erase c q) x.credit
  s.setPort n { x with credit := cr, credAt := s.mer, credGates := (s.gatesNow n).1 }

/-- A write of PORT_GCTLn (R129), with the credits brought up to it under the gates before (R128). DESIGN CHOICE (log
entry 129): a refused CHANGE leaves an earlier pending configuration in place. -/
def State.gctlWrite (s : State) (i : Iface) (n : Nat) (w : Word) : State :=
  if s.portShadowed n then s
  else
    let t := (State.typedWrite (s.portSync n) i (PORT_GCTLn n) w).portSync n
    if !getB w PORT_GCTLn_CHANGE then t
    else
      match t.gateChange n with
      | none => t.portEvent n PORT_EVTn_GATE_ERR
      | some g => (t.setPort n { t.port n with gatePend := some g }).setFld (PORT_STATn n) PORT_STATn_GATE_PEND 1

/-- GATE_CHANGE. -/
def State.gateChangeOp (s : State) (i : Iface) (n : Nat) (w : Word) : State := s.hostAccess (s.gctlWrite i n w)

/-- A queue is eligible (R127); the control queue needs only a frame. -/
def State.eligible (s : State) (n q : Nat) : Bool :=
  match (s.portQ n q).head? with
  | none => false
  | some e =>
    e.place < 2 && (q == 16 || ((s.gatesNow n).1.testBit q &&
      (!s.shaped n q || decide (0 ≤ Sparse.get (fun _ => 0) (s.port n).credit q)) &&
      !(s.preQueue n q && (s.gatesNow n).2)))

/-- Octets from destination address to FCS of an item as port n sends it. -/
def State.sentLen (s : State) (n : Nat) (it : Item) : Nat := max 64 ((s.sentData n it).length + 4)

/-- A transmission of a number of octets, preamble included, ends before the queue's gate closes (R132). -/
def State.fits (s : State) (n q octets : Nat) : Bool :=
  match s.closeTick n q with
  | none => true
  | some c => decide (16 * octets ≤ (c - s.mer) * s.portRate n)

/-- The head of a queue may start: whole for an express queue, a fragment for a preemptable one (R132). -/
def State.headFits (s : State) (n q : Nat) : Bool :=
  q == 16 ||
  (match (s.portQ n q).head? with
   | none => false
   | some e =>
     let rest := match (s.port n).rem with | some r => if r.q = q then r.len - r.sent else s.sentLen n e.item | none => s.sentLen n e.item
     if s.preQueue n q then s.fits n q (8 + min rest (s.minFrag n + 4)) else s.fits n q (8 + rest))

/-- A head that may not be sent: poison-tagged (R572), longer than MAXLEN + 4 (R121), or longer than its queue's longest window (R132). -/
def State.headBad (s : State) (n q : Nat) (e : QEnt) : Bool :=
  let len := s.sentLen n e.item
  e.item.poison || decide (s.portMaxlen n + 4 < max len e.item.stored) ||
    (q < 16 && !s.preQueue n q && s.flag (PORT_GCTLn n) PORT_GCTLn_EN &&
      (match (s.port n).gateOper with
       | some g =>
         match g.longest q with
         | some l => decide (l * 2 ^ 40 * s.portRate n < 16 * (8 + len) * ((s.datum g.ten).inForce s.mer).rate)
         | none => false
       | none => false))

/-- Discard the heads of a queue that may not be sent; a frame whose transmission has begun is not one. -/
def State.purgeQueue (s : State) (n q : Nat) : State :=
  let busy (o : Option TxFrame) : Bool := match o with | some t => t.q == q | none => false
  if busy (s.port n).tx || busy (s.port n).rem then s
  else
    let l := s.portQ n q
    let bad := l.takeWhile (s.headBad n q)
    if bad.isEmpty then s
    else State.noteIdle (bad.foldl (fun t e => t.discardEntry e (dequeueReason e.item)) (s.setQueue (.port n q) (l.drop bad.length))) n

/-- The first queue of R127's order that can start a frame: any, or only an express one. -/
def State.pickQueue (s : State) (n : Nat) (express : Bool) : Option Nat :=
  (16 :: (List.range 16).reverse).find? (fun q =>
    s.eligible n q && s.headFits n q && !(express && s.preQueue n q) &&
      (match (s.port n).rem with | some r => r.q == q || !s.preQueue n q | none => true))

/-- Discard a preempted frame's remainder (R116, R134). -/
def State.dropRem (s : State) (n : Nat) : State :=
  match (s.port n).rem with
  | none => s
  | some r =>
    let t := s.setPort n { s.port n with rem := none }
    match t.portQ n r.q with
    | e :: rest =>
      State.noteIdle (State.discardEntry (t.setQueue (.port n r.q) rest)
        { e with item := { e.item with tsreq := if r.stamped then none else e.item.tsreq } } rEgress) n
    | [] => t

/-! ### Preemption (R133, R134) -/

/-- Cut the preemptable frame on the wire after a whole number of octets, if both parts are long enough (R134). -/
def State.preempt (s : State) (n : Nat) : State :=
  match (s.port n).tx with
  | none => s
  | some t =>
    let out := max (s.minFrag n) ((s.mer - t.began) * s.portRate n / 16 - 8)
    if !t.pre ∨ (s.port n).rem.isSome ∨ t.len < t.sent + out + 64 then s
    else
      (s.setPort n { s.port n with tx := none, rem := some { t with sent := t.sent + out } }).portCount n 14

/-- Begin verification, or take preemption as active without it (R133). -/
def State.startVerify (s : State) (n : Nat) : State :=
  if !s.flag (PORT_PREn n) PORT_PREn_EN then s.setFld (PORT_STATn n) PORT_STATn_PVS 0
  else if s.flag (PORT_PREn n) PORT_PREn_VERIFY_DIS then s.setFld (PORT_STATn n) PORT_STATn_PVS 2
  else (s.setPort n { s.port n with vTries := 0, vAt := s.mer }).setFld (PORT_STATn n) PORT_STATn_PVS 1

/-- A write of PORT_PREn: writing EN starts a new verification (R133). -/
def State.preWrite (s : State) (i : Iface) (n : Nat) (w : Word) : State :=
  if s.portShadowed n then s
  else
    let t := s.typedWrite i (PORT_PREn n) w
    if t.portLink n then t.startVerify n else t

/-- VERIFY_TIME in ticks. -/
def State.verifyTicks (s : State) (n : Nat) : Nat :=
  let v := s.fld (PORT_PREn n) PORT_PREn_VERIFY_TIME
  (if v = 0 ∨ 128 < v then 128 else v) * msTicks

/-- VERIFY_SEND: an attempt every VERIFY_TIME, failing after the third (R133); nothing but idles goes out while remote
fault is received (R118). -/
def State.verifySendOp (s : State) (n : Nat) : State :=
  let x := s.port n
  if s.fld (PORT_STATn n) PORT_STATn_PVS ≠ 1 ∨ s.mer < x.vAt ∨ s.flag (PORT_STATn n) PORT_STATn_RFAULT then s
  else if x.vTries < 3 then
    (s.setPort n { x with vTries := x.vTries + 1, vAt := s.mer + s.verifyTicks n }).emitOut (.verify n)
  else (s.setFld (PORT_STATn n) PORT_STATn_PVS 3).portEvent n PORT_EVTn_VERIFY_FAIL

/-- VERIFY_RESPONSE (R133). -/
def State.verifyResponseOp (s : State) (n : Nat) : State :=
  if s.fld (PORT_STATn n) PORT_STATn_PVS = 1 ∧ (s.port n).vTries ≠ 0 then s.setFld (PORT_STATn n) PORT_STATn_PVS 2 else s

/-! ### Configuration, link and references (R111 to R118) -/

/-- Clear a port's statistics (R136). -/
def State.clearStats (s : State) (n : Nat) : State :=
  (List.range 16).foldl (fun t c => t.wr64 (PORT_STATSn n c) 0) s

/-- The effects of enabling a port (R106, R111, R115, R136). -/
def State.portStart (s : State) (n : Nat) : State :=
  let x := s.port n
  let k := s.fld (PORT_CFGn n) PORT_CFGn_LANES
  let t := (s.setFld (PORT_STATn n) PORT_STATn_STOPPED 0).clearStats n
  let t := if x.lanes = k then t else (List.range (lanesOf k)).foldl (fun u j => u.setTsq (n + j) []) t
  let t := t.setFld (PORT_STATn n) PORT_STATn_TRAIN (if s.portTrains n then 1 else 0)
  t.setPort n { x with tx := none, rem := none, rxOpen := none, noLock := true, downAt := none, upAt := none,
                       trainAt := s.mer, credit := [], credAt := s.mer, vTries := 0, vAt := 0,
                       idleAt := s.mer, lanes := k }

/-- The effects of the write that stops a port (R116). -/
def State.portHalt (s : State) (n : Nat) : State :=
  let s := s.setPort n { s.port n with rxOpen := some s.mer }
  let s := match (s.port n).rem with
    | some r => if (s.gatesNow n).1.testBit r.q then s else s.dropRem n
    | none => s
  s.flushPort n

/-- A write of PORT_CFGn: whether it is taken without CFG_ERR, and its effect (R115). -/
def State.portCfg (s : State) (i : Iface) (n : Nat) (w : Word) : Bool × State :=
  if s.portShadowed n then (true, s)
  else
    let old := s.rd (PORT_CFGn n)
    let t := s.typedWrite i (PORT_CFGn n) w
    let new := t.rd (PORT_CFGn n)
    if !s.portEn n && s.portStopped n then
      if !getB w PORT_CFGn_EN then (true, t)
      else if s.portMayEnable n new then (true, t.portStart n)
      else (false, s.portEvent n PORT_EVTn_CFG_ERR)
    else if !s.portEn n then (if new = old then (true, s) else (false, s.portEvent n PORT_EVTn_CFG_ERR))
    else
      let same := setF new PORT_CFGn_EN 1 = old
      let t := if same then s else s.portEvent n PORT_EVTn_CFG_ERR
      if getB w PORT_CFGn_EN then (decide same, t)
      else (decide same, (t.setFld (PORT_CFGn n) PORT_CFGn_EN 0).portHalt n)

/-- PORT_ENABLE, PORT_STOP and PORT_CONFIG_WRITE are the three kinds of write of PORT_CFGn. -/
def State.portEnableOp (s : State) (i : Iface) (n : Nat) (w : Word) : State :=
  if !s.portEn n && s.portStopped n && getB w PORT_CFGn_EN then s.hostAccess (s.portCfg i n w).2 else s

def State.portStopOp (s : State) (i : Iface) (n : Nat) (w : Word) : State :=
  if s.portEn n && !getB w PORT_CFGn_EN then s.hostAccess (s.portCfg i n w).2 else s

def State.portConfigOp (s : State) (i : Iface) (n : Nat) (w : Word) : State :=
  if (s.portEn n && !getB w PORT_CFGn_EN) || (!s.portEn n && s.portStopped n && getB w PORT_CFGn_EN) then s
  else s.hostAccess (s.portCfg i n w).2

/-- The link goes down (R117, R118, R134); the queues of a member of an aggregation group wait for its leaving
the active set. -/
def State.linkFall (s : State) (n : Nat) : State :=
  let t := ((s.setFld (PORT_STATn n) PORT_STATn_LINK 0).portEvent n PORT_EVTn_LINK_DOWN).log 117 n [0]
  (t.setFld (PORT_STATn n) PORT_STATn_PVS 0).setFld (PORT_STATn n) PORT_STATn_LPI_TX 0

/-- A port trains anew from now on (R111, R112). -/
def State.retrain (s : State) (n : Nat) : State :=
  if s.portTrains n then
    (s.setFld (PORT_STATn n) PORT_STATn_TRAIN 1).setPort n { s.port n with trainAt := s.mer }
  else s

/-- The conditions of link down stand: of a local fault, or of the loss of block lock or lane alignment, with which the
port receives nothing (R117). -/
def State.linkFaulty (s : State) (n : Nat) (fault : Bool) : State :=
  let x := s.port n
  (s.setFlag (PORT_STATn n) PORT_STATn_LFAULT fault).setPort n
    { x with noLock := x.noLock || !fault, upAt := none, downAt := some (x.downAt.getD s.mer) }

/-- DN_HOLD of a port in ticks; 0 declares link down on the first indication (R117). -/
def State.dnHold (s : State) (n : Nat) : Nat := s.fld (PORT_LINKTn n) PORT_LINKTn_DN_HOLD * usTicks

/-- UP_HOLD of a port in ticks, 0 as 1 ms (R117). -/
def State.upHold (s : State) (n : Nat) : Nat := max 1 (s.fld (PORT_LINKTn n) PORT_LINKTn_UP_HOLD) * msTicks

/-- LINK_DOWN: the port sees a local fault (`fault`), or its PCS has lost block lock or lane alignment. The link is
declared down once the conditions have stood without a break for DN_HOLD; lanes that lost lock train again (R111, R117,
R118). -/
def State.linkDownOp (s : State) (n : Nat) (fault : Bool) : State :=
  if !s.portRuns n then s
  else
    let s := s.linkFaulty n fault
    if !s.portLink n || decide (s.mer < (s.port n).downAt.getD s.mer + s.dnHold n) then s
    else
      let t := s.linkFall n
      let t := if (s.port n).noLock then t.retrain n else t
      let t := t.dropRem n
      match t.lagOf n with
      | some _ => t
      | none => t.flushPort n

/-- LINK_UP: the port sees the link free of the conditions of link down, which ends a down hold; the link is declared up
once that has lasted UP_HOLD (R117, R133, R271). -/
def State.linkUpOp (s : State) (n : Nat) : State :=
  if !s.portRuns n || !s.refPresent (n / 64) || (s.portTrains n && s.fld (PORT_STATn n) PORT_STATn_TRAIN != 2) then s
  else
    let x := s.port n
    let s := (s.setFld (PORT_STATn n) PORT_STATn_LFAULT 0).setPort n
      { x with noLock := false, downAt := none, upAt := some (x.upAt.getD s.mer) }
    if s.portLink n || decide (s.mer < (s.port n).upAt.getD s.mer + s.upHold n) then s
    else
      let t := ((s.setFld (PORT_STATn n) PORT_STATn_LINK 1).portEvent n PORT_EVTn_LINK_UP).log 117 n [1]
      let t := (t.setPort n { t.port n with idleAt := s.mer }).startVerify n
      let t := if s.jn.ports.testBit n ∧ s.jn.upAt.isNone then State.wr { t with jn := { t.jn with upAt := some s.mer } } (SYS_BOOTTk 2) (BitVec.ofNat 32 (s.mer / usTicks)) else t
      match t.lagOf n with
      | some a => t.lagRefresh a
      | none => t

/-- PORT_DRAINED (R116). -/
def State.portDrainedOp (s : State) (n : Nat) : State :=
  if s.portEn n || s.portStopped n || (s.port n).tx.isSome || (s.port n).rem.isSome then s
  else
    let t := if s.portLink n then s.linkFall n else s
    let t := t.setFld (PORT_STATn n) PORT_STATn_STOPPED 1
    let t := ([PORT_STATn_RFAULT, PORT_STATn_LFAULT, PORT_STATn_LPI_TX, PORT_STATn_LPI_RX, PORT_STATn_TRAIN,
      PORT_STATn_PVS]).foldl (fun u f => u.setFld (PORT_STATn n) f 0) t
    t.setPort n { t.port n with rxOpen := none, noLock := true, downAt := none, upAt := none }

/-- TRAINING_COMPLETE (R111). -/
def State.trainDoneOp (s : State) (n : Nat) : State :=
  let tr := s.fld (PORT_STATn n) PORT_STATn_TRAIN
  if s.portEn n && s.portTrains n && s.refPresent (n / 64) && (tr == 1 || tr == 3) then
    State.setFld { s with jn := { s.jn with fails := Sparse.set (fun _ => 0) s.jn.fails n 0 } } (PORT_STATn n) PORT_STATn_TRAIN 2
  else s

/-- A training attempt of port n has lasted 300 ms (R112). -/
def State.trainExpired (s : State) (n : Nat) : Bool :=
  let tr := s.fld (PORT_STATn n) PORT_STATn_TRAIN
  s.portEn n && s.portTrains n && s.refPresent (n / 64) && (tr == 1 || tr == 3) &&
    decide ((s.port n).trainAt + 300 * msTicks ≤ s.mer)

/-- TRAINING_TIMEOUT: an attempt that has not completed within 300 ms is abandoned, and shown as failed while the next
one runs (R112). -/
def State.trainTimeoutOp (s : State) (n : Nat) : State :=
  if s.trainExpired n then
    ((s.setFld (PORT_STATn n) PORT_STATn_TRAIN 3).portEvent n PORT_EVTn_TRAIN_FAIL).setPort n { s.port n with trainAt := s.mer }
  else s

/-- REMOTE_FAULT and REMOTE_FAULT_END (R118). -/
def State.remoteFaultOp (s : State) (n : Nat) : State :=
  if s.portRuns n && !s.flag (PORT_STATn n) PORT_STATn_RFAULT then
    (s.setFld (PORT_STATn n) PORT_STATn_RFAULT 1).portEvent n PORT_EVTn_RFAULT
  else s

def State.remoteFaultEndOp (s : State) (n : Nat) : State := s.setFld (PORT_STATn n) PORT_STATn_RFAULT 0

/-- The enabled ports of a panel. -/
def State.panelPorts (s : State) (p : Nat) : List Nat := ((List.range 64).map (fun k => 64 * p + k)).filter s.portEn

/-- The reference of a panel becomes absent: the lanes of its enabled ports lose lock, and train again when it is back
(R113, R117). -/
def State.refGone (s : State) (p : Nat) : State :=
  (s.panelPorts p).foldl (fun t n => (t.linkFaulty n false).retrain n) s

/-- REF_WINDOW_END: a window of a panel's reference detector with its count of edges. Windows start at multiples of 2,000
ticks, back to back, while the time PLL is locked; each is judged once (R113). -/
def State.refWindowOp (s : State) (p edges : Nat) : State :=
  let k := s.mer / 2000
  if s.flag TIME_STAT TIME_STAT_PLL_LOCK && decide (k ≤ Sparse.get (fun _ => 0) s.refWin p) then s
  else
    let s : State := { s with refWin := Sparse.set (fun _ => 0) s.refWin p k }
    if s.flag TIME_STAT TIME_STAT_PLL_LOCK && decide (155 ≤ edges) && decide (edges ≤ 158) then
      let g := min 10 (Sparse.get (fun _ => 0) s.refGood p + 1)
      let t : State := { s with refGood := Sparse.set (fun _ => 0) s.refGood p g }
      if g = 10 ∧ !s.refPresent p then
        (t.panelPorts p).foldl (fun u n => u.retrain n)
          (t.setFld PORT_REFSTAT PORT_REFSTAT_PRESENT (t.fld PORT_REFSTAT PORT_REFSTAT_PRESENT ||| 2 ^ p))
      else t
    else
      let t : State := { s with refGood := Sparse.set (fun _ => 0) s.refGood p 0 }
      let pr := t.fld PORT_REFSTAT PORT_REFSTAT_PRESENT
      if pr.testBit p then
        (((t.setFld PORT_REFSTAT PORT_REFSTAT_PRESENT (pr - 2 ^ p)).setFld PORT_REFSTAT PORT_REFSTAT_LOST
          (t.fld PORT_REFSTAT PORT_REFSTAT_LOST ||| 2 ^ p)).log 113 p).refGone p
      else t

/-! ### Lane equalisation (R114) -/

/-- Entry of lane l: trunk lanes 0–1023, Seam lanes at 1,024, observation lanes at 1,040. -/
def eqAddr (l : Nat) : Nat :=
  if l < 1024 then EQ_TRUNK l else if l < 1040 then 0x00B82000 + 8 * (l - 1024) else 0x00B82080 + 8 * (l - 1040)

/-- Magnitudes of the five taps sum to at most 64. -/
def tapsOk (w : Word) : Bool :=
  decide ((sext 6 (getF w EQ_TRUNK_PRE3)).natAbs + (sext 6 (getF w EQ_TRUNK_PRE2)).natAbs +
    (sext 6 (getF w EQ_TRUNK_PRE1)).natAbs + getF w EQ_TRUNK_MAIN + (sext 6 (getF w EQ_TRUNK_POST1)).natAbs ≤ 64)

/-- A commit of a lane's entry: whether it is taken, and its effect. -/
def State.eqCommit (s : State) (who l : Nat) (w : Word) : Bool × State :=
  if tapsOk w then
    (true, (s.typedWord (eqAddr l) w).typedWord (eqAddr l + 4) (s.stagedWord who (eqAddr l + 4)))
  else
    (false, match (if l < 1024 then s.laneHolder l else none) with
      | some m => s.portEvent m PORT_EVTn_CFG_ERR
      | none => s)

/-- LANE_EQ_WRITE: word 0 with the staged word 1. -/
def State.eqWriteOp (s : State) (i : Iface) (l : Nat) (w : Word) : State :=
  s.hostAccess (s.eqCommit (ifaceNum i) l w).2

/-! ### Receive (R119, R120, R125, R126, R134, R136) -/

/-- The group-hash bin of a destination address (R125). -/
def groupBin (data : List Byte) : Nat := crc32 0xEDB88320 (data.take 6) % 4096

/-- EtherType after the outer tag of port n. -/
def State.rxEtype (s : State) (n : Nat) (data : List Byte) : Nat :=
  match outerTag [s.portTpid n] data with
  | some _ => beAt data 16 2
  | none => beAt data 12 2

/-- OAP_ETYPE. -/
def State.od (s : State) (k : Nat) : Nat := Sparse.get odReset s.ods k
def State.setOd (s : State) (k v : Nat) : State := { s with ods := Sparse.set odReset s.ods k v }

/-- A frame that is an OAP frame (R27, R455). -/
def State.isOap (s : State) (n : Nat) (data : List Byte) : Bool := s.rxEtype n data == s.od 0x000301

/-- A gPTP frame on a port with gPTP (R95). -/
def State.isGptp (s : State) (n : Nat) (data : List Byte) : Bool :=
  s.flag (PORT_CFGn n) PORT_CFGn_GPTP && beAt data 0 6 == 0x0180C200000E && beAt data 12 2 == 0x88F7

/-- A gPTP frame uses what R95 supports: the 802.1AS profile (majorSdoId 1, PTP version 2), one of its message types,
domain 0, two-step where it is a Sync, and the message interval request TLV where it is a Signaling (R4; places and
numbers of IEEE 1588 and 802.1AS: majorSdoId and message type in octet 0, version in octet 1, domain in octet 4, two-step
in bit 1 of octet 6, the TLV of a Signaling from octet 44 on). -/
def gptpFormed (data : List Byte) : Bool :=
  let ty := oct data 14 % 16
  [0, 2, 3, 8, 10, 11, 12].contains ty && oct data 14 / 16 == 1 && oct data 15 % 16 == 2 && oct data 18 == 0 &&
    (ty != 0 || (oct data 20).testBit 1) &&
    (ty != 12 || (beAt data 58 2 == 3 && beAt data 62 3 == 0x0080C2 && beAt data 65 3 == 2))

/-- A join frame on a join port (R608). -/
def State.isJoin (s : State) (n : Nat) (data : List Byte) : Bool :=
  s.jn.ports.testBit n && beAt data 0 6 == 0x034C485AFFFF && beAt data 12 2 == s.jn.etype && oct data 14 == 0x4A

/-- A group address passes the MAC (R125, R608). -/
def State.groupPass (s : State) (n : Nat) (data : List Byte) : Bool :=
  s.isOap n data || s.isJoin n data || (beAt data 0 6 == 0x0180C200000E && s.flag (PORT_CFGn n) PORT_CFGn_GPTP) ||
    (beAt data 0 6 == 2 ^ 48 - 1 && s.flag (PORT_FILTn n) PORT_FILTn_BCAST) || s.flag (PORT_FILTn n) PORT_FILTn_GALL ||
    (s.rd (GROUP_HASH n (groupBin data / 32))).getLsbD (groupBin data % 32)

/-- The tenant under which a discard at port n counts (R29, R33). -/
def State.portDrop (s : State) (n reason : Nat) : State := s.dropFor ((s.portTenant n).getD 1024) reason

/-- Hand an item to a panel's parser. -/
def State.parse (s : State) (p : Nat) (it : Item) : State :=
  { s with parserIn := Sparse.set (fun _ => []) s.parserIn p (Sparse.get (fun _ => []) s.parserIn p ++ [it]) }

/-- Some port forwards cut-through (R279). -/
def State.anyCut (s : State) : Bool :=
  s.regs.any (fun p => decide (0x5000000 ≤ p.1) && decide (p.1 < 0x5080000) && p.1 % 512 == 0x110 && getB p.2 PORTWORD_CT_EN)

/-- The item of a frame at port n whose first bit crossed the plane at `raw` (R100). -/
def State.rxItem (s : State) (n : Nat) (data : List Byte) (raw : Nat) : Item :=
  let ti := s.tsIn n raw
  { Item.blank with data := data, src := n, stamp := s.originOf n ti, tsIn := ti, tenant := 1024 }

/-- A frame that failed R119: counted, discarded as malformed; its start may have gone on cut-through (R280). -/
def State.rxBad (s : State) (n c : Nat) (data : List Byte) (raw : Nat) : State :=
  let t := (s.portCount n c).portDrop n rMalformed
  if s.anyCut && decide (128 ≤ data.length) then
    t.parse (n / 64) { s.rxItem n (data.take (s.portMaxlen n - 4)) raw with bad := true }
  else t

/-- A control-class frame at the MAC: OAP by EtherType, or a join frame (R27, R608). -/
def State.isCtl (s : State) (n : Nat) (data : List Byte) : Bool := s.isOap n data || s.isJoin n data

/-- A MAC control frame (R120). -/
def isMacCtl (data : List Byte) : Bool := beAt data 12 2 == 0x8808

/-- Words of 256 bits that the frames of port n take in its data receive FIFO on their way to the parser (R28, R68). -/
def State.rxWords (s : State) (n : Nat) : Nat :=
  (Sparse.get (fun _ => []) s.parserIn (n / 64)).foldl
    (fun a it => if it.eth ∧ it.src = n ∧ it.member = 0 then a + (it.data.length + 35) / 32 else a) 0

/-- The control FIFO of a port's MAC (R27). -/
def State.ctlHeld (s : State) (n : Nat) : List (List Byte) := Sparse.get (fun _ => []) s.ctlIn n

/-- The Thimble takes the oldest frame of a port's control FIFO. -/
def State.ctlTake (s : State) (n : Nat) : State :=
  { s with ctlIn := Sparse.set (fun _ => []) s.ctlIn n (s.ctlHeld n).tail }

/-- A control-class frame enters the control FIFO. DESIGN CHOICE (log entry 130): one that finds 16 frames there is a
receive overrun, which for a join frame counts under no reason (R608). -/
def State.ctlEnter (s : State) (n : Nat) (data : List Byte) : State :=
  if (s.ctlHeld n).length < 16 then { s with ctlIn := Sparse.set (fun _ => []) s.ctlIn n (s.ctlHeld n ++ [data]) }
  else if s.isJoin n data then s.portCount n 8
  else (s.portCount n 8).portDrop n rOverrun

/-- Octets of one frame that the statistics count on receipt (R136). -/
def State.rxCount (s : State) (n : Nat) (data : List Byte) : State :=
  let t := (s.portCount n 0).portCount n 1 (data.length + 4)
  if beAt data 0 6 = 2 ^ 48 - 1 then t.portCount n 3 else if oct data 0 % 2 = 1 then t.portCount n 2 else t

/-- A frame accepted under R119: counted, sampled and captured, and handed on unless the group filter or the check of a
gPTP frame discards it; a control-class frame goes to its own FIFO. -/
def State.rxGood (s : State) (n : Nat) (data : List Byte) (raw : Nat) : State :=
  let pass := oct data 0 % 2 == 0 || s.groupPass n data
  let (adm, s) := if pass && !s.isCtl n data && !s.isGptp n data then s.admitData (n / 64) else (true, s)
  if !adm then (s.portCount n 8).portDrop n rOverrun
  else
    let (hit, t) := (s.rxCount n data).sampleStep n
    if s.isCtl n data then t.ctlEnter n data
    else
      let it := { s.rxItem n data raw with mirror := if hit then some 0 else none }
      let own := { it with tenant := (s.portTenant n).getD 1024 }
      let t := t.capture n it (s.tenantStamp (s.portTenant n) it.stamp)
      if !pass then (t.portCount n 7).dropItem own rFilterDeny
      else if s.isGptp n data then (if gptpFormed data then t else t.dropItem own rMalformed)
      else t.parse (n / 64) it

/-- FRAME_RECEIVE: a frame completes at port n: its octets from destination address to before the FCS, what the
MAC found (0 nothing, 1 a wrong FCS, 2 code errors or an uncorrectable codeword, 3 a reassembly or SMD error,
4 the data receive FIFO was full), and the raw tick of its first bit. Nothing is received without lock or reference
(R117); a stopping port completes only what had begun at the stop (R116). A full data FIFO discards no control-class
frame (R27, R275) and no MAC control frame, which ends in the MAC. DESIGN CHOICE (log entry 130): a frame under 64 octets
with a wrong FCS counts as RX_LEN_ERR; a fragment in RX_PHY_ERR's sense is one that the MAC finds with code errors. -/
def State.frameReceiveOp (s : State) (n : Nat) (data : List Byte) (found raw : Nat) : State :=
  if !(s.portEn n || (!s.portStopped n && (match (s.port n).rxOpen with | some h => decide (raw ≤ h) | none => false))) ||
      s.portShadowed n || !s.refPresent (n / 64) || (s.port n).noLock then s
  else
    let s := if s.portEn n then s else s.setPort n { s.port n with rxOpen := none }
    let len := data.length + 4
    if !s.isCtl n data && !isMacCtl data && (found == 4 || decide (64 ≤ s.rxWords n)) then
      (s.portCount n 8).portDrop n rOverrun
    else if found = 2 then (s.portCount n 6).portDrop n rMalformed
    else if found = 3 then (s.portCount n 15).portDrop n rMalformed
    else if len < 64 then (s.portCount n 5).portDrop n rMalformed
    else if s.portMaxlen n < len then s.rxBad n 5 data raw
    else if found = 1 then s.rxBad n 4 data raw
    else if isMacCtl data then s.portCount n 9
    else s.rxGood n data raw

/-- GROUP_HASH_WRITE (R126). -/
def State.groupHashOp (s : State) (i : Iface) (n k : Nat) (w : Word) : State :=
  s.hostAccess (s.typedWrite i (GROUP_HASH n k) w)

/-- STATS_READ: the low word of counter c is cleared, with the high word latched (R136). -/
def State.statsRead (s : State) (i : Iface) (n c : Nat) : State :=
  let v := s.rd64 (PORT_STATSn n c)
  ((s.wr64 (PORT_STATSn n c) 0).latch i (PORT_STATSn_HI n c) (BitVec.ofNat 32 (v / 2 ^ 32))).answer i (PORT_STATSn n c)
    (BitVec.ofNat 32 v)

def State.statsReadOp (s : State) (i : Iface) (n c : Nat) : State := s.hostAccess (s.statsRead i n c)

/-! ### Egress (R116, R118, R124, R127, R256, R279, R425) -/

/-- The frame goes on cut-through: its one destination is this port (R279). -/
def State.cutThrough (s : State) (o : Offer) : Bool :=
  match o.copies with
  | [.port n q] =>
    o.single && s.destLive (.port n q) &&
      o.item.eth && o.item.src / 4096 == 0 && decide (o.item.src < 16384) && s.flag (PORTWORD n) PORTWORD_CT_EN &&
      decide (s.portRate n ≤ s.portRate o.item.src) && (s.portQ n q).isEmpty &&
      (q == 16 || ((s.gatesNow n).1.testBit q && !(s.eligible n 16))) &&
      (List.range 16).all (fun r => decide (r ≤ q) || !s.eligible n r)
  | _ => false

/-- ITEM_ENQUEUE: the oldest admission waiting at a panel's queue manager is judged (R34, R256 to R258, R279). A copy
whose destination has come to another tenant since is a tenant violation; a cut-through frame counts where it is
admitted. -/
def State.itemEnqueueOp (s : State) (p : Nat) : State :=
  match Sparse.get (fun _ => []) s.offers p with
  | [] => s
  | o :: rest =>
    let s : State := { s with offers := Sparse.set (fun _ => []) s.offers p rest }
    let s := o.copies.foldl (fun t d => match d with | .port n _ => t.portSync n | _ => t) s
    let cut := s.cutThrough o
    let strange (x : Dest × Option Nat) : Bool := s.destOwner x.1 != x.2
    let mine := ((o.copies.zip o.own).filter (fun x => !strange x)).map (fun x => x.1)
    let t := ((o.copies.zip o.own).filter strange).foldl (fun t x => t.refuseStranger o.item x.1) s
    let live := mine.filter s.destLive
    let t := (mine.filter (fun d => !s.destLive d)).foldl (fun t d => t.refuseDead o.item d) t
    if o.item.bad && !cut then t
    else
      let u := t.queueIn p { o with copies := live }
      if cut && u.chainCtr != t.chainCtr then u.count (CORE_PNLp_CNTc p 6) else u

/-- The frame as it goes on the wire. -/
def State.sentItem (s : State) (n : Nat) (it : Item) : Item := { it with data := padded (s.sentData n it) }

/-- The head of queue q starts. -/
def State.txHead (s : State) (n q raw : Nat) : State :=
  match s.portQ n q with
  | [] => s
  | e :: rest =>
    let it := e.item.mark 8 s.mer
    let t := s.setQueue (.port n q) ({ e with item := it } :: rest)
    t.setPort n { t.port n with
      tx := some { q := q, item := s.sentItem n it, len := s.sentLen n it, raw := raw, began := s.mer, sent := 0,
                   pre := s.preQueue n q, stamped := false } }

/-- Put the head of queue q, or its preempted remainder, on the wire. -/
def State.txBegin (s : State) (n q raw : Nat) : State :=
  match (s.port n).rem with
  | some r =>
    if r.q = q then s.setPort n { s.port n with tx := some { r with began := s.mer }, rem := none } else s.txHead n q raw
  | none => s.txHead n q raw

/-- TRANSMIT_START: the MAC of port n starts the head of the first eligible queue, over a preemptable frame on the
wire if need be; a stopping port only resumes its preempted frame. `raw` is the tick at which the first bit after the
SFD crosses the plane (R116, R118, R121, R127, R128, R132). -/
def State.transmitStartOp (s : State) (n raw : Nat) : State :=
  if !s.portRuns n || !s.portLink n || s.flag (PORT_STATn n) PORT_STATn_RFAULT || s.flag (PORT_STATn n) PORT_STATn_LPI_TX then s
  else
    let s := s.portSync n
    if !s.portEn n then
      match (s.port n).tx, (s.port n).rem with
      | none, some r => if (s.gatesNow n).1.testBit r.q then s.txBegin n r.q raw else s
      | _, _ => s
    else
      let s := (List.range 17).foldl (fun t q => t.purgeQueue n q) s
      match (s.port n).tx with
      | none =>
        match s.pickQueue n false with
        | some q => s.txBegin n q raw
        | none => s
      | some _ =>
        match s.pickQueue n true with
        | some q =>
          let t := s.preempt n
          if (t.port n).tx.isNone then t.txBegin n q raw else s
        | none => s

/-- The time-stamp entry of the frame on the wire (R100, R103). -/
def State.txStamp (s : State) (n : Nat) (x : TxFrame) : State :=
  match x.item.tsreq with
  | none => s
  | some (src, k) =>
    if x.stamped then s
    else
      let o := s.tsOut n x.raw
      s.tsqPut n { disc := false, src := src, ident := k, mer := o, ten := s.tenantStamp (s.portTenant n) (s.arrivalOf n o) }

/-- The entry of a preempted frame, whose first bit crossed the plane before the frame on the wire (R103). -/
def State.remStamp (s : State) (n : Nat) : State :=
  match (s.port n).rem with
  | none => s
  | some r => (s.txStamp n r).setPort n { s.port n with rem := some { r with stamped := true } }

/-- TX_TIMESTAMP_ENTRY: the oldest frame without its entry, preempted or on the wire, has crossed the plane (R103). -/
def State.txStampOp (s : State) (n : Nat) : State :=
  let owed := match (s.port n).rem with | some r => !r.stamped && r.item.tsreq.isSome | none => false
  if owed then s.remStamp n
  else
    match (s.port n).tx with
    | none => s
    | some x =>
      if s.mer < x.raw then s
      else (s.txStamp n x).setPort n { s.port n with tx := some { x with stamped := true } }

/-- The frame on the wire of port n is complete (R136, R259, R276, R280, R585). -/
def State.txDone (s : State) (n : Nat) : State :=
  match (s.port n).tx with
  | none => s
  | some x =>
    let s := (s.portSync n).remStamp n
    let t := s.txStamp n x
    let t := t.setPort n { t.port n with tx := none }
    -- observation takes the item as it is stored, before its tag changes at egress and its padding (R253, R277)
    let stored := match t.portQ n x.q with | e :: _ => e.item | [] => x.item
    let t := match t.portQ n x.q with
      | e :: rest => ((t.setQueue (.port n x.q) rest).freeEntry e).obs (n / 64) 0x021 e.cells (tenant := some e.item.tenant) (cls := some (x.q % 16))
      | [] => t
    let t := t.emitOut (.frame n x.item x.item.bad)
    let t := if x.sent = 0 then t else t.portCount n 14
    let t := t.noteIdle n
    if x.item.bad then (t.portCount n 13).unwound x.item
    else
      let t := (t.portCount n 10).portCount n 11 x.len
      let t := if oct x.item.data 0 % 2 = 1 then t.portCount n 12 else t
      let o := t.tsOut n x.raw
      let t := if x.item.src / 4096 = 0 ∧ x.item.tsIn ≠ 0 then t.histSample 0 (n / 64) n (trunc 64 (o - x.item.tsIn)) (some x.item.tenant) else t
      let t := t.pathEnd stored { kind := 0, num := n, queue := if x.q < 16 then x.q else 31, verdict := 0, panel := n / 64, tsOut := o }
      t.unwound x.item

/-- The octets of a data packet (R409). -/
def seamPacket (port q : Nat) (it : Item) : List Byte :=
  let tsr := it.tsreq.isSome
  let seq := it.handle.isSome
  natBe 1 0x01 ++ natBe 1 (0x10 + 8 * bit tsr + 4 * bit seq + 2 * bit (it.colour == 1)) ++ natBe 2 it.data.length ++
    natBe 2 (it.tenant % 1024) ++ natBe 2 (port % 1024) ++ natBe 2 (4096 * q + it.vid % 4096) ++
    natBe 2 (8192 * (it.pcp % 8) + 512 * (it.reentry % 16)) ++
    natBe 2 (match it.handle with | some p => p.1 | none => 0) ++ natBe 2 (match it.handle with | some p => p.2 | none => 0) ++
    natBe 2 (match it.tsreq with | some p => p.2 | none => 0) ++ natBe 2 0 ++ it.data

/-- The highest queue of a Seam egress that holds an item goes over its group (R425). -/
def State.seamSend (s : State) (g : Nat) : State :=
  if !s.flag SEAM_STAT SEAM_STAT_UP then s
  else
    match (List.range 16).reverse.find? (fun q => !(s.queue (Dest.seam g 0 q).key).isEmpty) with
    | none => s
    | some q =>
      match s.queue (Dest.seam g 0 q).key with
      | [] => s
      | e :: rest =>
        let s := s.obs e.dest.panel 0x021 e.cells (tenant := some e.item.tenant) (cls := some e.dest.cls)
        if e.item.poison then State.discardEntry (s.setQueue (.seam g 0 q) rest) e rMalformed
        else
        let t := (s.setQueue (.seam g 0 q) rest).freeEntry e
        let port := match e.dest with | .seam _ m _ => m | _ => 0
        (t.count (SEAM_CNTc 6)).emitOut (.seamData g (seamPacket port q e.item))

/-- TRANSMIT_COMPLETE on port u, or of one data packet of Seam group u − 1,024. -/
def State.transmitCompleteOp (s : State) (u : Nat) : State := if u < 1024 then s.txDone u else s.seamSend (u - 1024)

/-! ### Gate events (R129 to R132, R134) -/

/-- The gates of port n change: credits are brought up, and a preemptable frame whose queue closes or is held is cut. -/
def State.gateStep (s : State) (n : Nat) : State :=
  let t := s.portSync n
  match (t.port n).tx with
  | some x => if x.pre && (!(t.gatesNow n).1.testBit x.q || (t.gatesNow n).2) then t.preempt n else t
  | none => t

/-- GATE_EVENT: the gate states follow from the view (R131), so an event between boundaries changes nothing. -/
def State.gateEventOp (s : State) (n : Nat) : State := if s.portRuns n then s.gateStep n else s

/-- GATE_CONFIG_EFFECT: at B' the pending configuration becomes operational (R130). -/
def State.gateEffectOp (s : State) (n : Nat) : State :=
  match (s.port n).gatePend with
  | none => s
  | some g =>
    if !reached (s.viewNow g.ten) g.base then s
    else
      let t := s.setPort n { s.port n with gateOper := some g, gatePend := none }
      let t := (t.setFld (PORT_STATn n) PORT_STATn_GATE_PEND 0).setFld (PORT_STATn n) PORT_STATn_GATE_OPER 1
      ((t.showGates n g).portEvent n PORT_EVTn_GATE_CHG).gateStep n

/-- PENDING_RECORD_EFFECT, with the gates of the ports that the datum times (R79, R131). -/
def State.pendingRecordOp (s : State) (d : Nat) : State :=
  let t := s.pendingEffectOp d
  t.ports.foldl (fun u p => if p.2.gateTen == some d then u.gateStep p.1 else u) t

/-! ### Low-power idle (R135) -/

/-- A running bobbin names port n or a group that contains it. -/
def State.bobbinNames (s : State) (n : Nat) : Bool :=
  s.liveBobbins.any (fun b => s.bobState b == 1 && s.bobValid b &&
    (if s.bobCapture b then s.bobTarget b == n
     else (s.bobDkind b == 0 && s.bobTarget b == n) ||
       (s.bobDkind b == 2 && (s.groupMembers (s.bobTarget b)).contains n)))

/-- The port transmits LPI as a member of the drowsy set (R542). -/
def State.drowsyPort (s : State) (n : Nat) : Bool :=
  s.powerState == 1 && (s.rd (SYS_PWR_DROWSYw (n / 32))).getLsbD (n % 32)

/-- IDLE of a port in µs (R135, R542). -/
def State.lpiIdle (s : State) (n : Nat) : Nat :=
  max 1 (if s.drowsyPort n then s.fld SYS_PWR_CTRL SYS_PWR_CTRL_DROWSY_IDLE else s.fld (PORT_LPIn n) PORT_LPIn_IDLE)

/-- A port does not enter LPI, and leaves it. -/
def State.lpiBarred (s : State) (n : Nat) : Bool :=
  s.flag (PORT_GCTLn n) PORT_GCTLn_EN || s.flag (PORT_CFGn n) PORT_CFGn_GPTP || s.bobbinNames n ||
    (!s.flag (PORT_LPIn n) PORT_LPIn_EN && !s.drowsyPort n)

def State.portEmpty (s : State) (n : Nat) : Bool :=
  (s.port n).tx.isNone && s.queuesEmpty n

/-- LPI_ENTRY. -/
def State.lpiEntryOp (s : State) (n : Nat) : State :=
  if s.portEn n && s.portLink n && !s.flag (PORT_STATn n) PORT_STATn_RFAULT && s.portEmpty n && !s.lpiBarred n &&
      decide ((s.port n).idleAt + s.lpiIdle n * usTicks ≤ s.mer) then
    s.setFld (PORT_STATn n) PORT_STATn_LPI_TX 1
  else s

/-- LPI_EXIT. -/
def State.lpiExitOp (s : State) (n : Nat) : State :=
  if s.flag (PORT_STATn n) PORT_STATn_LPI_TX && (!s.portEmpty n || s.lpiBarred n) then
    s.setFld (PORT_STATn n) PORT_STATn_LPI_TX 0
  else s

/-- LPI_RECEIVE_CHANGE. -/
def State.lpiReceiveOp (s : State) (n : Nat) (on : Bool) : State :=
  if s.portRuns n then s.setFlag (PORT_STATn n) PORT_STATn_LPI_RX on else s

/-! ### Meanings -/

/-- PORT_ENABLE, R115: A PORT_CFGn write taking EN from 0 to 1 applies the configuration and enables the port, or refuses it. -/
def execPortEnable (i : Iface) (n : Nat) (w : Word) (s : State) : Host.Outcome State Fault Refusal := finish s (s.portEnableOp i n w)

/-- PORT_STOP, R116: A write of EN 0 stops the port and starts its drain. -/
def execPortStop (i : Iface) (n : Nat) (w : Word) (s : State) : Host.Outcome State Fault Refusal := finish s (s.portStopOp i n w)

/-- PORT_CONFIG_WRITE, R115: A PORT_CFGn write that does not enable or stop stores or ignores its fields. -/
def execPortConfigWrite (i : Iface) (n : Nat) (w : Word) (s : State) : Host.Outcome State Fault Refusal := finish s (s.portConfigOp i n w)

/-- LANE_EQ_WRITE, R114: A write of a lane equalisation entry takes effect on its lane. -/
def execLaneEqWrite (i : Iface) (lane : Nat) (w : Word) (s : State) : Host.Outcome State Fault Refusal := finish s (s.eqWriteOp i lane w)

/-- REF_WINDOW_END, R113: A 1 us window of the panel reference detector ends and updates presence and LOST. -/
def execRefWindowEnd (p : Nat) (edges : Nat) (s : State) : Host.Outcome State Fault Refusal := finish s (s.refWindowOp p edges)

/-- TRAINING_COMPLETE, R111: Auto-negotiation and link training of a port complete. -/
def execTrainingComplete (n : Nat) (s : State) : Host.Outcome State Fault Refusal := finish s (s.trainDoneOp n)

/-- LINK_UP, R117: UP_HOLD ms free of faults declares link up. -/
def execLinkUp (n : Nat) (s : State) : Host.Outcome State Fault Refusal := finish s (s.linkUpOp n)

/-- REMOTE_FAULT, R118: Receipt of remote fault sets RFAULT and the port sends only idles. -/
def execRemoteFault (n : Nat) (s : State) : Host.Outcome State Fault Refusal := finish s (s.remoteFaultOp n)

/-- REMOTE_FAULT_END, R118: When the port stops receiving remote fault, RFAULT clears and the port may transmit frames again. -/
def execRemoteFaultEnd (n : Nat) (s : State) : Host.Outcome State Fault Refusal := finish s (s.remoteFaultEndOp n)

/-- FRAME_RECEIVE, R119: A frame completes at a MAC and is accepted, filtered or discarded, then handed to the parser. -/
def execFrameReceive (n : Nat) (octets : List Byte) (found : Nat) (raw : Nat) (s : State) : Host.Outcome State Fault Refusal := finish s (s.frameReceiveOp n octets found raw)

/-- ITEM_ENQUEUE, R256: An item is offered to its destination queue under the dynamic threshold. -/
def execItemEnqueue (p : Nat) (s : State) : Host.Outcome State Fault Refusal := finish s (s.itemEnqueueOp p)

/-- TRANSMIT_START, R127: The MAC starts the head frame of the first eligible queue. -/
def execTransmitStart (n : Nat) (raw : Nat) (s : State) : Host.Outcome State Fault Refusal := finish s (s.transmitStartOp n raw)

/-- TX_TIMESTAMP_ENTRY, R103: A requested frame crossing the reference plane writes an entry to its port's time-stamp queue. -/
def execTxTimestampEntry (n : Nat) (s : State) : Host.Outcome State Fault Refusal := finish s (s.txStampOp n)

/-- TRANSMIT_COMPLETE, R259: A frame's transmission completes and its reference count falls. -/
def execTransmitComplete (u : Nat) (s : State) : Host.Outcome State Fault Refusal := finish s (s.transmitCompleteOp u)

/-- GATE_CHANGE, R129: A write of CHANGE copies the administrative gate configuration into a pending one, or refuses it. -/
def execGateChange (i : Iface) (n : Nat) (w : Word) (s : State) : Host.Outcome State Fault Refusal := finish s (s.gateChangeOp i n w)

/-- GATE_CONFIG_EFFECT, R130: At B' the pending gate list becomes operational. -/
def execGateConfigEffect (n : Nat) (s : State) : Host.Outcome State Fault Refusal := finish s (s.gateEffectOp n)

/-- GATE_EVENT, R131: A gate list entry boundary changes the gate states and may preempt a frame. -/
def execGateEvent (n : Nat) (s : State) : Host.Outcome State Fault Refusal := finish s (s.gateEventOp n)

/-- VERIFY_SEND, R133: A preemption verify mPacket is sent every VERIFY_TIME ms, failing after three attempts. -/
def execVerifySend (n : Nat) (s : State) : Host.Outcome State Fault Refusal := finish s (s.verifySendOp n)

/-- VERIFY_RESPONSE, R133: A successful verify response makes preemption active. -/
def execVerifyResponse (n : Nat) (s : State) : Host.Outcome State Fault Refusal := finish s (s.verifyResponseOp n)

/-- LPI_ENTRY, R135: After IDLE us of empty queues the port transmits LPI. -/
def execLpiEntry (n : Nat) (s : State) : Host.Outcome State Fault Refusal := finish s (s.lpiEntryOp n)

/-- LPI_EXIT, R135: A ready frame or an excluding condition makes the port leave LPI. -/
def execLpiExit (n : Nat) (s : State) : Host.Outcome State Fault Refusal := finish s (s.lpiExitOp n)

/-- LPI_RECEIVE_CHANGE, R135: The link partner starts or stops sending LPI, and PORT_STATn.LPI_RX follows it. -/
def execLpiReceiveChange (n : Nat) (on : Bool) (s : State) : Host.Outcome State Fault Refusal := finish s (s.lpiReceiveOp n on)

/-- GROUP_HASH_WRITE, R126: A write of a group-hash word takes effect for later frames. -/
def execGroupHashWrite (i : Iface) (n : Nat) (k : Nat) (w : Word) (s : State) : Host.Outcome State Fault Refusal := finish s (s.groupHashOp i n k w)

/-- STATS_READ, R136: A read of a counter's low word clears it and latches the high word. -/
def execStatsRead (i : Iface) (n : Nat) (c : Nat) (s : State) : Host.Outcome State Fault Refusal := finish s (s.statsReadOp i n c)


end Sys2Proof.Machine
end

