-- ==== Sys2Proof/Machine/Loom.lean ====
section
/-! DEFINITION. Loom channels, PLCA channels and management buses: spec/05. Channels 0–63 are the loom channels,
64 and 65 the management buses. -/

namespace Sys2Proof.Machine

/-! ### Pages, registers and stamps (R141, R143) -/

def State.chan (s : State) (c : Nat) : ChanSt := Sparse.get (fun _ => ChanSt.reset) s.chans c
def State.setChan (s : State) (c : Nat) (x : ChanSt) : State :=
  { s with chans := Sparse.set (fun _ => ChanSt.reset) s.chans c x }

/-- Start of a channel's register page; the pages of loom channels and management buses have one layout. -/
def chPage (c : Nat) : Nat := if c < 64 then LCn_CFG c else MBb_CFG (c - 64)
def chNbt (c : Nat) : Nat := chPage c + 4
def chDbt (c : Nat) : Nat := chPage c + 8
def chTdc (c : Nat) : Nat := chPage c + 12
def chTrx (c : Nat) : Nat := chPage c + 0x14
def chWake (c : Nat) : Nat := chPage c + 0x18
def chWtime (c : Nat) : Nat := chPage c + 0x1C
def chErr (c : Nat) : Nat := chPage c + 0x30
def chStat (c : Nat) : Nat := chPage c + 0x34
def chEvt (c : Nat) : Nat := chPage c + 0x38
def chCnt (c k : Nat) : Nat := chPage c + 0x40 + 4 * k

def State.chEn (s : State) (c : Nat) : Bool := s.flag (chPage c) LCn_CFG_EN
/-- PROTO: 0 classical CAN, 1 CAN FD, 2 CAN XL, 3 LIN; a management bus is CAN XL (R169). -/
def State.chProto (s : State) (c : Nat) : Nat := if c < 64 then s.fld (LCn_CFG c) LCn_CFG_PROTO else 2
/-- Transceiver state: 0 normal, 1 listen-only, 2 standby, 3 sleep (R155). -/
def State.chTrxSt (s : State) (c : Nat) : Nat := s.fld (chStat c) LCn_STAT_TRX
def State.chCount (s : State) (c k : Nat) : State := s.count (chCnt c k)
def State.chEvent (s : State) (c : Nat) (f : Fld) : State := s.setFld (chEvt c) f 1
def State.chState (s : State) (c : Nat) : Nat := s.fld (chErr c) LCn_ERR_STATE

/-- The channel's tenant, if it has one. -/
def State.chTenant (s : State) (c : Nat) : Option Nat := if c < 64 then s.loomTenant c else none

/-- Tenant time of a channel: Meridian while it is unbound (R141). -/
def State.chTime (s : State) (c : Nat) : Nat := s.tenantStamp (s.chTenant c) s.mer

/-- Quanta of a bit times the prescaler: the bit is this many 12.5 ns clocks (R143). -/
def bitClocks (w : Word) : Nat := getF w LCn_NBT_BRP * (1 + getF w LCn_NBT_TSEG1 + getF w LCn_NBT_TSEG2)

/-- A nominal bit of a channel in ticks. -/
def State.chBit (s : State) (c : Nat) : Nat := 25 * bitClocks (s.rd (chNbt c))

/-- No timing field is 0, and SJW is at most TSEG2; LIN leaves SJW unused. -/
def timingOk (w : Word) (lin : Bool) : Bool :=
  getF w LCn_NBT_BRP != 0 && getF w LCn_NBT_TSEG1 != 0 && getF w LCn_NBT_TSEG2 != 0 &&
    (lin || (getF w LCn_NBT_SJW != 0 && decide (getF w LCn_NBT_SJW ≤ getF w LCn_NBT_TSEG2)))

/-- The bit timing keeps R143. DESIGN CHOICE (log entry 136): LCn_DBT is not judged on classical CAN and LIN, which have no
data phase. -/
def bitOk (proto : Nat) (nbt dbt : Word) : Bool :=
  let n := bitClocks nbt
  let d := bitClocks dbt
  if proto = 3 then timingOk nbt true && decide (2 ≤ getF nbt LCn_NBT_TSEG1) && decide (4000 ≤ n) && decide (n ≤ 80000)
  else
    timingOk nbt false && decide (2 ≤ getF nbt LCn_NBT_TSEG1) && decide (80 ≤ n) && decide (n ≤ 8000) &&
      (proto == 0 || (timingOk dbt false && decide (d ≤ n) && decide ((if proto = 1 then 10 else 8) ≤ d)))

/-! ### Arrival and the transmit set (R145 to R149, R151, R163) -/

/-- The next legal CAN FD length. -/
def fdLen (n : Nat) : Nat :=
  if n ≤ 8 then n else if n ≤ 12 then 12 else if n ≤ 16 then 16 else if n ≤ 20 then 20 else if n ≤ 24 then 24
  else if n ≤ 32 then 32 else if n ≤ 48 then 48 else 64

/-- Data padded with an octet to a length. -/
def padTo (n pad : Nat) (d : List Byte) : List Byte := d ++ List.replicate (n - d.length) (BitVec.ofNat 8 pad)

/-- The item as the channel sends it, or none where it cannot: CAN FD has no remote frames, and CAN XL has 1 to 2,048
octets (R142, R145). -/
def canFit (proto pad : Nat) (it : Item) : Option Item :=
  if proto < it.fmt ∨ 2 < it.fmt ∨ proto = 3 then none
  else if it.fmt = 0 then (if it.data.length ≤ 8 then some it else none)
  else if it.fmt = 1 then (if it.data.length ≤ 64 ∧ !it.rtr then some { it with data := padTo (fdLen it.data.length) pad it.data } else none)
  else if 1 ≤ it.data.length ∧ it.data.length ≤ 2048 then some it else none

/-- LIN length of an identifier in a length table word; above 8 it is 8 (R150). No LIN frame has an identifier above 63. -/
def linLenOf (w : Word) (id : Nat) : Nat := if 63 < id then 0 else min 8 (bits w.toNat (4 * (id % 8) + 3) (4 * (id % 8)))

def State.linLen (s : State) (c id : Nat) : Nat := linLenOf (s.rd (LIN_LEN c (id / 8))) id

/-- A discard at a channel, counted under the egress reason and in TX_DISCARD (R149). -/
def State.chDiscard (s : State) (c : Nat) (it : Item) : State :=
  ((s.dropFor it.tenant rEgress).chCount c 7).tsqDiscard (1024 + c) it

/-- Empty the transmit set but the frame in transmission, or all of it (R139, R148, R156). -/
def State.chFlush (s : State) (c : Nat) (keep : Bool) : State :=
  let x := s.chan c
  let stays (p : Nat × Item) : Bool := keep && x.txNow == some p.1
  (x.tset.filter (fun p => !stays p)).foldl (fun t p => t.chDiscard c p.2)
    (s.setChan c { x with tset := x.tset.filter stays, txNow := if keep then x.txNow else none })

/-- Order of arbitration: base identifier, then the extension (R146). -/
def arbKey (it : Item) : Nat :=
  if it.ide then (it.ident / 2 ^ 18 % 2048) * 2 ^ 19 + 2 ^ 18 + it.ident % 2 ^ 18 else it.ident % 2048 * 2 ^ 19

/-- The frame the channel sends next (R146). -/
def pickFrame (ord : Bool) (l : List (Nat × Item)) : Option Nat :=
  match l with
  | [] => none
  | p :: t => if ord then some (t.foldl (fun b q => if arbKey q.2 < arbKey b.2 then q else b) p).1 else some p.1

/-- A frame is in progress on the channel's bus: its own, one being received, or a LIN frame (R37, R156). -/
def State.chInFrame (s : State) (c : Nat) : Bool :=
  let x := s.chan c
  x.txNow.isSome || x.rxBusy || x.linWait.isSome || decide (s.mer < x.busyTill)

/-- Choose the next frame to send while none is in transmission and the channel may send. -/
def State.chPick (s : State) (c : Nat) : State :=
  let x := s.chan c
  let x := if x.txNow.isNone && s.chEn c && s.chTrxSt c == 0 && x.trans.isNone && decide (s.chState c < 2) then
      { x with txNow := pickFrame (decide (c < 64) && s.flag (LCn_CFG c) LCn_CFG_TXORD) x.tset } else x
  let s := s.setChan c x
  s.setFlag (chStat c) LCn_STAT_BUSY (s.chInFrame c)

/-- Put a frame into the transmit set. -/
def State.chPut (s : State) (c : Nat) (it : Item) : State :=
  let x := s.chan c
  (s.setChan c { x with tset := x.tset ++ [(x.seq, it)], seq := x.seq + 1 }).chPick c

/-! ### Transceiver transitions (R155 to R157) -/

/-- The code of a transceiver state; sleep with wake frames drives the standby code (R155). -/
def State.chCode (s : State) (c st : Nat) : Nat :=
  let k := if st = 3 ∧ s.flag (chWake c) LCn_WAKE_WMODE then 2 else st
  bits (s.fld (chTrx c) LCn_TRX_MAP) (2 * k + 1) (2 * k)

/-- A state's code is driven and shown. -/
def State.chDrive (s : State) (c st : Nat) : State :=
  (s.setChan c { s.chan c with code := s.chCode c st }).setFld (chStat c) LCn_STAT_TRX st

def State.chSetTrans (s : State) (c : Nat) (t : Option LoomTrans) : State :=
  (s.setChan c { s.chan c with trans := t }).setFlag (chStat c) LCn_STAT_TRANS t.isSome

/-- Ticks of a field in units of 10 µs. -/
def State.chDelay (s : State) (c : Nat) (f : Fld) : Nat := s.fld (chTrx c) f * 10 * usTicks

/-- Carry a transition on once the frame in progress is complete. A false-wake window that runs goes on in sleep (R161). -/
def State.chAdvance (s : State) (c : Nat) (t : LoomTrans) : State :=
  if t.target = 3 then
    let s := (s.chFlush c false).chDrive c 3
    if s.flag (chWake c) LCn_WAKE_WMODE ∨ 64 ≤ c then
      State.chSetTrans (s.setChan c { s.chan c with awake := none }) c none
    else s.chSetTrans c (some { t with phase := 2, due := s.mer + s.chDelay c LCn_TRX_T_INHOFF })
  else if s.chTrxSt c = 3 ∧ c < 64 then
    State.chSetTrans (s.setChan c { s.chan c with inh := true }) c
      (some { t with phase := 3, due := s.mer + s.chDelay c LCn_TRX_T_INHON })
  else (s.chDrive c t.target).chSetTrans c (some { t with phase := 1, due := s.mer + s.chDelay c LCn_TRX_T_MODE })

/-- The awake timer starts, where MAXAWAKE sets a limit (R162). -/
def State.awakeStart (s : State) (c : Nat) : Option Nat :=
  if c < 64 ∧ s.fld (chWtime c) LCn_WTIME_MAXAWAKE ≠ 0 then some (s.chTime c) else none

/-- Begin a transition, once the frame in progress is completed (R156). Leaving sleep starts the awake timer (R162). -/
def State.chMove (s : State) (c target : Nat) (deaf : Bool) : State :=
  let x := s.chan c
  let s := if s.chTrxSt c = 3 ∧ target ≠ 3 ∧ c < 64 then s.setChan c { x with awake := s.awakeStart c } else s
  let t : LoomTrans := { target := target, phase := 0, due := s.mer, deaf := deaf }
  if s.chInFrame c then s.chSetTrans c (some t) else s.chAdvance c t

/-- Request a state (R157). -/
def State.chRequest (s : State) (c st : Nat) : State :=
  match (s.chan c).trans with
  | some t => if t.deaf then s.chEvent c LCn_EVT_REQ_ERR else s.setChan c { s.chan c with held := some st }
  | none => if s.chTrxSt c = st then s else s.chMove c st false

/-- A transition ends; a held request takes effect (R157). -/
def State.chSettle (s : State) (c : Nat) : State :=
  let t := s.chSetTrans c none
  let h := (t.chan c).held
  let t := t.setChan c { t.chan c with held := none }
  match h with
  | some st => if t.chTrxSt c = st then t.chPick c else t.chMove c st false
  | none => t.chPick c

/-- A write of LCn_TRX (R157): a new MAP shows on the balls at once (R155). -/
def State.trxWrite (s : State) (i : Iface) (c : Nat) (w : Word) : State :=
  let t := s.typedWrite i (chTrx c) w
  let t := t.setChan c { t.chan c with code := t.chCode c (t.chTrxSt c) }
  if getB w LCn_TRX_REQ_V && decide (c < 64) then t.chRequest c (getF w LCn_TRX_REQ) else t


/-- After a frame: a transition that waited goes on, or the next frame is chosen. -/
def State.chAfter (s : State) (c : Nat) : State :=
  match (s.chan c).trans with
  | some t =>
    if t.phase ≠ 0 ∨ s.chInFrame c then s.chPick c
    else
      let u := s.chAdvance c t
      if (u.chan c).trans.isNone then u.chSettle c else u
  | none => s.chPick c

/-- TRX_MODE_SETTLED (R156). DESIGN CHOICE (log entry 136): the same command ends the wait for a LIN frame that the channel
itself sends, whose end no other command brings. -/
def State.trxSettledOp (s : State) (c : Nat) : State :=
  match (s.chan c).trans with
  | some t => if t.phase = 0 then s.chAfter c else if t.phase = 1 ∧ t.due ≤ s.mer then s.chSettle c else s
  | none => s

/-- INH_OFF_DELAY: INH goes low, which ends the entry into sleep (R156, R162). -/
def State.inhOffOp (s : State) (c : Nat) : State :=
  match (s.chan c).trans with
  | some t =>
    if t.phase = 2 ∧ t.due ≤ s.mer then
      State.chSettle (s.setChan c { s.chan c with inh := false, awake := none }) c
    else s
  | none => s

/-- INH_ON_SETTLED: the code of the target state is driven (R156). -/
def State.inhOnOp (s : State) (c : Nat) : State :=
  match (s.chan c).trans with
  | some t =>
    if t.phase = 3 ∧ t.due ≤ s.mer then
      (s.chDrive c t.target).chSetTrans c (some { t with phase := 1, due := s.mer + s.chDelay c LCn_TRX_T_MODE })
    else s
  | none => s

/-! ### Wake and false wake (R158 to R163) -/

/-- The filter regime holds (R160). -/
def State.filterRegime (s : State) (c : Nat) : Bool :=
  s.node != .run || s.flag (chWake c) LCn_WAKE_TESTMODE || (s.wakeable && s.flag SYS_PWR_STAT SYS_PWR_STAT_FILTER && s.loomSource c)

/-- The wake detector is armed (R158, R161); on the way into and in STANDBY only that of a device wake source (R543). -/
def State.chArmed (s : State) (c : Nat) : Bool :=
  (!s.wakeable || decide (64 ≤ c) || s.loomSource c) &&
  decide (2 ≤ s.chTrxSt c) && (s.chan c).trans.isNone && s.flag (chWake c) LCn_WAKE_EN &&
    !s.flag (chStat c) LCn_STAT_WAKE_SUPP

/-- Filter time of the dominant edge in ticks; 150 µs at least for LIN (R158, R160). -/
def State.chFilter (s : State) (c : Nat) : Nat :=
  let wf := max 1 (s.fld (chWake c) LCn_WAKE_WFILT)
  let su := s.fld (chWtime c) LCn_WTIME_SU_FILT
  let f := if s.filterRegime c ∧ su ≠ 0 then su else wf
  usTicks * (if s.chProto c = 3 then max 150 f else f)

/-- A wake: to normal, with the timers of R161 and R162 (R158); that of a device wake source also wakes the device (R164). -/
def State.chWakeUp (s : State) (c : Nat) : State :=
  let counting := c < 64 ∧ !s.filterRegime c ∧ s.fld (chWake c) LCn_WAKE_FW_WIN ≠ 0
  let t := s.chMove c 0 false
  let x := t.chan c
  let t := t.setChan c { x with awake := s.awakeStart c, fw := if counting then some (s.chTime c) else none, wufErr := 0, wufPrev := none,
                                linAct := s.mer }
  let t := (t.chEvent c LCn_EVT_WAKE).chCount c 9
  if c < 64 ∧ s.loomSource c then t.deviceWake 3 c else t

/-- CHANNEL_WAKE: the bus has been dominant for some ticks without a break (R158, R160). -/
def State.channelWakeOp (s : State) (c low : Nat) : State :=
  if s.chArmed c && !s.flag (chWake c) LCn_WAKE_WMODE && decide (s.chFilter c ≤ low) then s.chWakeUp c else s

/-- A correct classical frame matches the wake frame (R159). -/
def State.wufMatch (s : State) (c : Nat) (f : CanFrame) : Bool :=
  let id := s.rd (chPage c + 0x20)
  let mask := s.fld (chPage c + 0x24) LCn_WUF_MASK_ID_MASK
  f.ide == getB id LCn_WUF_ID_IDE && (f.ident &&& mask) == (getF id LCn_WUF_ID_ID_MASK &&& mask) &&
    (!getB id LCn_WUF_ID_DATA_EN ||
      (!f.rtr && f.dlc == s.fld (chWake c) LCn_WAKE_WUF_DLC &&
        leNat (f.data.take 8) &&& s.rd64 (chPage c + 0x28) != 0))

/-- WAKE_FRAME_DECODE: a frame seen by the decoder, with whether it carried a stuff, form or CRC error, and the tick
of its start of frame (R159, R160). -/
def State.wakeFrameOp (s : State) (c : Nat) (f : CanFrame) (bad : Bool) (sof : Nat) : State :=
  if !s.chArmed c || !s.flag (chWake c) LCn_WAKE_WMODE || f.fmt != 0 then s
  else
    let x := s.chan c
    if bad then
      if 31 < x.wufErr + 1 then s.chWakeUp c else s.setChan c { x with wufErr := x.wufErr + 1 }
    else
      let s := s.setChan c { x with wufErr := x.wufErr - 1 }
      if !s.wufMatch c f then s
      else if !s.filterRegime c then s.chWakeUp c
      else
        match x.wufPrev with
        | some p =>
          if sof - p ≤ s.fld (chWtime c) LCn_WTIME_SU_FILT * usTicks then s.chWakeUp c
          else s.setChan c { s.chan c with wufPrev := some sof }
        | none => s.setChan c { s.chan c with wufPrev := some sof }

/-- A frame received without error before the window ends makes the wake valid (R161), and the device's wake by that channel with it (R550). -/
def State.chValid (s : State) (c : Nat) : State :=
  match (s.chan c).fw with
  | none => s
  | some t0 =>
    if reached (s.chTime c) (t0 + s.fld (chWake c) LCn_WAKE_FW_WIN * msTicks) then s
    else
      let t := State.setFld (s.setChan c { s.chan c with fw := none }) (chStat c) LCn_STAT_FW_CNT 0
      match s.pw.judge with
      | some j => if j.code = 3 ∧ j.chan = c then t.wakeValid else t
      | none => t

/-- FALSE_WAKE_WINDOW_END (R161): a wake that is not valid by then is false, whatever state the channel is in. -/
def State.falseWakeOp (s : State) (c : Nat) : State :=
  match (s.chan c).fw with
  | none => s
  | some t0 =>
    if !reached (s.chTime c) (t0 + s.fld (chWake c) LCn_WAKE_FW_WIN * msTicks) then s
    else
      let t := State.chCount (s.setChan c { s.chan c with fw := none }) c 10
      let t := (t.bumpSat (chStat c) LCn_STAT_FW_CNT).chEvent c LCn_EVT_FALSE_WAKE
      let thr := t.fld (chWake c) LCn_WAKE_FW_THR
      let t := if thr ≠ 0 ∧ t.fld (chStat c) LCn_STAT_FW_CNT = thr then
          ((t.setFld (chStat c) LCn_STAT_WAKE_SUPP 1).chEvent c LCn_EVT_SUPP).log 161 c
        else t
      match (t.chan c).trans with
      | some m => if m.target = 3 then t else t.chMove c 3 false
      | none => if t.chTrxSt c = 3 then t else t.chMove c 3 false

/-- A write of LCn_EVT: a 1 in SUPP also ends suppression and clears FW_CNT (R161). -/
def State.chEvtWrite (s : State) (i : Iface) (c : Nat) (w : Word) : State :=
  let t := s.typedWrite i (chEvt c) w
  if getB w LCn_EVT_SUPP && decide (c < 64) then
    (t.setFld (chStat c) LCn_STAT_WAKE_SUPP 0).setFld (chStat c) LCn_STAT_FW_CNT 0
  else t

def State.loomSuppOp (s : State) (i : Iface) (n : Nat) (w : Word) : State := s.hostAccess (s.chEvtWrite i n w)

/-- MAXAWAKE: the awake timer runs out, and the channel is forced to sleep; a sleep entry under way becomes the forced one
(R162). DESIGN CHOICE (log entry 136): a request that waited for the end of a transition is dropped, without REQ_ERR. -/
def State.maxAwakeOp (s : State) (c : Nat) : State :=
  let m := s.fld (chWtime c) LCn_WTIME_MAXAWAKE
  match (s.chan c).awake with
  | none => s
  | some t0 =>
    if m == 0 || decide (64 ≤ c) || !reached (s.chTime c) (t0 + m * 100 * msTicks) then s
    else
      let t : State := s.setChan c { s.chan c with awake := none, held := none }
      let t := match (t.chan c).trans with
        | some x => if x.target = 3 then t.chSetTrans c (some { x with deaf := true }) else t.chMove c 3 true
        | none => t.chMove c 3 true
      ((t.chEvent c LCn_EVT_MAXAWAKE).chCount c 11).log 162 c

/-! ### Items and frames of a channel -/

/-- An arriving item is discarded (R148, R149); with TXWAKE an item wakes a channel in standby or sleep (R163). -/
def State.chRefuses (s : State) (c : Nat) : Bool :=
  let st := s.chTrxSt c
  let falling := match (s.chan c).trans with | some t => decide (2 ≤ t.target) | none => false
  !s.chEn c || st == 1 || falling || decide (2 ≤ s.chState c) ||
    (decide (2 ≤ st) && !s.flag (chWake c) LCn_WAKE_TXWAKE)

/-- A commander with a schedule. -/
def State.linScheduled (s : State) (c : Nat) : Bool :=
  s.flag (LCn_CFG c) LCn_CFG_LIN_ROLE && s.flag (LCn_LIN c) LCn_LIN_SCHED_EN

/-- A local wake (R163). -/
def State.chLocalWake (s : State) (c : Nat) : State :=
  if s.chTrxSt c < 2 ∨ (s.chan c).trans.isSome then s
  else
    let t := s.chMove c 0 false
    let t := t.setChan c { t.chan c with awake := s.awakeStart c, wufErr := 0, wufPrev := none, linAct := s.mer }
    if s.chProto c = 3 then
      let t := t.emitOut (.linWake c)
      if s.flag (LCn_CFG c) LCn_CFG_LIN_ROLE then t.setChan c { t.chan c with wakeAt := some (s.mer + 100 * msTicks) } else t
    else t

/-- The channel can send the item (R145, R151): a LIN item is the response of an identifier it handles, and a commander
without a schedule takes none. -/
def State.chTakes (s : State) (c : Nat) (it : Item) : Bool :=
  if s.chProto c = 3 then
    it.fmt == 3 && s.linLen c it.ident != 0 && decide (it.data.length ≤ s.linLen c it.ident) &&
      !(s.flag (LCn_CFG c) LCn_CFG_LIN_ROLE && !s.linScheduled c)
  else (canFit (s.chProto c) 0 it).isSome

/-- Take an item into the channel (R145, R151). -/
def State.chAccept (s : State) (c : Nat) (it : Item) : State :=
  let pad := s.fld (LCn_CFG c) LCn_CFG_PAD
  if s.chProto c = 3 then
    let n := s.linLen c it.ident
    if !s.chTakes c it then s.chDiscard c it
    else
      let x := s.chan c
      let t := (x.lin.filter (fun p => p.1 == it.ident)).foldl (fun t p => t.tsqDiscard (1024 + c) p.2) s
      (t.setChan c { x with lin := x.lin.filter (fun p => p.1 != it.ident) ++ [(it.ident, { it with data := padTo n pad it.data })] }).chLocalWake c
  else
    match canFit (s.chProto c) pad it with
    | none => s.chDiscard c it
    | some it => (s.chPut c it).chLocalWake c

/-- CHANNEL_ITEM_ARRIVAL: the head of the channel's queue reaches it, while its transmit set has room (R145, R149). -/
def State.chArrivalOp (s : State) (c : Nat) : State :=
  match s.queue (Dest.loom c).key with
  | [] => s
  | e :: rest =>
    if 8 ≤ (s.chan c).tset.length then s
    else
      let t := ((s.setQueue (.loom c) rest).freeEntry e).obs (Dest.loom c).panel 0x021 e.cells (tenant := some e.item.tenant) (cls := some 0)
      if s.chRefuses c || e.item.poison || !s.chTakes c e.item then
        let t := (t.dropAt e.item (.loom c) (dequeueReason e.item)).tsqDiscard (1024 + c) e.item
        if e.item.poison then t else t.chCount c 7
      else
        let it := e.item.mark 8 s.mer
        (t.pathEnd it { kind := 2, num := c, queue := 0, verdict := 0, panel := (Dest.loom c).panel, tsOut := s.mer }).chAccept c it

/-- The item of a frame on a channel. -/
def canItem (f : CanFrame) (c stamp : Nat) : Item :=
  { Item.blank with
    eth := false, fmt := f.fmt, ide := f.ide, rtr := f.rtr, brs := f.brs, esi := f.esi, sec := f.sec, ident := f.ident,
    sdt := f.sdt, vcid := f.vcid, af := f.af, data := f.data, tenant := 1024, src := 8192 + c, stamp := stamp }

/-- Place a frame in the host buffers (R153). -/
def State.chBuffer (s : State) (c : Nat) (b : RxBuf) : State :=
  let x := s.chan c
  if x.cur.isNone then State.setFld (s.setChan c { x with cur := some b }) (chStat c) LCn_STAT_RXCUR 1
  else if x.shd.isNone then State.setFld (s.setChan c { x with shd := some b }) (chStat c) LCn_STAT_RXSHD 1
  else (s.chCount c 5).chEvent c LCn_EVT_RXOVR

/-- PDUs or frames of a channel's ingress that wait between its crossing FIFO and the parser (R68). -/
def State.waitsOf (s : State) (src : Nat) : Nat :=
  ((Sparse.get (fun _ => []) s.parserIn (srcPanel src)).filter (fun it => it.src == src)).length

/-- Deliver a received frame of a loom channel (R65, R140, R141, R369): one that finds the 8 frames of its crossing FIFO
taken, or that level 3 does not admit, is a receive overrun; `full`: the FIFO is full for another reason. -/
def State.chDeliver (s : State) (c : Nat) (it : Item) (full : Bool) : State :=
  let m := s.fld (LCn_CFG c) LCn_CFG_RXMODE
  let ten := s.tenantStamp (s.loomTenant c) it.stamp
  let t := s.capture (8192 + c) it ten
  let t := if m = 1 ∨ m = 2 then t.chBuffer c { item := it, mer := it.stamp, ten := ten } else t
  if m = 1 then t
  else
    let full := full || decide (8 ≤ s.waitsOf it.src)
    let (adm, t) := if full then (false, t) else t.admitData (srcPanel it.src)
    if adm then t.parse (srcPanel it.src) it else (t.chCount c 6).dropFor ((s.loomTenant c).getD 1024) rOverrun

/-- Error-active or error-passive by the counters, with the event of entering error-passive (R147). -/
def State.chErrState (s : State) (c : Nat) : State :=
  if 2 ≤ s.chState c then s
  else
    let p := 127 < s.fld (chErr c) LCn_ERR_TEC ∨ 127 < s.fld (chErr c) LCn_ERR_REC
    let t := s.setFld (chErr c) LCn_ERR_STATE (if p then 1 else 0)
    if p ∧ s.chState c = 0 then t.chEvent c LCn_EVT_PASSIVE else t

/-- Entry to bus-off (R148); a management bus recovers at once (R169). -/
def State.chBusOff (s : State) (c : Nat) : State :=
  let t := ((s.chFlush c false).setFld (chErr c) LCn_ERR_TEC 255).setFld (chErr c) LCn_ERR_STATE 2
  let t := ((t.chEvent c LCn_EVT_BUSOFF).chCount c 8).log 148 c
  let t := if 64 ≤ c ∨ t.flag (LCn_CFG c) LCn_CFG_AUTO_REC then t.setFld (chErr c) LCn_ERR_STATE 3 else t
  t.chPick c

/-- REC after a frame received without error (ISO 11898-1: from above 127 to a value from 119 to 127). -/
def State.chRecDown (s : State) (c : Nat) : State :=
  let r := s.fld (chErr c) LCn_ERR_REC
  if 127 < r then
    let (f, t) := s.takeFree
    t.setFld (chErr c) LCn_ERR_REC (119 + f % 9)
  else s.setFld (chErr c) LCn_ERR_REC (r - 1)

/-- A frame is taken from a bus: enabled, or with the frame in progress at the stop, normal or listen-only and settled,
not bus-off (R116, R139, R156). -/
def State.chReceives (s : State) (c : Nat) : Bool :=
  (s.chEn c || (s.chan c).rxBusy || (s.chan c).linWait.isSome) && decide (s.chTrxSt c < 2) && decide (s.chState c < 2) &&
    (match (s.chan c).trans with | none => true | some t => t.phase == 0)

/-- The frame is one that ISO 11898-1 forms on a channel of the protocol (R142). -/
def canFormed (f : CanFrame) (proto : Nat) : Bool :=
  decide (f.fmt ≤ proto) && (match f.fmt with
    | 0 => decide (f.data.length ≤ 8)
    | 1 => !f.rtr && decide (f.data.length ≤ 64) && fdLen f.data.length == f.data.length
    | 2 => !f.rtr && decide (1 ≤ f.data.length) && decide (f.data.length ≤ 2048)
    | _ => false)

/-- CAN_FRAME_RECEIVE: a frame with the tick of its start of frame; `found` is 0 correct, 1 to 6 the error of LEC, 7
correct with the crossing FIFO full (a correct one always as ISO 11898-1 forms it on this channel), 8 the start of a
frame, which is then in progress until it ends; `rec` is what ISO 11898-1 adds to REC for an error (R140 to R142, R147,
R153, R156, R161). DESIGN CHOICE (log entry 136): in listen-only errors leave REC, which correct frames still lower. -/
def State.canReceiveOp (s : State) (c : Nat) (f : CanFrame) (found rec sof : Nat) : State :=
  if !s.chReceives c || s.chProto c == 3 || ((found == 0 || found == 7) && !canFormed f (s.chProto c)) then s
  else if found = 8 then
    if !s.chEn c ∨ (s.chan c).trans.isSome then s else State.chPick (s.setChan c { s.chan c with rxBusy := true }) c
  else
    let s := s.setChan c { s.chan c with rxBusy := false }
    if found = 0 ∨ found = 7 then
      let t := ((s.chRecDown c).setFld (chErr c) LCn_ERR_LEC 0).chErrState c
      let t := (t.chCount c 0).chValid c
      State.chAfter (if 64 ≤ c then t else t.chDeliver c (canItem f c sof) (found == 7)) c
    else
      let t := (s.chCount c 2).setFld (chErr c) LCn_ERR_LEC found
      let t := if s.chTrxSt c = 0 then t.bumpSat (chErr c) LCn_ERR_REC rec else t
      (t.chErrState c).chAfter c

/-- The frame in transmission. -/
def ChanSt.frame (x : ChanSt) : Option Item :=
  match x.txNow with
  | none => none
  | some k => match x.tset.find? (fun p => p.1 == k) with | some p => some p.2 | none => none

/-- Take the frame in transmission out of the set. -/
def State.chTaken (s : State) (c : Nat) : State :=
  let x := s.chan c
  s.setChan c { x with tset := x.tset.filter (fun p => x.txNow != some p.1), txNow := none }

/-- A frame has been sent: counters, time-stamp entry, self-reception (R103, R147, R171). -/
def State.chSent (s : State) (c : Nat) (it : Item) (sof : Nat) : State :=
  let t := (s.chCount c 1).emitOut (.bus c it)
  let t := match it.tsreq with
    | some (src, k) => if c < 64 then
        t.tsqPut (1024 + c) { disc := false, src := src, ident := k, mer := sof, ten := t.tenantStamp (t.loomTenant c) sof } else t
    | none => t
  if c < 64 ∧ t.chProto c ≠ 3 ∧ t.flag (LCn_CFG c) LCn_CFG_SELFRX then
    t.chDeliver c { Item.blank with
      eth := false, fmt := it.fmt, ide := it.ide, rtr := it.rtr, brs := it.brs, esi := it.esi, sec := it.sec, ident := it.ident,
      sdt := it.sdt, vcid := it.vcid, af := it.af, data := it.data, tenant := 1024, src := 8192 + c, stamp := sof } false
  else t

/-- CAN_TX_ATTEMPT_END: `how` 0 success, 1 lost arbitration, 2 error; `lec` the error; `eights` how often ISO 11898-1
adds 8 to TEC for it; `tdcv` the loop delay measured, if the attempt came as far as its data phase; `sof` the start-of-frame tick (R141, R144, R147, R148). ESI is that
of the attempt (R226). A stopped channel sends nothing again (R139). -/
def State.canTxEndOp (s : State) (c how lec eights : Nat) (tdcv : Option Nat) (sof : Nat) : State :=
  match (s.chan c).frame with
  | none => s
  | some it =>
    if s.chTrxSt c ≠ 0 then s
    else
      let it : Item := if it.fmt = 0 then it else { it with esi := s.chState c == 1 }
      let again (t : State) : State := if t.chEn c then State.setChan t c { t.chan c with txNow := none } else t.chFlush c false
      let meas := if it.fmt ≠ 0 ∧ s.flag (chTdc c) LCn_TDC_EN ∧ how ≠ 1 then tdcv else none
      let s := match meas with | some v => s.setFld (chTdc c) LCn_TDC_TDCV (min 127 v) | none => s
      let late := match meas with | some v => decide (127 < v) | none => false
      if how = 1 then State.chAfter (again (s.chCount c 4)) c
      else if how = 0 ∧ !late then
        let t := (s.chTaken c).setFld (chErr c) LCn_ERR_TEC (s.fld (chErr c) LCn_ERR_TEC - 1)
        ((((t.setFld (chErr c) LCn_ERR_LEC 0).chErrState c).chSent c it sof)).chAfter c
      else
        let (f, s) := s.takeFree
        let lec := if late ∧ lec ≠ 4 ∧ lec ≠ 5 then 4 + f % 2 else lec
        let tec := s.fld (chErr c) LCn_ERR_TEC + 8 * (if late then max 1 eights else eights)
        let t := (s.chCount c 3).setFld (chErr c) LCn_ERR_LEC lec
        if 255 < tec then (t.chBusOff c).chAfter c
        else
          let t := (t.setFld (chErr c) LCn_ERR_TEC tec).chErrState c
          (again t).chAfter c

/-- LOOM_RECOVER: a write of LCn_ERR with RECOVER at 1 (R148). -/
def State.chRecover (s : State) (c : Nat) (w : Word) : State :=
  if getB w LCn_ERR_RECOVER && s.chState c == 2 && decide (c < 64) then s.setFld (chErr c) LCn_ERR_STATE 3 else s

def State.loomRecoverOp (s : State) (_i : Iface) (n : Nat) (w : Word) : State := s.hostAccess (s.chRecover n w)

/-- BUS_OFF_RECOVERY_COMPLETE (R148). -/
def State.busOffDoneOp (s : State) (c : Nat) : State :=
  if s.chState c = 3 then
    (([LCn_ERR_STATE, LCn_ERR_TEC, LCn_ERR_REC].foldl (fun t f => t.setFld (chErr c) f 0) s).chEvent c LCn_EVT_RECOVERED).chPick c
  else s

/-! ### LIN (R150 to R152, R163) -/

/-- Parity bits and identifier of a LIN frame (ISO 17987-3). -/
def linPid (id : Nat) : Nat :=
  let b (k : Nat) : Nat := bits id k k
  id % 64 + 64 * ((b 0 + b 1 + b 2 + b 4) % 2) + 128 * ((b 1 + b 3 + b 4 + b 5 + 1) % 2)

/-- LIN checksum: enhanced for identifiers 0–59, classic above (R150). -/
def linChecksum (id : Nat) (data : List Byte) : Nat :=
  let add (a b : Nat) : Nat := let x := a + b; if 255 < x then x - 255 else x
  255 - data.foldl (fun a b => add a b.toNat) (if id < 60 then linPid id else 0)

/-- The go-to-sleep command (R152). -/
def isGoToSleep (id : Nat) (data : List Byte) : Bool := id == 0x3C && data == (0 : Byte) :: List.replicate 7 255

/-- The item of a LIN frame. -/
def linItem (c id stamp : Nat) (data : List Byte) : Item :=
  { Item.blank with
    eth := false, fmt := 3, ident := id, data := data, tenant := 1024, src := 8192 + c, stamp := stamp }

/-- Ticks of a response of n octets within the limit of R150. -/
def State.linTimeout (s : State) (c n : Nat) : Nat := 14 * (n + 1) * s.chBit c

/-- The channel sends a response it holds; with a bit error the frame ends at once and the response stays (R150, R151). -/
def State.linAnswer (s : State) (c : Nat) (it : Item) (bitErr : Bool) (stamp : Nat) : State :=
  let x := s.chan c
  if bitErr then
    State.setFld (State.chCount (s.setChan c { x with linWait := none, linAct := s.mer, busyTill := s.mer }) c 3) (chErr c) LCn_ERR_LEC 1
  else
    let t := s.setChan c { x with
      lin := x.lin.map (fun p => if p.1 = it.ident then (p.1, { p.2 with tsreq := none }) else p)
      busyTill := s.mer + 10 * (it.data.length + 1) * s.chBit c, linWait := none, linAct := s.mer }
    (t.setFld (chErr c) LCn_ERR_LEC 0).chSent c it stamp

/-- A response received for a header, with its error of LEC, 0 for none (R150, R152). -/
def State.linTake (s : State) (c id : Nat) (data : List Byte) (err stamp : Nat) : State :=
  let s := s.setChan c { s.chan c with linWait := none, linAct := s.mer }
  if err ≠ 0 ∨ data.length ≠ s.linLen c id then
    State.chAfter ((s.chCount c 2).setFld (chErr c) LCn_ERR_LEC (if err = 0 ∨ err = 4 then 3 else err)) c
  else
    let t := (((s.chCount c 0).setFld (chErr c) LCn_ERR_LEC 0).chValid c).chDeliver c (linItem c id stamp data) false
    if isGoToSleep id data && !s.flag (LCn_CFG c) LCn_CFG_LIN_ROLE then t.chMove c 3 true else t.chAfter c

/-- The response awaited did not end in time (R150). -/
def State.linMissed (s : State) (c : Nat) : State :=
  (State.chCount (s.setChan c { s.chan c with linWait := none }) c 12).setFld (chErr c) LCn_ERR_LEC 4

/-- LIN_HEADER_RECEIVE: a header, at the falling edge `stamp` of its break, with the response that followed, or none yet,
behind the error of LEC met: 1 of the channel's own response, 1 to 3 of the one received, 5 or 6 of the header (R150 to
R152). In listen-only the channel receives what it would answer (R155). A stopped channel completes the frame on the bus.
DESIGN CHOICE (log entry 136): a header's error counts in RX_ERR, and that of an own response in TX_ERR; a header that
breaks in upon an awaited response leaves it missing. -/
def State.linHeaderOp (s : State) (c id : Nat) (met : Nat × Option (List Byte)) (stamp : Nat) : State :=
  let (err, resp) := met
  let awaited : Bool := match (s.chan c).linWait with | some (k, _) => k == id && resp.isSome | none => false
  if !s.chReceives c || s.chProto c != 3 || (!s.chEn c && !awaited) then s
  else
    let s := s.setChan c { s.chan c with linAct := s.mer }
    let n := s.linLen c id
    if awaited then s.linTake c id (resp.getD []) err stamp
    else if s.flag (LCn_CFG c) LCn_CFG_LIN_ROLE ∨ (s.chan c).trans.isSome then s
    else
      let s := if (s.chan c).linWait.isSome then s.linMissed c else s
      if err = 5 ∨ err = 6 then (s.chCount c 2).setFld (chErr c) LCn_ERR_LEC err
      else if n = 0 then s
      else
        match (if s.chTrxSt c = 0 then (s.chan c).lin.find? (fun p => p.1 == id) else none), resp with
        | some p, _ => s.linAnswer c p.2 (err == 1) stamp
        | none, some d => s.linTake c id d err stamp
        | none, none => s.setChan c { s.chan c with linWait := some (id, s.mer + s.linTimeout c n) }

/-- LIN_NO_RESPONSE (R150). -/
def State.linNoRespOp (s : State) (c : Nat) : State :=
  match (s.chan c).linWait with
  | none => s
  | some (_, due) => if s.mer < due then s else (s.linMissed c).chAfter c

/-- Break, delimiter, sync and identifier of a header in bit times. -/
def State.headerBits (s : State) (c : Nat) : Nat :=
  let b := s.fld (LCn_LIN c) LCn_LIN_BREAK
  (if b < 13 ∨ 26 < b then 13 else b) + 21

/-- A commander runs schedule entry k; `bitErr`: its own frame meets a bit error (R150 to R152). The sleep entry of
CMD_SLEEP begins once the frame has ended. -/
def State.linRun (s : State) (c k : Nat) (bitErr : Bool) : State :=
  let id := s.fld (LIN_SCHED c k) LIN_SCHED_FRAME_ID
  let hdr := s.headerBits c * s.chBit c
  let late (t : State) : State := t.setChan c { t.chan c with busyTill := (t.chan c).busyTill + hdr }
  if s.flag (LIN_SCHED c k) LIN_SCHED_CMD_SLEEP then
    let t := State.linAnswer (s.emitOut (.linHeader c 0x3C)) c (linItem c 0x3C s.mer ((0 : Byte) :: List.replicate 7 255)) bitErr s.mer
    (late t).chMove c 3 true
  else
    let t := State.emitOut (s.setChan c { s.chan c with linAct := s.mer }) (.linHeader c id)
    match (s.chan c).lin.find? (fun p => p.1 == id) with
    | some p => late (t.linAnswer c p.2 bitErr s.mer)
    | none =>
      let n := s.linLen c id
      if n = 0 then t.setChan c { t.chan c with busyTill := s.mer + hdr }
      else t.setChan c { t.chan c with linWait := some (id, s.mer + hdr + s.linTimeout c n) }

/-- Entries of a channel's schedule. -/
def State.schedLen (s : State) (c : Nat) : Nat := min 64 (s.fld (LCn_LIN c) LCn_LIN_SCHED_LEN)

/-- LIN_SCHEDULE_ENTRY, with whether the frame that the channel sends of its own meets a bit error: a late entry starts once
the bus is free; otherwise the entry that is due starts, or is late
(R151). -/
def State.linScheduleOp (s : State) (n : Nat × Bool) : State :=
  let (c, bitErr) := n
  let x := s.chan c
  if !s.chEn c || s.chProto c != 3 || !s.linScheduled c || s.chTrxSt c != 0 || x.trans.isSome || x.wakeAt.isSome then s
  else
    let busy := x.linWait.isSome || decide (s.mer < x.busyTill)
    match x.late, busy with
    | k :: rest, false => State.linRun (s.setChan c { x with late := rest }) c k bitErr
    | _, _ =>
      if !reached (s.chTime c) x.schedDue || s.schedLen c == 0 then s
      else
        let k := if x.schedIdx < s.schedLen c then x.schedIdx else 0
        let y := { x with schedIdx := (k + 1) % s.schedLen c, schedDue := (x.schedDue + (s.rd (LIN_SCHED c k + 4)).toNat) % 2 ^ 64 }
        if busy then State.chCount (s.setChan c { y with late := x.late ++ [k] }) c 13
        else (s.setChan c y).linRun c k bitErr

/-- Entry 0 is due at once (R151). -/
def State.linRestart (s : State) (c : Nat) : State :=
  s.setChan c { s.chan c with schedIdx := 0, schedDue := s.chTime c, late := [] }

/-- A binding that changes while the channel is stopped keeps what remains of the time to the next entry, in ticks of the
new datum; what was due at once stays so (R151). -/
def State.linRebind (s : State) (c old : Nat) : State :=
  let x := s.chan c
  let left := if reached old x.schedDue then 0 else (x.schedDue + (2 ^ 64 - old % 2 ^ 64)) % 2 ^ 64
  s.setChan c { x with schedDue := (s.chTime c + left) % 2 ^ 64 }

/-- LIN_IDLE_TIMEOUT: 4 s without activity (R152). -/
def State.linIdleOp (s : State) (c : Nat) : State :=
  if s.chProto c = 3 ∧ s.chEn c ∧ !s.flag (LCn_CFG c) LCn_CFG_LIN_ROLE ∧ s.chTrxSt c < 2 ∧ (s.chan c).trans.isNone ∧
      (s.chan c).linAct + 4000 * msTicks ≤ s.mer then s.chMove c 3 true
  else s

/-- LIN_LOCAL_WAKE_START (R163). -/
def State.linLocalOp (s : State) (c : Nat) : State :=
  match (s.chan c).wakeAt with
  | some a => if a ≤ s.mer then (State.setChan s c { s.chan c with wakeAt := none }).linRestart c else s
  | none => s

/-! ### Enabling and stopping (R37, R139, R153) -/

/-- The channel runs: enabled, or with a frame still in progress (R37). -/
def State.chRuns (s : State) (c : Nat) : Bool := s.chEn c || s.chInFrame c

/-- Enabling is accepted under a configuration word (R139). -/
def State.chMayEnable (s : State) (c : Nat) (w : Word) : Bool :=
  bitOk (getF w LCn_CFG_PROTO) (s.rd (chNbt c)) (s.rd (chDbt c)) &&
    s.lifecycle != 4 && !(getF w LCn_CFG_PROTO == 3 && s.flag (chWake c) LCn_WAKE_WMODE) &&
    !(getF w LCn_CFG_PROTO == 3 && getB w LCn_CFG_LIN_ROLE && s.flag (LCn_LIN c) LCn_LIN_SCHED_EN &&
        s.fld (LCn_LIN c) LCn_LIN_SCHED_LEN == 0)

/-- A write of LCn_CFG: whether it is taken, and its effect (R115, R139). -/
def State.chanCfg (s : State) (i : Iface) (c : Nat) (w : Word) : Bool × State :=
  let old := s.rd (LCn_CFG c)
  let t := s.typedWrite i (LCn_CFG c) w
  let new := t.rd (LCn_CFG c)
  if !s.chRuns c then
    let t := if s.loomTenant c = t.loomTenant c then t else t.linRebind c (s.chTime c)
    if !getB w LCn_CFG_EN then (true, t)
    else if s.chMayEnable c new then
      let t := t.setChan c { t.chan c with cur := none, shd := none, linAct := t.mer }
      (true, (((t.setFld (chStat c) LCn_STAT_RXCUR 0).setFld (chStat c) LCn_STAT_RXSHD 0)).chPick c)
    else (false, s.chEvent c LCn_EVT_CFG_ERR)
  else if !s.chEn c then (if new = old then (true, s) else (false, s.chEvent c LCn_EVT_CFG_ERR))
  else
    let same := setF new LCn_CFG_EN 1 = old
    let t := if same then s else s.chEvent c LCn_EVT_CFG_ERR
    if getB w LCn_CFG_EN then (decide same, t)
    else (decide same, ((t.setFld (LCn_CFG c) LCn_CFG_EN 0).chFlush c true).flushQueue (.loom c))

/-- A write of LCn_NBT, LCn_DBT, LCn_TDC or LCn_LIN: ignored while the channel runs (R139). -/
def State.chanTiming (s : State) (i : Iface) (c a : Nat) (w : Word) : Bool × State :=
  let t := s.typedWrite i a w
  if s.chRuns c then (if t.rd a = s.rd a then (true, s) else (false, s.chEvent c LCn_EVT_CFG_ERR))
  else if a = LCn_LIN c ∧ !s.flag a LCn_LIN_SCHED_EN ∧ t.flag a LCn_LIN_SCHED_EN then (true, t.linRestart c)
  else (true, t)

/-- A write of LCn_WAKE: WMODE keeps its value while the channel runs (R139); in sleep it rules the code and INH (R155). -/
def State.chanWake (s : State) (i : Iface) (c : Nat) (w : Word) : Bool × State :=
  let t := s.typedWrite i (chWake c) w
  if s.chRuns c ∧ t.flag (chWake c) LCn_WAKE_WMODE ≠ s.flag (chWake c) LCn_WAKE_WMODE then
    (false, (t.setFlag (chWake c) LCn_WAKE_WMODE (s.flag (chWake c) LCn_WAKE_WMODE)).chEvent c LCn_EVT_CFG_ERR)
  else if s.chTrxSt c = 3 ∧ (s.chan c).trans.isNone then
    (true, t.setChan c { t.chan c with code := t.chCode c 3, inh := t.flag (chWake c) LCn_WAKE_WMODE })
  else (true, t)

/-! ### Host buffers (R153, R154) -/

/-- The words of a held frame (R154). -/
def RxBuf.word (b : RxBuf) (k : Nat) : Word :=
  let it := b.item
  BitVec.ofNat 32
    (match k with
     | 0 => 2 ^ 31 + 2 ^ 29 * it.fmt + it.ident
     | 1 => 2 ^ 31 * bit it.ide + 2 ^ 30 * bit it.rtr + 2 ^ 29 * bit it.brs + 2 ^ 28 * bit it.esi + 2 ^ 27 * bit it.sec +
              2 ^ 16 * it.sdt + it.data.length
     | 2 => if it.fmt = 3 then 256 * bit (decide (it.ident < 60)) + linChecksum it.ident it.data else it.af
     | 3 => 2 ^ 24 * it.vcid
     | 4 => b.mer
     | 5 => b.mer / 2 ^ 32
     | 6 => b.ten
     | 7 => b.ten / 2 ^ 32
     | n + 8 => leNat (slice it.data (4 * n) 4))

/-- Word k of a channel's current buffer; 0 with no frame held. -/
def State.rxWord (s : State) (c k : Nat) : Word :=
  match (s.chan c).cur with
  | some b => b.word k
  | none => 0

/-- HOST_BUFFER_READ (R154). -/
def State.bufferReadOp (s : State) (i : Iface) (n k : Nat) : State :=
  s.hostAccess (s.answer i (LOOM_RXBUF n k) (s.rxWord n k))

/-- A write of LCn_RXCTL with RELEASE (R153). -/
def State.rxRelease (s : State) (c : Nat) (w : Word) : State :=
  let x := s.chan c
  if !getB w LCn_RXCTL_RELEASE || x.cur.isNone then s
  else
    ((s.setChan c { x with cur := x.shd, shd := none }).setFlag (chStat c) LCn_STAT_RXCUR x.shd.isSome).setFld (chStat c)
      LCn_STAT_RXSHD 0

def State.rxReleaseOp (s : State) (_i : Iface) (n : Nat) (w : Word) : State := s.hostAccess (s.rxRelease n w)

/-! ### PLCA channels (R165 to R168) -/

def State.plca (s : State) (m : Nat) : PlcaSt := Sparse.get (fun _ => PlcaSt.reset) s.plcas m
def State.setPlca (s : State) (m : Nat) (x : PlcaSt) : State :=
  { s with plcas := Sparse.set (fun _ => PlcaSt.reset) s.plcas m x }
def State.pcEn (s : State) (m : Nat) : Bool := s.flag (PCm_CFG m) PCm_CFG_EN
def State.pcCount (s : State) (m k : Nat) (n : Nat := 1) : State := s.count64 (PCm_STATS m k) n
def State.pcEvent (s : State) (m : Nat) (f : Fld) : State := s.setFld (PCm_EVT m) f 1

/-- Discard what is queued for a PLCA channel but the frame in transmission (R116, R118, R167). -/
def State.pcFlush (s : State) (m : Nat) : State :=
  (List.range 8).foldl (fun t q =>
    let l := t.queue (Dest.plca m q).key
    let k := if (s.plca m).txq = some q then 1 else 0
    (l.drop k).foldl (fun u e => u.discardEntry e rEgress) (t.setQueue (.plca m q) (l.take k))) s

/-- A write of PCm_CFG: whether it is taken, and its effect (R115, R139). -/
def State.plcaCfg (s : State) (i : Iface) (m : Nat) (w : Word) : Bool × State :=
  let old := s.rd (PCm_CFG m)
  let t := s.typedWrite i (PCm_CFG m) w
  let new := t.rd (PCm_CFG m)
  if !s.pcEn m && (s.plca m).txq.isNone then
    if getB w PCm_CFG_EN && !s.mayRun then (false, s) else
    (true, if getB w PCm_CFG_EN then
        (List.range 16).foldl (fun u k => u.wr64 (PCm_STATS m k) 0) (t.setPlca m { t.plca m with rxOpen := none })
      else t)
  else if !s.pcEn m then (decide (new = old), s)
  else
    let same := setF new PCm_CFG_EN 1 = old
    if getB w PCm_CFG_EN then (decide same, s) else (decide same, State.pcFlush ((s.setFld (PCm_CFG m) PCm_CFG_EN 0).setPlca m { s.plca m with rxOpen := some s.mer }) m)

/-- CHANNEL_ENABLE and CHANNEL_STOP: loom channels 0–63, PLCA channels at 64. -/
def State.channelWrite (s : State) (i : Iface) (u : Nat) (w : Word) : Bool × State :=
  if u < 64 then s.chanCfg i u w else s.plcaCfg i (u - 64) w

def State.unitEn (s : State) (u : Nat) : Bool := if u < 64 then s.chEn u else s.pcEn (u - 64)

def State.channelEnableOp (s : State) (i : Iface) (u : Nat) (w : Word) : State :=
  if !s.unitEn u && getB w LCn_CFG_EN then s.hostAccess (s.channelWrite i u w).2 else s

def State.channelStopOp (s : State) (i : Iface) (u : Nat) (w : Word) : State :=
  if s.unitEn u && !getB w LCn_CFG_EN then s.hostAccess (s.channelWrite i u w).2 else s

/-- The TPID of a PLCA channel (R167). -/
def State.pcTpid (s : State) (m : Nat) : Nat :=
  match s.fld (PCm_TAG m) PCm_TAG_TPID_SEL with
  | 1 => 0x88A8
  | 2 => s.fld PORT_GCTRL PORT_GCTRL_TPID_ALT
  | _ => 0x8100

/-- A group address passes a PLCA channel's filter (R125, R167). -/
def State.pcPass (s : State) (m : Nat) (data : List Byte) : Bool :=
  let b := crc32 0xEDB88320 (data.take 6) % 512
  (beAt data 0 6 == 2 ^ 48 - 1 && s.flag (PCm_FILT m) PCm_FILT_BCAST) || s.flag (PCm_FILT m) PCm_FILT_GALL ||
    (s.rd (PC_HASH m (b / 32))).getLsbD (b % 32)

/-- PLCA_FRAME_RECEIVE: operands as in FRAME_RECEIVE (R65, R68, R116, R119, R120, R125, R141, R167). -/
def State.plcaReceiveOp (s : State) (m : Nat) (data : List Byte) (found raw : Nat) : State :=
  if !(s.pcEn m || (match (s.plca m).rxOpen with | some h => decide (raw ≤ h) | none => false)) then s
  else
    let s := if s.pcEn m then s else s.setPlca m { s.plca m with rxOpen := none }
    let ten := (s.plcaTenant m).getD 1024
    let len := data.length + 4
    let mac := beAt data 12 2 == 0x8808
    if !mac && (found == 4 || decide (8 ≤ s.waitsOf (12288 + m))) then (s.pcCount m 8).dropFor ten rOverrun
    else if found = 2 ∨ found = 3 then (s.pcCount m 6).dropFor ten rMalformed
    else if len < 64 ∨ 1522 < len then (s.pcCount m 5).dropFor ten rMalformed
    else if found = 1 then (s.pcCount m 4).dropFor ten rMalformed
    else if mac then s
    else
      let grp := oct data 0 % 2 == 1
      let pass := !grp || s.pcPass m data
      let (adm, s) := if pass then s.admitData (srcPanel (12288 + m)) else (true, s)
      if !adm then (s.pcCount m 8).dropFor ten rOverrun
      else
        let t := (s.pcCount m 0).pcCount m 1 len
        let t := if beAt data 0 6 = 2 ^ 48 - 1 then t.pcCount m 3 else if grp then t.pcCount m 2 else t
        let it := { Item.blank with data := data, src := 12288 + m, stamp := raw, tenant := 1024 }
        let t := t.capture (12288 + m) it (s.tenantStamp (s.plcaTenant m) raw)
        if pass then t.parse (srcPanel it.src) it else (t.pcCount m 7).dropItem { it with tenant := ten } rFilterDeny

/-- The queue a PLCA channel sends from: the one it has begun, else the highest that holds a frame. -/
def State.pcQueue (s : State) (m : Nat) : Option Nat :=
  match (s.plca m).txq with
  | some q => some q
  | none => (List.range 8).reverse.find? (fun q => !(s.queue (Dest.plca m q).key).isEmpty)

/-- The octets of an item as a PLCA channel sends them (R121, R123, R167). -/
def State.pcSent (s : State) (m : Nat) (it : Item) : List Byte :=
  let (tag, d) := it.egressTag (s.fld (PCm_TAG m) PCm_TAG_EGR_MODE) (s.pcTpid m) (s.vlanUntagged it.vid (1024 + m))
  padded (s.rtagged it tag d)

/-- PLCA is on, and its status is up: the channel sends in its transmit opportunities (R166). -/
def State.plcaOn (s : State) (m : Nat) : Bool :=
  s.pcEn m && s.flag (PCm_PLCA m) PCm_PLCA_EN && s.fld (PCm_PLCA m) PCm_PLCA_NODE_ID != 255

/-- Ticks of a bit at 10 Mbit/s. -/
def plcaBit : Nat := 200

/-- aPLCATransmitOpportunityTimer, in bit times. -/
def State.plcaTo (s : State) (m : Nat) : Nat :=
  let tmr := s.fld (PCm_PLCA m) PCm_PLCA_TO_TMR
  if tmr = 0 then 32 else tmr

/-- A new frame may begin: one in each cycle, and in a burst up to MAX_BC more, each within BURST_TMR bit times of the end
of the one before; without PLCA at any time, as does a frame whose attempt collided (R166, Clause 148). -/
def State.plcaMay (s : State) (m raw : Nat) : Bool :=
  let x := s.plca m
  !s.plcaOn m || !s.flag (PCm_STAT m) PCm_STAT_PLCA_ST || x.txq.isSome || x.sent == 0 ||
    (decide (x.sent ≤ s.fld (PCm_PLCA m) PCm_PLCA_MAX_BC) &&
      decide (raw ≤ x.sentAt + (64 + s.fld (PCm_PLCA2 m) PCm_PLCA2_BURST_TMR) * plcaBit))

/-- PLCA_TX_ATTEMPT_END: success, or a collision; the sixteenth discards the frame (R121, R166, R167). `raw` is the tick
of the first bit after the SFD. -/
def State.plcaTxEndOp (s : State) (m : Nat) (ok : Bool) (raw : Nat) : State :=
  if !s.flag (PCm_STAT m) PCm_STAT_LINK ∨ (!s.pcEn m ∧ (s.plca m).txq = none) ∨ !s.plcaMay m raw then s
  else
    match s.pcQueue m with
    | none => s
    | some q =>
      match s.queue (Dest.plca m q).key with
      | [] => s.setPlca m { s.plca m with txq := none, coll := 0 }
      | e :: rest =>
        let x := s.plca m
        let d : Dest := .plca m q
        let sent := s.pcSent m e.item
        let take (t : State) : State := State.setPlca (t.setQueue d rest) m { x with txq := none, coll := 0 }
        if e.item.poison ∨ 1526 < max (sent.length + 4) e.item.stored then (take s).discardEntry e (dequeueReason e.item)
        else if ok then
          let it := { e.item.mark 8 s.mer with data := sent }
          let t := ((take s).freeEntry e).obs d.panel 0x021 e.cells (tenant := some it.tenant) (cls := some q)
          let t := t.setPlca m { t.plca m with sent := x.sent + 1, sentAt := s.mer }
          let t := t.emitOut (.frame (1024 + m) it false)
          let t := (t.pcCount m 9).pcCount m 10 (sent.length + 4)
          let t := match it.tsreq with
            | some (src, k) => t.tsqPut (1088 + m) { disc := false, src := src, ident := k, mer := raw, ten := t.tenantStamp (t.plcaTenant m) raw }
            | none => t
          t.pathEnd (e.item.mark 8 s.mer) { kind := 3, num := m, queue := q, verdict := 0, panel := d.panel, tsOut := s.mer }
        else
          let t := s.pcCount m 12
          if x.coll + 1 < 16 then t.setPlca m { x with txq := some q, coll := x.coll + 1 }
          else (((take t).discardEntry e rEgress).pcCount m 13).pcEvent m PCm_EVT_EXCESS_COLL

/-- A cycle ends. DESIGN CHOICE (log entry 36): a transmit opportunity that the channel had in it and did not use, with a
frame waiting, is a missed one. -/
def State.plcaCycle (s : State) (m nodes : Nat) : State :=
  let x := s.plca m
  let miss := s.flag (PCm_STAT m) PCm_STAT_PLCA_ST && x.sent == 0 && (s.pcQueue m).isSome &&
    decide (s.fld (PCm_PLCA m) PCm_PLCA_NODE_ID < nodes)
  let t := (s.setPlca m { x with beaconAt := s.mer, seen := max x.seen nodes, sent := 0 }).pcCount m 14
  let t := if miss then t.pcCount m 15 else t
  if t.flag (PCm_STAT m) PCm_STAT_PLCA_ST then t
  else (t.setFld (PCm_STAT m) PCm_STAT_PLCA_ST 1).pcEvent m PCm_EVT_PLCA_UP

/-- PLCA_BEACON: a follower receives a beacon, with the highest transmit-opportunity count seen in the cycle it ends; the
coordinator sends one, after the 20 bits of the last beacon and the NODE_CNT opportunities of the cycle (R166).
DESIGN CHOICE (log entry 36): the coordinator's PLCA_ST rises with its first beacon, and BEACONS counts what it sends. -/
def State.plcaBeaconOp (s : State) (m seen : Nat) : State :=
  if !s.plcaOn m then s
  else if s.fld (PCm_PLCA m) PCm_PLCA_NODE_ID = 0 then
    let nodes := max 1 (s.fld (PCm_PLCA m) PCm_PLCA_NODE_CNT)
    if s.flag (PCm_STAT m) PCm_STAT_PLCA_ST ∧ s.mer < (s.plca m).beaconAt + (20 + nodes * s.plcaTo m) * plcaBit then s
    else (s.emitOut (.beacon m)).plcaCycle m nodes
  else s.plcaCycle m seen

/-- PLCA_BEACON_LOSS: bit times of 100 ns (R166). NODE_CNT_seen is at least 1, the coordinator's own opportunity. -/
def State.plcaLossOp (s : State) (m : Nat) : State :=
  let x := s.plca m
  let lim := 4 * max 1 x.seen * (s.plcaTo m + 20) * plcaBit
  if s.flag (PCm_STAT m) PCm_STAT_PLCA_ST && s.fld (PCm_PLCA m) PCm_PLCA_NODE_ID != 0 && decide (x.beaconAt + lim ≤ s.mer) then
    ((s.setPlca m { x with seen := 0 }).setFld (PCm_STAT m) PCm_STAT_PLCA_ST 0).pcEvent m PCm_EVT_PLCA_DOWN
  else s

/-- A write of LOOM_MDIO (R168). -/
def State.mdioWrite (s : State) (i : Iface) (w : Word) : State :=
  if s.flag LOOM_MDIO LOOM_MDIO_BUSY then s
  else
    let t := s.typedWrite i LOOM_MDIO w
    if getB w LOOM_MDIO_BUSY then
      t.emitOut (.mdio (getB w LOOM_MDIO_OP) (getF w LOOM_MDIO_PHYAD) (getF w LOOM_MDIO_REGAD) (getF w LOOM_MDIO_DATA))
    else t

def State.mdioAccessOp (s : State) (i : Iface) (w : Word) : State := s.hostAccess (s.mdioWrite i w)

/-- MDIO_COMPLETE, with the value a read found (R168). -/
def State.mdioDoneOp (s : State) (v : Nat) : State :=
  if !s.flag LOOM_MDIO LOOM_MDIO_BUSY then s
  else
    let t := if s.flag LOOM_MDIO LOOM_MDIO_OP then s else s.setFld LOOM_MDIO LOOM_MDIO_DATA v
    t.setFld LOOM_MDIO LOOM_MDIO_BUSY 0

/-- PHY_LINK_POLL: the link of an enabled channel's PHY (R168). -/
def State.phyPollOp (s : State) (m : Nat) (up : Bool) : State :=
  if !s.pcEn m || s.flag (PCm_STAT m) PCm_STAT_LINK == up then s
  else
    let t := (s.setFlag (PCm_STAT m) PCm_STAT_LINK up).pcEvent m (if up then PCm_EVT_LINK_UP else PCm_EVT_LINK_DOWN)
    if up then t else State.pcFlush (t.setPlca m { t.plca m with txq := none, coll := 0 }) m

/-! ### Management buses (R169, R170) -/

/-- A host write of a management-bus register waits for bus idle; LOCK rules it as it stands at the write (R170, R480). -/
def State.mbWrite (s : State) (i : Iface) (a : Nat) (w : Word) : State :=
  let c := 64 + (a - 0x47000) / 256
  let l := s.locked a
  let t := match regDesc? a with
    | some d => if l && lockRefuses d (s.rd a) w then s.hostErr SYS_HOSTERR_LOCKED i a else s
    | none => s
  t.setChan c { t.chan c with pend := (t.chan c).pend ++ [(a, w, l)] }

/-- One waiting write takes effect: enabling with illegal bit timing is refused, and disabling discards what waits to be
sent (R139, R143, R169). -/
def State.mbTake (s : State) (c : Nat) (p : Nat × Word × Bool) : State :=
  match regDesc? p.1 with
  | none => s
  | some d =>
    let t := s.wr p.1 (writeWord p.2.2 d (s.rd p.1) p.2.1)
    if !s.chEn c && t.chEn c && !bitOk 2 (s.rd (chNbt c)) (s.rd (chDbt c)) then
      State.chEvent (t.setFld (chPage c) LCn_CFG_EN 0) c LCn_EVT_CFG_ERR
    else if s.chEn c && !t.chEn c then t.chFlush c false
    else t

/-- MB_CONFIG_APPLY: at a bus-idle moment the writes take effect, in their order, and a frame that waits may go. -/
def State.mbApplyOp (s : State) (b : Nat) : State :=
  let c := 64 + b
  if s.chInFrame c then s
  else
    let l := (s.chan c).pend
    let t := l.foldl (fun t p => t.mbTake c p) (s.setChan c { s.chan c with pend := [] })
    State.chPick (t.setChan c { t.chan c with code := t.chCode c (t.chTrxSt c) }) c

def State.trxRequestOp (s : State) (i : Iface) (n : Nat) (w : Word) : State :=
  s.hostAccess (if n < 64 then s.trxWrite i n w else s.mbWrite i (chTrx n) w)

/-! ### Schedules and a step backward (R89) -/

/-- From entry k, due `gap` ticks from now, back to the earliest entry of the cycle that is not yet past. -/
def State.linBack (s : State) (c : Nat) : Nat → Nat → Nat → Nat × Nat
  | 0, k, gap => (k, gap)
  | n + 1, k, gap =>
    let j := (k + s.schedLen c - 1) % s.schedLen c
    let d := (s.rd (LIN_SCHED c j + 4)).toNat
    if d ≤ gap then s.linBack c n j (gap - d) else (k, gap)

/-- A schedule computes its next occurrence from the new view. -/
def State.linRetime (s : State) (c : Nat) : State :=
  let x := s.chan c
  let n := s.schedLen c
  let v := s.chTime c
  let cyc := (List.range n).foldl (fun a k => a + (s.rd (LIN_SCHED c k + 4)).toNat) 0
  if !s.chEn c || s.chProto c != 3 || !s.linScheduled c || cyc == 0 || reached v x.schedDue then s
  else
    let gap := (x.schedDue + (2 ^ 64 - v % 2 ^ 64)) % 2 ^ 64 % cyc
    let (k, g) := s.linBack c n (if x.schedIdx < n then x.schedIdx else 0) gap
    s.setChan c { x with schedIdx := k, schedDue := (v + g) % 2 ^ 64 }

/-- PENDING_RECORD_EFFECT, with the gates and the LIN schedules that the datum times (R79, R89, R131). -/
def State.recordEffectOp (s : State) (d : Nat) : State :=
  let t := s.pendingRecordOp d
  let v := (s.datum d).act.view s.mer
  let w := t.viewNow d
  if v == w || !reached v w then t
  else t.chans.foldl (fun u p => if u.chTenant p.1 == some d then u.linRetime p.1 else u) t

/-! ### Meanings -/

/-- PENDING_RECORD_EFFECT, R79: At E the pending record takes effect and GEN increments; a step sets TIME_EVT.STEP. -/
def execPendingRecordEffect (d : Nat) (s : State) : Host.Outcome State Fault Refusal := finish s (s.recordEffectOp d)

/-- CHANNEL_ENABLE, R139: A write enabling a loom or PLCA channel applies its configuration or refuses it. -/
def execChannelEnable (i : Iface) (u : Nat) (w : Word) (s : State) : Host.Outcome State Fault Refusal := finish s (s.channelEnableOp i u w)

/-- CHANNEL_STOP, R139: A write of EN 0 stops a channel as a port is stopped. -/
def execChannelStop (i : Iface) (u : Nat) (w : Word) (s : State) : Host.Outcome State Fault Refusal := finish s (s.channelStopOp i u w)

/-- CAN_FRAME_RECEIVE, R140: A correctly received CAN frame goes to the data path, the host buffers or both. -/
def execCanFrameReceive (c : Nat) (frame : CanFrame) (found : Nat) (rec : Nat) (sof : Nat) (s : State) : Host.Outcome State Fault Refusal := finish s (s.canReceiveOp c frame found rec sof)

/-- CHANNEL_ITEM_ARRIVAL, R149: An item reaches a loom channel and enters its transmit set, or is discarded, or wakes the channel. -/
def execChannelItemArrival (n : Nat) (s : State) : Host.Outcome State Fault Refusal := finish s (s.chArrivalOp n)

/-- CAN_TX_ATTEMPT_END, R147: A transmission attempt ends in success, lost arbitration or error, with error counting. -/
def execCanTxAttemptEnd (c : Nat) (how : Nat) (lec : Nat) (eights : Nat) (tdcv : Option Nat) (sof : Nat) (s : State) : Host.Outcome State Fault Refusal := finish s (s.canTxEndOp c how lec eights tdcv sof)

/-- LOOM_RECOVER, R148: A write of LCn_ERR.RECOVER starts bus-off recovery. -/
def execLoomRecover (i : Iface) (n : Nat) (w : Word) (s : State) : Host.Outcome State Fault Refusal := finish s (s.loomRecoverOp i n w)

/-- BUS_OFF_RECOVERY_COMPLETE, R148: After 128 occurrences of 11 recessive bits the channel returns to error-active. -/
def execBusOffRecoveryComplete (c : Nat) (s : State) : Host.Outcome State Fault Refusal := finish s (s.busOffDoneOp c)

/-- LIN_HEADER_RECEIVE, R150: A LIN header is received and answered or received by the channel. -/
def execLinHeaderReceive (n : Nat) (ident : Nat) (resp : Nat × Option (List Byte)) (stamp : Nat) (s : State) : Host.Outcome State Fault Refusal := finish s (s.linHeaderOp n ident resp stamp)

/-- LIN_NO_RESPONSE, R150: A response that has not ended in time is counted in LIN_NORESP. -/
def execLinNoResponse (n : Nat) (s : State) : Host.Outcome State Fault Refusal := finish s (s.linNoRespOp n)

/-- LIN_SCHEDULE_ENTRY, R151: A commander's schedule entry falls due and sends its header. -/
def execLinScheduleEntry (n : Nat × Bool) (s : State) : Host.Outcome State Fault Refusal := finish s (s.linScheduleOp n)

/-- LIN_IDLE_TIMEOUT, R152: 4 s of bus inactivity sends a LIN responder to sleep. -/
def execLinIdleTimeout (n : Nat) (s : State) : Host.Outcome State Fault Refusal := finish s (s.linIdleOp n)

/-- LIN_LOCAL_WAKE_START, R163: 100 ms after the wake-up signal of a local wake, a commander starts its schedule. -/
def execLinLocalWakeStart (n : Nat) (s : State) : Host.Outcome State Fault Refusal := finish s (s.linLocalOp n)

/-- RX_RELEASE, R153: RELEASE empties the current host buffer and moves the shadow into it. -/
def execRxRelease (i : Iface) (n : Nat) (w : Word) (s : State) : Host.Outcome State Fault Refusal := finish s (s.rxReleaseOp i n w)

/-- HOST_BUFFER_READ, R154: A read of the current receive buffer returns the held frame without stalling. -/
def execHostBufferRead (i : Iface) (n : Nat) (k : Nat) (s : State) : Host.Outcome State Fault Refusal := finish s (s.bufferReadOp i n k)

/-- TRX_REQUEST, R157: An LCn_TRX write with REQ_V requests a transceiver state. -/
def execTrxRequest (i : Iface) (n : Nat) (w : Word) (s : State) : Host.Outcome State Fault Refusal := finish s (s.trxRequestOp i n w)

/-- TRX_MODE_SETTLED, R156: T_MODE expires and the channel accepts frames again. -/
def execTrxModeSettled (c : Nat) (s : State) : Host.Outcome State Fault Refusal := finish s (s.trxSettledOp c)

/-- INH_OFF_DELAY, R156: T_INHOFF expires and INH goes low, ending sleep entry. -/
def execInhOffDelay (n : Nat) (s : State) : Host.Outcome State Fault Refusal := finish s (s.inhOffOp n)

/-- INH_ON_SETTLED, R156: T_INHON expires and the code of the target state is driven. -/
def execInhOnSettled (n : Nat) (s : State) : Host.Outcome State Fault Refusal := finish s (s.inhOnOp n)

/-- CHANNEL_WAKE, R158: A wake pattern takes the channel to normal and starts its timers. -/
def execChannelWake (c : Nat) (low : Nat) (s : State) : Host.Outcome State Fault Refusal := finish s (s.channelWakeOp c low)

/-- WAKE_FRAME_DECODE, R159: The wake-frame decoder takes a classical frame, counting errors or finding a match. -/
def execWakeFrameDecode (c : Nat) (frame : CanFrame) (bad : Bool) (sof : Nat) (s : State) : Host.Outcome State Fault Refusal := finish s (s.wakeFrameOp c frame bad sof)

/-- FALSE_WAKE_WINDOW_END, R161: A wake not valid by the end of FW_WIN is false and the channel sleeps again. -/
def execFalseWakeWindowEnd (n : Nat) (s : State) : Host.Outcome State Fault Refusal := finish s (s.falseWakeOp n)

/-- LOOM_SUPP_CLEAR, R161: A write of 1 to LCn_EVT.SUPP re-arms the detector and clears FW_CNT. -/
def execLoomSuppClear (i : Iface) (n : Nat) (w : Word) (s : State) : Host.Outcome State Fault Refusal := finish s (s.loomSuppOp i n w)

/-- MAXAWAKE, R162: The awake timer reaches MAXAWAKE and the channel is forced to sleep. -/
def execMaxawake (n : Nat) (s : State) : Host.Outcome State Fault Refusal := finish s (s.maxAwakeOp n)

/-- PLCA_FRAME_RECEIVE, R167: A frame completes on a PLCA channel and is accepted or discarded as on a port. -/
def execPlcaFrameReceive (m : Nat) (octets : List Byte) (found : Nat) (raw : Nat) (s : State) : Host.Outcome State Fault Refusal := finish s (s.plcaReceiveOp m octets found raw)

/-- PLCA_TX_ATTEMPT_END, R166: A PLCA or CSMA/CD attempt ends, and a 16th collision discards the frame. -/
def execPlcaTxAttemptEnd (m : Nat) (ok : Bool) (raw : Nat) (s : State) : Host.Outcome State Fault Refusal := finish s (s.plcaTxEndOp m ok raw)

/-- PLCA_BEACON, R166: A follower receives a beacon and sets PLCA_ST. -/
def execPlcaBeacon (m : Nat) (seen : Nat) (s : State) : Host.Outcome State Fault Refusal := finish s (s.plcaBeaconOp m seen)

/-- PLCA_BEACON_LOSS, R166: No beacon for the timeout clears PLCA_ST. -/
def execPlcaBeaconLoss (m : Nat) (s : State) : Host.Outcome State Fault Refusal := finish s (s.plcaLossOp m)

/-- MDIO_ACCESS, R168: A write of BUSY starts a Clause 22 access. -/
def execMdioAccess (i : Iface) (w : Word) (s : State) : Host.Outcome State Fault Refusal := finish s (s.mdioAccessOp i w)

/-- MDIO_COMPLETE, R168: The MDIO access completes and BUSY clears. -/
def execMdioComplete (v : Nat) (s : State) : Host.Outcome State Fault Refusal := finish s (s.mdioDoneOp v)

/-- PHY_LINK_POLL, R168: Every 10 ms the PHY link status of each enabled PLCA channel is polled. -/
def execPhyLinkPoll (m : Nat) (up : Bool) (s : State) : Host.Outcome State Fault Refusal := finish s (s.phyPollOp m up)

/-- MB_CONFIG_APPLY, R170: A host write to management-bus settings takes effect at the next bus-idle moment. -/
def execMbConfigApply (b : Nat) (s : State) : Host.Outcome State Fault Refusal := finish s (s.mbApplyOp b)


end Sys2Proof.Machine
end

