-- ==== Sys2Proof/Machine/VBus.lean ====
section
/-! DEFINITION. Virtual buses: request times, slots, frame lengths, error model, LIN, sleep and wake, deliveries and
the IEEE 1722 transport to expanders: spec/06. Bus times are integers in tenant ticks of the bus's datum. -/

namespace Sys2Proof.Machine

/-! ### Pages, members and time (R173, R175, R180) -/

def State.vb (s : State) (v : Nat) : VbSt := Sparse.get (fun _ => VbSt.reset) s.vbs v
def State.setVb (s : State) (v : Nat) (x : VbSt) : State := { s with vbs := Sparse.set (fun _ => VbSt.reset) s.vbs v x }
def State.vbEn (s : State) (v : Nat) : Bool := s.flag (VBn_CFG v) VBn_CFG_EN
def State.vbProto (s : State) (v : Nat) : Nat := s.fld (VBn_CFG v) VBn_CFG_PROTO
def State.vbEvent (s : State) (v : Nat) (f : Fld) : State := s.setFld (VBn_EVT v) f 1
def State.vbCount (s : State) (v c : Nat) : State := s.count (VBn_CNT v c)
def State.vbNbt (s : State) (v : Nat) : Int := s.fld (VBn_NBT v) VBn_NBT_NBT
def State.vbDbt (s : State) (v : Nat) : Int := s.fld (VBn_DBT v) VBn_DBT_DBT
def State.vbLead (s : State) (v : Nat) : Int := s.fld (VBn_LEAD v) VBn_LEAD_LEAD
def State.vbAsleep (s : State) (v : Nat) : Bool := s.flag (VBn_STAT v) VBn_STAT_ASLEEP

/-- The view of the bus's datum now. -/
def State.vbView (s : State) (v : Nat) : Int := s.tenantStamp (s.busTenant v) s.mer

/-- The bus's present position (R179). -/
def State.vbPos (s : State) (v : Nat) : Int := s.vbView v - s.vbLead v

/-- The position has reached a bus time. -/
def State.vbReached (s : State) (v : Nat) (t : Int) : Bool := reached (s.vbView v).toNat (trunc 64 (t + s.vbLead v))

/-- The tick whose view first reaches a tenant time of the bus (R87). -/
def State.vbTick (s : State) (v : Nat) (t : Int) : Nat :=
  match s.busTenant v with
  | some d => s.releaseTick d (trunc 64 t)
  | none => trunc 64 t

/-- Member 0 is valid, and the gateway (R175). -/
def State.memValid (s : State) (v m : Nat) : Bool := m == 0 || s.flag (MEMBER v m) MEMBER_VALID
def State.memKind (s : State) (v m : Nat) : Nat := if m = 0 then 0 else s.fld (MEMBER v m) MEMBER_KIND
def State.memListen (s : State) (v m : Nat) : Bool := s.flag (MEMBER v m) MEMBER_LISTEN
def memErr (v m : Nat) : Nat := MEMBER v m + 4
def State.memState (s : State) (v m : Nat) : Nat := s.fld (memErr v m) MEMBER_STATE
def State.memAtt (s : State) (v m : Nat) : Nat := s.fld (MEMBER v m) MEMBER_ATT

/-- The expander members of a bus. -/
def State.expanders (s : State) (v : Nat) : List Nat :=
  (List.range 16).filter (fun m => m != 0 && s.memValid v m && s.memKind v m == 1)

/-- The counting members of a bus (R187). -/
def State.counting (s : State) (v : Nat) : List Nat :=
  (List.range 16).filter (fun m => s.memValid v m && !s.memListen v m && decide (s.memState v m < 2))

/-- The buses that are enabled. -/
def State.liveBuses (s : State) : List Nat :=
  (s.regs.filter (fun p => decide (0x81000 ≤ p.1) && decide (p.1 < 0xC1000) && p.1 % 64 == 0 && getB p.2 VBn_CFG_EN)).map
    (fun p => (p.1 - 0x81000) / 64)

/-- Show how many requests are pending on the bus and from a member. -/
def State.vbShow (s : State) (v m : Nat) : State :=
  (s.setFld (VBn_STAT v) VBn_STAT_PENDING (s.vb v).reqs.length).setFld (memErr v m) MEMBER_PENDING
    ((s.vb v).reqs.filter (fun r => r.member == m)).length

/-- Take the requests that satisfy p off a bus (R189, R199, R201, R208): discarded under the egress reason. -/
def State.vbDropReqs (s : State) (v : Nat) (p : VbReq → Bool) : State :=
  let gone := (s.vb v).reqs.filter p
  let t := s.setVb v { s.vb v with reqs := (s.vb v).reqs.filter (fun r => !p r) }
  gone.foldl (fun t r => (t.dropFor r.item.tenant rEgress).vbShow v r.member) t

/-! ### What is due (R186, R207) -/

def insertDue (d : VbDue) : List VbDue → List VbDue
  | [] => [d]
  | x :: t => if x.time ≤ d.time then x :: insertDue d t else d :: x :: t

def State.vbDue (s : State) (v : Nat) (d : VbDue) : State := s.setVb v { s.vb v with due := insertDue d (s.vb v).due }

/-- IDENT of a frame (R207): the format bits as the frame sends them (R181). -/
def identWord (it : Item) : Nat :=
  2 ^ 31 * bit it.ide + 2 ^ 30 * bit (it.fmt == 1 || it.fmt == 2) + 2 ^ 29 * bit (it.fmt == 2) + it.ident % 2 ^ 29

/-- A control message to some members: OP, octets 16–19, IDENT and TIME, at a bus time (R207, R208). -/
def State.vbTell (s : State) (v : Nat) (time : Int) (ms : List Nat) (op : Nat) (pars : List Nat) (ident : Nat) (tm : Int) :
    State :=
  ms.foldl (fun t m => t.vbDue v { time := time, kind := 2, item := Item.blank, member := m, sof := tm, op := op,
                                   pars := pars, ident := ident }) s

/-- A control message about no frame: its IDENT is open. -/
def State.vbTellAll (s : State) (v : Nat) (time : Int) (ms : List Nat) (op p : Nat) : State :=
  let (f, t) := s.takeFree
  t.vbTell v time ms op [p, 0, 0, 0] (f % 2 ^ 32) time

/-! ### Arbitration key and frame lengths (R181, R183) -/

/-- The 36-bit arbitration key. -/
def vbKey (it : Item) : Nat :=
  let rtr := bit (it.rtr && it.fmt == 0)
  let fdf := bit (it.fmt == 1 || it.fmt == 2)
  if it.ide && it.fmt != 2 then
    (it.ident / 2 ^ 18 % 2048) * 2 ^ 25 + 2 ^ 24 + 2 ^ 23 + it.ident % 2 ^ 18 * 2 ^ 5 + rtr * 2 ^ 4 + fdf * 2 ^ 3
  else it.ident % 2048 * 2 ^ 25 + rtr * 2 ^ 24 + fdf * 2 ^ 22 + bit (it.fmt == 2) * 2 ^ 21

/-- A frame's bits by rate (true: wholly in the data phase), and the positions errors are detected at (R188, R191). -/
structure BitPlan where
  fast : List Bool
  crcLast : Nat
  crcDelim : Nat
  ack : Nat
  eof : Nat
  deriving DecidableEq, Repr

/-- The n low bits of a number, the highest first. -/
def bitsMsb : Nat → Nat → List Bool
  | 0, _ => []
  | n + 1, x => x.testBit n :: bitsMsb n x

/-- Put in the dynamic stuff bits: bits with a rate code (0 nominal, 1 the BRS bit, 2 data phase); `tail`: also after
the last bit. -/
def stuffed (tail : Bool) : List (Bool × Nat) → Bool → Nat → List (Bool × Nat)
  | [], _, _ => []
  | (b, c) :: t, last, run =>
    let run' := if b = last then run + 1 else 1
    if run' = 5 ∧ (tail ∨ !t.isEmpty) then (b, c) :: (!b, if c = 0 then 0 else 2) :: stuffed tail t (!b) 1
    else (b, c) :: stuffed tail t b run'

/-- CRC-15 of ISO 11898-1 over bits. -/
def crc15 (l : List Bool) : Nat :=
  l.foldl (fun c b => let x := 2 * c % 2 ^ 15; if b != c.testBit 14 then x ^^^ 0x4599 else x) 0

/-- DLC code of a length. -/
def dlcOf (n : Nat) : Nat :=
  if n ≤ 8 then n else if n ≤ 12 then 9 else if n ≤ 16 then 10 else if n ≤ 20 then 11 else if n ≤ 24 then 12
  else if n ≤ 32 then 13 else if n ≤ 48 then 14 else 15

/-- Identifier bits from start of frame to the bit before FDF; in extended format with SRR and IDE. -/
def arbBits (it : Item) (r : Bool) : List Bool :=
  if it.ide then
    false :: (bitsMsb 11 (it.ident / 2 ^ 18) ++ [true, true] ++ bitsMsb 18 it.ident ++ [r])
  else false :: (bitsMsb 11 it.ident ++ [r, false])

/-- Plan of a stuffed part up to its last CRC bit, its trailing stuff bit, and the ten bits after the CRC. -/
def planOf (upTo : List Bool) (trail : List Bool) : BitPlan :=
  let n := upTo.length
  let d := n + trail.length
  { fast := upTo ++ trail ++ List.replicate 10 false, crcLast := n - 1, crcDelim := d, ack := d + 1, eof := d + 3 }

/-- A classical frame. -/
def classicPlan (it : Item) : BitPlan :=
  let data := if it.rtr then [] else it.data.flatMap (fun b => bitsMsb 8 b.toNat)
  let head := arbBits it it.rtr ++ (if it.ide then [false, false] else [false]) ++ bitsMsb 4 (min 8 it.data.length) ++ data
  let l := (head ++ bitsMsb 15 (crc15 head)).map (fun b => (b, 0))
  let a := (stuffed false l true 0).map (fun _ => false)
  let b := (stuffed true l true 0).map (fun _ => false)
  planOf a (b.drop a.length)

/-- A CAN FD frame: after the data, the fixed stuff bits, the stuff count and the CRC take 27 bits up to 16 octets and
32 bits beyond. -/
def fdPlan (it : Item) : BitPlan :=
  let c := if it.brs then 2 else 0
  let head := (arbBits it false ++ [true, false]).map (fun b => (b, 0)) ++ [(it.brs, if it.brs then 1 else 0)]
  let rest := ((it.esi :: bitsMsb 4 (dlcOf it.data.length)) ++ it.data.flatMap (fun b => bitsMsb 8 b.toNat)).map (fun b => (b, c))
  let dyn := (stuffed false (head ++ rest) true 0).map (fun p => p.2 == 2)
  planOf (dyn ++ List.replicate (if it.data.length ≤ 16 then 27 else 32) it.brs) []

/-- A CAN XL frame (R183; PRESUMED, log entry 137): start of frame, 11 priority bits, RRS, IDE, FDF, XLF and resXL with
dynamic stuffing; the arbitration-to-data sequence ADH, DH1, DH2 and DL1, of which ADH switches the rate; in the data phase
SDT, SEC, DLC, stuff bit count, PCRC, VCID, acceptance field, data and FCRC with a fixed stuff bit between each ten bits,
and the four bits of the format check pattern; the data-to-arbitration sequence DAH, AH1, AL1 and AH2, of which DAH
switches the rate; ACK slot and delimiter, and seven bits of end of frame. -/
def xlPlan (it : Item) : BitPlan :=
  let arb := (false :: (bitsMsb 11 it.ident ++ [false, false, true, true, false])).map (fun b => (b, 0))
  let head := (stuffed false arb true 0).length + 1
  let n := 76 + 8 * it.data.length + 32
  let body := 3 + n + (n - 1) / 10
  { fast := List.replicate head false ++ List.replicate (body + 4) true ++ List.replicate 13 false
    crcLast := head + body - 1, crcDelim := head + body, ack := head + body + 8, eof := head + body + 10 }

def bitPlan (it : Item) : BitPlan := if it.fmt = 0 then classicPlan it else if it.fmt = 1 then fdPlan it else xlPlan it

/-- Length in tenant ticks of the first k bits of a plan. -/
def planTime (nbt dbt : Int) (p : BitPlan) (k : Nat) : Int := (p.fast.take k).foldl (fun a f => a + if f then dbt else nbt) 0

/-! ### Requests (R176 to R179, R193) -/

/-- The member kinds an item may contend as (R176). -/
def State.memFits (s : State) (v : Nat) (it : Item) : Bool :=
  let k := s.memKind v it.member
  s.memValid v it.member &&
    (if it.src < 16384 then (it.member == 0 || k == 1)
     else if it.src % 16384 < 4096 then k == 2
     else if it.src % 16384 < 8192 then k == 0 || k == 3
     else it.member == 0)

/-- The format is carried and its length allowed; FD and XL have no remote frames (R173, R177). -/
def fmtOk (proto : Nat) (it : Item) : Bool :=
  (if proto = 3 then it.fmt == 3 else decide (it.fmt ≤ proto)) && !(it.rtr && it.fmt != 0) &&
    decide (it.data.length ≤ (if it.fmt = 0 ∨ it.fmt = 3 then 8 else if it.fmt = 1 then 64 else 2048))

/-- The request's tau (R178). -/
def State.vbTau (s : State) (v : Nat) (it : Item) : Int :=
  match it.tau with
  | some t => t
  | none => s.tenantStamp (s.busTenant v) it.stamp + s.fld (VBn_GWDLY v) VBn_GWDLY_GW_DLY

/-- Length of a LIN identifier on the bus. -/
def State.vlinLen (s : State) (v id : Nat) : Nat := linLenOf (s.rd (VLIN_LEN v (id / 8))) id

def VbSt.held (x : VbSt) (id : Nat) : LinHeld :=
  match x.lins.find? (fun p => p.1 == id) with
  | some p => p.2
  | none => { now := none, next := none }

def VbSt.setHeld (x : VbSt) (id : Nat) (h : LinHeld) : VbSt :=
  { x with lins := x.lins.filter (fun p => p.1 != id) ++ [(id, h)] }

/-- An update of a LIN response: the waiting one is in force from its rho on, and a later one replaces it (R193). -/
def State.vbHold (s : State) (v : Nat) (r : VbReq) : State :=
  let x := s.vb v
  let h := x.held r.item.ident
  let h : LinHeld := match h.next with
    | some n => if n.rho ≤ s.vbPos v then { now := some n, next := none } else h
    | none => h
  s.setVb v (x.setHeld r.item.ident { h with next := some r })

/-- VBUS_REQUEST: the head of a bus's queue reaches its home panel (R176 to R179, R193). -/
def State.vbRequestOp (s : State) (v : Nat) : State :=
  match s.queue (Dest.vbus v).key with
  | [] => s
  | e :: rest =>
    let d : Dest := .vbus v
    let s := ((s.setQueue d rest).freeEntry e).obs d.panel 0x021 e.cells (tenant := some e.item.tenant) (cls := some 0)
    let it := e.item.mark 8 s.mer
    let m := it.member
    let refuse (t : State) : State := State.vbEvent (State.vbCount (t.dropAt it d rEgress) v 9) v VBn_EVT_FMT_ERR
    let header := it.fmt == 3 && it.data.isEmpty
    if it.poison then s.dropAt it d rMalformed
    else if !s.vbEn v then refuse s
    else if !s.memFits v it then s.dropAt it d rNoRoute
    else if !fmtOk (s.vbProto v) it || s.memListen v m || decide (2 ≤ s.memState v m) ||
        (header && !(s.flag (VBn_CFG v) VBn_CFG_LIN_CMDR && s.fld (VBn_CFG v) VBn_CFG_CMDR_MEMBER == m)) then refuse s
    else
      let tau := s.vbTau v it
      let late := tau < s.vbPos v
      let pad := s.fld (VBn_CFG v) VBn_CFG_PAD
      let n := s.vlinLen v it.ident
      if it.fmt = 3 ∧ !header ∧ n < it.data.length then s.dropAt it d rEgress
      else if (it.fmt ≠ 3 ∨ header) ∧ 64 ≤ (s.vb v).reqs.length then
        State.vbEvent (State.vbCount (s.dropAt it d rQueue) v 2) v VBn_EVT_REQ_DROP
      else
        let t := s.pathEnd it { kind := 1, num := v, queue := 0, verdict := 0, panel := d.panel, tsOut := s.mer }
        let t := if late then (t.vbCount v 1).vbEvent v VBn_EVT_LATE else t
        let data := if it.fmt = 1 then padTo (fdLen it.data.length) pad it.data
          else if it.fmt = 3 ∧ !header then padTo n pad it.data else it.data
        let r : VbReq := { item := { it with data := data, tsreq := none }, member := m, arrival := s.mer,
                           rho := max tau (s.vbPos v) }
        if it.fmt = 3 ∧ !header then t.vbHold v r
        else (t.setVb v { t.vb v with reqs := (t.vb v).reqs ++ [r] }).vbShow v m

/-! ### Fault confinement (R184, R187, R189) -/

/-- Set a member's counters at a bus time, with what a change of its state brings. -/
def State.vbErrSet (s : State) (v m tec rec : Nat) (at_ : Int) : State :=
  let old := s.memState v m
  let new := if 255 < tec then 2 else if 127 < tec ∨ 127 < rec then 1 else 0
  let a := memErr v m
  let t := ((s.setFld a MEMBER_TEC (min 255 tec)).setFld a MEMBER_REC (min 255 rec)).setFld a MEMBER_STATE new
  if new = old then t
  else
    let t := if (t.expanders v).contains m then
        let (f, u) := t.takeFree
        u.vbTell v at_ [m] 4 [new, min 255 tec, min 255 rec, 0] (f % 2 ^ 32) at_
      else t
    if new ≠ 2 then t
    else
      let t := (t.vbEvent v VBn_EVT_BUSOFF).vbDropReqs v (fun r => r.member == m)
      if t.flag (MEMBER v m) MEMBER_AUTO_REC then
        (t.setFld a MEMBER_STATE 3).setVb v { t.vb v with recov := (t.vb v).recov ++ [(m, 0, at_)] }
      else t

/-- Counters of all counting members after an attempt of member m: 0 success, 1 an injected error, 2 no
acknowledgement (R187). -/
def State.vbCounts (s : State) (v m outcome : Nat) (at_ : Int) : State :=
  (s.counting v).foldl (fun t k =>
    let tec := t.fld (memErr v k) MEMBER_TEC
    let rec_ := t.fld (memErr v k) MEMBER_REC
    if outcome = 0 then
      if k = m then t.vbErrSet v k (tec - 1) rec_ at_ else t.vbErrSet v k tec (if 127 < rec_ then 120 else rec_ - 1) at_
    else if outcome = 1 then
      if k = m then t.vbErrSet v k (tec + 8) rec_ at_ else t.vbErrSet v k tec (rec_ + 1) at_
    else if k = m ∧ t.memState v k = 0 then t.vbErrSet v k (tec + 8) rec_ at_ else t) s

/-- Recovering members count the idle bus before S and a completed attempt, and count on from F (R189). -/
def recovStep (nbt start free : Int) (ok : Bool) (r : Nat × Nat × Int) : Nat × Nat × Int :=
  let idle := if r.2.2 < start then ((start - r.2.2) / (11 * nbt)).toNat else 0
  (r.1, r.2.1 + idle + bit ok, max r.2.2 free)

/-- MEMBER_RECOVER: a write of word 1 of a member entry (R189, R249). -/
def State.memRecover (s : State) (v m : Nat) (w : Word) : State :=
  if getB w MEMBER_RECOVER && s.memState v m == 2 && s.vbEn v then
    (s.setFld (memErr v m) MEMBER_STATE 3).setVb v { s.vb v with recov := (s.vb v).recov ++ [(m, 0, max (s.vbPos v) (s.vb v).free)] }
  else s

def State.memRecoverOp (s : State) (_i : Iface) (v m : Nat) (w : Word) : State := s.hostAccess (s.memRecover v m w)

/-- MEMBER_RECOVERY_COMPLETE: 128 occurrences have been counted (R189). -/
def State.memDoneOp (s : State) (v m : Nat) : State :=
  match (s.vb v).recov.find? (fun r => r.1 == m) with
  | none => s
  | some (_, n, from_) =>
    let p := s.vbPos v
    if p < from_ ∨ (n : Int) + (p - from_) / (11 * s.vbNbt v) < 128 ∨ !s.vbEn v then s
    else
      (s.setVb v { s.vb v with recov := (s.vb v).recov.filter (fun r => r.1 != m) }).vbErrSet v m 0 0 p

/-! ### The fault injector (R190, R191) -/

def State.inj (s : State) (f : Nat) : InjSt := Sparse.get (fun _ => { seen := 0, due := false }) s.injs f
def State.setInj (s : State) (f : Nat) (x : InjSt) : State :=
  { s with injs := Sparse.set (fun _ => { seen := 0, due := false }) s.injs f x }

/-- The entry matches an attempt on its bus. -/
def State.injMatches (s : State) (f v : Nat) (it : Item) : Bool :=
  s.flag (INJECTOR f) INJECTOR_EN && s.fld (INJECTOR f) INJECTOR_BUS == v &&
    s.flag (INJECTOR f + 4) INJECTOR_IDE == it.ide &&
    (s.fld (INJECTOR f + 4) INJECTOR_ID &&& s.fld (INJECTOR f + 8) INJECTOR_MASK) ==
      (it.ident &&& s.fld (INJECTOR f + 8) INJECTOR_MASK)

/-- The entry can apply to an attempt of member m. -/
def State.injApplies (s : State) (f v m : Nat) : Bool :=
  let k := s.fld (INJECTOR f) INJECTOR_KIND
  let g := s.fld (INJECTOR f) INJECTOR_FLAGGER
  (1 ≤ k && k ≤ 3) || (k == 4 && g != m && (s.counting v).contains g)

/-- Entries count the attempt; the lowest of those due that can apply does, with its COUNT. -/
def State.inject (s : State) (v m : Nat) (it : Item) : Option Nat × State :=
  let hit := (List.range 64).filter (fun f => s.injMatches f v it)
  let t := hit.foldl (fun t f =>
    let x := t.inj f
    let every := max 1 (t.fld (INJECTOR f + 12) INJECTOR_EVERY)
    t.setInj f { seen := x.seen + 1, due := x.due || (x.seen + 1) % every == 0 }) s
  match hit.find? (fun f => (t.inj f).due && t.injApplies f v m) with
  | none => (none, t)
  | some f =>
    let n := t.fld (INJECTOR f + 12) INJECTOR_COUNT
    let t := t.setInj f { t.inj f with due := false }
    let t := if n = 0 then t else t.setFld (INJECTOR f + 12) INJECTOR_COUNT (n - 1)
    (some f, if n = 1 then t.setFld (INJECTOR f) INJECTOR_EN 0 else t)

/-- The bit at which an injected fault is detected (R191). -/
def State.injBit (s : State) (f : Nat) (p : BitPlan) : Nat :=
  let pos := s.fld (INJECTOR f + 12) INJECTOR_POS
  match s.fld (INJECTOR f) INJECTOR_KIND with
  | 3 => p.crcDelim
  | 4 => min pos p.eof
  | _ => min pos p.crcLast

/-! ### CAN slots (R180, R182 to R184, R188) -/

/-- The requests that take part in slots: with ORDER only a member's oldest (R182). -/
def State.vbParts (s : State) (v : Nat) : List VbReq :=
  let l := (s.vb v).reqs
  l.filter (fun r => !s.flag (MEMBER v r.member) MEMBER_ORDER ||
    (match l.find? (fun q => q.member == r.member) with | some q => q == r | none => true))

/-- A request's rho, and not before its member's suspend transmission ends (R184). -/
def VbSt.ready (x : VbSt) (r : VbReq) : Int :=
  match x.susp.find? (fun p => p.1 == r.member) with
  | some p => max r.rho p.2
  | none => r.rho

/-- Start of the next slot, if a request is pending. -/
def VbSt.start (x : VbSt) (l : List VbReq) : Option Int :=
  match l with
  | [] => none
  | r :: t => some (max x.free (t.foldl (fun a q => min a (x.ready q)) (x.ready r)))

/-- The winner of a slot: the lowest key, then the lowest member, then the first to arrive (R182). -/
def slotWinner : List VbReq → Option VbReq
  | [] => none
  | r :: t => some (t.foldl (fun b q =>
      if vbKey q.item < vbKey b.item ∨ (vbKey q.item = vbKey b.item ∧ q.member < b.member) then q else b) r)

/-- The bus is occupied from S to a new F. -/
def VbSt.occupy (x : VbSt) (start free : Int) : VbSt := { x with free := free, busy := x.busy ++ [(start, free)] }

/-- An error-passive transmitter is suspended (R184). -/
def State.vbSuspend (s : State) (v m : Nat) : State :=
  let x := s.vb v
  let l := x.susp.filter (fun p => p.1 != m)
  s.setVb v { x with susp := if s.memState v m = 1 then l ++ [(m, x.free + 8 * s.vbNbt v)] else l }

/-- The wake rule as it stands (R174). -/
def State.vbRule (s : State) (v : Nat) : List Word :=
  [VBn_WAKE v, VBn_WTIME v, VBn_WUF_ID v, VBn_WUF_MASK v, VBn_WUF_DATA_LO v, VBn_WUF_DATA_HI v].map s.rd

/-- The attempt of a winner that starts at S. -/
def State.vbAttempt (s : State) (v : Nat) (r : VbReq) (start : Int) : State :=
  let nbt := s.vbNbt v
  let dbt := s.vbDbt v
  let m := r.member
  let it := if r.item.fmt = 0 then r.item else { r.item with esi := s.memState v m != 0 }
  let p := bitPlan it
  let (fault, s) := s.inject v m it
  let alone := (s.counting v).all (fun k => k == m)
  let finish_ (t : State) (ok : Bool) : State :=
    State.vbSuspend (t.setVb v { t.vb v with recov := (t.vb v).recov.map (recovStep nbt start (t.vb v).free ok) }) v m
  if fault.isNone && !alone then
    let eof := start + planTime nbt dbt p p.fast.length
    let x := (s.vb v).occupy start (eof + 3 * nbt)
    let t := (s.setVb v { x with reqs := x.reqs.erase r }).vbShow v m
    let t := t.vbDue v { time := eof, kind := 0, item := it, member := m, sof := start, op := 0, pars := [], ident := 0, rule := s.vbRule v }
    finish_ ((t.vbCount v 0).vbCounts v m 0 eof) true
  else
    let k := match fault with | some f => s.injBit f p | none => p.ack
    let kind := match fault with | some f => (match s.fld (INJECTOR f) INJECTOR_KIND with | 4 => 5 | n => n) | none => 4
    let flag_ := start + planTime nbt dbt p (k + 1)
    let t := s.setVb v ((s.vb v).occupy start (flag_ + 17 * nbt))
    let t := (t.vbCount v 3).vbTell v flag_ (t.expanders v) 5 [kind, m, 0, 0] (identWord it) flag_
    let t := t.vbDue v { time := flag_, kind := 1, item := it, member := m, sof := start, op := 0, pars := [], ident := 0, rule := s.vbRule v }
    finish_ (t.vbCounts v m (if fault.isSome then 1 else 2) flag_) false

/-- What follows every slot decision: ARB_LAG, histogram and counter events (R180, R579, R585). -/
def State.vbDecided (s : State) (v close : Nat) : State :=
  let t := (s.obs (v / 256) 0x0A0 1 (tenant := s.busTenant v)).histSample 3 (v / 256) v (s.mer - close) (s.busTenant v)
  if close + usTicks < s.mer then (t.vbCount v 4).vbEvent v VBn_EVT_ARB_LAG else t

/-- A slot of a CAN bus. A request that arrives after the close tick, while the view still stands at that value, closes it. -/
def State.canSlot (s : State) (v : Nat) : State :=
  let parts := s.vbParts v
  match (s.vb v).start parts with
  | none => s
  | some st =>
    if !s.vbReached v st then s
    else
      let close := s.vbTick v (st + s.vbLead v)
      let near := parts.filter (fun r => decide ((s.vb v).ready r ≤ st))
      let close := near.foldl (fun c r => if near.all (fun q => decide (r.arrival ≤ q.arrival)) then max c r.arrival else c) close
      let e := near.filter (fun r => decide (r.arrival ≤ close))
      match slotWinner e with
      | none => s
      | some w =>
        let clash := e.any (fun r => r.member != w.member && vbKey r.item == vbKey w.item)
        let s := s.vbDecided v close
        (if clash then s.vbCount v 5 else s).vbAttempt v w st

/-! ### LIN slots (R192 to R194) -/

/-- Ticks of a header. -/
def State.vlinHeader (s : State) (v : Nat) : Int :=
  let b := s.fld (VBn_LIN v) VBn_LIN_BREAK
  ((if b < 13 ∨ 26 < b then 13 else b) + 21 : Nat) * s.vbNbt v

/-- The update of an identifier that a slot uses: the latest with rho ≤ S that arrived by its close tick. -/
def LinHeld.pick (h : LinHeld) (start : Int) (close : Nat) : Option VbReq :=
  let ok (o : Option VbReq) : Option VbReq := match o with
    | some r => if r.rho ≤ start ∧ r.arrival ≤ close then some r else none
    | none => none
  match ok h.next with
  | some r => some r
  | none => ok h.now

/-- A completed LIN frame. -/
def State.vlinFrame (s : State) (v m : Nat) (it : Item) (start eof : Int) : State :=
  let t := s.setVb v ((s.vb v).occupy start eof)
  (t.vbDue v { time := eof, kind := 0, item := it, member := m, sof := start, op := 0, pars := [], ident := 0, rule := s.vbRule v }).vbCount v 0

/-- The header slot of an identifier at S; `sleep`: the entry's CMD_SLEEP (R192, R194, R198). -/
def State.vlinSlot (s : State) (v id : Nat) (sleep : Bool) (start : Int) : State :=
  let close := s.vbTick v (start + s.vbLead v)
  let nbt := s.vbNbt v
  let hdr := s.vlinHeader v
  let s := (s.vbDecided v close).setVb v { s.vb v with lastHdr := start }
  if sleep then
    s.vlinFrame v 0 { Item.blank with eth := false, fmt := 3, ident := 0x3C, tenant := (s.busTenant v).getD 1024,
                                      src := 4096 + v, data := (0 : Byte) :: List.replicate 7 255 } start
      (start + hdr + 90 * nbt)
  else
    let n := s.vlinLen v id
    if n = 0 then s.setVb v ((s.vb v).occupy start (start + hdr))
    else
      match ((s.vb v).held id).pick start close with
      | some r => s.vlinFrame v r.member r.item start (start + hdr + 10 * (n + 1) * nbt)
      | none =>
        let done := start + hdr + 14 * (n + 1) * nbt
        let x := (s.vb v).occupy start done
        s.setVb v { x with noResp := x.noResp ++ [done] }

/-- A header slot of a LIN bus: of a commander member, or of a schedule entry that waited for F. -/
def State.linSlot (s : State) (v : Nat) : State :=
  let x := s.vb v
  if s.flag (VBn_CFG v) VBn_CFG_LIN_CMDR then
    match x.reqs with
    | [] => s
    | r0 :: t =>
      let r := t.foldl (fun b q => if q.rho < b.rho then q else b) r0
      let st := max x.free r.rho
      if !s.vbReached v st then s
      else
        let u := (s.setVb v { x with reqs := x.reqs.erase r }).vbShow v r.member
        (if r.rho < st then u.vbCount v 10 else u).vlinSlot v (r.item.ident % 64) false st
  else
    match x.hdrs with
    | [] => s
    | (id, sl) :: rest =>
      if !s.vbReached v x.free || s.vbAsleep v then s else (s.setVb v { x with hdrs := rest }).vlinSlot v id sl x.free

/-- SLOT_CLOSE: the next slot of bus v is decided once its close tick is reached (R180, R192). -/
def State.slotCloseOp (s : State) (v : Nat) : State :=
  if !s.vbEn v then s else if s.vbProto v = 3 then s.linSlot v else s.canSlot v

/-- Entries of the schedule. -/
def State.vlinCount (s : State) (v : Nat) : Nat := min 64 (s.fld (VBn_LIN v) VBn_LIN_SCHED_LEN)

/-- VBUS_LIN_SCHEDULE_ENTRY: the next entry falls due, and its slot starts, or waits for F (R151, R192). -/
def State.vlinScheduleOp (s : State) (v : Nat) : State :=
  let x := s.vb v
  if !s.vbEn v || s.vbProto v != 3 || s.flag (VBn_CFG v) VBn_CFG_LIN_CMDR || !s.flag (VBn_LIN v) VBn_LIN_SCHED_EN ||
      s.vbAsleep v || !s.vbReached v x.schedDue || s.vlinCount v == 0 then s
  else
    let k := if x.schedIdx < s.vlinCount v then x.schedIdx else 0
    let a := VLIN_SCHED (s.fld (VBn_LIN v) VBn_LIN_SCHED_BASE + k)
    let id := s.fld a VLIN_SCHED_FRAME_ID
    let sl := s.flag a VLIN_SCHED_CMD_SLEEP
    let y := { x with schedIdx := (k + 1) % s.vlinCount v, schedDue := x.schedDue + (s.rd (a + 4)).toNat }
    if x.schedDue < x.free ∨ !x.hdrs.isEmpty then (s.setVb v { y with hdrs := x.hdrs ++ [(id, sl)] }).vbCount v 10
    else (s.setVb v y).vlinSlot v id sl x.schedDue

/-- VBUS_LIN_NO_RESPONSE: the response timeout of a header ends (R194). -/
def State.vlinNoRespOp (s : State) (v : Nat) : State :=
  match (s.vb v).noResp with
  | [] => s
  | t :: rest => if s.vbReached v t then (s.setVb v { s.vb v with noResp := rest }).vbCount v 11 else s

/-! ### Sleep and wake (R195 to R200) -/

/-- Decide every slot whose close has come, before a write that is to rule only slots that close after it (R174, R190). -/
def State.vbCatchUp (v : Nat) : Nat → State → State
  | 0, s => s
  | n + 1, s =>
    let t := s.slotCloseOp v
    if (t.vb v).free ≠ (s.vb v).free then State.vbCatchUp v n t
    else
      let u := s.vlinScheduleOp v
      if (u.vb v).schedDue ≠ (s.vb v).schedDue then State.vbCatchUp v n u else s

/-- A commit of an injector entry by a writer (R190), for slots that close after it. -/
def State.injCommit (s : State) (who f : Nat) (w : Word) : State :=
  let s := State.vbCatchUp (getF w INJECTOR_BUS) 4096 (State.vbCatchUp (s.fld (INJECTOR f) INJECTOR_BUS) 4096 s)
  (s.commitEntry who ⟨0x00E08000, 16, 64, 1, 1, 4, 0, false⟩ (INJECTOR f) w).setInj f { seen := 0, due := false }

/-- INJECTOR_WRITE: word 0 with the staged words. -/
def State.injWriteOp (s : State) (i : Iface) (f : Nat) (w : Word) : State := s.hostAccess (s.injCommit (ifaceNum i) f w)

/-- Word k of a wake rule, and the filter regime of R160 under it. -/
def ruleWord (r : List Word) (k : Nat) : Word := r.getD k 0
def State.vbFilter (s : State) (r : List Word) : Bool := s.node != .run || getB (ruleWord r 0) VBn_WAKE_TESTMODE

/-- The bus goes to sleep at the later of a bus time and the F of an attempt in progress then; cause of R208. A false-wake
window that runs goes on (R197). -/
def State.vbSleep (s : State) (v cause : Nat) (at_ : Int) : State :=
  if s.vbAsleep v then s
  else
    let x := s.vb v
    let t := max at_ x.free
    let u := s.setVb v { x with slp := t, awake := none, wufErr := 0, wufPrev := none }
    ((u.setFld (VBn_STAT v) VBn_STAT_ASLEEP 1).vbEvent v VBn_EVT_SLEEP).vbTellAll v t (u.expanders v) 6 cause

/-- The bus wakes at a bus time under a wake rule; cause 1 pattern, 2 request (R196, R198, R200). -/
def State.vbWake (s : State) (v cause : Nat) (at_ : Int) (r : List Word) : State :=
  let x := s.vb v
  let counts := cause = 1 ∧ !s.vbFilter r ∧ getF (ruleWord r 0) VBn_WAKE_FW_WIN ≠ 0
  let lin := s.vbProto v = 3 ∧ (cause = 2 ∨ !s.flag (VBn_WAKE v) VBn_WAKE_WMODE)
  let u := s.setVb v { x with
    awake := some at_, fw := if counts then some at_ else none, wufErr := 0, wufPrev := none, last := max x.last at_,
    lastHdr := max x.lastHdr at_, schedIdx := if lin then 0 else x.schedIdx,
    schedDue := if lin then at_ + 100 * msTicks else x.schedDue, hdrs := if lin then [] else x.hdrs }
  let u := ((u.setFld (VBn_STAT v) VBn_STAT_ASLEEP 0).vbEvent v VBn_EVT_WAKE).vbCount v 6
  u.vbTellAll v at_ (u.expanders v) 7 cause

/-- A frame matches the wake frame of a rule (R159, R196). -/
def ruleWuf (r : List Word) (it : Item) : Bool :=
  let id := ruleWord r 2
  let mask := getF (ruleWord r 3) LCn_WUF_MASK_ID_MASK
  it.ide == getB id LCn_WUF_ID_IDE && (it.ident &&& mask) == (getF id LCn_WUF_ID_ID_MASK &&& mask) &&
    (!getB id LCn_WUF_ID_DATA_EN ||
      (!it.rtr && it.data.length == getF (ruleWord r 0) VBn_WAKE_WUF_DLC &&
        leNat (it.data.take 8) &&& ((ruleWord r 4).toNat + 2 ^ 32 * (ruleWord r 5).toNat) != 0))

/-- A start that completes nothing by itself in the filter regime: whether it is the second within SU_FILT. -/
def State.vbPair (s : State) (v : Nat) (st : Int) (r : List Word) : Bool × State :=
  if !s.vbFilter r then (true, s)
  else
    let near := match (s.vb v).wufPrev with
      | some p => decide (st - p ≤ getF (ruleWord r 1) VBn_WTIME_SU_FILT * usTicks)
      | none => false
    (near, s.setVb v { s.vb v with wufPrev := some st })

/-- A frame or errored attempt carried asleep is offered to the wake rule: whether the bus wakes (R196). -/
def State.vbOffer (s : State) (v : Nat) (d : VbDue) : Bool × State :=
  let w := ruleWord d.rule 0
  if !getB w VBn_WAKE_EN || s.flag (VBn_STAT v) VBn_STAT_WAKE_SUPP then (false, s)
  else if !getB w VBn_WAKE_WMODE then (if d.kind = 0 then s.vbPair v d.sof d.rule else (false, s))
  else if d.item.fmt ≠ 0 then (false, s)
  else
    let x := s.vb v
    if d.kind ≠ 0 then (!s.vbFilter d.rule && decide (31 < x.wufErr + 1), s.setVb v { x with wufErr := x.wufErr + 1 })
    else
      let s := s.setVb v { x with wufErr := x.wufErr - 1 }
      if ruleWuf d.rule d.item then s.vbPair v d.sof d.rule else (false, s)

/-- A completed frame makes the wake valid (R197). -/
def State.vbValid (s : State) (v : Nat) (eof : Int) : State :=
  match (s.vb v).fw with
  | none => s
  | some w =>
    if eof ≤ w + s.fld (VBn_WAKE v) VBn_WAKE_FW_WIN * msTicks then
      (s.setVb v { s.vb v with fw := none }).setFld (VBn_STAT v) VBn_STAT_FW_CNT 0
    else s

/-- VBUS_FALSE_WAKE_WINDOW_END: once every frame that ends within the window has been judged (R197). -/
def State.vbFalseWakeOp (s : State) (v : Nat) : State :=
  match (s.vb v).fw with
  | none => s
  | some w =>
    let end_ := w + s.fld (VBn_WAKE v) VBn_WAKE_FW_WIN * msTicks
    if !s.vbEn v || !s.vbReached v end_ || (s.vb v).due.any (fun d => d.kind == 0 && decide (d.time ≤ end_)) then s
    else
      let t := ((s.vbCount v 7).bumpSat (VBn_STAT v) VBn_STAT_FW_CNT).vbEvent v VBn_EVT_FALSE_WAKE
      let thr := t.fld (VBn_WAKE v) VBn_WAKE_FW_THR
      let t := if thr ≠ 0 ∧ t.fld (VBn_STAT v) VBn_STAT_FW_CNT = thr then
          (t.setFld (VBn_STAT v) VBn_STAT_WAKE_SUPP 1).vbEvent v VBn_EVT_SUPP
        else t
      t.vbSleep v 3 end_

/-- A write of VBn_SLEEP (R198). -/
def State.vbSleepWrite (s : State) (i : Iface) (v : Nat) (w : Word) : State :=
  let t := s.typedWrite i (VBn_SLEEP v) w
  if !t.vbEn v then t
  else
    match getF w VBn_SLEEP_REQ with
    | 1 => if t.vbAsleep v then t.vbWake v 2 (t.vbPos v) (t.vbRule v) else t
    | 2 => t.vbSleep v 1 (t.vbPos v)
    | _ => t

def State.vbSleepOp (s : State) (i : Iface) (v : Nat) (w : Word) : State := s.hostAccess (s.vbSleepWrite i v w)

/-- VBUS_IDLE_SLEEP (R198). -/
def State.vbIdleOp (s : State) (v : Nat) : State :=
  let x := s.vb v
  let ms := s.fld (VBn_SLEEP v) VBn_SLEEP_IDLE_SLEEP
  if !s.vbEn v || s.vbAsleep v then s
  else if ms ≠ 0 ∧ s.vbReached v (x.last + ms * msTicks) ∧ x.due.all (fun d => d.kind != 0 || decide (x.last + ms * msTicks < d.time)) then
    s.vbSleep v 2 (s.vbPos v)
  else if s.vbProto v = 3 ∧ s.vbReached v (x.lastHdr + 4000 * msTicks) then s.vbSleep v 4 (s.vbPos v)
  else s

/-- VBUS_MAXAWAKE (R199). -/
def State.vbMaxAwakeOp (s : State) (v : Nat) : State :=
  let m := s.fld (VBn_WTIME v) VBn_WTIME_MAXAWAKE
  match (s.vb v).awake with
  | none => s
  | some w =>
    if m = 0 ∨ !s.vbEn v ∨ !s.vbReached v (w + m * 100 * msTicks) then s
    else
      let t := (s.vbSleep v 5 (w + m * 100 * msTicks)).vbDropReqs v (fun _ => true)
      ((t.vbEvent v VBn_EVT_MAXAWAKE).vbCount v 8).log 199 v

/-- A write of VBn_EVT: a 1 in SUPP also ends suppression and clears FW_CNT (R197). -/
def State.vbEvtWrite (s : State) (i : Iface) (v : Nat) (w : Word) : State :=
  let t := s.typedWrite i (VBn_EVT v) w
  if getB w VBn_EVT_SUPP then (t.setFld (VBn_STAT v) VBn_STAT_WAKE_SUPP 0).setFld (VBn_STAT v) VBn_STAT_FW_CNT 0 else t

def State.vbSuppOp (s : State) (i : Iface) (v : Nat) (w : Word) : State := s.hostAccess (s.vbEvtWrite i v w)

/-! ### ACF and AVTP octets (R203, R204, R206, R207, R209) -/

def quads (n : Nat) : Nat := (n + 3) / 4

/-- The pad octets after n octets. -/
def padOf (n : Nat) : List Byte := List.replicate (4 * quads n - n) 0

def acfHead (ty octets : Nat) : List Byte := natBe 2 (512 * ty + quads octets)

/-- Octet 2 of an ACF CAN or LIN message of n data octets. -/
def acfFlags (n : Nat) (flags : Nat) : Byte := BitVec.ofNat 8 (64 * (4 * quads n - n) + 32 + flags)

/-- An ACF CAN message of a delivered frame. -/
def acfCan (it : Item) (bus : Nat) (sof : Int) : List Byte :=
  let n := it.data.length
  acfHead 1 (16 + n) ++ [acfFlags n (16 * bit it.rtr + 8 * bit it.ide + 4 * bit it.brs + 2 * bit (it.fmt == 1) + bit it.esi),
    BitVec.ofNat 8 bus] ++ natBe 8 (trunc 64 sof) ++ natBe 4 (it.ident % 2 ^ 29) ++ it.data ++ padOf n

/-- An ACF LIN message. -/
def acfLin (it : Item) (bus : Nat) (sof : Int) : List Byte :=
  let n := it.data.length
  acfHead 3 (12 + n) ++ [acfFlags n bus, BitVec.ofNat 8 it.ident] ++ natBe 8 (trunc 64 sof) ++ it.data ++ padOf n

/-- An XL_FRAME message. -/
def acfXl (ctl : Nat) (it : Item) (bus : Nat) (sof : Int) : List Byte :=
  let n := it.data.length
  acfHead ctl (24 + n) ++ [9, BitVec.ofNat 8 bus] ++ natBe 2 (2 ^ 15 * bit it.sec + (n + 4095) % 4096) ++
    [BitVec.ofNat 8 it.sdt, BitVec.ofNat 8 it.vcid] ++ natBe 4 it.af ++ natBe 2 (it.ident % 2048) ++ natBe 2 0 ++
    natBe 8 (trunc 64 sof) ++ it.data ++ padOf n

/-- A control message. -/
def acfCtl (ctl op bus ident : Nat) (tm : Int) (pars : List Nat) : List Byte :=
  natBe 2 (512 * ctl + 5) ++ [BitVec.ofNat 8 op, BitVec.ofNat 8 bus] ++ natBe 4 ident ++ natBe 8 (trunc 64 tm) ++
    pars.map (fun p => BitVec.ofNat 8 p)


/-- Stream identifier words of an attachment: RX at word 1, TX at word 3. -/
def State.attSid (s : State) (a k : Nat) : Nat := (s.rd (ATTACH a + 4 * k)).toNat * 2 ^ 32 + (s.rd (ATTACH a + 4 * k + 4)).toNat
def State.attDa (s : State) (a : Nat) : Nat := (s.rd (ATTACH a + 20)).toNat * 2 ^ 16 + s.fld (ATTACH a + 24) ATTACH_DA_LO

/-- Send one NTSCF frame of messages to an attachment, from bus v and its tenant; where the port has come to another
tenant since, the frame is a tenant violation (R34, R206). DESIGN CHOICE (log entry 135): it leaves from the home panel of
the bus of its first message, where its messages are of buses with several home panels (R23). -/
def State.sendNtscf (s : State) (a v : Nat) (body : List Byte) : State :=
  let n := s.fld (ATTACH a) ATTACH_PORT
  let w := s.rd (ATTACH a + 24)
  let ten := (s.busTenant v).getD 1024
  let q := Sparse.get (fun _ => 0) s.attTx a
  let tag := if getB w ATTACH_TAG then tagOctets (s.portTpid n) (getF w ATTACH_PCP) false (getF w ATTACH_VID) else []
  let data := natBe 6 (s.attDa a) ++ natBe 6 (s.routerMac ((s.portTenant n).getD 1024)) ++ tag ++ natBe 2 0x22F0 ++ [0x82] ++
    natBe 2 (2 ^ 15 + body.length) ++ [BitVec.ofNat 8 q] ++ natBe 8 (s.attSid a 3) ++ body
  let it : Item := { Item.blank with
    data := data, tagged := getB w ATTACH_TAG, pcp := getF w ATTACH_PCP,
    vid := if getB w ATTACH_TAG then getF w ATTACH_VID else s.portPvid n, tenant := ten, stamp := s.mer,
    src := 16384 * (1 + v / 256) + 12288 + a, at_ := some (v / 256) }
  let t : State := { s with attTx := Sparse.set (fun _ => 0) s.attTx a ((q + 1) % 256) }
  if t.portTenant n ≠ some ten then t.dropItem it rTenant
  else match t.ethDest it n with
  | some d => t.deliver it [d]
  | none => t.dropItem it rEgress

/-- A message of a bus to an attachment: its bus time orders it. -/
structure Msg where
  att : Nat
  bus : Nat
  time : Int
  octets : List Byte
  deriving DecidableEq, Repr

def insertMsg (m : Msg) : List Msg → List Msg
  | [] => [m]
  | x :: t => if x.time ≤ m.time then x :: insertMsg m t else m :: x :: t

/-- Pack messages into frames of at most 1,500 octets of AVTP payload, each with the bus of its first message. -/
def packAcf : List Msg → Option (Nat × List Byte) → List (Nat × List Byte)
  | [], cur => cur.toList
  | m :: t, none => packAcf t (some (m.bus, m.octets))
  | m :: t, some (v, b) =>
    if b.length + m.octets.length + 12 ≤ 1500 then packAcf t (some (v, b ++ m.octets))
    else (v, b) :: packAcf t (some (m.bus, m.octets))

/-- Send messages that are due at one tick: to one attachment in order of bus time, those of buses of one tenant
together (R34, R206). -/
def State.sendMsgs (s : State) (l : List Msg) : State :=
  let key (m : Msg) : Nat × Option Nat := (m.att, s.busTenant m.bus)
  ((l.map key).eraseDups).foldl (fun t k =>
    let mine := (l.filter (fun m => key m == k)).foldl (fun acc m => insertMsg m acc) []
    (packAcf mine none).foldl (fun u b => u.sendNtscf k.1 b.1 b.2) t) s

/-! ### Deliveries (R186, R206 to R209) -/

def State.ctlType (s : State) : Nat := s.fld VBUS_GCTRL VBUS_GCTRL_CTLTYPE
def State.busId (s : State) (v m : Nat) : Nat := s.fld (MEMBER v m) MEMBER_BUS_ID

/-- The message that carries a frame to a member; none for an XL frame of more than 2,020 octets. -/
def State.frameMsg (s : State) (v m : Nat) (d : VbDue) : List Msg :=
  if d.item.fmt = 2 ∧ 2020 < d.item.data.length then []
  else [{ att := s.memAtt v m, bus := v, time := d.time,
          octets := if d.item.fmt = 3 then acfLin d.item (s.busId v m) d.sof
            else if d.item.fmt = 2 then acfXl s.ctlType d.item (s.busId v m) d.sof
            else acfCan d.item (s.busId v m) d.sof }]

/-- TX_DONE of a frame to its sender. -/
def State.doneMsg (s : State) (v : Nat) (d : VbDue) : List Msg :=
  if (s.expanders v).contains d.member then
    [{ att := s.memAtt v d.member, bus := v, time := d.time,
       octets := acfCtl s.ctlType 1 (s.busId v d.member) (identWord d.item) d.sof [0, 0, 0, 0] }]
  else []

/-- The frame reaches the bus's routes (R25, R26, R186). -/
def State.toRoutes (s : State) (v : Nat) (d : VbDue) : State :=
  if d.member = 0 ∧ !s.flag (VBn_CFG v) VBn_CFG_SELFRX then s
  else
    let it : Item := { d.item with
      tenant := 1024, src := 4096 + v, stamp := s.vbTick v d.time, reentry := d.item.reentry + 1, member := 0, tau := none,
      queue := none, tsreq := none, handle := none, mirror := none, traced := false, stamps := [], spilled := false,
      colour := 0, setDei := false, extra := [], pcp := 0, vid := 0, tagged := false, tsIn := 0, at_ := none }
    if 9 ≤ it.reentry then s.dropFor ((s.busTenant v).getD 1024) rHop else s.parse (v / 256) it

/-- All deliveries of a frame but the sender's. -/
def State.deliverFrame (s : State) (v : Nat) (d : VbDue) : State × List Msg :=
  let others := (s.expanders v).filter (fun m => !((s.expanders v).contains d.member && s.memAtt v m == s.memAtt v d.member))
  let t := if d.item.fmt = 2 ∧ 2020 < d.item.data.length ∧ !others.isEmpty then s.vbCount v 13 else s
  (t.toRoutes v d, others.flatMap (fun m => s.frameMsg v m d))

/-- A delivered LIN frame 0x3C whose first octet is 0x00 puts the bus to sleep (R198). -/
def State.sleepFrame (s : State) (v : Nat) (d : VbDue) : State :=
  if d.item.fmt = 3 ∧ d.item.ident = 0x3C ∧ d.item.data.length ≠ 0 ∧ oct d.item.data 0 = 0 then s.vbSleep v 4 d.time else s

/-- One thing that is due on bus v, with the messages it sends. -/
def State.vbHappen (s : State) (v : Nat) (d : VbDue) : State × List Msg :=
  if d.kind = 2 then
    (s, [{ att := s.memAtt v d.member, bus := v, time := d.time,
           octets := acfCtl s.ctlType d.op (s.busId v d.member) d.ident d.sof d.pars }])
  else
    let asleep := s.vbAsleep v && decide ((s.vb v).slp ≤ d.sof)
    if d.kind = 1 then
      if asleep then
        let (wakes, t) := s.vbOffer v d
        (if wakes then t.vbWake v 1 d.time d.rule else t, [])
      else (s, [])
    else
      let s := s.capture (4096 + v) d.item (trunc 64 d.sof)
      let s := State.vbValid (s.setVb v { s.vb v with last := max (s.vb v).last d.time }) v d.time
      let done := s.doneMsg v d
      if asleep then
        let (wakes, t) := s.vbOffer v d
        if !wakes then (t, done)
        else
          let t := t.vbWake v 1 d.time d.rule
          if getB (ruleWord d.rule 0) VBn_WAKE_WF_DELIVER then
            let (u, l) := t.deliverFrame v d
            (u.sleepFrame v d, l ++ done)
          else (t, done)
      else
        let (t, l) := s.deliverFrame v d
        (t.sleepFrame v d, l ++ done)

/-- Delivery tick of something due on a bus. -/
def State.dueAt (s : State) (v : Nat) (d : VbDue) : Nat := s.vbTick v (d.time + s.vbLead v)

/-- Everything of bus v due at a tick happens in order of bus time, with what it makes due at that same tick. -/
def State.vbRunN (v tick : Nat) : Nat → State → List Msg → State × List Msg
  | 0, s, l => (s, l)
  | n + 1, s, l =>
    match (s.vb v).due with
    | [] => (s, l)
    | d :: rest =>
      if s.vbReached v d.time ∧ s.dueAt v d ≤ tick then
        let (t, m) := State.vbHappen (s.setVb v { s.vb v with due := rest }) v d
        State.vbRunN v tick n t (l ++ m)
      else (s, l)

/-- The same: each frame makes at most thirty messages due. -/
def State.vbRun (s : State) (v tick : Nat) : State × List Msg :=
  State.vbRunN v tick (64 * (s.vb v).due.length) s []

/-- VBUS_DELIVERY: what is due first on bus v happens, with what is due on the other buses by then; messages due to one
attachment leave together (R186, R206). -/
def State.vbDeliveryOp (s : State) (v : Nat) : State :=
  match (s.vb v).due with
  | [] => s
  | d :: _ =>
    if !s.vbEn v || !s.vbReached v d.time then s
    else
      let tick := s.dueAt v d
      let (t, l) := s.liveBuses.foldl (fun (p : State × List Msg) u =>
        let (t, m) := p.1.vbRun u tick
        (t, p.2 ++ m)) (s, [])
      t.sendMsgs l

/-! ### NTSCF frames and control messages from expanders (R203, R205, R208, R209) -/

/-- The attachment an AVTP frame on a port matches (R203). -/
def State.attachmentOf (s : State) (n : Nat) (it : Item) : Option Nat :=
  let o := it.etherOff + 2
  if it.etype = 0x22F0 ∧ oct it.data o = 0x82 ∧ 128 ≤ oct it.data (o + 1) ∧ o + 12 ≤ it.data.length then
    (List.range 1024).find? (fun a => s.flag (ATTACH a) ATTACH_VALID && s.fld (ATTACH a) ATTACH_PORT == n &&
      s.attSid a 1 == beAt it.data (o + 4) 8)
  else none

/-- Cut a body into its messages; false for one whose length is inconsistent. A length that cannot be followed ends
the frame (R205). -/
def acfSplit : Nat → List Byte → List (Bool × List Byte)
  | 0, _ => []
  | n + 1, l =>
    if l.isEmpty then []
    else
      let k := 4 * (beAt l 0 2 % 512)
      if l.length < 4 ∨ k = 0 ∨ l.length < k then [(false, l)]
      else (true, l.take k) :: acfSplit n (l.drop k)

/-- A message of a frame. -/
inductive AcfMsg where
  | pdu (bus : Nat) (it : Item)
  | ctl (bus op ident : Nat) (all : Bool)
  | bad
  deriving DecidableEq, Repr

/-- Read one whole message (R203 to R205, R207, R209). -/
def acfRead (ctlType : Nat) (m : List Byte) : AcfMsg :=
  let ty := beAt m 0 2 / 512
  let n := m.length
  let f := oct m 2
  let pad := f / 64
  let can (h : Nat) : AcfMsg :=
    if n < h ∨ n - h < pad then .bad
    else
      let eff := f.testBit 3
      let w := beAt m (h - 4) 4
      .pdu (oct m 3 % 32) { Item.blank with
        eth := false, fmt := bit (f.testBit 1), ide := eff, rtr := f.testBit 4, brs := f.testBit 2,
        ident := if eff then w % 2 ^ 29 else w % 2048,
        data := if f.testBit 4 then List.replicate (n - h - pad) 0 else slice m h (n - h - pad) }
  if ty = ctlType then
    match oct m 2 with
    | 2 => if n = 20 then .ctl (oct m 3 % 32) 2 (beAt m 4 4) ((oct m 16).testBit 0) else .bad
    | 8 => if n = 20 then .ctl (oct m 3 % 32) 8 (beAt m 4 4) false else .bad
    | 9 =>
      let len := beAt m 4 2 % 4096 + 1
      if n < 24 ∨ n ≠ 4 * quads (24 + len) ∨ 2020 < len then .bad
      else
        .pdu (oct m 3 % 32) { Item.blank with
          eth := false, fmt := 2, sec := (oct m 4).testBit 7, sdt := oct m 6, vcid := oct m 7, af := beAt m 8 4,
          ident := beAt m 12 2 % 2048, data := slice m 24 len }
    | _ => .bad
  else if ty = 1 then can 16
  else if ty = 2 then can 8
  else if ty = 3 then
    (if n < 12 ∨ n - 12 < pad then .bad
     else .pdu (f % 32) { Item.blank with eth := false, fmt := 3, ident := oct m 3 % 64, data := slice m 12 (n - 12 - pad) })
  else .bad

/-- The members of enabled buses that an attachment and bus identifier name (R205). -/
def State.acfMembers (s : State) (a bus : Nat) : List (Nat × Nat) :=
  s.liveBuses.flatMap (fun v =>
    ((s.expanders v).filter (fun m => s.memAtt v m == a && s.busId v m == bus)).map (fun m => (v, m)))

/-- tau of what an attachment's frame carries for a bus (R178). -/
def State.acfTau (s : State) (v a stamp : Nat) : Nat :=
  s.tenantStamp (s.busTenant v) (trunc 64 ((stamp : Int) - 2 * s.fld (ATTACH a + 28) ATTACH_PATH_DLY))

/-- One message of a frame of a port's tenant (R35, R205). -/
def State.acfTake (s : State) (p a ten : Nat) (frame : Item) (m : List Byte) : State :=
  let to_ (bus : Nat) (f : State → Nat × Nat → State) : State :=
    let l := s.acfMembers a bus
    if l.isEmpty then s.dropFor ten rNoRoute
    else l.foldl (fun t k => if s.busTenant k.1 = some ten then f t k else t.dropFor ten rTenant) s
  match acfRead s.ctlType m with
  | .bad => s.dropFor ten rMalformed
  | .pdu bus it => to_ bus (fun t k =>
      t.parse p { it with tenant := 1024, src := 4096 + k.1, member := k.2, stamp := frame.stamp, at_ := some p,
                          tau := some (s.acfTau k.1 a frame.stamp) })
  | .ctl bus op ident all => to_ bus (fun t k =>
      let tau : Int := s.acfTau k.1 a frame.stamp
      t.setVb k.1 { t.vb k.1 with
        ctl := (t.vb k.1).ctl ++ [{ op := op, member := k.2, ident := ident, all := all, rho := max tau (s.vbPos k.1) }] })

/-- A gap in an attachment's sequence numbers (R205). -/
def State.seqGap (s : State) (a : Nat) : State :=
  let t := s.bumpSat (ATTACH a + 28) ATTACH_SEQ_GAP
  (List.range 4096).foldl (fun u v => if (s.expanders v).any (fun m => s.memAtt v m == a) then u.vbEvent v VBn_EVT_SEQ_GAP else u) t

/-- NTSCF_RECEIVE: the oldest matching frame of panel p is unpacked (R205). -/
def State.ntscfOp (s : State) (p : Nat) : State :=
  match s.ntscfIn.find? (fun x => x.1 == p) with
  | none => s
  | some (_, a, it) =>
    let s : State := { s with ntscfIn := s.ntscfIn.erase (p, a, it) }
    let ten := it.tenant
    let o := it.etherOff + 2
    let len := beAt it.data (o + 1) 2 % 2048
    if oct it.data (o + 1) / 16 % 8 ≠ 0 ∨ it.data.length < o + 12 + len then s.dropFor ten rMalformed
    else
      let q := oct it.data (o + 3)
      let gap := match Sparse.get (fun _ => none) s.attRx a with | some e => e != q | none => false
      let s : State := { s with attRx := Sparse.set (fun _ => none) s.attRx a (some ((q + 1) % 256)) }
      let s := if gap then s.seqGap a else s
      (acfSplit 512 (slice it.data (o + 12) len)).foldl
        (fun t m => if m.1 then t.acfTake p a ten it m.2 else t.dropFor ten rMalformed) s

/-- ABORT: the first one waiting for bus v reaches the home panel (R208). -/
def State.abortOp (s : State) (v : Nat) : State :=
  match (s.vb v).ctl.find? (fun c => c.op == 2) with
  | none => s
  | some c =>
    let s := s.setVb v { s.vb v with ctl := (s.vb v).ctl.erase c }
    if !s.vbEn v then s
    else
      let hit (r : VbReq) : Bool := r.member == c.member && (c.all || identWord r.item == c.ident)
      let n := ((s.vb v).reqs.filter hit).length
      (s.vbDropReqs v hit).vbTell v (s.vbPos v) [c.member] 3 [n, 0, 0, 0] c.ident (s.vbPos v)

/-- WAKE_REQ: the first one waiting for bus v, once the position has reached its rho (R196, R208). -/
def State.wakeReqOp (s : State) (v : Nat) : State :=
  match (s.vb v).ctl.find? (fun c => c.op == 8) with
  | none => s
  | some c =>
    if !s.vbEn v ∨ !s.vbReached v c.rho then s
    else
      let s := s.setVb v { s.vb v with ctl := (s.vb v).ctl.erase c }
      if s.vbAsleep v && s.flag (VBn_WAKE v) VBn_WAKE_EN && !s.flag (VBn_WAKE v) VBn_WAKE_WMODE &&
          !s.flag (VBn_STAT v) VBn_STAT_WAKE_SUPP && decide ((s.vb v).slp ≤ c.rho) then
        let (wakes, t) := s.vbPair v c.rho (s.vbRule v)
        if wakes then t.vbWake v 1 c.rho (s.vbRule v) else t
      else s

/-! ### Bus load (R185) -/

def State.winTicks (s : State) (v : Nat) : Int := (max 1 (s.fld (VBn_LOAD v) VBn_LOAD_WIN) : Nat) * msTicks

/-- LOAD_WINDOW_END. -/
def State.loadWindowOp (s : State) (v : Nat) : State :=
  let x := s.vb v
  let e := x.winStart + x.winLen
  if !s.vbEn v || !s.vbReached v e then s
  else
    let used := x.busy.foldl (fun (a : Int) p => a + max 0 (min p.2 e - max p.1 x.winStart)) 0
    (s.setVb v { x with winStart := e, winLen := s.winTicks v, busy := x.busy.filter (fun p => decide (e < p.2)) }).setFld
      (VBn_LOAD v) VBn_LOAD_LOAD (min 65535 (used * 65536 / x.winLen).toNat)

/-! ### Configuration, enabling and stopping (R174, R201) -/

def State.vbRuns (s : State) (v : Nat) : Bool := s.vbEn v || !s.flag (VBn_STAT v) VBn_STAT_STOPPED

/-- Two valid expander members name the same attachment and bus identifier. -/
def State.memTwice (s : State) (v : Nat) : Bool :=
  let l := (s.expanders v).map (fun m => (s.memAtt v m, s.busId v m))
  l.eraseDups.length != l.length

/-- NBT and DBT of a protocol lie within R173. -/
def nbtOk (proto nbt : Nat) : Bool :=
  if proto = 3 then decide (100000 ≤ nbt) && decide (nbt ≤ 2000000) else decide (2000 ≤ nbt) && decide (nbt ≤ 200000)
def dbtOk (proto nbt dbt : Nat) : Bool :=
  proto == 0 || proto == 3 || (decide ((if proto = 1 then 250 else 200) ≤ dbt) && decide (dbt ≤ nbt))

/-- Enabling is accepted under a configuration word (R174). -/
def State.vbMayEnable (s : State) (v : Nat) (w : Word) : Bool :=
  let proto := getF w VBn_CFG_PROTO
  let nbt := s.fld (VBn_NBT v) VBn_NBT_NBT
  let dbt := s.fld (VBn_DBT v) VBn_DBT_DBT
  let lead := s.fld (VBn_LEAD v) VBn_LEAD_LEAD
  let len := s.vlinCount v
  nbtOk proto nbt && dbtOk proto nbt dbt &&
    decide (10000 ≤ lead) && decide (lead ≤ 1000000) && getB w VBn_CFG_BOUND && !s.memTwice v &&
    (s.expanders v).all (fun m =>
      let a := s.memAtt v m
      s.flag (ATTACH a) ATTACH_VALID &&
        (match s.portTenant (s.fld (ATTACH a) ATTACH_PORT) with | some t => t == getF w VBn_CFG_TENANT | none => true)) &&
    !(proto == 3 && s.flag (VBn_WAKE v) VBn_WAKE_WMODE) &&
    !(getB w VBn_CFG_LIN_CMDR && !s.memValid v (getF w VBn_CFG_CMDR_MEMBER)) &&
    !(s.flag (VBn_LIN v) VBn_LIN_SCHED_EN &&
      (len == 0 || decide (16384 < s.fld (VBn_LIN v) VBn_LIN_SCHED_BASE + len)))

/-- The bus starts (R180, R185, R195): awake, idle, every member error-active. -/
def State.vbStart (s : State) (v : Nat) : State :=
  let f := s.vbPos v
  let t := s.setVb v { VbSt.reset with free := f, last := f, lastHdr := f, schedDue := f, winStart := f, winLen := s.winTicks v }
  let t := (List.range 16).foldl (fun u m => u.wr (memErr v m) 0) t
  ([VBn_STAT_STOPPED, VBn_STAT_ASLEEP, VBn_STAT_PENDING]).foldl (fun u k => u.setFld (VBn_STAT v) k 0) t

/-- The bus stops at once (R201). -/
def State.vbHalt (s : State) (v : Nat) : State :=
  let t := (s.setFld (VBn_CFG v) VBn_CFG_EN 0).vbDropReqs v (fun _ => true)
  let frames := (t.vb v).due.filter (fun d => d.kind == 0)
  let t := frames.foldl (fun u _ => (u.dropFor ((s.busTenant v).getD 1024) rEgress).vbCount v 12) t
  let (f, t) := t.takeFree
  let l := (s.expanders v).map (fun m =>
    ({ att := s.memAtt v m, bus := v, time := s.vbView v,
       octets := acfCtl s.ctlType 10 (s.busId v m) (f % 2 ^ 32) (s.vbView v) [0, 0, 0, 0] } : Msg))
  State.sendMsgs (t.setVb v VbSt.reset) l

/-- A write of VBn_CFG: whether it is taken, and its effect (R115, R174). -/
def State.vbCfg (s : State) (i : Iface) (v : Nat) (w : Word) : Bool × State :=
  let old := s.rd (VBn_CFG v)
  let t := s.typedWrite i (VBn_CFG v) w
  let new := t.rd (VBn_CFG v)
  let err (u : State) : State := u.vbEvent v VBn_EVT_CFG_ERR
  if !s.vbRuns v then
    if !getB w VBn_CFG_EN then (true, t)
    else if s.mayRun && s.vbMayEnable v new then (true, t.vbStart v)
    else (false, err s)
  else if !s.vbEn v then (if new = old then (true, s) else (false, err s))
  else
    let same := setF new VBn_CFG_EN 1 = old
    let t := if same then s else err s
    if getB w VBn_CFG_EN then (decide same, t) else (decide same, t.vbHalt v)

/-- VBUS_ENABLE and VBUS_STOP. -/
def State.vbEnableOp (s : State) (i : Iface) (v : Nat) (w : Word) : State :=
  if !s.vbEn v && getB w VBn_CFG_EN then s.hostAccess (s.vbCfg i v w).2 else s

def State.vbStopOp (s : State) (i : Iface) (v : Nat) (w : Word) : State :=
  if s.vbEn v && !getB w VBn_CFG_EN then s.hostAccess (s.vbCfg i v w).2 else s

/-- VBUS_STOPPED: the stop is complete (R201). -/
def State.vbStoppedOp (s : State) (v : Nat) : State :=
  if s.vbEn v then s else s.setFld (VBn_STAT v) VBn_STAT_STOPPED 1

/-- A write of a register or member or length-table word that keeps its value while the bus runs (R174). -/
def State.vbHeldWrite (s : State) (i : Iface) (v a : Nat) (w : Word) : Bool × State :=
  let t := s.typedWrite i a w
  if s.vbRuns v then (if t.rd a = s.rd a then (true, s) else (false, s.vbEvent v VBn_EVT_CFG_ERR)) else (true, t)

/-- A write of VBn_WTIME or of the wake frame takes effect for slots that close after it (R174). -/
def State.vbRuleWrite (s : State) (i : Iface) (v a : Nat) (w : Word) : State := (State.vbCatchUp v 4096 s).typedWrite i a w

/-- A write of VBn_WAKE, for slots that close after it: WMODE keeps its value while the bus runs (R174). -/
def State.vbWakeWrite (s : State) (i : Iface) (v : Nat) (w : Word) : Bool × State :=
  let s := State.vbCatchUp v 4096 s
  let t := s.typedWrite i (VBn_WAKE v) w
  if s.vbRuns v ∧ t.flag (VBn_WAKE v) VBn_WAKE_WMODE ≠ s.flag (VBn_WAKE v) VBn_WAKE_WMODE then
    (false, (t.setFlag (VBn_WAKE v) VBn_WAKE_WMODE (s.flag (VBn_WAKE v) VBn_WAKE_WMODE)).vbEvent v VBn_EVT_CFG_ERR)
  else (true, t)

/-- The enabled buses with a member that names an attachment. -/
def State.attBuses (s : State) (a : Nat) : List Nat :=
  s.liveBuses.filter (fun v => (s.expanders v).any (fun m => s.memAtt v m == a))

/-- A commit of an attachment entry: ignored while an enabled bus has a member on it (R174). -/
def State.attCommit (s : State) (who a : Nat) (w : Word) : Bool × State :=
  let l := s.attBuses a
  if l.isEmpty then (true, s.commitEntry who ⟨0x00E00000, 32, 1024, 1, 1, 8, 0, false⟩ (ATTACH a) w)
  else (false, l.foldl (fun t v => t.vbEvent v VBn_EVT_CFG_ERR) s)

/-! ### Meanings -/

/-- VBUS_ENABLE, R174: A write enabling a virtual bus applies its configuration or refuses it. -/
def execVbusEnable (i : Iface) (v : Nat) (w : Word) (s : State) : Host.Outcome State Fault Refusal := finish s (s.vbEnableOp i v w)

/-- VBUS_STOP, R201: EN 0 stops the bus and discards its pending requests and undelivered frames. -/
def execVbusStop (i : Iface) (v : Nat) (w : Word) (s : State) : Host.Outcome State Fault Refusal := finish s (s.vbStopOp i v w)

/-- VBUS_STOPPED, R201: STOPPED is set once the stop is complete. -/
def execVbusStopped (v : Nat) (s : State) : Host.Outcome State Fault Refusal := finish s (s.vbStoppedOp v)

/-- VBUS_REQUEST, R179: A request reaches the arbiter, is checked, and gets its effective time. -/
def execVbusRequest (v : Nat) (s : State) : Host.Outcome State Fault Refusal := finish s (s.vbRequestOp v)

/-- SLOT_CLOSE, R180: At the close tick of a slot the arbiter decides the winner and models the attempt. -/
def execSlotClose (v : Nat) (s : State) : Host.Outcome State Fault Refusal := finish s (s.slotCloseOp v)

/-- VBUS_DELIVERY, R186: A completed frame is delivered to routes, attachments and the sender. -/
def execVbusDelivery (v : Nat) (s : State) : Host.Outcome State Fault Refusal := finish s (s.vbDeliveryOp v)

/-- MEMBER_RECOVER, R189: A write of a member's RECOVER bit starts its bus-off recovery. -/
def execMemberRecover (i : Iface) (v : Nat) (m : Nat) (w : Word) (s : State) : Host.Outcome State Fault Refusal := finish s (s.memRecoverOp i v m w)

/-- MEMBER_RECOVERY_COMPLETE, R189: After 128 occurrences the member is error-active again. -/
def execMemberRecoveryComplete (v : Nat) (m : Nat) (s : State) : Host.Outcome State Fault Refusal := finish s (s.memDoneOp v m)

/-- INJECTOR_WRITE, R190: A write of a fault-injector entry takes effect for later slots. -/
def execInjectorWrite (i : Iface) (f : Nat) (w : Word) (s : State) : Host.Outcome State Fault Refusal := finish s (s.injWriteOp i f w)

/-- VBUS_LIN_SCHEDULE_ENTRY, R192: A schedule entry of the Zalore commander falls due as a header slot. -/
def execVbusLinScheduleEntry (v : Nat) (s : State) : Host.Outcome State Fault Refusal := finish s (s.vlinScheduleOp v)

/-- VBUS_LIN_NO_RESPONSE, R194: A header without a held response occupies the bus for the timeout and counts LIN_NORESP. -/
def execVbusLinNoResponse (v : Nat) (s : State) : Host.Outcome State Fault Refusal := finish s (s.vlinNoRespOp v)

/-- VBUS_FALSE_WAKE_WINDOW_END, R197: A bus wake not valid by the end of FW_WIN is false and the bus sleeps. -/
def execVbusFalseWakeWindowEnd (v : Nat) (s : State) : Host.Outcome State Fault Refusal := finish s (s.vbFalseWakeOp v)

/-- VBUS_SLEEP_REQUEST, R198: A write of VBn_SLEEP.REQ puts the bus to sleep or wakes it locally. -/
def execVbusSleepRequest (i : Iface) (v : Nat) (w : Word) (s : State) : Host.Outcome State Fault Refusal := finish s (s.vbSleepOp i v w)

/-- VBUS_IDLE_SLEEP, R198: IDLE_SLEEP ms, or 4 s on LIN, without traffic sends the bus to sleep. -/
def execVbusIdleSleep (v : Nat) (s : State) : Host.Outcome State Fault Refusal := finish s (s.vbIdleOp v)

/-- VBUS_MAXAWAKE, R199: The bus awake timer reaches MAXAWAKE and forces sleep. -/
def execVbusMaxawake (v : Nat) (s : State) : Host.Outcome State Fault Refusal := finish s (s.vbMaxAwakeOp v)

/-- VBUS_SUPP_CLEAR, R197: A write of 1 to VBn_EVT.SUPP ends suppression and clears FW_CNT. -/
def execVbusSuppClear (i : Iface) (v : Nat) (w : Word) (s : State) : Host.Outcome State Fault Refusal := finish s (s.vbSuppOp i v w)

/-- LOAD_WINDOW_END, R185: The end of a load window updates VBn_LOAD.LOAD. -/
def execLoadWindowEnd (v : Nat) (s : State) : Host.Outcome State Fault Refusal := finish s (s.loadWindowOp v)

/-- NTSCF_RECEIVE, R205: An NTSCF frame matching an attachment is unpacked into requests. -/
def execNtscfReceive (p : Nat) (s : State) : Host.Outcome State Fault Refusal := finish s (s.ntscfOp p)

/-- ABORT, R208: An expander ABORT removes pending requests of its member and answers ABORT_ACK. -/
def execAbortReq (v : Nat) (s : State) : Host.Outcome State Fault Refusal := finish s (s.abortOp v)

/-- WAKE_REQ, R208: An expander WAKE_REQ is offered to the bus wake rule. -/
def execWakeReq (v : Nat) (s : State) : Host.Outcome State Fault Refusal := finish s (s.wakeReqOp v)


end Sys2Proof.Machine
end

