-- ==== Sys2Proof/Machine/Tables.lean ====
section
/-! DEFINITION. Maintenance of the tables: station table, LPM trie, ownership, commits, fences and sequence recovery:
spec/07, spec/08 R270 to R274, spec/13 R427 to R429. -/

namespace Sys2Proof.Machine

/-! ### Station table (R234 to R236) -/

def State.staAt (s : State) (k : Nat) : Option StaEnt := Sparse.get (fun _ => none) s.sta k
def State.setSta (s : State) (k : Nat) (e : Option StaEnt) : State := { s with sta := Sparse.set (fun _ => none) s.sta k e }

/-- The nine octets of a key. -/
def staKey (ten vid mac : Nat) : List Byte := natBe 9 (ten * 2 ^ 60 + vid * 2 ^ 48 + mac)

/-- The two candidate buckets (R234). -/
def staBuckets (ten vid mac : Nat) : Nat × Nat :=
  (crc32 0x82F63B78 (staKey ten vid mac) % 2 ^ 19, crc32 0xEDB88320 (staKey ten vid mac) % 2 ^ 19)

/-- Coarse stamp units (R236). -/
def State.coarse (s : State) : Nat := s.mer / 2 ^ 20 % 65536

/-- AGE_LIMIT as R215 takes it. -/
def State.ageLimit (s : State) (ten : Nat) : Nat := min 61439 (max 1 (s.fld (TENANT ten) TENANT_AGE_LIMIT))

def State.staAged (s : State) (e : StaEnt) : Bool :=
  !e.static && decide (s.ageLimit e.ten < (s.coarse + 65536 - e.stamp) % 65536)

/-- Ways 0 to 3 of a bucket. -/
def staWays (b : Nat) : List Nat := [4 * b, 4 * b + 1, 4 * b + 2, 4 * b + 3]

/-- The place of an entry with a key, among those that satisfy p. -/
def State.staWhere (s : State) (ten vid mac : Nat) (p : StaEnt → Bool) : Option Nat :=
  let (b0, b1) := staBuckets ten vid mac
  (staWays b0 ++ staWays b1).find? (fun k => match s.staAt k with
    | some e => e.ten == ten && e.vid == vid && e.mac == mac && p e
    | none => false)

/-- A lookup: a live entry (R232, R236). -/
def State.staFind (s : State) (ten vid mac : Nat) : Option (Nat × StaEnt) :=
  match s.staWhere ten vid mac (fun e => !s.staAged e) with
  | some k => (s.staAt k).map (fun e => (k, e))
  | none => none

def State.staCount (s : State) (ten : Nat) : Nat := s.fld (TENANT ten + 8) TENANT_STA_COUNT
def State.setStaCount (s : State) (ten n : Nat) : State := s.setFld (TENANT ten + 8) TENANT_STA_COUNT n
def State.tblCount (s : State) (c : Nat) : State := s.count (CORE_TBLCNTc c)
def State.tblEvent (s : State) (f : Fld) : State := s.setFld CORE_TBLEVT f 1

/-- Remove the entry at a place. -/
def State.staDrop (s : State) (k : Nat) : State :=
  match s.staAt k with
  | some e => (s.setSta k none).setStaCount e.ten (s.staCount e.ten - 1)
  | none => s

/-- A way that is free or aged. -/
def State.staOpen (s : State) (k : Nat) : Bool := match s.staAt k with | some e => s.staAged e | none => true

/-- Insert a new entry (R234): whether it was made. -/
def State.staInsert (s : State) (e : StaEnt) : Bool × State :=
  let (b0, b1) := staBuckets e.ten e.vid e.mac
  let live (b : Nat) : Nat := ((staWays b).filter (fun k => !s.staOpen k)).length
  if s.fld (TENANT e.ten + 4) TENANT_STA_QUOTA ≤ s.staCount e.ten then
    (false, (s.tblCount 5).tblEvent CORE_TBLEVT_QUOTA)
  else
    match (staWays (if live b1 < live b0 then b1 else b0)).find? s.staOpen with
    | none => (false, (s.tblCount 4).tblEvent CORE_TBLEVT_STA_FULL)
    | some k =>
      let t := (s.staDrop k).setSta k (some e)
      (true, t.setStaCount e.ten (t.staCount e.ten + 1))

/-- The first local member port of a valid group, in ascending port order (R235, R270). -/
def State.lagLowest (s : State) (a : Nat) : Option Nat :=
  ((List.range (s.lagSize a)).filterMap (fun i => match s.lagMember a i with | (false, n) => some n | (true, _) => none)).foldl
    (fun b n => match b with | some m => some (min m n) | none => some n) none

/-- The destination number that stands for an ingress or port: its group's lowest member (R235). -/
def State.ethNumber (s : State) (e : Nat) : Nat :=
  if e < 1024 then (match s.lagOf e with | some a => (s.lagLowest a).getD e | none => e) else e

/-- The group a destination number is a member of, as a STATION record names it (R417). -/
def State.lagOfDest (s : State) (e : Nat) : Option Nat := if e < 1024 then s.lagOf e else none

/-- A learned or refreshed entry is mirrored (R417). -/
def State.staMirror (s : State) (e : StaEnt) : State :=
  match s.lagOfDest e.dest with
  | some a => if e.static then s else s.mirror 1 [e.ten, e.vid, e.mac, a, e.stamp]
  | none => s

/-- A source address is learned; `slow` where the rate of R233 is exceeded. -/
def State.learn (s : State) (ten vid mac dest : Nat) (slow : Bool) : State :=
  match s.staFind ten vid mac with
  | some (k, e) =>
    if e.dest = dest ∧ !e.mcast then
      let n := { e with stamp := s.coarse }
      let t := s.setSta k (some n)
      if e.stamp = s.coarse then t else t.staMirror n
    else if e.static then s.tblCount 2
    else
      let n := { e with dest := dest, mcast := false, stamp := s.coarse }
      ((s.setSta k (some n)).tblCount 1).staMirror n
  | none =>
    if slow then (s.tblCount 3).tblEvent CORE_TBLEVT_LEARN_DROP
    else
      let n : StaEnt := { static := false, drop := false, ten := ten, vid := vid, mac := mac, stamp := s.coarse, mcast := false, dest := dest }
      let (ok, t) := s.staInsert n
      if ok then (t.tblCount 0).staMirror n else t

/-- WALKER_VISIT: the walker visits a bucket (R236). -/
def State.walkerOp (s : State) (b : Nat) : State :=
  if !s.flag CORE_TBLCTRL CORE_TBLCTRL_WALK_EN then s
  else (staWays b).foldl (fun t k => match t.staAt k with
    | some e => if t.staAged e then (t.staDrop k).tblCount 6 else t
    | none => t) s

/-- The four words of an entry (R235). -/
def StaEnt.words (e : StaEnt) : List Word :=
  [BitVec.ofNat 32 (2 ^ 31 + 2 ^ 30 * bit e.static + 2 ^ 29 * bit e.drop + 4096 * e.ten + e.vid),
   BitVec.ofNat 32 (e.mac / 65536), BitVec.ofNat 32 (65536 * (e.mac % 65536) + e.stamp),
   BitVec.ofNat 32 (2 ^ 29 * bit e.mcast + e.dest)]

/-- The entry that four words spell. -/
def staOfWords (l : List Word) : StaEnt :=
  let w (k : Nat) : Nat := (l.getD k 0).toNat
  { static := (w 0).testBit 30, drop := (w 0).testBit 29, ten := bits (w 0) 21 12, vid := bits (w 0) 11 0,
    mac := w 1 * 65536 + bits (w 2) 31 16, stamp := bits (w 2) 15 0, mcast := (w 3).testBit 29, dest := bits (w 3) 15 0 }

/-- A station command on data words (of two entries with a key, it takes the one that is not aged): its RESULT, the words a read returns, and its effect. -/
def State.staRun (s : State) (op : Nat) (all : Bool) (data : List Word) : Nat × Option (List Word) × State :=
  let e := staOfWords data
  let at_ := match s.staWhere e.ten e.vid e.mac (fun y => !s.staAged y) with
    | some k => some k
    | none => s.staWhere e.ten e.vid e.mac (fun _ => true)
  let flush (p : StaEnt → Bool) : State := s.sta.foldl (fun t x => match x.2 with
    | some y => if p y && (all || !y.static) then t.staDrop x.1 else t
    | none => t) s
  match op with
  | 1 => (match at_ with
    | some k => (match s.staAt k with | some y => (0, some y.words, s) | none => (1, none, s))
    | none => (1, none, s))
  | 2 => (match at_ with
    | some k => (0, none, s.setSta k (some e))
    | none =>
      let (ok, t) := s.staInsert e
      (if ok then 0 else 2, none, t))
  | 3 => (match at_ with | some k => (0, none, s.staDrop k) | none => (1, none, s))
  | 4 => (0, none, flush (fun y => y.ten == e.ten))
  | _ => (0, none, flush (fun y => y.ten == e.ten && y.dest == e.dest))

/-- A write of CORE_STACMD: OP 1 to 5 starts a command. -/
def State.staWrite (s : State) (w : Word) : State :=
  let op := getF w CORE_STACMD_OP
  if s.flag CORE_STACMD CORE_STACMD_BUSY || op == 0 || decide (5 < op) then s
  else State.setFld { s with staCmd := some (w, (List.range 4).map (fun k => s.rd (CORE_STADATAk k))) } CORE_STACMD CORE_STACMD_BUSY 1

/-- A write of CORE_STACMD with one OP. -/
def State.staStart (s : State) (op : Nat) (w : Word) : State :=
  if getF w CORE_STACMD_OP = op then s.hostAccess (s.staWrite w) else s

def State.staReadOp (s : State) (_i : Iface) (w : Word) : State := s.staStart 1 w
def State.staInsertOp (s : State) (_i : Iface) (w : Word) : State := s.staStart 2 w
def State.staDeleteOp (s : State) (_i : Iface) (w : Word) : State := s.staStart 3 w
def State.staFlushOp (s : State) (_i : Iface) (w : Word) : State := s.staStart 4 w
def State.staFlushDestOp (s : State) (_i : Iface) (w : Word) : State := s.staStart 5 w

/-- STA_CMD_COMPLETE: the command takes effect, and BUSY clears with its RESULT. -/
def State.staDoneOp (s : State) : State :=
  match s.staCmd with
  | none => s
  | some (w, data) =>
    let (r, l, t) := State.staRun { s with staCmd := none } (getF w CORE_STACMD_OP) (getB w CORE_STACMD_STATIC_ONLY) data
    let t : State := match l with
      | some ws => (List.range 4).foldl (fun (u : State) k => u.wr (CORE_STADATAk k) (ws.getD k 0)) t
      | none => t
    (t.setFld CORE_STACMD CORE_STACMD_BUSY 0).setFld CORE_STACMD CORE_STACMD_RESULT r

/-! ### The LPM trie (R229 to R231, R243 to R246) -/

/-- Key bits of a family. -/
def lpmBits (fam : Nat) : Nat := match fam with | 0 => 32 | 1 => 64 | _ => 29

/-- A key cut to a prefix length. -/
def lpmCut (fam len key : Nat) : Nat :=
  let n := lpmBits fam
  key % 2 ^ n / 2 ^ (n - len) * 2 ^ (n - len)

/-- The longest prefix of an owner that matches a key. -/
def State.lpmFind (s : State) (fam owner key : Nat) : Option LpmEnt :=
  s.lpm.foldl (fun b e =>
    if e.fam = fam ∧ e.owner = owner ∧ lpmCut fam e.len key = e.key then
      match b with
      | some x => if x.len < e.len then some e else b
      | none => some e
    else b) none

def State.lpmExact (s : State) (fam owner len key : Nat) : Option LpmEnt :=
  s.lpm.find? (fun e => e.fam == fam && e.owner == owner && e.len == len && e.key == lpmCut fam len key)

/-- LPM units of a prefix (R245). -/
def lpmUnits (fam : Nat) : Nat := match fam with | 0 => 1 | 1 => 4 | _ => 0

def State.lpmTotal (s : State) : Nat := s.lpm.foldl (fun a e => a + lpmUnits e.fam) 0

/-- A page is assigned to a tenant (R216). -/
def State.pageOwned (s : State) (p t : Nat) : Bool :=
  p < 4096 && s.flag (PAGE_OWNER p) PAGE_OWNER_ASSIGNED && s.fld (PAGE_OWNER p) PAGE_OWNER_TENANT == t

/-- A command is refused whatever the table holds (R230, R243, CORE_LPMCMD). -/
def State.lpmRefused (s : State) (op fam owner len leaf : Nat) : Bool :=
  fam == 3 || decide (lpmBits fam < len) || decide ((if fam = 2 then 5184 else 1024) ≤ owner) ||
    (op == 1 && fam == 2 && !s.pageOwned (leaf / 256) (s.fld (PAGEBASE owner) PAGEBASE_TENANT))

/-- Show the units held. -/
def State.lpmShow (s : State) (fam owner : Nat) : State :=
  let t := (s.setFld CORE_LPMUSE CORE_LPMUSE_UNITS s.lpmTotal).setFld CORE_LPMUSEX CORE_LPMUSEX_PREFIXES
    (s.lpm.filter (fun e => e.fam == 2)).length
  if fam = 2 then t
  else t.setFld (TENANT owner + 28) TENANT_LPM_USE
    ((s.lpm.filter (fun e => e.owner == owner)).foldl (fun a e => a + lpmUnits e.fam) 0)

/-- An LPM command: its RESULT, the entry a lookup or read returns, and its effect (R245, R246). -/
def State.lpmRun (s : State) (op fam owner len key : Nat) (inter : Bool) (leaf : Nat) : Nat × Option LpmEnt × State :=
  if s.lpmRefused op fam owner len leaf then (3, none, s)
  else
    let old := s.lpmExact fam owner len key
    match op with
    | 1 =>
      let e : LpmEnt := { fam := fam, owner := owner, len := len, key := lpmCut fam len key, inter := inter, leaf := leaf }
      (match old with
       | some x => (0, none, { s with lpm := s.lpm.map (fun y => if y = x then e else y) })
       | none =>
         let full := if fam = 2 then decide (65536 ≤ (s.lpm.filter (fun e => e.fam == 2)).length)
           else decide (1048576 < s.lpmTotal + lpmUnits fam) ||
             decide (s.fld (TENANT owner + 24) TENANT_LPM_QUOTA < s.fld (TENANT owner + 28) TENANT_LPM_USE + lpmUnits fam)
         if full then (2, none, s.tblEvent CORE_TBLEVT_LPM_FULL)
         else (0, none, State.lpmShow { s with lpm := s.lpm ++ [e] } fam owner))
    | 2 => (match old with
      | some x => (0, none, State.lpmShow { s with lpm := s.lpm.filter (fun y => y != x) } fam owner)
      | none => (1, none, s))
    | 3 => (match s.lpmFind fam owner key with | some x => (0, some x, s) | none => (1, none, s))
    | _ => (match old with | some x => (0, some x, s) | none => (1, none, s))

/-- The key that KEY0 and KEY1 hold for a family. -/
def lpmKeyOf (fam : Nat) (k0 k1 : Word) : Nat := if fam = 1 then k1.toNat * 2 ^ 32 + k0.toNat else k0.toNat

/-- A write of CORE_LPMCMD. -/
def State.lpmWrite (s : State) (i : Iface) (w : Word) : State :=
  if s.flag CORE_LPMCMD CORE_LPMCMD_BUSY then s
  else
    let t := s.typedWrite i CORE_LPMCMD w
    let op := getF w CORE_LPMCMD_OP
    if op = 0 ∨ 4 < op then t
    else State.setFld { t with lpmCmd := some (w, [t.rd CORE_LPMKEY0, t.rd CORE_LPMKEY1, t.rd CORE_LPMLEAF]) } CORE_LPMCMD CORE_LPMCMD_BUSY 1

def State.lpmStart (s : State) (i : Iface) (op : Nat) (w : Word) : State :=
  if getF w CORE_LPMCMD_OP = op then s.hostAccess (s.lpmWrite i w) else s

def State.lpmAddOp (s : State) (i : Iface) (w : Word) : State := s.lpmStart i 1 w
def State.lpmDeleteOp (s : State) (i : Iface) (w : Word) : State := s.lpmStart i 2 w
def State.lpmLookupOp (s : State) (i : Iface) (w : Word) : State := s.lpmStart i 3 w
def State.lpmExactOp (s : State) (i : Iface) (w : Word) : State := s.lpmStart i 4 w

/-- LPM_CMD_COMPLETE: the command takes effect at once and BUSY clears (R246). -/
def State.lpmDoneOp (s : State) : State :=
  match s.lpmCmd with
  | none => s
  | some (w, l) =>
    let fam := getF w CORE_LPMCMD_FAMILY
    let leaf := l.getD 2 0
    let op := getF w CORE_LPMCMD_OP
    let (r, e, t) := State.lpmRun { s with lpmCmd := none } op fam (getF w CORE_LPMCMD_OWNER)
      (if op = 3 then 0 else getF w CORE_LPMCMD_LEN) (lpmKeyOf fam (l.getD 0 0) (l.getD 1 0)) (getB leaf CORE_LPMLEAF_INTER)
      (getF leaf CORE_LPMLEAF_LEAF)
    let t := match e with
      | some x => ((t.setFld CORE_LPMCMD CORE_LPMCMD_LEN x.len).setFlag CORE_LPMLEAF CORE_LPMLEAF_INTER x.inter).setFld CORE_LPMLEAF
          CORE_LPMLEAF_LEAF x.leaf
      | none => t
    (t.setFld CORE_LPMCMD CORE_LPMCMD_BUSY 0).setFld CORE_LPMCMD CORE_LPMCMD_RESULT r

/-! ### Ownership, page bases and tenant words (R216, R221, R272, R306) -/

/-- The block is in the filter list of some tenant. -/
def State.blockUsed (s : State) (k : Nat) : Bool :=
  (List.range 1024).any (fun t =>
    let b := s.fld (TENANT t + 12) TENANT_FLT_BASE
    decide (b ≤ k) && decide (k < b + s.fld (TENANT t + 12) TENANT_FLT_LEN))

/-- The page is inside a valid page base. -/
def State.pageUsed (s : State) (p : Nat) : Bool :=
  s.regs.any (fun r => decide (0x1800000 ≤ r.1) && decide (r.1 < 0x1800000 + 4 * 5184) && getB r.2 PAGEBASE_VALID &&
    decide (getF r.2 PAGEBASE_PAGE_BASE ≤ p) && decide (p ≤ getF r.2 PAGEBASE_PAGE_BASE + getF r.2 PAGEBASE_NPAGES))

/-- Which ownership table an address belongs to: 1 pages, 2 filter blocks, 3 policer blocks, 4 freshness blocks. -/
def ownerTable (a : Nat) : Nat :=
  if 0x1810000 ≤ a ∧ a < 0x1814000 then 1
  else if 0x1818000 ≤ a ∧ a < 0x181C000 then 2
  else if 0x181C000 ≤ a ∧ a < 0x1820000 then 3
  else if 0xA300000 ≤ a ∧ a < 0xA301000 then 4
  else 0

/-- The entry is in use (R216, R272, R306). -/
def State.ownerBusy (s : State) (a : Nat) : Bool :=
  match ownerTable a with
  | 1 => s.pageUsed ((a - 0x1810000) / 4)
  | 2 => s.blockUsed ((a - 0x1818000) / 4)
  | 3 => (List.range 64).any (fun k => s.flag (POLICER (64 * ((a - 0x181C000) / 4) + k)) POLICER_VALID)
  | _ => (List.range 64).any (fun k => s.flag (FRESH (64 * ((a - 0xA300000) / 4) + k) + 8) FRESH_VALID)

/-- A write of an ownership entry: whether it is taken, and its effect. -/
def State.ownerWrite (s : State) (i : Iface) (a : Nat) (w : Word) : Bool × State :=
  if s.flag CORE_TBLCTRL CORE_TBLCTRL_LOCK then
    (false, if s.rd a = writeWord false ((regDesc? a).getD ⟨a, 4, 1, 1, 1, []⟩) (s.rd a) w then s
      else s.hostErr SYS_HOSTERR_LOCKED i a)
  else if s.ownerBusy a then
    (false, if ownerTable a = 4 then s.setFld PANEL_STEVT PANEL_STEVT_OWN_ERR 1 else s.tblEvent CORE_TBLEVT_OWN_ERR)
  else (true, s.typedWrite i a w)

/-- OWNERSHIP_WRITE. -/
def State.ownerWriteOp (s : State) (i : Iface) (a : Nat) (w : Word) : State :=
  if ownerTable a = 0 then s else s.hostAccess (s.ownerWrite i a w).2

/-- A write of a page base (R221). -/
def State.pageBaseWrite (s : State) (i : Iface) (a : Nat) (w : Word) : Bool × State :=
  let b := getF w PAGEBASE_PAGE_BASE
  if getB w PAGEBASE_VALID && !((List.range (getF w PAGEBASE_NPAGES + 1)).all (fun k => s.pageOwned (b + k) (getF w PAGEBASE_TENANT))) then
    (false, s.tblEvent CORE_TBLEVT_OWN_ERR)
  else (true, s.typedWrite i a w)

/-- A write of a tenant word (R215, R216). -/
def State.tenantWrite (s : State) (i : Iface) (a : Nat) (w : Word) : Bool × State :=
  let t := (a - 0x1820000) / 32
  let n := getF w TENANT_FLT_LEN
  let b := getF w TENANT_FLT_BASE
  if (a - 0x1820000) % 32 = 12 ∧ (64 < n ∨ !(List.range n).all (fun k =>
      decide (b + k < 4096) && s.flag (BLOCK_OWNER (b + k)) BLOCK_OWNER_ASSIGNED && s.fld (BLOCK_OWNER (b + k)) BLOCK_OWNER_TENANT == t)) then
    (false, s.tblEvent CORE_TBLEVT_OWN_ERR)
  else (true, s.typedWrite i a w)

/-! ### Commits (R249, R251) -/

/-- A commit of a link-aggregation entry (R270, R271): the active set and the slots follow from the new members. -/
def State.lagCommit (s : State) (who a : Nat) (w : Word) : Bool × State :=
  let base := LAG a
  let t := s.commitEntry who ⟨0x05100000, 512, 256, 1, 1, 40, 0, false⟩ base w
  let n := getF w LAG_NMEM
  let ports := (List.range n).map (fun i => t.lagMember a i)
  let locals := (ports.filter (fun p => !p.1)).map (fun p => p.2)
  let others := (s.lagGroups.filter (fun b => b != a)).flatMap (fun b => (List.range (s.lagSize b)).map (fun i => s.lagMember b i))
  if n = 0 ∨ 64 < n ∨ (getB w LAG_VALID &&
      (locals.any (fun p => s.portTenant p != some (getF w LAG_TENANT)) || ports.any (fun p => others.contains p) ||
        ports.eraseDups.length != ports.length)) then (false, s)
  else if getB w LAG_VALID then (true, t.lagRecast s a)
  else
    let t := t.setLagActive a 0
    (true, if s.lagMask a 4 = 0 then t else t.setFld CORE_EVT CORE_EVT_LAG_CHG 1)

def State.recov (s : State) (h : Nat) : RecovSt := Sparse.get (fun _ => RecovSt.reset) s.frers h
def State.setRecov (s : State) (h : Nat) (r : RecovSt) : State :=
  { s with frers := Sparse.set (fun _ => RecovSt.reset) s.frers h r }

/-- What a commit of a table's entry brings besides its words (R239, R274, R427, R579, R585). -/
def State.afterCommit (s : State) (base : Nat) : State :=
  if 0x02C00000 ≤ base ∧ base < 0x02D00000 then
    let h := (base - 0x02C00000) / 16
    let t := (s.wr (base + 8) 0).wr (base + 12) 0
    let t : State := { t with frSeq := t.frSeq.filter (fun x => x.1 != h) }
    t.setRecov h RecovSt.reset
  else if 0x04000000 ≤ base ∧ base < 0x04800000 then
    let k := (base - 0x04000000) / 32
    let p : PolSt := { tc := s.fld (base + 12) POLICER_CBS * 2 ^ 24, tp := s.fld (base + 16) POLICER_PBS * 2 ^ 24, last := s.mer }
    { s with pols := Sparse.set (fun _ => PolSt.reset) s.pols k p }
  else if 0x06200000 ≤ base ∧ base < 0x06220000 then
    let c := (base - 0x06200000) / 32
    let t : State := { s with ctrInt := s.ctrInt.filter (fun x => x.1 != c) }
    (t.wr (base + 16) 0).wr (base + 20) 0
  else if 0x06240000 ≤ base ∧ base < 0x06240400 then
    let h := (base - 0x06240000) / 16
    { s with hist := s.hist.filter (fun p => p.1 / 32 != h) }
  else s

/-- A write of the commit word of a table entry that has no row of its own: whether it is taken, and its effect. -/
def State.tableCommit (s : State) (who a : Nat) (w : Word) : Bool × State :=
  match stagedEntry? a with
  | none => (true, s)
  | some (d, base, k) =>
    if k ≠ d.commit then (true, s)
    else if d.base = 0x00B80000 then s.eqCommit who ((base - 0x00B80000) / 8) w
    else if d.base = 0x00B82000 then s.eqCommit who (1024 + (base - 0x00B82000) / 8) w
    else if d.base = 0x00B82080 then s.eqCommit who (1040 + (base - 0x00B82080) / 8) w
    else if d.base = 0x00E00000 then s.attCommit who ((base - 0x00E00000) / 32) w
    else if d.base = 0x00E08000 then (true, s.injCommit who ((base - 0x00E08000) / 16) w)
    else if d.base = 0x05100000 then s.lagCommit who ((base - 0x05100000) / 512) w
    else if d.base = 0x07000000 then s.bobCommit who ((base - 0x07000000) / 128) w
    else if d.base = 0x0A000000 ∨ d.base = 0x0A100000 ∨ d.base = 0x0A200000 then (true, s)
    else (true, (s.commitEntry who d base w).afterCommit base)

/-- TABLE_COMMIT. Program, stitch queue and freshness entries have rows of their own. -/
def State.tableCommitOp (s : State) (i : Iface) (a : Nat) (w : Word) : State := s.hostAccess (s.tableCommit (ifaceNum i) a w).2

/-! ### Fences (R250) -/

/-- A write of CORE_TBLFENCE: REQ marks every running work item and held cipher request, and clears DONE. A lookup is one
step of the model, so none is under way. -/
def State.fenceWrite (s : State) (w : Word) : State :=
  if getB w CORE_TBLFENCE_REQ then
    let mark (x : EngSt) : EngSt := { x with run := x.run.map (fun r => { r with fenced := true }) }
    let t : State := { s with engs := s.engs.map (fun p => (p.1, mark p.2)),
                              lanes := s.lanes.map (fun p => (p.1, { p.2 with reqs := p.2.reqs.map (fun q => { q with fenced := true }) })) }
    t.setFld CORE_TBLFENCE CORE_TBLFENCE_DONE 0
  else s

/-- Something that began before the latest REQ has not completed. -/
def State.fenceWaits (s : State) : Bool :=
  s.engs.any (fun p => match p.2.run with | some r => r.fenced | none => false) ||
    s.lanes.any (fun p => p.2.reqs.any (fun q => q.fenced))

def State.fenceOp (s : State) (_i : Iface) (w : Word) : State := s.hostAccess (s.fenceWrite w)

/-- The fence is complete. -/
def State.fenceDone (s : State) : State := s.setFld CORE_TBLFENCE CORE_TBLFENCE_DONE 1

/-! ### Sequence generation and recovery (R427 to R429) -/

/-- HIST_LEN as R239 takes it. -/
def State.histLen (s : State) (h : Nat) : Nat :=
  let n := s.fld (HANDLE h + 4) HANDLE_HIST_LEN
  if n < 2 ∨ 32 < n then 32 else n

def State.resetTicks (s : State) (h : Nat) : Nat := max 1 (s.fld (HANDLE h + 4) HANDLE_RESET_TO) * 100 * usTicks

/-- One step of the recovery algorithm on a sequence number: whether the item passes, and the history it leaves
(the vector or match algorithm of IEEE 802.1CB). `wide`: an item outside the window is accepted (R429). -/
def recovStepOf (match_ : Bool) (len : Nat) (wide : Bool) (r : RecovSt) (q : Nat) : Bool × RecovSt :=
  let d := sext 16 ((q + 65536 - r.num) % 65536)
  if r.takeAny then (true, { r with takeAny := false, num := q, hist := 1 })
  else if match_ then (if d = 0 then (false, r) else (true, { r with num := q }))
  else if (len : Int) ≤ d ∨ d ≤ -(len : Int) then (if wide then (true, { r with num := q, hist := 1 }) else (false, r))
  else if d ≤ 0 then
    (if r.hist.testBit (-d).toNat then (false, r) else (true, { r with hist := r.hist ||| 2 ^ (-d).toNat }))
  else (true, { r with num := q, hist := (r.hist * 2 ^ d.toNat + 1) % 2 ^ len })

/-- Ticks between FRER records of one handle: HSYNC, 0 as 1 (R417). -/
def State.hsync (s : State) : Nat := max 1 (s.fld SEAM_CTRL SEAM_CTRL_HSYNC) * usTicks

/-- Histories that changed within HSYNC of their last record are sent at its end (R417). -/
def State.frerTick (s : State) : State :=
  if !s.flag SEAM_STAT SEAM_STAT_UP then s
  else
    (s.frers.filter (fun p => p.2.late && decide (p.2.quiet ≤ s.mer))).foldl (fun t p =>
      (t.setRecov p.1 { p.2 with late := false, quiet := s.mer + s.hsync }).mirror 6 [p.1, p.2.num, bit p.2.takeAny, p.2.hist]) s

/-- Recovery of an item of handle h: whether it passes. -/
def State.recover (s : State) (h q : Nat) : Bool × State :=
  let r := s.recov h
  let (ok, n) := recovStepOf (s.flag (HANDLE h) HANDLE_ALG) (s.histLen h) (decide (s.mer < r.open_)) r q
  if ok then
    let tell := s.flag SEAM_STAT SEAM_STAT_UP && decide (r.quiet ≤ s.mer)
    let n := { n with due := some (s.mer + s.resetTicks h), late := !tell,
                      quiet := if tell then s.mer + s.hsync else r.quiet }
    let t := (s.setRecov h n).count (HANDLE h + 12)
    (true, if tell then t.mirror 6 [h, n.num, bit n.takeAny, n.hist] else t)
  else (false, s.count (HANDLE h + 8))

/-- RECOVERY_RESET_TIMEOUT: the reset timer of a handle has run out (R428). -/
def State.recovTimeoutOp (s : State) (h : Nat) : State :=
  let r := s.recov h
  match r.due with
  | some t => if t ≤ s.mer then s.setRecov h { RecovSt.reset with quiet := r.quiet, open_ := r.open_, late := true } else s
  | none => s

/-! ### Meanings -/

/-- TABLE_STAGE_WRITE, R249: A write of a non-zero word of a multi-word entry goes to the interface's staging copy. -/
def execTableStageWrite (i : Iface) (a : Nat) (w : Word) (s : State) : Host.Outcome State Fault Refusal := finish s (s.tableStageOp i a w)

/-- TABLE_COMMIT, R249: A write of word 0 commits a table entry with its staged words, or refuses it. -/
def execTableCommit (i : Iface) (a : Nat) (w : Word) (s : State) : Host.Outcome State Fault Refusal := finish s (s.tableCommitOp i a w)

/-- OWNERSHIP_WRITE, R216: A write of an ownership entry is applied or refused with OWN_ERR. -/
def execOwnershipWrite (i : Iface) (a : Nat) (w : Word) (s : State) : Host.Outcome State Fault Refusal := finish s (s.ownerWriteOp i a w)

/-- WALKER_VISIT, R236: The station walker visits a bucket and removes aged entries. -/
def execWalkerVisit (b : Nat) (s : State) : Host.Outcome State Fault Refusal := finish s (s.walkerOp b)

/-- STA_READ, R234: CORE_STACMD read by key fills the station data registers. -/
def execStaRead (i : Iface) (w : Word) (s : State) : Host.Outcome State Fault Refusal := finish s (s.staReadOp i w)

/-- STA_INSERT, R234: CORE_STACMD insert or replace adds a station entry. -/
def execStaInsert (i : Iface) (w : Word) (s : State) : Host.Outcome State Fault Refusal := finish s (s.staInsertOp i w)

/-- STA_DELETE, R234: CORE_STACMD delete removes a station entry. -/
def execStaDelete (i : Iface) (w : Word) (s : State) : Host.Outcome State Fault Refusal := finish s (s.staDeleteOp i w)

/-- STA_FLUSH_TENANT, R234: CORE_STACMD flush removes the tenant's entries. -/
def execStaFlushTenant (i : Iface) (w : Word) (s : State) : Host.Outcome State Fault Refusal := finish s (s.staFlushOp i w)

/-- STA_FLUSH_TENANT_DEST, R234: CORE_STACMD flush removes the tenant's entries with one DEST. -/
def execStaFlushTenantDest (i : Iface) (w : Word) (s : State) : Host.Outcome State Fault Refusal := finish s (s.staFlushDestOp i w)

/-- STA_CMD_COMPLETE, R234: A station command completes and BUSY clears with its RESULT. -/
def execStaCmdComplete (s : State) : Host.Outcome State Fault Refusal := finish s s.staDoneOp

/-- LPM_ADD, R246: CORE_LPMCMD add or replace installs a prefix. -/
def execLpmAdd (i : Iface) (w : Word) (s : State) : Host.Outcome State Fault Refusal := finish s (s.lpmAddOp i w)

/-- LPM_DELETE, R246: CORE_LPMCMD delete removes a prefix. -/
def execLpmDelete (i : Iface) (w : Word) (s : State) : Host.Outcome State Fault Refusal := finish s (s.lpmDeleteOp i w)

/-- LPM_LOOKUP, R246: CORE_LPMCMD longest-match lookup returns a leaf. -/
def execLpmLookup (i : Iface) (w : Word) (s : State) : Host.Outcome State Fault Refusal := finish s (s.lpmLookupOp i w)

/-- LPM_EXACT_READ, R246: CORE_LPMCMD exact read returns a prefix's leaf. -/
def execLpmExactRead (i : Iface) (w : Word) (s : State) : Host.Outcome State Fault Refusal := finish s (s.lpmExactOp i w)

/-- LPM_CMD_COMPLETE, R246: An LPM command completes atomically and BUSY clears. -/
def execLpmCmdComplete (s : State) : Host.Outcome State Fault Refusal := finish s s.lpmDoneOp

/-- FENCE_REQUEST, R250: A write of CORE_TBLFENCE.REQ clears DONE and starts a fence. -/
def execFenceRequest (i : Iface) (w : Word) (s : State) : Host.Outcome State Fault Refusal := finish s (s.fenceOp i w)

/-- RECOVERY_RESET_TIMEOUT, R428: The sequence-recovery reset timer of a handle runs out after RESET_TO and resets its recovery history. -/
def execRecoveryResetTimeout (h : Nat) (s : State) : Host.Outcome State Fault Refusal := finish s (s.recovTimeoutOp h)


end Sys2Proof.Machine
end

