-- ==== Sys2Proof/Machine/Lookup.lean ====
section
/-! DEFINITION. One item's way through the parser, the filter stage, the table search, stream identification and
policing: spec/01 R24 to R36, spec/04 R122, spec/07 R217 to R248, spec/08 R266, spec/13 R427, R428. -/

namespace Sys2Proof.Machine

/-! ### What the parser reads from an Ethernet frame (R218, R266) -/

/-- The IP and layer-4 fields of a frame; all 0 where it has none. -/
structure L3 where
  v4 : Bool
  v6 : Bool
  dscp : Nat
  proto : Nat
  src : Nat
  dst : Nat
  /-- a fragment that is not the first -/
  frag : Bool
  sport : Nat
  dport : Nat
  flow : Nat
  deriving DecidableEq, Repr

/-- TCP, UDP or SCTP. -/
def hasPorts (proto : Nat) : Bool := proto == 6 || proto == 17 || proto == 132

/-- The fields of R218 and R266 of a frame. -/
def Item.l3 (it : Item) : L3 :=
  let o := it.etherOff + 2
  let at_ (k n : Nat) : Nat := beAt it.data (o + k) n
  if it.etype = 0x0800 then
    let frag := at_ 6 2 % 8192 != 0
    let h := 4 * (at_ 0 1 % 16)
    let ports := hasPorts (at_ 9 1) && !frag
    { v4 := true, v6 := false, dscp := at_ 1 1 / 4, proto := at_ 9 1, src := at_ 12 4, dst := at_ 16 4, frag := frag,
      sport := if ports then at_ h 2 else 0, dport := if ports then at_ (h + 2) 2 else 0, flow := 0 }
  else if it.etype = 0x86DD then
    let nh := at_ 6 1
    let ports := hasPorts nh
    { v4 := false, v6 := true, dscp := at_ 0 2 / 64 % 64, proto := nh, src := at_ 8 16, dst := at_ 24 16,
      frag := nh == 44 && at_ 42 2 / 8 != 0, sport := if ports then at_ 40 2 else 0, dport := if ports then at_ 42 2 else 0,
      flow := at_ 0 4 % 2 ^ 20 }
  else { v4 := false, v6 := false, dscp := 0, proto := 0, src := 0, dst := 0, frag := false, sport := 0, dport := 0, flow := 0 }

/-- Values put together, each in its width, the first most significant. -/
def concatBits (l : List (Nat × Nat)) : Nat := l.foldl (fun a x => a * 2 ^ x.1 + x.2 % 2 ^ x.1) 0

/-- The source of an item in a filter key: for an injected frame the port it counts as received on. -/
def Item.form (it : Item) : Nat := if !it.eth then 2 else if it.etype = 0x86DD then 1 else 0

/-- The 256-bit filter key (R218). -/
def Item.filterKey (it : Item) : Nat :=
  let src := (14, it.src)
  if !it.eth then
    concatBits ([(2, 0), src, (2, it.fmt), (1, bit it.ide), (1, bit it.rtr), (29, it.ident), (12, it.data.length)] ++
      (if it.fmt = 2 then [(8, it.sdt), (8, it.vcid), (32, it.af)] else [(48, 0)]) ++ (List.range 8).map (fun k => (8, oct it.data k)) ++ [(83, 0)])
  else
    let l := it.l3
    if l.v6 then
      concatBits [(2, 0), src, (12, it.vid), (3, it.pcp), (6, l.dscp), (128, l.dst), (64, l.src / 2 ^ 64), (8, l.proto),
        (16, l.dport), (1, bit l.frag), (1, 0), (1, bit it.tagged)]
    else
      concatBits [(2, 0), src, (12, it.vid), (3, it.pcp), (6, l.dscp), (48, it.da), (48, it.sa), (16, it.etype), (8, l.proto),
        (32, l.src), (32, l.dst), (16, l.sport), (16, l.dport), (1, bit l.frag), (1, bit l.v4), (1, bit it.tagged)]

/-- H of an Ethernet frame under a hash profile (R266, R267); `handle`: the stream handle the filter stage assigned. -/
def State.hashEth (s : State) (it : Item) (prof handle : Nat) : Nat :=
  let sel := s.fld (CORE_HSELk prof) CORE_HSELk_SEL
  let l := it.l3
  let f (b n v : Nat) : List Byte := natBe n (if sel.testBit b then v else 0)
  hashOf (s.hashSeed prof) (hashHead it.tenant it.src ++ f 0 2 (it.vid % 4096) ++ f 1 1 it.pcp ++ f 2 6 it.da ++ f 3 6 it.sa ++
    f 4 2 it.etype ++ f 5 16 l.src ++ f 6 16 l.dst ++ f 7 1 l.proto ++ f 8 2 l.sport ++ f 8 2 l.dport ++ f 9 3 l.flow ++
    f 10 2 handle ++ [0])

/-- The hash profile of an item's ingress. -/
def State.hashProfile (s : State) (it : Item) : Nat :=
  if it.src < 1024 ∧ it.member = 0 then s.fld (PORTWORD it.src) PORTWORD_HPROF else 0

/-! ### Tags at ingress (R122) -/

/-- TPID and tag word of an ingress; injected frames and frames from nowhere take that of PORT. -/
def State.ingressTag (s : State) (src : Nat) : Nat × Word :=
  if src / 4096 = 3 then (s.pcTpid (src % 4096), s.rd (PCm_TAG (src % 4096))) else (s.portTpid (src % 4096), s.rd (PORT_TAGn (src % 4096)))

/-- A VID as it is assigned: 0 and 4,095 of PVID act as 1. -/
def pvidOf (v : Nat) : Nat := if v = 0 ∨ v = 4095 then 1 else v

/-- The item with VID, PCP and DEI assigned, and whether ING_MODE admits it. -/
def State.tagIn (s : State) (it : Item) : Item × Bool :=
  let (tpid, w) := s.ingressTag it.src
  let mode := getF w PORT_TAGn_ING_MODE
  let pvid := pvidOf (getF w PORT_TAGn_PVID)
  match outerTag [tpid] it.data with
  | some (p, d, v) =>
    let t := { it with tagged := true, pcp := p, dei := d }
    if v = 0 then ({ t with vid := pvid }, mode != 1) else ({ t with vid := v }, mode != 2)
  | none => ({ it with tagged := false, pcp := if it.member = 0 then getF w PORT_TAGn_DEF_PCP else 0, vid := pvid }, mode != 1)

/-! ### The filter stage (R217 to R220) -/

/-- Words k to k + 7 of a rule as a number, word k least significant. -/
def State.ruleBits (s : State) (r k : Nat) : Nat :=
  (List.range 8).foldl (fun a i => a + (s.rd (RULE r (k + i))).toNat * 2 ^ (32 * i)) 0

/-- Rule r matches a key (R217). -/
def State.ruleHits (s : State) (r form key : Nat) : Bool :=
  let w := s.rd (RULE r 16)
  getB w RULE_VALID && getF w RULE_FORM == form && (s.ruleBits r 0 ^^^ key) &&& s.ruleBits r 8 == 0

/-- The first rule of the tenant's list that matches. -/
def State.filterRule (s : State) (it : Item) : Option Nat :=
  let w := s.rd (TENANT it.tenant + 12)
  (List.range (16 * getF w TENANT_FLT_LEN)).find? (fun i => s.ruleHits (16 * getF w TENANT_FLT_BASE + i) it.form it.filterKey) |>.map
    (fun i => 16 * getF w TENANT_FLT_BASE + i)

/-- What the filter stage decides: the action (0 permit, 1 deny, 2 punt, 3 copy, 4 redirect), the rule, the redirect
port, the policer and the stream handle. -/
structure Verdict where
  act : Nat
  rule : Nat
  port : Nat
  pol : Option Nat
  stream : Option Nat
  deriving DecidableEq, Repr

/-- The filter stage: the item as the winning rule leaves it. -/
def State.filter (s : State) (it : Item) : Item × Verdict × State :=
  match s.filterRule it with
  | none =>
    (it, { act := bit (s.flag (TENANT it.tenant) TENANT_DENY_DEF), rule := 0, port := 0, pol := none, stream := none }, s)
  | some r =>
    let w := s.rd (RULE r 16)
    let w1 := s.rd (RULE r 17)
    let w2 := s.rd (RULE r 18)
    let act := getF w RULE_ACT
    let it := if getB w RULE_SET_PCP then { it with pcp := getF w RULE_PCP } else it
    let it := if getB w RULE_MIRROR then { it with mirror := some (r + 1) } else it
    let it := if getB w2 RULE_SET_Q then { it with queue := some (getF w2 RULE_QUEUE) } else it
    (it, { act := if 4 < act then 1 else act, rule := r, port := getF w2 RULE_REDIR_PORT,
           pol := if getB w RULE_SET_POL then some (getF w RULE_POLICER) else none,
           stream := if getB w1 RULE_SET_STREAM then some (getF w1 RULE_STREAM) else none },
     s.count64 (RULE_HITS r))

/-! ### Table words that a lookup reads (R568, R571, R572) -/

/-- The checkers see the table words of a lookup: address and octets of each. -/
def State.tableSeen (s : State) (l : List (Nat × Nat)) : State := l.foldl (fun t x => t.memRead 3 x.1 x.2) s

/-- One of them is poison-tagged. -/
def State.tableBad (s : State) (l : List (Nat × Nat)) : Bool := l.any (fun x => (s.memPoison 3 x.1 x.2).isSome)

/-- What the filter stage reads: the tenant's words, the VID's, and the rules up to the one that matches. -/
def State.filterWords (s : State) (it : Item) : List (Nat × Nat) :=
  let w := s.rd (TENANT it.tenant + 12)
  let base := 16 * getF w TENANT_FLT_BASE
  let n := match s.filterRule it with | some r => r - base + 1 | none => 16 * getF w TENANT_FLT_LEN
  (TENANT it.tenant, 24) :: (if it.eth then [(VLAN it.vid, 4)] else []) ++ (List.range n).map (fun i => (RULE (base + i) 0, 76))

/-! ### Where the table search sends an item -/

/-- One delivery that a table search gives: to Ethernet destinations, a multicast group (`vlan`: an Ethernet lookup's),
one queue, a punt queue with its cause, or a stitch program with its descriptor and kind (R24, R226, R240, R487). -/
inductive Send where
  | eth (it : Item) (es : List Nat)
  | group (it : Item) (g : Nat)
  | one (it : Item) (d : Dest)
  | punt (it : Item) (q why : Nat)
  | work (it : Item) (prog desc kind : Nat)
  deriving DecidableEq, Repr

/-- The punt queue of the item's tenant. -/
def State.puntQueue (s : State) (it : Item) : Nat := s.fld (TENANT it.tenant + 20) TENANT_PUNT_Q

/-- The destination is inside a VID's member set, as far as it is a destination of this Zalore (R237, R420). -/
def State.destInVlan (s : State) (vid e : Nat) : Bool :=
  if e < 1040 then s.vlanMember vid e
  else if e < 2048 then false
  else match s.lagLowest (e - 2048) with | some n => s.vlanMember vid n | none => true

/-- The tenant of a destination number, a whole aggregation group included. -/
def State.destTenant (s : State) (e : Nat) : Option Nat :=
  if 2048 ≤ e ∧ e < 2304 then (if s.lagValid (e - 2048) then some (s.fld (LAG (e - 2048)) LAG_TENANT) else none) else s.ethTenant e

/-- A destination that cannot be named: reserved, or a group that is not valid. -/
def State.destVoid (s : State) (e : Nat) : Bool :=
  if e < 1040 then false else if e < 2048 ∨ 2304 ≤ e then true else !s.lagValid (e - 2048)

/-- The item came in at destination e (R232). -/
def State.isIngress (s : State) (it : Item) (e : Nat) : Bool :=
  match ethOfSrc it.src with
  | some n => e == n || e == s.ethNumber n || (decide (2048 ≤ e) && decide (n < 1024) && s.lagOf n == some (e - 2048))
  | none => false

/-- Flood to the VID's members of the tenant but the ingress; an aggregation group gets one copy (R232, R270). -/
def State.flood (s : State) (it : Item) : List Nat :=
  let own := (List.range 1040).filter (fun e => s.vlanMember it.vid e && s.ethTenant e == some it.tenant && !s.isIngress it (s.ethNumber e) &&
    ethOfSrc it.src != some e)
  own.foldl (fun l e => if l.any (fun x => s.ethNumber x == s.ethNumber e) then l else l ++ [e]) []

/-- The station search (R232). -/
def State.stationSearch (s : State) (it : Item) : List Send × State :=
  match s.staFind it.tenant it.vid it.da with
  | some (_, e) =>
    if e.drop then ([], s.dropItem it rNoRoute)
    else if e.mcast then ([.group it e.dest], s)
    else if s.isIngress it e.dest || s.destVoid e.dest then ([], s.dropItem it rNoRoute)
    else if s.destTenant e.dest ≠ some it.tenant then ([], s.dropItem it rTenant)
    else if !s.destInVlan it.vid e.dest then ([], s.dropItem it rNoRoute)
    else ([.eth it [e.dest]], s)
  | none =>
    if s.flag (TENANT it.tenant) TENANT_FLOOD ∨ it.da = 2 ^ 48 - 1 then
      let es := s.flood it
      if es.isEmpty then ([], s.dropItem it rNoRoute) else ([.eth it es], s.tblCount 7)
    else ([], s.dropItem it rNoRoute)

/-! ### Routing (R242 to R248) -/

/-- Sum of the 16-bit words of octets, with end-around carry. -/
def onesSum (l : List Byte) : Nat :=
  let n := (List.range (l.length / 2)).foldl (fun a k => a + beAt l (2 * k) 2) 0
  let n := n % 65536 + n / 65536
  n % 65536 + n / 65536

/-- The IP header is one that R242 lets pass. -/
def Item.ipFormed (it : Item) : Bool :=
  let p := it.data.drop (it.etherOff + 2)
  if it.etype = 0x0800 then
    let h := 4 * (oct p 0 % 16)
    oct p 0 / 16 == 4 && decide (20 ≤ h) && decide (h ≤ p.length) && onesSum (p.take h) == 65535
  else oct p 0 / 16 == 6 && decide (40 ≤ p.length)

/-- TTL or hop limit. -/
def Item.ttl (it : Item) : Nat := oct it.data (it.etherOff + 2 + (if it.etype = 0x0800 then 8 else 7))

/-- A forwarded packet: TTL less 1, IPv4 checksum, addresses (R244). -/
def Item.forwarded (it : Item) (da sa : Nat) : Item :=
  let p := it.data.drop (it.etherOff + 2)
  let p := if it.etype = 0x0800 then
      let h := 4 * (oct p 0 % 16)
      let q := setAt p 8 (BitVec.ofNat 8 (it.ttl - 1))
      let z := setAt (setAt q 10 0) 11 0
      z.take 10 ++ natBe 2 (65535 - onesSum (z.take h)) ++ z.drop 12
    else setAt p 7 (BitVec.ofNat 8 (it.ttl - 1))
  { it with data := natBe 6 da ++ natBe 6 sa ++ slice it.data 12 (it.etherOff - 10) ++ p }

/-- The next hop of a leaf (R244). -/
def State.nextHop (s : State) (it : Item) (e : LpmEnt) : List Send × State :=
  let x := NEXTHOP (e.leaf % 65536)
  let w := s.rd x
  let own := s.fld (x + 12) NEXTHOP_TENANT
  let bad := s.tableBad [(x, 16)]
  let s := s.tableSeen [(x, 16)]
  if bad then ([], s.dropItem it rNoRoute)
  else if !getB w NEXTHOP_VALID then ([], s.dropItem it rNoRoute)
  else if own ≠ it.tenant ∧ !e.inter then ([], s.dropItem it rTenant)
  else if getB w NEXTHOP_PUNT then ([.punt it (s.puntQueue it) 4], s)
  else if getB w NEXTHOP_DROP then ([], s.dropItem it rNoRoute)
  else
    let da := (s.rd (x + 4)).toNat * 65536 + s.fld (x + 8) NEXTHOP_DA_LO
    let out := { it.forwarded da (s.routerMac own) with vid := getF w NEXTHOP_VID }
    let d := getF w NEXTHOP_DEST
    if getB w NEXTHOP_MCAST then ([.group out d], s)
    else if s.destVoid d then ([], s.dropItem it rNoRoute)
    else if s.destTenant d ≠ some it.tenant ∧ !(e.inter && s.destTenant d == some own) then ([], s.dropItem it rTenant)
    else if !s.destInVlan out.vid d then ([], s.dropItem it rNoRoute)
    else ([.eth out [d]], s)

/-- A frame to its tenant's router MAC address (R242, R248). -/
def State.routeSearch (s : State) (it : Item) : List Send × State :=
  if it.etype ≠ 0x0800 ∧ it.etype ≠ 0x86DD then ([], s.dropItem it rNoRoute)
  else if !it.ipFormed then ([], s.dropItem it rMalformed)
  else if it.ttl ≤ 1 then
    if s.flag (TENANT it.tenant) TENANT_TTL_PUNT then ([.punt it (s.puntQueue it) 5], s)
    else ([], (s.dropItem it rNoRoute).tblCount 8)
  else
    let l := it.l3
    match s.lpmFind (bit l.v6) it.tenant (if l.v6 then l.dst / 2 ^ 64 else l.dst) with
    | none => ([], s.dropItem it rNoRoute)
    | some e => s.nextHop it e

/-- The frame is routed (R242). -/
def State.isRouted (s : State) (it : Item) : Bool :=
  s.flag (TENANT it.tenant) TENANT_RMAC_EN && it.da == (s.rd (TENANT it.tenant + 16)).toNat * 65536 + s.fld (TENANT it.tenant + 20) TENANT_RMAC_LO

/-- The source address is searched, and learned (R233). -/
def State.learnFrom (s : State) (it : Item) (slow : Bool) : State :=
  match ethOfSrc it.src with
  | some n =>
    if it.member ≠ 0 ∨ !s.flag (TENANT it.tenant) TENANT_LEARN ∨ s.flag (VLAN it.vid) VLAN_LEARN_DIS ∨ oct it.data 6 % 2 = 1 then s
    else s.learn it.tenant it.vid it.sa (s.ethNumber n) slow
  | none => s

/-! ### PDU routes (R221 to R230) -/

/-- The source number of a bus or loom channel (R221). -/
def pduSource (src : Nat) : Nat := if src / 4096 = 1 then src % 4096 else 4096 + src % 4096

/-- The route index of a PDU of a source, or the reason it has none (R222, R229). -/
def State.routeIndex (s : State) (source tenant : Nat) (ide : Bool) (id : Nat) : Except Nat Nat :=
  let w := s.rd (PAGEBASE source)
  if !getB w PAGEBASE_VALID then .error rNoRoute
  else if getF w PAGEBASE_TENANT ≠ tenant then .error rTenant
  else if ide then
    if !getB w PAGEBASE_EXT_EN then .error rNoRoute
    else match s.lpmFind 2 source id with
      | some e => .ok e.leaf
      | none => .error rNoRoute
  else if (getF w PAGEBASE_NPAGES + 1) * 256 ≤ id then .error rNoRoute
  else .ok (getF w PAGEBASE_PAGE_BASE * 256 + id)

/-- The tenant that the target of a descriptor belongs to. -/
def State.descTarget (s : State) (medium target : Nat) : Option Nat :=
  match medium with
  | 0 => s.busTenant target
  | 1 => if target < 64 then s.loomTenant target else none
  | 3 => some (s.fld (PUNTq target) PUNTq_TENANT)
  | _ => none

/-- The item that a descriptor makes of its source (R226). -/
def State.descConvert (s : State) (it : Item) (d : Nat) : Item :=
  let w := s.rd (DESCRIPTOR d)
  let w1 := s.rd (DESCRIPTOR d + 4)
  let w3 := s.rd (DESCRIPTOR d + 12)
  let id := it.ident
  let x := if getB w DESCRIPTOR_KEEP_FMT then it
    else
      let f := getF w DESCRIPTOR_FMT
      { it with fmt := f, brs := f == 1 && getB w DESCRIPTOR_BRS, esi := false, rtr := f == 0 && it.rtr,
                sec := f == 2 && getB w1 DESCRIPTOR_SEC, sdt := if f = 2 then getF w3 DESCRIPTOR_SDT else 0,
                vcid := if f = 2 then getF w3 DESCRIPTOR_VCID else 0,
                af := if f = 2 then (if getB w3 DESCRIPTOR_AF_SRC then id else (s.rd (DESCRIPTOR d + 8)).toNat) else 0 }
  if getB w DESCRIPTOR_KEEP_ID then x
  else
    let n := getF w1 DESCRIPTOR_NEW_ID
    match x.fmt with
    | 2 => { x with ident := n % 2048, ide := false }
    | 3 => { x with ident := n % 64, ide := false }
    | _ => if getB w1 DESCRIPTOR_IDE then { x with ident := n, ide := true } else { x with ident := n % 2048, ide := false }

/-- A tenant's resource may be reached from an item's tenant through a descriptor (R228). -/
def descMay (w : Word) (tenant : Nat) (owner : Option Nat) : Bool :=
  owner == some tenant || (getB w DESCRIPTOR_INTER && owner == some (getF w DESCRIPTOR_DTENANT))

/-- One descriptor of a route entry: the delivery it gives, or the reason it is skipped (R225 to R228). -/
def State.descSend (s : State) (it : Item) (d : Nat) : Except Nat Send :=
  let w := s.rd (DESCRIPTOR d)
  let w3 := s.rd (DESCRIPTOR d + 12)
  let medium := getF w DESCRIPTOR_MEDIUM
  let target := getF w DESCRIPTOR_TARGET
  let prog := getF w3 DESCRIPTOR_PROG
  let runs := getB w3 DESCRIPTOR_STITCH || medium == 2
  if !getB w DESCRIPTOR_VALID ∨ 3 < medium ∨ (medium = 1 ∧ 64 ≤ target) ∨ (medium = 3 ∧ 256 ≤ target) then .error rNoRoute
  else if medium ≠ 2 ∧ !(medium == 3 && s.flag (PUNTq target) PUNTq_ANY) ∧ !descMay w it.tenant (s.descTarget medium target) then .error rTenant
  else if runs ∧ s.flag (PROGRAM prog) PROGRAM_VALID ∧ !descMay w it.tenant (some (s.fld (PROGRAM prog) PROGRAM_TENANT)) then .error rTenant
  else if it.rtr ∧ !getB w DESCRIPTOR_KEEP_FMT ∧ getF w DESCRIPTOR_FMT ≠ 0 then .error rNoRoute
  else if runs then
    .ok (.work { it with extra := (List.range 4).map (fun k => s.rd (DESCRIPTOR d + 4 * k)) } prog d (if medium = 2 then 1 else 0))
  else
    let x := { s.descConvert it d with member := 0, tau := none }
    match medium with
    | 0 => .ok (.one x (.vbus target))
    | 1 => .ok (.one x (.loom target))
    | _ => .ok (.punt it target (3 + (if getB w DESCRIPTOR_INTER then 2 ^ 20 else 0)))

/-- A route entry (R224, R227). -/
def State.routeEntry (s : State) (it : Item) (i : Nat) : List Send × State :=
  let w := s.rd (ROUTE i)
  let first := getF w ROUTE_DIDX
  let words := (ROUTE i, 4) :: (if getB w ROUTE_VALID then (List.range (getF w ROUTE_CNT + 1)).map (fun k => (DESCRIPTOR (first + k), 16)) else [])
  let bad := s.tableBad words
  let s := s.tableSeen words
  if bad then ([], s.dropItem it rNoRoute)
  else if !getB w ROUTE_VALID ∨ 262143 < first + getF w ROUTE_CNT then ([], s.dropItem it rNoRoute)
  else
    let r := (List.range (getF w ROUTE_CNT + 1)).map (fun k => s.descSend it (first + k))
    let sends := r.filterMap (fun x => match x with | .ok a => some a | .error _ => none)
    let skips := r.filterMap (fun x => match x with | .ok _ => none | .error e => some e)
    let copy : List Send := if getB w ROUTE_PUNT then [.punt it (s.puntQueue it) 2] else []
    (copy ++ sends,
      if sends.isEmpty then s.dropItem it (if skips.contains rTenant then rTenant else rNoRoute)
      else skips.foldl (fun t e => t.dropItem it e) s)

/-- The PDU route search of an item with its bus or channel as source (R222 to R230). -/
def State.pduSearch (s : State) (it : Item) : List Send × State :=
  let src := pduSource it.src
  let bad := s.tableBad [(PAGEBASE src, 4)]
  let t := s.tableSeen [(PAGEBASE src, 4)]
  if bad then ([], t.dropItem it rNoRoute)
  else match s.routeIndex src it.tenant it.ide it.ident with
  | .error e => ([], t.dropItem it e)
  | .ok i => t.routeEntry it i

/-! ### Stream identification and policing (R238, R239, R427, R428) -/

/-- The sequence number of the R-TAG an item carries (R427). -/
def Item.rtag (it : Item) : Option Nat := if it.eth && it.etype == 0xF1C1 then some (beAt it.data (it.etherOff + 4) 2) else none

def Send.setHandle (h : Option (Nat × Nat)) : Send → Send
  | .eth it es => .eth { it with handle := h } es
  | .group it g => .group { it with handle := h } g
  | .one it d => .one { it with handle := h } d
  | .punt it q w => .punt { it with handle := h } q w
  | .work it p d k => .work { it with handle := h } p d k

/-- Every delivery leaves over the Seam (R428). -/
def State.allSeam (s : State) (l : List Send) : Bool :=
  l.all (fun a => match a with
    | .eth it es => es.all (fun e => match s.ethDest it e with | some (.seam _ _ _) => true | _ => false)
    | _ => false)

/-- Stream identification of an item whose deliveries are `l`: what goes on. -/
def State.streamId (s : State) (it : Item) (stream : Option Nat) (l : List Send) : List Send × State :=
  match stream with
  | none => (l, s)
  | some h =>
    let w := s.rd (HANDLE h)
    if !getB w HANDLE_VALID ∨ l.isEmpty then (l, s)
    else if getF w HANDLE_TENANT ≠ it.tenant then ([], s.dropItem it rTenant)
    else
      let n := Sparse.get (fun _ => 0) s.frSeq h
      let q := if getB w HANDLE_GEN then some n else it.rtag
      let s := if getB w HANDLE_GEN then
          let t : State := { s with frSeq := Sparse.set (fun _ => 0) s.frSeq h ((n + 1) % 65536) }
          t
        else s
      match q with
      | none => (l, s)
      | some q =>
        let l := l.map (Send.setHandle (some (h, q + 2 ^ 16 * bit (getB w HANDLE_ENC) + 2 ^ 17 * bit (getB w HANDLE_DEC))))
        if getB w HANDLE_REC ∧ !s.allSeam l then
          let (ok, t) := s.recover h q
          (if ok then l else [], t)
        else (l, s)

def Send.setColour (c : Item) : Send → Send
  | .eth it es => .eth { it with colour := c.colour, setDei := c.setDei, stamps := c.stamps } es
  | .group it g => .group { it with colour := c.colour, setDei := c.setDei, stamps := c.stamps } g
  | .one it d => .one { it with colour := c.colour, setDei := c.setDei, stamps := c.stamps } d
  | .punt it q w => .punt { it with colour := c.colour, setDei := c.setDei, stamps := c.stamps } q w
  | .work it p d k => .work { it with colour := c.colour, setDei := c.setDei, stamps := c.stamps } p d k

/-- Policing of what goes on, once for the item (R220, R273). -/
def State.policeAll (s : State) (it : Item) (panel : Nat) (pol : Option Nat) (l : List Send) : List Send × State :=
  match pol with
  | none => (l, s)
  | some k =>
    if l.isEmpty then (l, s)
    else match s.police it panel k with
      | (some c, t) => (l.map (Send.setColour c), t)
      | (none, t) => ([], t)

/-- Hand a delivery on. -/
def State.send (s : State) (full : List Nat) : Send → State
  | .eth it es => s.deliverEth it es false full
  | .group it g => s.deliverGroup it g false full it.eth
  | .one it d => s.deliver it [d] false full
  | .punt it q why => s.puntTo it q why full
  | .work it p d k => { s with workIn := s.workIn ++ [{ item := it, prog := p, desc := some d, kind := k, held := none }] }

/-! ### One lookup -/

/-- The table search of a permitted item; of the reasons that end a redirected one, the first in the order of R29 (R220). -/
def State.tableSearch (s : State) (it : Item) (v : Verdict) (slow : Bool) : List Send × State :=
  if v.act = 4 then
    if s.portTenant v.port ≠ some it.tenant then ([], s.dropItem it rTenant)
    else if !it.eth then ([], s.dropItem it rNoRoute)
    else ([.eth it [v.port]], s)
  else if it.eth then
    let (l, t) := if s.isRouted it then s.routeSearch it else s.stationSearch it
    (l, t.learnFrom it slow)
  else if it.src / 4096 = 1 ∧ it.member ≠ 0 then ([.one it (.vbus (it.src % 4096))], s)
  else s.pduSearch it

/-- From the filter stage on (R24). -/
def State.lookupFrom (s : State) (p : Nat) (it : Item) (full : List Nat) (slow : Bool) : State :=
  let s := s.obs p 0x003 1 (tenant := some it.tenant) (master := some (it.src % 16384))
  let words := s.filterWords it
  let bad := s.tableBad words
  let parsed := it
  let (it, v, s) := (s.tableSeen words).filter it
  let it := { it with hash := if it.eth then s.hashEth parsed (s.hashProfile it) (v.stream.getD 0) else s.hashPdu it }
  let copy : State → State := fun t => if v.act = 3 then t.puntTo (it.mark 2 t.mer) (s.puntQueue it) (1 + 16 * v.rule) full else t
  if bad then s.dropItem it rNoRoute
  else match v.act with
  | 1 => s.dropItem it rFilterDeny
  | 2 => s.puntTo (it.mark 2 s.mer) (s.puntQueue it) (16 * v.rule) full
  | _ =>
    let it := it.mark 2 s.mer
    let (l, t) := (copy s).tableSearch it v slow
    let (l, t) := t.streamId it v.stream l
    let (l, t) := t.policeAll it p v.pol l
    l.foldl (fun u a => u.send full a) t

/-- The port of an attachment that a valid window of kind 0 names (R501). -/
def State.bridgePort (s : State) (n : Nat) : Bool :=
  (List.range 64).any (fun w =>
    let r := s.rd (BRDG_WINw w)
    getB r BRDG_WINw_VALID && !getB r BRDG_WINw_KIND && s.flag (ATTACH (getF r BRDG_WINw_ATT)) ATTACH_VALID &&
      s.fld (ATTACH (getF r BRDG_WINw_ATT)) ATTACH_PORT == n)

/-- A bridge frame (R501). -/
def State.isBridge (s : State) (it : Item) : Bool :=
  it.eth && it.src / 4096 == 0 && it.member == 0 && it.etype == s.fld BRDG_ETYPE BRDG_ETYPE_ETYPE &&
    oct it.data (it.etherOff + 2) == 0xB1 && s.bridgePort it.src

/-- The counter events of a parsed item (R580). -/
def State.parsedObs (s : State) (p : Nat) (it : Item) : State :=
  let ev (t : State) (code n : Nat) : State :=
    t.obs p code n (tenant := some it.tenant) (master := some (it.src % 16384)) (cls := some it.pcp) (priv := some 0)
  ev (ev s 0x001 1) 0x002 it.data.length

/-- An Ethernet frame from a port, a PLCA channel or the host, after its tenant is known. -/
def State.lookupEth (s : State) (p : Nat) (it : Item) (full : List Nat) (slow : Bool) : State :=
  let (it, admitted) := s.tagIn it
  let s := s.parsedObs p it
  let fromPort := decide (it.src < 1024) && it.member == 0
  if it.member = 0 ∧ !admitted then s.dropItem it rFilterDeny
  else if s.isBridge it then { s with hs := { s.hs with brIn := s.hs.brIn ++ [it] } }
  else if fromPort && s.isWind it then
    -- one lookup, and one crossing to the die of the bobbin's stack (R353)
    let b := beAt it.data (it.etherOff + 4) 2 % 4096
    let t := s.obs p 0x003 1 (tenant := some it.tenant) (master := some (it.src % 16384))
    State.crossed { t with windIn := t.windIn ++ [it] } it (8 * t.bobStack b)
  else
    match (if fromPort then s.attachmentOf it.src it else none) with
    | some a => State.obs { s with ntscfIn := s.ntscfIn ++ [(p, a, it)] } p 0x003 1 (tenant := some it.tenant)
        (master := some (it.src % 16384))
    | none =>
      if it.member = 0 ∧ !(s.flag (VLAN it.vid) VLAN_VALID && (match ethOfSrc it.src with | some n => s.vlanMember it.vid n | none => false)) then
        s.dropItem it rFilterDeny
      else s.lookupFrom p it full slow

/-- An injected frame that goes to port n alone (R491). -/
def State.lookupDirect (s : State) (p n : Nat) (it : Item) (full : List Nat) : State :=
  let (t, _) := s.tagIn { it with src := n }
  let t := { t with hash := s.hashEth t 0 0 }
  (s.parsedObs p t).deliverEth { t with src := it.src } [n] false full

/-- An item with its tenant, through parser and lookup. -/
def State.lookupItem (s : State) (p : Nat) (it : Item) (full : List Nat) (slow : Bool) : State :=
  let (it, s) := s.tagJoin p it
  let it := (it.mark 0 (if it.tsIn = 0 then it.stamp else it.tsIn)).mark 1 s.mer
  if it.eth ∧ 16384 ≤ it.src then s.lookupDirect p (it.member - 1) it full
  else if it.eth then s.lookupEth p it full slow
  else
    (s.parsedObs p it).lookupFrom p it full slow

/-- The tenant of an item at the parser: of its injection slot, or its ingress's binding (R25, R33, R491). -/
def State.parsedTenant (s : State) (it : Item) : Option Nat :=
  if 16384 ≤ it.src ∨ (it.eth ∧ it.member ≠ 0) then some it.tenant else s.srcTenant it.src

/-- The back-pressure that panel p is under: its rise is an event (R32, R580). -/
def State.pressed (s : State) (p : Nat) (full : List Nat) : State :=
  if full.any (fun q => decide (q < 16) && panelDie q != panelDie p) then
    (if s.backPress.contains p then s else State.obs { s with backPress := p :: s.backPress } p 0x031 1)
  else { s with backPress := s.backPress.filter (fun q => q != p) }

/-- ITEM_LOOKUP: the oldest item at panel p's parser takes its lookup (R24). `full`: the destination panels whose
crossing path holds the ingress panel back (R32); `slow`: the rate of R233 is exceeded, and a learn is not made. Of a frame
that failed its check after its start went on, only what queueing may send cut-through goes on (R280). An injected frame
takes its stamp here (R491). -/
def State.lookupOp (s : State) (p : Nat) (full : List Nat) (slow : Bool) : State :=
  match Sparse.get (fun _ => []) s.parserIn p with
  | [] => s
  | it :: rest =>
    let s := State.pressed { s with parserIn := Sparse.set (fun _ => []) s.parserIn p rest } p full
    match s.parsedTenant it with
    | none => s.dropItem { it with tenant := 1024 } rUnbound
    | some t =>
      let it := if it.eth ∧ it.member ≠ 0 then { it with stamp := s.mer } else it
      let u := s.lookupItem p { it with tenant := t } full slow
      if it.bad then { s with offers := u.offers } else u

/-- ITEM_LOOKUP, R24: The parser tags an item, and the filter stage, table search, stream identification and policing run in one lookup. -/
def execItemLookup (p : Nat) (full : List Nat) (slow : Bool) (s : State) : Host.Outcome State Fault Refusal := finish s (s.lookupOp p full slow)


end Sys2Proof.Machine
end

