-- ==== Sys2Proof/Machine/Stitch.lean ====
section
/-! DEFINITION. Stitch engines: programs, dispatch, memories, exceptions, emits, stitch queues, freshness and
completion records: spec/09. -/

namespace Sys2Proof.Machine

def State.eng (s : State) (e : Nat) : EngSt := Sparse.get (fun _ => EngSt.reset) s.engs e
def State.setEng (s : State) (e : Nat) (x : EngSt) : State := { s with engs := Sparse.set (fun _ => EngSt.reset) s.engs e x }

/-- Counters of an engine: 0 ITEMS, 1 EMITS, 2 EXCEPTIONS, 3 INQ_FULL, 4 STALL_US, 5 PUT_FAIL, 6 CQ_LOST, 7 NOTIFY_FAIL. -/
def State.engCount (s : State) (e c : Nat) (n : Nat := 1) : State := s.count (PANEL_ENGe_CNTc e + 4 * c) n

def State.stEvent (s : State) (f : Fld) : State := s.setFld PANEL_STEVT f 1

/-! ### Program entries (R286 to R289) -/

/-- Fields of an entry's words 0 to 11. -/
def entWord (l : List Word) (k : Nat) : Word := l.getD k 0
def entTenant (l : List Word) : Nat := getF (entWord l 0) PROGRAM_TENANT
def entEntry (l : List Word) : Nat := getF (entWord l 0) PROGRAM_ENTRY
def entCodeLen (l : List Word) : Nat := getF (entWord l 1) PROGRAM_CODE_LEN
def entCodeBase (l : List Word) : Nat := getF (entWord l 1) PROGRAM_CODE_BASE
/-- First octet and length of the data, shared and heap window. -/
def entData (l : List Word) : Nat × Nat := (64 * getF (entWord l 2) PROGRAM_DBASE, 64 * getF (entWord l 2) PROGRAM_DLEN)
def entShared (l : List Word) : Nat × Nat := (4096 * getF (entWord l 3) PROGRAM_SBASE, 4096 * getF (entWord l 3) PROGRAM_SLEN)
def entHeap (l : List Word) : Nat × Nat := (2 ^ 20 * getF (entWord l 4) PROGRAM_HBASE, 2 ^ 20 * getF (entWord l 4) PROGRAM_HLEN)
/-- The engine mask as a number. -/
def entMask (l : List Word) : Nat := (List.range 4).foldl (fun a i => a + (entWord l (8 + i)).toNat * 2 ^ (32 * i)) 0

/-- The committed words 0 to 11 of program p. -/
def State.progEntry (s : State) (p : Nat) : List Word := (List.range 12).map (fun k => s.rd (PROGRAM p + 4 * k))

/-- Panels of a mask as a number, and dies. -/
def maskPanels (m : Nat) : Nat := (List.range 16).foldl (fun a p => if bits m (8 * p + 7) (8 * p) = 0 then a else a + 2 ^ p) 0
def maskDies (m : Nat) : Nat := (List.range 2).foldl (fun a d => if bits m (64 * d + 63) (64 * d) = 0 then a else a + 2 ^ d) 0

/-- Two octet ranges share an octet. -/
def rangesMeet (a b : Nat × Nat) : Bool := decide (0 < a.2) && decide (0 < b.2) && decide (a.1 < b.1 + b.2) && decide (b.1 < a.1 + a.2)

/-- The numbers of the valid programs. -/
def State.validProgs (s : State) : List Nat :=
  (s.regs.filter (fun r => decide (0xA000000 ≤ r.1) && decide (r.1 < 0xA040000) && r.1 % 64 == 0 && getB r.2 PROGRAM_VALID)).map
    (fun r => (r.1 - 0xA000000) / 64)

/-- The numbers of the valid stitch queues. -/
def State.validQueues (s : State) : List Nat :=
  (s.regs.filter (fun r => decide (0xA100000 ≤ r.1) && decide (r.1 < 0xA108000) && r.1 % 32 == 0 && getB r.2 SQUEUE_VALID)).map
    (fun r => (r.1 - 0xA100000) / 32)

/-- First octet and length of a ring in its panel's shared memory, from words 0 and 1 of the queue's entry. -/
def ringOf (w w1 : Word) : Nat × Nat := (16 * getF w1 SQUEUE_BASE, 16 * 2 ^ getF w SQUEUE_ISIZE * 2 ^ getF w SQUEUE_DEPTH)

def State.sqRing (s : State) (q : Nat) : Nat × Nat := ringOf (s.rd (SQUEUE q)) (s.rd (SQUEUE q + 4))

/-- A commit of program p with words `l` is one that R286 allows. -/
def State.progOk (s : State) (p : Nat) (l : List Word) : Bool :=
  let m := entMask l
  let clash (q : Nat) : Bool :=
    let o := s.progEntry q
    let n := entMask o
    q != p && entTenant o != entTenant l &&
      ((m &&& n != 0 && rangesMeet (entData l) (entData o)) ||
        (maskPanels m &&& maskPanels n != 0 && rangesMeet (entShared l) (entShared o)) ||
        (maskDies m &&& maskDies n != 0 && rangesMeet (entHeap l) (entHeap o)))
  decide (entCodeBase l ≤ entEntry l) && decide (entEntry l < entCodeBase l + entCodeLen l) &&
    decide (entCodeBase l + entCodeLen l ≤ 16384) &&
    ((entData l).2 == 0 || decide ((entData l).1 + (entData l).2 ≤ 131072)) &&
    ((entShared l).2 == 0 || decide ((entShared l).1 + (entShared l).2 ≤ 4194304)) &&
    ((entHeap l).2 == 0 || decide ((entHeap l).1 + (entHeap l).2 ≤ 2 ^ 29)) &&
    !(s.validProgs.any clash) &&
    !(s.validQueues.any (fun q => (maskPanels m).testBit (q / 64) && rangesMeet (entShared l) (s.sqRing q))) &&
    !(getB (entWord l 0) PROGRAM_VALID && m == 0)

/-- A commit of a program's entry: whether it is taken, and its effect. -/
def State.progCommit (s : State) (who p : Nat) (w : Word) : Bool × State :=
  let l := (List.range 12).map (fun k => s.newWord who (PROGRAM p) 0 k w)
  if s.progOk p l then
    let t := s.commitEntry who ⟨0x0A000000, 64, 4096, 1, 1, 12, 0, false⟩ (PROGRAM p) w
    (true, t.setFld (PROGRAM p) PROGRAM_SUSPENDED 0)
  else (false, s.stEvent PANEL_STEVT_OWN_ERR)

/-- PROGRAM_COMMIT: a write of word 0 (R286, R297). -/
def State.progCommitOp (s : State) (i : Iface) (p : Nat) (w : Word) : State := s.hostAccess (s.progCommit (ifaceNum i) p w).2

/-- A host write into instruction memory (R288): whether it is taken, and its effect. -/
def State.imemWrite (s : State) (e k : Nat) (w : Word) : Bool × State :=
  if s.validProgs.any (fun p =>
      let l := s.progEntry p
      (entMask l).testBit e && decide (entCodeBase l ≤ k) && decide (k < entCodeBase l + entCodeLen l)) then
    (false, s.stEvent PANEL_STEVT_OWN_ERR)
  else (true, (s.wr (IMEM e k) w).memWrote 0 (IMEM e k) 4)

/-- IMEM_WRITE. -/
def State.imemWriteOp (s : State) (_i : Iface) (e k : Nat) (w : Word) : State := s.hostAccess (s.imemWrite e k w).2

/-! ### Dispatch (R30, R289 to R294, R297) -/

/-- The engine that takes an item of a program entry (R30, R268). -/
def pickEngine (mask hash panel : Nat) : Option Nat :=
  let inPanel (p : Nat) : List Nat := ((List.range 8).map (fun i => 8 * p + i)).filter (fun e => mask.testBit e)
  let l := if (inPanel panel).isEmpty then (((List.range 16).map inPanel).find? (fun l => !l.isEmpty)).getD [] else inPanel panel
  if l.isEmpty then none else some (l.getD (bits hash 27 12 * l.length / 65536) 0)

/-- Octets of items an engine holds. -/
def EngSt.octets (x : EngSt) : Nat :=
  (x.inq ++ (match x.run with | some r => [r.work] | none => [])).foldl (fun a w => a + w.item.data.length) 0

/-- Items an engine holds; the running item keeps its slot until it ends (R295). -/
def EngSt.count (x : EngSt) : Nat := x.inq.length + (match x.run with | some _ => 1 | none => 0)

/-- Show an engine's state in its STAT word. -/
def State.engShow (s : State) (e : Nat) : State :=
  let x := s.eng e
  let a := PANEL_ENGe_STAT e
  let t := (s.setFld a PANEL_ENGe_STAT_INQ x.count).setFlag a PANEL_ENGe_STAT_BUSY x.run.isSome
  match x.run with
  | some r => ((t.setFlag a PANEL_ENGe_STAT_STALLED r.stall.isSome).setFld a PANEL_ENGe_STAT_EMITS r.emits.length).setFld a
      PANEL_ENGe_STAT_PROGRAM r.work.prog
  | none => ((t.setFlag a PANEL_ENGe_STAT_STALLED false).setFld a PANEL_ENGe_STAT_EMITS 0).setFld a PANEL_ENGe_STAT_PROGRAM 0

/-- Cells that a released record still holds go back as its item leaves the staging store (R366). -/
def State.freeHeld (s : State) (h : Option (Nat × Nat)) : State :=
  match h with
  | some (p, c) => s.setShared p (s.sharedFree p + c)
  | none => s

/-- WORK_ITEM_DISPATCH: the oldest item on its way to a program joins its engine's input queue (R290, R291). -/
def State.dispatchOp (s : State) : State :=
  match s.workIn with
  | [] => s
  | r :: rest =>
    let s : State := State.freeHeld { s with workIn := rest } r.held
    let l := s.progEntry r.prog
    if !getB (entWord l 0) PROGRAM_VALID || getB (entWord l 0) PROGRAM_SUSPENDED then s.dropItem r.item rStitch
    else
      match pickEngine (entMask l) r.item.hash r.item.here with
      | none => s.dropItem r.item rStitch
      | some e =>
        let x := s.eng e
        if 32 ≤ x.count ∨ 32768 < x.octets + r.item.data.length then
          ((s.dropItem r.item rStitch).engCount e 3).stEvent PANEL_STEVT_INQ_FULL
        else
          let t := s.crossed r.item (e / 8)
          (t.setEng e { x with inq := x.inq ++ [{ item := r.item, prog := r.prog, desc := r.desc, kind := r.kind, entry := l, handed := s.mer }] }).engShow e

/-- The sixteen header words of a work item (R293). -/
def StWork.header (w : StWork) : List Word :=
  let it := w.item
  let b (x : Bool) (k : Nat) : Nat := bit x * 2 ^ k
  let n (x : Nat) : Word := BitVec.ofNat 32 x
  [n (w.kind * 2 ^ 28 + b it.eth 27 + (if it.eth then 0 else it.fmt) * 2 ^ 25 + b it.ide 24 + b it.rtr 23 + b it.brs 22 + b it.esi 21 +
      b it.sec 20 + it.reentry * 2 ^ 16 + it.data.length),
   n it.ident, n (it.sdt * 2 ^ 24 + it.vcid * 2 ^ 16 + srcForm it.src), n it.af, n (it.tenant % 1024 * 4096 + w.prog), n it.hash,
   n it.stamp, n (it.stamp / 2 ^ 32)] ++ (List.range 4).map (fun k => it.extra.getD k 0) ++
  [if it.eth then n (it.pcp * 8192 + b it.tagged 12 + it.vid) else 0, 0, 0, 0]

/-- The work-item region as words (R293, R322). -/
def StWork.region (w : StWork) : List (Nat × Word) :=
  let l := w.header ++ (List.range ((w.item.data.length + 3) / 4)).map (fun k => BitVec.ofNat 32 (leNat (slice w.item.data (4 * k) 4)))
  (List.range l.length).foldl (fun m k => Sparse.set (fun _ => 0) m k (l.getD k 0)) []

/-- The state of a program at dispatch (R294, R313). -/
def StWork.start (w : StWork) (now : Nat) : Run :=
  let set (m : List (Nat × Word)) (k v : Nat) : List (Nat × Word) := Sparse.set (fun _ => 0) m k (BitVec.ofNat 32 v)
  { work := w, regs := set (set (set [] 1 0x80000000) 2 w.item.data.length) 3 (entWord w.entry 5).toNat, pc := entEntry w.entry, fl := 0,
    steps := 0, emits := [], mem := w.region, began := now, stall := none, itag := none, lane := 0 }

/-- WORK_ITEM_START: an idle engine takes its next item (R292, R294); an item of a suspended program is discarded (R297). -/
def State.workStartOp (s : State) (e : Nat) : State :=
  let x := s.eng e
  match x.run, x.inq with
  | none, w :: rest =>
    let s := (s.setEng e { x with inq := rest }).engShow e
    if s.flag (PROGRAM w.prog) PROGRAM_SUSPENDED then s.dropItem w.item rStitch
    else
      let w := { w with item := w.item.mark 4 s.mer }
      let t := (s.setEng e { x with inq := rest, run := some (w.start s.mer) }).engShow e
      let t := (t.engCount e 0).count (PROGRAM w.prog + 48)
      (t.obs (e / 8) 0x043 1 (tenant := some w.item.tenant) (master := some e)).obs (e / 8) 0x042 1 (master := some e)
  | _, _ => s

/-! ### Engine memory (R284, R285, R320 to R322) -/

/-- Octets of a window that follow an engine address without a break; 0 outside every window. -/
def Run.span (r : Run) (a : Nat) : Nat :=
  let l := r.work.entry
  if 0x80000000 ≤ a then 0x80002840 - a
  else if 0x40000000 ≤ a then 0x40000000 + (entHeap l).2 - a
  else if 0x20000000 ≤ a then 0x20000000 + (entShared l).2 - a
  else if 0x10000000 ≤ a then 0x10000000 + (entData l).2 - a
  else 0

/-- The first octet of a range that lies in no window. -/
def Run.outside (r : Run) (a n : Nat) : Option Nat := if n ≤ r.span a then none else some ((a + r.span a) % 2 ^ 32)

/-- The place of an engine address: below 2^32 the register address of a data or shared memory octet, from 2^32 the heap
by die and offset, from 2^33 the work-item region. -/
def Run.place (r : Run) (e a : Nat) : Nat :=
  let l := r.work.entry
  if 0x80000000 ≤ a then 2 ^ 33 + (a - 0x80000000)
  else if 0x40000000 ≤ a then 2 ^ 32 + 2 ^ 29 * (e / 64) + (entHeap l).1 + (a - 0x40000000)
  else if 0x20000000 ≤ a then SHARED (e / 8) 0 + (entShared l).1 + (a - 0x20000000)
  else DMEM e 0 + (entData l).1 + (a - 0x10000000)

/-- A range lies in the heap window. -/
def inHeap (a : Nat) : Bool := decide (0x40000000 ≤ a) && decide (a < 0x80000000)
def inShared (a : Nat) : Bool := decide (0x20000000 ≤ a) && decide (a < 0x40000000)

/-- The word at a place. -/
def State.placeWord (s : State) (r : Run) (k : Nat) : Word :=
  if k < 2 ^ 32 then s.rd (k / 4 * 4)
  else if k < 2 ^ 33 then Sparse.get (fun _ => 0) s.heap ((k - 2 ^ 32) / 4)
  else Sparse.get (fun _ => 0) r.mem ((k - 2 ^ 33) / 4)

/-- The octet at an engine address. -/
def State.engByte (s : State) (e : Nat) (r : Run) (a : Nat) : Byte :=
  let k := r.place e a
  BitVec.ofNat 8 ((s.placeWord r k).toNat >>> (8 * (k % 4)))

/-- n octets from an engine address. -/
def State.engBytes (s : State) (e : Nat) (r : Run) (a n : Nat) : List Byte := (List.range n).map (fun i => s.engByte e r (a + i))

/-- The word at an engine address that is a multiple of 4. -/
def State.engWord (s : State) (e : Nat) (r : Run) (a : Nat) : Word := s.placeWord r (r.place e a)

/-- Put an octet into a word. -/
def putByte (w : Word) (i : Nat) (b : Byte) : Word := setF w ⟨8 * i + 7, 8 * i⟩ b.toNat

/-- Store an octet, without the check bits. -/
def State.engPut (s : State) (e : Nat) (r : Run) (a : Nat) (b : Byte) : State × Run :=
  let k := r.place e a
  let w := putByte (s.placeWord r k) (k % 4) b
  if k < 2 ^ 32 then (s.wr (k / 4 * 4) w, r)
  else if k < 2 ^ 33 then (s.heapWrite ((k - 2 ^ 32) / 4) w, r)
  else (s, { r with mem := Sparse.set (fun _ => 0) r.mem ((k - 2 ^ 33) / 4) w })

/-- The memory class of a place (R566), and its octet address in the form of R570 before division; none for the work item. -/
def placeClass (k : Nat) : Option (Nat × Nat) :=
  if k < 2 ^ 32 then some (0, k)
  else if k < 2 ^ 33 then some (4, (k - 2 ^ 32) / 2 ^ 29 * 2 ^ 35 + (k - 2 ^ 32) % 2 ^ 29)
  else none

/-- The counter events of an access to a shared memory or the heap (R580). -/
def State.engAccess (s : State) (e : Nat) (r : Run) (a n : Nat) (write : Bool) : State :=
  if n = 0 then s
  else if inShared a then
    s.obs (e / 8) 0x060 1 (master := some e) (addr := some (r.place e a)) (priv := some 0)
  else if inHeap a then
    let k := r.place e a - 2 ^ 32
    let form := k / 2 ^ 29 * 2 ^ 31 + k % 2 ^ 29 / 16
    (s.obsDie (e / 64) 0x061 1 (master := some e) (addr := some form) (priv := some 0)).obsDie (e / 64) (if write then 0x071 else 0x070) n
      (addr := some form)
  else s

/-- Store octets (R321, R573). -/
def State.engStore (s : State) (e : Nat) (r : Run) (a : Nat) (l : List Byte) : State × Run :=
  let s := s.engAccess e r a l.length true
  let (t, q) := (List.range l.length).foldl (fun (x : State × Run) i => x.1.engPut e x.2 (a + i) (l.getD i 0)) (s, r)
  match placeClass (r.place e a) with
  | some (c, o) => if l.isEmpty then (t, q) else (t.memWrote c o l.length, q)
  | none => (t, q)

/-- The engine address of the first poison-tagged word in a range (R322, R578), a heap word that has just crossed with bad parity among them. -/
def State.engPoison (s : State) (e : Nat) (r : Run) (a n : Nat) : Option Nat :=
  if n = 0 then none
  else if r.hurt && inHeap a then some (a / 4 * 4)
  else match placeClass (r.place e a) with
  | some (c, o) => (s.memPoison c o n).map (fun b => if b < o then a / 4 * 4 else (a + (b - o)) / 4 * 4)
  | none => if r.work.item.poison ∧ 0x80000040 < a + n then some (max 0x80000040 (a / 4 * 4)) else none

/-- What the checkers see of a read. -/
def State.engRead (s : State) (e : Nat) (r : Run) (a n : Nat) : State :=
  let s := s.engAccess e r a n false
  match placeClass (r.place e a) with
  | some (c, o) => if n = 0 then s else s.memRead c o n
  | none => s

/-! ### Completion records (R310, R311) -/

def State.showCq (s : State) : State := s.setFld PANEL_CQFILL PANEL_CQFILL_FILL s.cq.length

/-- Write a completion record if the engine holds a credit: whether it was written. -/
def State.complete (s : State) (e : Nat) (r : Run) (kind code : Nat) (value : Word) : Bool × State :=
  let a := PANEL_ENGe_STAT e
  let n := s.fld a PANEL_ENGe_STAT_CREDITS
  if n = 0 then (false, s)
  else
    let rec_ : CqRec := { engine := e, words :=
      [BitVec.ofNat 32 (2 ^ 31 + kind * 2 ^ 29 + code * 2 ^ 24 + e * 2 ^ 17 + r.work.prog),
       BitVec.ofNat 32 (r.work.item.tenant % 1024 * 2 ^ 14 + r.pc), value, BitVec.ofNat 32 s.mer] }
    let t : State := { s with cq := s.cq ++ [rec_] }
    (true, (t.setFld a PANEL_ENGe_STAT_CREDITS (n - 1)).showCq)

/-- An exception or suspension record; one that finds no credit is lost. -/
def State.completeOr (s : State) (e : Nat) (r : Run) (kind code : Nat) (value : Word) : State :=
  let (ok, t) := s.complete e r kind code value
  if ok then t else (s.engCount e 6).stEvent PANEL_STEVT_CQ_LOST

/-- The oldest completion record into a reader's snapshot; its credit goes back (R310, R311, R105). -/
def State.cqTake (s : State) : List Word × State :=
  match s.cq with
  | [] => ([0, 0, 0, 0], s)
  | c :: rest =>
    let a := PANEL_ENGe_STAT c.engine
    let t : State := { s with cq := rest }
    (c.words, (t.setFld a PANEL_ENGe_STAT_CREDITS (t.fld a PANEL_ENGe_STAT_CREDITS + 1)).showCq)

/-- COMPLETION_READ. -/
def State.completionReadOp (s : State) (i : Iface) : State :=
  let (l, t) := s.cqTake
  let t := (List.range 3).foldl (fun t k => t.latch i (PANEL_CQk k) (l.getD (k + 1) 0)) t
  s.hostAccess (t.answer i PANEL_CQ0 (l.getD 0 0))

/-! ### The end of a work item (R292, R295 to R299) -/

/-- An instruction-tag record (R589, R591). -/
def State.itagDue (s : State) (e : Nat) (r : Run) (slots code : Nat) : State :=
  match r.itag with
  | none => s
  | some (at_, stalled) =>
    let w := r.word
    let body := natBe 2 e ++ natBe 2 r.work.prog ++ natBe 2 (r.work.item.tenant % 1024) ++ natBe 2 r.pc ++ natBe 4 w.toNat ++ natBe 8 at_ ++
      natBe 4 (s.mer - at_) ++ natBe 2 slots ++ [BitVec.ofNat 8 code, if stalled then 1 else 0] ++ natBe 4 0
    let d := e / 64
    let rcd : TraceRec := { kind := 3, poison := false, tseq := Sparse.get (fun _ => 0) s.traceSeq d, mer := s.mer, body := body }
    (s.tagRing rcd.octets).traceDue d 3 false body

/-- The engine is free again; its stall time and the sample of the run are taken. -/
def State.engFree (s : State) (e : Nat) (r : Run) : State :=
  let x := s.eng e
  let t := (s.setEng e { x with run := none }).engShow e
  t.histSample 2 (e / 8) e (t.mer - r.began) (some r.work.item.tenant)

/-- A stall ends: whole microseconds are counted in STALL_US. -/
def State.stallDone (s : State) (e : Nat) (r : Run) : State :=
  match r.stall with
  | none => s
  | some st =>
    let x := s.eng e
    let n := x.stallRem + (s.mer - st.since)
    (s.setEng e { x with stallRem := n % usTicks }).engCount e 4 (n / usTicks)

/-- The work item ends without its emits. -/
def State.engDrop (s : State) (e : Nat) (r : Run) (reason : Nat) : State :=
  (s.engFree e r).dropItem (r.work.item.mark 5 s.mer) reason

/-- A program that raises too many exceptions is suspended (R297). -/
def State.suspendCheck (s : State) (e : Nat) (r : Run) : State :=
  let p := r.work.prog
  let n := s.fld (PROGRAM p + 24) PROGRAM_EXC_LIMIT
  let times := ((Sparse.get (fun _ => []) s.excTimes p).filter (fun a => decide (s.mer < a + msTicks))) ++ [s.mer]
  let t : State := { s with excTimes := Sparse.set (fun _ => []) s.excTimes p times }
  if n = 0 ∨ times.length ≤ n ∨ t.flag (PROGRAM p) PROGRAM_SUSPENDED then t
  else (((t.setFld (PROGRAM p) PROGRAM_SUSPENDED 1).stEvent PANEL_STEVT_SUSP).completeOr e r 2 0 0).log 297 p [e]

/-- An exception (R295 to R297). -/
def State.engExc (s : State) (e : Nat) (r : Run) (code addr : Nat) : State :=
  let t := (s.stallDone e r).itagDue e r 0 code
  let t := ((t.engCount e 2).count (PROGRAM r.work.prog + 52)).stEvent PANEL_STEVT_EXC
  let t := t.completeOr e r 1 code (if 3 ≤ code ∧ code ≤ 5 then BitVec.ofNat 32 addr else 0)
  (t.suspendCheck e r).engDrop e r rStitch

/-- The derived item of an emit, before its destination is known (R298, R299). -/
def State.emitItem (_s : State) (e : Nat) (r : Run) (m : EmitRec) (vid : Nat) (tpids : List Nat) : Item :=
  let w (k : Nat) : Word := m.hdr.getD k 0
  let h := (w 0).toNat
  let src := r.work.item
  let base : Item :=
    if h.testBit 27 then ethItem tpids vid m.data
    else
      let fmt := bits h 26 25
      { Item.blank with eth := false, fmt := fmt, ide := h.testBit 24, rtr := fmt == 0 && h.testBit 23, brs := h.testBit 22, sec := h.testBit 21,
                        ident := bits (w 1).toNat 28 0, sdt := bits (w 2).toNat 31 24, vcid := bits (w 2).toNat 23 16, af := (w 3).toNat,
                        data := m.data }
  { base with
    tenant := src.tenant
    src := 16384 * (1 + e / 8) + 4096 + e
    stamp := src.stamp
    reentry := src.reentry + 1
    hash := src.hash
    queue := if h.testBit 19 then some (bits h 18 15) else none
    tsreq := if h.testBit 20 then some (1, bits (w 2).toNat 15 0) else none
    tau := if h.testBit 14 then some ((w 5).toNat + 2 ^ 32 * (w 6).toNat) else none
    member := if h.testBit 27 then 0 else bits (w 4).toNat 31 28
    mirror := src.mirror
    traced := src.traced
    stamps := src.stamps
    tsIn := src.tsIn }

/-- An emit's request time: what it names, or the bus tenant's view at the stamp (R178). -/
def State.emitTau (s : State) (it : Item) (v : Nat) : Item :=
  { it with tau := some (it.tau.getD (s.tenantStamp (s.busTenant v) it.stamp)) }

/-- An emit to a resource of a tenant. -/
def State.emitTo (s : State) (it : Item) (owner : Option Nat) (may : Bool) (d : Dest) : State :=
  if owner = some it.tenant ∨ may then s.deliver it [d] else s.dropItem it rTenant

/-- A staged emit is released (R299). -/
def State.emitOne (s : State) (e : Nat) (r : Run) (m : EmitRec) : State :=
  let h := (m.hdr.getD 0 0).toNat
  let dkind := bits h 31 28
  let eth := h.testBit 27
  let target := bits (m.hdr.getD 4 0).toNat 17 0
  let it := if dkind = 1 ∧ target < 1024 then s.emitItem e r m (s.portPvid target) [s.portTpid target]
    else s.emitItem e r m 1 s.anyTpid
  if 9 ≤ it.reentry then s.dropItem it rHop
  else
    match dkind with
    | 0 =>
      let w := r.work.item.extra.getD 0 0
      let t := getF w DESCRIPTOR_TARGET
      if r.work.kind ≠ 0 then s.dropItem it rNoRoute
      else
        let may (o : Option Nat) : Bool := descMay w it.tenant o
        match getF w DESCRIPTOR_MEDIUM with
        | 0 => if eth then s.dropItem it rNoRoute else s.emitTo (s.emitTau it t) (s.busTenant t) (may (s.busTenant t)) (.vbus t)
        | 1 => if eth ∨ 64 ≤ t then s.dropItem it rNoRoute else s.emitTo it (s.loomTenant t) (may (s.loomTenant t)) (.loom t)
        | 3 => if 256 ≤ t then s.dropItem it rNoRoute else s.puntTo it t (6 + (if getB w DESCRIPTOR_INTER then 2 ^ 20 else 0))
        | _ => s.dropItem it rNoRoute
    | 1 => if !eth ∨ 1024 ≤ target then s.dropItem it rNoRoute
      else if s.portTenant target = some it.tenant then s.deliverEth it [target] else s.dropItem it rTenant
    | 2 => if eth ∨ 4096 ≤ target then s.dropItem it rNoRoute else s.emitTo (s.emitTau it target) (s.busTenant target) false (.vbus target)
    | 3 => if eth ∨ 64 ≤ target then s.dropItem it rNoRoute else s.emitTo it (s.loomTenant target) false (.loom target)
    | 4 => if !eth ∨ 16 ≤ target then s.dropItem it rNoRoute else s.emitTo it (s.plcaTenant target) false (.plca target it.pcp)
    | 5 => if !eth ∨ 65536 ≤ target then s.dropItem it rNoRoute else s.deliverGroup it target
    | 6 => if 256 ≤ target then s.dropItem it rNoRoute else s.puntTo it target 6
    | 7 => if eth then s.dropItem it rNoRoute
      else match s.descSend it target with
        | .error c => s.dropItem it c
        | .ok a => (match a with
          | .one x d => s.deliver { x with tau := it.tau } [d]
          | a => s.send [] a)
    | 8 => if 4096 ≤ target then s.dropItem it rNoRoute
      else if s.flag (PROGRAM target) PROGRAM_VALID ∧ s.fld (PROGRAM target) PROGRAM_TENANT ≠ it.tenant then s.dropItem it rTenant
      else { s with workIn := s.workIn ++
        [{ item := { it with extra := (List.range 4).map (fun k => m.hdr.getD (4 + k) 0) }, prog := target, desc := none, kind := 3, held := none }] }
    | _ => s.dropItem it rNoRoute

/-- The work item ends with END: its emits are released in staging order (R295, R299). -/
def State.engEnd (s : State) (e : Nat) (r : Run) : State :=
  let r := { r with work := { r.work with item := r.work.item.mark 5 s.mer } }
  let t := (s.engFree e r).engCount e 1 r.emits.length
  if r.emits.isEmpty then
    t.pathEnd r.work.item { kind := 4, num := r.work.prog, queue := 31, verdict := 0, panel := e / 8, tsOut := r.work.handed }
  else r.emits.foldl (fun u m => u.emitOne e r m) t

/-! ### Stitch queues (R301 to R305) -/

def State.sqWr (s : State) (q : Nat) : Nat := s.fld (SQUEUE q + 8) SQUEUE_WR
def State.sqRd (s : State) (q : Nat) : Nat := s.fld (SQUEUE q + 8) SQUEUE_RD
def State.sqMark (s : State) (q : Nat) : Nat := s.fld (SQUEUE q + 12) SQUEUE_MARK
def State.sqRel (s : State) (q : Nat) : Nat := s.fld (SQUEUE q + 12) SQUEUE_REL
def State.sqBytes (s : State) (q : Nat) : Nat := 16 * 2 ^ s.fld (SQUEUE q) SQUEUE_ISIZE
def State.sqDepth (s : State) (q : Nat) : Nat := 2 ^ s.fld (SQUEUE q) SQUEUE_DEPTH
def State.sqHost (s : State) (q : Nat) : Nat := s.fld (SQUEUE q) SQUEUE_HOST
/-- Items unreleased and unread. -/
def State.sqHeld (s : State) (q : Nat) : Nat := (s.sqWr q + 65536 - s.sqRel q) % 65536
def State.sqUnread (s : State) (q : Nat) : Nat := (s.sqWr q + 65536 - s.sqRd q) % 65536

/-- Address of word k of the ring slot of pointer p. -/
def State.sqSlot (s : State) (q p k : Nat) : Nat :=
  SHARED (q / 64) 0 + (s.sqRing q).1 + s.sqBytes q * (p % s.sqDepth q) + 4 * k

/-- put() of R302: none where the ring is full. -/
def State.sqPut (s : State) (q : Nat) (item : List Word) : Option State :=
  if s.sqDepth q ≤ s.sqHeld q then none
  else
    let n := s.sqBytes q / 4
    let t := (List.range n).foldl (fun t k => t.wr (s.sqSlot q (s.sqWr q) k) (if k = 0 then item.getD 0 0 ||| 0x80000000#32 else item.getD k 0)) s
    some ((t.memWrote 0 (s.sqSlot q (s.sqWr q) 0) (4 * n)).setFld (SQUEUE q + 8) SQUEUE_WR (s.sqWr q + 1))

/-- The item at the read pointer. -/
def State.sqItem (s : State) (q : Nat) : List Word := (List.range (s.sqBytes q / 4)).map (fun k => s.rd (s.sqSlot q (s.sqRd q) k))

/-- The pointers after release() of R302, for a read pointer p. -/
def State.sqFree (s : State) (q p : Nat) : State := (s.setFld (SQUEUE q + 12) SQUEUE_REL p).setFld (SQUEUE q + 12) SQUEUE_MARK p

/-- get() of R302: none where it is empty. -/
def State.sqGet (s : State) (q : Nat) : Option (List Word × State) :=
  if s.sqUnread q = 0 then none
  else
    let p := s.sqRd q + 1
    let t := s.setFld (SQUEUE q + 8) SQUEUE_RD p
    some (s.sqItem q, if s.flag (SQUEUE q) SQUEUE_AUTOREL then t.sqFree q (p % 65536) else t)

/-- mark(), rewind() and release(). -/
def State.sqMarkNow (s : State) (q : Nat) : State := s.setFld (SQUEUE q + 12) SQUEUE_MARK (s.sqRd q)
def State.sqRewind (s : State) (q : Nat) : State := s.setFld (SQUEUE q + 8) SQUEUE_RD (s.sqMark q)
def State.sqRelease (s : State) (q : Nat) : State := s.sqFree q (s.sqRd q)

/-- A commit of a stitch queue's entry (R301): whether it is taken, and its effect. -/
def State.sqCommit (s : State) (who q : Nat) (w : Word) : Bool × State :=
  let w1 := s.newWord who (SQUEUE q) 0 1 w
  let ring := ringOf w w1
  let depth := getF w SQUEUE_DEPTH
  let bad := decide (4194304 < ring.1 + ring.2) || decide (depth < 4) || getF w SQUEUE_HOST == 3 ||
    s.validProgs.any (fun p => (maskPanels (entMask (s.progEntry p))).testBit (q / 64) && rangesMeet (entShared (s.progEntry p)) ring) ||
    s.validQueues.any (fun k => k != q && k / 64 == q / 64 && rangesMeet (s.sqRing k) ring)
  if bad then (false, s.stEvent PANEL_STEVT_OWN_ERR)
  else
    let t := s.commitEntry who ⟨0x0A100000, 32, 1024, 1, 1, 2, 0, false⟩ (SQUEUE q) w
    (true, (t.wr (SQUEUE q + 8) 0).wr (SQUEUE q + 12) 0)

/-- STITCH_QUEUE_COMMIT. -/
def State.sqCommitOp (s : State) (i : Iface) (q : Nat) (w : Word) : State := s.hostAccess (s.sqCommit (ifaceNum i) q w).2

/-- The host may operate on the queue's end: the consumer's of HOST 0b10, the producer's of HOST 0b01 (R305). -/
def State.hostEnd (s : State) (q side : Nat) : Bool := s.flag (SQUEUE q) SQUEUE_VALID && s.sqHost q == side

/-- The last result of an interface's operations on a queue. -/
def State.sqResult (s : State) (i : Iface) (q v : Nat) : State := s.latch i (SQ_PUT q) (BitVec.ofNat 32 v)

/-- A host GET: a real item, or the idle item, into the interface's snapshot (R305). A refused one changes no snapshot;
the word it returns is open. -/
def State.hostGet (s : State) (i : Iface) (q : Nat) : State :=
  if !s.hostEnd q 2 then
    let (v, t) := s.takeFree
    (t.sqResult i q 2).answer i (SQ_GET q) (BitVec.ofNat 32 v)
  else
    let (l, t) := (s.sqGet q).getD ([], s)
    let t := (List.range 32).foldl (fun t k => t.latch i (SQ_ITEM q k) (l.getD k 0)) t
    t.answer i (SQ_GET q) (l.getD 0 0)

/-- HOST_QUEUE_GET. -/
def State.hostGetOp (s : State) (i : Iface) (q : Nat) : State := s.hostAccess (s.hostGet i q)

/-- A host write of PUT (R305). -/
def State.hostPut (s : State) (i : Iface) (q : Nat) (w : Word) : State :=
  if w ≠ 1 then s
  else if !s.hostEnd q 1 then s.sqResult i q 2
  else
    match s.sqPut q ((List.range 32).map (fun k => s.stagedWord (ifaceNum i) (SQ_ITEM q k))) with
    | some t => t.sqResult i q 0
    | none => (s.count (SQUEUE q + 16)).sqResult i q 1

/-- HOST_QUEUE_PUT. -/
def State.hostPutOp (s : State) (i : Iface) (q : Nat) (w : Word) : State := s.hostAccess (s.hostPut i q w)

/-- A host write of CTRL (R305). -/
def State.hostCtrl (s : State) (i : Iface) (q op : Nat) : State :=
  if op = 0 ∨ 3 < op then s
  else if !s.hostEnd q 2 then s.sqResult i q 2
  else match op with
  | 1 => s.sqMarkNow q
  | 2 => s.sqRewind q
  | _ => s.sqRelease q

/-- HOST_QUEUE_MARK, HOST_QUEUE_REWIND and HOST_QUEUE_RELEASE. -/
def State.hostMarkOp (s : State) (i : Iface) (q : Nat) : State := s.hostAccess (s.hostCtrl i q 1)
def State.hostRewindOp (s : State) (i : Iface) (q : Nat) : State := s.hostAccess (s.hostCtrl i q 2)
def State.hostReleaseOp (s : State) (i : Iface) (q : Nat) : State := s.hostAccess (s.hostCtrl i q 3)

/-! ### Freshness (R306, R307) -/

/-- A change of VALUE, which the twin hears of (R417). -/
def State.freshSet (s : State) (f v : Nat) : State := (s.wr64 (FRESH f) v).mirror 3 [f, v]

/-- raise and increment of R307: whether it is OK, and the value. -/
def State.freshRaise (s : State) (f v : Nat) : Bool × State :=
  if s.rd64 (FRESH f) < v then (true, s.freshSet f v) else (false, s)

def State.freshInc (s : State) (f : Nat) : Bool × State :=
  let v := s.rd64 (FRESH f)
  if v = 2 ^ 64 - 1 then (false, s) else (true, s.freshSet f (v + 1))

/-- A work item's tenant may use the entry. -/
def State.freshMay (s : State) (f tenant : Nat) : Bool :=
  s.flag (FRESH f + 8) FRESH_VALID && s.flag (FRESH_OWNER (f / 64)) FRESH_OWNER_ASSIGNED &&
    s.fld (FRESH_OWNER (f / 64)) FRESH_OWNER_TENANT == tenant

/-- A host commit of a freshness entry (R249, R307). -/
def State.freshCommit (s : State) (who f : Nat) (w : Word) : State :=
  s.commitEntry who ⟨0x0A200000, 16, 65536, 1, 1, 3, 0, false⟩ (FRESH f) w

/-- FRESHNESS_HOST_WRITE. -/
def State.freshWriteOp (s : State) (i : Iface) (f : Nat) (w : Word) : State := s.hostAccess (s.freshCommit (ifaceNum i) f w)

/-! ### Meanings -/

/-- WORK_ITEM_DISPATCH, R290: A work item joins its engine's input queue, or is discarded as full. -/
def execWorkItemDispatch (s : State) : Host.Outcome State Fault Refusal := finish s s.dispatchOp

/-- WORK_ITEM_START, R294: The engine takes the next work item and starts it at ENTRY. -/
def execWorkItemStart (e : Nat) (s : State) : Host.Outcome State Fault Refusal := finish s (s.workStartOp e)

/-- PROGRAM_COMMIT, R286: A commit of a program entry is applied or refused. -/
def execProgramCommit (i : Iface) (p : Nat) (w : Word) (s : State) : Host.Outcome State Fault Refusal := finish s (s.progCommitOp i p w)

/-- IMEM_WRITE, R288: A host write into instruction memory is applied or ignored. -/
def execImemWrite (i : Iface) (e : Nat) (k : Nat) (w : Word) (s : State) : Host.Outcome State Fault Refusal := finish s (s.imemWriteOp i e k w)

/-- STITCH_QUEUE_COMMIT, R301: A commit of a stitch queue entry empties it, or is refused. -/
def execStitchQueueCommit (i : Iface) (q : Nat) (w : Word) (s : State) : Host.Outcome State Fault Refusal := finish s (s.sqCommitOp i q w)

/-- HOST_QUEUE_GET, R305: A host read of GET takes an item into the interface's snapshot. -/
def execHostQueueGet (i : Iface) (q : Nat) (s : State) : Host.Outcome State Fault Refusal := finish s (s.hostGetOp i q)

/-- HOST_QUEUE_PUT, R305: A host write of PUT puts the staged item. -/
def execHostQueuePut (i : Iface) (q : Nat) (w : Word) (s : State) : Host.Outcome State Fault Refusal := finish s (s.hostPutOp i q w)

/-- HOST_QUEUE_MARK, R305: CTRL 1 marks the host queue. -/
def execHostQueueMark (i : Iface) (q : Nat) (s : State) : Host.Outcome State Fault Refusal := finish s (s.hostMarkOp i q)

/-- HOST_QUEUE_REWIND, R305: CTRL 2 rewinds the host queue. -/
def execHostQueueRewind (i : Iface) (q : Nat) (s : State) : Host.Outcome State Fault Refusal := finish s (s.hostRewindOp i q)

/-- HOST_QUEUE_RELEASE, R305: CTRL 3 releases the host queue. -/
def execHostQueueRelease (i : Iface) (q : Nat) (s : State) : Host.Outcome State Fault Refusal := finish s (s.hostReleaseOp i q)

/-- COMPLETION_READ, R310: A read of PANEL_CQ0 removes the oldest completion record and returns its credit. -/
def execCompletionRead (i : Iface) (s : State) : Host.Outcome State Fault Refusal := finish s (s.completionReadOp i)

/-- FRESHNESS_HOST_WRITE, R307: A host write of a freshness entry sets VALUE after engine operations arriving with it. -/
def execFreshnessHostWrite (i : Iface) (f : Nat) (w : Word) (s : State) : Host.Outcome State Fault Refusal := finish s (s.freshWriteOp i f w)


end Sys2Proof.Machine
end

