-- ==== Sys2Proof/Machine/Isa.lean ====
section
/-! DEFINITION. The stitch instruction set: what an engine does when it issues the instruction at its program counter,
and how a stalled instruction ends: spec/10. -/

namespace Sys2Proof.Machine

/-! ### Encoding (R318, R319) -/

/-- Fields of an instruction word. -/
def iOp (w : Word) : Nat := bits w.toNat 31 26
def iRd (w : Word) : Nat := bits w.toNat 25 21
def iRa (w : Word) : Nat := bits w.toNat 20 16
def iRb (w : Word) : Nat := bits w.toNat 15 11
def iFn (w : Word) : Nat := bits w.toNat 10 0
def iImm (w : Word) : Nat := bits w.toNat 15 0
def iOff21 (w : Word) : Nat := bits w.toNat 20 0

/-- A pair register is even and not g0. -/
def pairOk (r : Nat) : Bool := r % 2 == 0 && r != 0

/-- The number of an instruction: 256 × OP + the operation that fn selects within it; none for an undefined encoding
(R319, R327 to R347). -/
def instrCode (w : Word) : Option Nat :=
  let op := iOp w
  let rd := iRd w
  let ra := iRa w
  let rb := iRb w
  let fn := iFn w
  let some_ (b : Bool) (sub : Nat) : Option Nat := if b then some (256 * op + sub) else none
  match op with
  | 0x00 =>
    some_ (decide (fn ≤ 0x13) || (decide (fn = 0x14 ∨ fn = 0x15) && rd == 0) || (decide (fn = 0x16 ∨ fn = 0x17) && rb == 0) ||
      (fn == 0x18 && ra == 0 && rb == 0) || (fn == 0x19 && rd == 0 && rb == 0) || fn == 0x1C || fn == 0x1D) fn
  | 0x05 => some_ (ra == 0) 0
  | 0x06 => some_ (rd == 0) 0
  | 0x10 => some_ (bits fn 8 5 == 0) 0
  | 0x11 => some_ (bits fn 9 5 == 0) 0
  | 0x12 => some_ true 0
  | 0x13 => some_ (decide (fn ≤ 6)) 0
  | 0x14 => some_ (decide (fn ≤ 1)) fn
  | 0x15 => some_ (decide (fn ≤ 2)) fn
  | 0x18 => some_ (decide (rd ≤ 16) && ra == 0) 0
  | 0x19 => some_ true 0
  | 0x1A => some_ true 0
  | 0x1C => some_ (ra == 0 && rb == 0 && decide (fn < 8) && fn % 4 != 3 && pairOk rd) 0
  | 0x20 => some_ (decide (fn ≤ 5)) fn
  | 0x21 => some_ (decide (fn ≤ 1)) 0
  | 0x22 => some_ (fn == 0) 0
  | 0x23 => some_ (decide (fn ≤ 2) && rb == 0 && pairOk rd) fn
  | 0x24 => some_ (rb == 0 && fn == 0) 0
  | 0x28 => some_ (rd == 0 && fn == 0) 0
  | 0x29 => some_ (rd == 0 && ra == 0 && rb == 0 && fn == 0) 0
  | 0x2A => some_ (rd == 0 && ra == 0 && decide (iImm w ≤ 1)) 0
  | 0x2B => some_ (rd == 0 && rb == 0 && fn == 0) 0
  | _ => some_ (decide (1 ≤ op ∧ op ≤ 4) || decide (8 ≤ op ∧ op ≤ 0xF)) 0

/-! ### Registers and flags (R313, R316) -/

/-- A general register; g0 reads 0. -/
def Run.reg (r : Run) (n : Nat) : Word := if n = 0 then 0 else Sparse.get (fun _ => 0) r.regs n

/-- Write a general register; a write to g0 is discarded. -/
def Run.setReg (r : Run) (n : Nat) (v : Word) : Run :=
  if n = 0 then r else { r with regs := Sparse.set (fun _ => 0) r.regs n v }

def Run.z (r : Run) : Bool := r.fl.testBit 0
def Run.n (r : Run) : Bool := r.fl.testBit 1
def Run.c (r : Run) : Bool := r.fl.testBit 2
def Run.v (r : Run) : Bool := r.fl.testBit 3
def Run.q (r : Run) : Bool := r.fl.testBit 4

/-- Set Z alone. -/
def Run.setZ (r : Run) (b : Bool) : Run := { r with fl := r.fl / 2 * 2 + bit b }

/-- Set Q where an instruction saturates; it stays set. -/
def Run.setQ (r : Run) (b : Bool) : Run := if b then { r with fl := r.fl ||| 16 } else r

/-- Set Z, N, C and V. -/
def Run.setNzcv (r : Run) (z n c v : Bool) : Run := { r with fl := r.fl / 16 * 16 + bit z + 2 * bit n + 4 * bit c + 8 * bit v }

/-- The next instruction in sequence; the program counter has 14 bits. -/
def Run.next (r : Run) : Run := { r with pc := (r.pc + 1) % 16384 }

/-- A pair of registers as a 64-bit value, low word in rd (R337, R341). -/
def Run.pair (r : Run) (n : Nat) : Nat := (r.reg n).toNat + 2 ^ 32 * (r.reg (n + 1)).toNat
def Run.setPair (r : Run) (n v : Nat) : Run := (r.setReg n (BitVec.ofNat 32 v)).setReg (n + 1) (BitVec.ofNat 32 (v / 2 ^ 32))

/-! ### What an instruction comes to -/

/-- An issued instruction is done in so many slots, raises an exception at an address, waits, or ends the work item:
0 END, 1 DROP 0, 2 DROP 1 (R295, R314, R324). -/
inductive Ex where
  | done (s : State) (r : Run) (slots : Nat)
  | fault (code addr : Nat)
  | wait (kind : Nat) (s : State) (r : Run) (step : Nat := 0) (held : List Byte := [])
  | finish (why : Nat)

/-- The body of an instruction: `fin` when what it waited for has come. -/
abbrev Body := State → Nat → Run → Word → Bool → Ex

/-- Which of its waits an instruction has behind it (0 at issue), and what it holds from before that wait. -/
def Run.step (r : Run) (fin : Bool) : Nat := if fin then (match r.stall with | some st => st.step | none => 0) else 0
def Run.held (r : Run) : List Byte := match r.stall with | some st => st.held | none => []

/-- A body that only computes on registers. -/
def pureBody (slots : Nat) (f : Run → Word → Run) : Body := fun s _ r w _ => .done s (f r w).next slots

/-! ### ALU group (R327) -/

/-- rd = f ra rb. -/
def alu (slots : Nat) (f : Word → Word → Word) : Body :=
  pureBody slots (fun r w => r.setReg (iRd w) (f (r.reg (iRa w)) (r.reg (iRb w))))

/-- Shift by the rb field. -/
def shiftImm (f : Word → Nat → Word) : Body := pureBody 1 (fun r w => r.setReg (iRd w) (f (r.reg (iRa w)) (iRb w)))

/-- The flags of r = a − b (R327). -/
def Run.compare (r : Run) (a b : Word) : Run :=
  let d := a - b
  let signed := a.toInt - b.toInt
  r.setNzcv (d == 0) d.msb (decide (b.toNat ≤ a.toNat)) (decide (signed < -(2 : Int) ^ 31 ∨ 2 ^ 31 - 1 < signed))

/-- A signed value held within 32 bits, and whether it was cut. -/
def satSigned (v : Int) : Word × Bool :=
  if v < -(2 : Int) ^ 31 then (BitVec.ofInt 32 (-(2 : Int) ^ 31), true)
  else if 2 ^ 31 - 1 < v then (BitVec.ofInt 32 (2 ^ 31 - 1), true)
  else (BitVec.ofInt 32 v, false)

/-- rd = a saturating signed result, with Q. -/
def aluSat (f : Int → Int → Int) : Body :=
  pureBody 1 (fun r w =>
    let (v, q) := satSigned (f (r.reg (iRa w)).toInt (r.reg (iRb w)).toInt)
    (r.setReg (iRd w) v).setQ q)

/-- Division and remainder; DIVZERO is code 16. -/
def divide (f : Nat → Nat → Nat) : Body := fun s _ r w _ =>
  let b := (r.reg (iRb w)).toNat
  if b = 0 then .fault 16 0 else .done s (r.setReg (iRd w) (BitVec.ofNat 32 (f (r.reg (iRa w)).toNat b))).next 12

/-- Octets reversed. -/
def bswap (a : Word) : Word := BitVec.ofNat 32 (leNat (natBe 4 a.toNat))

/-- Leading zeros. -/
def clz (a : Word) : Nat := if a = 0 then 32 else 31 - Nat.log2 a.toNat

def bodyAdd : Body := alu 1 (· + ·)
def bodySub : Body := alu 1 (· - ·)
def bodyAnd : Body := alu 1 (· &&& ·)
def bodyOr : Body := alu 1 (· ||| ·)
def bodyXor : Body := alu 1 (· ^^^ ·)
def bodySll : Body := alu 1 (fun a b => a <<< (b.toNat % 32))
def bodySrl : Body := alu 1 (fun a b => a >>> (b.toNat % 32))
def bodySra : Body := alu 1 (fun a b => a.sshiftRight (b.toNat % 32))
def bodySlli : Body := shiftImm (fun a n => a <<< n)
def bodySrli : Body := shiftImm (fun a n => a >>> n)
def bodySrai : Body := shiftImm (fun a n => a.sshiftRight n)
def bodyMul : Body := alu 1 (· * ·)
def bodyMulhu : Body := alu 1 (fun a b => BitVec.ofNat 32 (a.toNat * b.toNat / 2 ^ 32))
def bodyMulhs : Body := alu 1 (fun a b => BitVec.ofInt 32 (a.toInt * b.toInt / 2 ^ 32))
def bodyDivu : Body := divide (· / ·)
def bodyRemu : Body := divide (· % ·)
def bodyMin : Body := alu 1 (fun a b => if a.toInt < b.toInt then a else b)
def bodyMax : Body := alu 1 (fun a b => if a.toInt < b.toInt then b else a)
def bodyMinu : Body := alu 1 (fun a b => if a.toNat < b.toNat then a else b)
def bodyMaxu : Body := alu 1 (fun a b => if a.toNat < b.toNat then b else a)
def bodyCmp : Body := pureBody 1 (fun r w => r.compare (r.reg (iRa w)) (r.reg (iRb w)))
def bodyTst : Body := pureBody 1 (fun r w =>
  let d := r.reg (iRa w) &&& r.reg (iRb w)
  r.setNzcv (d == 0) d.msb false false)
def bodyBswap : Body := alu 1 (fun a _ => bswap a)
def bodyClz : Body := alu 1 (fun a _ => BitVec.ofNat 32 (clz a))
def bodyMovf : Body := pureBody 1 (fun r w => r.setReg (iRd w) (BitVec.ofNat 32 (r.fl % 32)))
def bodySetf : Body := pureBody 1 (fun r w => { r with fl := (r.reg (iRa w)).toNat % 32 })
def bodyAdds : Body := aluSat (· + ·)
def bodySubs : Body := aluSat (· - ·)

/-! ### Immediates (R328) -/

/-- The sign-extended immediate as a word. -/
def iSext (w : Word) : Word := BitVec.ofInt 32 (sext 16 (iImm w))

def aluImm (f : Word → Word → Word) : Body := pureBody 1 (fun r w => r.setReg (iRd w) (f (r.reg (iRa w)) w))

def bodyAddi : Body := aluImm (fun a w => a + iSext w)
def bodyAndi : Body := aluImm (fun a w => a &&& BitVec.ofNat 32 (iImm w))
def bodyOri : Body := aluImm (fun a w => a ||| BitVec.ofNat 32 (iImm w))
def bodyXori : Body := aluImm (fun a w => a ^^^ BitVec.ofNat 32 (iImm w))
def bodyLui : Body := pureBody 1 (fun r w => r.setReg (iRd w) (BitVec.ofNat 32 (iImm w * 65536)))
def bodyCmpi : Body := pureBody 1 (fun r w => r.compare (r.reg (iRa w)) (iSext w))

/-! ### Loads and stores (R320 to R322, R328) -/

/-- The address of a load or store. -/
def Run.loadAddr (r : Run) (w : Word) : Nat := (r.reg (iRa w) + iSext w).toNat

/-- Slots of an access to an address. -/
def accessSlots (a : Nat) : Nat := if inShared a then 2 else 1

/-- The checks of an access of n octets, aligned to `al`, with WINDOW before ALIGN (R325): the exception, if any. -/
def Run.accessFault (r : Run) (a n al : Nat) : Option (Nat × Nat) :=
  match r.outside a n with
  | some b => some (3, b)
  | none => if a % al ≠ 0 then some (4, a) else none

/-- A load of n octets whose value is made by f. -/
def load (n : Nat) (f : Nat → Word) : Body := fun s e r w fin =>
  let a := r.loadAddr w
  match r.accessFault a n n with
  | some (c, b) => .fault c b
  | none =>
    if inHeap a && !fin then .wait 0 s r
    else match s.engPoison e r a n with
    | some b => .fault 5 b
    | none => .done (s.engRead e r a n) (r.setReg (iRd w) (f (leNat (s.engBytes e r a n)))).next (accessSlots a)

/-- A store of n octets. -/
def store (n : Nat) : Body := fun s e r w fin =>
  let a := r.loadAddr w
  match r.accessFault a n n with
  | some (c, b) => .fault c b
  | none =>
    if inHeap a && !fin then .wait 0 s r
    else
      let (t, q) := s.engStore e r a (natLe n (r.reg (iRd w)).toNat)
      .done t q.next (accessSlots a)

def bodyLdw : Body := load 4 (BitVec.ofNat 32)
def bodyLdh : Body := load 2 (BitVec.ofNat 32)
def bodyLdhs : Body := load 2 (fun v => BitVec.ofInt 32 (sext 16 v))
def bodyLdb : Body := load 1 (BitVec.ofNat 32)
def bodyLdbs : Body := load 1 (fun v => BitVec.ofInt 32 (sext 8 v))
def bodyStw : Body := store 4
def bodySth : Body := store 2
def bodyStb : Body := store 1

/-! ### Control flow (R329, R330) -/

/-- The predicate of BC. -/
def Run.cond (r : Run) (k : Nat) : Bool :=
  let p := match k / 2 with
    | 0 => r.z
    | 1 => r.n
    | 2 => r.c
    | 3 => r.v
    | 4 => !r.c || r.z
    | 5 => r.n != r.v
    | 6 => r.z || (r.n != r.v)
    | 7 => r.q
    | _ => true
  if k = 16 then true else if k % 2 = 1 then !p else p

/-- A target relative to the program counter, in 14 bits. -/
def Run.target (r : Run) (off : Int) : Nat := (((r.pc : Int) + off) % 16384).toNat

def bodyBc : Body := fun s _ r w _ =>
  if r.cond (iRd w) then .done s { r with pc := r.target (sext 16 (iImm w)) } 2 else .done s r.next 1

def bodyJal : Body := fun s _ r w _ =>
  .done s { r.setReg (iRd w) (BitVec.ofNat 32 (r.pc + 1)) with pc := r.target (sext 21 (iOff21 w)) } 2

/-- JALR; a target of 16,384 or more raises FETCH. -/
def bodyJalr : Body := fun s _ r w _ =>
  let t := r.loadAddr w
  if 16384 ≤ t then .fault 2 t else .done s { r.setReg (iRd w) (BitVec.ofNat 32 (r.pc + 1)) with pc := t } 2

/-! ### Signals, scaling, counters, CRC and atomics (R331 to R336) -/

/-- First octet address and number of octets that hold a signal. -/
def sigSpan (a off width : Nat) : Nat × Nat := ((a + off / 8) % 2 ^ 32, (off + width - 1) / 8 - off / 8 + 1)

/-- Position of value bit i, counted from bit 0 of the first octet of the span. -/
def sigPos (be : Bool) (off width i : Nat) : Nat := off % 8 + (if be then width - 1 - i else i)

/-- The bit of an octet that holds a position. -/
def sigBit (be : Bool) (n : Nat) : Nat := if be then 7 - n % 8 else n % 8

def sigGet (be : Bool) (off width : Nat) (l : List Byte) : Nat :=
  (List.range width).foldl (fun v i =>
    let n := sigPos be off width i
    if (oct l (n / 8)).testBit (sigBit be n) then v + 2 ^ i else v) 0

def sigPut (be : Bool) (off width v : Nat) (l : List Byte) : List Byte :=
  (List.range width).foldl (fun l i =>
    let n := sigPos be off width i
    let b := oct l (n / 8)
    let k := sigBit be n
    setAt l (n / 8) (BitVec.ofNat 8 (if v.testBit i then b ||| 2 ^ k else b &&& (255 - 2 ^ k)))) l

def bodySigx : Body := fun s e r w fin =>
  let fn := iFn w
  let width := fn % 32 + 1
  let be := fn.testBit 10
  let off := (r.reg (iRb w)).toNat
  let (a, n) := sigSpan (r.reg (iRa w)).toNat off width
  match r.outside a n with
  | some b => .fault 3 b
  | none =>
    if inHeap a && !fin then .wait 0 s r
    else match s.engPoison e r a n with
    | some b => .fault 5 b
    | none =>
      let v := sigGet be off width (s.engBytes e r a n)
      .done (s.engRead e r a n) (r.setReg (iRd w) (if fn.testBit 9 then BitVec.ofInt 32 (sext width v) else BitVec.ofNat 32 v)).next 2

/-- SIGI reads its octets and then stores them, with a wait for each in the heap; the bits it does not name keep the value
they have as it stores. -/
def bodySigi : Body := fun s e r w fin =>
  let fn := iFn w
  let width := fn % 32 + 1
  let be := fn.testBit 10
  let off := (r.reg (iRb w)).toNat
  let (a, n) := sigSpan (r.reg (iRa w)).toNat off width
  match r.outside a n with
  | some b => .fault 3 b
  | none =>
    let k := r.step fin
    if inHeap a && k == 0 then .wait 0 s r 1
    else match (if k = 2 then none else s.engPoison e r a n) with
    | some b => .fault 5 b
    | none =>
      let s := if k = 2 then s else s.engRead e r a n
      if k = 1 then .wait 0 s r 2
      else
        let (t, q) := s.engStore e r a (sigPut be off width (r.reg (iRd w)).toNat (s.engBytes e r a n))
        .done t q.next 3

def bodyScale : Body := pureBody 2 (fun r w =>
  let fn := iFn w
  let sg := fn.testBit 10
  let sh := bits fn 9 5
  let width := fn % 32 + 1
  let a := r.reg (iRa w)
  let b := r.reg (iRb w)
  let p : Int := if sg then a.toInt * b.toInt else (a.toNat * b.toNat : Nat)
  let v := p / (2 : Int) ^ sh
  let lo : Int := if sg then -(2 : Int) ^ (width - 1) else 0
  let hi : Int := if sg then (2 : Int) ^ (width - 1) - 1 else (2 : Int) ^ width - 1
  (r.setReg (iRd w) (BitVec.ofInt 32 (if v < lo then lo else if hi < v then hi else v))).setQ (decide (v < lo ∨ hi < v)))

def bodyCtrIncrement : Body := pureBody 1 (fun r w =>
  let a := (r.reg (iRa w)).toNat
  r.setReg (iRd w) (if (r.reg (iRb w)).toNat ≤ a then 0 else BitVec.ofNat 32 (a + 1)))

def bodyCtrDelta : Body := pureBody 1 (fun r w =>
  let a := (r.reg (iRa w)).toNat
  let old := (r.reg (iRd w)).toNat
  let top := (r.reg (iRb w)).toNat
  if top < a ∨ top < old then (r.setReg (iRd w) 0xFFFFFFFF#32).setQ true
  else r.setReg (iRd w) (BitVec.ofNat 32 (if old ≤ a then a - old else a + (top + 1) - old)))

/-- Width, polynomial and bit order (MSB first) of a CRC parameter set (R334). -/
def crcSet (k : Nat) : Nat × Nat × Bool :=
  match k with
  | 0 => (8, 0x1D, true)
  | 1 => (8, 0x2F, true)
  | 2 => (16, 0x1021, true)
  | 3 => (16, 0xA001, false)
  | 4 => (32, 0xEDB88320, false)
  | 5 => (32, 0xC8DF352F, false)
  | _ => (32, 0x82F63B78, false)

/-- One step of an MSB-first CRC of width n. -/
def crcMsb (n poly c : Nat) : Nat → Nat
  | 0 => c
  | k + 1 => crcMsb n poly ((if c.testBit (n - 1) then (2 * c) ^^^ poly else 2 * c) % 2 ^ n) k

/-- The CRC advanced over octets. -/
def crcOver (k c : Nat) (l : List Byte) : Nat :=
  let (n, poly, msb) := crcSet k
  if msb then l.foldl (fun c o => crcMsb n poly (c ^^^ (o.toNat * 2 ^ (n - 8))) 8) (c % 2 ^ n) else crcRun poly (c % 2 ^ n) l

def bodyCrc : Body := fun s e r w fin =>
  let a := (r.reg (iRa w)).toNat
  let n := (r.reg (iRb w)).toNat
  match (if n = 0 then none else r.outside a n) with
  | some b => .fault 3 b
  | none =>
    if inHeap a && decide (0 < n) && !fin then .wait 0 s r
    else match (if n = 0 then none else s.engPoison e r a n) with
    | some b => .fault 5 b
    | none =>
      if 16384 < n then .fault 17 0
      else
        let v := crcOver (iFn w) (r.reg (iRd w)).toNat (s.engBytes e r a n)
        .done (if n = 0 then s else s.engRead e r a n) (r.setReg (iRd w) (BitVec.ofNat 32 v)).next (2 + (n + 7) / 8)

/-- An atomic: rd takes the word, f makes the new one of it and rb; it acts on the memory at once (R335, R336, R575). -/
def amo (f : Word → Word → Word) : Body := fun s e r w fin =>
  let a := (r.reg (iRa w)).toNat
  match r.accessFault a 4 4 with
  | some (c, b) => .fault c b
  | none =>
    if inHeap a && !fin then .wait 0 s r
    else
      let s := match placeClass (r.place e a) with
        | some (c, o) => s.flushKey (codeKey c (codeAddr c o))
        | none => s
      match s.engPoison e r a 4 with
      | some b => .fault 5 b
      | none =>
        let old := s.engWord e r a
        let (t, q) := (s.engRead e r a 4).engStore e r a (natLe 4 (f old (r.reg (iRb w))).toNat)
        .done t (q.setReg (iRd w) old).next 2

def bodyAmoadd : Body := amo (· + ·)
def bodyAmoswap : Body := amo (fun _ b => b)
def bodyAmomaxu : Body := amo (fun a b => if a.toNat < b.toNat then b else a)

/-! ### Tenant time (R337) -/

def bodyTime : Body := fun s _ r w _ =>
  let fn := iFn w
  let m := if fn.testBit 2 then r.work.item.stamp else s.mer
  let v := match fn % 4 with
    | 0 => s.viewAt r.work.item.tenant m
    | 1 => s.viewAt 1024 m
    | _ => m
  .done s (r.setPair (iRd w) v).next 3

/-! ### Queues (R338) -/

/-- The engine may operate on queue q: 9 QUEUE, 17 OPERAND. `side`: 0 the consumer's end, 1 the producer's, 2 either. -/
def State.sqFault (s : State) (e : Nat) (r : Run) (q side : Nat) : Option Nat :=
  if 1024 ≤ q then some 17
  else if !s.flag (SQUEUE q) SQUEUE_VALID || q / 64 != e / 8 || s.fld (SQUEUE q) SQUEUE_TENANT != r.work.item.tenant then some 9
  else
    let h := s.sqHost q
    let ok := match side with
      | 0 => (h == 0 || h == 1) && s.fld (SQUEUE q) SQUEUE_CONSUMER == e
      | 1 => h == 0 || h == 2
      | _ => true
    if ok then none else some 9

/-- A queue operation on the consumer's end that takes no buffer. -/
def sqSimple (side : Nat) (f : State → Nat → State × Word) : Body := fun s e r w _ =>
  let q := (r.reg (iRa w)).toNat
  match s.sqFault e r q side with
  | some c => .fault c 0
  | none =>
    let (t, v) := f s q
    .done t ((r.setReg (iRd w) v).setZ true).next 2

def bodyQopMark : Body := sqSimple 0 (fun s q => (s.sqMarkNow q, 0))
def bodyQopRewind : Body := sqSimple 0 (fun s q => (s.sqRewind q, 0))
def bodyQopRelease : Body := sqSimple 0 (fun s q => (s.sqRelease q, 0))
def bodyQopFill : Body := sqSimple 2 (fun s q => (s, BitVec.ofNat 32 (s.sqHeld q * 65536 + s.sqUnread q)))

/-- Octets of an item buffer: those of the queue's ISIZE; for a queue above 1,023, which has none, the least item's 16. -/
def State.sqSize (s : State) (q : Nat) : Nat := if q < 1024 then s.sqBytes q else 16

/-- The checks of an item buffer (R320, R321, R325): WINDOW and ALIGN come before OPERAND and QUEUE. -/
def State.sqBuffer (s : State) (r : Run) (q a : Nat) : Option (Nat × Nat) := r.accessFault a (s.sqSize q) 4

/-- GET has an item of `l` octets, or the idle item (`none`), to write to the buffer; the heap makes it wait first. -/
def State.getEnd (s : State) (e : Nat) (r : Run) (w : Word) (item : Option (List Byte)) (n : Nat) : Ex :=
  let l := match item with | some l => l | none => List.replicate n 0
  let (t, x) := s.engStore e r (r.reg (iRb w)).toNat l
  .done t ((x.setReg (iRd w) (BitVec.ofNat 32 (leNat (slice l 0 4)))).setZ item.isSome).next 2

/-- The item at the read pointer of queue q, as n octets: POISON, none as it is empty, or the item. -/
def State.getLook (s : State) (q n : Nat) : Option (Bool × List Byte) :=
  if s.sqUnread q = 0 then none
  else some ((s.memPoison 0 (s.sqSlot q (s.sqRd q) 0) n).isSome, slice ((s.sqItem q).flatMap (fun v => natLe 4 v.toNat)) 0 n)

/-- Queue q without its oldest unread item, as an engine reads it. -/
def State.getTake (s : State) (q n : Nat) : State :=
  match s.sqGet q with
  | some (_, t) => t.memRead 0 (s.sqSlot q (s.sqRd q) 0) n
  | none => s

/-- GET: step 1 waits for an item, with a buffer's worth of zeros held; step 2 for the heap to take the item, which leaves
the queue as it completes (R314); step 3 for the heap to take the idle item (R303, R322, R338). -/
def bodyQopGet : Body := fun s e r w fin =>
  let q := (r.reg (iRa w)).toNat
  let a := (r.reg (iRb w)).toNat
  let k := r.step fin
  let n := if k = 0 then s.sqSize q else r.held.length
  match (if k = 0 then s.sqBuffer r q a else none) with
  | some (c, b) => .fault c b
  | none =>
    match (if k = 0 then s.sqFault e r q 0 else none) with
    | some c => .fault c 0
    | none =>
      if k = 2 then (s.getTake q n).getEnd e r w (some r.held) n
      else if k = 3 then s.getEnd e r w none n
      else
        match s.getLook q n with
        | none =>
          if k = 1 ∨ s.sqHost q = 0 then .wait 5 s r 1 (List.replicate n 0)
          else if inHeap a then .wait 0 s r 3 (List.replicate n 0)
          else s.getEnd e r w none n
        | some (true, _) => .fault 5 (a / 4 * 4)
        | some (false, l) => if inHeap a then .wait 0 s r 2 l else (s.getTake q n).getEnd e r w (some l) n

/-- PUT: step 1 waits for the heap to give the item, step 2 for room in the queue, with the item held (R303, R322, R338). -/
def bodyQopPut : Body := fun s e r w fin =>
  let q := (r.reg (iRa w)).toNat
  let a := (r.reg (iRb w)).toNat
  let k := r.step fin
  match (if k = 0 then s.sqBuffer r q a else none) with
  | some (c, b) => .fault c b
  | none =>
    let n := s.sqSize q
    if inHeap a && k == 0 then .wait 0 s r 1
    else match (if k = 2 then none else s.engPoison e r a n) with
    | some b => .fault 5 b
    | none =>
      match (if k = 2 then none else s.sqFault e r q 1) with
      | some c => .fault c 0
      | none =>
        let l := if k = 2 then r.held else s.engBytes e r a n
        let s := if k = 2 then s else s.engRead e r a n
        match s.sqPut q ((List.range (n / 4)).map (fun k => BitVec.ofNat 32 (leNat (slice l (4 * k) 4)))) with
        | some t => .done t ((r.setReg (iRd w) 0).setZ true).next 2
        | none =>
          if k = 2 ∨ s.sqHost q = 0 then .wait 5 s r 2 l
          else
            let t := ((s.count (SQUEUE q + 16)).engCount e 5).stEvent PANEL_STEVT_PUT_FAIL
            .done t ((r.setReg (iRd w) 0).setZ false).next 2

/-! ### Lookups and freshness (R339 to R341) -/

def bodyRlkp : Body := fun s e r w fin =>
  let src := (r.reg (iRa w)).toNat
  let id := (r.reg (iRb w)).toNat
  let ide := (iFn w).testBit 0
  if 5183 < src then .fault 17 0
  else if !fin then .wait 1 s r
  else
    let s := s.obs (e / 8) 0x003 1 (tenant := some r.work.item.tenant) (master := some (srcForm r.work.item.src))
    let hit := if 2 ^ 29 ≤ id then none
      else match s.routeIndex src r.work.item.tenant ide id with
        | .ok i =>
          let w := s.rd (ROUTE i)
          if getB w ROUTE_VALID ∧ getF w ROUTE_DIDX + getF w ROUTE_CNT ≤ 262143 then some w else none
        | .error _ => none
    match hit with
    | some v => .done s ((r.setReg (iRd w) v).setZ true).next 2
    | none => .done s ((r.setReg (iRd w) 0).setZ false).next 2

/-- SLKP: step 1 waits for the heap to give the MAC address, step 2 for the lookup, with the address held (R322, R340). -/
def bodySlkp : Body := fun s e r w fin =>
  let a := (r.reg (iRb w)).toNat
  match r.outside a 6 with
  | some b => .fault 3 b
  | none =>
    let k := r.step fin
    if k = 2 then
      let t := s.obs (e / 8) 0x003 1 (tenant := some r.work.item.tenant) (master := some (srcForm r.work.item.src))
      match s.staFind r.work.item.tenant ((r.reg (iRa w)).toNat % 4096) (beNat r.held) with
      | some (_, x) =>
        .done t ((r.setReg (iRd w) (BitVec.ofNat 32 (2 ^ 31 + 2 ^ 30 * bit x.drop + 2 ^ 29 * bit x.mcast + x.dest))).setZ true).next 2
      | none => .done t ((r.setReg (iRd w) 0).setZ false).next 2
    else if inHeap a && k == 0 then .wait 0 s r 1
    else
      match s.engPoison e r a 6 with
      | some b => .fault 5 b
      | none => .wait 1 (s.engRead e r a 6) r 2 (s.engBytes e r a 6)

/-- A freshness operation: FRESH is code 10; `f` gives the outcome, the state and the pair. -/
def fresh (f : State → Nat → Nat → Bool × State × Option Nat) : Body := fun s _ r w fin =>
  let k := (r.reg (iRa w)).toNat
  if 65535 < k then .fault 17 0
  else if !fin then .wait 2 s r
  else if !s.freshMay k r.work.item.tenant then .fault 10 0
  else
    let (ok, t, v) := f s k (r.pair (iRd w))
    let r := match v with | some v => r.setPair (iRd w) v | none => r
    .done t (r.setZ ok).next 2

def bodyFrshRead : Body := fresh (fun s k _ => (true, s, some (s.rd64 (FRESH k))))
def bodyFrshRaise : Body := fresh (fun s k v =>
  let (ok, t) := s.freshRaise k v
  (ok, t, none))
def bodyFrshIncrement : Body := fresh (fun s k _ =>
  let (ok, t) := s.freshInc k
  (ok, t, if ok then some (t.rd64 (FRESH k)) else none))

/-! ### Cipher requests (R342 to R346, R375) -/

/-- The fields of a request block. -/
structure CiphBlk where
  op : Nat
  alg : Nat
  tbits : Nat
  slot : Nat
  alen : Nat
  dlen : Nat
  aaddr : Nat
  daddr : Nat
  naddr : Nat
  oaddr : Nat
  taddr : Nat
  /-- reserved fields that are not 0 -/
  rsv : Bool
  deriving DecidableEq, Repr

/-- A request block of 32 octets (R343). -/
def CiphBlk.ofOctets (l : List Byte) : CiphBlk :=
  let w (k : Nat) : Nat := leNat (slice l (4 * k) 4)
  { op := bits (w 0) 31 28, alg := bits (w 0) 27 24, tbits := bits (w 0) 23 16, slot := bits (w 0) 11 0, alen := bits (w 1) 31 16,
    dlen := bits (w 1) 15 0, aaddr := w 2, daddr := w 3, naddr := w 4, oaddr := w 5, taddr := w 6,
    rsv := bits (w 0) 15 12 != 0 || w 7 != 0 }

/-- The OP and ALG pair is one of R344. -/
def CiphBlk.pair (b : CiphBlk) : Bool :=
  (decide (b.op ≤ 1) && decide (b.alg = 0 ∨ b.alg = 2)) || (decide (b.op = 2 ∨ b.op = 3) && decide (b.alg = 1 ∨ b.alg = 3)) ||
    (b.op == 4 && b.alg == 4)

def CiphBlk.tagged (b : CiphBlk) : Bool := b.op != 4
def CiphBlk.malformed (b : CiphBlk) : Bool :=
  b.rsv || !b.pair || (b.tagged && (b.tbits == 0 || decide (128 < b.tbits))) || decide (16384 < b.alen + b.dlen)

def CiphBlk.tagLen (b : CiphBlk) : Nat := (b.tbits + 7) / 8
def CiphBlk.outLen (b : CiphBlk) : Nat :=
  match b.op with
  | 0 => b.tagLen
  | 1 => 0
  | 2 => b.dlen + b.tagLen
  | 3 => b.dlen
  | _ => 48

/-- The input ranges of a request: data, received tag and nonce. -/
def CiphBlk.inputs (b : CiphBlk) : List (Nat × Nat) :=
  [(b.aaddr, b.alen), (b.daddr, if b.op = 2 ∨ b.op = 3 then b.dlen else 0), (b.naddr, if b.alg = 0 ∨ b.op = 4 then 0 else 12),
   (b.taddr, if b.op = 1 ∨ b.op = 3 then b.tagLen else 0)]

/-- The lane a request goes to: its own, the other of the panel with REDIRECTED counted, none to wait for, or both
disabled (R375). -/
inductive LanePick where
  | lane (n : Nat) (moved : Bool)
  | wait
  | off
  deriving DecidableEq, Repr

def State.laneOpen (s : State) (n : Nat) : Bool := s.flag (CIPH_LANEn n) CIPH_LANEn_EN && !s.flag (CIPH_LANEn n) CIPH_LANEn_RESET

def State.pickLane (s : State) (e hash : Nat) : LanePick :=
  let n := 2 * (e / 8) + bits hash 11 11
  let o := 2 * (e / 8) + (1 - bits hash 11 11)
  if s.laneOpen n then .lane n false
  else if s.laneOpen o then .lane o true
  else if !s.flag (CIPH_LANEn n) CIPH_LANEn_EN ∧ !s.flag (CIPH_LANEn o) CIPH_LANEn_EN then .off
  else .wait

/-- The input ranges, or their octets, one after another. -/
def CiphBlk.cut (b : CiphBlk) (l : List Byte) : List (List Byte) :=
  let n (k : Nat) : Nat := (b.inputs.map (fun x => x.2)).getD k 0
  [slice l 0 (n 0), slice l (n 0) (n 1), slice l (n 0 + n 1) (n 2), slice l (n 0 + n 1 + n 2) (n 3)]

/-- Send a request, whose block and inputs are held, to a lane. -/
def State.ciphSend (s : State) (e : Nat) (r : Run) (b : CiphBlk) (l : List Byte) (n : Nat) (moved : Bool) : Ex :=
  let x := b.cut (l.drop 32)
  let req : CiphReq := { engine := e, op := b.op, alg := b.alg, tbits := b.tbits, slot := b.slot, aad := x.getD 0 [], data := x.getD 1 [],
                         nonce := x.getD 2 [], rxTag := x.getD 3 [], tenant := r.work.item.tenant, stamp := r.work.item.stamp, accepted := s.mer,
                         keys := if b.op = 4 then [] else s.keySnap b.slot }
  let t := if b.op = 4 then s else s.memRead 6 (KEY_ATTR b.slot 0) 32
  let t := if moved then t.laneCount n 6 else t
  let t := (t.laneCount n 0).obs (e / 8) 0x050 1 (tenant := some req.tenant) (master := some n)
  let t := t.obs (e / 8) 0x051 (b.alen + b.dlen) (tenant := some req.tenant) (master := some n)
  let t : State := { t with replies := Sparse.set (fun _ => (16, [])) t.replies e (16, []) }
  .wait 4 (t.setLane n ((t.lane n).accept req)) { r with lane := n } 4 l

/-- CIPH ends with a status and its output. -/
def State.ciphEnd (s : State) (e : Nat) (r : Run) (w : Word) (b : CiphBlk) (st : Nat) (out : List Byte) : Ex :=
  let r := { r with work := { r.work with item := r.work.item.mark 6 s.mer } }
  let (t, q) := if st = 0 ∧ b.outLen ≠ 0 then s.engStore e r b.oaddr (slice out 0 b.outLen) else (s, r)
  .done t ((q.setReg (iRd w) (BitVec.ofNat 32 st)).setZ (st == 0)).next 2

/-- The result that a lane left for the engine is taken. -/
def State.replyTaken (s : State) (e : Nat) : State := { s with replies := Sparse.set (fun _ => (16, [])) s.replies e (16, []) }

/-- The request, whose block and inputs `l` have been read, goes to a lane, waits for one, or is lost (R375, R382). -/
def State.ciphAsk (s : State) (e : Nat) (r : Run) (w : Word) (b : CiphBlk) (l : List Byte) : Ex :=
  match s.pickLane e r.work.item.hash with
  | .lane n moved => s.ciphSend e r b l n moved
  | .wait => .wait 3 s r 3 l
  | .off => s.ciphEnd e r w b 3 []

/-- The inputs of a request are read: POISON, then OPERAND, else it goes to a lane. -/
def State.ciphRead (s : State) (e : Nat) (r : Run) (w : Word) (b : CiphBlk) (blk : List Byte) : Ex :=
  match (if b.pair then b.inputs.findSome? (fun x => s.engPoison e r x.1 x.2) else none) with
  | some x => .fault 5 x
  | none =>
    if b.malformed then .fault 17 0
    else (b.inputs.foldl (fun t x => t.engRead e r x.1 x.2) s).ciphAsk e r w b (blk ++ b.inputs.flatMap (fun x => s.engBytes e r x.1 x.2))

/-- The request block has been read: the ranges it names are checked, and its inputs read (R320, R345, R346). -/
def State.ciphBlock (s : State) (e : Nat) (r : Run) (w : Word) (a : Nat) : Ex :=
  let blk := s.engBytes e r a 32
  let b := CiphBlk.ofOctets blk
  match (if b.pair then (b.inputs ++ [(b.oaddr, b.outLen)]).findSome? (fun x => if x.2 = 0 then none else r.outside x.1 x.2) else none) with
  | some x => .fault 3 x
  | none =>
    match s.engPoison e r a 32 with
    | some x => .fault 5 x
    | none =>
      let t := s.engRead e r a 32
      if b.pair && b.inputs.any (fun x => inHeap x.1 && decide (0 < x.2)) then .wait 0 t r 2 blk else t.ciphRead e r w b blk

/-- CIPH: step 1 waits for the heap to give the request block, step 2 the inputs, step 3 for a lane that takes requests, step
4 for its result, step 5 for the heap to take the output. The block and the inputs are read once (R322, R342, R345, R375). -/
def bodyCiph : Body := fun s e r w fin =>
  let a := (r.reg (iRa w)).toNat
  let b := CiphBlk.ofOctets (slice r.held 0 32)
  let (st, out) := Sparse.get (fun _ => (16, [])) s.replies e
  match r.step fin with
  | 0 =>
    match r.accessFault a 32 4 with
    | some (c, b) => .fault c b
    | none => if inHeap a then .wait 0 s r 1 else s.ciphBlock e r w a
  | 1 => s.ciphBlock e r w a
  | 2 => s.ciphRead e r w b r.held
  | 3 => s.ciphAsk e r w b r.held
  | 4 =>
    if st = 16 then .wait 4 s r 4 r.held
    else if st = 0 ∧ b.outLen ≠ 0 ∧ inHeap b.oaddr then .wait 0 s r 5 r.held
    else (s.replyTaken e).ciphEnd e r w b st out
  | _ => (s.replyTaken e).ciphEnd e r w b st out

/-! ### Emit and end (R347, R348) -/

/-- LEN lies outside the limit of the emit's format. -/
def emitLenBad (h : Nat) : Bool :=
  let len := bits h 13 0
  if h.testBit 27 then decide (len < 14 ∨ 10240 < len)
  else match bits h 26 25 with
    | 0 => decide (8 < len)
    | 1 => decide (64 < len)
    | 2 => decide (len < 1 ∨ 2048 < len)
    | _ => decide (len < 1 ∨ 8 < len)

/-- The emit of header word 0 is a classical CAN remote frame, which carries no data (R348). -/
def emitRemote (h : Nat) : Bool := !h.testBit 27 && bits h 26 25 == 0 && h.testBit 23

/-- Octets of data that a staged emit holds. -/
def EmitRec.held (m : EmitRec) : Nat := if emitRemote (m.hdr.getD 0 0).toNat then 0 else m.data.length

/-- The header of an emit has been read: its data are checked and copied; `k` is 2 once the heap has given them (R348). -/
def State.emitStage (s : State) (e : Nat) (r : Run) (w : Word) (hdr : List Byte) (k : Nat) : Ex :=
  let d := (r.reg (iRb w)).toNat
  let h := leNat (slice hdr 0 4)
  let remote := emitRemote h
  let len := bits h 13 0
  let n := if remote then 0 else len
  match (if n = 0 then none else r.outside d n) with
  | some b => .fault 3 b
  | none =>
    match (if k = 2 then none else s.engPoison e r (r.reg (iRa w)).toNat 32) with
    | some b => .fault 5 b
    | none =>
      let s := if k = 2 then s else s.engRead e r (r.reg (iRa w)).toNat 32
      if k ≠ 2 ∧ inHeap d ∧ 0 < n then .wait 0 s r 2 hdr
      else match (if n = 0 then none else s.engPoison e r d n) with
      | some b => .fault 5 b
      | none =>
        if 16 ≤ r.emits.length ∨ 16384 < r.emits.foldl (fun x m => x + m.held) n ∨ emitLenBad h then .fault 8 0
        else
          let data := if remote then List.replicate len 0 else s.engBytes e r d n
          let m : EmitRec := { hdr := (List.range 8).map (fun k => BitVec.ofNat 32 (leNat (slice hdr (4 * k) 4))), data := data }
          .done (if n = 0 then s else s.engRead e r d n) { r with emits := r.emits ++ [m] }.next (2 + (32 + len + 15) / 16)

/-- EMIT: step 1 waits for the heap to give the header, step 2 the data, with the header held (R322, R347, R348). -/
def bodyEmit : Body := fun s e r w fin =>
  let a := (r.reg (iRa w)).toNat
  match r.step fin with
  | 0 =>
    match r.accessFault a 32 4 with
    | some (c, b) => .fault c b
    | none => if inHeap a then .wait 0 s r 1 else s.emitStage e r w (s.engBytes e r a 32) 0
  | 1 => s.emitStage e r w (s.engBytes e r a 32) 1
  | _ => s.emitStage e r w r.held 2

def bodyEnd : Body := fun _ _ _ _ _ => .finish 0
def bodyDrop : Body := fun _ _ _ w _ => .finish (1 + iImm w)

def bodyNotify : Body := fun s e r w _ =>
  let (ok, t) := s.complete e r 0 0 (r.reg (iRa w))
  .done (if ok then t else s.engCount e 7) (r.setZ ok).next 1

/-! ### Issue (R314, R315, R323 to R325, R589) -/

/-- The bodies of the instructions that can stall. -/
def stallBody (code : Nat) : Option Body :=
  match code with
  | 0x0800 => some bodyLdw
  | 0x0900 => some bodyLdh
  | 0x0A00 => some bodyLdhs
  | 0x0B00 => some bodyLdb
  | 0x0C00 => some bodyLdbs
  | 0x0D00 => some bodyStw
  | 0x0E00 => some bodySth
  | 0x0F00 => some bodyStb
  | 0x1000 => some bodySigx
  | 0x1100 => some bodySigi
  | 0x1300 => some bodyCrc
  | 0x1500 => some bodyAmoadd
  | 0x1501 => some bodyAmoswap
  | 0x1502 => some bodyAmomaxu
  | 0x2000 => some bodyQopGet
  | 0x2001 => some bodyQopPut
  | 0x2100 => some bodyRlkp
  | 0x2200 => some bodySlkp
  | 0x2300 => some bodyFrshRead
  | 0x2301 => some bodyFrshRaise
  | 0x2302 => some bodyFrshIncrement
  | 0x2400 => some bodyCiph
  | 0x2800 => some bodyEmit
  | _ => none

/-- The instruction at the program counter, or the exception that fetching it raises (R315). -/
def State.fetch (s : State) (e : Nat) (r : Run) : Except Nat (Word × Nat) :=
  let l := r.work.entry
  if r.pc < entCodeBase l ∨ entCodeBase l + entCodeLen l ≤ r.pc then .error 2
  else if (s.memPoison 0 (IMEM e r.pc) 4).isSome then .error 1
  else match instrCode (s.rd (IMEM e r.pc)) with
    | none => .error 1
    | some c => .ok (s.rd (IMEM e r.pc), c)

/-- Most instructions of an item (R286, R296). -/
def Run.maxSteps (r : Run) : Nat :=
  let n := getF (entWord r.work.entry 6) PROGRAM_MAX_STEPS
  16 * (if n = 0 then 65536 else n)

/-- The tagging register of an engine steps with each instruction it issues (R589). -/
def State.itagStep (s : State) (e : Nat) (r : Run) : Option (Nat × Bool) × State :=
  let k := s.fld OBS_TAGCTL OBS_TAGCTL_ITAG_N
  if k = 0 ∨ s.obsLevel = 0 ∨ (s.flag OBS_TAGCTL OBS_TAGCTL_TEN_EN ∧ r.work.item.tenant ≠ s.fld OBS_TAGCTL OBS_TAGCTL_TENANT) then (none, s)
  else
    let x := lfsrNext s.itagReg 2 e
    let s : State := { s with itagReg := Sparse.set (fun _ => none) s.itagReg e (some x) }
    let last := Sparse.get (fun _ => 0) s.itagLast e
    if !lfsrHit k x ∨ (last ≠ 0 ∧ s.mer < last - 1 + 200) then (none, s)
    else (some (s.mer, false), { s with itagLast := Sparse.set (fun _ => 0) s.itagLast e (s.mer + 1) })

/-- The engine is in this very wait already. -/
def Run.waits (r : Run) (kind step : Nat) : Bool :=
  match r.stall with
  | some x => x.kind == kind && x.step == step
  | none => false

/-- What an instruction came to takes effect on its engine; each wait of an instruction is a stall of its own (R322). -/
def State.settle (s : State) (e : Nat) (r : Run) : Ex → State
  | .done t q n =>
    let t := (t.stallDone e r).itagDue e r n 0
    let t := t.obs (e / 8) 0x040 n (tenant := some r.work.item.tenant) (master := some e)
    (t.setEng e { t.eng e with run := some { q with stall := none, itag := none, hurt := false } }).engShow e
  | .fault c a => s.engExc e r c a
  | .wait k t q step held =>
    let tag := match q.itag with | some (at_, _) => some (at_, true) | none => none
    if r.waits k step then (t.setEng e { t.eng e with run := some { q with stall := r.stall, itag := tag } }).engShow e
    else
      let t := t.stallDone e r
      let st : Stall := { kind := k, since := s.mer, step := step, held := held }
      ((t.setEng e { t.eng e with run := some { q with stall := some st, itag := tag } }).engShow e).obs (e / 8) 0x041 1 (master := some e)
  | .finish why =>
    let t := (s.itagDue e r 1 0).obs (e / 8) 0x040 1 (tenant := some r.work.item.tenant) (master := some e)
    if why = 0 then t.engEnd e r else t.engDrop e r (if why = 1 then rStitch else rAuth)

/-- The engine has fetched an instruction to issue: INSTR counts it, and the tagging register steps (R315, R589). -/
def State.fetched (s : State) (e : Nat) (r : Run) : State :=
  (State.itagStep ((s.memRead 0 (IMEM e r.pc) 4).count64 (PANEL_ENGe_INSTR e)) e r).2

/-- The work item with the issue counted in its steps, and the instruction's tag. -/
def State.fetchedRun (s : State) (e : Nat) (r : Run) : Run :=
  { r with steps := r.steps + 1
           word := s.rd (IMEM e r.pc)
           itag := (State.itagStep ((s.memRead 0 (IMEM e r.pc) 4).count64 (PANEL_ENGe_INSTR e)) e r).1 }

/-- An engine issues the instruction at its program counter, which is the one of `code`; FETCH, ILLEGAL and STEPS are
raised whatever the code. -/
def State.issue (s : State) (e code : Nat) (body : Body) : State :=
  match (s.eng e).run with
  | none => s
  | some r =>
    if r.stall.isSome then s
    else
      match s.fetch e r with
      | .error c => (if c = 2 then s else s.memRead 0 (IMEM e r.pc) 4).engExc e r c 0
      | .ok (w, c) =>
        if c ≠ code then s
        else if r.maxSteps ≤ r.steps then s.engExc e r 6 0
        else (s.fetched e r).settle e (s.fetchedRun e r) (body (s.fetched e r) e (s.fetchedRun e r) w false)

/-- Engine e, with work item state r, issues the instruction w of `code`: no stall, a good fetch, and steps left. -/
def State.Issues (s : State) (e code : Nat) (r : Run) (w : Word) : Prop :=
  (s.eng e).run = some r ∧ r.stall = none ∧ s.fetch e r = .ok (w, code) ∧ r.steps < r.maxSteps

/-- The instruction completes in n slots without leaving the engine's registers; f gives its effect on them. -/
def State.retire (s : State) (e : Nat) (r : Run) (n : Nat) (f : Run → Run) : State :=
  (s.fetched e r).settle e (s.fetchedRun e r) (.done (s.fetched e r) (f (s.fetchedRun e r)) n)

/-- STALL_LIMIT in ticks. -/
def State.stallLimit (s : State) : Nat := max 1 (s.fld PANEL_STCTRL PANEL_STCTRL_STALL_LIMIT) * usTicks

/-- What engine e waits for has come, as the model can see it: a lane that takes the request, a result, an item or room in
a queue. -/
def State.eventCome (s : State) (e : Nat) (r : Run) (st : Stall) : Bool :=
  decide (3 ≤ st.kind) &&
    match (instrCode r.word).bind stallBody with
    | none => false
    | some body => match body s e r r.word true with
      | .wait k _ _ n _ => !(k == st.kind && n == st.step)
      | _ => true

/-- STALL_END: what engine e waits for has come (R324). The heap, a lookup and the freshness table answer as this command
comes; a lane and a queue are looked at, and where they have nothing the stall goes on. -/
def State.stallEndOp (s : State) (e : Nat) : State :=
  match (s.eng e).run with
  | none => s
  | some r =>
    match r.stall with
    | none => s
    | some st =>
      if st.kind < 3 ∧ s.stallLimit < s.mer - st.since then s
      else
        match (instrCode r.word).bind stallBody with
        | none => s
        | some body => s.settle e r (body s e r r.word true)

/-- STALL_LIMIT_EXPIRY: the stall has lasted longer than the limit and its event has not come (R296, R324); `reached`: a
freshness operation had reached its table. -/
def State.stallExpiryOp (s : State) (e : Nat) (reached : Bool) : State :=
  match (s.eng e).run with
  | none => s
  | some r =>
    match r.stall with
    | none => s
    | some st =>
      if s.mer - st.since ≤ s.stallLimit ∨ s.eventCome e r st then s
      else
        let w := r.word
        let k := (r.reg (iRa w)).toNat
        let t := if st.kind = 2 ∧ reached ∧ s.freshMay k r.work.item.tenant then
            (match instrCode w with
             | some 0x2301 => (s.freshRaise k (r.pair (iRd w))).2
             | some 0x2302 => (s.freshInc k).2
             | _ => s)
          else s
        let t := if st.kind = 4 then
            t.setLane r.lane { t.lane r.lane with reqs := (t.lane r.lane).reqs.map (fun q => if q.engine = e then { q with engine := 128 } else q) }
          else t
        t.engExc e r 7 0

/-! ### Meanings -/

def State.isaAddOp (s : State) (e : Nat) : State := s.issue e 0x00 bodyAdd
def State.isaSubOp (s : State) (e : Nat) : State := s.issue e 1 bodySub
def State.isaAndOp (s : State) (e : Nat) : State := s.issue e 2 bodyAnd
def State.isaOrOp (s : State) (e : Nat) : State := s.issue e 3 bodyOr
def State.isaXorOp (s : State) (e : Nat) : State := s.issue e 4 bodyXor
def State.isaSllOp (s : State) (e : Nat) : State := s.issue e 5 bodySll
def State.isaSrlOp (s : State) (e : Nat) : State := s.issue e 6 bodySrl
def State.isaSraOp (s : State) (e : Nat) : State := s.issue e 7 bodySra
def State.isaSlliOp (s : State) (e : Nat) : State := s.issue e 8 bodySlli
def State.isaSrliOp (s : State) (e : Nat) : State := s.issue e 9 bodySrli
def State.isaSraiOp (s : State) (e : Nat) : State := s.issue e 10 bodySrai
def State.isaMulOp (s : State) (e : Nat) : State := s.issue e 11 bodyMul
def State.isaMulhuOp (s : State) (e : Nat) : State := s.issue e 12 bodyMulhu
def State.isaMulhsOp (s : State) (e : Nat) : State := s.issue e 13 bodyMulhs
def State.isaDivuOp (s : State) (e : Nat) : State := s.issue e 14 bodyDivu
def State.isaRemuOp (s : State) (e : Nat) : State := s.issue e 15 bodyRemu
def State.isaMinOp (s : State) (e : Nat) : State := s.issue e 16 bodyMin
def State.isaMaxOp (s : State) (e : Nat) : State := s.issue e 17 bodyMax
def State.isaMinuOp (s : State) (e : Nat) : State := s.issue e 18 bodyMinu
def State.isaMaxuOp (s : State) (e : Nat) : State := s.issue e 19 bodyMaxu
def State.isaCmpOp (s : State) (e : Nat) : State := s.issue e 20 bodyCmp
def State.isaTstOp (s : State) (e : Nat) : State := s.issue e 21 bodyTst
def State.isaBswapOp (s : State) (e : Nat) : State := s.issue e 22 bodyBswap
def State.isaClzOp (s : State) (e : Nat) : State := s.issue e 23 bodyClz
def State.isaMovfOp (s : State) (e : Nat) : State := s.issue e 24 bodyMovf
def State.isaSetfOp (s : State) (e : Nat) : State := s.issue e 25 bodySetf
def State.isaAddsOp (s : State) (e : Nat) : State := s.issue e 28 bodyAdds
def State.isaSubsOp (s : State) (e : Nat) : State := s.issue e 29 bodySubs
def State.isaAddiOp (s : State) (e : Nat) : State := s.issue e 0x100 bodyAddi
def State.isaAndiOp (s : State) (e : Nat) : State := s.issue e 0x200 bodyAndi
def State.isaOriOp (s : State) (e : Nat) : State := s.issue e 0x300 bodyOri
def State.isaXoriOp (s : State) (e : Nat) : State := s.issue e 0x400 bodyXori
def State.isaLuiOp (s : State) (e : Nat) : State := s.issue e 0x500 bodyLui
def State.isaCmpiOp (s : State) (e : Nat) : State := s.issue e 0x600 bodyCmpi
def State.isaLdwOp (s : State) (e : Nat) : State := s.issue e 0x800 bodyLdw
def State.isaLdhOp (s : State) (e : Nat) : State := s.issue e 0x900 bodyLdh
def State.isaLdhsOp (s : State) (e : Nat) : State := s.issue e 0xA00 bodyLdhs
def State.isaLdbOp (s : State) (e : Nat) : State := s.issue e 0xB00 bodyLdb
def State.isaLdbsOp (s : State) (e : Nat) : State := s.issue e 0xC00 bodyLdbs
def State.isaStwOp (s : State) (e : Nat) : State := s.issue e 0xD00 bodyStw
def State.isaSthOp (s : State) (e : Nat) : State := s.issue e 0xE00 bodySth
def State.isaStbOp (s : State) (e : Nat) : State := s.issue e 0xF00 bodyStb
def State.isaBcOp (s : State) (e : Nat) : State := s.issue e 0x1800 bodyBc
def State.isaJalOp (s : State) (e : Nat) : State := s.issue e 0x1900 bodyJal
def State.isaJalrOp (s : State) (e : Nat) : State := s.issue e 0x1A00 bodyJalr
def State.isaSigxOp (s : State) (e : Nat) : State := s.issue e 0x1000 bodySigx
def State.isaSigiOp (s : State) (e : Nat) : State := s.issue e 0x1100 bodySigi
def State.isaScaleOp (s : State) (e : Nat) : State := s.issue e 0x1200 bodyScale
def State.isaCtrIncrementOp (s : State) (e : Nat) : State := s.issue e 0x1400 bodyCtrIncrement
def State.isaCtrDeltaOp (s : State) (e : Nat) : State := s.issue e 0x1401 bodyCtrDelta
def State.isaCrcOp (s : State) (e : Nat) : State := s.issue e 0x1300 bodyCrc
def State.isaAmoaddOp (s : State) (e : Nat) : State := s.issue e 0x1500 bodyAmoadd
def State.isaAmoswapOp (s : State) (e : Nat) : State := s.issue e 0x1501 bodyAmoswap
def State.isaAmomaxuOp (s : State) (e : Nat) : State := s.issue e 0x1502 bodyAmomaxu
def State.isaTimeOp (s : State) (e : Nat) : State := s.issue e 0x1C00 bodyTime
def State.isaQopGetOp (s : State) (e : Nat) : State := s.issue e 0x2000 bodyQopGet
def State.isaQopPutOp (s : State) (e : Nat) : State := s.issue e 0x2001 bodyQopPut
def State.isaQopMarkOp (s : State) (e : Nat) : State := s.issue e 0x2002 bodyQopMark
def State.isaQopRewindOp (s : State) (e : Nat) : State := s.issue e 0x2003 bodyQopRewind
def State.isaQopReleaseOp (s : State) (e : Nat) : State := s.issue e 0x2004 bodyQopRelease
def State.isaQopFillOp (s : State) (e : Nat) : State := s.issue e 0x2005 bodyQopFill
def State.isaRlkpOp (s : State) (e : Nat) : State := s.issue e 0x2100 bodyRlkp
def State.isaSlkpOp (s : State) (e : Nat) : State := s.issue e 0x2200 bodySlkp
def State.isaFrshReadOp (s : State) (e : Nat) : State := s.issue e 0x2300 bodyFrshRead
def State.isaFrshRaiseOp (s : State) (e : Nat) : State := s.issue e 0x2301 bodyFrshRaise
def State.isaFrshIncrementOp (s : State) (e : Nat) : State := s.issue e 0x2302 bodyFrshIncrement
def State.isaCiphOp (s : State) (e : Nat) : State := s.issue e 0x2400 bodyCiph
def State.isaEmitOp (s : State) (e : Nat) : State := s.issue e 0x2800 bodyEmit
def State.isaEndOp (s : State) (e : Nat) : State := s.issue e 0x2900 bodyEnd
def State.isaDropOp (s : State) (e : Nat) : State := s.issue e 0x2A00 bodyDrop
def State.isaNotifyOp (s : State) (e : Nat) : State := s.issue e 0x2B00 bodyNotify

/-- ADD, R327: rd = ra + rb. -/
def execAdd (e : Nat) (s : State) : Host.Outcome State Fault Refusal := finish s (s.isaAddOp e)

/-- SUB, R327: rd = ra - rb. -/
def execSub (e : Nat) (s : State) : Host.Outcome State Fault Refusal := finish s (s.isaSubOp e)

/-- AND, R327: rd = ra & rb. -/
def execAndW (e : Nat) (s : State) : Host.Outcome State Fault Refusal := finish s (s.isaAndOp e)

/-- OR, R327: rd = ra | rb. -/
def execOrW (e : Nat) (s : State) : Host.Outcome State Fault Refusal := finish s (s.isaOrOp e)

/-- XOR, R327: rd = ra ^ rb. -/
def execXorW (e : Nat) (s : State) : Host.Outcome State Fault Refusal := finish s (s.isaXorOp e)

/-- SLL, R327: Shift left by rb. -/
def execSll (e : Nat) (s : State) : Host.Outcome State Fault Refusal := finish s (s.isaSllOp e)

/-- SRL, R327: Logical shift right by rb. -/
def execSrl (e : Nat) (s : State) : Host.Outcome State Fault Refusal := finish s (s.isaSrlOp e)

/-- SRA, R327: Arithmetic shift right by rb. -/
def execSra (e : Nat) (s : State) : Host.Outcome State Fault Refusal := finish s (s.isaSraOp e)

/-- SLLI, R327: Shift left by an immediate. -/
def execSlli (e : Nat) (s : State) : Host.Outcome State Fault Refusal := finish s (s.isaSlliOp e)

/-- SRLI, R327: Logical shift right by an immediate. -/
def execSrli (e : Nat) (s : State) : Host.Outcome State Fault Refusal := finish s (s.isaSrliOp e)

/-- SRAI, R327: Arithmetic shift right by an immediate. -/
def execSrai (e : Nat) (s : State) : Host.Outcome State Fault Refusal := finish s (s.isaSraiOp e)

/-- MUL, R327: Low word of the product. -/
def execMul (e : Nat) (s : State) : Host.Outcome State Fault Refusal := finish s (s.isaMulOp e)

/-- MULHU, R327: High word of the unsigned product. -/
def execMulhu (e : Nat) (s : State) : Host.Outcome State Fault Refusal := finish s (s.isaMulhuOp e)

/-- MULHS, R327: High word of the signed product. -/
def execMulhs (e : Nat) (s : State) : Host.Outcome State Fault Refusal := finish s (s.isaMulhsOp e)

/-- DIVU, R327: Unsigned division, raising DIVZERO on zero. -/
def execDivu (e : Nat) (s : State) : Host.Outcome State Fault Refusal := finish s (s.isaDivuOp e)

/-- REMU, R327: Unsigned remainder, raising DIVZERO on zero. -/
def execRemu (e : Nat) (s : State) : Host.Outcome State Fault Refusal := finish s (s.isaRemuOp e)

/-- MIN, R327: Signed minimum. -/
def execMinW (e : Nat) (s : State) : Host.Outcome State Fault Refusal := finish s (s.isaMinOp e)

/-- MAX, R327: Signed maximum. -/
def execMaxW (e : Nat) (s : State) : Host.Outcome State Fault Refusal := finish s (s.isaMaxOp e)

/-- MINU, R327: Unsigned minimum. -/
def execMinu (e : Nat) (s : State) : Host.Outcome State Fault Refusal := finish s (s.isaMinuOp e)

/-- MAXU, R327: Unsigned maximum. -/
def execMaxu (e : Nat) (s : State) : Host.Outcome State Fault Refusal := finish s (s.isaMaxuOp e)

/-- CMP, R327: Compare and set Z, N, C, V. -/
def execCmp (e : Nat) (s : State) : Host.Outcome State Fault Refusal := finish s (s.isaCmpOp e)

/-- TST, R327: AND and set Z and N. -/
def execTst (e : Nat) (s : State) : Host.Outcome State Fault Refusal := finish s (s.isaTstOp e)

/-- BSWAP, R327: Reverse the octets of ra. -/
def execBswap (e : Nat) (s : State) : Host.Outcome State Fault Refusal := finish s (s.isaBswapOp e)

/-- CLZ, R327: Count leading zeros. -/
def execClz (e : Nat) (s : State) : Host.Outcome State Fault Refusal := finish s (s.isaClzOp e)

/-- MOVF, R327: Copy the flags to rd. -/
def execMovf (e : Nat) (s : State) : Host.Outcome State Fault Refusal := finish s (s.isaMovfOp e)

/-- SETF, R327: Set the flags from ra. -/
def execSetf (e : Nat) (s : State) : Host.Outcome State Fault Refusal := finish s (s.isaSetfOp e)

/-- ADDS, R327: Saturating signed add, setting Q on saturation. -/
def execAdds (e : Nat) (s : State) : Host.Outcome State Fault Refusal := finish s (s.isaAddsOp e)

/-- SUBS, R327: Saturating signed subtract, setting Q on saturation. -/
def execSubs (e : Nat) (s : State) : Host.Outcome State Fault Refusal := finish s (s.isaSubsOp e)

/-- ADDI, R328: Add a sign-extended immediate. -/
def execAddi (e : Nat) (s : State) : Host.Outcome State Fault Refusal := finish s (s.isaAddiOp e)

/-- ANDI, R328: AND with a zero-extended immediate. -/
def execAndi (e : Nat) (s : State) : Host.Outcome State Fault Refusal := finish s (s.isaAndiOp e)

/-- ORI, R328: OR with a zero-extended immediate. -/
def execOri (e : Nat) (s : State) : Host.Outcome State Fault Refusal := finish s (s.isaOriOp e)

/-- XORI, R328: XOR with a zero-extended immediate. -/
def execXori (e : Nat) (s : State) : Host.Outcome State Fault Refusal := finish s (s.isaXoriOp e)

/-- LUI, R328: Load the upper immediate. -/
def execLui (e : Nat) (s : State) : Host.Outcome State Fault Refusal := finish s (s.isaLuiOp e)

/-- CMPI, R328: Compare with an immediate. -/
def execCmpi (e : Nat) (s : State) : Host.Outcome State Fault Refusal := finish s (s.isaCmpiOp e)

/-- LDW, R328: Load a word. -/
def execLdw (e : Nat) (s : State) : Host.Outcome State Fault Refusal := finish s (s.isaLdwOp e)

/-- LDH, R328: Load a zero-extended halfword. -/
def execLdh (e : Nat) (s : State) : Host.Outcome State Fault Refusal := finish s (s.isaLdhOp e)

/-- LDHS, R328: Load a sign-extended halfword. -/
def execLdhs (e : Nat) (s : State) : Host.Outcome State Fault Refusal := finish s (s.isaLdhsOp e)

/-- LDB, R328: Load a zero-extended byte. -/
def execLdb (e : Nat) (s : State) : Host.Outcome State Fault Refusal := finish s (s.isaLdbOp e)

/-- LDBS, R328: Load a sign-extended byte. -/
def execLdbs (e : Nat) (s : State) : Host.Outcome State Fault Refusal := finish s (s.isaLdbsOp e)

/-- STW, R328: Store a word. -/
def execStw (e : Nat) (s : State) : Host.Outcome State Fault Refusal := finish s (s.isaStwOp e)

/-- STH, R328: Store a halfword. -/
def execSth (e : Nat) (s : State) : Host.Outcome State Fault Refusal := finish s (s.isaSthOp e)

/-- STB, R328: Store a byte. -/
def execStb (e : Nat) (s : State) : Host.Outcome State Fault Refusal := finish s (s.isaStbOp e)

/-- BC, R329: Branch when the condition holds. -/
def execBc (e : Nat) (s : State) : Host.Outcome State Fault Refusal := finish s (s.isaBcOp e)

/-- JAL, R329: Jump and link. -/
def execJal (e : Nat) (s : State) : Host.Outcome State Fault Refusal := finish s (s.isaJalOp e)

/-- JALR, R329: Jump to a register and link. -/
def execJalr (e : Nat) (s : State) : Host.Outcome State Fault Refusal := finish s (s.isaJalrOp e)

/-- SIGX, R331: Extract a signal of 1 to 32 bits. -/
def execSigx (e : Nat) (s : State) : Host.Outcome State Fault Refusal := finish s (s.isaSigxOp e)

/-- SIGI, R331: Insert a signal of 1 to 32 bits. -/
def execSigi (e : Nat) (s : State) : Host.Outcome State Fault Refusal := finish s (s.isaSigiOp e)

/-- SCALE, R332: Multiply, shift and saturate. -/
def execScale (e : Nat) (s : State) : Host.Outcome State Fault Refusal := finish s (s.isaScaleOp e)

/-- CTR_INCREMENT, R333: CTR with fn 0 advances a rolling counter. -/
def execCtrIncrement (e : Nat) (s : State) : Host.Outcome State Fault Refusal := finish s (s.isaCtrIncrementOp e)

/-- CTR_DELTA, R333: CTR with fn 1 computes a rolling-counter delta. -/
def execCtrDelta (e : Nat) (s : State) : Host.Outcome State Fault Refusal := finish s (s.isaCtrDeltaOp e)

/-- CRC, R334: Advance a running CRC over memory. -/
def execCrc (e : Nat) (s : State) : Host.Outcome State Fault Refusal := finish s (s.isaCrcOp e)

/-- AMOADD, R335: Atomic add to a word. -/
def execAmoadd (e : Nat) (s : State) : Host.Outcome State Fault Refusal := finish s (s.isaAmoaddOp e)

/-- AMOSWAP, R335: Atomic swap of a word. -/
def execAmoswap (e : Nat) (s : State) : Host.Outcome State Fault Refusal := finish s (s.isaAmoswapOp e)

/-- AMOMAXU, R335: Atomic unsigned maximum of a word. -/
def execAmomaxu (e : Nat) (s : State) : Host.Outcome State Fault Refusal := finish s (s.isaAmomaxuOp e)

/-- TIME, R337: Read tenant, system-datum-0 or Meridian time into a register pair. -/
def execTimeRead (e : Nat) (s : State) : Host.Outcome State Fault Refusal := finish s (s.isaTimeOp e)

/-- QOP_GET, R338: Get an item from a stitch queue. -/
def execQopGet (e : Nat) (s : State) : Host.Outcome State Fault Refusal := finish s (s.isaQopGetOp e)

/-- QOP_PUT, R338: Put an item into a stitch queue. -/
def execQopPut (e : Nat) (s : State) : Host.Outcome State Fault Refusal := finish s (s.isaQopPutOp e)

/-- QOP_MARK, R338: Mark the read position of a stitch queue. -/
def execQopMark (e : Nat) (s : State) : Host.Outcome State Fault Refusal := finish s (s.isaQopMarkOp e)

/-- QOP_REWIND, R338: Rewind a stitch queue to its mark. -/
def execQopRewind (e : Nat) (s : State) : Host.Outcome State Fault Refusal := finish s (s.isaQopRewindOp e)

/-- QOP_RELEASE, R338: Release every item read so far. -/
def execQopRelease (e : Nat) (s : State) : Host.Outcome State Fault Refusal := finish s (s.isaQopReleaseOp e)

/-- QOP_FILL, R338: Read the FILL word of a stitch queue. -/
def execQopFill (e : Nat) (s : State) : Host.Outcome State Fault Refusal := finish s (s.isaQopFillOp e)

/-- RLKP, R339: Route lookup for a source and identifier. -/
def execRlkp (e : Nat) (s : State) : Host.Outcome State Fault Refusal := finish s (s.isaRlkpOp e)

/-- SLKP, R340: Station lookup for a VID and MAC. -/
def execSlkp (e : Nat) (s : State) : Host.Outcome State Fault Refusal := finish s (s.isaSlkpOp e)

/-- FRSH_READ, R341: Read a freshness entry. -/
def execFrshRead (e : Nat) (s : State) : Host.Outcome State Fault Refusal := finish s (s.isaFrshReadOp e)

/-- FRSH_RAISE, R341: Raise a freshness entry, or report STALE. -/
def execFrshRaise (e : Nat) (s : State) : Host.Outcome State Fault Refusal := finish s (s.isaFrshRaiseOp e)

/-- FRSH_INCREMENT, R341: Increment a freshness entry. -/
def execFrshIncrement (e : Nat) (s : State) : Host.Outcome State Fault Refusal := finish s (s.isaFrshIncrementOp e)

/-- CIPH, R342: Send a cipher request and stall for its status. -/
def execCiph (e : Nat) (s : State) : Host.Outcome State Fault Refusal := finish s (s.isaCiphOp e)

/-- EMIT, R347: Stage an emit header and data. -/
def execEmit (e : Nat) (s : State) : Host.Outcome State Fault Refusal := finish s (s.isaEmitOp e)

/-- END, R295: End the work item and release its staged emits. -/
def execEndItem (e : Nat) (s : State) : Host.Outcome State Fault Refusal := finish s (s.isaEndOp e)

/-- DROP, R295: End the work item and discard it with reason 0 or 1. -/
def execDropItem (e : Nat) (s : State) : Host.Outcome State Fault Refusal := finish s (s.isaDropOp e)

/-- NOTIFY, R347: Write a notify completion record if a credit is held. -/
def execNotify (e : Nat) (s : State) : Host.Outcome State Fault Refusal := finish s (s.isaNotifyOp e)

/-- STALL_END, R324: The awaited lookup, freshness, cipher, heap or queue event arrives and the stalled instruction completes. -/
def execStallEnd (e : Nat) (s : State) : Host.Outcome State Fault Refusal := finish s (s.stallEndOp e)

/-- STALL_LIMIT_EXPIRY, R324: A stall exceeding STALL_LIMIT raises STALL and abandons its operation. -/
def execStallLimitExpiry (e : Nat) (reached : Bool) (s : State) : Host.Outcome State Fault Refusal := finish s (s.stallExpiryOp e reached)


end Sys2Proof.Machine
end

