-- ==== Sys2Proof/Machine/Trace.lean ====
section
/-! DEFINITION. Counter snapshots, the trace queues with their two outlets, and the fault coalescer: spec/18 R583, R584
and R590 to R598. -/

namespace Sys2Proof.Machine

/-- This node's number (R602). -/
def State.nodeNumber (s : State) : Nat := s.fld SYS_BOOT SYS_BOOT_NODE

/-- NODE_MAC of a node: 02-4C-48-5A, then the number (R472). -/
def nodeMac (n : Nat) : List Byte := [0x02, 0x4C, 0x48, 0x5A] ++ natBe 2 n

/-! ### The survey ring (R278) -/

/-- SURVEY_RECORD: the oldest record of a panel's FIFO is written to its ring half, or dropped (R278). -/
def State.surveyRecordOp (s : State) (p : Nat) : State :=
  match Sparse.get (fun _ => []) s.svFifo p with
  | [] => s
  | rcd :: rest =>
    let d := panelDie p
    let wp := if d = 0 then CORE_SVWPTR0 else CORE_SVWPTR1
    let rp := if d = 0 then CORE_SVRPTR0 else CORE_SVRPTR1
    let s : State := { s with svFifo := Sparse.set (fun _ => []) s.svFifo p rest }
    let w := s.fld wp CORE_SVWPTR0_WPTR
    if !s.flag CORE_CTRL CORE_CTRL_SV_EN then s
    else if !s.flag CORE_CTRL CORE_CTRL_SV_WRAP && (w + 1) % 2 ^ 22 == s.fld rp CORE_SVRPTR0_RPTR then
      (s.count (CORE_PNLp_CNTc p 4)).setFld CORE_EVT CORE_EVT_SV_FULL 1
    else
      let t : State := { s with svRing := Sparse.set (fun _ => []) s.svRing (2 ^ 22 * d + w) rcd }
      let t := t.setFld wp CORE_SVWPTR0_WPTR (w + 1)
      let t := t.memWrote 4 (surveyOctet (2 ^ 22 * d + w)) 128
      if w + 1 = 2 ^ 22 then t.setFld wp CORE_SVWPTR0_WRAPPED 1 else t

/-! ### Snapshots (R583, R584) -/

/-- The words that a snapshot latches, by offset in its window. -/
def State.snapWords (s : State) : List (Nat × Word) :=
  (s.regs.filterMap (fun p =>
    let o := p.1 - 0x6200000
    if 0x6200000 ≤ p.1 ∧ p.1 < 0x6220000 then
      (if o % 32 = 16 then some (o / 32 * 8, p.2) else if o % 32 = 20 then some (o / 32 * 8 + 4, p.2) else none)
    else none)) ++
  s.hist.map (fun p => (0x8000 + 4 * p.1, BitVec.ofNat 32 p.2))

/-- Clear every counter and bin at the latch. -/
def State.snapClear (s : State) : State :=
  let t := s.liveCounters.foldl (fun t c => (t.wr (COUNTER c + 16) 0).wr (COUNTER c + 20) 0) s
  { t with hist := [] }

/-- Start a snapshot, or note a request made during a copy. -/
def State.snapStart (s : State) (clear : Bool) : State :=
  if s.obsLevel = 0 then s
  else if s.snapCopy.isSome then { s with snapAgain := some (clear || s.snapAgain.getD false) }
  else
    let t : State := { s with snapCopy := some (s.mer, s.snapWords), snapClr := clear }
    (if clear then t.snapClear else t).setFld OBS_SNAPCTL OBS_SNAPCTL_BUSY 1

/-- A write of OBS_SNAPCTL; registers of a level above the present one ignore writes (R560, R583). -/
def State.snapWrite (s : State) (i : Iface) (w : Word) : State :=
  if s.obsLevel = 0 then s
  else
    let t := s.typedWrite i OBS_SNAPCTL w
    let t := if getF w OBS_SNAPCTL_PERIOD = s.fld OBS_SNAPCTL OBS_SNAPCTL_PERIOD then t else { t with snapLast := s.mer }
    if getB w OBS_SNAPCTL_REQ then t.snapStart (getB w OBS_SNAPCTL_CLR) else t

/-- SNAPSHOT_REQUEST: a write of OBS_SNAPCTL with REQ. -/
def State.snapRequestOp (s : State) (i : Iface) (w : Word) : State :=
  if getB w OBS_SNAPCTL_REQ then s.hostAccess (s.snapWrite i w) else s

/-- SNAPSHOT_PERIOD: PERIOD µs after the last (R583). -/
def State.snapPeriodOp (s : State) : State :=
  let p := s.fld OBS_SNAPCTL OBS_SNAPCTL_PERIOD
  if p = 0 ∨ s.obsLevel = 0 ∨ s.mer < s.snapLast + p * usTicks then s
  else
    let s : State := { s with snapLast := s.mer }
    if s.snapCopy.isSome then (s.setFld OBS_EVT OBS_EVT_SNAP_SKIP 1)
    else s.snapStart (s.flag OBS_SNAPCTL OBS_SNAPCTL_CLR)

/-- SNAPSHOT_COMPLETE: the copy takes the bank that does not hold the newest snapshot. -/
def State.snapDoneOp (s : State) : State :=
  match s.snapCopy with
  | none => s
  | some (at_, words) =>
    let bank := s.flag OBS_SNAPCTL OBS_SNAPCTL_BANK
    let t : State := if bank then { s with snapBank0 := words } else { s with snapBank1 := words }
    let t : State := { t with snapCopy := none, snapAgain := none }
    let t := (t.setFlag OBS_SNAPCTL OBS_SNAPCTL_BANK (!bank)).setFld OBS_SNAPCTL OBS_SNAPCTL_BUSY 0
    let t := ((t.count OBS_SNAPSEQ).wr64 OBS_SNAPT_LO at_).setFld OBS_EVT OBS_EVT_SNAP_DONE 1
    match s.snapAgain with
    | some c => t.snapStart c
    | none => t

/-- A word of the snapshot window; a bank being copied into reads 0 (R584). -/
def State.snapWord (s : State) (o : Nat) : Word :=
  let bank := s.flag OBS_SNAPWIN OBS_SNAPWIN_BANK
  if s.snapCopy.isSome && bank != s.flag OBS_SNAPCTL OBS_SNAPCTL_BANK then 0
  else Sparse.get (fun _ => 0) (if bank then s.snapBank1 else s.snapBank0) o

/-! ### Trace queues and outlets (R590 to R595) -/

def State.traceOf (s : State) (d : Nat) : List TraceEnt := Sparse.get (fun _ => []) s.traceQ d
def State.setTrace (s : State) (d : Nat) (q : List TraceEnt) : State :=
  { s with traceQ := Sparse.set (fun _ => []) s.traceQ d q }

/-- Records of die d are lost: LOST, TRC_LOSS and the next LOSS record (R592). -/
def State.traceLost (s : State) (d n tseq : Nat) : State :=
  let (k, f) := Sparse.get (fun _ => (0, 0)) s.traceLoss d
  let t := (s.count (OBS_TRCNTd d + 4) n).setFld OBS_EVT OBS_EVT_TRC_LOSS 1
  { t with traceLoss := Sparse.set (fun _ => (0, 0)) t.traceLoss d (k + n, if k = 0 then tseq else f) }

/-- Octets of a trace queue (R592). -/
def traceLen (q : List TraceEnt) : Nat := q.foldl (fun n e => n + e.rcd.octets.length) 0

/-- TRACE_RECORD: the oldest record due in die d enters the die's queue of 1 MiB, or is dropped (R592). -/
def State.traceRecordOp (s : State) (d : Nat) : State :=
  match Sparse.get (fun _ => []) s.traceIn d with
  | [] => s
  | r :: rest =>
    let s : State := { s with traceIn := Sparse.set (fun _ => []) s.traceIn d rest }
    if 2 ^ 20 < traceLen (s.traceOf d) + r.octets.length then s.traceLost d 1 r.tseq
    else s.setTrace d (s.traceOf d ++ [{ rcd := r, lane := false, port := false }])

/-- The next record sent after a drop is a LOSS record (R592). -/
def State.traceLossNext (s : State) (d : Nat) : State :=
  let (k, f) := Sparse.get (fun _ => (0, 0)) s.traceLoss d
  if k = 0 ∨ !s.flag OBS_TRCTL OBS_TRCTL_EN ∨ s.obsLevel < 2 then s
  else
    let q := Sparse.get (fun _ => 0) s.traceSeq d
    let r : TraceRec := { kind := 6, poison := false, tseq := q, mer := s.mer, body := natBe 4 k ++ natBe 4 f ++ natBe 8 0 }
    let t : State := { s with traceSeq := Sparse.set (fun _ => 0) s.traceSeq d ((q + 1) % 2 ^ 32),
                              traceLoss := Sparse.set (fun _ => (0, 0)) s.traceLoss d (0, 0) }
    t.setTrace d ({ rcd := r, lane := false, port := false } :: s.traceOf d)

/-- Records that every open outlet has sent leave the queue, and are counted in SENT. -/
def State.traceSent (s : State) (d : Nat) : State :=
  let ol := s.flag OBS_TRCTL OBS_TRCTL_OL_EN
  let po := s.flag OBS_TRCTL OBS_TRCTL_PORT_EN
  let out (e : TraceEnt) : Bool := (e.lane || e.port) && (!ol || e.lane) && (!po || e.port)
  let q := s.traceOf d
  (s.count (OBS_TRCNTd d) (q.filter out).length).setTrace d (q.filter (fun e => !out e))

/-- Mark the first n records that an outlet has not sent. -/
def markSent (port : Bool) : Nat → List TraceEnt → List TraceEnt
  | 0, l => l
  | _, [] => []
  | n + 1, e :: l =>
    if (if port then e.port else e.lane) then e :: markSent port (n + 1) l
    else (if port then { e with port := true } else { e with lane := true }) :: markSent port n l

/-- Ticks that a packet of n octets holds its lane: ⌈n / 31⌉ blocks of 5.12 ns (R404, R593). -/
def laneTicks (n : Nat) : Nat := ((n + 30) / 31 * 256 + 24) / 25

/-- The receive state of observation lane d: 0 SEARCH, 1 CANDIDATE, 2 LOCKED. -/
def olRx (d : Nat) : Fld := if d = 0 then OBS_OLSTAT_RX0 else OBS_OLSTAT_RX1

/-- Observation lane d sends its die's next record once it has sent the last (R593, R594). -/
def State.laneSend (s : State) (d : Nat) : State :=
  if !s.flag OBS_TRCTL OBS_TRCTL_OL_EN || decide (s.mer < Sparse.get (fun _ => 0) s.traceFree d) ||
      (s.flag OBS_TRCTL OBS_TRCTL_RXGATE && s.fld OBS_OLSTAT (olRx d) != 2) then s
  else
    let t := s.traceLossNext d
    match (t.traceOf d).find? (fun e => !e.lane) with
    | none => s
    | some e =>
      let o := e.rcd.octets
      let t : State := { t with traceFree := Sparse.set (fun _ => 0) t.traceFree d (s.mer + laneTicks o.length) }
      ((t.setTrace d (markSent false 1 (t.traceOf d))).emitOut (.trace d o)).traceSent d

/-- Octets of records that a trace frame can hold: MAXLEN of TRPORT less 26 (R595). -/
def State.traceRoom (s : State) : Nat := s.portMaxlen (s.fld OBS_TRPORT OBS_TRPORT_PORT) - 26

/-- Whole records of a list that fit in n octets. -/
def fitting : Nat → List TraceRec → List TraceRec
  | _, [] => []
  | n, r :: l => if r.octets.length ≤ n then r :: fitting (n - r.octets.length) l else []

/-- The frame that holds some records (R595). -/
def State.traceItem (s : State) (d : Nat) (l : List TraceRec) : Item :=
  { Item.blank with
    data := natBe 4 (s.rd OBS_TRDA_HI).toNat ++ natBe 2 (s.fld OBS_TRDA_LO OBS_TRDA_LO_DA) ++ nodeMac s.nodeNumber ++
      natBe 2 (s.fld OBS_TRPORT OBS_TRPORT_ETYPE) ++ [1, 0] ++ natBe 2 s.nodeNumber ++ natBe 4 s.traceFrame ++
      l.flatMap TraceRec.octets,
    tenant := 1024, src := 16384 * (8 * d + 1) + 10240, stamp := s.mer, vid := 1,
    queue := some (s.fld OBS_TRPORT OBS_TRPORT_QUEUE) }

/-- The first n records not yet sent through the port go into a frame, whose number counts (R595). -/
def State.traceFramed (s : State) (d n : Nat) : State :=
  State.setTrace { s with traceFrame := (s.traceFrame + 1) % 2 ^ 32 } d (markSent true n (s.traceOf d))

/-- TRACE_FRAME of die d: it leaves when no further record fits, or when its oldest record has waited 50 µs (R595). -/
def State.traceFrameOp (s : State) (d : Nat) : State :=
  if !s.flag OBS_TRCTL OBS_TRCTL_PORT_EN then s
  else
    let t := s.traceLossNext d
    let due := ((t.traceOf d).filter (fun e => !e.port)).map (fun e => e.rcd)
    match due with
    | [] => s
    | r :: _ =>
      let l := fitting s.traceRoom due
      if l.isEmpty then
        -- a record longer than a frame can never leave this way
        (t.setTrace d (markSent true 1 (t.traceOf d))).traceLost d 1 r.tseq
      else if l.length = due.length ∧ s.mer < r.mer + 50 * usTicks then s
      else
        let n := s.fld OBS_TRPORT OBS_TRPORT_PORT
        let q := s.fld OBS_TRPORT OBS_TRPORT_QUEUE
        let it := s.traceItem d l
        let p := n / 64
        let t := t.traceFramed d l.length
        let ok := t.destLive (.port n q) && t.admits p (t.sharedFree p) (cellsOf it.stored) false false (.port n q)
        let t := if ok then t else t.traceLost d l.length r.tseq
        (t.queueOne it (.port n q)).traceSent d

/-- A write of OBS_TRCTL: PORT_EN needs TRPORT enabled and unbound (R560, R595). -/
def State.trctlWrite (s : State) (i : Iface) (w : Word) : State :=
  if s.obsLevel < 2 then s
  else
    let n := s.fld OBS_TRPORT OBS_TRPORT_PORT
    if getB w OBS_TRCTL_PORT_EN && !s.flag OBS_TRCTL OBS_TRCTL_PORT_EN &&
        !(s.flag (PORT_CFGn n) PORT_CFGn_EN && !s.flag (PORT_CFGn n) PORT_CFGn_BOUND) then
      (s.typedWrite i OBS_TRCTL (setF w OBS_TRCTL_PORT_EN 0)).setFld OBS_EVT OBS_EVT_CFG_ERR 1
    else s.typedWrite i OBS_TRCTL w

/-- OL_LOCK_CHANGE: the receiver of lane d moves to a state; a change of lock is an event (R594). -/
def State.olLockOp (s : State) (d st : Nat) : State :=
  let old := s.fld OBS_OLSTAT (olRx d)
  let t := s.setFld OBS_OLSTAT (olRx d) st
  if (old = 2) = (st = 2) then t else t.setFld OBS_EVT (if d = 0 then OBS_EVT_OL0_LOCK else OBS_EVT_OL1_LOCK) 1

/-! ### Conditions in level mode (R580, R581) -/

/-- The condition that the event of counter c names holds for a source its filters take. -/
def State.levelHolds (s : State) (c : Nat) : Bool :=
  let p := c / 256
  let code := s.fld (COUNTER c) COUNTER_EVENT
  let engine (test : EngSt → Bool) : Bool :=
    (List.range 8).any (fun i => s.counterTakes c p code none (some (8 * p + i)) none none none && test (s.eng (8 * p + i)))
  match code with
  | 0x024 => s.counterTakes c p code none none none none none && decide (s.sharedFree p < s.fld (CORE_PNLp_SPILLCFG p) CORE_PNLp_SPILLCFG_SPILL_MARK)
  | 0x031 => s.counterTakes c p code none none none none none && s.backPress.contains p
  | 0x041 => engine (fun x => match x.run with | some r => r.stall.isSome | none => false)
  | 0x042 => engine (fun x => x.run.isSome)
  | _ => false

/-- A counter in level mode adds 1 for each 4 ns interval in which its condition holds (R581). -/
def State.levelTick (s : State) : State :=
  if s.obsLevel = 0 then s
  else s.liveCounters.foldl (fun t c =>
    if t.flag (COUNTER c) COUNTER_MODE && t.levelHolds c then t.counterStep c 1 else t) s

/-! ### Fault reports (R596 to R598) -/

/-- Quiet time and longest window in ticks. -/
def State.coalQuiet (s : State) : Nat := max 1 (s.fld OBS_COAL OBS_COAL_QUIET) * msTicks
def State.coalMax (s : State) : Nat := max 1 (s.fld OBS_COAL OBS_COAL_WIN_MAX) * 100 * msTicks

/-- An entry's close is due. -/
def State.coalDue (s : State) (x : CoalEnt) : Bool :=
  decide (x.last + s.coalQuiet ≤ s.mer) || decide (x.first + s.coalMax ≤ s.mer)

def State.setCoal (s : State) (l : List (Nat × CoalEnt)) : State :=
  State.setFld { s with coal := l } OBS_COALCNT OBS_COALCNT_OPEN (l.filter (fun p => decide (p.1 < 256))).length

/-- One event-log record with an explicit event code and severity. -/
def State.logRec (s : State) (r : LogRec) : State :=
  if s.logQueue.length < 512 then { s with logQueue := s.logQueue ++ [{ r with lost := s.logLost }], logLost := false }
  else (State.count { s with logLost := true } THIM_LOGLOST).setFld THIM_EVT THIM_EVT_LOGLOST 1

/-- Close entry k: its record, and FAULT (R597). -/
def State.coalClose (s : State) (k : Nat) (x : CoalEnt) : State :=
  let t := s.setCoal (s.coal.filter (fun p => p.1 != k))
  (t.logRec { rule := 597, first := x.first, last := x.last, count := x.count, inst := 0, node := s.node, lost := false,
              params := [x.suspect, x.partners.length, x.firstRep, x.lastRep], code := some (x.code, x.sev) }).setFld
    OBS_EVT OBS_EVT_FAULT 1

/-- COALESCER_CLOSE of entry k. -/
def State.coalCloseOp (s : State) (k : Nat) : State :=
  match s.coal.find? (fun p => p.1 == k) with
  | some p => if s.coalDue p.2 then s.coalClose k p.2 else s
  | none => s

/-- The identity of the overflow entry: KIND 15, this node, NUMBER 0 (R596). -/
def State.overflowId (s : State) : Nat := 15 * 2 ^ 28 + s.nodeNumber * 2 ^ 18

/-- The coalescer takes a report: it opens an entry, or joins its suspect's; with 256 open, the overflow entry (R597). A report at
the tick of its entry's close opens a new entry. -/
def State.faultReport (s : State) (suspect reporter sev code : Nat) : State :=
  let s := match s.coal.find? (fun p => p.2.suspect == suspect) with
    | some p => if s.coalDue p.2 then s.coalClose p.1 p.2 else s
    | none => s
  let known := s.coal.any (fun p => p.2.suspect == suspect && decide (p.1 < 256))
  let slot := (List.range 256).find? (fun k => !s.coal.any (fun p => p.1 == k))
  let full := !known && slot.isNone
  let id := if full then s.overflowId else suspect
  let s := if full then (s.bumpSat OBS_COALCNT OBS_COALCNT_FULL).setFld OBS_EVT OBS_EVT_COAL_FULL 1 else s
  let s := if full then (match s.coal.find? (fun p => p.1 == 256) with
    | some p => if s.coalDue p.2 then s.coalClose 256 p.2 else s
    | none => s) else s
  match s.coal.find? (fun p => p.2.suspect == id) with
  | some _ =>
    s.setCoal (s.coal.map (fun p =>
      if p.2.suspect = id then
        (p.1, { p.2 with sev := max p.2.sev sev, count := p.2.count + 1, last := s.mer, lastRep := reporter,
                         partners := if p.2.partners.contains reporter then p.2.partners else p.2.partners ++ [reporter] })
      else p))
  | none =>
    s.setCoal (s.coal ++ [(slot.getD 256, { suspect := id, code := code, sev := sev, count := 1, first := s.mer, last := s.mer,
                                            partners := [reporter], firstRep := reporter, lastRep := reporter })])

/-- Ticks from one report to the next: 2 M a second, the least the coalescer takes (R598, log entry 140). -/
def coalPace : Nat := 1000

/-- The coalescer takes its oldest report, where it may (R598). -/
def State.coalTake (s : State) : State :=
  match s.coalIn with
  | [] => s
  | r :: rest =>
    if s.mer < s.coalFree then s
    else State.faultReport { s with coalIn := rest, coalFree := s.mer + coalPace } r.suspect r.reporter r.sev r.code

/-- A report joins the input FIFO; none where it is full (R598). -/
def State.reportFile (s : State) (r : Report) : Option State :=
  if s.coalIn.length < 4096 then some (State.coalTake { s with coalIn := s.coalIn ++ [r] }) else none

/-- A report of this node's own; one that finds the FIFO full is lost. -/
def State.reportOwn (s : State) (r : Report) : State := (s.reportFile r).getD s

/-- FAULT_REPORT: a report is filed, or refused with BUSY (R598). -/
def State.faultReportOp (s : State) (suspect reporter sev code : Nat) : State :=
  match s.reportFile { suspect := suspect, reporter := reporter, sev := sev, code := code } with
  | some t => t
  | none => s.emitOut (.status 0xF03001 9)

/-- A word of a coalescer entry's window. -/
def State.coalWord (s : State) (e k : Nat) : Word :=
  match s.coal.find? (fun p => p.1 == e) with
  | none => 0
  | some p =>
    let x := p.2
    BitVec.ofNat 32 (match k with
      | 0 => x.suspect
      | 1 => 65536 * x.partners.length + x.code
      | 2 => x.count
      | 3 => x.first
      | 4 => x.first / 2 ^ 32
      | 5 => x.last
      | 6 => x.last / 2 ^ 32
      | _ => 2 ^ 31 + x.sev)

/-- SURVEY_RECORD, R278: A survey record is written into its ring half, or dropped. -/
def execSurveyRecord (p : Nat) (s : State) : Host.Outcome State Fault Refusal := finish s (s.surveyRecordOp p)

/-- SNAPSHOT_REQUEST, R583: REQ or SNAPSHOT_CMD starts a counter snapshot. -/
def execSnapshotRequest (i : Iface) (w : Word) (s : State) : Host.Outcome State Fault Refusal := finish s (s.snapRequestOp i w)

/-- SNAPSHOT_PERIOD, R583: A periodic snapshot starts or is skipped. -/
def execSnapshotPeriod (s : State) : Host.Outcome State Fault Refusal := finish s s.snapPeriodOp

/-- SNAPSHOT_COMPLETE, R583: The copy completes and BANK and SNAPSEQ advance. -/
def execSnapshotComplete (s : State) : Host.Outcome State Fault Refusal := finish s s.snapDoneOp

/-- TRACE_RECORD, R592: A trace record enters the die's trace queue, or is dropped. -/
def execTraceRecord (d : Nat) (s : State) : Host.Outcome State Fault Refusal := finish s (s.traceRecordOp d)

/-- TRACE_FRAME, R595: A trace frame leaves when full or after 50 us. -/
def execTraceFrame (d : Nat) (s : State) : Host.Outcome State Fault Refusal := finish s (s.traceFrameOp d)

/-- OL_LOCK_CHANGE, R594: An observation lane receiver changes lock state. -/
def execOlLockChange (d : Nat) (st : Nat) (s : State) : Host.Outcome State Fault Refusal := finish s (s.olLockOp d st)

/-- FAULT_REPORT, R597: A fault report opens or joins a coalescer entry. -/
def execFaultReport (suspect : Nat) (reporter : Nat) (sev : Nat) (code : Nat) (s : State) : Host.Outcome State Fault Refusal := finish s (s.faultReportOp suspect reporter sev code)

/-- COALESCER_CLOSE, R597: An entry closes after QUIET or WIN_MAX and writes one record. -/
def execCoalescerClose (k : Nat) (s : State) : Host.Outcome State Fault Refusal := finish s (s.coalCloseOp k)


end Sys2Proof.Machine
end

