-- ==== Sys2Proof/Machine/Stops.lean ====
section
/-! DEFINITION. Node states asked for, stop commands and entry into SAFE: spec/14 R445 to R447, R467 and R468, spec/16
R507. -/

namespace Sys2Proof.Machine

/-- The node state accepts dictionary writes other than stop commands (R445). -/
def State.acceptsWrites (s : State) : Bool := s.node == .config || s.node == .run || s.node == .degraded

/-- The node state accepts stop commands (R445); a twin that refuses writes refuses them too (R467). -/
def State.acceptsStops (s : State) : Bool := (s.acceptsWrites || s.node == .safe) && !s.refusesConfig

/-- The end of an action on a dictionary object (256 · index + subindex): its status under R444 leaves. -/
def actDone (object : Nat) (r : Nat × State) : State := r.2.emitOut (.status object r.1)

/-- An action in a node state and a twin that accept writes (R434, R445); otherwise its status is STATE. -/
def State.actWrite (s : State) (object : Nat) (f : State → Nat × State) : State :=
  actDone object (if s.acceptsWrites && !s.refusesConfig then f s else (5, s))

/-- The same for an object that is per-twin, which no twin's authority guards. -/
def State.actOwn (s : State) (object : Nat) (f : State → Nat × State) : State :=
  actDone object (if s.acceptsWrites then f s else (5, s))

/-- A stop command (R467). -/
def State.actStop (s : State) (object : Nat) (f : State → Nat × State) : State :=
  actDone object (if s.acceptsStops then f s else (5, s))

/-- The numbers k below n of the words base + stride·k that satisfy p. -/
def State.unitsWith (s : State) (base stride n : Nat) (p : Word → Bool) : List Nat :=
  (s.regs.filter (fun q => decide (base ≤ q.1) && decide (q.1 < base + stride * n) && (q.1 - base) % stride == 0 &&
    p q.2)).map (fun q => (q.1 - base) / stride)

/-- The enabled ports, loom channels and PLCA channels. -/
def State.livePorts (s : State) : List Nat :=
  s.unitsWith (PORT_CFGn 0) (PORT_CFGn 1 - PORT_CFGn 0) 1024 (fun w => getB w PORT_CFGn_EN)
def State.liveLooms (s : State) : List Nat :=
  s.unitsWith (LCn_CFG 0) (LCn_CFG 1 - LCn_CFG 0) 64 (fun w => getB w LCn_CFG_EN)
def State.livePlcas (s : State) : List Nat :=
  s.unitsWith (PCm_CFG 0) (PCm_CFG 1 - PCm_CFG 0) 16 (fun w => getB w PCm_CFG_EN)

/-- EN = 0 written to the enabled resources that `take` accepts by their tenant, and STOP to their bobbins that are not
STOPPED (R468). -/
def State.stopAll (s : State) (take : Option Nat → Bool) : State :=
  let off (f : Fld) (w : Word) : Word := setF w f 0
  let s := (s.livePorts.filter (fun n => take (s.portTenant n))).foldl
    (fun t n => (t.portCfg .thimble n (off PORT_CFGn_EN (t.rd (PORT_CFGn n)))).2) s
  let s := (s.liveLooms.filter (fun c => take (s.loomTenant c))).foldl
    (fun t c => (t.chanCfg .thimble c (off LCn_CFG_EN (t.rd (LCn_CFG c)))).2) s
  let s := (s.livePlcas.filter (fun m => take (s.plcaTenant m))).foldl
    (fun t m => (t.plcaCfg .thimble m (off PCm_CFG_EN (t.rd (PCm_CFG m)))).2) s
  let s := (s.liveBuses.filter (fun v => take (s.busTenant v))).foldl
    (fun t v => (t.vbCfg .thimble v (off VBn_CFG_EN (t.rd (VBn_CFG v)))).2) s
  (s.liveBobbins.filter (fun b => s.bobState b != 0 && take (some (s.bobTenant b)))).foldl
    (fun t b => (t.bobCmd 5 b 0).2) s

/-- DATA_STOP, whoever asks for it. -/
def State.dataStop (s : State) : State := s.stopAll (fun _ => true)

/-- A tenant's STOP. -/
def State.tenantStop (s : State) (t : Nat) : State := s.stopAll (fun x => x == some t)

/-- DATA_STOP: a write of 1 to OD 0x0002.01 is applied. -/
def State.dataStopOp (s : State) : State := s.actStop 0x000201 (fun s => (0, s.dataStop))

/-- TENANT_STOP: a write of 1 to STOP of tenant t is applied. -/
def State.tenantStopOp (s : State) (t : Nat) : State :=
  s.actStop (256 * (0x4000 + 16 * t) + 2) (fun s => (0, s.tenantStop t))

/-- A value written to STATE_REQ (R446, R447). -/
def State.stateReq (s : State) (v : Nat) : State :=
  let n : NodeState := if v = 1 then .config else .run
  if s.node = .degraded then { s with nodeUnder := n } else s.setNode n

/-- STATE_REQ: 1 asks for CONFIG, 2 for RUN. -/
def State.stateReqOp (s : State) (v : Nat) : State :=
  s.actWrite 0x000103 (fun s => if v = 1 ∨ v = 2 then (0, s.stateReq v) else (7, s))

/-- SAFE for a cause of R507: DATA_STOP, one record, THIM_EVT.SAFE and ALARM_N. -/
def State.safeEntry (s : State) (cause : Nat) : State :=
  if s.node = .init ∨ s.node = .safe then s
  else State.enterSafe (State.setFld { (s.dataStop.log 507 0 [cause]) with safeAlarm := true } THIM_EVT THIM_EVT_SAFE 1)

/-! ### Parity of the crossing FIFOs (R69 to R71, R578) -/

/-- The newest item on its way to a panel's parser that satisfies `f` goes on poison-tagged; none where there is none. -/
def State.hurtParsed (s : State) (p : Nat) (f : Item → Bool) : Option State :=
  let l := Sparse.get (fun _ => []) s.parserIn p
  match l.reverse with
  | it :: rest => if f it then
      some { s with parserIn := Sparse.set (fun _ => []) s.parserIn p (rest.reverse ++ [{ it with poison := true }]) } else none
  | [] => none

/-- The newest word a host interface has read is 0xFFFF_FFFF. -/
def State.hurtRead (s : State) (i : Iface) : State :=
  match s.out with
  | .readData j a _ :: rest => if j = i then { s with out := .readData j a 0xFFFFFFFF :: rest } else s
  | _ => s

/-- A word from a stack goes on poison-tagged: to the frame in recall, else to the record staged last, else to the engine
that waits for the heap. -/
def State.hurtStack (s : State) (die : Nat) : State :=
  match (List.range 8).findSome? (fun k => s.firstAt (8 * die + k) 3) with
  | some (k, i, e) => s.setQueue (.port (k / 32) (k % 32)) (setAt (s.queue k) i { e with item := { e.item with poison := true } })
  | none =>
    let last := (s.bobs.filter (fun p => s.bobStack p.1 == die && !p.2.staged.isEmpty)).foldl
      (fun (a : Option (Nat × Nat)) p => match p.2.staged.getLast?, a with
        | some r, some (_, m) => if m ≤ r.since then some (p.1, r.since) else a
        | some r, none => some (p.1, r.since)
        | none, _ => a) none
    match last with
    | some (b, _) =>
      let x := s.bob b
      s.setBob b { x with staged := x.staged.dropLast ++ (x.staged.getLast?.toList).map (fun r => { r with item := { r.item with poison := true } }) }
    | none =>
      match (List.range 64).find? (fun k => match (s.eng (64 * die + k)).run with
          | some r => (match r.stall with | some st => st.kind == 0 | none => false)
          | none => false) with
      | some k =>
        let e := 64 * die + k
        s.setEng e { s.eng e with run := (s.eng e).run.map (fun r => { r with hurt := true }) }
      | none => s

/-- FIFO_PARITY_ERROR at an island (R578): UE_CNT, the event and the record; the word goes on poison-tagged. DESIGN CHOICE (log
entry 141): the command names the island and not the word, which is the last that crossed there. A host write that crosses
with bad parity is this command alone, and nothing is applied. -/
def State.fifoParityOp (s : State) (island : Nat) : State :=
  let a := 0x7F000000 + island
  let t := s.bumpSat (ECC_CLSk 7 + 16) ECC_CLSk_UE_CNT
  let t := if t.flag ECC_EVT ECC_EVT_FIFO_UE then t else t.wr (ECC_CLSk 7 + 20) (BitVec.ofNat 32 a)
  let t := (t.setFld ECC_EVT ECC_EVT_FIFO_UE 1).log 578 island [island]
  if island < 1024 then
    match t.hurtParsed (island / 64) (fun it => it.src == island) with
    | some u => u
    | none => match (t.port island).tx with
      | some x =>
        let u := t.dropItem x.item rMalformed
        u.setPort island { u.port island with tx := some { x with item := { x.item with bad := true } } }
      | none => t
  else match island with
    | 0x401 => t.hurtRead .spi
    | 0x402 => t.hurtRead .pcie
    | 0x403 => t.hurtStack 0
    | 0x404 => t.hurtStack 1
    | 0x405 => ((List.range 16).findSome? (fun p => t.hurtParsed p (fun it => decide (8192 ≤ it.src) && decide (it.src < 16384)))).getD t
    | _ => t

/-- FIFO_PARITY_ERROR, R578: A crossing word with bad parity is delivered poison-tagged. -/
def execFifoParityError (island : Nat) (s : State) : Host.Outcome State Fault Refusal := finish s (s.fifoParityOp island)

/-- STATE_REQ, R447: STATE_REQ moves the node between CONFIG and RUN. -/
def execStateReq (v : Nat) (s : State) : Host.Outcome State Fault Refusal := finish s (s.stateReqOp v)

/-- DATA_STOP, R468: DATA_STOP stops every port, channel, bus and bobbin. -/
def execDataStop (s : State) : Host.Outcome State Fault Refusal := finish s s.dataStopOp

/-- TENANT_STOP, R468: A tenant's STOP stops the resources bound to that tenant. -/
def execTenantStop (t : Nat) (s : State) : Host.Outcome State Fault Refusal := finish s (s.tenantStopOp t)


end Sys2Proof.Machine
end

