-- ==== Sys2Proof/Machine/Objects.lean ====
section
/-! DEFINITION. The object dictionary: every object with its type, access, role, observation level and range, and the
values of the objects that settings banks store: spec/14 R439 to R443, R471 to R473 and the object tables of each
chapter. -/

namespace Sys2Proof.Machine

/-- The types of R440: U8 to U64 and TIME64 by their octets, I32 and I64 likewise; a record DOMAIN and a message DOMAIN
(R454). -/
inductive OdTy where
  | bool
  | u (n : Nat)
  | i (n : Nat)
  | oct (n : Nat)
  | str (n : Nat)
  | dom
  | msg
  deriving DecidableEq, Repr

/-- The access codes of R441. -/
inductive OdAcc where
  | const | ro | rw | wo | rwc
  deriving DecidableEq, Repr

/-- One row of the dictionary: indices base + step·k for k below count, subindices lo to hi. An empty range admits
every value of the type; `obs` is the level that gates it (R560). -/
structure Od where
  base : Nat
  step : Nat
  count : Nat
  lo : Nat
  hi : Nat
  ty : OdTy
  acc : OdAcc
  role : Nat
  obs : Nat
  rng : List (Int × Int)
  deriving DecidableEq, Repr

/-- A row of one subindex. -/
def od1 (base step count sub : Nat) (ty : OdTy) (acc : OdAcc) (role : Nat) (rng : List (Int × Int) := []) : Od :=
  ⟨base, step, count, sub, sub, ty, acc, role, 0, rng⟩

/-- A row of one subindex at one index that an observation level gates. -/
def odObs (base sub : Nat) (ty : OdTy) (acc : OdAcc) (role obs : Nat) (rng : List (Int × Int) := []) : Od :=
  ⟨base, 1, 1, sub, sub, ty, acc, role, obs, rng⟩

def tenantRng : List (Int × Int) := [(0, 1023), (65535, 65535)]

/-- R472, R473, R107. -/
def odSystem : List Od :=
  [ od1 0x0000 1 1 1 (.str 16) .const 0, od1 0x0000 1 1 2 (.str 16) .const 0, od1 0x0000 1 1 3 (.str 16) .const 0,
    od1 0x0000 1 1 4 (.u 2) .const 0, od1 0x0000 1 1 5 (.oct 16) .ro 0, od1 0x0000 1 1 6 (.u 4) .ro 0,
    od1 0x0000 1 1 7 (.u 4) .ro 0,
    od1 0x0001 1 1 1 (.u 2) .ro 0, od1 0x0001 1 1 2 (.u 1) .ro 0, od1 0x0001 1 1 3 (.u 1) .wo 2 [(1, 2)],
    od1 0x0001 1 1 4 (.u 8) .ro 0,
    od1 0x0002 1 1 1 (.u 1) .wo 1 [(1, 1)], od1 0x0002 1 1 2 (.u 8) .ro 0,
    od1 0x0003 1 1 1 (.u 2) .rwc 2 [(0x600, 0xFFFF)], od1 0x0003 1 1 2 (.oct 128) .rw 2, od1 0x0003 1 1 3 (.oct 6) .ro 0,
    od1 0x0003 1 1 4 (.u 2) .rw 2 [(1, 3600)], od1 0x0003 1 1 5 .dom .ro 0, od1 0x0003 1 1 6 (.oct 288) .ro 0,
    od1 0x0003 1 1 7 .dom .ro 0,
    od1 0x4000 16 1024 1 (.str 32) .rw 1, od1 0x4000 16 1024 2 (.u 1) .wo 1 [(1, 1)], od1 0x4000 16 1024 3 .dom .ro 0,
    od1 0x4000 16 1024 4 .dom .ro 0 ]

/-- The rows of a datum object; a system datum has no FOLLOW (R107). -/
def odDatum (base step count : Nat) (role : Nat := 1) : List Od :=
  [ od1 base step count 1 (.u 8) .ro 0, od1 base step count 2 (.u 8) .ro 0, od1 base step count 3 (.u 8) .ro 0,
    od1 base step count 4 (.u 2) .ro 0, od1 base step count 5 (.u 8) .ro 0, od1 base step count 7 (.u 8) .ro 0,
    od1 base step count 0x10 (.u 8) .rw role, od1 base step count 0x11 (.u 1) .rw role [(0, 1)],
    od1 base step count 0x12 (.u 8) .rw role, od1 base step count 0x13 (.u 8) .rw role [(1, 2 ^ 48 - 1)],
    od1 base step count 0x14 (.u 1) .wo role [(1, 2)] ]

def odTime : List Od :=
  od1 0x4002 16 1024 6 .bool .rw 1 [(0, 1)] :: odDatum 0x4002 16 1024 ++ odDatum 0x0040 1 8 2 ++
  [ od1 0x0048 1 1 1 (.u 1) .rw 2 [(0, 3)], od1 0x0048 1 1 2 .bool .ro 0 ]

/-- spec/04 and spec/05. -/
def odLinks : List Od :=
  [ ⟨0x1001, 8, 1024, 1, 8, .oct 8, .rw, 2, 0, []⟩, od1 0x0060 1 1 0x0B (.oct 128) .rw 2, od1 0xF003 1 1 4 (.oct 16) .rw 2,
    od1 0x1000 8 1024 1 .bool .rw 1 [(0, 1)], od1 0x1000 8 1024 2 (.u 4) .rw 2, od1 0x1000 8 1024 3 (.u 2) .rw 2 tenantRng,
    od1 0x1000 8 1024 4 .bool .ro 0, od1 0x1000 8 1024 5 (.u 2) .rw 1 [(1518, 10240)],
    od1 0x1000 8 1024 6 (.u 1) .wo 1 [(1, 1)], od1 0x1000 8 1024 7 .dom .ro 0,
    od1 0x3000 8 64 1 .bool .rw 1 [(0, 1)], od1 0x3000 8 64 2 (.u 4) .rw 2, od1 0x3000 8 64 3 (.u 2) .rw 2 tenantRng,
    od1 0x3000 8 64 4 (.u 1) .rw 1 [(0, 3)], od1 0x3000 8 64 5 (.u 4) .ro 0, od1 0x3000 8 64 6 (.u 4) .rw 1,
    od1 0x3000 8 64 7 (.u 4) .rw 1, od1 0x3000 8 64 8 .dom .ro 0,
    od1 0x3200 8 16 1 .bool .rw 1 [(0, 1)], od1 0x3200 8 16 2 (.u 2) .rw 2 tenantRng, od1 0x3200 8 16 3 (.u 4) .rw 2,
    od1 0x3200 8 16 4 .dom .ro 0,
    od1 0x3280 8 2 1 (.u 1) .ro 0, od1 0x3280 8 2 2 (.u 4) .ro 0, od1 0x3280 8 2 3 .dom .ro 0 ]

/-- spec/06. -/
def odBuses : List Od :=
  [ od1 0x8000 4 4096 1 .bool .rw 1 [(0, 1)], od1 0x8000 4 4096 2 (.u 2) .rw 2 tenantRng, od1 0x8000 4 4096 3 (.u 4) .rw 2,
    od1 0x8000 4 4096 4 (.u 4) .rw 2, od1 0x8000 4 4096 5 (.u 4) .rw 2, od1 0x8000 4 4096 6 (.u 4) .rw 2 [(10000, 1000000)],
    od1 0x8000 4 4096 7 (.u 4) .rw 2 [(0, 16777215)], ⟨0x8001, 4, 4096, 1, 16, .oct 16, .rw, 2, 0, []⟩,
    od1 0x8002 4 4096 1 (.u 1) .wo 1 [(1, 2)], od1 0x8002 4 4096 2 (.u 4) .rw 1, od1 0x8002 4 4096 3 (.u 4) .rw 1,
    od1 0x8003 4 4096 1 (.u 4) .ro 0, od1 0x8003 4 4096 2 (.u 2) .ro 0, od1 0x8003 4 4096 3 .dom .ro 0,
    od1 0x3400 1 1024 1 (.oct 32) .rw 2, od1 0x3800 1 64 1 (.oct 16) .rw 2 ]

/-- spec/07 and spec/08. -/
def odTables : List Od :=
  [ od1 0x4003 16 1024 1 (.u 4) .rw 1, od1 0x4003 16 1024 2 (.u 4) .rw 2 [(0, 2097152)], od1 0x4003 16 1024 3 (.u 4) .ro 0,
    od1 0x4003 16 1024 4 (.u 4) .rw 2, od1 0x4003 16 1024 5 (.oct 6) .rw 2, od1 0x4003 16 1024 6 (.u 4) .rw 2 [(0, 1048576)],
    od1 0xC000 1 1 1 .dom .rw 2, od1 0xC000 1 1 2 .dom .rw 2, od1 0xC001 1 1 1 .dom .rw 2, od1 0xC001 1 1 2 .dom .rw 1,
    od1 0xC001 1 1 3 .dom .rw 1, od1 0xC002 1 1 1 .dom .rw 1, od1 0xC002 1 1 2 .dom .ro 0, od1 0xC003 1 1 1 .dom .rw 1,
    od1 0xC004 1 1 1 .dom .rw 1, od1 0xC004 1 1 2 .dom .rw 1, od1 0xC005 1 1 1 .dom .rw 2, od1 0xC005 1 1 2 .dom .rw 1,
    od1 0xC005 1 1 3 .dom .rw 1, od1 0xC006 1 1 1 (.u 1) .wo 1 [(1, 1)], od1 0xC006 1 1 2 .dom .ro 0,
    od1 0x4004 16 1024 1 (.u 4) .rw 2, od1 0x4004 16 1024 2 (.u 4) .ro 0, ⟨0xC010, 1, 1, 1, 16, .oct 16, .rw, 2, 0, []⟩,
    ⟨0xC011, 1, 1, 1, 16, .oct 8, .rw, 2, 0, []⟩, od1 0xC012 1 1 1 .dom .rw 1, od1 0xC012 1 1 2 .dom .rw 1,
    od1 0xC012 1 1 3 .dom .rw 2, od1 0xC013 1 1 1 .dom .rw 2, od1 0xC014 1 1 1 (.u 4) .rw 2, odObs 0xC014 2 .dom .ro 0 2,
    od1 0xC014 1 1 3 .dom .ro 0 ]

/-- spec/09, spec/11 and spec/12. -/
def odEngines : List Od :=
  [ od1 0xC020 1 1 1 .dom .rw 1, od1 0xC020 1 1 2 .dom .wo 1, od1 0xC020 1 1 3 .dom .rw 1, od1 0xC021 1 1 1 .dom .rw 1,
    od1 0xC021 1 1 2 .dom .rw 2, od1 0xC021 1 1 3 .dom .rw 1, od1 0xC022 1 1 1 .dom .ro 1, od1 0xC022 1 1 2 .dom .ro 0,
    od1 0xC022 1 1 3 .dom .ro 0, od1 0xC022 1 1 4 (.u 2) .rw 2 [(1, 65535)],
    od1 0xC030 1 1 1 .dom .rw 1, od1 0xC030 1 1 2 (.oct 12) .wo 1, od1 0xC030 1 1 3 .dom .ro 0, od1 0xC030 1 1 4 .dom .ro 0,
    od1 0xC030 1 1 5 (.oct 128) .rw 2, od1 0xC030 1 1 6 (.u 2) .rw 2, od1 0xC030 1 1 7 (.oct 32) .rw 2,
    od1 0xE000 1 1 1 .msg .wo 1, od1 0xE000 1 1 2 (.u 4) .ro 0, od1 0xE000 1 1 3 (.u 4) .ro 0, od1 0xE000 1 1 4 (.u 2) .ro 0,
    od1 0xE000 1 1 5 (.u 2) .ro 0, od1 0xE001 1 1 1 .dom .ro 0, od1 0xE001 1 1 2 (.u 2) .ro 0, od1 0xE002 1 1 1 .dom .ro 0,
    od1 0xE002 1 1 2 (.u 4) .rw 2, od1 0xE002 1 1 3 .dom .ro 0, od1 0xE002 1 1 4 (.u 1) .rw 2, od1 0xE002 1 1 5 .dom .ro 0,
    od1 0xE003 1 1 1 (.oct 16) .ro 0, od1 0xE003 1 1 2 (.oct 96) .ro 0, od1 0xE003 1 1 3 (.u 4) .ro 0 ]

/-- spec/13 and spec/16. -/
def odThimble : List Od :=
  [ od1 0x0060 1 1 1 (.u 4) .ro 0, od1 0x0060 1 1 2 (.oct 16) .rwc 2, od1 0x0060 1 1 3 (.oct 96) .rwc 2,
    od1 0x0060 1 1 4 .bool .rwc 2 [(0, 1)], od1 0x0060 1 1 5 (.u 1) .wo 2 [(1, 1)], od1 0x0060 1 1 6 (.u 2) .rw 2 [(1, 65535)],
    od1 0x0060 1 1 7 (.i 4) .rw 2 [(-32768, 32767)], od1 0x0060 1 1 8 .dom .ro 0, od1 0x0060 1 1 9 .dom .ro 0,
    od1 0x0060 1 1 0x0A (.i 8) .ro 0, od1 0x0060 1 1 0x0C .bool .rwc 2 [(0, 1)],
    od1 0x0080 1 1 1 (.u 1) .wo 1 [(1, 1)], od1 0x0080 1 1 2 (.u 2) .rw 2 [(0, 3600)], od1 0x0080 1 1 3 (.u 4) .ro 0,
    od1 0x0081 1 1 1 .bool .rw 2 [(0, 1)], od1 0x0081 1 1 2 (.oct 16) .rw 0, od1 0x0081 1 1 3 .msg .wo 0,
    od1 0x0081 1 1 4 (.oct 96) .ro 0, od1 0x0081 1 1 5 (.u 2) .ro 0, od1 0x0081 1 1 6 (.u 1) .wo 2 [(1, 3)],
    od1 0x0081 1 1 7 (.u 1) .wo 2 [(1, 1)], od1 0x0081 1 1 8 (.u 4) .ro 0, od1 0x0081 1 1 9 (.u 2) .rw 2,
    od1 0x0081 1 1 0x0A (.u 1) .wo 2 [(1, 1)], od1 0x0081 1 1 0x0B (.oct 8) .ro 0, od1 0x0081 1 1 0x0C .dom .ro 1,
    od1 0x0082 1 1 1 (.u 4) .rw 2, od1 0x0082 1 1 2 (.u 4) .ro 0, od1 0x0082 1 1 3 .bool .rw 2 [(0, 1)],
    od1 0x0083 1 1 1 .dom .ro 0, od1 0x0083 1 1 2 (.u 4) .ro 0,
    od1 0x0084 1 1 1 .dom .ro 0, od1 0x0084 1 1 2 .dom .ro 0, od1 0x0084 1 1 3 .dom .ro 0, od1 0x0084 1 1 4 (.u 4) .rw 2,
    od1 0x0084 1 1 5 (.oct 8) .rw 2, od1 0x0085 1 1 1 (.u 1) .ro 0, od1 0x0085 1 1 2 .msg .wo 2, od1 0x0085 1 1 3 .dom .ro 0,
    od1 0x0085 1 1 4 (.u 1) .wo 2 [(1, 3)], od1 0x0085 1 1 5 (.oct 8) .ro 0 ]

/-- spec/17 and spec/19. -/
def odPower : List Od :=
  [ od1 0x0090 1 1 1 (.u 1) .wo 1 [(0, 3), (0x82, 0x83)], od1 0x0090 1 1 2 (.u 4) .ro 0, od1 0x0090 1 1 3 (.u 4) .rw 2,
    od1 0x0090 1 1 4 (.oct 8) .rw 2, od1 0x0090 1 1 5 (.u 4) .rw 1, od1 0x0090 1 1 6 (.oct 128) .rw 1,
    od1 0x0090 1 1 7 (.u 2) .rw 1 [(1, 65535)], od1 0x0090 1 1 8 (.u 4) .ro 0, od1 0x0090 1 1 9 (.u 1) .wo 1 [(1, 2)],
    od1 0x00A0 1 1 1 (.u 1) .ro 0, od1 0x00A0 1 1 2 (.oct 128) .wo 2, od1 0x00A0 1 1 3 (.u 1) .ro 0,
    od1 0x00A0 1 1 4 (.u 1) .wo 1 [(0, 3)], od1 0x00A0 1 1 5 (.u 1) .ro 0,
    od1 0x00B0 1 1 1 (.oct 128) .rwc 2, od1 0x00B0 1 1 2 (.u 2) .rwc 2 [(0x600, 0xFFFF)], od1 0x00B0 1 1 3 (.oct 128) .rw 2,
    od1 0x00B0 1 1 4 (.u 2) .rw 2 [(100, 60000)], od1 0x00B0 1 1 5 (.u 2) .rw 2 [(10, 60000)],
    od1 0x00B0 1 1 6 (.u 2) .rw 2 [(0, 60000)], od1 0x00B0 1 1 7 (.u 2) .rw 2 [(0, 60000)], od1 0x00B0 1 1 8 .bool .rwc 2 [(0, 1)],
    od1 0x00B0 1 1 9 (.u 4) .ro 0, od1 0x00B0 1 1 0x0A (.u 4) .ro 0, od1 0x00B0 1 1 0x0B (.oct 28) .ro 0,
    od1 0x00B0 1 1 0x0C .dom .ro 0, od1 0x00B0 1 1 0x0D .dom .ro 0 ]

/-- spec/18. -/
def odObserve : List Od :=
  [ odObs 0xF000 1 .dom .rw 1 1, odObs 0xF000 2 (.u 1) .wo 1 1 [(1, 2)], odObs 0xF000 3 .dom .ro 0 1,
    odObs 0xF000 4 (.u 4) .rw 1 0 [(0, 1000000)], odObs 0xF001 1 .dom .rw 1 1, odObs 0xF002 1 (.u 4) .rw 1 1,
    odObs 0xF002 2 .dom .ro 0 1, odObs 0xF003 1 (.u 4) .rw 2 2, odObs 0xF003 2 (.oct 12) .rw 2 0, odObs 0xF003 3 .dom .ro 0 0,
    odObs 0xF010 1 .dom .ro 0 0, odObs 0xF010 2 (.oct 28) .rw 2 0, odObs 0xF010 3 (.oct 14) .rw 2 0, odObs 0xF010 4 (.u 4) .ro 0 0,
    odObs 0xF030 1 .dom .wo 0 0, odObs 0xF030 2 .dom .ro 0 0, odObs 0xF030 3 (.u 4) .rw 2 0 ]

/-- The whole dictionary (R471). -/
def odRows : List Od :=
  odSystem ++ odTime ++ odLinks ++ odBuses ++ odTables ++ odEngines ++ odThimble ++ odPower ++ odObserve

/-- Row r defines subindex sub of index idx. -/
def Od.holds (r : Od) (idx sub : Nat) : Bool :=
  decide (r.base ≤ idx) && (idx - r.base) % r.step == 0 && decide ((idx - r.base) / r.step < r.count) &&
    decide (r.lo ≤ sub) && decide (sub ≤ r.hi)

/-- The row of index.sub (R439). -/
def odFind (idx sub : Nat) : Option Od := odRows.find? (fun r => r.holds idx sub)

/-- The highest subindex defined at an index; 0 where none is (R439). -/
def odTop (idx : Nat) : Nat := odRows.foldl (fun m r => if r.holds idx r.lo then max m r.hi else m) 0

/-- What names a row: its first index and subindex. -/
def Od.tag (r : Od) : Nat := 256 * r.base + r.lo

/-- The instance of a row that an index names. -/
def Od.inst (r : Od) (idx : Nat) : Nat := (idx - r.base) / r.step

/-- Octets of a value of the row's type; none where they vary (R440). -/
def OdTy.size : OdTy → Option Nat
  | .bool => some 1
  | .u n => some n
  | .i n => some n
  | .oct n => some n
  | _ => none

/-- The value lies in the row's range, with BOOL's own (R440). -/
def Od.inRange (r : Od) (v : List Byte) : Bool :=
  let x : Int := match r.ty with
    | .i n => sext (8 * n) (beNat v)
    | _ => beNat v
  r.rng.isEmpty || r.rng.any (fun p => decide (p.1 ≤ x) && decide (x ≤ p.2))

/-- Bits of a map in register order, bit n mod 8 of octet n / 8, as the number whose bit n is bit n (R472). -/
def mapNat (l : List Byte) : Nat := leNat l
/-- A map of n octets. -/
def natMap (n v : Nat) : List Byte := natLe n v

/-- Register words as octets (R10). -/
def State.wordOctets (s : State) (a n : Nat) : List Byte :=
  (List.range n).flatMap (fun k => natBe 4 (s.rd (a + 4 * k)).toNat)

/-- The TENANT object of a word with BOUND and TENANT. -/
def boundOctets (w : Word) : List Byte := natBe 2 (if bits w.toNat 10 10 = 1 then bits w.toNat 9 0 else 65535)

/-- Bits hi to lo of a word in place. -/
def inPlace (w : Word) (hi lo : Nat) : List Byte := natBe 4 (bits w.toNat hi lo * 2 ^ lo)

/-- A STRING object, kept in the map with a leading 1 octet; 0 is the empty string. -/
def odString (v : Nat) : List Byte :=
  if v = 0 then [] else (natBe 64 v).dropWhile (fun b => b == 0) |>.drop 1

/-- The value of an RW or RWC object that is no DOMAIN: row tag, instance k, subindex j; none where the row is another
(R521). A value that no session stages reads as its default. -/
def State.odStored (s : State) (tag k j : Nat) : Option (List Byte) :=
  match tag with
  | 0x000301 => some (natBe 2 (s.od tag))
  | 0x000302 => some (natMap 128 (s.od tag))
  | 0x000304 => some (natBe 2 (s.od tag))
  | 0x400001 => some (odString (s.od (256 * (0x4000 + 16 * k) + 1)))
  | 0x400206 => some (natBe 1 (bit (s.datum k).follow))
  | 0x004801 => some (natBe 1 s.servo.mode)
  | 0x100101 => some (s.wordOctets (EQ_TRUNK (k + j - 1)) 2)
  | 0x00600B => some ((List.range 16).flatMap (fun l => s.wordOctets (EQ_SEAM l) 2))
  | 0xF00304 => some ((List.range 2).flatMap (fun l => s.wordOctets (EQ_OBS l) 2))
  | 0x100001 => some (natBe 1 (s.fld (PORT_CFGn k) PORT_CFGn_EN))
  | 0x100002 => some (inPlace (s.rd (PORT_CFGn k)) 29 18)
  | 0x100003 => some (boundOctets (s.rd (PORT_CFGn k)))
  | 0x100005 => some (natBe 2 (s.fld (PORT_FRAMEn k) PORT_FRAMEn_MAXLEN))
  | 0x300001 => some (natBe 1 (s.fld (LCn_CFG k) LCn_CFG_EN))
  | 0x300002 => some (inPlace (s.rd (LCn_CFG k)) 30 11)
  | 0x300003 => some (boundOctets (s.rd (LCn_CFG k)))
  | 0x300004 => some (natBe 1 (s.fld (LCn_STAT k) LCn_STAT_TRX))
  | 0x300006 => some (natBe 4 (s.rd (LCn_WAKE k)).toNat)
  | 0x300007 => some (natBe 4 (s.rd (LCn_WTIME k)).toNat)
  | 0x320001 => some (natBe 1 (s.fld (PCm_CFG k) PCm_CFG_EN))
  | 0x320002 => some (boundOctets (s.rd (PCm_CFG k)))
  | 0x320003 => some (natBe 4 (s.rd (PCm_PLCA k)).toNat)
  | 0x800001 => some (natBe 1 (s.fld (VBn_CFG k) VBn_CFG_EN))
  | 0x800002 => some (boundOctets (s.rd (VBn_CFG k)))
  | 0x800003 => some (inPlace (s.rd (VBn_CFG k)) 30 15)
  | 0x800004 => some (natBe 4 (s.rd (VBn_NBT k)).toNat)
  | 0x800005 => some (natBe 4 (s.rd (VBn_DBT k)).toNat)
  | 0x800006 => some (natBe 4 (s.rd (VBn_LEAD k)).toNat)
  | 0x800007 => some (natBe 4 (s.rd (VBn_GWDLY k)).toNat)
  | 0x800101 => some (s.wordOctets (MEMBER k (j - 1)) 4)
  | 0x800202 => some (natBe 4 (s.rd (VBn_WAKE k)).toNat)
  | 0x800203 => some (natBe 4 (s.rd (VBn_WTIME k)).toNat)
  | 0x340001 => some (s.wordOctets (ATTACH k) 8)
  | 0x380001 => some (s.wordOctets (INJECTOR k) 4)
  | 0x400301 => some (natBe 4 (s.rd (TENANT k)).toNat)
  | 0x400302 => some (natBe 4 (s.fld (TENANT k + 4) TENANT_STA_QUOTA))
  | 0x400304 => some (natBe 4 (s.rd (TENANT k + 12)).toNat)
  | 0x400305 => some (natBe 4 (s.rd (TENANT k + 16)).toNat ++ natBe 2 (s.fld (TENANT k + 20) TENANT_RMAC_LO))
  | 0x400306 => some (natBe 4 (s.fld (TENANT k + 24) TENANT_LPM_QUOTA))
  | 0x400401 => some (natBe 4 (s.rd (SPILLCAP k)).toNat)
  | 0xC01001 => some (s.wordOctets (CORE_PNLp_ALPHA0 (j - 1)) 4)
  | 0xC01101 => some (s.wordOctets (CORE_HSELk (j - 1)) 2)
  | 0xC01401 => some (inPlace (s.rd CORE_CTRL) 29 28)
  | 0xC02204 => some (natBe 2 (s.fld PANEL_STCTRL PANEL_STCTRL_STALL_LIMIT))
  | 0xC03005 => some (s.wordOctets (CORE_BOBWINDw 0) 32)
  | 0xC03006 => some (natBe 2 (s.fld CORE_BOBCFG CORE_BOBCFG_WIND_ETYPE))
  | 0xC03007 => some ((List.range 16).flatMap (fun p => natBe 2 (s.fld (CORE_PNLp_STAGE p) CORE_PNLp_STAGE_STAGE_MAX)))
  | 0xE00202 => some (natBe 4 ((List.range 32).foldl (fun v n => v + 2 ^ n * s.fld (CIPH_LANEn n) CIPH_LANEn_EN) 0))
  | 0xE00204 => some (natBe 1 (s.fld CIPH_CTRL CIPH_CTRL_ALM_LIMIT))
  | 0x006002 => some (natBe 16 (s.od tag))
  | 0x006003 => some (natBe 96 (s.od tag))
  | 0x006004 => some (natBe 1 (s.od tag))
  | 0x006006 => some (natBe 2 (s.fld SEAM_CTRL SEAM_CTRL_HSYNC))
  | 0x006007 => some (natBe 4 (trunc 32 (sext 16 (s.fld SEAM_ASYM SEAM_ASYM_ASYM))))
  | 0x00600C => some (natBe 1 (s.fld SEAM_CTRL SEAM_CTRL_EN))
  | 0x008002 => some (natBe 2 (s.od tag))
  | 0x008101 => some (natBe 1 (s.od tag))
  | 0x008109 => some (natBe 2 (s.od tag))
  | 0x008201 => some (natBe 4 (s.od tag))
  | 0x008203 => some (natBe 1 (s.od tag))
  | 0x008404 => some (natBe 4 (s.rd THIM_THERM).toNat)
  | 0x008405 => some ((List.range 8).flatMap (fun r =>
      natBe 1 (128 * s.fld (THIM_RAILCFGr r) THIM_RAILCFGr_VALID + s.fld (THIM_RAILCFGr r) THIM_RAILCFGr_ADDR)))
  | 0x009003 => some (natBe 4 (s.rd SYS_PWR_WAKE).toNat)
  | 0x009004 => some (natMap 8 ((s.rd SYS_PWR_LOOMSRC0).toNat + 2 ^ 32 * (s.rd SYS_PWR_LOOMSRC1).toNat))
  | 0x009005 => some (natBe 4 (s.rd SYS_PWR_TIMER).toNat)
  | 0x009006 => some ((List.range 32).flatMap (fun w => natMap 4 (s.rd (SYS_PWR_DROWSYw w)).toNat))
  | 0x009007 => some (natBe 2 (s.fld SYS_PWR_CTRL SYS_PWR_CTRL_DROWSY_IDLE))
  | 0x00B001 => some (natMap 128 (s.od tag))
  | 0x00B002 => some (natBe 2 (s.od tag))
  | 0x00B003 => some (natMap 128 (s.od tag))
  | 0x00B004 => some (natBe 2 (s.od tag))
  | 0x00B005 => some (natBe 2 (s.od tag))
  | 0x00B006 => some (natBe 2 (s.od tag))
  | 0x00B007 => some (natBe 2 (s.od tag))
  | 0x00B008 => some (natBe 1 (s.od tag))
  | 0xF00004 => some (natBe 4 (s.fld OBS_SNAPCTL OBS_SNAPCTL_PERIOD))
  | 0xF00201 => some (natBe 4 (s.rd OBS_TAGCTL).toNat)
  | 0xF00301 => some (natBe 4 (s.rd OBS_TRCTL).toNat)
  | 0xF00302 => some (s.wordOctets OBS_TRPORT 3)
  | 0xF01002 => some ((List.range 7).flatMap (fun c => natBe 4 (s.rd (ECC_CLSk c)).toNat))
  | 0xF01003 => some ((List.range 7).flatMap (fun c => natBe 2 (s.fld (ECC_CLSk c + 28) ECC_CLSk_PERIOD)))
  | 0xF03003 => some (natBe 4 (s.rd OBS_COAL).toNat)
  | _ => none

/-- The value index.sub has at reset: its default (R443). -/
def odDefault (r : Od) (k j : Nat) : List Byte := (State.reset.odStored r.tag k j).getD []

/-- ENABLE subindices, stored only while AUTOSTART is 1 (R521, R523). -/
def isEnable (tag : Nat) : Bool := [0x100001, 0x300001, 0x320001, 0x800001].contains tag

/-- Bit 1 of the anchored boot policy: AUTOSTART (R518, R523). -/
def State.autostart (s : State) : Bool :=
  match s.anchor with
  | some g => (oct g 8).testBit 1
  | none => false

/-- Bit 0 of the anchored boot policy: CONFIG_FIRST (R518). -/
def State.configFirst (s : State) : Bool :=
  match s.anchor with
  | some g => (oct g 8).testBit 0
  | none => false

/-- The stored entries of a row: the objects whose values differ from their defaults (R521). -/
def State.rowEntries (s : State) (r : Od) : List (Nat × List Byte) :=
  if isEnable r.tag && !s.autostart then []
  else
    (List.range r.count).flatMap (fun k => (List.range (r.hi + 1 - r.lo)).filterMap (fun d =>
      match s.odStored r.tag k (r.lo + d) with
      | some v => if v = odDefault r k (r.lo + d) then none else some (256 * (r.base + r.step * k) + r.lo + d, v)
      | none => none))

/-- Every stored object away from its default, as a snapshot's entries (R521, R522). -/
def State.storedEntries (s : State) : List (Nat × List Byte) := odRows.flatMap s.rowEntries

end Sys2Proof.Machine
end

