-- ==== Sys2Proof/Machine/Thimble.lean ====
section
/-! DEFINITION. The Thimble: sensors, the event log, OTP, settings saves, image banks, activation and the update thread:
spec/16 R506 to R536. -/

namespace Sys2Proof.Machine

/-! ### Sensors (R507 to R510) -/

/-- LOCKSTEP_FAILURE: SAFE, and the restricted service, which answers reads; before the boot ROM runs there are no cores to
compare (R506, R507). -/
def State.lockstepOp (s : State) : State :=
  if s.pw.boot < 2 then s
  else
    let t := s.safeEntry 0
    { t with th := { t.th with restricted := true }, hostUp := true }

/-- What the Thimble does beside its restricted service, not done while that runs (R507). -/
def State.unrestricted (s t : State) : State := if s.th.restricted then s else t

/-- CRIT, at most 0x07D0 (THIM_THERM). -/
def State.critTemp (s : State) : Int := min (sext 16 (s.fld THIM_THERM THIM_THERM_CRIT)) 0x7D0
/-- WARN. -/
def State.warnTemp (s : State) : Int := sext 16 (s.fld THIM_THERM THIM_THERM_WARN)

/-- THERMAL_SAMPLE: a reading of diode n, in 1/16 °C; none in reset or in SLEEP (R508, R509, R399, R553). -/
def State.thermalOp (s : State) (n temp : Nat) : State :=
  if s.pw.boot = 0 then s else
  s.unrestricted <|
  let v := sext 16 temp
  let t := s.setFld (THIM_TSENSn n) THIM_TSENSn_TEMP temp
  let t := if sext 16 (s.fld THIM_TMAX THIM_TMAX_TEMP) < v then
      (t.setFld THIM_TMAX THIM_TMAX_TEMP temp).setFld THIM_TMAX THIM_TMAX_SENSOR n else t
  let t := if s.warnTemp ≤ v then t.setFld THIM_EVT THIM_EVT_TWARN 1 else t
  let t := if s.warnTemp ≤ v ∧ !s.th.hotWarn then State.log { t with th := { t.th with hotWarn := true } } 509 n [temp]
    else if t.th.hotWarn ∧ (List.range 64).all (fun k => decide (sext 16 (t.fld (THIM_TSENSn k) THIM_TSENSn_TEMP) ≤ s.warnTemp - 80)) then
      { t with th := { t.th with hotWarn := false } }
    else t
  let since := Sparse.get (fun _ => none) t.th.critSince n
  let crit := if s.critTemp ≤ v then some (since.getD s.mer) else none
  let t : State := { t with th := { t.th with critSince := Sparse.set (fun _ => none) t.th.critSince n crit } }
  if v < -720 ∧ !t.flag CIPH_STAT CIPH_STAT_TAMPER then t.globalTamper 2 else t

/-- THERMAL_CRITICAL: sensor n has read at CRIT or above for 1 ms without a break (R507). -/
def State.thermalCritOp (s : State) (n : Nat) : State :=
  match Sparse.get (fun _ => none) s.th.critSince n with
  | some t => if t + msTicks ≤ s.mer ∧ !s.th.restricted then s.safeEntry 1 else s
  | none => s

/-- PMBUS_POLL of regulator r: its answers as VOUT, IOUT, STATUS_WORD and temperature, or none after the fourth failure
(R510). -/
def State.pmbusOp (s : State) (r : Nat) (res : Option (Nat × Nat × Nat × Nat)) : State :=
  if !s.flag (THIM_RAILCFGr r) THIM_RAILCFGr_VALID || s.th.restricted then s
  else
    let seen := Sparse.get (fun _ => false) s.th.pmbSeen r
    let first := if seen then [] else [0x20]
    match res with
    | none => ((State.emitOut s (.pmbus r (first ++ [0x88, 0x8B, 0x8C, 0x8D, 0x79]))).setFld (THIM_RAILr r) THIM_RAILr_ERR 1
        |>.setFld THIM_EVT THIM_EVT_RAIL 1).log 510 r
    | some (v, i, st, c) =>
      let t : State := { s with th := { s.th with pmbSeen := Sparse.set (fun _ => false) s.th.pmbSeen r true } }
      let t := t.emitOut (.pmbus r (first ++ [0x88, 0x8B, 0x8C, 0x8D, 0x79] ++ (if st = 0 then [] else [0x03])))
      let t := ((t.setFld (THIM_RAILr r) THIM_RAILr_ERR 0).setFld (THIM_RAILr r) THIM_RAILr_VOUT v).setFld (THIM_RAILr r) THIM_RAILr_IOUT i
      (t.setFld (THIM_RAILr r + 4) THIM_RAILr_STATUS st).setFld (THIM_RAILr r + 4) THIM_RAILr_TEMP c

/-! ### The event log (R513 to R515) -/

/-- Octet 24 of a record: the interrupt-bit number of the block that raises a rule's events, 15 the Thimble, 16 the boot
ROM (R513, R475). -/
def blockOf (rule : Nat) : Nat :=
  if rule = 526 ∨ rule = 534 then 16
  else if rule < 50 then 0
  else if rule < 73 then 1
  else if rule < 108 then 2
  else if rule < 138 then 6
  else if rule < 173 then 3
  else if rule < 210 then 4
  else if rule < 283 then 7
  else if rule < 349 then 5
  else if rule < 372 then 7
  else if rule < 402 then 8
  else if rule < 439 then 9
  else if rule < 475 then 15
  else if rule < 486 then 0
  else if rule < 493 then 14
  else if rule < 499 then 15
  else if rule < 506 then 13
  else if rule < 539 then 15
  else if rule < 567 then 0
  else if rule < 580 then 12
  else if rule < 600 then 11
  else 15

/-- Octets 32–55 of a record as one number: 0 without parameters; a coalesced record as R597 lays it down; otherwise the
spec gives the values but not their places. -/
def LogRec.paramNum (r : LogRec) : Nat :=
  match r.rule, r.params with
  | _, [] => 0
  | 597, [a, n, f, l] => beNat (natBe 4 a ++ natBe 2 n ++ natBe 2 f ++ natBe 2 l ++ natBe 14 0)
  | k, p => Config.eventParams k p

/-- Octets 0–55 of a record with sequence number q (R513). -/
def LogRec.body (r : LogRec) (q : Nat) : List Byte :=
  let c := r.code.getD (Config.eventCode r.rule, Config.eventSeverity r.rule)
  natBe 4 q ++ natBe 8 r.first ++ natBe 8 r.last ++ natBe 4 r.count ++ natBe 1 (blockOf r.rule) ++ natBe 1 (c.2 % 4) ++
    natBe 2 c.1 ++ natBe 1 r.node.code ++ natBe 1 (bit r.lost) ++ natBe 2 r.inst ++ natBe 24 r.paramNum

/-- A block of octets with the CRC-32 and the commit word of R512. -/
def committed (body : List Byte) : List Byte :=
  body ++ natBe 4 (crc32 0xEDB88320 body) ++ natBe 4 0xC3A55A3C

/-- LOG_WRITE: the oldest record of the queue goes to its slot, once MRAM is ready (R513 to R515); the record is traced
(R590). -/
def State.logWriteOp (s : State) : State :=
  match s.logQueue with
  | [] => s
  | r :: rest =>
    if !(s.fld ECC_INIT ECC_INIT_DONE).testBit 5 then s
    else
      let q := (s.rd THIM_LOGSEQ).toNat
      let o := committed (r.body q)
      let t : State := { s with logQueue := rest, th := { s.th with logRing := Sparse.set (fun _ => []) s.th.logRing (q % 131072) o } }
      ((t.wr THIM_LOGSEQ (BitVec.ofNat 32 (q + 1))).mramStored (0x6800000 + 64 * (q % 131072)) 64).traceDue 0 4 false o

/-- The Thimble resumes after the valid record with the newest SEQ (R514). -/
def State.logScan (s : State) : State :=
  let seqs := s.th.logRing.filterMap (fun p =>
    let o := p.2
    if o.length = 64 ∧ beAt o 60 4 = 0xC3A55A3C ∧ beAt o 56 4 = crc32 0xEDB88320 (slice o 0 56) then some (beAt o 0 4) else none)
  match seqs with
  | [] => s
  | q :: l => s.wr THIM_LOGSEQ (BitVec.ofNat 32 (l.foldl (fun m k => if newerSeq m k then k else m) q + 1))

/-- The MRAM store whose code word at offset a is lost does not exist any more (R511, R572). -/
def State.mramLost (s : State) (a : Nat) : State :=
  let noBlock (b k : Nat) : State :=
    let x := Sparse.get (fun _ => ImgBank.reset) s.th.imgBanks b
    let y : ImgBank := { x with blocks := x.blocks.filter (fun p => p.1 != k) }
    { s with th := { s.th with imgBanks := Sparse.set (fun _ => ImgBank.reset) s.th.imgBanks b y } }
  if a < 0x6000000 then noBlock (a / 0x3000000) (a % 0x3000000 / 65536)
  else if a < 0x6800000 then
    { s with th := { s.th with setAreas := Sparse.set (fun _ => none) s.th.setAreas ((a - 0x6000000) / 0x200000) none } }
  else if a < 0x7000000 then { s with th := { s.th with logRing := Sparse.erase s.th.logRing ((a - 0x6800000) / 64) } }
  else if a < 0x7001000 then { s with keyMram := { s.keyMram with ctrA := none } }
  else if a < 0x7002000 then { s with keyMram := { s.keyMram with ctrB := none } }
  else if a < 0x7081000 then { s with keyMram := { s.keyMram with blob0 := none } }
  else if a < 0x7100000 then { s with keyMram := { s.keyMram with blob1 := none } }
  else if a < 0x7102000 then
    { s with th := { s.th with bankSels := Sparse.set (fun _ => none) s.th.bankSels ((a - 0x7100000) / 4096) none } }
  else if a < 0x7103000 then { s with th := { s.th with bootTries := s.th.bootTries.eraseIdx ((a - 0x7102000) / 64) } }
  else if a < 0x7106000 then noBlock 0 ((a - 0x7103000) / 16)
  else if a < 0x7109000 then noBlock 1 ((a - 0x7106000) / 16)
  else s

/-! ### OTP (R517 to R520) -/

/-- Burn thermometer counter c up to k steps, at most n, until one fails (R517). -/
def State.burnTo (s : State) (c k : Nat) : Nat → State
  | 0 => s
  | n + 1 =>
    if min k 256 ≤ s.otp.therm.getD c 0 then s
    else if (s.burnStep c).1 then (s.burnStep c).2.burnTo c k n else (s.burnStep c).2
def State.burn (s : State) (c k : Nat) : State := s.burnTo c k 256

/-- All octets from k, n of them, are 0. -/
def zeroAt (l : List Byte) (k n : Nat) : Bool := (slice l k n).all (fun b => b == 0)

/-- A generation's octets 0–4,087 are laid out as R518 has them. -/
def anchorShape (g : List Byte) (slot : Nat) : Bool :=
  beAt g 0 4 == 0x4C484153 && oct g 4 == 1 && oct g 5 == slot && (oct g 8) / 4 == 0 && oct g 9 / 32 == 0 && oct g 10 / 32 == 0 &&
    oct g 11 == 0 && zeroAt g 28 4 && oct g 292 / 16 == 0 && zeroAt g 293 3 && zeroAt g 584 3504

/-- The generation is valid in its slot (R519). -/
def anchorValid (g : List Byte) (slot : Nat) : Bool :=
  g.length == 4096 && anchorShape g slot && beAt g 4088 4 == crc32 0xEDB88320 (slice g 0 4088) && beAt g 4092 4 == 2 ^ 32 - 1

/-- The valid generation with the highest GEN (R519). -/
def State.rulingAnchor (s : State) : Option (Nat × List Byte) :=
  ((List.range 6).reverse.filterMap (fun k =>
    match s.otp.anchored[k]? with
    | some x => if anchorValid x.octets k then some (k, x.octets) else none
    | none => none)).head?

/-- The lowest slot with no bit programmed (R520). -/
def State.freeAnchor (s : State) : Option Nat :=
  (List.range 6).find? (fun k => match s.otp.anchored[k]? with | some x => !x.spent | none => false)

/-- A message of R520 is judged and programmed: its status. -/
def State.anchorUpdate (s : State) (m : List Byte) : Nat × State :=
  let g := slice m 24 4096
  let signer := oct m 5
  if m.length ≠ 4216 ∨ beAt m 0 4 ≠ 0x4C415550 ∨ oct m 4 ≠ 1 ∨ (signer ≠ 2 ∧ signer ≠ 3) ∨ beAt m 6 2 ≠ 0 ∨
      slice m 8 16 ≠ s.otp.uid ∨ beAt g 4088 4 ≠ crc32 0xEDB88320 (slice g 0 4088) ∨ beAt g 4092 4 ≠ 0 ∨
      !anchorShape g (s.freeAnchor.getD (oct g 5)) then (7, s)
  else if (signer = 3 ∧ s.lifecycle ≠ 0 ∧ s.lifecycle ≠ 3) ∨
      (match s.roleKey signer with
       | some k => !Config.ecdsaOk k (slice m 0 4120) (slice m 4120 96)
       | none => true) = true then (0x0C, s)
  else
    match s.freeAnchor with
    | none => (5, s)
    | some k =>
      let x : AnchorSlot := { spent := true, octets := slice g 0 4092 ++ [0xFF, 0xFF, 0xFF, 0xFF] }
      (0, { s with otp := { s.otp with anchored := s.otp.anchored.set k x } })

/-- ANCHOR_UPDATE: a message submitted through OD 0x0085.02. -/
def State.anchorUpdateOp (s : State) (m : List Byte) : State := s.actOwn 0x008502 (fun s => s.anchorUpdate m)

/-! ### Images (R525 to R529) -/

def State.img (s : State) (b : Nat) : ImgBank := Sparse.get (fun _ => ImgBank.reset) s.th.imgBanks b
def State.setImg (s : State) (b : Nat) (x : ImgBank) : State :=
  { s with th := { s.th with imgBanks := Sparse.set (fun _ => ImgBank.reset) s.th.imgBanks b x } }

/-- The standby bank holds another download, or none: the forwarder starts again at block 0 (R530). -/
def State.threadAgain (s : State) : State :=
  { s with th := { s.th with thread := { s.th.thread with next := 0, waiting := [] } } }

/-- Block k of bank b and its entry of the block map are stored (R511, R512). -/
def State.blockStored (s : State) (b k n : Nat) : State :=
  (s.mramStored (0x3000000 * b + 65536 * k) n).mramStored (0x7103000 + 0x3000 * b + 16 * k) 16

/-- The running bank, and the standby bank. -/
def State.runBank (s : State) : Nat := s.fld THIM_STAT THIM_STAT_BANK
def State.standby (s : State) : Nat := 1 - s.runBank
/-- THIM_STAT.UPD: 0 CONFIRMED, 1 TRIAL, 2 PENDING, 3 RECOVERY. -/
def State.upd (s : State) : Nat := s.fld THIM_STAT THIM_STAT_UPD

def ImgBank.has (x : ImgBank) (k : Nat) : Bool := x.blocks.any (fun p => p.1 == k)

/-- Every block up to the count is committed. -/
def ImgBank.complete (x : ImgBank) : Bool := decide (0 < x.count) && (List.range x.count).all x.has

/-- The lowest block not committed. -/
def ImgBank.nextBlock (x : ImgBank) : Nat := ((List.range (x.count + 1)).find? (fun k => !x.has k)).getD x.count

/-- Octets off to off + n − 1 of a bank's manifest. -/
def ImgBank.read (x : ImgBank) (off n : Nat) : List Byte :=
  (List.range n).map (fun i =>
    match x.blocks.find? (fun p => p.1 == (off + i) / 65536) with
    | some p => p.2.getD ((off + i) % 65536) 0
    | none => 0)

/-- A big-endian field of a bank's manifest (R525). -/
def ImgBank.field (x : ImgBank) (off n : Nat) : Nat := beNat (x.read off n)

/-- STBY and NEXT_BLOCK of THIM_STAT. -/
def State.showStandby (s : State) : State :=
  let x := s.img s.standby
  (s.setFld THIM_STAT THIM_STAT_STBY (if x.blocks.isEmpty then 0 else if x.complete then 2 else 1)).setFld THIM_STAT
    THIM_STAT_NEXT_BLOCK x.nextBlock

/-- A submitted block under its 16-octet header is judged and committed: its status (R527, R528). -/
def State.storeBlock (s : State) (h o : List Byte) : Nat × State :=
  let mid := beAt h 0 8
  let k := beAt h 8 2
  let n := beAt h 10 2
  let x := s.img s.standby
  if s.upd = 1 ∨ s.upd = 2 then (5, s)
  else if h.length ≠ 16 then (5, s)
  else if n = 0 ∨ 768 < n ∨ n ≤ k ∨ o = [] ∨ 65536 < o.length ∨ (k + 1 < n ∧ o.length ≠ 65536) then (6, s)
  else if beAt h 12 4 ≠ crc32 0xEDB88320 o then (7, s)
  else if k ≠ 0 ∧ mid ≠ x.mid then (5, s)
  else if x.mid = mid ∧ x.has k then (0, s)
  else
    let s := if k = 0 ∧ mid ≠ x.mid then s.threadAgain else s
    let x : ImgBank := if k = 0 ∧ mid ≠ x.mid then { mid := mid, count := n, blocks := [] }
      else if x.blocks.isEmpty then { x with count := n } else x
    (0, ((s.setImg s.standby { x with blocks := x.blocks ++ [(k, o)] }).blockStored s.standby k o.length).showStandby)

/-! ### Sessions by number -/

def State.session? (s : State) (k : Nat) : Option Session := s.oap.sessions.find? (fun x => x.num == k)

/-- Replace a session. -/
def State.setSession (s : State) (x : Session) : State :=
  { s with oap := { s.oap with sessions := s.oap.sessions.map (fun y => if y.num = x.num then x else y) } }

/-- BLOCK_HEADER: the header is staged for the session (R527). -/
def State.blockHeader (s : State) (k : Nat) (h : List Byte) : Nat × State :=
  match s.session? k with
  | none => (0x0B, s)
  | some x => if h.length ≠ 16 then (6, s) else (0, s.setSession { x with hdr := h })

def State.blockHeaderOp (s : State) (k : Nat) (h : List Byte) : State := s.actOwn 0x008102 (fun s => s.blockHeader k h)

/-- BLOCK: a submission clears the staged header, whatever its status (R527, R528). -/
def State.blockSubmit (s : State) (k : Nat) (o : List Byte) : Nat × State :=
  match s.session? k with
  | none => (0x0B, s)
  | some x =>
    let t := s.setSession { x with hdr := [] }
    if s.od 0x008101 ≠ 1 then (5, t) else t.storeBlock x.hdr o

def State.blockOp (s : State) (k : Nat) (o : List Byte) : State := s.actOwn 0x008103 (fun s => s.blockSubmit k o)

/-- RESULT of THIM_IMGCTL for a status. -/
def imgResult (status : Nat) : Nat := if status = 0 then 0 else if status = 6 then 2 else if status = 7 then 3 else 1

/-- Octets of the staging buffer (R529). -/
def State.imgBuf (s : State) (n : Nat) : List Byte :=
  ((List.range ((n + 3) / 4)).flatMap (fun k => natLe 4 (s.rd (THIM_IMGBUF k)).toNat)).take n

/-- Store the staged block (R529). -/
def State.imgStore (s : State) : State :=
  let h := natBe 4 (s.rd THIM_IMGMID_HI).toNat ++ natBe 4 (s.rd THIM_IMGMID_LO).toNat ++
    natBe 2 (bits (s.rd THIM_IMGBLK).toNat 15 0) ++ natBe 2 (bits (s.rd THIM_IMGBLK).toNat 31 16) ++ natBe 4 (s.rd THIM_IMGCRC).toNat
  let n := s.fld THIM_IMGCTL THIM_IMGCTL_LEN
  let (c, t) := if 65536 < n then (6, s) else s.storeBlock h (s.imgBuf n)
  t.setFld THIM_IMGCTL THIM_IMGCTL_RESULT (imgResult c)

/-- IMG_STORE_BLOCK: a write of THIM_IMGCTL with OP 1, in any node state. -/
def State.imgStoreOp (s : State) (i : Iface) (w : Word) : State :=
  if getF w THIM_IMGCTL_OP ≠ 1 ∨ s.flag THIM_IMGCTL THIM_IMGCTL_BUSY ∨ s.th.restricted then s
  else s.thimAccess (s.typedWrite i THIM_IMGCTL w).imgStore

/-! ### Settings saves (R521 to R523) -/

def State.setArea (s : State) (k : Nat) : Option SetSnap := Sparse.get (fun _ => none) s.th.setAreas k

/-- The area of a bank with the newest committed snapshot. -/
def State.newestArea (s : State) (bank : Nat) : Option (Nat × SetSnap) :=
  match s.setArea (2 * bank), s.setArea (2 * bank + 1) with
  | some a, some b => some (if newerSeq a.snap b.snap then (2 * bank + 1, b) else (2 * bank, a))
  | some a, none => some (2 * bank, a)
  | none, some b => some (2 * bank + 1, b)
  | none, none => none

/-- SCHEMA_VERSION of the running image. -/
def State.schema (s : State) : Nat := (s.img s.runBank).field 16 4

/-- A save takes every stored value at this instant (R523). -/
def State.saveStart (s : State) : State :=
  let b := s.runBank
  let (area, snap) := match s.newestArea b with
    | some (a, x) => (2 * b + (1 - a % 2), (x.snap + 1) % 2 ^ 32)
    | none => (2 * b, 1)
  let job : SaveJob := { area := area, snap := { snap := snap, schema := s.schema, entries := s.storedEntries } }
  { s with th := { s.th with saving := some job, saveNext := false, saveDirty := none, saveLast := some s.mer } }

/-- A save may start: none is in progress, and the last is at least 1 s old. -/
def State.saveReady (s : State) : Bool :=
  s.th.saving.isNone && (match s.th.saveLast with | some t => decide (t + 1000 * msTicks ≤ s.mer) | none => true)

/-- The save's commit word is written (R522, R523). -/
def State.saveCommit (s : State) : State :=
  match s.th.saving with
  | none => s
  | some j =>
    let l := Sparse.set (fun _ => none) s.th.setAreas j.area (some j.snap)
    (State.mramStored { s with th := { s.th with saving := none, setAreas := l } } (0x6000000 + 0x200000 * j.area) 0x200000).setFld
      THIM_EVT THIM_EVT_SAVED 1

/-- SAVE: a write of 1 to OD 0x0080.01; during a save or within 1 s of the last it waits. -/
def State.save (s : State) : Nat × State :=
  if s.saveReady then (0, s.saveStart) else (0, { s with th := { s.th with saveNext := true } })

def State.saveOp (s : State) : State := s.actOwn 0x008001 State.save

/-- A save is due on its own, or one that waits can start. -/
def State.saveDue (s : State) : Bool :=
  !s.th.restricted && s.saveReady && (s.th.saveNext ||
    (match s.th.saveDirty with
     | some t => s.od 0x008002 != 0 && decide (t + s.od 0x008002 * 1000 * msTicks ≤ s.mer)
     | none => false))

/-- The save that is due starts. -/
def State.saveDelayOp (s : State) : State := if s.saveDue then s.saveStart else s

/-- The save ends, and the one that waits starts. -/
def State.saveDoneOp (s : State) : State :=
  let t := s.saveCommit
  if t.th.saveNext && t.saveReady then t.saveStart else t

/-- A stored object has changed since the last save (R523). -/
def State.markDirty (s : State) : State :=
  match s.th.saveDirty with
  | some _ => s
  | none => { s with th := { s.th with saveDirty := some s.mer } }

/-! ### Activation (R532 to R536) -/

def State.bankSel (s : State) (k : Nat) : Option BankSel := Sparse.get (fun _ => none) s.th.bankSels k

/-- The slot and record that rule (R532). -/
def State.rulingSel (s : State) : Option (Nat × BankSel) :=
  match s.bankSel 0, s.bankSel 1 with
  | some a, some b => some (if newerSeq a.seq b.seq then (1, b) else (0, a))
  | some a, none => some (0, a)
  | none, some b => some (1, b)
  | none, none => none

/-- Write a bank-select record over the slot that does not rule. -/
def State.writeSel (s : State) (sel prev : Nat) (trial : Bool) : State :=
  let (slot, seq) := match s.rulingSel with
    | some (k, r) => (1 - k, (r.seq + 1) % 2 ^ 32)
    | none => (0, 0)
  let x := s.img sel
  let r : BankSel := { seq := seq, sel := sel, prev := prev, trial := trial, mid := x.mid, svn := x.field 8 4 }
  State.mramStored { s with th := { s.th with bankSels := Sparse.set (fun _ => none) s.th.bankSels slot (some r) } }
    (0x7100000 + 4096 * slot) 64

/-- This node is paired (R433). -/
def State.paired (s : State) : Bool := s.flag SEAM_CTRL SEAM_CTRL_EN
/-- This node is twin B (R17). -/
def State.isTwinB (s : State) : Bool := s.flag SEAM_STAT SEAM_STAT_ROLE

/-- Steps 3 to 5 of R533, with v as written. -/
def State.select (s : State) (v : Nat) : State :=
  let s := s.saveCommit
  let s := if s.th.saveNext || (s.th.saveDirty.isSome && s.od 0x008002 != 0) then s.saveStart.saveCommit else s
  let t := (s.writeSel s.standby s.runBank true).setFld THIM_STAT THIM_STAT_UPD 2
  if v = 2 then { t with th := { t.th with rstDue := some (s.mer + 10 * msTicks) } } else t

/-- ACTIVATE 1 or 2, with the UPDATE_STATE word the twin answers; the flag says that the twin's answer refused it. -/
def State.activate (s : State) (v : Nat) (twin : Option Nat) : Nat × Bool × State :=
  if !(s.img s.standby).complete || s.upd != 0 then (5, false, s)
  else if !s.paired then (0, false, s.select v)
  else
    match twin with
    | none => (5, true, s)
    | some w =>
      let u := bits w 31 29
      if u = 0 ∨ (u = 2 ∧ !s.isTwinB) then (0, false, s.select v) else (5, true, s)

/-- ACTIVATE: through OD 0x0081.06, or OP 2 of THIM_IMGCTL where `reg`, whose RESULT is 1 or 4 on a refusal. -/
def State.activateOp (s : State) (v : Nat) (reg : Bool) (twin : Option Nat) : State :=
  if v ≠ 1 ∧ v ≠ 2 then s
  else if reg then
    if s.flag THIM_IMGCTL THIM_IMGCTL_BUSY || s.th.restricted then s
    else
      let (c, tw, t) := s.activate 1 twin
      s.thimAccess (t.setFld THIM_IMGCTL THIM_IMGCTL_RESULT (if c = 0 then 0 else if tw then 4 else 1))
  else s.actOwn 0x008106 (fun s => ((s.activate v twin).1, (s.activate v twin).2.2))

/-- ACTIVATE 3 (R533). -/
def State.activateSkip (s : State) : Nat × State :=
  if !s.flag SEAM_STAT SEAM_STAT_TWIN_DOWN || !(s.img s.standby).complete || s.upd != 0 then (5, s)
  else (0, (s.log 533 0).select 3)

/-- ACTIVATE_SKIP_TWIN: through the object, or OP 4 of THIM_IMGCTL. -/
def State.activateSkipOp (s : State) (reg : Bool) : State :=
  if reg then
    if s.flag THIM_IMGCTL THIM_IMGCTL_BUSY || s.th.restricted then s
    else
      let (c, t) := s.activateSkip
      s.thimAccess (t.setFld THIM_IMGCTL THIM_IMGCTL_RESULT (bit (c != 0)))
  else s.actOwn 0x008106 State.activateSkip

/-- Confirm a trial image (R535). -/
def State.confirm (s : State) : State :=
  if s.upd ≠ 1 then s
  else
    match s.rulingSel with
    | none => s
    | some (_, r) =>
      let t := (s.writeSel r.sel r.prev false).burn 0 (min r.svn 256)
      let t : State := { t with th := { t.th with bootTries := t.th.bootTries.filter (fun q => q != r.seq) } }
      (t.setFld THIM_STAT THIM_STAT_UPD 0).setFld THIM_STAT THIM_STAT_ATTEMPTS 0

/-- CONFIRM: a write of 1 to OD 0x0081.07. -/
def State.confirmOp (s : State) : State := s.actOwn 0x008107 (fun s => (0, s.confirm))

/-- AUTO_CONFIRM: that many seconds after the node first reached RUN (R535). -/
def State.autoConfirmOp (s : State) : State :=
  match s.runAt with
  | some t => if s.od 0x008109 ≠ 0 ∧ t + s.od 0x008109 * 1000 * msTicks ≤ s.mer ∧ !s.th.restricted then s.confirm else s
  | none => s

/-- Clear the standby bank (R536). -/
def State.discard (s : State) : Nat × State :=
  if s.upd = 1 ∨ s.upd = 2 then (5, s) else (0, (s.setImg s.standby ImgBank.reset).threadAgain.showStandby)

/-- DISCARD: through OD 0x0081.0A, or OP 3 of THIM_IMGCTL. -/
def State.discardOp (s : State) (reg : Bool) : State :=
  if reg then
    if s.flag THIM_IMGCTL THIM_IMGCTL_BUSY || s.th.restricted then s
    else
      let (c, t) := s.discard
      s.thimAccess (t.setFld THIM_IMGCTL THIM_IMGCTL_RESULT (bit (c != 0)))
  else s.actOwn 0x00810A State.discard

/-- Burn thermometer counter 1 up to k (R536). -/
def State.revoke (s : State) (k : Nat) : Nat × State :=
  if k = 0 ∨ 3 < k then (7, s) else if (s.img s.runBank).field 5 1 < k then (5, s) else (0, s.burn 1 k)

/-- REVOKE_KEYS: a write of k to OD 0x0085.04. -/
def State.revokeOp (s : State) (k : Nat) : State := s.actOwn 0x008504 (fun s => s.revoke k)

/-! ### The update thread and expanders (R530, R531, R534) -/

def State.setThread (s : State) (x : ThreadSt) : State := { s with th := { s.th with thread := x } }
/-- Node and port of THREAD_NEXT. -/
def State.threadNode (s : State) : Nat := s.od 0x008201 / 65536
def State.threadPort (s : State) : Nat := s.od 0x008201 % 1024

/-- THREAD_FORWARD without `resp`: the next committed block is sent, over a session that opens first. With it, the oldest
block sent is answered with that status: a refusal other than BUSY is an error, retried every second (R530, R531). -/
def State.threadForwardOp (s : State) (resp : Option Nat) : State :=
  let x := s.th.thread
  if s.threadNode = 65535 ∨ s.th.restricted then s
  else
    match resp with
    | none =>
      if x.retry.isSome ∨ 8 ≤ x.waiting.length ∨ !(s.img s.standby).has x.next then s
      else
        let t := if x.open_ then s else s.emitOut (.threadOpen s.threadNode s.threadPort)
        (t.setThread { x with open_ := true, next := x.next + 1, waiting := x.waiting ++ [(x.next, s.mer)], state := 1 }).emitOut
          (.threadBlock s.threadNode s.threadPort x.next)
    | some st =>
      match x.waiting with
      | [] => s
      | (k, _) :: rest =>
        if st = 0 then s.setThread { x with waiting := rest, last := k, state := if rest = [] then 0 else 1 }
        else if st = 9 then s.setThread { x with waiting := [], next := k }
        else if st = 0x0B then s.setThread { x with open_ := false, waiting := [], retry := some (s.mer + 100 * msTicks) }
        else (s.setThread { x with open_ := false, waiting := [], state := 2, retry := some (s.mer + 1000 * msTicks) }).log 531 k [st]

/-- THREAD_REOPEN: 100 ms after a failed session or an unanswered request of 100 ms, with the downstream's NEXT_BLOCK;
`same` where its standby bank holds this bank's MID (R531). -/
def State.threadReopenOp (s : State) (next : Nat) (same : Bool) : State :=
  let x := s.th.thread
  let late := x.waiting.any (fun p => decide (p.2 + 200 * msTicks ≤ s.mer))
  let due := match x.retry with | some t => decide (t ≤ s.mer) | none => late
  if s.threadNode = 65535 ∨ s.th.restricted ∨ !due then s
  else (s.setThread { x with open_ := true, next := if same then next else 0, waiting := [], retry := none, state := 1 }).emitOut
    (.threadOpen s.threadNode s.threadPort)

/-- The running manifest has a part of a type (R525). -/
def State.hasPart (s : State) (ty : Nat) : Bool :=
  let x := s.img s.runBank
  (List.range (min 16 (x.field 6 2))).any (fun k => x.field (64 + 64 * k) 1 == ty)

/-- EXPANDER_PUSH: part 5 to every valid attachment, once a confirmed image runs (R534). -/
def State.expanderPushOp (s : State) : State :=
  if s.od 0x008203 ≠ 1 ∨ s.upd ≠ 0 ∨ !s.hasPart 5 ∨ !s.hostUp ∨ s.th.restricted then s
  else
    let l := (s.unitsWith (ATTACH 0) 32 1024 (fun w => w.getLsbD 31)).filter (fun a => !s.th.pushed.contains a)
    l.foldl (fun t a => State.emitOut { t with th := { t.th with pushed := t.th.pushed ++ [a] } } (.push a)) s

/-- LOCKSTEP_FAILURE, R507: A lockstep mismatch of the Thimble cores enters SAFE. -/
def execLockstepFailure (s : State) : Host.Outcome State Fault Refusal := finish s s.lockstepOp

/-- THERMAL_SAMPLE, R508: A thermal diode is sampled, raising a warning or low-temperature tamper. -/
def execThermalSample (n : Nat) (temp : Nat) (s : State) : Host.Outcome State Fault Refusal := finish s (s.thermalOp n temp)

/-- THERMAL_CRITICAL, R507: A reading at CRIT for 1 ms enters SAFE. -/
def execThermalCritical (n : Nat) (s : State) : Host.Outcome State Fault Refusal := finish s (s.thermalCritOp n)

/-- PMBUS_POLL, R510: Each 10 ms a regulator is polled over PMBus. -/
def execPmbusPoll (r : Nat) (res : Option (Nat × Nat × Nat × Nat)) (s : State) : Host.Outcome State Fault Refusal := finish s (s.pmbusOp r res)

/-- LOG_WRITE, R515: A queued event-log record is written to MRAM. -/
def execLogWrite (s : State) : Host.Outcome State Fault Refusal := finish s s.logWriteOp

/-- ANCHOR_UPDATE, R520: An anchored-settings message programs a new OTP generation. -/
def execAnchorUpdate (octets : List Byte) (s : State) : Host.Outcome State Fault Refusal := finish s (s.anchorUpdateOp octets)

/-- SAVE, R523: SAVE starts a settings save. -/
def execSaveStart (s : State) : Host.Outcome State Fault Refusal := finish s s.saveOp

/-- BLOCK_HEADER, R527: A block header is staged for the session. -/
def execBlockHeader (session : Nat) (octets : List Byte) (s : State) : Host.Outcome State Fault Refusal := finish s (s.blockHeaderOp session octets)

/-- BLOCK, R528: A submitted update block is judged and committed to the standby bank. -/
def execSubmitBlock (session : Nat) (octets : List Byte) (s : State) : Host.Outcome State Fault Refusal := finish s (s.blockOp session octets)

/-- IMG_STORE_BLOCK, R529: THIM_IMGCTL OP 1 stores the staged block. -/
def execImgStoreBlock (i : Iface) (w : Word) (s : State) : Host.Outcome State Fault Refusal := finish s (s.imgStoreOp i w)

/-- ACTIVATE, R533: ACTIVATE 1 or 2 (or IMGCTL OP 2) selects the standby bank in trial. -/
def execActivateImage (v : Nat) (reg : Bool) (twin : Option Nat) (s : State) : Host.Outcome State Fault Refusal := finish s (s.activateOp v reg twin)

/-- ACTIVATE_SKIP_TWIN, R533: ACTIVATE 3 (or IMGCTL OP 4) activates without the twin check while the twin is down. -/
def execActivateSkipTwin (reg : Bool) (s : State) : Host.Outcome State Fault Refusal := finish s (s.activateSkipOp reg)

/-- CONFIRM, R535: CONFIRM writes a CONFIRMED record and burns the security floor. -/
def execConfirmImage (s : State) : Host.Outcome State Fault Refusal := finish s s.confirmOp

/-- AUTO_CONFIRM, R535: AUTO_CONFIRM seconds after first reaching RUN confirms the trial image. -/
def execAutoConfirm (s : State) : Host.Outcome State Fault Refusal := finish s s.autoConfirmOp

/-- DISCARD, R536: DISCARD (or IMGCTL OP 3) clears the standby bank. -/
def execDiscardImage (reg : Bool) (s : State) : Host.Outcome State Fault Refusal := finish s (s.discardOp reg)

/-- REVOKE_KEYS, R536: REVOKE_KEYS burns thermometer counter 1. -/
def execRevokeKeys (k : Nat) (s : State) : Host.Outcome State Fault Refusal := finish s (s.revokeOp k)

/-- THREAD_FORWARD, R530: A committed block is forwarded to the downstream node. -/
def execThreadForward (resp : Option Nat) (s : State) : Host.Outcome State Fault Refusal := finish s (s.threadForwardOp resp)

/-- THREAD_REOPEN, R531: A failed downstream session is reopened and resumed at NEXT_BLOCK. -/
def execThreadReopen (next : Nat) (same : Bool) (s : State) : Host.Outcome State Fault Refusal := finish s (s.threadReopenOp next same)

/-- EXPANDER_PUSH, R534: After confirmed boot, part 5 is sent to each valid attachment. -/
def execExpanderPush (s : State) : Host.Outcome State Fault Refusal := finish s s.expanderPushOp


end Sys2Proof.Machine
end

