-- ==== Sys2Proof/Machine/Reply.lean ====
section
/-! DEFINITION. OAP PDUs and how a response leaves on its carrier: spec/14 R448, R449, R455 to R458, R463. -/

namespace Sys2Proof.Machine

/-! ### Fields of a PDU (R448) -/

def pduOp (p : List Byte) : Nat := oct p 1
def pduBcast (p : List Byte) : Bool := (oct p 2).testBit 7
def pduNode (p : List Byte) : Nat := beAt p 2 2 % 1024
def pduSession (p : List Byte) : Nat := beAt p 4 2
def pduSeq (p : List Byte) : Nat := beAt p 6 2
def pduTagged (p : List Byte) : Bool := (oct p 0).testBit 2
def pduLen (p : List Byte) : Nat := beAt p 10 2
def pduEntry (p : List Byte) : Nat := beAt p 12 2 % 1024
/-- The body. -/
def pduBody (p : List Byte) : List Byte := (p.drop 16).take (pduLen p)

/-- Add to OAP_COUNTERS: 0 MALFORMED, 1 TAG_FAIL, 2 DUP_RESENT, 3 SEQ_RANGE, 4 HELD_DROP, 5 BUSY, 6 PROVE_FAIL,
7 BCAST_REFUSED, 8 NOT_OAP_PORT, 9 RELAYED, 10 RELAY_DROP, 11 MB_FOREIGN, 12 STOPS (R472). -/
def State.oapCount (s : State) (c : Nat) : State :=
  let n := Sparse.get (fun _ => 0) s.oap.cnt c
  { s with oap := { s.oap with cnt := Sparse.set (fun _ => 0) s.oap.cnt c ((n + 1) % 2 ^ 32) } }

/-- The message a tag covers: header and body with octets 12 to 15 taken as 0 (R449). -/
def tagCovers (p : List Byte) : List Byte := p.take 12 ++ [0, 0, 0, 0] ++ (p.drop 16).take (pduLen p)

/-- The response to request p: RESP set, this node, STATUS and body, the other fields as the request has them; tagged with
the session's key where the session is known (R448 to R450). -/
def State.replyPdu (s : State) (p : List Byte) (key : Option (List Byte)) (status : Nat) (body : List Byte) : List Byte :=
  let h := natBe 1 (0x18 + 4 * bit key.isSome) ++ natBe 1 (pduOp p) ++ natBe 2 s.nodeNumber ++ slice p 4 4 ++
    natBe 2 status ++ natBe 2 body.length ++ slice p 12 4
  match key with
  | some k => h ++ body ++ Config.hmac k (h.take 12 ++ [0, 0, 0, 0] ++ body)
  | none => h ++ body

/-- The frame of a response on a trunk port (R455). -/
def State.oapItem (s : State) (n : Nat) (addr tag pdu : List Byte) : Item :=
  { Item.blank with
    data := addr ++ nodeMac s.nodeNumber ++ tag ++ natBe 2 (s.od 0x000301) ++ pdu,
    tagged := !tag.isEmpty, vid := if tag.isEmpty then 1 else beAt tag 2 2 % 4096,
    tenant := 1024, src := n, stamp := s.mer, ctl := true }

/-- The frame of a response on a management bus; `cls` is priority identifier [10:9] (R457). -/
def State.oapCan (s : State) (b addr cls : Nat) (pdu : List Byte) : Item :=
  let me := s.fld (MBb_CFG b) MBb_CFG_ADDR
  { Item.blank with
    eth := false, fmt := 2, ident := 512 * cls + me, sdt := 0x3E, af := 0x4F410000 + 32 * addr + me, data := pdu,
    tenant := 1024, src := 64 + b, stamp := s.mer, ctl := true }

/-- A PDU goes out on its carrier (R455, R457, R458). -/
def State.oapSend (s : State) (src : OapSrc) (cls : Nat) (pdu : List Byte) : State :=
  match src with
  | .port n addr tag =>
    State.queueOne (s.emitOut (.oap 0 n pdu)) (s.oapItem n addr tag pdu) (.port n 16)
  | .mb b addr => State.chPut (s.emitOut (.oap 1 b pdu)) (64 + b) (s.oapCan b addr cls pdu)
  | .mailbox k => if 1 < k then s else State.emitOut { s with oap := { s.oap with mbResp := s.oap.mbResp ++ [(k, pdu)] } } (.oap 2 k pdu)

/-- A response to a request leaves; the time from its arrival is a sample of R585. -/
def State.oapOut (s : State) (r : OapReq) (cls : Nat) (pdu : List Byte) : State :=
  (s.oapSend r.src cls pdu).histSample 6 0 0 (s.mer - r.at_)

/-- A request is answered after it was executed: the response is stored among its last 64, and leaves (R463). -/
def State.oapReply (s : State) (r : OapReq) (cls status : Nat) (body : List Byte) : State :=
  match s.session? (pduSession r.pdu) with
  | none => s.oapOut r cls (s.replyPdu r.pdu none status body)
  | some x =>
    let p := s.replyPdu r.pdu (some x.keyOut) status body
    (s.setSession { x with done := ((pduSeq r.pdu, p) :: x.done).take 64 }).oapOut r cls p

/-- A request that is not executed is answered, and nothing is stored: 0x0B SESSION, 0x0A SEQ_RANGE, 0x09 BUSY (R444). -/
def State.oapRefuse (s : State) (r : OapReq) (cls status : Nat) : State :=
  let t := if status = 9 then s.oapCount 5 else if status = 10 then s.oapCount 3 else s
  t.oapOut r cls (t.replyPdu r.pdu ((t.session? (pduSession r.pdu)).map (fun x => x.keyOut)) status [])

end Sys2Proof.Machine
end

