-- ==== Sys2Proof/Machine/Seam.lean ====
section
/-! DEFINITION. The Seam: lanes, markers, blocks, bring-up, heartbeats, mirror records, the data class, and the
classification of the twin: spec/13 R402 to R422, R425 to R435 and spec/14 R470. Packets of the mirror class are carried
opened by proof unit 3, with whether their tag was correct. -/

namespace Sys2Proof.Machine

/-! ### States (R412, R433 to R435) -/

def State.seamState (s : State) : Nat := s.fld SEAM_STAT SEAM_STAT_STATE
def State.seamUp (s : State) : Bool := s.flag SEAM_STAT SEAM_STAT_UP
def State.seamCount (s : State) (c : Nat) (n : Nat := 1) : State := s.count (SEAM_CNTc c) n
def State.seamEvent (s : State) (f : Fld) : State := s.setFld SEAM_EVT f 1

/-- Enter a STATE. -/
def State.seamEnter (s : State) (st : Nat) : State :=
  State.setFld { s with sm := { s.sm with since := s.mer } } SEAM_STAT SEAM_STAT_STATE st

/-- AUTH: an unpaired node and twin A hold authority, twin B after a takeover (R433 to R435). -/
def State.showAuth (s : State) : State :=
  s.setFlag SEAM_STAT SEAM_STAT_AUTH (!s.paired || !s.isTwinB || s.sm.took)

/-- Group of lane k. -/
def laneGroup (k : Nat) : Nat := k / 8
def lockFld (g : Nat) : Fld := if g = 0 then SEAM_STAT_LOCK0 else SEAM_STAT_LOCK1
def State.seamLane (s : State) (k : Nat) : Nat := s.fld (SEAM_LANEk k) SEAM_LANEk_LSTATE

/-- LOCK0 and LOCK1: bit L for each LOCKED lane numbered L. -/
def State.showLocks (s : State) (g : Nat) : State :=
  s.setFld SEAM_STAT (lockFld g) ((List.range 8).foldl (fun m i =>
    let k := 8 * g + i
    if s.seamLane k = 2 then m ||| 2 ^ s.fld (SEAM_LANEk k) SEAM_LANEk_L else m) 0)

/-- Members of every group that may no longer be active leave (R430, R431). -/
def State.twinLeave (s : State) : State :=
  s.lagGroups.foldl (fun t a => (List.range (t.lagSize a)).foldl (fun u i => u.lagLeaveOp a i) t) s

/-- Handles whose history is recovered. -/
def State.recHandles (s : State) : List Nat :=
  s.unitsWith (HANDLE 0) 16 65536 (fun w => getB w HANDLE_VALID && getB w HANDLE_REC)

/-- RecovSeqNum a is newer than b, modulo 2^16. -/
def newer16 (a b : Nat) : Bool := a != b && decide ((a + 65536 - b) % 65536 < 32768)

/-- The shadow takes the place of an older history, and the window is open for RESET_TO (R429). -/
def State.frerTakeover (s : State) : State :=
  s.recHandles.foldl (fun t h =>
    let r := t.recov h
    let r := match Sparse.get (fun _ => none) t.frShadow h with
      | some x => if newer16 x.num r.num then { r with num := x.num, hist := x.hist, takeAny := x.takeAny } else r
      | none => r
    t.setRecov h { r with open_ := t.mer + t.resetTicks h }) s

/-- SPLIT with its event and record (R432). -/
def State.setSplit (s : State) : State :=
  (((s.setFld SEAM_STAT SEAM_STAT_SPLIT 1).setFld SEAM_STAT SEAM_STAT_TWIN_DOWN 0).seamEvent SEAM_EVT_SPLIT).log 432 0 [1]

/-- TWIN_DOWN with its event and record (R432). -/
def State.setTwinDown (s : State) : State :=
  ((State.setFld (State.setFld { s with sm := { s.sm with downAt := s.mer } } SEAM_STAT SEAM_STAT_TWIN_DOWN 1) SEAM_STAT
    SEAM_STAT_SPLIT 0).seamEvent SEAM_EVT_TWIN_DOWN).log 432 0 [2]

/-- The twin has been heard on a management bus within 5 ms (R432). -/
def State.twinHeard (s : State) : Bool :=
  match s.sm.heardAt with
  | some t => decide (s.mer < t + 5 * msTicks)
  | none => false

/-- The transaction under way when the Seam is lost: twin A applies alone what it has not sent in PREPARE; any other
requester gets a state error, and twin B keeps what it holds (R424). -/
def State.txnLost (s : State) : State :=
  let unsent := s.mirrorWait.filterMap (fun r => if r.1 = 20 ∧ r.2.getD 0 0 = 2 then some (r.2.getD 2 0) else none)
  let alone (x : Txn) : Bool := !s.isTwinB && unsent.contains x.num
  let l := s.sm.prepared ++ s.sm.txns.filter (fun x => !alone x)
  let s : State := { s with sm := { s.sm with txns := [], lone := s.sm.lone ++ s.sm.txns.filter alone,
                                              prepared := if s.isTwinB then l.map (fun x => { x with req := none }) else s.sm.prepared } }
  l.foldl (fun t x => match x.req with | some r => t.oapReply r 2 5 [] | none => t) s

/-- A received data packet is discarded because the Seam is not up (R412, R425). -/
def State.seamDiscard (s : State) (o : List Byte) : State := (s.dropFor (beAt o 4 2 % 1024) rEgress).seamCount 8

/-- The Seam is lost (R415, R424, R425, R429, R431, R432); `st` is the STATE it falls back to. -/
def State.seamLost (s : State) (st : Nat) : State :=
  let up := s.seamUp
  let s := s.seamEnter st
  if !up then s
  else
    let s := ((s.setFld SEAM_STAT SEAM_STAT_UP 0).seamEvent SEAM_EVT_DOWN).log 415 0
    let gone := (List.range 2).foldl (fun n g => (List.range 17).foldl (fun n q => n + (s.queue (Dest.seam g 0 q).key).length) n) 0
    let s := (List.range 2).foldl (fun t g => (List.range 17).foldl (fun u q => u.flushQueue (.seam g 0 q)) t) s
    let s := s.seamCount 8 gone
    let coming := s.sm.rxData.map (fun p => p.2) ++ s.sm.open_.filterMap (fun p => if p.1 % 2 = 0 then p.2 else none)
    let s := coming.foldl (fun t o => t.seamDiscard o) s.txnLost
    let s : State := { s with mirrorWait := [], sm := { s.sm with lostAt := some s.mer, hbAt := [], open_ := [], rxData := [] } }
    let s := s.twinLeave.frerTakeover
    if s.twinHeard then s.setSplit else if s.sm.heardAt.isSome then s.setTwinDown else s

/-- The lanes train again: no lane is locked. -/
def State.seamTrain (s : State) : State :=
  let t := s.seamLost 1
  let t := (List.range 16).foldl (fun u k => (u.setFld (SEAM_LANEk k) SEAM_LANEk_LSTATE 0).setFld (SEAM_LANEk k) SEAM_LANEk_L 0) t
  State.setFld (State.setFld { t with sm := { t.sm with run := [], missed := [], aligned := [], scr := [], open_ := [] } } SEAM_STAT
    SEAM_STAT_LOCK0 0) SEAM_STAT SEAM_STAT_LOCK1 0

/-- The Seam stops: DOWN, with its lanes idle. -/
def State.seamStop (s : State) : State := (s.seamTrain).seamEnter 0

/-- A write of SEAM_CTRL (R412, R433): EN starts a Seam that is DOWN, and its clearing stops it and unpairs the node. -/
def State.seamCtrlWrite (s : State) (i : Iface) (w : Word) : State :=
  let t := s.typedWrite i SEAM_CTRL w
  if !t.paired then
    let t := if s.seamState = 0 then t else t.seamStop
    let t := if t.flag SEAM_STAT SEAM_STAT_SPLIT || t.flag SEAM_STAT SEAM_STAT_TWIN_DOWN then t.log 432 0 [0] else t
    ((t.setFld SEAM_STAT SEAM_STAT_SPLIT 0).setFld SEAM_STAT SEAM_STAT_TWIN_DOWN 0).showAuth
  else (if s.seamState = 0 then t.seamTrain else t).showAuth

/-- SEAM_ENABLE: a write of SEAM_CTRL. -/
def State.seamEnableOp (s : State) (i : Iface) (w : Word) : State := s.hostAccess (s.seamCtrlWrite i w)

/-- SEAM_CMD.RESTART: back to TRAIN, but not from DOWN, which only EN ends (R412, R413). -/
def State.seamRestart (s : State) : State := if s.paired && s.seamState != 0 then s.seamTrain else s

/-- SEAM_RESTART. -/
def State.seamRestartOp (s : State) (_i : Iface) : State := s.hostAccess s.seamRestart

/-- SEAM_TRAINED: every lane is trained. -/
def State.seamTrainedOp (s : State) : State := if s.seamState = 1 then s.seamEnter 2 else s

/-! ### Markers and alignment (R406 to R408) -/

/-- Octets 0–2 and 5–7 of a marker as one number. -/
def markPattern (o : List Byte) : Nat := beAt o 0 3 * 2 ^ 24 + beAt o 5 3
def markWant : Nat := 0x4D9B2EB264D1

/-- Number of ones among the low n bits. -/
def ones : Nat → Nat → Nat
  | 0, _ => 0
  | n + 1, x => x % 2 + ones n (x / 2)

/-- Octet 3 is self-consistent. -/
def markSelf (o : List Byte) : Bool := (oct o 3 / 16) ^^^ 15 == oct o 3 % 16

/-- A lane leaves LOCKED, or gives up a candidate: its group loses alignment (R407, R408, R412). -/
def State.laneSearch (s : State) (k : Nat) : State :=
  let g := laneGroup k
  let t := ((s.setFld (SEAM_LANEk k) SEAM_LANEk_LSTATE 0)).showLocks g
  if s.sm.aligned.contains g then
    let t : State := { t with sm := { t.sm with aligned := t.sm.aligned.filter (fun x => x != g) } }
    if 3 ≤ t.seamState then t.seamLost 2 else t
  else t

/-- ALIGNMENT_MARKER: the octets lane k reads at a marker position, and whether BIP-8 agrees (R407). -/
def State.markerOp (s : State) (k : Nat) (o : List Byte) (bip : Bool) : State :=
  let g := laneGroup k
  let l := oct o 3 / 16 % 8
  let exact := markPattern o == markWant && markSelf o && oct o 3 / 128 == g
  let put (t : State) (r m : Nat) : State :=
    { t with sm := { t.sm with run := Sparse.set (fun _ => 0) t.sm.run k r, missed := Sparse.set (fun _ => 0) t.sm.missed k m } }
  let a := SEAM_LANEk k
  if s.seamState < 2 then s
  else
    match s.seamLane k with
    | 0 => if exact then (put (s.setFld a SEAM_LANEk_LSTATE 1) 1 0).setFld a SEAM_LANEk_L l else s
    | 1 =>
      if exact && l == s.fld a SEAM_LANEk_L then
        let s := if bip then s else s.bumpSat a SEAM_LANEk_BIP_ERR
        let n := Sparse.get (fun _ => 0) s.sm.run k + 1
        if n < 4 then put s n 0 else ((put s n 0).setFld a SEAM_LANEk_LSTATE 2).showLocks g
      else put (s.laneSearch k) 0 0
    | _ =>
      if 6 < ones 48 (markPattern o ^^^ markWant) || oct o 3 / 16 != 8 * g + s.fld a SEAM_LANEk_L then
        let s := s.bumpSat a SEAM_LANEk_MARK_ERR
        if 1 ≤ Sparse.get (fun _ => 0) s.sm.missed k then put ((s.laneSearch k).seamCount 10) 0 0
        else put s 4 1
      else put (if bip then s else s.bumpSat a SEAM_LANEk_BIP_ERR) 4 0

/-- In ALIGN with both groups aligned the Seam enters SECURE and sends its HELLO (R412, R413). -/
def State.seamSecure (s : State) : State :=
  if s.seamState = 2 ∧ s.sm.aligned.length = 2 then ((s.seamEnter 3).seamCount 0).emitOut .seamHello else s

/-- GROUP_ALIGNED: the markers of group g arrive within `skew` lane blocks of one another (R408). -/
def State.groupAlignedOp (s : State) (g skew : Nat) : State :=
  let ls := (List.range 8).map (fun i => s.fld (SEAM_LANEk (8 * g + i)) SEAM_LANEk_L)
  if !(List.range 8).all (fun i => s.seamLane (8 * g + i) == 2) || ls.eraseDups.length != 8 then s
  else if 512 < skew then s.seamEvent SEAM_EVT_SKEW
  else
    State.seamSecure { s with sm := { s.sm with aligned := s.sm.aligned.filter (fun x => x != g) ++ [g] } }

/-- ALIGN_TIMEOUT: 10 ms in ALIGN (R412). -/
def State.alignTimeoutOp (s : State) : State :=
  if s.seamState = 2 ∧ s.sm.since + 10 * msTicks ≤ s.mer then s.seamTrain else s

/-! ### Blocks (R404, R405) -/

/-- One descrambled bit and the register after it: bit j of `reg` is s[j]. -/
def descramBit (reg : Nat) (b : Bool) : Bool × Nat :=
  (xor b (xor (reg.testBit 38) (reg.testBit 57)), (reg * 2 + bit b) % 2 ^ 58)

/-- An octet, bit 0 first. -/
def descramOctet (reg : Nat) (o : Nat) : Nat × Nat :=
  (List.range 8).foldl (fun (a : Nat × Nat) i =>
    let (v, r) := descramBit a.2 (o.testBit i)
    (a.1 + bit v * 2 ^ i, r)) (0, reg)

/-- The payload of a block, and the register after it. -/
def descramble (reg : Nat) (l : List Byte) : List Byte × Nat :=
  l.foldl (fun (a : List Byte × Nat) o =>
    let (v, r) := descramOctet a.2 o.toNat
    (a.1 ++ [BitVec.ofNat 8 v], r)) ([], reg)

def State.openPkt (s : State) (k : Nat) : Option (List Byte) := Sparse.get (fun _ => none) s.sm.open_ k
def State.setOpenPkt (s : State) (k : Nat) (p : Option (List Byte)) : State :=
  { s with sm := { s.sm with open_ := Sparse.set (fun _ => none) s.sm.open_ k p } }

/-- SEAM_BLOCK: the next block of group g; `bad` in an FEC codeword that cannot be corrected. A whole packet of the data
class waits for SEAM_DATA_PACKET; one of the mirror class goes to proof unit 3. -/
def State.seamBlockOp (s : State) (g : Nat) (o : List Byte) (bad : Bool) : State :=
  if !s.sm.aligned.contains g then s
  else
    let (pay, reg) := descramble (Sparse.get (fun _ => 0) s.sm.scr g) (slice o 1 31)
    let s : State := { s with sm := { s.sm with scr := Sparse.set (fun _ => 0) s.sm.scr g reg } }
    let ty := oct o 0 / 64
    let cls := oct o 0 / 32 % 2
    let cnt := oct o 0 % 32
    let k := 2 * g + cls
    let p := s.openPkt k
    if bad then ((s.setOpenPkt (2 * g) none).setOpenPkt (2 * g + 1) none).seamCount 9
    else if (ty = 0 ∧ (cls ≠ 0 ∨ cnt ≠ 0)) ∨ cnt = 31 ∨ (cnt ≠ 0 ∧ ty ≠ 3) ∨ (2 ≤ ty ∧ p.isNone) ∨ (ty = 1 ∧ p.isSome) then
      (s.setOpenPkt k none).seamCount 9
    else
      match ty with
      | 0 => s
      | 1 => s.setOpenPkt k (some pay)
      | 2 => s.setOpenPkt k (some (p.getD [] ++ pay))
      | _ =>
        let whole := p.getD [] ++ pay.take (cnt + 1)
        let t := (s.setOpenPkt k none).seamCount (if cls = 0 then 7 else 1)
        -- bridge frames (PTYPE 0x02) come to their own commands, and no other PTYPE is laid down (R409, R501)
        if cls = 0 ∧ oct whole 0 ≠ 1 then t
        else if cls = 0 then
          (if t.seamUp then { t with sm := { t.sm with rxData := t.sm.rxData ++ [(g, whole)] } } else t.seamDiscard whole)
        else if oct whole 0 = 0x15 then t else { t with sm := { t.sm with nonceRx := t.sm.nonceRx + 1 } }

/-! ### Bring-up (R413, R414) -/

/-- SEAM_HELLO: the peer's UID, node number and identity public key, and whether its signature verifies (R413). -/
def State.helloOp (s : State) (uid : List Byte) (node : Nat) (ident : List Byte) (sig : Bool) : State :=
  if s.seamState ≠ 3 then s
  else
    let t := (List.range 4).foldl (fun t k => t.wr (SEAM_PEER_UIDk k) (BitVec.ofNat 32 (beAt uid (4 * k) 4))) s
    let pin := s.od 0x006002
    let key := s.od 0x006003
    if !sig || node != s.nodeNumber ^^^ 1 || (pin != 0 && pin != beNat uid) || (key != 0 && key != beNat ident) then
      ((t.seamEvent SEAM_EVT_PEER_REJECT).log 413 0).seamStop
    else
      State.seamEnter { t with mirrorOut := [], mirrorWait := [], mseqTx := 0, mseqRx := 0,
                               sm := { t.sm with keyed := true, statusRx := none, statusTx := 0, ackAt := t.mer, nonceTx := 0, nonceRx := 0 } } 4

/-- Insert into an ascending list. -/
def insertInt (x : Int) : List Int → List Int
  | [] => [x]
  | y :: l => if x ≤ y then x :: y :: l else y :: insertInt x l

/-- SEAM_DIFF from the stamps t1 to t4 of each PROBE pair in 1/16 ns: the differences ((t2 − t1) − (t4 − t3)) / 2 are held
in units of 1/32 ns, and the mean of the 8th and 9th is rounded to 1/16 ns, ties upward (R414). -/
def probeDiff (l : List (Int × Int × Int × Int)) : Int :=
  let d := (l.map (fun p => (p.2.1 - p.1) - (p.2.2.2 - p.2.2.1))).foldl (fun a x => insertInt x a) []
  Int.fdiv (d.getD 7 0 + d.getD 8 0 + 2) 4

/-- MEASURE_COMPLETE: sixteen PROBE pairs (R414), with a packet of this twin in each. -/
def State.measureOp (s : State) (probes : List (Int × Int × Int × Int)) : State :=
  if s.seamState ≠ 4 ∨ probes.length ≠ 16 then s
  else
    let t : State := { s with sm := { s.sm with nonceTx := s.sm.nonceTx + 16 } }
    (((t.seamCount 0 16).wr64 SEAM_DIFF_LO (trunc 64 (probeDiff probes)))).seamEnter 5

/-- Sequence numbers up to `ack` are acknowledged (R411). -/
def State.mirrorAck (s : State) (ack : Nat) : State :=
  let old := s.mirrorOut
  let rest := old.filter (fun p => decide (0 < (p.mseq + 2 ^ 32 - ack) % 2 ^ 32) && decide ((p.mseq + 2 ^ 32 - ack) % 2 ^ 32 < 2 ^ 31))
  if rest.length = old.length then s
  else
    let t : State := { s with mirrorOut := rest, sm := { s.sm with ackAt := s.mer } }
    let go := t.mirrorWait.take (4096 - rest.length)
    go.foldl (fun u r => u.mirrorSend r.1 r.2) { t with mirrorWait := t.mirrorWait.drop (4096 - rest.length) }

/-! ### Heartbeats (R415, R430) -/

/-- The octet that holds one bit for each of the logical ports 8k to 8k + 7 that is enabled with link up (R415). -/
def State.portOctet (s : State) (k : Nat) : Byte :=
  BitVec.ofNat 8 ((List.range 8).foldl (fun m i => m + bit (s.portEn (8 * k + i) && s.portLink (8 * k + i)) * 2 ^ i) 0)

/-- The body of a heartbeat (R415). -/
def State.heartbeatBody (s : State) : List Byte :=
  natBe 8 s.mer ++ natBe 1 s.node.code ++ natBe 1 (bit (s.flag SEAM_STAT SEAM_STAT_AUTH)) ++ natBe 2 0 ++ natBe 4 s.sm.txnNum ++
    (List.range 128).map s.portOctet

/-- HEARTBEAT_SEND: one on each group every 1 µs while PAIRED. -/
def State.heartbeatSendOp (s : State) : State :=
  let due := match s.sm.hbSent with | some t => decide (t + usTicks ≤ s.mer) | none => true
  if s.seamState ≠ 6 ∨ !due then s
  else
    let o := s.mirrorPacket 0x10 s.sm.hbCnt s.heartbeatBody
    let t : State := { s with sm := { s.sm with hbSent := some s.mer, hbCnt := (s.sm.hbCnt + 1) % 2 ^ 32 } }
    (t.mirrorEmit o).mirrorEmit o

/-- HEARTBEAT_RECEIVE on group g: its header and opened body, and whether its tag is correct. -/
def State.heartbeatOp (s : State) (g : Nat) (octets : List Byte) (ok : Bool) : State :=
  if s.seamState ≠ 6 then s
  else if !ok then s.seamCount 9
  else
    let body := octets.drop 16
    let s := s.mirrorAck (beAt octets 8 4)
    let ports := (List.range 1024).filter (fun n => (oct body (16 + n / 8)).testBit (n % 8))
    let t : State := { s with twinPortUp := ports }
    let t : State := { t with sm := { s.sm with hbAt := Sparse.set (fun _ => 0) s.sm.hbAt g s.mer, twinNode := oct body 8,
                                                twinAuth := (oct body 9).testBit 0, twinTxn := beAt body 12 4 } }
    let t := t.twinLeave
    t.lagGroups.foldl (fun u a => u.lagRefresh a) t

/-- The last heartbeat of a group; the entry into PAIRED counts as one. -/
def State.hbLast (s : State) (g : Nat) : Nat := max (Sparse.get (fun _ => 0) s.sm.hbAt g) s.sm.since

/-- SEAM_LOSS: either group has gone 7 µs without a valid heartbeat (R415). -/
def State.seamLossOp (s : State) : State :=
  if s.seamUp && (decide (s.hbLast 0 + 7 * usTicks ≤ s.mer) || decide (s.hbLast 1 + 7 * usTicks ≤ s.mer)) then (s.seamLost 2).seamSecure else s

/-! ### Mirror packets (R410, R411, R417 to R422) -/

/-- E of the twin's Meridian on this one's (R422). -/
def State.ownMeridian (s : State) (e : Nat) : Nat := trunc 64 ((e : Int) - roundTick s.seamDiff)

/-- A learn at group a's number that the twin made (R417, R420). -/
def State.mirrorStation (s : State) (r : List Byte) : State :=
  let a := beAt r 12 2
  let e : StaEnt := { static := false, drop := false, ten := beAt r 2 2, vid := beAt r 4 2, mac := beAt r 6 6,
                      stamp := beAt r 14 2, mcast := false, dest := 2048 + a }
  if 255 < a ∨ !s.lagValid a then s.seamCount 11
  else
    match s.staFind e.ten e.vid e.mac with
    | some (k, x) =>
      if x.static then (if x.dest = e.dest then s else s.tblCount 2)
      else if x.stamp ≠ e.stamp ∧ (x.stamp + 65536 - e.stamp) % 65536 < 32768 then s
      else
        let t := s.setSta k (some e)
        if x.dest = e.dest then t else t.tblCount 1
    | none =>
      let (ok, t) := s.staInsert e
      if ok then t.tblCount 0 else t

/-- A DATUM record of datum d answers the oldest request that this twin B has open for it (R422). -/
def State.datumAnswered (s : State) (d : Nat) : State := { s with datumAsk := s.datumAsk.erase d }

/-- A DATUM record: twin A judges a request of twin B, of which the second check of R638 has been made there; twin B takes
what twin A has accepted (R422), and the target of a reconciliation takes the source's record (R436). -/
def State.mirrorDatum (s : State) (r : List Byte) : State :=
  let f := oct r 1
  let d := beAt r 2 2
  let e := s.ownMeridian (beAt r 8 8)
  let q : DatumReq := { d := d, eff := e, step := f.testBit 0, offset := beAt r 16 8, rate := beAt r 24 6 }
  if f.testBit 2 then
    let cancel := f.testBit 1
    let c := s.datumChecks (.dict 0 d) q (!cancel) (!s.refusesConfig)
    if c ≠ 0 then s.mirror 2 [d, e, q.rate, q.offset, 64 * c + f % 4]
    else if cancel then (s.setDatum d { s.datum d with pend := none }).mirror 2 [d, e, q.rate, q.offset, 2]
    else s.datumAccept q
  else if f / 64 ≠ 0 then (s.datumAnswered d).datumResult (.regs .twin) (f / 64)
  else if 1031 < d then s
  else if f.testBit 1 then (s.setDatum d { s.datum d with pend := none }).datumAnswered d
  else
    let step := if s.seamState = 5 then
        let v := s.viewAt d e
        decide (1 < (v + 2 ^ 64 - q.offset) % 2 ^ 64) && decide (1 < (q.offset + 2 ^ 64 - v) % 2 ^ 64)
      else q.step
    let late := e < s.mer
    let x := s.datum d
    let rate := if x.follow ∧ d < 1024 ∧ s.seamState ≠ 5 then followRate q.rate ((s.datum 1024).inForce e).rate else q.rate
    let t := s.setDatum d { x with pend := some { eff := e, step := step, rate := rate, offset := q.offset },
                                   nominal := if d < 1024 ∧ s.seamState ≠ 5 then q.rate else x.nominal }
    let t := t.datumAnswered d
    if late then ((t.seamCount 12).seamEvent SEAM_EVT_DATUM_LATE).pendingEffectOp d else t

/-- VALID, KLEN, EPOCH or START differ between two EPOCH records (R421). -/
def epochDiffers (v own : List Nat) : Bool := [1, 2, 4, 5].any (fun i => own.getD i 0 != v.getD i 0)

/-- One accepted record is applied (R417). -/
def State.mirrorRecord (s : State) (r : List Byte) : State :=
  match oct r 0 with
  | 1 => s.mirrorStation r
  | 2 => s.mirrorDatum r
  | 3 =>
    let f := beAt r 2 2
    let v := beAt r 8 8
    if s.flag (FRESH f + 8) FRESH_VALID && decide (s.rd64 (FRESH f) < v) then s.wr64 (FRESH f) v else s
  | 4 =>
    let x := beAt r 2 2
    let v := [x, beAt r 4 4, beAt r 8 8, beAt r 16 4, bit ((oct r 20).testBit 0), bit ((oct r 20).testBit 1)]
    if 4095 < x then s
    else
      let rest := s.sm.epochs.filter (fun p => p.1.head? != some x)
      { s with sm := { s.sm with epochs := if epochDiffers v (s.epochRec x) then rest ++ [(v, s.mer + 100 * msTicks)] else rest } }
  | 5 =>
    let b := beAt r 2 2
    let v := [b, oct r 4 % 4, beAt r 6 2, beAt r 8 4, beAt r 12 2, beAt r 14 2, beAt r 16 8, beAt r 24 8]
    { s with sm := { s.sm with bobs := Sparse.set (fun _ => []) s.sm.bobs b v } }
  | 6 =>
    let h := beAt r 2 2
    let x : RecovSt := { RecovSt.reset with num := beAt r 4 2, takeAny := (oct r 6).testBit 0, hist := beAt r 8 4 }
    { s with frShadow := Sparse.set (fun _ => none) s.frShadow h (some x) }
  | _ => s

/-- A sequenced packet: whether it is the next one, with DUP and GAP counted (R411). -/
def State.mirrorNext (s : State) (mseq : Nat) : Bool × State :=
  if mseq = s.mseqRx then (true, { s with mseqRx := (s.mseqRx + 1) % 2 ^ 32 })
  else if (s.mseqRx + 2 ^ 32 - mseq) % 2 ^ 32 < 2 ^ 31 then (false, s.seamCount 3)
  else (false, s.seamCount 4)

/-- The records of a body. -/
def recordsOf : Nat → List Byte → List (List Byte)
  | 0, _ => []
  | n + 1, l => if l.length < 32 then [] else l.take 32 :: recordsOf n (l.drop 32)

/-- MIRROR_PACKET: a RECORDS or ACK packet as header and opened body, and whether its tag is correct (R410, R411). -/
def State.mirrorPacketOp (s : State) (o : List Byte) (ok : Bool) : State :=
  let ty := oct o 0
  if s.seamState < 5 ∨ (ty ≠ 0x11 ∧ ty ≠ 0x12) then s
  else if !ok then s.seamCount 9
  else
    let t := s.mirrorAck (beAt o 8 4)
    let (next, t) := t.mirrorNext (beAt o 4 4)
    if next && ty == 0x11 then (recordsOf 2048 (o.drop 16)).foldl (fun u r => u.mirrorRecord r) t else t

/-- MIRROR_RETRANSMIT: 20 µs without progress (R411). -/
def State.retransmitOp (s : State) : State :=
  if s.seamState < 5 ∨ s.mirrorOut = [] ∨ s.mer < s.sm.ackAt + 20 * usTicks then s
  else
    let t : State := { s with sm := { s.sm with ackAt := s.mer } }
    (t.mirrorOut.foldl (fun u p => u.mirrorEmit (u.mirrorOctets p)) t).seamCount 2 s.mirrorOut.length

/-- EPOCH_DIFF_CHECK of slot x: a difference in VALID, KLEN, EPOCH or START that still stands (R421). -/
def State.epochCheckOp (s : State) (x : Nat) : State :=
  match s.sm.epochs.find? (fun p => p.1.head? == some x) with
  | none => s
  | some (v, due) =>
    if s.mer < due then s
    else
      let t : State := { s with sm := { s.sm with epochs := s.sm.epochs.filter (fun p => p.1.head? != some x) } }
      let own := s.epochRec x
      if epochDiffers v own then (t.seamEvent SEAM_EVT_EPOCH_DIFF).log 421 x else t

/-! ### The data class (R409, R426) -/

/-- The item of a data packet of group g, which comes in at that group's panel. -/
def State.seamItem (s : State) (g : Nat) (o : List Byte) (src : Nat) : Item :=
  let n := beAt o 2 2
  let data := (o.drop 20).take n
  let tag := outerTag [s.portTpid (beAt o 6 2 % 1024), 0x8100, 0x88A8] data
  { Item.blank with
    data := data, tenant := beAt o 4 2 % 1024, src := 16384 * (1 + 8 * g), stamp := s.mer, tagged := tag.isSome,
    dei := match tag with | some t => t.2.1 | none => false,
    vid := beAt o 8 2 % 4096, pcp := oct o 10 / 32, reentry := oct o 10 / 2 % 16, colour := bit ((oct o 1).testBit 1),
    queue := some (oct o 8 / 16),
    handle := if (oct o 1).testBit 2 then some (beAt o 12 2, beAt o 14 2) else none,
    tsreq := if (oct o 1).testBit 3 then some (src, beAt o 16 2) else none }

/-- SEAM_DATA_PACKET: the oldest received data packet becomes an item (R426). -/
def State.seamDataOp (s : State) : State :=
  match s.sm.rxData with
  | [] => s
  | (g, o) :: rest =>
    let s : State := { s with sm := { s.sm with rxData := rest } }
    let (f, s) := if (oct o 1).testBit 3 then s.takeFree else (0, s)
    let it := s.seamItem g o (f % 4)
    let n := beAt o 6 2 % 1024
    if s.portTenant n ≠ some it.tenant then s.dropFor it.tenant rTenant
    else if !s.portEn n || !s.vlanMember it.vid n then s.dropFor it.tenant rNoRoute
    else
      let (pass, s) := match it.handle with
        | some (h, q) => if s.flag (HANDLE h) HANDLE_REC then s.recover h q else (true, s)
        | none => (true, s)
      if pass then s.deliver { it with handle := it.handle.map (fun p => (p.1, p.2 + 2 ^ 16 * s.fld (HANDLE p.1) HANDLE_ENC +
        2 ^ 17 * s.fld (HANDLE p.1) HANDLE_DEC)) } [.port n (oct o 8 / 16)] else s

/-! ### Twin status and takeover (R432, R435, R470) -/

/-- The body of a status frame (R470). -/
def State.statusBody (s : State) : List Byte :=
  natBe 2 s.nodeNumber ++ natBe 1 s.node.code ++
    natBe 1 (16 * bit (s.flag SEAM_STAT SEAM_STAT_SPLIT) + 8 * bit (s.flag SEAM_STAT SEAM_STAT_AUTH) + s.seamState) ++
    natBe 4 s.sm.statusTx ++ natBe 8 s.mer ++ natBe 4 s.sm.txnNum ++ natBe 4 0

/-- TWIN_STATUS_SEND: every 1 ms once keys have been agreed. -/
def State.statusSendOp (s : State) : State :=
  let due := match s.sm.statusAt with | some t => decide (t + msTicks ≤ s.mer) | none => true
  if !s.paired || !s.sm.keyed || !due then s
  else State.emitOut { s with sm := { s.sm with statusAt := some s.mer, statusTx := (s.sm.statusTx + 1) % 2 ^ 32 } }
    (.twinStatus s.statusBody)

/-- The twin is classified: paired, with the Seam lost, or not yet up since JOINING (R432, R433). -/
def State.classifies (s : State) : Bool := s.paired && !s.seamUp && s.sm.lostAt.isSome

/-- TWIN_STATUS: node number and body of a status PDU, and whether its tag is correct (R432, R470). -/
def State.twinStatusOp (s : State) (node : Nat) (body : List Byte) (ok : Bool) : State :=
  let c := beAt body 4 4
  if !s.paired || !ok || node != s.nodeNumber ^^^ 1 || (match s.sm.statusRx with | some p => decide (c ≤ p) | none => false) then s
  else
    let t : State := { s with sm := { s.sm with heardAt := some s.mer, statusRx := some c, twinNode := oct body 2,
                                                twinAuth := (oct body 3).testBit 3, twinTxn := beAt body 16 4 } }
    let t := t.setFld SEAM_STAT SEAM_STAT_TWIN_MB 1
    if t.classifies && !t.flag SEAM_STAT SEAM_STAT_SPLIT then t.setSplit else t

/-- TWIN_SILENCE: 5 ms without being heard (R432). -/
def State.twinSilenceOp (s : State) : State :=
  let base := max (s.sm.heardAt.getD 0) (if s.sm.heardAt.isSome then 0 else s.sm.lostAt.getD 0)
  if s.mer < base + 5 * msTicks then s
  else
    let t := s.setFld SEAM_STAT SEAM_STAT_TWIN_MB 0
    if t.classifies && !t.flag SEAM_STAT SEAM_STAT_TWIN_DOWN then t.setTwinDown else t

/-- A takeover by twin B (R435). -/
def State.takeover (s : State) : Nat × State :=
  if !s.paired || !s.flag SEAM_STAT SEAM_STAT_TWIN_DOWN then (5, s)
  else if !s.isTwinB || s.sm.took then (0, s)
  else (0, ((State.showAuth { s with sm := { s.sm with took := true } }).seamEvent SEAM_EVT_TAKEOVER).log 435 0)

/-- TAKEOVER: through OD 0x0060.05, or SEAM_CMD.TAKEOVER where `reg`. -/
def State.takeoverOp (s : State) (reg : Bool) : State :=
  if reg then s.hostAccess s.takeover.2 else s.actOwn 0x006005 State.takeover

/-- AUTO_TAKEOVER: 5 ms after TWIN_DOWN is set. -/
def State.autoTakeoverOp (s : State) : State :=
  if s.od 0x006004 = 1 ∧ s.isTwinB ∧ s.flag SEAM_STAT SEAM_STAT_TWIN_DOWN ∧ s.sm.downAt + 5 * msTicks ≤ s.mer then s.takeover.2 else s

/-- A write of SEAM_CMD. -/
def State.seamCmdWrite (s : State) (w : Word) : State :=
  let t := if getB w SEAM_CMD_TAKEOVER then s.takeover.2 else s
  if getB w SEAM_CMD_RESTART then t.seamRestart else t

/-- SEAM_ENABLE, R412: A write of SEAM_CTRL.EN starts or stops Seam bring-up. -/
def execSeamEnable (i : Iface) (w : Word) (s : State) : Host.Outcome State Fault Refusal := finish s (s.seamEnableOp i w)

/-- SEAM_RESTART, R412: SEAM_CMD.RESTART returns the Seam to TRAIN. -/
def execSeamRestart (i : Iface) (s : State) : Host.Outcome State Fault Refusal := finish s (s.seamRestartOp i)

/-- SEAM_TRAINED, R412: Every Seam lane is trained and the Seam enters ALIGN. -/
def execSeamTrained (s : State) : Host.Outcome State Fault Refusal := finish s s.seamTrainedOp

/-- ALIGNMENT_MARKER, R407: A Seam lane receives, or misses, an alignment marker and moves its lock state. -/
def execAlignmentMarker (k : Nat) (octets : List Byte) (bip : Bool) (s : State) : Host.Outcome State Fault Refusal := finish s (s.markerOp k octets bip)

/-- GROUP_ALIGNED, R408: All eight lanes of a group lock within the skew limit. -/
def execGroupAligned (g : Nat) (skew : Nat) (s : State) : Host.Outcome State Fault Refusal := finish s (s.groupAlignedOp g skew)

/-- ALIGN_TIMEOUT, R412: 10 ms without alignment returns the Seam to TRAIN. -/
def execAlignTimeout (s : State) : Host.Outcome State Fault Refusal := finish s s.alignTimeoutOp

/-- SEAM_BLOCK, R404: A Seam block is received, opening, continuing or ending a packet, or is invalid. -/
def execSeamBlock (g : Nat) (octets : List Byte) (bad : Bool) (s : State) : Host.Outcome State Fault Refusal := finish s (s.seamBlockOp g octets bad)

/-- SEAM_HELLO, R413: A HELLO is received; the peer is accepted with key agreement, or rejected. -/
def execSeamHello (uid : List Byte) (node : Nat) (ident : List Byte) (sig : Bool) (s : State) : Host.Outcome State Fault Refusal := finish s (s.helloOp uid node ident sig)

/-- MEASURE_COMPLETE, R414: Sixteen PROBE pairs complete and SEAM_DIFF is set. -/
def execMeasureComplete (probes : List (Int × Int × Int × Int)) (s : State) : Host.Outcome State Fault Refusal := finish s (s.measureOp probes)

/-- HEARTBEAT_SEND, R415: Each 1 us a heartbeat is sent on each group. -/
def execHeartbeatSend (s : State) : Host.Outcome State Fault Refusal := finish s s.heartbeatSendOp

/-- HEARTBEAT_RECEIVE, R415: A valid heartbeat updates the twin's port and authority view. -/
def execHeartbeatReceive (g : Nat) (body : List Byte) (ok : Bool) (s : State) : Host.Outcome State Fault Refusal := finish s (s.heartbeatOp g body ok)

/-- SEAM_LOSS, R415: 7 us without a heartbeat, or lost alignment, declares the Seam lost. -/
def execSeamLoss (s : State) : Host.Outcome State Fault Refusal := finish s s.seamLossOp

/-- MIRROR_PACKET, R411: A sequenced mirror packet is accepted and its records applied, or discarded. -/
def execMirrorPacket (octets : List Byte) (ok : Bool) (s : State) : Host.Outcome State Fault Refusal := finish s (s.mirrorPacketOp octets ok)

/-- MIRROR_RETRANSMIT, R411: 20 us without ACK progress resends from the oldest unacknowledged packet. -/
def execMirrorRetransmit (s : State) : Host.Outcome State Fault Refusal := finish s s.retransmitOp

/-- EPOCH_DIFF_CHECK, R421: 100 ms after an EPOCH record differs, a standing difference sets EPOCH_DIFF. -/
def execEpochDiffCheck (x : Nat) (s : State) : Host.Outcome State Fault Refusal := finish s (s.epochCheckOp x)

/-- SEAM_DATA_PACKET, R426: A received data packet becomes an item queued on the named port. -/
def execSeamDataPacket (s : State) : Host.Outcome State Fault Refusal := finish s s.seamDataOp

/-- TWIN_STATUS_SEND, R470: Every 1 ms a TWIN_STATUS frame goes on MB0 and MB1. -/
def execTwinStatusSend (s : State) : Host.Outcome State Fault Refusal := finish s s.statusSendOp

/-- TWIN_STATUS, R470: A TWIN_STATUS frame from the twin is checked and makes the twin heard. -/
def execTwinStatus (node : Nat) (body : List Byte) (ok : Bool) (s : State) : Host.Outcome State Fault Refusal := finish s (s.twinStatusOp node body ok)

/-- TWIN_SILENCE, R432: 5 ms without a twin status reclassifies the twin as down. -/
def execTwinSilence (s : State) : Host.Outcome State Fault Refusal := finish s s.twinSilenceOp

/-- TAKEOVER, R435: A takeover request while TWIN_DOWN gives twin B configuration authority. -/
def execTakeover (reg : Bool) (s : State) : Host.Outcome State Fault Refusal := finish s (s.takeoverOp reg)

/-- AUTO_TAKEOVER, R435: 5 ms after TWIN_DOWN with AUTO_TAKEOVER, twin B takes over. -/
def execAutoTakeover (s : State) : Host.Outcome State Fault Refusal := finish s s.autoTakeoverOp


end Sys2Proof.Machine
end

