-- ==== Sys2Proof/Machine/Power.lean ====
section
/-! DEFINITION. Power states, wake, the lifecycle, observation levels and the JTAG port: spec/17 R539 to R565. -/

namespace Sys2Proof.Machine

/-! ### Requests (R541) -/

/-- A source that wakes from SLEEP takes part (R546). -/
def State.sleepSource (s : State) : Bool :=
  [1, 2, 4, 5].any s.wakeOn || (List.range 64).any s.loomSource

/-- Status of a request for state v, 0 ACTIVE to 3 SLEEP (R541). REQUEST can always wake from STANDBY. -/
def State.powerJudge (s : State) (v : Nat) : Nat :=
  if !s.acceptsWrites || s.flag SYS_PWR_STAT SYS_PWR_STAT_TRANS then 5
  else if v = s.powerState then 0
  else if 2 ≤ v ∧ s.pw.wakeHigh ∧ s.wakeOn 4 then 5
  else if v = 3 ∧ (!s.sleepSource ∨ s.powerState = 2) then 5
  else if v = 1 ∧ s.powerState = 2 then 5
  else 0

/-- The filter regime holds for a request made now (R551). -/
def State.filterDue (s : State) (test : Bool) : Bool :=
  test || s.node == .config || s.node == .degraded ||
    (match s.pw.joinedAt with | some a => decide (s.mer < a + 60000 * msTicks) | none => false)

/-- A save in progress is completed, and one is taken if one is due or a stored object has changed (R543). -/
def State.finishSaves (s : State) : State :=
  let s := s.saveCommit
  if s.th.saveNext || s.th.saveDirty.isSome then s.saveStart.saveCommit else s

/-- The queue of the event log is written to MRAM. -/
def State.drainLog (s : State) : State := (List.range s.logQueue.length).foldl (fun t _ => t.logWriteOp) s

/-- A channel is taken to its sleep state (R156, R543). -/
def State.chToSleep (s : State) (c : Nat) : State :=
  match (s.chan c).trans with
  | some t => if t.target = 3 then s else s.chRequest c 3
  | none => s.chRequest c 3

/-- Steps 1 to 5 of R543, on the way to state n, in the filter regime or the counting one (R551). -/
def State.enterSteps (s : State) (n : Nat) (test filter : Bool) : State :=
  let looms := s.liveLooms
  let s : State := { s with pw := { s.pw with entering := some n, test := test, wake := none, firstAt := none } }
  let s := (s.setFld SYS_PWR_STAT SYS_PWR_STAT_TRANS 1).setFlag SYS_PWR_STAT SYS_PWR_STAT_FILTER filter
  let s := (s.dataStop.finishSaves.drainLog.log 543 0 [n]).drainLog
  looms.foldl (fun t c => t.chToSleep c) s

/-- The words of the wake configuration that the wake block holds in SLEEP (R545). -/
def State.wakeCopy (s : State) : List (Nat × Word) :=
  let page (c : Nat) : List Nat := [chWake c, chPage c + 0x20, chPage c + 0x24, chPage c + 0x28, chPage c + 0x2C, chNbt c, chWtime c]
  let looms := (List.range 64).filter (fun c => s.loomSource c && s.flag (chWake c) LCn_WAKE_EN)
  let buses := (if s.wakeOn 1 then [64] else []) ++ (if s.wakeOn 2 then [65] else [])
  let as := [SYS_PWR_WAKE, SYS_PWR_LOOMSRC0, SYS_PWR_LOOMSRC1] ++ (looms ++ buses).flatMap page
  as.foldl (fun m a => Sparse.set regReset m a (s.rd a)) []

/-- What the wake block drives for channel c in SLEEP (R545). -/
def State.asleepChan (s : State) (c : Nat) : ChanSt :=
  let armed := s.loomSource c && s.flag (chWake c) LCn_WAKE_EN
  let frames := armed && s.flag (chWake c) LCn_WAKE_WMODE
  { ChanSt.reset with code := if armed ∨ 64 ≤ c then s.chCode c 3 else bits (s.fld (chTrx c) LCn_TRX_MAP) 7 6, inh := frames }

/-- SLEEP: everything but MRAM, OTP and the always-on values is lost (R539, R545). -/
def State.sleepNow (s : State) : State :=
  let t := s.blankPart
  let t := ((t.keepWord s SYS_PWR_CAUSE).keepFld s SYS_PWR_STAT SYS_PWR_STAT_FW_CNT).keepFld s SYS_PWR_STAT SYS_PWR_STAT_SUPP
  let t := ((t.keepFld s SYS_PWR_STAT SYS_PWR_STAT_FILTER).setFld SYS_PWR_STAT SYS_PWR_STAT_STATE 3)
  let pw : PowerSt := { t.pw with judge := s.pw.judge, test := s.pw.test, wakeRegs := s.wakeCopy, slept := some s.node }
  let ch := (List.range 66).foldl (fun m c => Sparse.set (fun _ => ChanSt.reset) m c (s.asleepChan c)) []
  { t with pw := pw, chans := ch, tamperAlarm := s.tamperAlarm, safeAlarm := s.safeAlarm }

/-- Enter STANDBY (2) as far as step 5, or SLEEP (3). -/
def State.enterPower (s : State) (n : Nat) (test filter : Bool) : State :=
  let t := s.enterSteps n test filter
  if n = 3 then t.sleepNow else t

/-- An accepted request takes effect (R541 to R545). -/
def State.powerGo (s : State) (v : Nat) (test : Bool) : State :=
  if v = s.powerState then s
  else if v = 0 ∧ s.powerState = 2 then s.deviceWake 7 0
  else if v < 2 then s.setFld SYS_PWR_STAT SYS_PWR_STAT_STATE v
  else s.enterPower v test (s.filterDue test)

/-- A write of SYS_PWR_CTRL. -/
def State.pwrCtrlWrite (s : State) (i : Iface) (w : Word) : State :=
  let t := s.typedWrite i SYS_PWR_CTRL w
  let t := if getB w SYS_PWR_CTRL_SUPP_CLR then t.clearFalse true else t
  if !getB w SYS_PWR_CTRL_REQ_V then t
  else
    let v := getF w SYS_PWR_CTRL_REQ
    let c := t.powerJudge v
    let t := t.setFld SYS_PWR_STAT SYS_PWR_STAT_RESULT (bit (c != 0))
    if c = 0 then t.powerGo v (getB w SYS_PWR_CTRL_TEST) else t

/-- A request for state v: a write of SYS_PWR_CTRL, or one of POWER_REQ, whose response leaves first (R543). -/
def State.powerReqOp (s : State) (v : Nat) (src : Option (Iface × Word)) (test : Bool) : State :=
  match src with
  | some (i, w) =>
    if getB w SYS_PWR_CTRL_REQ_V ∧ getF w SYS_PWR_CTRL_REQ = v then s.hostAccess (s.pwrCtrlWrite i w) else s
  | none =>
    let c := s.powerJudge v
    let t := s.emitOut (.status 0x009001 c)
    if c = 0 then t.powerGo v test else t

def State.powerActiveOp (s : State) (src : Option (Iface × Word)) : State := s.powerReqOp 0 src false
def State.powerDrowsyOp (s : State) (src : Option (Iface × Word)) : State := s.powerReqOp 1 src false
def State.powerStandbyOp (s : State) (src : Option (Iface × Word)) (test : Bool) : State := s.powerReqOp 2 src test
def State.powerSleepOp (s : State) (src : Option (Iface × Word)) (test : Bool) : State := s.powerReqOp 3 src test

/-! ### STANDBY (R539, R543, R544, R548) -/

/-- The blocks whose domains are off in STANDBY: PACE, VBUS to KEYS, OBS, ECC and BRDG. -/
def offBlock (a : Nat) : Bool :=
  (decide (0x10000 ≤ a) && decide (a < 0x20000)) || (decide (0x80000 ≤ a) && decide (a < 0x400000)) ||
    (decide (0x480000 ≤ a) && decide (a < 0x540000))

/-- The high word of a port's or an engine's 64-bit counter: no status, and kept with the low word. -/
def counterHigh (a : Nat) : Bool :=
  (decide (0x310000 ≤ a) && decide (a < 0x330000)) ||
    (decide (0x101044 ≤ a) && decide (a < 0x300000) && (a - 0x101044) % 256 == 0 && decide ((a - 0x101044) % 0x20000 < 0x800))

/-- The equalisation entries, which only PORST_N and RST_N reset (R114). -/
def eqEntry (a : Nat) : Bool := decide (0xB80000 ≤ a) && decide (a < 0xB82090)

/-- A word with its status fields at reset. -/
def statusReset (a : Nat) (w : Word) : Word :=
  match regDesc? a with
  | some d => d.fields.foldl (fun x f => if f.ty = .ro then setF x f.fld (getF (regReset a) f.fld) else x) w
  | none => w

/-- The words of the registers once the domains are off: no table window but the equalisation entries (log entry 134), and
status as after reset (R114, R136, R544). -/
def State.offRegs (s : State) : List (Nat × Word) :=
  let keep := s.regs.filter (fun p => decide (p.1 < 0x800000) || eqEntry p.1)
  keep.foldl (fun m p => Sparse.set regReset m p.1 (if offBlock p.1 && !counterHigh p.1 then statusReset p.1 p.2 else p.2)) []

/-- The switched domains are turned off: their memories, key store and every item in flight are lost (R539). -/
def State.clearDomains (s : State) : State :=
  let s := s.seamStop
  let mram (k : Nat) : Bool := k / 2 ^ 32 == 5 || k / 2 ^ 32 == 1
  let u : State := { s with
    regs := s.offRegs, stage := [], drops := [], mons := [], tsqs := s.tsqs.filter (fun p => decide (1024 ≤ p.1)),
    lanes := [], laneAlarms := [], proofTimes := [], keyMat := [], kumQueue := [], replies := [], queues := [], chains := [],
    offers := [], puntIn := [], admitAt := [], workIn := [], deepFreeing := [], pols := [], svFifo := [], svRing := [], hist := [] }
  let u : State := { u with
    ctrInt := [], sampleReg := [], tagReg := [], itagReg := [], tagLast := [], itagLast := [], tagSeq := 0, traceSeq := [],
    traceIn := [], bobs := [], windIn := [], winder := [], pool := [], ports := [], refGood := [], refWin := [], ctlIn := [], parserIn := [], vbs := [],
    injs := [], attRx := [], attTx := [], ntscfIn := [], sta := [], staCmd := none, lpm := [], lpmCmd := none }
  let u : State := { u with
    frSeq := [], frers := [], frShadow := [], flaws := s.flaws.filter (fun p => mram p.1),
    poison := s.poison.filter (fun p => mram p.1), merge := [], scrubAt := s.scrubAt.filter (fun p => p.1 == 1 || p.1 == 5),
    hs := { s.hs with why := [], ops := [], pf := [], brIn := [] }, engs := [], heap := [], cq := [], excTimes := [], snapBank0 := [], snapBank1 := [], snapCopy := none, snapAgain := none,
    traceQ := [], traceLoss := [], traceFree := [] }
  (u.keepFld s CIPH_STAT CIPH_STAT_TAMPER).setFld ECC_INIT ECC_INIT_DONE (2 ^ 1 + 2 ^ 5)

/-- STANDBY_ENTRY_COMPLETE: every channel has ended its entry into sleep; a latched wake begins the exit at once (R543). -/
def State.standbyDoneOp (s : State) : State :=
  let falling := s.chans.any (fun p => match p.2.trans with | some t => t.target == 3 && decide (p.1 < 64) | none => false)
  if s.pw.entering ≠ some 2 ∨ falling then s
  else
    let t := s.clearDomains
    let pw : PowerSt := { t.pw with entering := none, enteredAt := some s.mer, wake := none, jtag := if 2 < t.pw.jtag then 0 else t.pw.jtag }
    let t := State.setFld { t with pw := pw } SYS_PWR_STAT SYS_PWR_STAT_STATE 2
    let t := (t.setFld SYS_PWR_STAT SYS_PWR_STAT_TRANS 0).setFld SYS_PWR_STAT SYS_PWR_STAT_READY 0
    match s.pw.wake with
    | some (code, c) => t.exitStart code c
    | none => t

/-- READY is set: writes are accepted, and the false-wake window starts (R548, R550). -/
def State.setReady (s : State) : State :=
  State.setFld { s with pw := { s.pw with readyAt := some s.mer } } SYS_PWR_STAT SYS_PWR_STAT_READY 1

/-- The sideband pattern goes to the twin before the Seam lanes train (R552). -/
def State.callTwin (s : State) : State := if s.flag SYS_PWR_WAKE SYS_PWR_WAKE_TWIN_TX then s.emitOut .sideband else s

/-- STANDBY_EXIT_READY: domains on, memories initialised, key store restored, READY; the Seam trains (R548). -/
def State.exitReadyOp (s : State) : State :=
  if !s.pw.exiting then s
  else
    let t := ((s.setFld ECC_INIT ECC_INIT_DONE 127).setFld ECC_INIT ECC_INIT_ALL 1)
    let t := State.setFld { t with pw := { t.pw with exiting := false } } SYS_PWR_STAT SYS_PWR_STAT_STATE 0
    let t := (State.keyRestoreOp (t.setFld SYS_PWR_STAT SYS_PWR_STAT_TRANS 0)).setReady.callTwin
    if t.paired then t.seamTrain else t

/-! ### Wakes (R546 to R552) -/

/-- NETWORK_WAKE: the wake pattern on loom channel c, or on management bus c − 64, whose detector only SLEEP arms. -/
def State.networkWakeOp (s : State) (c : Nat) : State :=
  if s.powerState = 3 then
    if 64 ≤ c then (if s.wakeOn (c - 63) then s.deviceWake (c - 63) c else s)
    else if s.loomSource c && getB (s.wakeWord (chWake c)) LCn_WAKE_EN then s.deviceWake 3 c else s
  else if c < 64 ∧ s.chArmed c ∧ s.loomSource c then s.chWakeUp c
  else s

/-- PIN_WAKE: WAKE has been high for 10 µs, or goes low. -/
def State.pinWakeOp (s : State) (high : Bool) : State :=
  let t : State := { s with pw := { s.pw with wakeHigh := high } }
  if high ∧ s.wakeOn 4 then t.deviceWake 4 0 else t

/-- TWIN_SIDEBAND_WAKE. -/
def State.sidebandOp (s : State) : State := if s.wakeOn 5 then s.deviceWake 5 0 else s

/-- WAKE_TIMER_EXPIRY. -/
def State.wakeTimerOp (s : State) : State :=
  match s.pw.enteredAt with
  | some a =>
    let ms := (s.rd SYS_PWR_TIMER).toNat
    if s.powerState = 2 ∧ s.wakeOn 6 ∧ ms ≠ 0 ∧ a + ms * msTicks ≤ s.mer then
      State.deviceWake { s with pw := { s.pw with enteredAt := none } } 6 0
    else s
  | none => s

/-- DEVICE_FALSE_WAKE: the window has ended without a valid wake; the entry that follows keeps the counting regime of the
request it repeats (R550, R551). -/
def State.deviceFalseOp (s : State) : State :=
  match s.pw.judge, s.pw.readyAt with
  | some j, some a =>
    let win := s.fld SYS_PWR_WAKE SYS_PWR_WAKE_FW_WIN
    if win = 0 ∨ s.mer < a + win * 1000 * msTicks then s
    else
      let t := State.bumpSat { s with pw := { s.pw with judge := none } } SYS_PWR_STAT SYS_PWR_STAT_FW_CNT
      let thr := s.fld SYS_PWR_WAKE SYS_PWR_WAKE_FW_THR
      let t := if thr ≠ 0 ∧ t.fld SYS_PWR_STAT SYS_PWR_STAT_FW_CNT = thr then t.setFld SYS_PWR_STAT SYS_PWR_STAT_SUPP 1 else t
      let t := t.log 550 j.code [j.chan]
      if t.flag SYS_PWR_STAT SYS_PWR_STAT_TRANS ∨ 2 ≤ t.powerState then t else t.enterPower j.was j.test false
  | _, _ => s

/-- WAKE_CLEAR 2 (R550). -/
def State.suppClear (s : State) : Nat × State := (0, s.clearFalse true)

/-- SUPP_CLR: a write of SYS_PWR_CTRL, or of 2 to WAKE_CLEAR. -/
def State.suppClearOp (s : State) (src : Option (Iface × Word)) : State :=
  match src with
  | some (i, w) => if getB w SYS_PWR_CTRL_SUPP_CLR then s.hostAccess (s.pwrCtrlWrite i w) else s
  | none => s.actOwn 0x009009 State.suppClear

/-- WAKE_CLEAR 1: WAKE_CAUSE is cleared. -/
def State.wakeClear (s : State) : Nat × State := (0, s.wr SYS_PWR_CAUSE 0)
def State.wakeClearOp (s : State) : State := s.actOwn 0x009009 State.wakeClear

/-! ### Lifecycle (R554 to R559) -/

/-- Highest level of a lifecycle state (R559). -/
def obsCap (code : Nat) : Nat := if code = 0 ∨ code = 3 then 3 else if code = 4 then 0 else 2

/-- SYS_LCS shows the lifecycle state. -/
def State.showLcs (s : State) : State :=
  let c := s.lifecycle
  ((s.setFld SYS_LCS SYS_LCS_STATE c).setFld SYS_LCS SYS_LCS_OBS_CAP (obsCap c)).setFlag SYS_LCS SYS_LCS_JTAG_FULL (c == 0)

/-- A permitted transition with its signer (R555). -/
def lcsReaches (src dst : Nat) : Bool :=
  (src == 0 && dst == 1) || (src == 1 && dst == 2) || ((src == 1 || src == 2) && dst == 3) || (decide (src < 4) && dst == 4)
def lcsSigner (src dst signer : Nat) : Bool :=
  if src = 0 then signer == 3 else if src = 1 ∧ dst = 2 then signer == 2 else signer == 2 || signer == 3

/-- Erasures of the target state (R558). -/
def State.lcsErase (s : State) (dst : Nat) : State :=
  if dst = 3 then
    let t := (s.eraseSlots s.keyKek).showFill
    let t := t.kumPersist t.kumCounter
    { t with th := { t.th with setAreas := [] } }
  else if dst = 4 then
    let t := (s.eraseSlots (fun _ => false)).showFill.setFld CIPH_STAT CIPH_STAT_READY 0
    { t with keyMram := { t.keyMram with ctrA := none, ctrB := none, blob0 := none, blob1 := none },
             th := { t.th with setAreas := [] } }
  else s

/-- A message of R556 is judged, and steps 1 to 4 of R558 run: its status. -/
def State.lifecycleReq (s : State) (m : List Byte) : Nat × State :=
  let dst := oct m 5
  let signer := oct m 6
  if m.length ≠ 128 ∨ beAt m 0 4 ≠ 0x4C4C4353 ∨ oct m 4 ≠ 1 ∨ dst = 0 ∨ 4 < dst ∨ oct m 7 ≠ 0 ∨
      slice m 8 16 ≠ s.otp.uid ∨ !zeroAt m 24 8 ∨ !lcsReaches s.lifecycle dst then (7, s)
  else if !lcsSigner s.lifecycle dst signer ∨
      (match s.roleKey signer with
       | some k => !Config.ecdsaOk k (slice m 0 32) (slice m 32 96)
       | none => true) = true then (0x0C, s)
  else if s.powerState ≠ 0 ∨ s.node ≠ .config ∨ (dst = 1 ∧ (s.roleKey 2).isNone) then (5, s)
  else
    let t := s.dataStop.lcsErase dst
    let t : State := { t with otp := { t.otp with lifecycle := t.otp.lifecycle.set (dst - 1) 0xFFFFFFFF } }
    let t := (t.setFld SYS_LCS SYS_LCS_OBS 0).showLcs
    (0, { t with pw := { t.pw with jtag := if 2 < t.pw.jtag then 0 else t.pw.jtag } })

/-- Every session closes (R461). -/
def State.closeAll (s : State) : State := { s with oap := { s.oap with sessions := [] } }

/-- Step 6 of R558, after the response. -/
def State.lifecycleEnd (s : State) : State := s.closeAll.log 558 0 [s.lifecycle]

/-- LIFECYCLE_REQ: a message written to OD 0x00A0.02. -/
def State.lifecycleOp (s : State) (m : List Byte) : State :=
  let r := if s.acceptsWrites then s.lifecycleReq m else (5, s)
  let t := actDone 0x00A002 r
  if r.1 = 0 then t.lifecycleEnd else t

/-! ### Observation levels and JTAG (R560 to R563) -/

/-- A write of OBS_REQ by a session of a role: its status (R561). -/
def State.obsReq (s : State) (v role : Nat) : Nat × State :=
  let now := s.fld SYS_LCS SYS_LCS_OBS
  if role < (if now < v ∧ v ≤ 3 then v else 1) then (3, s)
  else if !s.acceptsWrites then (5, s)
  else if 3 < v then (7, s)
  else if now < v ∧ obsCap s.lifecycle < v then (5, s)
  else (0, s.setFld SYS_LCS SYS_LCS_OBS v)

def State.obsReqOp (s : State) (v role : Nat) : State := actDone 0x00A004 (s.obsReq v role)

/-- JTAG_INSTRUCTION: 0 BYPASS, 1 IDCODE, 2 SAMPLE, 3 PRELOAD, 4 EXTEST, 5 CLAMP, 6 HIGHZ, 7 a factory test instruction
(R563). -/
def State.jtagOp (s : State) (code : Nat) : State :=
  if s.powerState = 3 then s
  else
    let full := s.flag SYS_LCS SYS_LCS_JTAG_FULL && s.powerState != 2
    { s with pw := { s.pw with jtag := if code ≤ 2 ∨ full then code else 0 } }

/-! ### Meanings -/

/-- POWER_REQ_ACTIVE, R541: A request for ACTIVE leaves DROWSY or wakes from STANDBY. -/
def execPowerReqActive (src : Option (Iface × Word)) (s : State) : Host.Outcome State Fault Refusal := finish s (s.powerActiveOp src)

/-- POWER_REQ_DROWSY, R542: A request for DROWSY enters it. -/
def execPowerReqDrowsy (src : Option (Iface × Word)) (s : State) : Host.Outcome State Fault Refusal := finish s (s.powerDrowsyOp src)

/-- POWER_REQ_STANDBY, R543: A request for STANDBY runs the entry sequence. -/
def execPowerReqStandby (src : Option (Iface × Word)) (test : Bool) (s : State) : Host.Outcome State Fault Refusal := finish s (s.powerStandbyOp src test)

/-- POWER_REQ_SLEEP, R545: A request for SLEEP runs the entry sequence and powers off. -/
def execPowerReqSleep (src : Option (Iface × Word)) (test : Bool) (s : State) : Host.Outcome State Fault Refusal := finish s (s.powerSleepOp src test)

/-- STANDBY_ENTRY_COMPLETE, R543: The switched domains turn off and the power state becomes STANDBY. -/
def execStandbyEntryComplete (s : State) : Host.Outcome State Fault Refusal := finish s s.standbyDoneOp

/-- NETWORK_WAKE, R546: A wake on MB0, MB1 or a loom source starts exit. -/
def execNetworkWake (c : Nat) (s : State) : Host.Outcome State Fault Refusal := finish s (s.networkWakeOp c)

/-- PIN_WAKE, R546: WAKE high for 10 us starts exit and ends suppression. -/
def execPinWake (high : Bool) (s : State) : Host.Outcome State Fault Refusal := finish s (s.pinWakeOp high)

/-- TWIN_SIDEBAND_WAKE, R546: The SL0 sideband pattern for 80 us starts exit. -/
def execTwinSidebandWake (s : State) : Host.Outcome State Fault Refusal := finish s s.sidebandOp

/-- WAKE_TIMER_EXPIRY, R546: SYS_PWR_TIMER expiry in STANDBY starts exit. -/
def execWakeTimerExpiry (s : State) : Host.Outcome State Fault Refusal := finish s s.wakeTimerOp

/-- STANDBY_EXIT_READY, R548: Domains and memories are back and READY is set. -/
def execStandbyExitReady (s : State) : Host.Outcome State Fault Refusal := finish s s.exitReadyOp

/-- DEVICE_FALSE_WAKE, R550: A network wake not valid within FW_WIN re-enters the former state. -/
def execDeviceFalseWake (s : State) : Host.Outcome State Fault Refusal := finish s s.deviceFalseOp

/-- SUPP_CLR, R550: SUPP_CLR or WAKE_CLEAR 2 ends wake suppression. -/
def execSuppClr (src : Option (Iface × Word)) (s : State) : Host.Outcome State Fault Refusal := finish s (s.suppClearOp src)

/-- WAKE_CLEAR, R565: WAKE_CLEAR 1 clears WAKE_CAUSE. -/
def execWakeClear (s : State) : Host.Outcome State Fault Refusal := finish s s.wakeClearOp

/-- LIFECYCLE_REQ, R558: A signed lifecycle message erases and advances the lifecycle state. -/
def execLifecycleReq (octets : List Byte) (s : State) : Host.Outcome State Fault Refusal := finish s (s.lifecycleOp octets)

/-- OBS_REQ, R561: OBS_REQ raises or lowers the observation level. -/
def execObsReq (level : Nat) (role : Nat) (s : State) : Host.Outcome State Fault Refusal := finish s (s.obsReqOp level role)

/-- JTAG_INSTRUCTION, R563: A JTAG instruction is loaded and selects its function or BYPASS. -/
def execJtagInstruction (code : Nat) (s : State) : Host.Outcome State Fault Refusal := finish s (s.jtagOp code)


end Sys2Proof.Machine
end

