-- ==== Sys2Proof/Machine/Join.lean ====
section
/-! DEFINITION. The join tree, join records, completion and the reports of join: spec/19 R606 to R618. -/

namespace Sys2Proof.Machine

/-! ### Frames (R608, R609) -/

def msgHello : Nat := 1
def msgRecords : Nat := 2
def msgAck : Nat := 3
def msgComplete : Nat := 4
def msgReport : Nat := 5

/-- The payload of a join frame that leaves on port n. -/
def State.joinPayload (s : State) (n msg seq : Nat) (body : List Byte) : List Byte :=
  natBe 1 0x4A ++ natBe 1 (0x10 + msg) ++ natBe 2 (16 + body.length) ++ natBe 2 s.nodeNumber ++ natBe 2 n ++ natBe 4 seq ++
    natBe 4 0 ++ body

/-- A join frame goes to the control queue of port n (R608). -/
def State.joinSend (s : State) (n msg seq : Nat) (body : List Byte) : State :=
  let d := natBe 6 0x034C485AFFFF ++ nodeMac s.nodeNumber ++ natBe 2 s.jn.etype ++ s.joinPayload n msg seq body
  let it : Item := { Item.blank with data := d, vid := 1, tenant := 1024, src := n, stamp := s.mer, ctl := true }
  s.queueOne it (.port n 16)

/-- Octets a record of a MSG has, and whether its zero fields are 0. -/
def recordOk (msg : Nat) (r : List Byte) : Bool :=
  if msg = msgRecords then oct r 0 / 4 == 0 && oct r 18 / 8 == 0 && oct r 22 / 4 == 0
  else oct r 7 == 0 && zeroAt r 10 6

/-- A payload is laid out as R609 has it for its MSG. -/
def joinFormed (p : List Byte) : Bool :=
  let msg := oct p 1 % 16
  let len := beAt p 2 2
  let b := p.drop 16
  oct p 0 == 0x4A && oct p 1 / 16 == 1 && decide (len ≤ p.length) && oct p 4 / 4 == 0 && oct p 6 / 4 == 0 && zeroAt p 12 4 &&
    (if msg = msgHello then len == 40 && zeroAt p 8 4 && oct b 19 / 4 == 0 && zeroAt b 22 2
     else if msg = msgRecords ∨ msg = msgReport then
       let n := if msg = msgRecords then 32 else 24
       let k := (len - 16) / n
       (len - 16) % n == 0 && decide (1 ≤ k) && decide (k ≤ 32) && (List.range k).all (fun i => recordOk msg (slice b (n * i) n))
     else if msg = msgAck then len == 16
     else if msg = msgComplete then len == 24 && zeroAt p 8 4 && zeroAt b 6 2
     else false)

/-- Take a frame of one MSG from a join port and its control FIFO: malformed ones are counted (R609). -/
def State.joinTake (s : State) (n msg : Nat) (p : List Byte) (f : State → State) : State :=
  let s := s.ctlTake n
  if !s.jn.ports.testBit n || !s.flag (PORT_STATn n) PORT_STATn_LINK then s
  else if !joinFormed p then s.oapCount 0
  else if oct p 1 % 16 = msg then f s
  else s

/-! ### Sequenced frames (R610) -/

def State.jlink (s : State) (n : Nat) : JoinLink := Sparse.get (fun _ => JoinLink.reset) s.jn.links n
def State.setJlink (s : State) (n : Nat) (x : JoinLink) : State :=
  { s with jn := { s.jn with links := Sparse.set (fun _ => JoinLink.reset) s.jn.links n x } }

/-- Send the first k waiting frames while fewer than 8 are unacknowledged. -/
def State.joinPump (s : State) (n : Nat) : Nat → State
  | 0 => s
  | k + 1 =>
    let x := s.jlink n
    match x.wait with
    | [] => s
    | (msg, rs) :: rest =>
      if 8 ≤ x.unacked.length then s
      else
        let y : JoinLink := { x with next := (x.next + 1) % 2 ^ 32, unacked := x.unacked ++ [(x.next, msg, rs)], wait := rest,
                                     at_ := if x.unacked.isEmpty then s.mer else x.at_ }
        State.joinPump ((s.setJlink n y).joinSend n msg x.next rs.flatten) n k

/-- Records in frames of at most 32. -/
def joinChunks : Nat → List (List Byte) → List (List (List Byte))
  | 0, _ => []
  | k + 1, l => if l.isEmpty then [] else l.take 32 :: joinChunks k (l.drop 32)

/-- Records go out on port n under a MSG. -/
def State.joinQueue (s : State) (n msg : Nat) (rs : List (List Byte)) : State :=
  let x := s.jlink n
  (s.setJlink n { x with wait := x.wait ++ (joinChunks rs.length rs).map (fun c => (msg, c)) }).joinPump n 8

/-- JOIN_RESEND: 2 ms without progress (R610). -/
def State.joinResendOp (s : State) (n : Nat) : State :=
  let x := s.jlink n
  if x.unacked.isEmpty ∨ s.mer < x.at_ + 2 * msTicks then s
  else x.unacked.foldl (fun t f => t.joinSend n f.2.1 f.1 f.2.2.flatten) (s.setJlink n { x with at_ := s.mer })

/-- A sequenced frame: the next one is applied and acknowledged, an older one acknowledged again, a newer one discarded. -/
def State.joinSeq (s : State) (n seq : Nat) (f : State → State) : State :=
  let x := s.jlink n
  let d := (seq + 2 ^ 32 - x.rx) % 2 ^ 32
  if d = 0 then (f (s.setJlink n { x with rx := (x.rx + 1) % 2 ^ 32 })).joinSend n msgAck seq []
  else if 2 ^ 31 ≤ d then s.joinSend n msgAck ((x.rx + 2 ^ 32 - 1) % 2 ^ 32) []
  else s

/-! ### Neighbours and the tree (R611) -/

def State.joinRoot? (s : State) : Option Nat := s.jn.vec.map (fun v => v.1)
/-- Parent node, and the port that faces it. -/
def State.joinParent (s : State) : Option (Nat × Nat) :=
  match s.jn.vec with
  | some (_, _, p) => p
  | none => none
/-- This node is root. -/
def State.isRoot (s : State) : Bool := match s.jn.vec with | some (_, d, _) => d == 0 | none => false
/-- Ports to the children. -/
def State.joinChildren (s : State) : List Nat :=
  (s.jn.neighbours.filter (fun p => p.2.parent == some s.nodeNumber)).map (fun p => p.1)

/-- Candidates as ROOT, DIST, and the neighbour with the port that faces it. -/
def State.joinCands (s : State) : List (Nat × Nat × Option (Nat × Nat)) :=
  let me := s.nodeNumber
  (if me < 2 then [(me, 0, none)] else []) ++ s.jn.neighbours.filterMap (fun p =>
    match p.2.vec with
    | some (r, d) => if d < 31 ∧ p.2.parent ≠ some me then some (r, d + 1, some (p.2.node, p.1)) else none
    | none => none)

/-- Order of candidates: ROOT, DIST, node, port. -/
def candKey (c : Nat × Nat × Option (Nat × Nat)) : Nat :=
  let k := match c.2.2 with | some (n, p) => 1024 * n + p | none => 0
  (c.1 * 64 + c.2.1) * 2 ^ 20 + k

/-- The least candidate. -/
def State.joinBest (s : State) : Option (Nat × Nat × Option (Nat × Nat)) :=
  s.joinCands.foldl (fun b c => match b with | some x => if candKey c < candKey x then some c else some x | none => some c) none

/-- SYS_BOOT.PHASE while the node is in JOINING and after (SYS_BOOT). -/
def State.showPhase (s : State) : State :=
  let own := s.jn.store.any (fun p => p.1 == s.nodeNumber)
  let timed := s.servo.mode % 2 == 0 || s.flag TIME_STAT TIME_STAT_SRV_LOCK || s.flag SYS_BOOT SYS_BOOT_TIME_UNLOCKED
  s.setFld SYS_BOOT SYS_BOOT_PHASE
    (if s.pw.boot < 5 then 0 else if s.pw.joinedAt.isSome then 6 else if own then 5
     else if s.jn.vec.isSome then (if timed then 4 else 3) else if s.jn.upAt.isSome then 2 else 1)

/-- The registers show the vector and the neighbours. -/
def State.showTree (s : State) : State :=
  let v := s.jn.vec.getD (0, 255, none)
  let p := v.2.2.getD (0, 0)
  let s := ((s.setFld SYS_JOINTREE SYS_JOINTREE_ROOT v.1).setFld SYS_JOINTREE SYS_JOINTREE_DIST v.2.1).setFld SYS_JOINTREE
    SYS_JOINTREE_PARENT p.1
  let s := (s.setFld SYS_JOINPORT SYS_JOINPORT_NEIGHBOURS s.jn.neighbours.length).setFld SYS_JOINPORT SYS_JOINPORT_PARENT_PORT p.2
  (s.setFlag SYS_BOOT SYS_BOOT_ROOT s.isRoot).showPhase

/-- A time of SYS_BOOTT, the first time it is reached. -/
def State.bootTime (s : State) (k : Nat) : State :=
  if s.rd (SYS_BOOTTk k) = 0xFFFFFFFF then s.wr (SYS_BOOTTk k) (BitVec.ofNat 32 (s.mer / usTicks)) else s

/-- Triggered HELLOs are due on every join port. -/
def State.joinTrigger (s : State) : State :=
  { s with jn := { s.jn with trig := (List.range 1024).filter (fun n => s.jn.ports.testBit n) } }

/-- A report of this node goes to its own coalescer and towards the root (R618). -/
def State.joinReport (s : State) (suspect : Nat) : State :=
  let sev := Config.eventSeverity 618 % 4
  let code := Config.eventCode 618 % 65536
  let t := s.reportOwn { suspect := suspect, reporter := s.nodeNumber, sev := sev, code := code }
  match t.joinParent with
  | some (_, n) =>
    t.joinQueue n msgReport [natBe 4 suspect ++ natBe 2 s.nodeNumber ++ natBe 1 sev ++ natBe 1 0 ++ natBe 2 code ++ natBe 6 0 ++ natBe 8 s.mer]
  | none => t

/-- Identities of a node and of a port of this node (R596). -/
def suspectNode (n : Nat) : Nat := 2 ^ 28 + n * 2 ^ 18
def State.suspectPort (s : State) (n : Nat) : Nat := 2 * 2 ^ 28 + s.nodeNumber * 2 ^ 18 + n

/-! ### Records (R612, R613) -/

def recNode (r : List Byte) : Nat := beAt r 0 2 % 1024
def recUid (r : List Byte) : List Byte := slice r 2 16

/-- This node's record as it stands now, created at a µs of Meridian. -/
def State.ownRecord (s : State) (us : Nat) : List Byte :=
  let v := s.jn.vec.getD (0, 255, none)
  let flags := bit (s.flag TIME_STAT TIME_STAT_SRV_LOCK) + 2 * bit s.seamUp + 4 * bit (s.flag SYS_BOOT SYS_BOOT_ORPHAN)
  natBe 2 s.nodeNumber ++ s.otp.uid ++ natBe 1 flags ++ natBe 1 v.2.1 ++
    natBe 2 (match v.2.2 with | some p => p.1 | none => 0xFFFF) ++ natBe 2 (match v.2.2 with | some p => p.2 | none => 0) ++
    (s.img s.runBank).read 12 4 ++ natBe 4 us

/-- The root enters a record in its table: another UID under a number held is a clash, which is reported (R613). -/
def State.joinEnter (s : State) (r : List Byte) : State :=
  let n := recNode r
  match s.jn.table.find? (fun p => p.1 == n) with
  | some p =>
    if recUid p.2 = recUid r then { s with jn := { s.jn with table := Sparse.set (fun _ => []) s.jn.table n r } }
    else (s.setFld SYS_BOOT SYS_BOOT_DUP_SEEN 1).joinReport (suspectNode n)
  | none => { s with jn := { s.jn with table := Sparse.set (fun _ => []) s.jn.table n r, newAt := s.mer,
                                       ownAt := if n = s.nodeNumber then some s.mer else s.jn.ownAt } }

/-- Records received on a port, or this node's own, are held, entered at the root, or sent to the parent. -/
def State.joinHold (s : State) (via : Option Nat) (rs : List (List Byte)) : State :=
  let put (l : List (Nat × List Byte × Option Nat)) (r : List Byte) := l.filter (fun p => p.1 != recNode r) ++ [(recNode r, r, via)]
  let s : State := { s with jn := { s.jn with store := rs.foldl put s.jn.store } }
  if s.isRoot then rs.foldl (fun t r => t.joinEnter r) s
  else
    match s.joinParent with
    | some (_, n) => s.joinQueue n msgRecords rs
    | none => s

/-- The vector is chosen anew, with everything that follows from a change (R611, R613, R618). -/
def State.joinTree (s : State) : State :=
  let old := s.jn.vec
  let best := s.joinBest
  let s : State := { s with jn := { s.jn with vec := best } }
  if best = old then s.showTree
  else
    let s := s.joinTrigger
    let s := if best.isSome ∧ s.jn.rootAt.isNone then State.bootTime { s with jn := { s.jn with rootAt := some s.mer } } 3 else s
    let moved := (old.map (fun v => (v.1, v.2.2))) != (best.map (fun v => (v.1, v.2.2)))
    let s : State := { s with jn := { s.jn with acked := s.jn.acked && !moved, table := if s.isRoot then s.jn.table else [],
                                                ownAt := if s.isRoot then s.jn.ownAt else none } }
    let own := s.jn.store.find? (fun p => p.1 == s.nodeNumber)
    let s := match own with
      | some p =>
        let r := s.ownRecord (beAt p.2.1 28 4)
        let rest := s.jn.store.filter (fun (q : Nat × List Byte × Option Nat) => q.1 != s.nodeNumber)
        let s : State := { s with jn := { s.jn with store := rest ++ [(s.nodeNumber, r, none)] } }
        if moved then s else s.joinHold none [r]
      | none => s
    let all := s.jn.store.map (fun (p : Nat × List Byte × Option Nat) => p.2.1)
    let s := if !moved then s
      else if s.isRoot then all.foldl (fun t r => t.joinEnter r) s
      else match s.joinParent with | some (_, n) => s.joinQueue n msgRecords all | none => s
    let s := match old, best with
      | some a, some b => if a.1 ≠ b.1 then s.joinReport (suspectNode a.1) else s
      | _, _ => s
    s.showTree

/-- The body of a HELLO. -/
def State.helloBody (s : State) : List Byte :=
  let v := s.jn.vec.getD (0, 255, none)
  s.otp.uid ++ natBe 2 v.1 ++ natBe 1 v.2.1 ++ natBe 1 (2 * bit (decide (s.nodeNumber < 2)) + bit s.jn.complete) ++
    natBe 2 (match v.2.2 with | some p => p.1 | none => 0xFFFF) ++ natBe 2 0

/-- JOIN_HELLO_SEND on port n, after its back-off: the first one, a triggered one, or one 10 ms after the last. -/
def State.helloSendOp (s : State) (n : Nat) : State :=
  let last := s.jn.hello.find? (fun p => p.1 == n)
  let due := s.jn.trig.contains n || (match last with | some p => decide (p.2 + 10 * msTicks ≤ s.mer) | none => true)
  if s.pw.boot < 5 ∨ !s.jn.ports.testBit n ∨ !s.flag (PORT_STATn n) PORT_STATn_LINK ∨ !due then s
  else
    let l := s.jn.hello.filter (fun p => p.1 != n) ++ [(n, s.mer)]
    State.joinSend { s with jn := { s.jn with hello := l, trig := s.jn.trig.filter (fun k => k != n) } } n msgHello 0 s.helloBody

/-- The node has heard COMPLETE (R614). -/
def State.joinHeard (s : State) : State :=
  if s.jn.complete then s
  else State.setFld (State.joinTrigger { s with jn := { s.jn with complete := true } }) SYS_BOOT SYS_BOOT_COMPLETE 1

/-- What came through port n belongs to no subtree of this node any more (R613). -/
def State.dropSubtree (s : State) (n : Nat) : State :=
  { s with jn := { s.jn with store := s.jn.store.filter (fun p => p.2.2 != some n) } }

/-- The neighbour of port n is forgotten, with its sequencing and what came through it. -/
def State.dropNeighbour (s : State) (n : Nat) : State :=
  State.dropSubtree { s with jn := { s.jn with neighbours := s.jn.neighbours.filter (fun p => p.1 != n), links := Sparse.erase s.jn.links n } } n

/-- JOIN_HELLO received on port n. -/
def State.joinHelloOp (s : State) (n : Nat) (p : List Byte) : State :=
  s.joinTake n msgHello p (fun s =>
    let b := p.drop 16
    let uid := slice b 0 16
    let node := beAt p 4 2
    if node = s.nodeNumber ∨ uid = s.otp.uid then
      let t := if s.jn.barred.contains n then s else State.log { s with jn := { s.jn with barred := s.jn.barred ++ [n] } } 611 n
      (t.dropNeighbour n).joinTree
    else if s.jn.barred.contains n then s
    else
      let dist := oct b 18
      let par := beAt b 20 2
      let x : Neighbour := { uid := uid, node := node, port := beAt p 6 2,
                             vec := if dist = 255 then none else some (beAt b 16 2, dist), cand := (oct b 19).testBit 1,
                             complete := (oct b 19).testBit 0, parent := if par = 0xFFFF then none else some par, heard := s.mer }
      let same := s.jn.neighbours.any (fun q => q.1 == n && q.2.uid == uid)
      let t := if !same then s.dropNeighbour n else if x.parent = some s.nodeNumber then s else s.dropSubtree n
      let t : State := { t with jn := { t.jn with neighbours := t.jn.neighbours.filter (fun q => q.1 != n) ++ [(n, x)] } }
      let t := if x.complete then t.joinHeard else t
      t.joinTree)

/-- NEIGHBOUR_LOSS on port n: 35 ms without a HELLO, or its link is down; the loss of the parent is reported (R611, R618). -/
def State.neighbourLossOp (s : State) (n : Nat) : State :=
  match s.jn.neighbours.find? (fun p => p.1 == n) with
  | none => s
  | some (_, x) =>
    if s.flag (PORT_STATn n) PORT_STATn_LINK ∧ s.mer < x.heard + 35 * msTicks then s
    else
      let par := match s.joinParent with | some (_, k) => k == n | none => false
      let t := (s.dropNeighbour n).joinTree
      if par then t.joinReport (suspectNode x.node) else t

/-- The fall of port n's link loses its neighbour, and the HELLO after the next link up is a first one (R611). -/
def State.joinLinkFall (s t : State) (n : Nat) : State :=
  if s.portLink n && !t.portLink n then
    State.neighbourLossOp { t with jn := { t.jn with hello := t.jn.hello.filter (fun p => p.1 != n) } } n
  else t

def State.joinLinkDownOp (s : State) (n : Nat) (fault : Bool) : State := s.joinLinkFall (s.linkDownOp n fault) n
def State.joinDrainedOp (s : State) (n : Nat) : State := s.joinLinkFall (s.portDrainedOp n) n

/-- The time condition of R613, and whether it holds by its limit. -/
def State.timeReady (s : State) : Bool × Bool :=
  if s.servo.mode % 2 = 0 ∨ s.flag TIME_STAT TIME_STAT_SRV_LOCK then (true, false)
  else
    match s.jn.rootAt with
    | some a => let late := decide (a + s.od 0x00B006 * msTicks ≤ s.mer); (late, late)
    | none => (false, false)

/-- The Seam condition of R613, and whether it holds by its limit. -/
def State.seamReady (s : State) : Bool × Bool :=
  if s.seamUp then (true, false)
  else
    match s.jn.joinAt with
    | some a => let late := decide (a + s.od 0x00B007 * msTicks ≤ s.mer); (late, late)
    | none => (false, false)

/-- The time and Seam conditions that hold are noted in SYS_BOOT and SYS_BOOTT. -/
def State.noteConds (s : State) : State :=
  let s := if s.timeReady.1 then (if s.timeReady.2 then s.setFld SYS_BOOT SYS_BOOT_TIME_UNLOCKED 1 else s).bootTime 4 else s
  if s.seamReady.1 then (if s.seamReady.2 then s.setFld SYS_BOOT SYS_BOOT_SEAM_LATE 1 else s).bootTime 5 else s

/-- JOIN_RECORD_CREATE: tree, time and Seam conditions hold (R613); a record held already is brought up to date, with the µs
of its creation (R615). -/
def State.recordCreateOp (s : State) : State :=
  if s.pw.boot < 5 ∨ s.jn.vec.isNone then s
  else
    match s.jn.store.find? (fun p => p.1 == s.nodeNumber) with
    | some p =>
      let r := s.ownRecord (beAt p.2.1 28 4)
      if r = p.2.1 then s else s.joinHold none [r]
    | none =>
      let t := s.noteConds
      if !s.timeReady.1 || !s.seamReady.1 then t.showPhase
      else (t.joinHold none [t.ownRecord (t.mer / usTicks)]).showPhase

/-- JOIN_RECORDS received on port n. -/
def State.joinRecordsOp (s : State) (n : Nat) (p : List Byte) : State :=
  s.joinTake n msgRecords p (fun s =>
    if !s.jn.neighbours.any (fun q => q.1 == n) then s
    else
      let k := (beAt p 2 2 - 16) / 32
      s.joinSeq n (beAt p 8 4) (fun s => s.joinHold (some n) ((List.range k).map (fun i => slice p (16 + 32 * i) 32))))

/-- JOIN_ACK received on port n (R610, R615). -/
def State.joinAckOp (s : State) (n : Nat) (p : List Byte) : State :=
  s.joinTake n msgAck p (fun s =>
    let x := s.jlink n
    let done (f : Nat × Nat × List (List Byte)) : Bool := decide ((beAt p 8 4 + 2 ^ 32 - f.1) % 2 ^ 32 < 2 ^ 31)
    let gone := x.unacked.filter done
    if gone.isEmpty then s
    else
      let own := gone.any (fun f => f.2.1 == msgRecords && f.2.2.any (fun r => recNode r == s.nodeNumber))
      let par := match s.joinParent with | some (_, k) => k == n | none => false
      let t : State := { s with jn := { s.jn with acked := s.jn.acked || (own && par) } }
      (t.setJlink n { x with unacked := x.unacked.filter (fun f => !done f), at_ := s.mer }).joinPump n 8)

/-! ### Completion and leaving (R614, R615) -/

/-- COMPLETE goes to each child. -/
def State.joinTell (s : State) (body : List Byte) : State :=
  s.joinChildren.foldl (fun t n => t.joinSend n msgComplete 0 body) s

/-- JOIN_COMPLETE received on port n, from the parent. -/
def State.joinCompleteOp (s : State) (n : Nat) (p : List Byte) : State :=
  s.joinTake n msgComplete p (fun s => (s.joinHeard.joinTell (slice p 16 8)).showPhase)

/-- The expected nodes that the table lacks. -/
def State.joinMissing (s : State) : List Nat :=
  (List.range 1024).filter (fun k => (s.od 0x00B003).testBit k && !s.jn.table.any (fun p => p.1 == k))

/-- ROOT_COMPLETION: the root declares the system complete (R614). -/
def State.rootCompleteOp (s : State) : State :=
  match s.jn.ownAt with
  | none => s
  | some a =>
    let miss := s.joinMissing
    let due := if s.od 0x00B003 = 0 then decide (s.jn.newAt + s.od 0x00B005 * msTicks ≤ s.mer)
      else miss.isEmpty || decide (a + s.od 0x00B004 * msTicks ≤ s.mer)
    if !s.isRoot ∨ s.jn.complete ∨ !due then s
    else
      let t := s.joinHeard.joinTell (natBe 2 s.nodeNumber ++ natBe 2 s.jn.table.length ++ natBe 2 miss.length ++ natBe 2 0)
      (miss.foldl (fun t k => t.joinReport (suspectNode k)) t).showPhase

/-- JOIN_LEAVE: as member, root, alone or orphan (R615), into CONFIG or RUN (R446), and DEGRADED where a level holds (R605). -/
def State.joinLeaveOp (s : State) : State :=
  let alone := s.jn.ports = 0 ∧ s.timeReady.1 = true ∧ s.seamReady.1 = true
  let orphan := match s.jn.upAt with | some a => decide (a + s.od 0x00B004 * msTicks ≤ s.mer) | none => false
  let go (s : State) : State :=
    let n : NodeState := if s.configFirst || s.flag THIM_STAT THIM_STAT_DEFAULTS then .config else .run
    let s := (s.setNode n).settleDegraded
    (State.bootTime { s with pw := { s.pw with joinedAt := some s.mer } } 6).showPhase
  if s.node ≠ .joining then s
  else if s.jn.complete ∧ (s.isRoot ∨ s.jn.acked) then go s
  else if alone then go (s.noteConds.setFld SYS_BOOT SYS_BOOT_ALONE 1)
  else if orphan then go ((s.setFld SYS_BOOT SYS_BOOT_ORPHAN 1).log 615 0)
  else s

/-- JOIN_REPORT received on port n: the root applies its records as fault reports; another node passes them on (R618). -/
def State.joinReportOp (s : State) (n : Nat) (p : List Byte) : State :=
  s.joinTake n msgReport p (fun s =>
    if !s.jn.neighbours.any (fun q => q.1 == n) then s
    else
      let k := (beAt p 2 2 - 16) / 24
      let rs := (List.range k).map (fun i => slice p (16 + 24 * i) 24)
      s.joinSeq n (beAt p 8 4) (fun s =>
        if s.isRoot then
          rs.foldl (fun t r => if 3 < oct r 6 ∨ 1023 < beAt r 4 2 then t else
            t.reportOwn { suspect := beAt r 0 4, reporter := beAt r 4 2, sev := oct r 6, code := beAt r 8 2 }) s
        else match s.joinParent with | some (_, m) => s.joinQueue m msgReport rs | none => s))

/-- TRAINING_TIMEOUT: the third failure on end of a join port is reported (R112, R618). -/
def State.joinTrainOp (s : State) (n : Nat) : State :=
  let t := s.trainTimeoutOp n
  if s.jn.ports.testBit n && s.trainExpired n then
    let k := Sparse.get (fun _ => 0) s.jn.fails n + 1
    let t : State := { t with jn := { t.jn with fails := Sparse.set (fun _ => 0) t.jn.fails n (k % 3) } }
    if k = 3 then t.joinReport (s.suspectPort n) else t
  else t

/-! ### Meanings -/

/-- LINK_DOWN, R117: A fault condition that lasts DN_HOLD declares link down. -/
def execLinkDown (n : Nat) (fault : Bool) (s : State) : Host.Outcome State Fault Refusal := finish s (s.joinLinkDownOp n fault)

/-- PORT_DRAINED, R116: Once the drain is complete, STOPPED is set and the lanes go to electrical idle. -/
def execPortDrained (n : Nat) (s : State) : Host.Outcome State Fault Refusal := finish s (s.joinDrainedOp n)

/-- TRAINING_TIMEOUT, R112: A training attempt not complete within 300 ms is abandoned and restarted. -/
def execTrainingTimeout (n : Nat) (s : State) : Host.Outcome State Fault Refusal := finish s (s.joinTrainOp n)

/-- JOIN_HELLO_SEND, R611: A HELLO is sent after its back-off. -/
def execJoinHelloSend (n : Nat) (s : State) : Host.Outcome State Fault Refusal := finish s (s.helloSendOp n)

/-- JOIN_HELLO, R611: A received HELLO updates the neighbour and the tree vector. -/
def execJoinHello (n : Nat) (octets : List Byte) (s : State) : Host.Outcome State Fault Refusal := finish s (s.joinHelloOp n octets)

/-- NEIGHBOUR_LOSS, R611: 35 ms without a HELLO loses the neighbour. -/
def execNeighbourLoss (n : Nat) (s : State) : Host.Outcome State Fault Refusal := finish s (s.neighbourLossOp n)

/-- JOIN_RECORD_CREATE, R613: Once tree, time and Seam conditions hold, the node creates its record. -/
def execJoinRecordCreate (s : State) : Host.Outcome State Fault Refusal := finish s s.recordCreateOp

/-- JOIN_RECORDS, R613: A RECORDS frame is applied and forwarded or entered at the root. -/
def execJoinRecords (n : Nat) (octets : List Byte) (s : State) : Host.Outcome State Fault Refusal := finish s (s.joinRecordsOp n octets)

/-- JOIN_ACK, R610: An ACK advances a port's acknowledged sequence. -/
def execJoinAck (n : Nat) (octets : List Byte) (s : State) : Host.Outcome State Fault Refusal := finish s (s.joinAckOp n octets)

/-- JOIN_RESEND, R610: 2 ms without ACK progress resends unacknowledged frames. -/
def execJoinResend (n : Nat) (s : State) : Host.Outcome State Fault Refusal := finish s (s.joinResendOp n)

/-- JOIN_COMPLETE, R614: A COMPLETE frame is received and forwarded to the children. -/
def execJoinComplete (n : Nat) (octets : List Byte) (s : State) : Host.Outcome State Fault Refusal := finish s (s.joinCompleteOp n octets)

/-- ROOT_COMPLETION, R614: The root declares the system complete on the expected set, JOIN_WAIT or JOIN_QUIET. -/
def execRootCompletion (s : State) : Host.Outcome State Fault Refusal := finish s s.rootCompleteOp

/-- JOIN_LEAVE, R615: The node leaves JOINING as member, root, alone or orphan. -/
def execJoinLeave (s : State) : Host.Outcome State Fault Refusal := finish s s.joinLeaveOp

/-- JOIN_REPORT, R618: A REPORT frame's records are applied as fault reports. -/
def execJoinReport (n : Nat) (octets : List Byte) (s : State) : Host.Outcome State Fault Refusal := finish s (s.joinReportOp n octets)


end Sys2Proof.Machine
end

