-- ==== Sys2Proof/Machine/Punt.lean ====
section
/-! DEFINITION. Punt queues and injection: spec/15 R486 to R491. -/

namespace Sys2Proof.Machine

/-! ### Rings (R486, R488, R490) -/

def State.pqValid (s : State) (q : Nat) : Bool := s.flag (PUNTq q) PUNTq_VALID
/-- 2^DEPTH slots. -/
def State.pqDepth (s : State) (q : Nat) : Nat := 2 ^ max 4 (s.fld (PUNTq q) PUNTq_DEPTH)
/-- Octets of a slot. -/
def State.pqSlot (s : State) (q : Nat) : Nat := 256 * 2 ^ min 6 (s.fld (PUNTq q) PUNTq_SLOT_SZ)
/-- Word k of a queue's page. -/
def pqWord (q k : Nat) : Nat := PUNTq q + 4 * k
def State.upWr (s : State) (q : Nat) : Nat := s.fld (pqWord q 3) PUNTq_UP_WR
def State.upRd (s : State) (q : Nat) : Nat := s.fld (pqWord q 3) PUNTq_UP_RD
def State.dnWr (s : State) (q : Nat) : Nat := s.fld (pqWord q 6) PUNTq_DN_WR
def State.dnRd (s : State) (q : Nat) : Nat := s.fld (pqWord q 6) PUNTq_DN_RD
/-- Unread slots of the up ring. -/
def State.upUsed (s : State) (q : Nat) : Nat := (s.upWr q + 65536 - s.upRd q) % 65536

def State.puntWhy (s : State) (q : Nat) : List Nat := Sparse.get (fun _ => []) s.hs.why q
def State.setPuntWhy (s : State) (q : Nat) (l : List Nat) : State :=
  { s with hs := { s.hs with why := Sparse.set (fun _ => []) s.hs.why q l } }
def State.slotTicks (s : State) (q : Nat) : List Nat := Sparse.get (fun _ => []) s.hs.slotAt q
def State.setSlotTicks (s : State) (q : Nat) (l : List Nat) : State :=
  { s with hs := { s.hs with slotAt := Sparse.set (fun _ => []) s.hs.slotAt q l } }

/-- PEND is set; its rise sends the queue's vector (R489). -/
def State.setPend (s : State) (q : Nat) : State :=
  if s.flag (pqWord q 11) PUNTq_PEND then s
  else (s.setFld (pqWord q 11) PUNTq_PEND 1).sendMsix (s.fld (PUNTq q) PUNTq_VEC)

/-! ### Punted items (R487, R488) -/

/-- PUNT_ITEM: the oldest item on its way to queue q. -/
def State.puntItemOp (s : State) (q : Nat) : State :=
  match Sparse.get (fun _ => []) s.puntIn q with
  | [] => s
  | (it, why) :: rest =>
    let s : State := { s with puntIn := Sparse.set (fun _ => []) s.puntIn q rest }
    if !s.pqValid q then s.dropAt it (.punt q) rNoRoute
    else if !s.flag (PUNTq q) PUNTq_ANY && s.fld (PUNTq q) PUNTq_TENANT != it.tenant && !why.testBit 20 then s.dropAt it (.punt q) rTenant
    else
      let n := (s.queue (Dest.punt q).key).length
      let t := s.queueIn 0 { item := it, copies := [.punt q], held := false }
      if (t.queue (Dest.punt q).key).length = n then t.count (pqWord q 8)
      else t.setPuntWhy q (s.puntWhy q ++ [why % 2 ^ 20])

/-- Header words 0 to 11 of a slot (R488). -/
def State.slotWords (s : State) (q : Nat) (it : Item) (why : Nat) : List Nat :=
  let n := it.data.length
  let phase := 1 - (s.upWr q / s.pqDepth q) % 2
  let w0 := 2 ^ 31 * phase + 2 ^ 30 * bit (decide (s.pqSlot q - 48 < n)) + 2 ^ 29 * bit it.eth +
    (if it.eth then 0 else 2 ^ 27 * it.fmt + 2 ^ 26 * bit it.ide + 2 ^ 25 * bit it.rtr + 2 ^ 24 * bit it.sec) +
    2 ^ 14 * (it.tenant % 1024) + n % 2 ^ 14
  let w1 := 2 ^ 28 * (why % 16) + 2 ^ 24 * (it.reentry % 16) + srcForm it.src % 2 ^ 14
  let w2 := if it.eth then 2 ^ 13 * it.pcp + 2 ^ 12 * bit it.tagged + it.vid % 4096 else it.ident % 2 ^ 29
  let w3 := (if why % 16 < 2 then 2 ^ 16 * (why / 16 % 65536) else 0) + (if it.eth then 0 else 256 * (it.sdt % 256) + it.vcid % 256)
  let ts := s.tenantStamp (some it.tenant) it.stamp
  [w0, w1, w2, w3, it.stamp % 2 ^ 32, it.stamp / 2 ^ 32, ts % 2 ^ 32, ts / 2 ^ 32, if it.eth then 0 else it.af, 0, 0, 0]

/-- PUNT_SLOT_WRITE: the head of queue q goes to the up ring, which has room; not once STANDBY or SLEEP is being entered
(R488, R489, R543). -/
def State.puntSlotOp (s : State) (q : Nat) : State :=
  match s.queue (Dest.punt q).key with
  | [] => s
  | e :: rest =>
    if !s.pqValid q || s.upUsed q == s.pqDepth q || s.wakeable then s
    else
      let why := (s.puntWhy q).headD 0
      let t := ((s.setQueue (.punt q) rest).setPuntWhy q (s.puntWhy q).tail)
      let t := t.obs 0 0x021 e.cells (tenant := some e.item.tenant) (cls := some e.dest.cls)
      if e.item.poison then (t.releaseChain e.chain).dropAt e.item (.punt q) rMalformed
      else
        let t := t.releaseChain e.chain
        let (k, n, r) := (Dest.punt q).kindNum
        let t := t.pathEnd e.item { kind := k, num := n, queue := r, verdict := 14, panel := 0, tsOut := s.mer }
        let room := s.pqSlot q - 48
        let octets := (s.slotWords q e.item why).flatMap (natLe 4) ++ e.item.data.take room
        let t := t.emitOut (.puntSlot q (s.upWr q % s.pqDepth q) octets)
        let t := ((t.bump (pqWord q 3) PUNTq_UP_WR).count (pqWord q 10)).setSlotTicks q (s.slotTicks q ++ [s.mer])
        if max 1 (s.fld (pqWord q 7) PUNTq_IRQ_THR) ≤ t.upUsed q then t.setPend q else t

/-- PUNT_TIMEOUT: the oldest unread slot has been written for IRQ_TMO µs (R489). -/
def State.puntTimeoutOp (s : State) (q : Nat) : State :=
  let tmo := s.fld (pqWord q 7) PUNTq_IRQ_TMO
  match s.slotTicks q with
  | a :: _ => if tmo ≠ 0 ∧ s.upUsed q ≠ 0 ∧ a + tmo * usTicks ≤ s.mer then s.setPend q else s
  | [] => s

/-! ### Writes of the queue's page (R486, R489, R490) -/

/-- The items waiting for an up ring are discarded (R486). -/
def State.puntFree (s : State) (q : Nat) : State :=
  let l := s.queue (Dest.punt q).key
  l.foldl (fun t e => (t.releaseChain e.chain).dropAt e.item (.punt q) rQueue) ((s.setQueue (.punt q) []).setPuntWhy q [])

/-- A write of word 0; that of a queue that serves or would serve every tenant is for PCIe and SPI alone. -/
def State.puntCfg (s : State) (i : Iface) (q : Nat) (w : Word) : State :=
  let a := PUNTq q
  let t := if i = .pcie ∨ i = .spi ∨ (!s.flag a PUNTq_ANY && !getB w PUNTq_ANY) = true then s.typedWrite i a w
    else s.hostErr SYS_HOSTERR_PUNT i a
  let same := setF (t.rd a) PUNTq_VALID 0 = setF (s.rd a) PUNTq_VALID 0
  if s.pqValid q ∧ ¬same then s.hostErr SYS_HOSTERR_PUNT i a
  else if !s.pqValid q && t.pqValid q then (State.setSlotTicks ((t.wr (pqWord q 3) 0).wr (pqWord q 6) 0) q [])
  else if s.pqValid q && !t.pqValid q then t.puntFree q
  else t

/-- A write of word 3: UP_RD, not beyond UP_WR. -/
def State.upRdWrite (s : State) (i : Iface) (q : Nat) (w : Word) : State :=
  let v := getF w PUNTq_UP_RD
  let left := (s.upWr q + 65536 - v) % 65536
  if s.upUsed q < left then s.hostErr SYS_HOSTERR_PUNT i (pqWord q 3)
  else (s.typedWrite i (pqWord q 3) w).setSlotTicks q ((s.slotTicks q).drop (s.upUsed q - left))

/-- A write of word 6: DN_WR, at most 2^DEPTH ahead of DN_RD. -/
def State.dnWrWrite (s : State) (i : Iface) (q : Nat) (w : Word) : State :=
  if s.pqDepth q < (getF w PUNTq_DN_WR + 65536 - s.dnRd q) % 65536 then s.hostErr SYS_HOSTERR_PUNT i (pqWord q 6)
  else s.typedWrite i (pqWord q 6) w

def State.puntCfgOp (s : State) (i : Iface) (q : Nat) (w : Word) : State := s.hostAccess (s.puntCfg i q w)
def State.upRdOp (s : State) (i : Iface) (q : Nat) (w : Word) : State := s.hostAccess (s.upRdWrite i q w)
def State.dnWrOp (s : State) (i : Iface) (q : Nat) (w : Word) : State := s.hostAccess (s.dnWrWrite i q w)

/-! ### Injection (R490, R491) -/

/-- Word k of a slot (R9). -/
def slotWord (o : List Byte) (k : Nat) : Nat := leNat (slice o (4 * k) 4)

/-- The reserved fields of a slot are 0 and its LEN fits (R490, R491). -/
def slotFormed (o : List Byte) (size : Nat) : Bool :=
  let n := slotWord o 0 % 2 ^ 14
  !(slotWord o 0).testBit 24 && slotWord o 1 / 2 ^ 26 == 0 && (List.range 10).all (fun k => slotWord o (k + 2) == 0) &&
    decide (14 ≤ n) && decide (n ≤ min 10240 (size - 48))

/-- The item of a slot, bound for port n. -/
def State.slotItem (s : State) (o : List Byte) (n : Nat) : Item :=
  let w := slotWord o 0
  let direct := w.testBit 31
  { Item.blank with
    data := slice o 48 (w % 2 ^ 14), tenant := bits w 23 14, stamp := s.mer, member := if direct then n + 1 else 1,
    src := if direct then 16384 * (n / 64 + 1) else n, queue := if direct ∧ w.testBit 29 then some (bits w 28 25) else none,
    tsreq := if w.testBit 30 then some (0, slotWord o 1 % 65536) else none }

/-- INJECT_SLOT: the next slot of the down ring is read; `bad`, its read ends in an error or in poisoned data. -/
def State.injectOp (s : State) (q : Nat) (o : List Byte) (bad : Bool) : State :=
  if !s.pqValid q || !s.flag (PUNTq q) PUNTq_INJ_EN || s.dnWr q == s.dnRd q || s.wakeable || !s.hostUp then s
  else
    let t := s.setFld (pqWord q 6) PUNTq_DN_RD (s.dnRd q + 1)
    if bad then (t.count (pqWord q 9)).hostErr SYS_HOSTERR_DMA .pcie (pqWord q 6)
    else
      let ten := bits (slotWord o 0) 23 14
      let n := bits (slotWord o 1) 25 16
      if !slotFormed o (s.pqSlot q) then (t.count (pqWord q 9)).dropFor ten rMalformed
      else if !s.flag (PUNTq q) PUNTq_ANY && s.fld (PUNTq q) PUNTq_TENANT != ten then t.dropFor ten rTenant
      else if !s.portEn n then t.dropFor ten rNoRoute
      else if s.portTenant n != some ten && (s.portTenant n).isSome then t.dropFor ten rTenant
      else t.parse (n / 64) (s.slotItem o n)

/-! ### Meanings -/

/-- PUNT_ITEM, R487: An item punted to a punt queue is admitted or discarded. -/
def execPuntItem (q : Nat) (s : State) : Host.Outcome State Fault Refusal := finish s (s.puntItemOp q)

/-- PUNT_SLOT_WRITE, R488: When the up ring has room, the Zalore writes the next slot and advances UP_WR. -/
def execPuntSlotWrite (q : Nat) (s : State) : Host.Outcome State Fault Refusal := finish s (s.puntSlotOp q)

/-- PUNT_TIMEOUT, R489: The oldest unread slot waiting IRQ_TMO us sets PEND. -/
def execPuntTimeout (q : Nat) (s : State) : Host.Outcome State Fault Refusal := finish s (s.puntTimeoutOp q)

/-- PUNT_CONFIG_WRITE, R486: A write of punt queue word 0 changes its configuration or VALID. -/
def execPuntConfigWrite (i : Iface) (q : Nat) (w : Word) (s : State) : Host.Outcome State Fault Refusal := finish s (s.puntCfgOp i q w)

/-- UP_RD_WRITE, R489: A host write of UP_RD returns up-ring slots. -/
def execUpRdWrite (i : Iface) (q : Nat) (w : Word) (s : State) : Host.Outcome State Fault Refusal := finish s (s.upRdOp i q w)

/-- DN_WR_WRITE, R490: A host write of DN_WR offers down-ring slots. -/
def execDnWrWrite (i : Iface) (q : Nat) (w : Word) (s : State) : Host.Outcome State Fault Refusal := finish s (s.dnWrOp i q w)

/-- INJECT_SLOT, R491: The Zalore reads an injection slot and judges it into an item or a discard. -/
def execInjectSlot (q : Nat) (slot : List Byte) (bad : Bool) (s : State) : Host.Outcome State Fault Refusal := finish s (s.injectOp q slot bad)


end Sys2Proof.Machine
end

