-- ==== Sys2Proof/Machine/Span.lean ====
section
/-! DEFINITION. The bridge's queues, frames, retries, failures and prefetch: spec/15 R499 to R505. -/

namespace Sys2Proof.Machine

/-! ### Windows (R499) -/

/-- Window of a host address of the bridge region, and the offset in it. -/
def brWin (a : Nat) : Nat := (a - 0x10000000) / 2 ^ 22 % 64
def brOff (a : Nat) : Nat := a % 2 ^ 22
def State.brValid (s : State) (w : Nat) : Bool := s.flag (BRDG_WINw w) BRDG_WINw_VALID
def State.brTwin (s : State) (w : Nat) : Bool := s.flag (BRDG_WINw w) BRDG_WINw_KIND
def State.brAtt (s : State) (w : Nat) : Nat := s.fld (BRDG_WINw w) BRDG_WINw_ATT
/-- Remote byte address of a host address. -/
def State.brRemote (s : State) (a : Nat) : Nat := 2 ^ 22 * s.fld (BRDG_WINw (brWin a) + 4) BRDG_WINw_REMOTE_BASE + brOff a

/-- Operations of an interface outstanding on the bridge. -/
def State.brCount (s : State) (k : Nat) : Nat := (s.hs.ops.filter (fun o => o.iface == k)).length
/-- The operation that an interface performs or performs next. -/
def State.brHead (s : State) (k : Nat) : Option BrOp := s.hs.ops.find? (fun o => o.iface == k)
def State.setOps (s : State) (l : List BrOp) : State := { s with hs := { s.hs with ops := l } }
/-- The oldest operation of an interface as y. -/
def brPut (k : Nat) (y : Option BrOp) : List BrOp → List BrOp
  | [] => []
  | o :: l => if o.iface = k then (match y with | some x => x :: l | none => l) else o :: brPut k y l

/-! ### Prefetch buffers (R503) -/

/-- Discard the buffers of a window. -/
def State.pfDropWin (s : State) (w : Nat) : State := { s with hs := { s.hs with pf := s.hs.pf.filter (fun p => p.2.win != w) } }
/-- Discard an interface's buffer. -/
def State.pfDrop (s : State) (k : Nat) : State := { s with hs := { s.hs with pf := s.hs.pf.filter (fun p => p.1 != k) } }
/-- An interface's buffer, until 100 µs after its fetch. -/
def State.pfBuf (s : State) (k : Nat) : Option PfBuf :=
  match s.hs.pf.find? (fun p => p.1 == k) with
  | some p => if p.2.at_ + 100 * usTicks ≤ s.mer then none else some p.2
  | none => none
/-- Words of a read that an interface's buffer holds. -/
def State.pfHit (s : State) (o : BrOp) : Option (List Word) :=
  match s.pfBuf o.iface with
  | some p =>
    if p.win = brWin o.addr ∧ p.off ≤ brOff o.addr ∧ brOff o.addr + 4 * o.count ≤ p.off + 4 * p.words.length then
      some ((p.words.drop ((brOff o.addr - p.off) / 4)).take o.count)
    else none
  | none => none

/-- The most words that a read may fetch: its own, or up to PF_HI where it lies in the prefetch range. -/
def State.brReach (s : State) (o : BrOp) : Nat :=
  let b := BRDG_WINw (brWin o.addr)
  let lo := s.fld (b + 8) BRDG_WINw_PF_LO
  let hi := s.fld (b + 12) BRDG_WINw_PF_HI
  if s.flag b BRDG_WINw_PF_EN ∧ lo ≤ brOff o.addr ∧ brOff o.addr + 4 * o.count ≤ hi then max o.count (min 64 ((hi - brOff o.addr) / 4))
  else o.count

/-! ### Frames (R500, R501) -/

/-- TAG of an operation. -/
def brTag (o : BrOp) : Nat := 2 ^ 14 * o.iface + o.seq
def wordBe (w : Word) : List Byte := natBe 4 w.toNat

/-- The request frame of an operation, from octet 0. -/
def State.brRequest (s : State) (o : BrOp) : List Byte :=
  natBe 1 0xB1 ++ natBe 1 (if o.write then 2 else 1) ++ natBe 2 (brTag o) ++ natBe 4 (s.brRemote o.addr) ++
    natBe 2 (if o.write then o.data.length else o.fetch) ++ natBe 6 0 ++ (if o.write then o.data.flatMap wordBe else [])

/-- A bridge frame goes to the control queue of an attachment's port. -/
def State.brFrame (s : State) (att : Nat) (p : List Byte) : State :=
  let n := s.fld (ATTACH att) ATTACH_PORT
  let w := s.rd (ATTACH att + 24)
  let tag := if getB w ATTACH_TAG then tagOctets (s.portTpid n) (getF w ATTACH_PCP) false (getF w ATTACH_VID) else []
  let d := natBe 6 (s.attDa att) ++ nodeMac s.nodeNumber ++ tag ++ natBe 2 (s.fld BRDG_ETYPE BRDG_ETYPE_ETYPE) ++ p
  let it : Item := { Item.blank with
    data := d, tagged := getB w ATTACH_TAG, pcp := getF w ATTACH_PCP, tenant := (s.portTenant n).getD 1024, stamp := s.mer,
    vid := if getB w ATTACH_TAG then getF w ATTACH_VID else s.portPvid n, src := n, ctl := true }
  s.queueOne it (.port n 16)

/-! ### The queue of an interface (R502, R504) -/

/-- The far side can be reached: the Seam is up, or the attachment's port link is. -/
def State.brReachable (s : State) (w : Nat) : Bool :=
  if s.brTwin w then s.seamUp
  else
    let a := s.brAtt w
    s.flag (ATTACH a) ATTACH_VALID && s.flag (PORT_STATn (s.fld (ATTACH a) ATTACH_PORT)) PORT_STATn_LINK

/-- An interface's oldest operation ends with a CAUSE, 0 for success. -/
def State.brEnd (s : State) (o : BrOp) (cause : Nat) (ws : List Word) : State :=
  let s := s.setOps (brPut o.iface none s.hs.ops)
  let s :=
    if cause = 0 then s
    else
      let t := s.bumpSat BRDG_ECNT BRDG_ECNT_FAILS
      if t.flag BRDG_STAT BRDG_STAT_ERR then t
      else
        State.wr ((((t.setFld BRDG_STAT BRDG_STAT_ERR 1).setFld BRDG_STAT BRDG_STAT_IFACE o.iface).setFld BRDG_STAT
          BRDG_STAT_CAUSE cause).setFld BRDG_STAT BRDG_STAT_WINDOW (brWin o.addr)) BRDG_EADDR (BitVec.ofNat 32 o.addr)
  s.emitOut (.bridgeEnd o.iface o.addr cause (if cause = 0 ∨ o.write then ws else List.replicate o.count 0xFFFFFFFF))

/-- Send an interface's oldest operation, once more under the same TAG. -/
def State.brSend (s : State) (o : BrOp) : State :=
  let w := brWin o.addr
  let t := s.setOps (brPut o.iface (some { o with tries := o.tries + 1, sentAt := s.mer }) s.hs.ops)
  if s.brTwin w then (t.count (SEAM_CNTc 6)).emitOut (.bridge none (s.brRequest o)) else t.brFrame (s.brAtt w) (s.brRequest o)

/-- Start an interface's oldest operation; one that ends at once makes room for the next, k in all. -/
def State.brStart (s : State) (i : Nat) : Nat → State
  | 0 => s
  | k + 1 =>
    match s.brHead i with
    | none => s
    | some o =>
      if 0 < o.tries then s
      else
        let w := brWin o.addr
        let s := if o.write then s.pfDropWin w else s
        if !s.brValid w || !s.flag BRDG_CTRL BRDG_CTRL_EN then (s.brEnd o 1 []).brStart i k
        else
          match (if o.write then none else s.pfHit o) with
          | some ws => (s.brEnd o 0 ws).brStart i k
          | none =>
            let s := if o.write then s else s.pfDrop i
            if !s.brReachable w then (s.brEnd o 6 []).brStart i k
            else
              let (v, s) := if o.write ∨ s.brReach o ≤ o.count then (0, s) else s.takeFree
              let n := Sparse.get (fun _ => 0) s.hs.seqs i
              let s : State := { s with hs := { s.hs with seqs := Sparse.set (fun _ => 0) s.hs.seqs i ((n + 1) % 2 ^ 14) } }
              s.brSend { o with seq := n, fetch := o.count + v % (s.brReach o - o.count + 1) }

/-- Operations not started fail once BRDG_CTRL.EN is 0. -/
def State.brStopped (s : State) : State :=
  if s.flag BRDG_CTRL BRDG_CTRL_EN then s
  else
    let l := s.hs.ops.filter (fun o => o.tries == 0)
    l.foldl (fun t o => (t.brEnd o 1 []).setOps (t.hs.ops.erase o)) s

/-- An operation enters the queue of its interface. While 64 are outstanding it waits outside. -/
def State.brEnter (s : State) (i : Iface) (write : Bool) (a : Nat) (ws : List Word) (n : Nat) : State :=
  let a := a / 4 * 4
  let k := ifaceNum i
  if 3 ≤ k ∨ n = 0 ∨ 64 < n ∨ a < 0x10000000 ∨ 0x20000000 < a + 4 * n ∨ brWin a ≠ brWin (a + 4 * n - 4) ∨ 64 ≤ s.brCount k then s
  else
    let o : BrOp := { iface := k, write := write, addr := a, data := if write then ws else [], count := n, fetch := n, seq := 0,
                      tries := 0, sentAt := 0 }
    let s := if write then s.pfDropWin (brWin a) else s
    (s.setOps (s.hs.ops ++ [o])).brStart k 64

/-- TMO, from 10 to 50,000 µs. -/
def State.brTmo (s : State) : Nat := max 10 (min 50000 (s.fld BRDG_CTRL BRDG_CTRL_TMO))

/-- The next attempt of an operation, or its end with a cause and the words applied after the last. -/
def State.brAgain (s : State) (o : BrOp) (cause : Nat) (ws : List Word) : State :=
  if 1 + s.fld BRDG_CTRL BRDG_CTRL_RETRY ≤ o.tries then (s.brEnd o cause ws).brStart o.iface 64
  else if !s.brReachable (brWin o.addr) then (s.brEnd o 6 []).brStart o.iface 64
  else s.brSend o

/-- BRIDGE_TIMEOUT: TMO µs without a response to an interface's operation. -/
def State.brTimeoutOp (s : State) (i : Nat) : State :=
  match s.brHead i with
  | some o => if 0 < o.tries ∧ o.sentAt + s.brTmo * usTicks ≤ s.mer then s.brAgain o 2 [] else s
  | none => s

/-- The words of a READ response, and those past the first `n` as the interface's prefetch buffer. -/
def State.brRead (s : State) (o : BrOp) (p : List Byte) : State :=
  let ws : List Word := (List.range o.fetch).map (fun k => BitVec.ofNat 32 (beAt p (16 + 4 * k) 4))
  let s : State :=
    if o.fetch ≤ o.count then s
    else
      let b : PfBuf := { win := brWin o.addr, off := brOff o.addr + 4 * o.count, words := ws.drop o.count, at_ := s.mer }
      { s with hs := { s.hs with pf := (o.iface, b) :: s.hs.pf.filter (fun x => x.1 != o.iface) } }
  (s.brEnd o 0 (ws.take o.count)).brStart o.iface 64

/-- A response whose TAG is outstanding (R500, R502, R504). -/
def State.brTake (s : State) (o : BrOp) (p : List Byte) : State :=
  let st := oct p 10
  let n := if o.write then o.data.length else o.fetch
  let same := oct p 1 == (if o.write then 0x82 else 0x81) && beAt p 4 4 == s.brRemote o.addr && beAt p 8 2 == n
  let applied : List Word := if o.write then o.data.take (beAt p 12 2) else []
  if p.length < 16 ∨ !same ∨ 3 < st ∨ (!o.write ∧ st = 0 ∧ p.length < 16 + 4 * n) then (s.brEnd o 7 []).brStart o.iface 64
  else if st = 0 then (if o.write then (s.brEnd o 0 o.data).brStart o.iface 64 else s.brRead o p)
  else if st = 1 then (s.brEnd o 3 applied).brStart o.iface 64
  else if st = 2 then (s.brEnd o 4 applied).brStart o.iface 64
  else s.brAgain o 5 applied

/-- The operation outstanding under a TAG, towards the twin or an expander. -/
def State.brMatch (s : State) (twin : Bool) (p : List Byte) : Option BrOp :=
  match s.brHead (beAt p 2 2 / 2 ^ 14) with
  | some o => if 0 < o.tries ∧ o.seq = beAt p 2 2 % 2 ^ 14 ∧ s.brTwin (brWin o.addr) = twin then some o else none
  | none => none

/-- BRIDGE_RESPONSE: from the twin, where `twin` carries it, or else the oldest frame that was recognised. -/
def State.brResponseOp (s : State) (twin : Option (List Byte)) : State :=
  match twin with
  | some p =>
    if !s.seamUp || oct p 0 != 0xB1 then s
    else
      match s.brMatch true p with
      | some o => s.brTake o p
      | none => s
  | none =>
    match s.hs.brIn with
    | [] => s
    | it :: rest =>
      let s : State := { s with hs := { s.hs with brIn := rest } }
      let p := it.data.drop (it.etherOff + 2)
      match s.brMatch false p with
      | some o =>
        let a := s.brAtt (brWin o.addr)
        if it.src = s.fld (ATTACH a) ATTACH_PORT ∧ it.sa = s.attDa a then s.brTake o p
        else s.bumpSat BRDG_ECNT BRDG_ECNT_DROP
      | none => s.bumpSat BRDG_ECNT BRDG_ECNT_DROP

/-- PREFETCH_EXPIRY: 100 µs after the fetch of an interface's buffer. -/
def State.pfExpiryOp (s : State) (i : Nat) : State :=
  match s.hs.pf.find? (fun p => p.1 == i) with
  | some p => if p.2.at_ + 100 * usTicks ≤ s.mer then s.pfDrop i else s
  | none => s

/-! ### Meanings -/

/-- BRIDGE_TIMEOUT, R504: TMO without a response retries or fails the operation. -/
def execBridgeTimeout (k : Nat) (s : State) : Host.Outcome State Fault Refusal := finish s (s.brTimeoutOp k)

/-- BRIDGE_RESPONSE, R501: A bridge response is accepted and completes its operation. -/
def execBridgeResponse (twin : Option (List Byte)) (s : State) : Host.Outcome State Fault Refusal := finish s (s.brResponseOp twin)

/-- PREFETCH_EXPIRY, R503: The prefetch buffer is discarded 100 us after its fetch. -/
def execPrefetchExpiry (k : Nat) (s : State) : Host.Outcome State Fault Refusal := finish s (s.pfExpiryOp k)


end Sys2Proof.Machine
end

