-- ==== Sys2Proof/Machine/Host.lean ====
section
/-! DEFINITION. Register accesses through the host interfaces, bit aliases, interrupts, SPI transactions, PCIe resets and
mailboxes: spec/15 R474 to R485, R493 to R498, spec/17 R544 and R560, spec/18 R572 and R574, spec/20 R629. -/

namespace Sys2Proof.Machine

/-! ### Interrupts and locks (R480, R484) -/

/-- SYS_IRQ_REARM: a further message for each written source whose level and enable are both 1. -/
def State.rearm (s : State) (w : Word) : State := s.sendSources (getF w SYS_IRQ_REARM_REARM &&& s.irqNow)

/-- Every LOCK of R480. -/
def lockBits : List (Nat × Fld) :=
  [(SYS_CTRL, SYS_CTRL_LOCK), (PACE_CTRL, PACE_CTRL_LOCK), (TIME_CTRL, TIME_CTRL_LOCK), (LOOM_GCTRL, LOOM_GCTRL_LOCK),
   (VBUS_GCTRL, VBUS_GCTRL_LOCK), (PORT_GCTRL, PORT_GCTRL_LOCK), (CIPH_CTRL, CIPH_CTRL_LOCK), (KEYS_CTRL, KEYS_CTRL_LOCK),
   (SEAM_CTRL, SEAM_CTRL_LOCK), (PANEL_STCTRL, PANEL_STCTRL_LOCK), (CORE_CTRL, CORE_CTRL_LOCK),
   (CORE_TBLCTRL, CORE_TBLCTRL_LOCK), (BRDG_CTRL, BRDG_CTRL_LOCK), (THIM_CTRL, THIM_CTRL_LOCK), (OBS_CTRL, OBS_CTRL_LOCK),
   (ECC_CTRL, ECC_CTRL_LOCK)]

def State.lockAll (s : State) : State := lockBits.foldl (fun t l => t.setFld l.1 l.2 1) s

/-- A write of SYS_CTRL. -/
def State.sysCtrlWrite (s : State) (i : Iface) (w : Word) : State :=
  let t := s.typedWrite i SYS_CTRL w
  if getB w SYS_CTRL_LOCKALL then t.lockAll else t

/-- LOCKALL and IRQ_REARM. -/
def State.lockAllOp (s : State) (i : Iface) (w : Word) : State :=
  if getB w SYS_CTRL_LOCKALL then s.hostAccess (s.sysCtrlWrite i w) else s
def State.irqRearmOp (s : State) (_i : Iface) (w : Word) : State := s.hostAccess (s.rearm w)

/-! ### Mailboxes (R458, R498) -/

/-- The mailbox of an interface: 0 PCIe, 1 SPI. -/
def mailboxOf : Iface → Option Nat
  | .pcie => some 0
  | .spi => some 1
  | _ => none

/-- The first n octets of a request buffer. -/
def State.mbOctets (s : State) (k n : Nat) : List Byte :=
  (List.range n).map (fun j => BitVec.ofNat 8 ((s.rd (THIM_MBREQ k (j / 4))).toNat >>> (8 * (j % 4))))

/-- A mailbox request ends without a response. -/
def State.mbNoResp (s : State) (k : Nat) : State :=
  if 1 < k then s else (s.setFld (THIM_MBCTLk k) THIM_MBCTLk_BUSY 0).setFld (THIM_MBCTLk k) THIM_MBCTLk_NORESP 1

/-- A write of THIM_MBCTLk; one through another interface is ignored. -/
def State.mbCtlWrite (s : State) (i : Iface) (k : Nat) (w : Word) : State :=
  let a := THIM_MBCTLk k
  if mailboxOf i ≠ some k then s
  else
    let held := s.flag a THIM_MBCTLk_BUSY || s.flag a THIM_MBCTLk_RESP
    let t := s.typedWrite i a w
    let t := if getB w THIM_MBCTLk_RELEASE then (t.setFld a THIM_MBCTLk_RESP 0).setFld a THIM_MBCTLk_NORESP 0 else t
    if !getB w THIM_MBCTLk_SUBMIT then t
    else if held then t.setFld THIM_MBEVT THIM_MBEVT_MBX_ERR 1
    else
      let n := getF w THIM_MBCTLk_LEN
      if n < 16 ∨ 1056 < n then (t.oapCount 0).mbNoResp k
      else
        let t := (t.setFld a THIM_MBCTLk_BUSY 1).setFld a THIM_MBCTLk_NORESP 0
        { t with oap := { t.oap with mbReq := t.oap.mbReq ++ [(k, t.mbOctets k n, s.mer)] } }

/-- MAILBOX_SUBMIT and MAILBOX_RELEASE: the two kinds of write of THIM_MBCTLk. -/
def State.mbSubmitOp (s : State) (i : Iface) (w : Word) : State :=
  match mailboxOf i with
  | some k => if getB w THIM_MBCTLk_SUBMIT then s.thimAccess (s.mbCtlWrite i k w) else s
  | none => s
def State.mbReleaseOp (s : State) (i : Iface) (w : Word) : State :=
  match mailboxOf i with
  | some k => if getB w THIM_MBCTLk_RELEASE && !getB w THIM_MBCTLk_SUBMIT then s.thimAccess (s.mbCtlWrite i k w) else s
  | none => s

/-- MAILBOX_RESPONSE: the response is in the response buffer. -/
def State.mbResponseOp (s : State) (k : Nat) : State :=
  match s.oap.mbResp.find? (fun r => r.1 == k) with
  | none => s
  | some r =>
    let a := THIM_MBCTLk k
    let s : State := { s with oap := { s.oap with mbResp := s.oap.mbResp.erase r } }
    if !s.flag a THIM_MBCTLk_BUSY then s
    else
      let t := (List.range ((r.2.length + 3) / 4)).foldl
        (fun t j => t.wr (THIM_MBRESP k j) (BitVec.ofNat 32 (leNat (slice r.2 (4 * j) 4)))) s
      let t := ((t.setFld a THIM_MBCTLk_BUSY 0).setFld a THIM_MBCTLk_RESP 1).setFld (THIM_MBRLENk k) THIM_MBRLENk_RLEN r.2.length
      t.setFld THIM_MBEVT (if k = 0 then THIM_MBEVT_RESP0 else THIM_MBEVT_RESP1) 1

/-! ### Writes of the control region -/

/-- A write of the SYS block. -/
def State.sysWrite (s : State) (i : Iface) (a : Nat) (w : Word) : State :=
  if a = SYS_CTRL then s.sysCtrlWrite i w
  else if a = SYS_IRQ_REARM then s.rearm w
  else if a = SYS_PWR_CTRL then s.pwrCtrlWrite i w
  else if a = SYS_PWR_CAUSE then
    let t := s.typedWrite i a w
    if getF w SYS_PWR_CAUSE_SRC = 0 then t else t.setFld a SYS_PWR_CAUSE_FIRST 0
  else if 0x4000 ≤ a ∧ a < 0x8000 then
    let q := (a - 0x4000) / 64
    match (a - 0x4000) % 64 / 4 with
    | 0 => s.puntCfg i q w
    | 3 => s.upRdWrite i q w
    | 6 => s.dnWrWrite i q w
    | 7 =>
      let t := s.typedWrite i a w
      if max 1 (t.fld a PUNTq_IRQ_THR) ≤ t.upUsed q ∧ t.upUsed q < max 1 (s.fld a PUNTq_IRQ_THR) then t.setPend q else t
    | _ => s.typedWrite i a w
  else s.typedWrite i a w

/-- A write of the PACE or TIME block. -/
def State.timeWrite (s : State) (i : Iface) (a : Nat) (w : Word) : State :=
  if a = PACE_VCMD then s.vcmdWriteOp i w
  else if a = PACE_VLIM then s.limitWriteOp i true w
  else if a = PACE_THRESH then s.limitWriteOp i false w
  else if a = PACE_EVT then s.paceEvtOp i w
  else if a = TIME_DCMD then
    match getF w TIME_DCMD_CMD with
    | 1 => s.datumCommitOp (.regs i)
    | 2 => s.datumCancelOp (.regs i)
    | 3 => s.datumFetchOp i
    | _ => s
  else if 0x38000 ≤ a ∧ a < 0x3C000 ∧ a % 16 = 4 ∧ s.flag a TIME_PLINKn_AUTO ∧ s.gptpPort ((a - 0x38000) / 16) then
    s.typedWrite i a (setF w TIME_PLINKn_LINK_DLY (s.fld a TIME_PLINKn_LINK_DLY))
  else s.typedWrite i a w

/-- A write of the LOOM block. -/
def State.loomWrite (s : State) (i : Iface) (a : Nat) (w : Word) : State :=
  if a = LOOM_MDIO then s.mdioWrite i w
  else if 0x41000 ≤ a ∧ a < 0x45000 then
    let c := (a - 0x41000) / 256
    match (a - 0x41000) % 256 with
    | 0x00 => (s.chanCfg i c w).2
    | 0x04 => (s.chanTiming i c a w).2
    | 0x08 => (s.chanTiming i c a w).2
    | 0x0C => (s.chanTiming i c a w).2
    | 0x10 => (s.chanTiming i c a w).2
    | 0x14 => s.trxWrite i c w
    | 0x18 => (s.chanWake i c w).2
    | 0x30 => s.chRecover c w
    | 0x38 => s.chEvtWrite i c w
    | 0x3C => s.rxRelease c w
    | _ => s.typedWrite i a w
  else if 0x46000 ≤ a ∧ a < 0x47000 ∧ (a - 0x46000) % 256 = 0 then (s.plcaCfg i ((a - 0x46000) / 256) w).2
  else if 0x47000 ≤ a ∧ a < 0x47200 ∧ (a - 0x47000) % 256 < 0x30 ∧ (regDesc? a).isSome then s.mbWrite i a w
  else s.typedWrite i a w

/-- A write of the VBUS block. -/
def State.vbusWrite (s : State) (i : Iface) (a : Nat) (w : Word) : State :=
  if a < 0x81000 ∨ 0xC1000 ≤ a then s.typedWrite i a w
  else
    let v := (a - 0x81000) / 64
    match (a - 0x81000) % 64 with
    | 0x00 => (s.vbCfg i v w).2
    | 0x04 => (s.vbHeldWrite i v a w).2
    | 0x08 => (s.vbHeldWrite i v a w).2
    | 0x0C => (s.vbHeldWrite i v a w).2
    | 0x10 => (s.vbHeldWrite i v a w).2
    | 0x14 => (s.vbHeldWrite i v a w).2
    | 0x18 => (s.vbWakeWrite i v w).2
    | 0x1C => s.vbRuleWrite i v a w
    | 0x20 => s.vbRuleWrite i v a w
    | 0x24 => s.vbRuleWrite i v a w
    | 0x28 => s.vbRuleWrite i v a w
    | 0x2C => s.vbRuleWrite i v a w
    | 0x30 => s.vbSleepWrite i v w
    | 0x38 => s.vbEvtWrite i v w
    | _ => s.typedWrite i a w

/-- A write of the PORT block; the pages of the other lanes of an enabled port ignore it (R115). -/
def State.portWrite (s : State) (i : Iface) (a : Nat) (w : Word) : State :=
  if 0x310000 ≤ a then s.typedWrite i a w
  else
    let n := (a - 0x300000) / 64
    if s.portShadowed n then s
    else
      match (a - 0x300000) % 64 with
      | 0x00 => (s.portCfg i n w).2
      | 0x24 => s.preWrite i n w
      | 0x28 => s.gctlWrite i n w
      | _ => s.typedWrite i a w

/-- A write of the CORE block. -/
def State.coreWrite (s : State) (i : Iface) (a : Nat) (w : Word) : State :=
  if a = CORE_BOBCMD then
    if getF w CORE_BOBCMD_OP = 0 ∨ getF w CORE_BOBCMD_OP = 7 then s else s.bobCmdReg (getF w CORE_BOBCMD_OP) (getF w CORE_BOBCMD_BOBBIN)
  else if a = CORE_STACMD then s.staWrite w
  else if a = CORE_LPMCMD then s.lpmWrite i w
  else if a = CORE_TBLFENCE then s.fenceWrite w
  else s.typedWrite i a w

/-- A write of the CIPH, KEYS or SEAM block. -/
def State.cipherWrite (s : State) (i : Iface) (a : Nat) (w : Word) : State :=
  if 0x380100 ≤ a ∧ a < 0x380180 then s.laneEnableOp i ((a - 0x380100) / 4) w
  else if a = KEYS_KUMCMD0 then (if i = .pcie then s.kumSubmitOp i w [] else s)
  else if a = KEYS_KUMCMD1 then (if i = .spi then s.kumSubmitOp i w [] else s)
  else if a = SEAM_CTRL then s.seamCtrlWrite i w
  else if a = SEAM_CMD then s.seamCmdWrite w
  else s.typedWrite i a w

/-- A write of the THIM block. -/
def State.thimWrite (s : State) (i : Iface) (a : Nat) (w : Word) : State :=
  if a = THIM_MBCTLk 0 then s.mbCtlWrite i 0 w
  else if a = THIM_MBCTLk 1 then s.mbCtlWrite i 1 w
  else if 0x441000 ≤ a ∧ a < 0x443000 then
    if mailboxOf i = some ((a - 0x441000) / 4096) then s.typedWrite i a w else s
  else if a = THIM_IMGCTL then
    if s.flag a THIM_IMGCTL_BUSY then s
    else
      let t := s.typedWrite i a w
      match getF w THIM_IMGCTL_OP with
      | 1 => t.imgStore
      | 2 => t.activateOp 1 true none
      | 3 => t.discardOp true
      | 4 => t.activateSkipOp true
      | _ => t
  else s.typedWrite i a w

/-- The observation level that gates a register or window word (R560, R578 to R595). -/
def obsNeed (a : Nat) : Nat :=
  if a < 0x340200 then 0
  else if a < 0x34021C then 2
  else if a < 0x480010 then 0
  else if a < 0x480040 then 1
  else if a < 0x480070 then 2
  else if a < 0x6000000 then 0
  else if a < 0x6010000 then 2
  else if a < 0x6200000 then 0
  else if a < 0x6300000 then 1
  else 0

/-- A write of the OBS, ECC or BRDG block. A write of a window's entry discards the prefetch buffers of the window (R503). -/
def State.obsWrite (s : State) (i : Iface) (a : Nat) (w : Word) : State :=
  if a = OBS_SNAPCTL then s.snapWrite i w
  else if a = OBS_TRCTL then s.trctlWrite i w
  else if a = ECC_EVT then s.eccEvtWrite i w
  else if a = BRDG_STAT then
    if getB w BRDG_STAT_ERR then s.wr a 0 else s
  else if a = BRDG_CTRL then (s.typedWrite i a w).brStopped
  else if 0x500100 ≤ a ∧ a < 0x500500 then
    (s.typedWrite i a w).pfDropWin ((a - 0x500100) / 16)
  else s.typedWrite i a w

/-! ### Writes of table windows and engine memories -/

/-- The key of a heap window's word in the heap: die · 2^27 + word (PANEL_HEAPWIN). -/
def State.heapWord (s : State) (a : Nat) : Nat :=
  2 ^ 27 * s.fld PANEL_HEAPWIN PANEL_HEAPWIN_STACK + 2 ^ 18 * s.fld PANEL_HEAPWIN PANEL_HEAPWIN_WIN + (a - HEAP_WINDOW 0) / 4

/-- The class-4 octet of a heap word (R570). -/
def heapOctet (k : Nat) : Nat := k / 2 ^ 27 * 2 ^ 35 + 4 * (k % 2 ^ 27)

/-- A write of a staged word, a commit word or any other word of the table-window region, through an interface; `who`: the
staging copy it uses, the interface's or an OAP session's (R249). -/
def State.windowWrite (s : State) (i : Iface) (who a : Nat) (w : Word) : State :=
  if (0xD00000 ≤ a ∧ a < 0xE00000) then
    let v := (a - 0xD00000) / 256
    if a % 16 = 4 then s.memRecover v ((a - 0xD00000) % 256 / 16) w else ((s.vbHeldWrite i v a w).2).wordsStored a 1
  else if 0xE30000 ≤ a ∧ a < 0xE50000 then (s.vbHeldWrite i ((a - 0xE30000) / 32) a w).2
  else if ownerTable a ≠ 0 then (s.ownerWrite i a w).2.wordsStored a 1
  else if 0x1800000 ≤ a ∧ a < 0x1805100 then (s.pageBaseWrite i a w).2.wordsStored a 1
  else if 0x1820000 ≤ a ∧ a < 0x1828000 then (s.tenantWrite i a w).2.wordsStored a 1
  else if 0x8000000 ≤ a ∧ a < 0x8800000 then (s.imemWrite ((a - 0x8000000) / 65536) ((a - 0x8000000) % 65536 / 4) w).2
  else if 0xA400000 ≤ a ∧ a < 0xA800000 then
    let q := (a - 0xA400000) / 4096
    let o := (a - 0xA400000) % 4096
    if o < 128 then s.stageWord who a w
    else if o = 0x104 then s.hostPut i q w
    else if o = 0x108 then s.hostCtrl i q (getF w SQ_CTRL_OP)
    else s.typedWrite i a w
  else if 0xB000000 ≤ a ∧ a < 0xB100000 then
    let k := s.heapWord a
    State.memWrote (s.heapWrite k w) 4 (heapOctet k) 4
  else
    match stagedEntry? a with
    | some (d, base, k) =>
      if k ≠ d.commit then s.tableStage who a w
      else if d.base = 0x0A000000 then (s.progCommit who ((base - d.base) / 64) w).2
      else if d.base = 0x0A100000 then (s.sqCommit who ((base - d.base) / 32) w).2
      else if d.base = 0x0A200000 then s.freshCommit who ((base - d.base) / 16) w
      else (s.tableCommit who a w).2
    | none =>
      -- a shaper's credit is brought up under its old slope first (R128)
      let s := if 0xB00000 ≤ a ∧ a < 0xB10000 then s.portSync ((a - 0xB00000) / 64) else s
      (s.typedWrite i a w).wordsStored a 1

/-- The class of a window word is not initialised yet (R574). -/
def State.notReady (s : State) (a : Nat) : Bool :=
  match (if 0xB000000 ≤ a ∧ a < 0xB100000 then some 4 else if 0x800000 ≤ a then winClass a else none) with
  | some c => c != 1 && !(s.fld ECC_INIT ECC_INIT_DONE).testBit c
  | none => false

/-! ### Stored objects (R521, R523) -/

/-- The bits of a word that stored objects show. -/
def State.storedBits (s : State) (a : Nat) : Nat :=
  let en := if s.autostart then 2 ^ 31 else 0
  let all := 2 ^ 32 - 1
  if 0x300000 ≤ a ∧ a < 0x310000 then (if a % 64 = 0 then en + 0x3FFC07FF else if a % 64 = 16 then all else 0)
  else if 0x41000 ≤ a ∧ a < 0x45000 then
    (if a % 256 = 0 then en + 0x7FFFFFFF else if a % 256 = 0x18 ∨ a % 256 = 0x1C then all else 0)
  else if 0x46000 ≤ a ∧ a < 0x47000 then (if a % 256 = 0 then en + 0x7FF else if a % 256 = 4 then all else 0)
  else if 0x81000 ≤ a ∧ a < 0xC1000 then
    (if a % 64 = 0 then en + 0x7FFF87FF else if a % 64 ≤ 16 ∨ a % 64 = 0x18 ∨ a % 64 = 0x1C then all else 0)
  else if a = SEAM_CTRL ∨ a = SEAM_ASYM ∨ a = CIPH_CTRL ∨ a = THIM_THERM ∨ a = SYS_PWR_WAKE ∨ a = SYS_PWR_LOOMSRC0 ∨
    a = SYS_PWR_LOOMSRC1 ∨ a = SYS_PWR_TIMER ∨ a = CORE_BOBCFG ∨ a = OBS_TAGCTL ∨ a = OBS_TRCTL ∨ a = OBS_COAL ∨
    a = OBS_TRPORT ∨ a = OBS_TRDA_HI ∨ a = OBS_TRDA_LO then all - bit (a = SEAM_CTRL ∨ a = CIPH_CTRL) * 2 ^ 31
  else if a = CORE_CTRL then 0x30000000
  else if a = PANEL_STCTRL then 2 ^ 31 - 1
  else if a = OBS_SNAPCTL then 0xFFFFF
  else if a = SYS_PWR_CTRL then 0xFFFF
  else if 0x180 ≤ a ∧ a < 0x200 then all
  else if 0x341000 ≤ a ∧ a < 0x342000 then (if a % 256 < 16 then all else if a % 256 = 0x18 then 0xFFFF else 0)
  else if 0x340100 ≤ a ∧ a < 0x340180 then all
  else if 0x350300 ≤ a ∧ a < 0x350380 then all
  else if 0x380100 ≤ a ∧ a < 0x380180 then 2 ^ 31
  else if 0x4403C0 ≤ a ∧ a < 0x4403E0 then all
  else if 0x4C0100 ≤ a ∧ a < 0x4C01E0 then (if a % 32 = 0 then all else if a % 32 = 28 then 0xFFFF0000 else 0)
  else if 0xB80000 ≤ a ∧ a < 0xB82100 then all
  else if 0xD00000 ≤ a ∧ a < 0xE00000 then (if a % 16 = 0 then all else 0)
  else if 0xE00000 ≤ a ∧ a < 0xE08400 then all
  else if 0x1820000 ≤ a ∧ a < 0x1828000 then (if a % 32 = 8 ∨ a % 32 = 28 then 0 else all)
  else if 0x1828000 ≤ a ∧ a < 0x182A000 then (if a % 8 = 0 then all else 0)
  else 0

/-- A stored object that words from a on show has changed between s and t. -/
def State.noteStored (s t : State) (a : Nat) : State :=
  if (List.range 8).any (fun k => ((s.rd (a + 4 * k)).toNat ^^^ (t.rd (a + 4 * k)).toNat) &&& t.storedBits (a + 4 * k) != 0)
  then t.markDirty else t

/-! ### Poisoned register pages (R572) -/

/-- Give a page of n words its reset values. -/
def State.pageReset (s : State) (base n : Nat) : State :=
  (List.range n).foldl (fun t k => t.wr (base + 4 * k) (regReset (base + 4 * k))) s

/-- A register page, or Thimble SRAM, holds a poison-tagged word: the page takes its reset values and its unit stops as
its stop command would stop it. -/
def State.pageLost (s : State) (a : Nat) : State :=
  let off (f : Fld) (x : Nat) : Word := setF (s.rd x) f 0
  if 0x80000000 ≤ a then s.safeEntry 3
  else if 0x4000 ≤ a ∧ a < 0x8000 then
    let q := (a - 0x4000) / 64
    (((if s.pqValid q then s.puntFree q else s).setSlotTicks q []).pageReset (0x4000 + 64 * q) 12).log 572 1 [a]
  else if 0x41000 ≤ a ∧ a < 0x45000 then
    let c := (a - 0x41000) / 256
    ((s.chanCfg .thimble c (off LCn_CFG_EN (LCn_CFG c))).2.pageReset (LCn_CFG c) 12).log 572 1 [a]
  else if 0x46000 ≤ a ∧ a < 0x47000 then
    let m := (a - 0x46000) / 256
    ((s.plcaCfg .thimble m (off PCm_CFG_EN (PCm_CFG m))).2.pageReset (PCm_CFG m) 5).log 572 1 [a]
  else if 0x81000 ≤ a ∧ a < 0xC1000 then
    let v := (a - 0x81000) / 64
    ((s.vbCfg .thimble v (off VBn_CFG_EN (VBn_CFG v))).2.pageReset (VBn_CFG v) 13).log 572 1 [a]
  else if 0x300000 ≤ a ∧ a < 0x310000 then
    let n := (a - 0x300000) / 64
    let t := (s.portCfg .thimble n (off PORT_CFGn_EN (PORT_CFGn n))).2
    ((t.wr (PORT_CFGn n) (regReset (PORT_CFGn n))).pageReset (PORT_LINKTn n) 13).log 572 1 [a]
  else s

/-- A read of a register page's word by any agent (R568, R571, R572). -/
def State.pageRead (s : State) (a : Nat) : State :=
  let t := s.codeRead 1 a
  if t.poisoned 1 a && !s.poisoned 1 a then t.pageLost a else t

/-- Entry k of those of panel p's queues that hold fast cells goes on poison-tagged. -/
def hurtEntry (p : Nat) : Nat → List QEnt → List QEnt
  | _, [] => []
  | k, e :: l =>
    if e.dest.panel = p ∧ e.place = 0 then
      (match k with
       | 0 => { e with item := { e.item with poison := true } } :: l
       | n + 1 => e :: hurtEntry p n l)
    else e :: hurtEntry p k l
def hurtQueues (p : Nat) : Nat → List (Nat × List QEnt) → List (Nat × List QEnt)
  | _, [] => []
  | k, q :: l =>
    let n := (q.2.filter (fun e => e.dest.panel == p && e.place == 0)).length
    if k < n then (q.1, hurtEntry p k q.2) :: l else q :: hurtQueues p (k - n) l

/-- A code word of panel p's fast buffer is lost. Which item's cells or descriptor hold it, if any, is open (R40, R572): a free
value names it. -/
def State.cellLost (s : State) (a : Nat) : State :=
  let p := (a - 0xF0000000) / 2 ^ 24 % 16
  let n := s.queues.foldl (fun m q => m + (q.2.filter (fun e => e.dest.panel == p && e.place == 0)).length) 0
  let (f, t) := s.takeFree
  { t with queues := hurtQueues p (f % (n + 1)) t.queues }

/-- What a code word found uncorrectable does to its user: a register page or SRAM word is lost to its unit, a fast-buffer word to
the item that it holds, and an MRAM store does not exist any more (R572). -/
def State.wordLost (s : State) (c a : Nat) : State :=
  if c = 1 then s.pageLost a
  else if c = 2 then s.cellLost a
  else if c = 5 then s.mramLost a
  else s

/-- MRAM is read at boot (R511, R568, R572). -/
def State.mramSweep (s : State) : State :=
  (s.flaws.filter (fun p => p.1 / 2 ^ 32 == 5)).foldl (fun t p =>
    let a := p.1 % 2 ^ 32
    let u := t.codeRead 5 a
    if u.poisoned 5 a then u.mramLost a else u) s

/-- SCRUB_ACCESS of any class (R572, R576). -/
def State.scrubAccessOp (s : State) (c a : Nat) (upset : List Nat) : State :=
  let t := s.scrubOp c a upset
  if !t.poisoned c a ∨ s.poisoned c a then t else t.wordLost c a

/-! ### One word access (R476, R477, R544, R560, R574) -/

/-- The number of a counter's PRIV bit for an interface (R579). -/
def ifacePriv : Iface → Nat
  | .thimble => 1
  | _ => 2

/-- The word may be reached: not a table window in STANDBY, and in recovery only the Thimble's registers (R534, R544). -/
def State.reaches (s : State) (a : Nat) : Bool :=
  if s.recovering then decide (0x440000 ≤ a) && decide (a < 0x480000)
  else !(decide (0x800000 ≤ a) && s.powerState == 2)

/-- A write of one word below 0x1000_0000 through an interface, with everything the rules of its register give it; `who`:
the staging copy it uses (R249). -/
def State.regWriteAs (s : State) (i : Iface) (who a : Nat) (w : Word) : State :=
  if (regDesc? a).isNone || (!s.reaches a && !s.recovering) then s.hostErr SYS_HOSTERR_UNMAPPED i a
  else if !s.reaches a then s
  else if s.obsLevel < obsNeed a then s
  else if s.notReady a then s.setFld ECC_EVT ECC_EVT_EARLY 1
  else
    let t :=
      if a < 0x10000 then s.sysWrite i a w
      else if a < 0x40000 then s.timeWrite i a w
      else if a < 0x80000 then s.loomWrite i a w
      else if a < 0x100000 then s.vbusWrite i a w
      else if a < 0x300000 then s.typedWrite i a w
      else if a < 0x340000 then s.portWrite i a w
      else if a < 0x380000 then s.coreWrite i a w
      else if a < 0x440000 then s.cipherWrite i a w
      else if a < 0x480000 then s.thimWrite i a w
      else if a < 0x800000 then s.obsWrite i a w
      else (s.windowWrite i who a w).obsDie 0 0x062 1 (addr := some a) (priv := some (ifacePriv i))
    let t := if a < 0x800000 then t.wordsStored a 1 else t
    s.noteStored t a

/-- A write of one word through an interface with its own staging copy. -/
def State.regWrite (s : State) (i : Iface) (a : Nat) (w : Word) : State := s.regWriteAs i (ifaceNum i) a w

/-! ### Reads -/

/-- Bit k of a summary word: unit 32·w + k of pages at base + stride·n has an event bit set (R483). -/
def State.evtSum (s : State) (base stride first n : Nat) : Nat :=
  (List.range n).foldl (fun m k => if s.rd (base + stride * (first + k)) = 0 then m else m + 2 ^ k) 0

/-- A word of 16-octet units of a stack's bobbin pool. -/
def State.poolWord (s : State) (a : Nat) : Word :=
  let o := 2 ^ 20 * s.fld CORE_BOBPOOLWIN CORE_BOBPOOLWIN_MIB + (a - BOB_POOL 0)
  let u := Sparse.get (fun _ => []) s.pool (2 ^ 31 * s.fld CORE_BOBPOOLWIN CORE_BOBPOOLWIN_STACK + o / 16)
  BitVec.ofNat 32 (leNat (slice u (o % 16) 4))

/-- A word of the survey window. -/
def State.surveyWord (s : State) (a : Nat) : Word :=
  let r := 512 * s.fld CORE_SVWIN CORE_SVWIN_WIN + (a - SV_WINDOW 0) / 128
  let o := Sparse.get (fun _ => []) s.svRing (s.fld CORE_SVWIN CORE_SVWIN_HALF * 4194304 + r)
  BitVec.ofNat 32 (leNat (slice o (a % 128) 4))

/-- A word of the log window. -/
def State.logWord (s : State) (a : Nat) : Word :=
  let k := 1024 * s.fld THIM_LOGWINSEL THIM_LOGWINSEL_WIN + (a - THIM_LOGWIN 0) / 64
  BitVec.ofNat 32 (leNat (slice (Sparse.get (fun _ => []) s.th.logRing k) (a % 64) 4))

/-- The value a word shows where it is no plain copy of a stored word. -/
def State.shownWord (s : State) (i : Iface) (a : Nat) : Word :=
  if a = SYS_IRQ_STAT then BitVec.ofNat 32 s.irqLevel
  else if a = LOOM_EVTSUM0 then BitVec.ofNat 32 (s.evtSum (LCn_EVT 0) 256 0 32)
  else if a = LOOM_EVTSUM1 then BitVec.ofNat 32 (s.evtSum (LCn_EVT 0) 256 32 32)
  else if a = LOOM_EVTSUM2 then BitVec.ofNat 32 (65536 * s.evtSum (MBb_EVT 0) 256 0 2 + s.evtSum (PCm_EVT 0) 256 0 16)
  else if 0x80100 ≤ a ∧ a < 0x80300 then BitVec.ofNat 32 (s.evtSum (VBn_EVT 0) 64 (8 * (a - 0x80100)) 32)
  else if 0x330100 ≤ a ∧ a < 0x330180 then BitVec.ofNat 32 (s.evtSum (PORT_EVTn 0) 64 (8 * (a - 0x330100)) 32)
  else if 0x350100 ≤ a ∧ a < 0x350300 then BitVec.ofNat 32 (s.evtSum (bobWord 0 22) 128 (8 * (a - 0x350100)) 32)
  else if a = THIM_OTPCNT then
    BitVec.ofNat 32 ((List.range 4).foldl (fun v k => v + 2 ^ (8 * k) * min 255 (s.otp.therm.getD k 0)) 0)
  else if a = PACE_VCMD ∧ s.paceEn then
    -- while EN is 1 reads give the last accepted targets
    setF (setF 0 PACE_VCMD_V1 (s.gov 1).accepted) PACE_VCMD_V0 (s.gov 0).accepted
  else if a = OBS_OLSTAT then
    let on := s.fld OBS_TRCTL OBS_TRCTL_OL_EN
    setF (setF (s.rd a) OBS_OLSTAT_TX0 on) OBS_OLSTAT_TX1 on
  else if a = BRDG_PEND then BitVec.ofNat 32 (65536 * s.brCount 1 + s.brCount 0)
  else if 0x380100 ≤ a ∧ a < 0x380180 then
    setF (s.rd a) CIPH_LANEn_ALM_1S
      (min 255 ((s.lane ((a - 0x380100) / 4)).alarms.filter (fun t => decide (s.mer < t + 1000 * msTicks))).length)
  else if 0x441000 ≤ a ∧ a < 0x443000 then (if mailboxOf i = some ((a - 0x441000) / 4096) then s.rd a else 0)
  else if 0x460000 ≤ a ∧ a < 0x470000 then s.logWord a
  else if 0x300000 ≤ a ∧ a < 0x310000 then (if s.portShadowed ((a - 0x300000) / 64) then 0 else s.rd a)
  else if 0x41000 ≤ a ∧ a < 0x45000 ∧ a % 256 = 0x34 then setF (s.rd a) LCn_STAT_BUSY (bit (s.chInFrame ((a - 0x41000) / 256)))
  else if 0x47000 ≤ a ∧ a < 0x47200 ∧ a % 256 = 0x34 then setF (s.rd a) LCn_STAT_BUSY (bit (s.chInFrame (64 + (a - 0x47000) / 256)))
  else if 0xD00000 ≤ a ∧ a < 0xE00000 ∧ a % 256 = 0 ∧ s.vbEn ((a - 0xD00000) / 256) then
    setF (setF (s.rd a) MEMBER_VALID 1) MEMBER_KIND 0
  else if 0xC00000 ≤ a ∧ a < 0xC40000 then s.rxWord ((a - 0xC00000) / 4096) ((a - 0xC00000) % 4096 / 4)
  else if 0x6000000 ≤ a ∧ a < 0x6010000 then s.surveyWord a
  else if 0x6280000 ≤ a ∧ a < 0x628A000 then s.snapWord (a - 0x6280000)
  else if 0x6300000 ≤ a ∧ a < 0x6302000 then s.coalWord ((a - 0x6300000) / 32) (a % 32 / 4)
  else if 0x7100000 ≤ a ∧ a < 0x7200000 then s.poolWord a
  else if 0xB000000 ≤ a ∧ a < 0xB100000 then Sparse.get (fun _ => 0) s.heap (s.heapWord a)
  else if 0xA400000 ≤ a ∧ a < 0xA800000 then
    let q := (a - 0xA400000) / 4096
    let o := (a - 0xA400000) % 4096
    if o = 0x10C then BitVec.ofNat 32 (65536 * s.sqHeld q + s.sqUnread q)
    else if o = 0x108 then 0
    else s.latched i a
  else s.rd a

/-- The word that returns what its interface latched last, for reads that follow a latching read (R478). -/
def latchedWord (a : Nat) : Bool :=
  a == TIME_MER_HI || a == TIME_PPSI_HI || a == TIME_VIEW_HI || a == TIME_VMER_LO || a == TIME_VMER_HI ||
    a == SEAM_DIFF_HI || a == OBS_SNAPT_HI || a == PANEL_CQk 0 || a == PANEL_CQk 1 || a == PANEL_CQk 2 ||
    (decide (0x310000 ≤ a) && decide (a < 0x330000) && a % 8 == 4) ||
    (decide (0x46040 ≤ a) && decide (a < 0x47000) && decide (0x40 ≤ a % 256) && decide (a % 256 < 0xC0) && a % 8 == 4) ||
    (decide (0x101044 ≤ a) && decide (a < 0x300000) && a % 256 == 0x44) ||
    (decide (0x2800000 ≤ a) && decide (a < 0x2880000) && a % 8 == 4) ||
    (decide (0x6200000 ≤ a) && decide (a < 0x6220000) && a % 32 == 20)

/-- The unit whose transmit time-stamp queue a word belongs to, and the word's number. -/
def tsqOf (a : Nat) : Option (Nat × Nat) :=
  if 0x30000 ≤ a ∧ a < 0x38000 then (if a % 32 < 20 then some ((a - 0x30000) / 32, a % 32 / 4) else none)
  else if 0x41000 ≤ a ∧ a < 0x45000 then
    (if 0x80 ≤ a % 256 ∧ a % 256 < 0x94 then some (1024 + (a - 0x41000) / 256, (a % 256 - 0x80) / 4) else none)
  else if 0x46000 ≤ a ∧ a < 0x47000 then
    (if 0xC0 ≤ a % 256 ∧ a % 256 < 0xD4 then some (1088 + (a - 0x46000) / 256, (a % 256 - 0xC0) / 4) else none)
  else none

/-- What a read left as the answer, taken back from the record of what leaves. -/
def State.takeAnswer (s : State) : Word × State :=
  match s.out with
  | .readData _ _ v :: rest => (v, { s with out := rest })
  | _ => (0, s)

/-- A 64-bit counter's low word: it is cleared, with the high word latched (R136). -/
def State.longRead (s : State) (i : Iface) (a : Nat) : Word × State :=
  (s.rd a, (s.wr64 a 0).latch i (a + 4) (s.rd (a + 4)))

/-- A word whose read clears its RC fields (R12). TEMP of THIM_TMAX goes back to its reset value. -/
def State.plainRead (s : State) (i : Iface) (a : Nat) : Word × State :=
  match regDesc? a with
  | none => (0, s)
  | some d =>
    let v := RegDesc.cleared d .wo (s.shownWord i a)
    let t := if d.fields.any (fun f => f.ty = .rc) then s.wr a (RegDesc.cleared d .rc (s.rd a)) else s
    (v, if a = THIM_TMAX then t.wr a (regReset a) else t)

/-- The answer and effect of a read of a defined word whose memory is sound. -/
def State.wordRead (s : State) (i : Iface) (a : Nat) : Word × State :=
  if a = TIME_MER_LO then (s.meridianReadOp i).takeAnswer
  else if a = TIME_VIEW_LO then (s.viewReadOp i).takeAnswer
  else if a = TIME_PPSI_LO then (s.ppsiReadOp i).takeAnswer
  else if a = PANEL_CQ0 then (s.completionReadOp i).takeAnswer
  else if a = SEAM_DIFF_LO ∨ a = OBS_SNAPT_LO then (s.rd a, s.latch i (a + 4) (s.rd (a + 4)))
  else if 0x21000 ≤ a ∧ a < 0x29100 then
    let d := (a - 0x21000) / 32
    let k := a % 32 / 4
    if k = 0 then (s.datumSnapshotOp i d).takeAnswer
    else if k < 7 ∧ (s.latched i (TIME_DATd 0)).toNat = d + 1 then (s.latched i (TIME_DATd 0 + 4 * k), s)
    else (0, s)
  else if latchedWord a then (s.latched i a, s)
  else if (0x41000 ≤ a ∧ a < 0x45000 ∨ 0x47000 ≤ a ∧ a < 0x47200) ∧ a % 256 = 0x30 then (s.rd a, s.setFld a LCn_ERR_LEC 7)
  else if 0x310000 ≤ a ∧ a < 0x330000 then s.longRead i a
  else if 0x46000 ≤ a ∧ a < 0x47000 ∧ 0x40 ≤ a % 256 ∧ a % 256 < 0xC0 then s.longRead i a
  else if 0x101040 ≤ a ∧ a < 0x300000 ∧ a % 256 = 0x40 then s.longRead i a
  else if 0x2800000 ≤ a ∧ a < 0x2880000 then s.longRead i a
  else if 0x6200000 ≤ a ∧ a < 0x6220000 ∧ a % 32 = 16 then (s.rd a, s.latch i (a + 4) (s.rd (a + 4)))
  else if 0xA400000 ≤ a ∧ a < 0xA800000 ∧ (a - 0xA400000) % 4096 = 0x100 then
    (s.hostGet i ((a - 0xA400000) / 4096)).takeAnswer
  else
    match tsqOf a with
    | some (u, 0) => (s.tsqReadOp i u).takeAnswer
    | some (u, _) => (if s.tsqHidden u then 0 else s.latched i a, s)
    | none => s.plainRead i a

/-- The octet of a stack that a word of the survey or the pool window shows. -/
def State.stackUnit (s : State) (a : Nat) : Option Nat :=
  if 0x6000000 ≤ a ∧ a < 0x6010000 then
    some (surveyOctet (s.fld CORE_SVWIN CORE_SVWIN_HALF * 2 ^ 22 + 512 * s.fld CORE_SVWIN CORE_SVWIN_WIN + (a - SV_WINDOW 0) / 128) + a % 128)
  else if 0x7100000 ≤ a ∧ a < 0x7200000 then
    let o := 2 ^ 20 * s.fld CORE_BOBPOOLWIN CORE_BOBPOOLWIN_MIB + (a - BOB_POOL 0)
    some (poolOctet (2 ^ 31 * s.fld CORE_BOBPOOLWIN CORE_BOBPOOLWIN_STACK + o / 16) + o % 16)
  else none

/-- A read of one word below 0x1000_0000 through an interface: its answer and its effect. -/
def State.regRead (s : State) (i : Iface) (a : Nat) : Word × State :=
  if (regDesc? a).isNone || (!s.reaches a && !s.recovering) then (0, s.hostErr SYS_HOSTERR_UNMAPPED i a)
  else if !s.reaches a || decide (s.obsLevel < obsNeed a) then (0, s)
  else if s.notReady a then (0, s.setFld ECC_EVT ECC_EVT_EARLY 1)
  else if 0xB000000 ≤ a ∧ a < 0xB100000 then
    let o := heapOctet (s.heapWord a)
    let (v, t) := s.wordRead i a
    (if (s.memPoison 4 o 4).isSome then 0xFFFFFFFF else v, t.memRead 4 o 4)
  else
    match s.stackUnit a with
    | some o =>
      let (v, t) := s.wordRead i a
      (if (s.memPoison 4 o 4).isSome then 0xFFFFFFFF else v, t.memRead 4 o 4)
    | none =>
    match winClass a with
    | some 1 => (State.pageRead s a).wordRead i a
    | some c =>
      let (v, t) := s.wordRead i a
      (if (s.memPoison c a 4).isSome then 0xFFFFFFFF else v, t.memRead c a 4)
    | none => s.wordRead i a

/-! ### Bit aliases (R481, R482) -/

/-- Whether an alias write may touch bit b of a register: no WO field in it, and a field at the bit that is written. -/
def aliasable (d : RegDesc) (b : Nat) : Bool :=
  !d.fields.any (fun f => f.ty = .wo) &&
    d.fields.any (fun f => decide (f.fld.lo ≤ b) && decide (b ≤ f.fld.hi) && f.ty != .ro && f.ty != .rc)

/-- The value V of an alias write. -/
def aliasValue (d : RegDesc) (old : Word) (b : Nat) (v : Bool) : Word :=
  let w := (RegDesc.cleared d .w1c old) &&& ~~~(RegDesc.mask d .w1s)
  setF w ⟨b, b⟩ (bit v)

/-- An alias write of bit b of the control register at A. -/
def State.aliasWrite (s : State) (i : Iface) (b a : Nat) (v : Bool) : State :=
  let at_ := 0x40000000 + 2 ^ 23 * b + a
  match regDesc? a with
  | none => s.hostErr SYS_HOSTERR_UNMAPPED i at_
  | some d =>
    if !aliasable d b then s.hostErr SYS_HOSTERR_ALIAS i at_
    else s.regWrite i a (aliasValue d (s.rd a) b v)

/-- ALIAS_WRITE: data bit 0 goes to bit b. -/
def State.aliasWriteOp (s : State) (i : Iface) (b a : Nat) (w : Word) : State :=
  s.hostAccess (s.aliasWrite i (b % 32) (a % 2 ^ 23 / 4 * 4) (w.getLsbD 0))

/-- An alias read: the bit of what a read would return, without its side effects; an address that no chapter defines
sets UNMAPPED. -/
def State.aliasRead (s : State) (i : Iface) (a : Nat) : Word × State :=
  let c := a % 2 ^ 23 / 4 * 4
  let b := (a - 0x40000000) / 2 ^ 23
  if (regDesc? c).isNone then (0, s.hostErr SYS_HOSTERR_UNMAPPED i a)
  else (if (s.regRead i c).1.getLsbD b then 1 else 0, s)

/-! ### The address space of an interface (R474, R477) -/

/-- The enabled bytes of a written word over what the word held. -/
def mergeBytes (be : Nat) (old new : Word) : Word :=
  (List.range 4).foldl (fun w k => if be.testBit k then setF w ⟨8 * k + 7, 8 * k⟩ (getF new ⟨8 * k + 7, 8 * k⟩) else w) old

/-- What the enabled bytes of a write to a table-window word are laid over: the interface's staged word, or the word
itself. -/
def State.underWrite (s : State) (i : Iface) (a : Nat) : Word :=
  match stagedEntry? a with
  | some (d, _, k) => if k = d.commit then s.rd a else s.stagedWord (ifaceNum i) a
  | none => if 0xA400000 ≤ a ∧ a < 0xA400000 + 4096 * 1024 ∧ (a - 0xA400000) % 4096 < 128 then s.stagedWord (ifaceNum i) a
      else s.shownWord i a

/-- A word of the MSI-X table in BAR2, at BAR2 offset o; a vector that is unmasked sends what it has pending (R484, R485). -/
def State.msixWrite (s : State) (o be : Nat) (w : Word) : State :=
  if 512 ≤ o then s
  else
    let k := o / 4
    let v := k / 4
    let s : State := { s with msixTable := Sparse.set msixReset s.msixTable k (mergeBytes be (Sparse.get msixReset s.msixTable k) w) }
    if k % 4 = 3 ∧ !s.msixMasked v ∧ s.msixPend.testBit v then
      State.sendMsix { s with msixPend := s.msixPend &&& (2 ^ 32 - 1 - 2 ^ v) } v
    else s

/-- The PCIe link is down: PERST_N is low, or the controller is off in STANDBY (R487, R544). -/
def State.pcieDown (s : State) : Bool := s.hs.perst || s.powerState == 2

/-- A write through an interface anywhere but in the bridge region: the address (from 2^32 on, BAR2), byte enables, the word
and its flaw: 1 poisoned PCIe data (R485), 2 an SPI word that finds 64 waiting (R496), 3 a word that crosses with bad
parity (R578). -/
def State.hostWrite (s : State) (i : Iface) (a be flaw : Nat) (w : Word) : State :=
  let a := a / 4 * 4
  if i = .pcie ∧ s.pcieDown then s
  else if flaw = 1 then s.hostErr SYS_HOSTERR_POISON i a
  else if flaw = 2 then s.hostErr SYS_HOSTERR_SPI_OVF i a
  else if flaw = 3 then s
  else if 2 ^ 32 ≤ a then (if i = .pcie then s.msixWrite (a - 2 ^ 32) be w else s)
  else if a < 0x10000000 then
    if be = 15 then s.regWrite i a w
    else if a < 0x800000 then s.hostErr SYS_HOSTERR_PARTIAL i a
    else s.regWrite i a (mergeBytes be (s.underWrite i a) w)
  else if 0x40000000 ≤ a ∧ a < 0x50000000 then
    if be ≠ 15 then s.hostErr SYS_HOSTERR_PARTIAL i a
    else s.aliasWrite i ((a - 0x40000000) / 2 ^ 23) (a % 2 ^ 23) (w.getLsbD 0)
  else s.hostErr SYS_HOSTERR_UNMAPPED i a

/-- A word read in BAR2 at offset o: the MSI-X table, or the pending bits from 0x8000 on (R485). -/
def State.msixRead (s : State) (o : Nat) : Word :=
  if o < 512 then Sparse.get msixReset s.msixTable (o / 4)
  else if o = 0x8000 then BitVec.ofNat 32 s.msixPend
  else 0

/-- A read through an interface anywhere but in the bridge region; from 2^32 on, PCIe reads BAR2. -/
def State.hostRead (s : State) (i : Iface) (a : Nat) : Word × State :=
  let a := a / 4 * 4
  if i = .pcie ∧ 2 ^ 32 ≤ a then (s.msixRead (a - 2 ^ 32), s)
  else if a < 0x10000000 then s.regRead i a
  else if 0x40000000 ≤ a ∧ a < 0x50000000 then s.aliasRead i a
  else (0, s.hostErr SYS_HOSTERR_UNMAPPED i a)

/-! ### SPI (R493 to R497) -/

/-- SPI_TRANSACTION_END: SPI_CS_N rises after n clock edges; `cmd` holds the command and address bits as far as they came,
[39:32] the command; `whole`: a read's data word had just ended. -/
def State.spiEndOp (s : State) (n cmd : Nat) (whole : Bool) : State :=
  let rd := bits cmd 39 39 = 1
  let bad := (8 ≤ n ∧ bits cmd 37 32 ≠ 0) ∨ (40 ≤ n ∧ bits cmd 1 0 ≠ 0)
  let clean := n = 0 ∨ (!rd ∧ 40 ≤ n ∧ (n - 40) % 32 = 0) ∨ (rd ∧ 40 < n ∧ whole)
  let at_ := bits cmd 31 0
  let t := if bad then (s.hostErr SYS_HOSTERR_SPI_CMD .spi at_).bumpSat SYS_SPICNT SYS_SPICNT_CMD else s
  s.thimAccess (if clean then t else (t.hostErr SYS_HOSTERR_SPI_FRAME .spi at_).bumpSat SYS_SPICNT SYS_SPICNT_FRAME)

/-! ### Resets of the PCIe interface (R485, R629) -/

/-- A request of the PCIe mailbox that outlives its mailbox: its response goes nowhere. -/
def OapReq.orphan (r : OapReq) : OapReq := if r.src = .mailbox 0 then { r with src := .mailbox 2 } else r
def Txn.orphan (x : Txn) : Txn := { x with req := x.req.map OapReq.orphan }

/-- The requests that came through the PCIe mailbox have lost it. -/
def State.boxLost (s : State) : State :=
  { s with
    oap := { s.oap with
      mbResp := s.oap.mbResp.filter (fun r => r.1 != 0)
      mbReq := s.oap.mbReq.filter (fun r => r.1 != 0)
      queue := s.oap.queue.map OapReq.orphan
      waits := s.oap.waits.map (fun w => (w.1, w.2.orphan))
      sessions := s.oap.sessions.map (fun x => { x with held := x.held.map OapReq.orphan }) }
    sm := { s.sm with txns := s.sm.txns.map Txn.orphan, lone := s.sm.lone.map Txn.orphan, prepared := s.sm.prepared.map Txn.orphan } }

/-- What a Function Level Reset clears. -/
def State.flr (s : State) : State :=
  let s := (List.range 256).foldl (fun t q => if t.pqValid q then (t.setFld (PUNTq q) PUNTq_VALID 0).puntFree q else t) s
  let s := ((List.range 264).foldl (fun t j => (t.wr (THIM_MBREQ 0 j) 0).wr (THIM_MBRESP 0 j) 0) s).wr (THIM_MBCTLk 0) 0
  let s := (s.wr (THIM_MBRLENk 0) 0).boxLost
  { s with
    hs := { s.hs with ops := s.hs.ops.filter (fun o => o.iface != 0) }
    lat := s.lat.filter (fun p => decide (2 ^ 32 ≤ p.1)) }

/-- FUNCTION_LEVEL_RESET. -/
def State.flrOp (s : State) : State := s.hostAccess s.flr

/-- PCIE_PERST: PCIE_PERST_N falls or rises. -/
def State.perstOp (s : State) (low : Bool) : State :=
  let s : State := { s with hs := { s.hs with perst := low } }
  if low then s.flr else s

/-! ### Meanings -/

/-- SCRUB_ACCESS, R576: The scrubber reads the next code word of a class. -/
def execScrubAccess (c : Nat) (a : Nat) (upset : List Nat) (s : State) : Host.Outcome State Fault Refusal := finish s (s.scrubAccessOp c a upset)

/-- LOCKALL, R480: SYS_CTRL.LOCKALL sets every LOCK at once. -/
def execLockall (i : Iface) (w : Word) (s : State) : Host.Outcome State Fault Refusal := finish s (s.lockAllOp i w)

/-- IRQ_REARM, R484: A write of SYS_IRQ_REARM sends another message for a pending source. -/
def execIrqRearm (i : Iface) (w : Word) (s : State) : Host.Outcome State Fault Refusal := finish s (s.irqRearmOp i w)

/-- ALIAS_WRITE, R482: An alias write changes one bit of a register as one indivisible write. -/
def execAliasWrite (i : Iface) (b : Nat) (a : Nat) (w : Word) (s : State) : Host.Outcome State Fault Refusal := finish s (s.aliasWriteOp i b a w)

/-- MAILBOX_SUBMIT, R498: A SUBMIT write passes the mailbox request to the Thimble. -/
def execMailboxSubmit (i : Iface) (w : Word) (s : State) : Host.Outcome State Fault Refusal := finish s (s.mbSubmitOp i w)

/-- MAILBOX_RELEASE, R498: RELEASE clears RESP and NORESP. -/
def execMailboxRelease (i : Iface) (w : Word) (s : State) : Host.Outcome State Fault Refusal := finish s (s.mbReleaseOp i w)

/-- MAILBOX_RESPONSE, R498: The response reaches the mailbox and BUSY clears. -/
def execMailboxResponse (k : Nat) (s : State) : Host.Outcome State Fault Refusal := finish s (s.mbResponseOp k)

/-- SPI_TRANSACTION_END, R497: SPI_CS_N rises and the transaction ends cleanly or with a framing error. -/
def execSpiTransactionEnd (n : Nat) (cmd : Nat) (whole : Bool) (s : State) : Host.Outcome State Fault Refusal := finish s (s.spiEndOp n cmd whole)

/-- FUNCTION_LEVEL_RESET, R485: A PCIe FLR resets the punt queues, PCIe mailbox and PCIe interface state. -/
def execFunctionLevelReset (s : State) : Host.Outcome State Fault Refusal := finish s s.flrOp

/-- PCIE_PERST, R629: PCIE_PERST_N low holds the link down and resets the PCIe interface. -/
def execPciePerst (low : Bool) (s : State) : Host.Outcome State Fault Refusal := finish s (s.perstOp low)


end Sys2Proof.Machine
end

