-- ==== Sys2Proof/Machine/Bridge.lean ====
section
/-! DEFINITION. Words written and read through the host interfaces, the bridge region among them, and the twin's bridge:
spec/15 R477, R478, R495, R499, R502, R505. -/

namespace Sys2Proof.Machine

def inBridge (a : Nat) : Bool := decide (0x10000000 ≤ a) && decide (a < 0x20000000)

/-! ### The SPI write queue (R496) -/

/-- A word of the SPI write queue can be applied: a word for the bridge needs room among its 64 operations (R502). -/
def State.spiReady (s : State) (a : Nat) : Bool := !inBridge a || decide (s.brCount 1 < 64)

/-- Apply up to n waiting words in order, as far as they can be applied. -/
def State.spiDrain : Nat → State → State
  | 0, s => s
  | n + 1, s =>
    match s.hs.spiQ with
    | [] => s
    | (a, w) :: l =>
      if s.spiReady a then
        let t : State := { s with hs := { s.hs with spiQ := l } }
        State.spiDrain n (if inBridge a then t.brEnter .spi true a [w] 1 else t.hostWrite .spi a 15 0 w)
      else s

/-- A word waits in the queue of 64; one that finds it full is discarded. -/
def State.spiWait (s : State) (a : Nat) (w : Word) : State :=
  if 64 ≤ s.hs.spiQ.length then s.hostErr SYS_HOSTERR_SPI_OVF .spi (a / 4 * 4)
  else { s with hs := { s.hs with spiQ := s.hs.spiQ ++ [(a, w)] } }

/-- A write through an interface must wait: SPI words wait, or the word is for a bridge that is full. -/
def State.spiHeld (s : State) (i : Iface) (a : Nat) : Bool := i == .spi && (!s.hs.spiQ.isEmpty || !s.spiReady a)

/-- REGISTER_WRITE: a word written anywhere in an interface's address space. -/
def State.registerWriteOp (s : State) (i : Iface) (a be flaw : Nat) (w : Word) : State :=
  let s := if i = .spi then s.spiDrain 64 else s
  if flaw = 0 ∧ be = 15 ∧ s.spiHeld i a then s.thimAccess (s.spiWait a w)
  else if inBridge a ∧ flaw = 0 ∧ (i = .pcie → s.pcieDown = false) ∧ i ≠ .twin then
    s.hostAccess (if be = 15 then s.brEnter i true a [w] 1 else s.hostErr SYS_HOSTERR_PARTIAL i (a / 4 * 4))
  else s.thimAccess (s.hostWrite i a be flaw w)

/-- SPI_READ_WORD: the access of a read word completes, through SPI or in the same way through another interface (R478);
`bad`, the word crosses with bad parity (R578). A word of the bridge region returns when its operation ends; over SPI no
read completes while written words wait (R496). -/
def State.spiReadOp (s : State) (i : Iface) (a : Nat) (bad : Bool) : State :=
  let s := if i = .spi then s.spiDrain 64 else s
  if i = .pcie ∧ s.pcieDown ∨ i = .spi ∧ s.hs.spiQ ≠ [] then s
  else if inBridge a ∧ i ≠ .twin then s.hostAccess (s.brEnter i false a [] 1)
  else
    let (v, t) := s.hostRead i a
    s.thimAccess (t.emitOut (.readData i (a / 4 * 4) (if bad then 0xFFFFFFFF else v)))

/-- BRIDGE_OPERATION: consecutive words of one PCIe request, of one SPI burst or of the Thimble enter the bridge. -/
def State.bridgeOp (s : State) (i : Iface) (write : Bool) (a : Nat) (ws : List Word) (n : Nat) : State :=
  let s := if i = .spi then s.spiDrain 64 else s
  if i = .pcie ∧ s.pcieDown then s
  else if s.spiHeld i a then
    (if write then s.hostAccess ((List.range ws.length).foldl (fun t k => t.spiWait (a + 4 * k) (ws.getD k 0)) s) else s)
  else s.hostAccess (s.brEnter i write a ws (if write then ws.length else n))

/-! ### As a twin (R501, R505) -/

/-- An access refuses where it sets an error bit of SYS_HOSTERR. -/
def State.refuses (s : State) (f : State → State) : Bool :=
  bits ((f (s.wr SYS_HOSTERR 0)).rd SYS_HOSTERR).toNat 9 0 != 0

/-- Apply the words of a twin's WRITE from an address on: how many are applied before the first refused, and the state. -/
def State.twinWrite (s : State) (a : Nat) : List Word → Nat × State
  | [] => (0, s)
  | w :: l =>
    if inBridge a then (0, s)
    else if s.refuses (fun t => t.hostWrite .twin a 15 0 w) then (0, s.hostWrite .twin a 15 0 w)
    else
      let (n, t) := (s.hostWrite .twin a 15 0 w).twinWrite (a + 4) l
      (n + 1, t)

/-- Read n words for a twin from an address on, up to the first refused. -/
def State.twinRead (s : State) (a : Nat) : Nat → List Word × State
  | 0 => ([], s)
  | n + 1 =>
    if inBridge a then ([], s)
    else if s.refuses (fun t => (t.hostRead .twin a).2) then ([], (s.hostRead .twin a).2)
    else
      let (v, t) := s.hostRead .twin a
      let (l, u) := t.twinRead (a + 4) n
      (v :: l, u)

/-- A response of R500. -/
def brResponse (p : List Byte) (st applied : Nat) (data : List Word) : List Byte :=
  natBe 1 0xB1 ++ natBe 1 (0x80 + oct p 1) ++ slice p 2 8 ++ natBe 1 st ++ natBe 1 0 ++ natBe 2 applied ++ natBe 2 0 ++
    data.flatMap wordBe

/-- A request frame of R500 that is well formed. -/
def brFormed (p : List Byte) : Bool :=
  let n := beAt p 8 2
  oct p 0 == 0xB1 && decide (16 ≤ p.length) && decide (1 ≤ n) && decide (n ≤ 64) &&
    (oct p 1 == 1 || (oct p 1 == 2 && decide (16 + 4 * n ≤ p.length)))

/-- BRIDGE_REQUEST_RECEIVE: a request of the twin. A repeated TAG is answered from its stored response. -/
def State.bridgeRequestOp (s : State) (p : List Byte) : State :=
  if !s.seamUp || !brFormed p then s
  else
    let tag := beAt p 2 2
    match s.hs.done.find? (fun d => d.1 == tag) with
    | some d => (s.count (SEAM_CNTc 6)).emitOut (.bridge none d.2)
    | none =>
      let a := beAt p 4 4 / 4 * 4
      let n := beAt p 8 2
      let (r, t) : List Byte × State :=
        if oct p 1 = 2 then
          let (k, t) := s.twinWrite a ((List.range n).map (fun k => BitVec.ofNat 32 (beAt p (16 + 4 * k) 4)))
          (brResponse p (if k = n then 0 else 2) k [], t)
        else
          let (l, t) := s.twinRead a n
          if l.length = n then (brResponse p 0 0 l, t) else (brResponse p 2 0 [], t)
      let t : State := { t with hs := { t.hs with done := ((tag, r) :: t.hs.done).take 16 } }
      (t.count (SEAM_CNTc 6)).emitOut (.bridge none r)

/-! ### Meanings -/

/-- REGISTER_WRITE, R478: A write to a register with no row of its own sets its fields under the type rules. -/
def execRegisterWrite (i : Iface) (a : Nat) (be : Nat) (flaw : Nat) (w : Word) (s : State) : Host.Outcome State Fault Refusal := finish s (s.registerWriteOp i a be flaw w)

/-- SPI_READ_WORD, R495: An SPI read word's access completes and its ready byte and data are sent. -/
def execSpiReadWord (i : Iface) (a : Nat) (bad : Bool) (s : State) : Host.Outcome State Fault Refusal := finish s (s.spiReadOp i a bad)

/-- BRIDGE_OPERATION, R502: A bridge operation is sent to its expander or the twin. -/
def execBridgeOperation (i : Iface) (write : Bool) (a : Nat) (ws : List Word) (n : Nat) (s : State) : Host.Outcome State Fault Refusal := finish s (s.bridgeOp i write a ws n)

/-- BRIDGE_REQUEST_RECEIVE, R505: A bridge request from the twin is performed and answered. -/
def execBridgeRequestReceive (octets : List Byte) (s : State) : Host.Outcome State Fault Refusal := finish s (s.bridgeRequestOp octets)


end Sys2Proof.Machine
end

