-- ==== Sys2Proof/Machine/Dict.lean ====
section
/-! DEFINITION. Reads and writes of dictionary objects as the register accesses and actions that their chapters name:
spec/14 R440 to R443, R452 to R454, R467, R472, R473, and the object tables of each chapter (R107, R114, R137, R172, R211,
R252, R282, R312, R373, R401, R438, R538, R565, R599, R619). -/

namespace Sys2Proof.Machine

/-! ### Reads of values -/

/-- Read n words through the Thimble, each with its read side effects; reserved words read 0. -/
def State.readWords (s : State) (a : Nat) : Nat → List Byte × State
  | 0 => ([], s)
  | n + 1 =>
    let (v, t) : Word × State := if (regDesc? a).isNone then (0, s) else s.regRead .thimble a
    let (l, u) := t.readWords (a + 4) n
    (wordBe v ++ l, u)

/-- Read the n words that start at each address of a list. -/
def State.readEach (s : State) (n : Nat) : List Nat → List Byte × State
  | [] => ([], s)
  | a :: r =>
    let (l, t) := s.readWords a n
    let (m, u) := t.readEach n r
    (l ++ m, u)

/-- Read n 64-bit counters, low word first in the window, and clear them. -/
def State.readLongs (s : State) (a : Nat) : Nat → List Byte × State
  | 0 => ([], s)
  | n + 1 =>
    let (l, u) := (s.wr64 a 0).readLongs (a + 8) n
    (natBe 8 (s.rd64 a) ++ l, u)

/-- The datum that an index of R107 names. -/
def odDatumOf (r : Od) (idx : Nat) : Nat := if r.base = 0x4002 then r.inst idx else 1024 + r.inst idx

/-- A session's staged values of a datum (R107). -/
def State.odStage (s : State) (ses d : Nat) : DatumStage := Sparse.get (fun _ => DatumStage.reset) s.datumStage (2048 * ses + d)
def State.setOdStage (s : State) (ses d : Nat) (g : DatumStage) : State :=
  { s with datumStage := Sparse.set (fun _ => DatumStage.reset) s.datumStage (2048 * ses + d) g }

/-- A subindex of a datum object. -/
def State.datumGet (s : State) (ses d sub : Nat) : List Byte :=
  let x := s.datum d
  let a := x.inForce s.mer
  let g := s.odStage ses d
  match sub with
  | 1 => natBe 8 a.anchor
  | 2 => natBe 8 a.offset
  | 3 => natBe 8 a.rate
  | 4 => natBe 2 x.gen
  | 5 => natBe 8 (s.viewNow d)
  | 7 => natBe 8 x.nominal
  | 0x10 => natBe 8 g.eff
  | 0x11 => natBe 1 (bit g.step)
  | 0x12 => natBe 8 g.offset
  | _ => natBe 8 g.rate

/-- SYSTEM_DROPS: every reason summed, and cleared (R472). -/
def State.dropsTake (s : State) (t : Nat) : List Nat × State :=
  (((List.range 13).map (fun r => s.dropCount t (r + 1))),
   (List.range 13).foldl (fun (u : State) r => { u with drops := Sparse.set (fun _ => 0) u.drops (dropKey t (r + 1)) 0 }) s)

/-- Octets of a string. -/
def ascii (l : List Nat) : List Byte := l.map (BitVec.ofNat 8)

/-- The value of an object that is no DOMAIN, for a session, and what its read does. -/
def State.odGet (s : State) (ses : Nat) (r : Od) (idx sub : Nat) : List Byte × State :=
  let k := r.inst idx
  let reg (a : Nat) : List Byte × State := s.readWords a 1
  match s.odStored r.tag k sub with
  | some v => (v, s)
  | none =>
    if r.base = 0x4002 ∨ r.base = 0x0040 then (s.datumGet ses (odDatumOf r idx) sub, s)
    else
      match r.tag with
      | 0x000001 => (ascii [84, 111, 110, 101, 105, 115, 107], s)
      | 0x000002 => (ascii [76, 105, 104, 97, 108, 32, 90, 97, 108, 111, 114, 101], s)
      | 0x000003 => (ascii [76, 90, 49, 48, 50, 52, 45, 81, 50], s)
      | 0x000004 => (natBe 2 (s.fld SYS_ID SYS_ID_SILICON), s)
      | 0x000005 => (s.otp.uid, s)
      | 0x000006 => (natBe 4 ((s.img s.runBank).field 12 4), s)
      | 0x000007 => (natBe 4 s.schema, s)
      | 0x000101 => (natBe 2 s.nodeNumber, s)
      | 0x000102 => (natBe 1 s.node.code, s)
      | 0x000104 => (natBe 8 s.nodeSince, s)
      | 0x000202 => (natBe 8 ((s.dropsTake 1024).1.foldl (· + ·) 0), (s.dropsTake 1024).2)
      | 0x000303 => (nodeMac s.nodeNumber, s)
      | 0x000306 => ([1, 2, 3].flatMap (fun j => (s.roleKey j).getD (List.replicate 96 0)), s)
      | 0x004802 => (natBe 1 (s.fld TIME_STAT TIME_STAT_SRV_LOCK), s)
      | 0x100004 => (natBe 1 (s.fld (PORT_STATn k) PORT_STATn_LINK), s)
      | 0x300005 => reg (LCn_ERR k)
      | 0x328001 => (natBe 1 (s.fld (MBb_CFG k) MBb_CFG_ADDR), s)
      | 0x328002 => reg (MBb_ERR k)
      | 0x800301 => reg (VBn_STAT k)
      | 0x800302 => (natBe 2 (s.fld (VBn_LOAD k) VBn_LOAD_LOAD), s)
      | 0x400303 => (natBe 4 (s.staCount k), s)
      | 0x400402 => (natBe 4 (s.rd (SPILLCAP k + 4)).toNat, s)
      | 0xE00002 => reg CIPH_KCTR
      | 0xE00003 => reg CIPH_KFLOOR
      | 0xE00004 => (natBe 2 (s.fld CIPH_KSTEPS CIPH_KSTEPS_USED), s)
      | 0xE00005 => (natBe 2 ((s.rd CIPH_KRES).toNat / 65536), s)
      | 0xE00102 => (natBe 2 (s.fld KEYS_FILL KEYS_FILL_VALID), s)
      | 0xE00301 => (s.otp.uid, s)
      | 0xE00302 => (slice (Config.identityPub s.otp.uid) 0 96, s)
      | 0xE00303 => reg CIPH_STAT
      | 0x006001 => reg SEAM_STAT
      | 0x00600A => (natBe 8 (s.rd64 SEAM_DIFF_LO), s)
      | 0x008003 => (natBe 4 (match s.newestArea s.runBank with | some p => p.2.snap | none => 0), s)
      | 0x008102 =>
        let h := match s.session? ses with | some x => x.hdr | none => []
        (if h.isEmpty then List.replicate 16 0 else h, s)
      | 0x008104 => (natMap 96 ((s.img s.standby).blocks.foldl (fun m b => m ||| 2 ^ b.1) 0), s)
      | 0x008105 => (natBe 2 (s.fld THIM_STAT THIM_STAT_NEXT_BLOCK), s)
      | 0x008108 => (inPlace (s.rd THIM_STAT) 31 26, s)
      | 0x00810B => (natBe 8 (s.img s.standby).mid, s)
      | 0x008202 => (natBe 4 (2 ^ 30 * s.th.thread.state + s.th.thread.last), s)
      | 0x008302 => reg THIM_LOGSEQ
      | 0x008501 => (natBe 1 (s.fld THIM_STAT THIM_STAT_ANCHOR_GEN), s)
      | 0x008505 => ((List.range 4).flatMap (fun c => natBe 2 (s.otp.therm.getD c 0)), s)
      | 0x009002 => reg SYS_PWR_STAT
      | 0x009008 => reg SYS_PWR_CAUSE
      | 0x00A001 => (natBe 1 s.lifecycle, s)
      | 0x00A003 => (natBe 1 (s.fld SYS_LCS SYS_LCS_OBS), s)
      | 0x00A005 => (natBe 1 (s.fld SYS_LCS SYS_LCS_JTAG_FULL), s)
      | 0x00B009 => reg SYS_BOOT
      | 0x00B00A => reg SYS_JOINTREE
      | 0x00B00B => s.readWords (SYS_BOOTTk 0) 7
      | 0xF01004 => reg ECC_INIT
      | _ => (List.replicate (r.ty.size.getD 0) 0, s)

/-! ### Record DOMAINs over tables (R252) -/

/-- A table that a DOMAIN reaches: entry k is `words` words from base + stride·k. -/
structure DomTab where
  tag : Nat
  base : Nat
  stride : Nat
  count : Nat
  words : Nat
  deriving DecidableEq, Repr

def domTabs : List DomTab :=
  [⟨0xC00001, 0x01810000, 4, 4096, 1⟩, ⟨0xC00002, 0x01818000, 4, 4096, 1⟩, ⟨0xC00101, 0x01800000, 4, 5184, 1⟩,
   ⟨0xC00102, 0x01000000, 4, 1048576, 1⟩, ⟨0xC00103, 0x01400000, 16, 262144, 4⟩, ⟨0xC00201, 0x02000000, 128, 65536, 32⟩,
   ⟨0xC00402, 0x03000000, 16, 65536, 4⟩, ⟨0xC00502, 0x02C00000, 16, 65536, 4⟩, ⟨0xC01201, 0x05000000, 16, 32768, 4⟩,
   ⟨0xC01202, 0x04000000, 32, 262144, 8⟩, ⟨0xC01203, 0x0181C000, 4, 4096, 1⟩, ⟨0xC01301, 0x05100000, 512, 256, 128⟩,
   ⟨0xC02001, 0x0A000000, 64, 4096, 16⟩, ⟨0xC02101, 0x0A100000, 32, 1024, 8⟩, ⟨0xC02102, 0x0A300000, 4, 1024, 1⟩,
   ⟨0xC02103, 0x0A200000, 16, 65536, 4⟩, ⟨0xC03001, 0x07000000, 128, 4096, 12⟩, ⟨0xF00001, 0x06200000, 32, 4096, 4⟩,
   ⟨0xF00101, 0x06240000, 16, 64, 4⟩]

/-- The addresses of the words of entry k of a table DOMAIN, in window order; none where the object has no entry k. A
VLAN's are its entry and its two sets, reserved words included; a group's entry with bit 31 is a multicast slot; program code and data go by single
words, data with bit 31 in a panel's shared memory. -/
def domAddrs (tag k : Nat) : Option (List Nat) :=
  match domTabs.find? (fun d => d.tag == tag) with
  | some d => if k < d.count then some ((List.range d.words).map (fun j => d.base + d.stride * k + 4 * j)) else none
  | none =>
    match tag with
    | 0xC00501 =>
      if k < 4096 then
        some ((List.range 4).map (fun j => VLAN k + 4 * j) ++ (List.range 128).map (fun j => VLAN_MEMBERS k j))
      else none
    | 0xC00503 =>
      if k < 65536 then some [GROUP k, GROUP k + 4]
      else if 2 ^ 31 ≤ k ∧ k - 2 ^ 31 < 524288 then some [GROUP_SLOT (k - 2 ^ 31)]
      else none
    | 0xC02002 => if k < 2 ^ 21 then some [IMEM (k / 2 ^ 14) (k % 2 ^ 14)] else none
    | 0xC02003 =>
      if k < 2 ^ 22 then some [DMEM (k / 2 ^ 15) (k % 2 ^ 15)]
      else if 2 ^ 31 ≤ k ∧ k - 2 ^ 31 < 2 ^ 24 then some [SHARED ((k - 2 ^ 31) / 2 ^ 20) (k % 2 ^ 20)]
      else none
    | _ => none

/-- Octets of a record of a table DOMAIN that begins with number k, whether or not the table has such an entry. -/
def domRecLen (tag k : Nat) : Nat :=
  match domTabs.find? (fun d => d.tag == tag) with
  | some d => 4 + 4 * d.words
  | none =>
    match tag with
    | 0xC00501 => 532
    | 0xC00503 => if 2 ^ 31 ≤ k then 8 else 12
    | _ => 8

/-- A word of program data lies in a window of a valid program (R312). -/
def State.inWindow (s : State) (k : Nat) : Bool :=
  let hit (w : Nat × Nat) (o : Nat) : Bool := decide (w.1 ≤ o) && decide (o < w.1 + w.2)
  s.validProgs.any (fun p =>
    let l := s.progEntry p
    if k < 2 ^ 31 then (entMask l).testBit (k / 2 ^ 15) && hit (entData l) (4 * (k % 2 ^ 15))
    else (maskPanels (entMask l)).testBit ((k - 2 ^ 31) / 2 ^ 20) && hit (entShared l) (4 * (k % 2 ^ 20)))

/-- Read records of a table DOMAIN: their numbers and words. -/
def State.readRecords (s : State) (tag : Nat) : List Nat → List Byte × State
  | [] => ([], s)
  | k :: r =>
    let (l, t) := s.readEach 1 ((domAddrs tag k).getD [])
    let (m, u) := t.readRecords tag r
    (natBe 4 k ++ l ++ m, u)

/-! ### Reads of DOMAINs (R453) -/

/-- Carrier of a session as SESSIONS shows it: 0 in-band, 1 MB0, 2 MB1, 3 PCIe, 4 SPI. -/
def carrierCode : OapSrc → Nat
  | .port _ _ _ => 0
  | .mb b _ => 1 + b
  | .mailbox k => 3 + k

/-- A session's row of SESSIONS. -/
def State.sessionRow (s : State) (x : Session) : List Byte :=
  natBe 2 x.num ++ natBe 1 x.role ++ natBe 1 (carrierCode x.src) ++ natBe 2 x.next ++ natBe 2 0 ++ natBe 4 ((s.mer - x.used) / msTicks)

/-- RESOURCES of a tenant. -/
def State.tenantRow (s : State) (t : Nat) : List Byte :=
  let n (c : Nat) (p : Nat → Bool) : Nat := ((List.range c).filter p).length
  let own (base : Nat) (a f : Fld) : Nat := n 4096 (fun k => s.flag (base + 4 * k) a && s.fld (base + 4 * k) f == t)
  natBe 2 (n 1024 (fun k => s.portTenant k == some t)) ++ natBe 2 (n 4096 (fun k => s.busTenant k == some t)) ++
    natBe 2 (n 64 (fun k => s.loomTenant k == some t)) ++ natBe 2 (n 16 (fun k => s.plcaTenant k == some t)) ++
    natBe 2 (n 4096 (fun k => s.bobValid k && s.bobTenant k == t)) ++ natBe 2 (n 4096 (fun k => s.keyValid k && s.keyTenant k == t)) ++
    natBe 4 (own 0x01810000 PAGE_OWNER_ASSIGNED PAGE_OWNER_TENANT) ++
    natBe 4 (own 0x01818000 BLOCK_OWNER_ASSIGNED BLOCK_OWNER_TENANT) ++
    natBe 4 (own 0x0181C000 POLICER_OWNER_ASSIGNED POLICER_OWNER_TENANT)

/-- A BOBBIN record of the twin in the form of R417; zeros where none is held. -/
def State.twinBobRow (s : State) (b : Nat) : List Byte :=
  match Sparse.get (fun _ => []) s.sm.bobs b with
  | [_, st, cur, last, wn, lp, sh, me] =>
    natBe 1 5 ++ natBe 1 0 ++ natBe 2 b ++ natBe 1 st ++ natBe 1 0 ++ natBe 2 cur ++ natBe 4 last ++ natBe 2 wn ++ natBe 2 lp ++
      natBe 8 sh ++ natBe 8 me
  | _ => List.replicate 32 0

/-- A neighbour's row of NEIGHBOURS. -/
def State.neighbourRow (s : State) (p : Nat × Neighbour) : List Byte :=
  let x := p.2
  let v := x.vec.getD (0, 255)
  let tree := (match s.joinParent with | some (_, q) => q == p.1 | none => false) || s.joinChildren.contains p.1
  natBe 2 p.1 ++ natBe 2 x.node ++ slice x.uid 0 16 ++ natBe 2 v.1 ++ natBe 1 v.2 ++ natBe 1 (bit tree) ++
    natBe 4 ((s.mer - x.heard) / msTicks)

/-- The last completed snapshot (OD 0xF000.03). -/
def State.snapOctets (s : State) : List Byte :=
  let w (o : Nat) : Word := Sparse.get (fun _ => 0) (if s.flag OBS_SNAPCTL OBS_SNAPCTL_BANK then s.snapBank1 else s.snapBank0) o
  natBe 4 (s.rd OBS_SNAPSEQ).toNat ++ natBe 8 (s.rd64 OBS_SNAPT_LO) ++
    (List.range 4096).flatMap (fun c => wordBe (w (8 * c + 4)) ++ wordBe (w (8 * c))) ++
    (List.range 2048).flatMap (fun k => wordBe (w (0x8000 + 4 * k)))

/-- Remove up to n completion records. -/
def State.cqDrain (s : State) : Nat → List Byte × State
  | 0 => ([], s)
  | n + 1 =>
    if s.cq.isEmpty then ([], s)
    else
      let (w, t) := s.cqTake
      let (l, u) := t.cqDrain n
      (w.flatMap wordBe ++ l, u)

/-- Low halves of n words. -/
def State.wordHalves (s : State) (a n : Nat) : List Byte := (List.range n).flatMap (fun j => natBe 2 (s.rd (a + 4 * j)).toNat)

/-- DOMAINs whose READ selects records by FIRST and COUNT, with the number of records that there are and octets of one. -/
def domSelect (tag : Nat) : Option (Nat × Nat) :=
  match domTabs.find? (fun d => d.tag == tag) with
  | some d => some (d.count, 4 + 4 * d.words)
  | none =>
    match tag with
    | 0xC00202 => some (65536, 8)
    | 0xC00301 => some (2097152, 20)
    | 0xC00401 => some (1114112, 20)
    | 0xC00501 => some (4096, 532)
    | 0xC00503 => some (2 ^ 32, 12)
    | 0xC01402 => some (2 ^ 32, 128)
    | 0xC02003 => some (2 ^ 32, 8)
    | 0xC02201 => some (64, 16)
    | 0xC03003 => some (4096, 24)
    | 0xC03004 => some (4096, 64)
    | 0xE00101 => some (4096, 32)
    | 0x006008 => some (4096, 32)
    | 0x00810C => some (50331648, 1)
    | 0x008301 => some (2 ^ 32, 64)
    | 0x00B00C => some (1024, 32)
    | 0xF00202 => some (2048, 128)
    | _ => none

/-- The octets that FIRST and COUNT select from a DOMAIN, with what its read clears. -/
def State.domRead (s : State) (r : Od) (idx first count : Nat) : List Byte × State :=
  let k := r.inst idx
  let sel := (List.range count).map (fun j => first + j)
  if domTabs.any (fun d => d.tag == r.tag) then s.readRecords r.tag sel
  else
    match r.tag with
    | 0x000305 => (s.oap.sessions.flatMap s.sessionRow, s)
    | 0x000307 =>
      ((List.range 13).flatMap (fun c => natBe 4 (Sparse.get (fun _ => 0) s.oap.cnt c)), { s with oap := { s.oap with cnt := [] } })
    | 0x400003 => ((s.dropsTake k).1.flatMap (natBe 8), (s.dropsTake k).2)
    | 0x400004 => (s.tenantRow k, s)
    | 0x100007 => s.readLongs (PORT_STATSn k 0) 16
    | 0x300008 => s.readWords (LCn_CNT k 0) 14
    | 0x320004 => s.readLongs (PCm_STATS k 0) 16
    | 0x328003 => s.readWords (MBb_CNT k 0) 14
    | 0x800303 => s.readWords (VBn_CNT k 0) 14
    | 0xC00202 =>
      (sel.flatMap (fun j => natBe 8 (s.rd64 (RULE_HITS j))), sel.foldl (fun t j => t.wr64 (RULE_HITS j) 0) s)
    | 0xC00301 => (sel.flatMap (fun j => natBe 4 j ++ (match s.staAt j with
        | some e => e.words.flatMap wordBe
        | none => List.replicate 16 0)), s)
    | 0xC00401 => (sel.flatMap (fun j => natBe 4 j ++ (match s.lpm[j]? with
        | some e => natBe 4 (2 ^ 24 * e.fam + 2 ^ 16 * e.len + e.owner) ++ natBe 4 e.key ++ natBe 4 (e.key / 2 ^ 32) ++
            natBe 4 (2 ^ 31 * bit e.inter + e.leaf)
        | none => List.replicate 16 0)), s)
    | 0xC00501 => s.readRecords r.tag sel
    | 0xC00503 => s.readRecords r.tag sel
    | 0xC00602 => s.readWords (CORE_TBLCNTc 0) 9
    | 0xC01402 => (sel.flatMap (fun j => slice (Sparse.get (fun _ => []) s.svRing (j / 2 ^ 31 * 4194304 + j % 4194304)) 0 128), s)
    | 0xC01403 => s.readEach 8 ((List.range 16).map (fun p => CORE_PNLp_CNTc p 0))
    | 0xC02003 => s.readRecords r.tag sel
    | 0xC02201 => s.cqDrain (min 64 count)
    | 0xC02202 => s.readEach 1 ((List.range 128).map (fun e => PANEL_ENGe_STAT e))
    | 0xC02203 => (List.range 128).foldl (fun p e =>
        let (l, t) := p.2.readWords (PANEL_ENGe_CNTc e) 8
        let (m, u) := t.readLongs (PANEL_ENGe_CNTc e + 48) 1
        (p.1 ++ l ++ m, u)) ([], s)
    | 0xC03003 => (sel.flatMap (fun b => natBe 4 b ++ s.wordOctets (bobWord b 16) 5), s)
    | 0xC03004 => sel.foldl (fun p b =>
        let (l, t) := p.2.readWords (BOBBIN_CNT b 0) 15
        (p.1 ++ natBe 4 b ++ l, t)) ([], s)
    | 0xE00101 => s.readEach 8 (sel.map (fun x => KEY_ATTR x 0))
    | 0xE00201 => s.readWords (CIPH_LANEn 0) 32
    | 0xE00203 => s.readEach 7 ((List.range 32).map (fun n => CIPH_LANECNTn n 0))
    | 0xE00205 => s.readWords (CIPH_PROOFu 0) 4
    | 0x006008 => (sel.flatMap s.twinBobRow, s)
    | 0x006009 => s.readWords (SEAM_CNTc 0) 13
    | 0x00810C =>
      let m := s.img s.runBank
      (match (List.range (m.field 6 2)).find? (fun j => m.field (64 + 64 * j) 1 == 2) with
       | some j => (((m.read (m.field (72 + 64 * j) 4) (m.field (76 + 64 * j) 4)).drop first).take count, s)
       | none => ([], s))
    | 0x008301 => (sel.flatMap (fun q =>
        let o := Sparse.get (fun _ => []) s.th.logRing (q % 131072)
        if beAt o 0 4 = q % 2 ^ 32 ∧ !o.isEmpty then slice o 0 64 else List.replicate 64 0), s)
    | 0x008401 => (s.wordHalves (THIM_TSENSn 0) 64, s)
    | 0x008402 => (s.wordHalves (THIM_VMONn 0) 32, s)
    | 0x008403 => s.readWords (THIM_RAILr 0) 16
    | 0x008503 => (match s.anchor with
        | some g => slice g 0 4088
        | none => List.replicate 4088 0, s)
    | 0x00B00C => (sel.flatMap (fun n => match s.jn.table.find? (fun p => p.1 == n) with
        | some p => slice p.2 0 32
        | none => List.replicate 32 0), s)
    | 0x00B00D => (s.jn.neighbours.flatMap s.neighbourRow, s)
    | 0xF00003 => (s.snapOctets, s)
    | 0xF00202 => (sel.flatMap (fun j => s.wordOctets (TAGRING j 0) 32), s)
    | 0xF00303 => s.readEach 1 [OBS_OLSTAT, OBS_TRCNTd 0, OBS_TRCNTd 0 + 4, OBS_TRCNTd 1, OBS_TRCNTd 1 + 4]
    | 0xF01001 => s.readEach 7 ((List.range 8).map (fun c => ECC_CLSk c + 4))
    | 0xF03002 =>
      (((List.range 256).filter (fun e => s.coal.any (fun p => p.1 == e))).flatMap (fun e =>
        (List.range 8).flatMap (fun j => wordBe (s.coalWord e j))), s)
    | _ => ([], s)

end Sys2Proof.Machine
end

