-- ==== Sys2Proof/Machine/DictPut.lean ====
section
/-! DEFINITION. Writes of dictionary objects: spec/14 R440 to R445, R452, R454, R467, R468, R472, and the rules that each
chapter gives the writes of its objects. -/

namespace Sys2Proof.Machine

/-! ### Register writes with their refusals (R452) -/

/-- A field of word a that overlaps bits hi to lo is RWL and its block is locked. -/
def State.rwlLocked (s : State) (a hi lo : Nat) : Bool :=
  s.locked a && (match regDesc? a with
    | some d => d.fields.any (fun f => f.ty = .rwl && decide (f.fld.lo ≤ hi) && decide (lo ≤ f.fld.hi))
    | none => false)

/-- Whether the rules of word a take a write of w, its lock aside; `who`: the staging copy it uses (R249). -/
def State.regOk (s : State) (who a : Nat) (w : Word) : Bool :=
  if s.notReady a then false
  else if !s.reaches a then false
  else if 0x41000 ≤ a ∧ a < 0x45000 then
    let c := (a - 0x41000) / 256
    match (a - 0x41000) % 256 with
    | 0x00 => (s.chanCfg .thimble c w).1
    | 0x04 => (s.chanTiming .thimble c a w).1
    | 0x08 => (s.chanTiming .thimble c a w).1
    | 0x0C => (s.chanTiming .thimble c a w).1
    | 0x10 => (s.chanTiming .thimble c a w).1
    | 0x14 => !(getB w LCn_TRX_REQ_V && (match (s.chan c).trans with | some t => t.deaf | none => false))
    | 0x18 => (s.chanWake .thimble c w).1
    | _ => true
  else if 0x46000 ≤ a ∧ a < 0x47000 ∧ a % 256 = 0 then (s.plcaCfg .thimble ((a - 0x46000) / 256) w).1
  else if 0x81000 ≤ a ∧ a < 0xC1000 then
    let v := (a - 0x81000) / 64
    match (a - 0x81000) % 64 with
    | 0x00 => (s.vbCfg .thimble v w).1
    | 0x18 => (s.vbWakeWrite .thimble v w).1
    | n => if 4 ≤ n ∧ n ≤ 0x14 then (s.vbHeldWrite .thimble v a w).1 else true
  else if 0x300000 ≤ a ∧ a < 0x310000 ∧ a % 64 = 0 then (s.portCfg .thimble ((a - 0x300000) / 64) w).1
  else if 0xD00000 ≤ a ∧ a < 0xE00000 then
    let v := (a - 0xD00000) / 256
    a % 16 = 4 || (s.vbHeldWrite .thimble v a w).1
  else if ownerTable a ≠ 0 then (s.ownerWrite .thimble a w).1
  else if 0x1800000 ≤ a ∧ a < 0x1805100 then (s.pageBaseWrite .thimble a w).1
  else if 0x1820000 ≤ a ∧ a < 0x1828000 then (s.tenantWrite .thimble a w).1
  else if 0x8000000 ≤ a ∧ a < 0x8800000 then (s.imemWrite ((a - 0x8000000) / 65536) ((a - 0x8000000) % 65536 / 4) w).1
  else
    match stagedEntry? a with
    | some (d, base, k) =>
      if k ≠ d.commit then true
      else if d.base = 0x0A000000 then (s.progCommit who ((base - d.base) / 64) w).1
      else if d.base = 0x0A100000 then (s.sqCommit who ((base - d.base) / 32) w).1
      else (s.tableCommit who a w).1
    | none => true

/-- A register write through the Thimble and its status: STATE where a rule refuses it, which then leaves the word as it
was (R444). `who`: the staging copy it uses. -/
def State.odWord (s : State) (a : Nat) (w : Word) (who : Nat := ifaceNum .thimble) : Nat × State :=
  let t := s.regWriteAs .thimble who a w
  if s.regOk who a w then (0, t) else (5, t.wr a (s.rd a))

/-- The staging copy of an OAP session (R249). -/
def sessionWho (ses : Nat) : Nat := 16 + ses

/-- The whole word. -/
def State.odReg (s : State) (a : Nat) (w : Word) (who : Nat := ifaceNum .thimble) : Nat × State :=
  if s.rwlLocked a 31 0 then (5, s) else s.odWord a w who

/-- Bits hi to lo of a word, with its event bits, commands and locks not written. -/
def State.odBits (s : State) (a hi lo v : Nat) : Nat × State :=
  let keep := match regDesc? a with
    | some d => (RegDesc.cleared d .wo (RegDesc.cleared d .w1c (s.rd a))) &&& ~~~(RegDesc.mask d .w1s)
    | none => s.rd a
  let w := setF keep ⟨hi, lo⟩ v
  if s.rwlLocked a hi lo then (5, s) else s.odWord a w
def State.odFld (s : State) (a : Nat) (f : Fld) (v : Nat) : Nat × State := s.odBits a f.hi f.lo v

/-- A TENANT object's value in the bits of BOUND and TENANT. -/
def State.odTenant (s : State) (a : Nat) (v : List Byte) : Nat × State :=
  s.odBits a 10 0 (if beNat v = 65535 then 0 else 1024 + beNat v)

/-- Words written one after another; the first refusal ends them. -/
def State.odRegs (s : State) (l : List (Nat × Word)) (who : Nat := ifaceNum .thimble) : Nat × State :=
  match l with
  | [] => (0, s)
  | (a, w) :: l =>
    let (c, t) := s.odReg a w who
    if c = 0 then t.odRegs l who else (c, t)

/-- The words of a value from address a on. -/
def wordsAt (a : Nat) (v : List Byte) : List (Nat × Word) :=
  (List.range (v.length / 4)).map (fun k => (a + 4 * k, BitVec.ofNat 32 (beAt v (4 * k) 4)))

/-- The words of an entry, its commit word (number c) last (R252). -/
def commitLast (a c : Nat) (v : List Byte) : List (Nat × Word) :=
  let l := wordsAt a v
  l.filter (fun p => p.1 != a + 4 * c) ++ l.filter (fun p => p.1 == a + 4 * c)

/-- An object that no register holds; a change of a stored one is noted (R523). -/
def State.odKeep (s : State) (tag v : Nat) : Nat × State :=
  (0, if s.od tag = v then s else (s.setOd tag v).markDirty)

/-- Written in turn; the first refusal ends them. -/
def State.odAll {α : Type} (s : State) (f : State → α → Nat × State) : List α → Nat × State
  | [] => (0, s)
  | x :: l =>
    let (c, t) := f s x
    if c = 0 then t.odAll f l else (c, t)

/-- Bits of a U32 value that its object does not have. -/
def stray (v : List Byte) (hi lo : Nat) : Bool := beNat v != bits (beNat v) hi lo * 2 ^ lo

/-! ### Datums (R94, R97, R107) -/

/-- Status of a RESULT of R638. -/
def datumStatus (r : Nat) : Nat := match r with | 0 => 0 | 1 => 8 | 2 => 7 | _ => 5

/-- A subindex of a datum object is written: its status. A change that the twin must hold first is answered when it is
complete (R86). -/
def State.datumPut (s : State) (ses d sub v : Nat) : Nat × State :=
  let g := s.odStage ses d
  match sub with
  | 6 => (0, if (s.datum d).follow = (v == 1) then s else State.markDirty (s.setFollow d (v == 1)))
  | 0x10 => (0, s.setOdStage ses d { g with eff := v })
  | 0x11 => (0, s.setOdStage ses d { g with step := v == 1 })
  | 0x12 => (0, s.setOdStage ses d { g with offset := v })
  | 0x13 => (0, s.setOdStage ses d { g with rate := v })
  | _ =>
    let src : DatumSrc := .dict ses d
    let c := datumStatus (s.datumFirst src (s.datumReq src) (v == 1))
    (c, if v = 1 then s.datumCommitOp src else s.datumCancelOp src)

/-! ### Values (R472, R473 and the object tables) -/

/-- The taps of each of n lane entries are within their limits (R114). -/
def eqsOk (n : Nat) (v : List Byte) : Bool := (List.range n).all (fun l => tapsOk (BitVec.ofNat 32 (beAt v (8 * l) 4)))

/-- A value written to an object that is no DOMAIN, by a session of a role: its status and effect. `twin` is the
UPDATE_STATE word that the twin answers an ACTIVATE with (R533). -/
def State.odPut (s : State) (ses role : Nat) (r : Od) (idx sub : Nat) (v : List Byte) (twin : Option Nat) : Nat × State :=
  let k := r.inst idx
  let x := beNat v
  if r.base = 0x4002 ∨ r.base = 0x0040 then s.datumPut ses (odDatumOf r idx) sub x
  else
    match r.tag with
    | 0x000103 => (0, s.stateReq x)
    | 0x000201 => (0, s.dataStop)
    | 0x000301 => s.odKeep r.tag x
    | 0x000302 => s.odKeep r.tag (mapNat v)
    | 0x000304 => s.odKeep r.tag x
    | 0x400001 => s.odKeep (256 * idx + 1) (if v.isEmpty then 0 else beNat (1 :: v))
    | 0x400002 => (0, s.tenantStop k)
    | 0x004801 => (0, if s.servo.mode = x then s else State.markDirty (s.servoMode x))
    | 0x100101 =>
      if s.portLanes k ≤ sub - 1 then (7, s) else s.odRegs (commitLast (EQ_TRUNK (k + sub - 1)) 0 v) (sessionWho ses)
    -- every lane is judged before any is written (R444)
    | 0x00600B => if !eqsOk 16 v then (5, s) else s.odAll (fun t l => t.odRegs (commitLast (EQ_SEAM l) 0 (slice v (8 * l) 8)) (sessionWho ses)) (List.range 16)
    | 0xF00304 => if !eqsOk 2 v then (5, s) else s.odAll (fun t l => t.odRegs (commitLast (EQ_OBS l) 0 (slice v (8 * l) 8)) (sessionWho ses)) (List.range 2)
    | 0x100001 => s.odFld (PORT_CFGn k) PORT_CFGn_EN x
    | 0x100002 => if stray v 29 18 then (7, s) else s.odBits (PORT_CFGn k) 29 18 (bits x 29 18)
    | 0x100003 => s.odTenant (PORT_CFGn k) v
    | 0x100005 => s.odFld (PORT_FRAMEn k) PORT_FRAMEn_MAXLEN x
    | 0x100006 => s.odFld (PORT_GCTLn k) PORT_GCTLn_CHANGE 1
    | 0x300001 => s.odFld (LCn_CFG k) LCn_CFG_EN x
    | 0x300002 => if stray v 30 11 then (7, s) else s.odBits (LCn_CFG k) 30 11 (bits x 30 11)
    | 0x300003 => s.odTenant (LCn_CFG k) v
    | 0x300004 => s.odBits (LCn_TRX k) 31 29 (2 * x + 1)
    | 0x300006 => s.odReg (LCn_WAKE k) (BitVec.ofNat 32 x)
    | 0x300007 => s.odReg (LCn_WTIME k) (BitVec.ofNat 32 x)
    | 0x320001 => s.odFld (PCm_CFG k) PCm_CFG_EN x
    | 0x320002 => s.odTenant (PCm_CFG k) v
    | 0x320003 => s.odReg (PCm_PLCA k) (BitVec.ofNat 32 x)
    | 0x800001 => s.odFld (VBn_CFG k) VBn_CFG_EN x
    | 0x800002 => s.odTenant (VBn_CFG k) v
    | 0x800003 => if stray v 30 15 then (7, s) else s.odBits (VBn_CFG k) 30 15 (bits x 30 15)
    | 0x800004 => if nbtOk (s.vbProto k) x then s.odReg (VBn_NBT k) (BitVec.ofNat 32 x) else (7, s)
    | 0x800005 =>
      if x < 2 ^ 18 ∧ dbtOk (s.vbProto k) (s.fld (VBn_NBT k) VBn_NBT_NBT) x then s.odReg (VBn_DBT k) (BitVec.ofNat 32 x) else (7, s)
    | 0x800006 => s.odReg (VBn_LEAD k) (BitVec.ofNat 32 x)
    | 0x800007 => s.odReg (VBn_GWDLY k) (BitVec.ofNat 32 x)
    | 0x800101 => s.odRegs (wordsAt (MEMBER k (sub - 1)) v)
    | 0x800201 => s.odFld (VBn_SLEEP k) VBn_SLEEP_REQ x
    | 0x800202 => s.odReg (VBn_WAKE k) (BitVec.ofNat 32 x)
    | 0x800203 => s.odReg (VBn_WTIME k) (BitVec.ofNat 32 x)
    | 0x340001 => s.odRegs (commitLast (ATTACH k) 0 v) (sessionWho ses)
    | 0x380001 => s.odRegs (commitLast (INJECTOR k) 0 v) (sessionWho ses)
    | 0x400301 => if bits x 15 0 = 0 ∨ 61439 < bits x 15 0 then (7, s) else s.odReg (TENANT k) (BitVec.ofNat 32 x)
    | 0x400302 => s.odReg (TENANT k + 4) (BitVec.ofNat 32 x)
    | 0x400304 => s.odReg (TENANT k + 12) (BitVec.ofNat 32 x)
    | 0x400305 => s.odRegs [(TENANT k + 16, BitVec.ofNat 32 (x / 65536)), (TENANT k + 20, setF (s.rd (TENANT k + 20)) TENANT_RMAC_LO (x % 65536))]
    | 0x400306 => s.odReg (TENANT k + 24) (BitVec.ofNat 32 x)
    | 0x400401 => s.odReg (SPILLCAP k) (BitVec.ofNat 32 x)
    | 0xC00601 => (0, s.fenceWrite (setF 0 CORE_TBLFENCE_REQ 1))
    | 0xC01001 => s.odRegs (wordsAt (CORE_PNLp_ALPHA0 (sub - 1)) v)
    | 0xC01101 => s.odRegs (wordsAt (CORE_HSELk (sub - 1)) v)
    | 0xC01401 => if stray v 29 28 then (7, s) else s.odBits CORE_CTRL 29 28 (bits x 29 28)
    | 0xC02204 => s.odFld PANEL_STCTRL PANEL_STCTRL_STALL_LIMIT x
    | 0xC03002 =>
      let b := beAt v 0 2
      let op := oct v 2
      if 4095 < b ∨ op = 0 ∨ 6 < op ∨ oct v 3 ≠ 0 then (7, s)
      else
        let (ok, t) := s.bobCmd op b (beAt v 4 8)
        (if ok then 0 else 5, t)
    | 0xC03005 => s.odRegs (wordsAt (CORE_BOBWINDw 0) v)
    | 0xC03006 => s.odFld CORE_BOBCFG CORE_BOBCFG_WIND_ETYPE x
    | 0xC03007 => s.odAll (fun t p => t.odFld (CORE_PNLp_STAGE p) CORE_PNLp_STAGE_STAGE_MAX (beAt v (2 * p) 2)) (List.range 16)
    | 0xE00202 => s.odAll (fun t n => t.odFld (CIPH_LANEn n) CIPH_LANEn_EN (x / 2 ^ n)) (List.range 32)
    | 0xE00204 => s.odFld CIPH_CTRL CIPH_CTRL_ALM_LIMIT x
    | 0x006005 => s.takeover
    | 0x006006 => s.odFld SEAM_CTRL SEAM_CTRL_HSYNC x
    | 0x006007 => s.odFld SEAM_ASYM SEAM_ASYM_ASYM (x % 65536)
    | 0x00600C => s.odFld SEAM_CTRL SEAM_CTRL_EN x
    | 0x008001 => s.save
    | 0x008102 => s.blockHeader ses v
    | 0x008106 => if x = 3 then s.activateSkip else
        let (c, _, t) := s.activate x twin
        (c, t)
    | 0x008107 => (0, s.confirm)
    | 0x00810A => s.discard
    | 0x008201 => if bits x 15 10 ≠ 0 then (7, s)
        else if x = s.od r.tag then (0, s)
        else State.odKeep (State.setThread s ThreadSt.reset) r.tag x
    | 0x008404 => s.odReg THIM_THERM (BitVec.ofNat 32 x)
    | 0x008405 => s.odAll (fun t q =>
        let c := t.odFld (THIM_RAILCFGr q) THIM_RAILCFGr_VALID (oct v q / 128)
        if c.1 = 0 then c.2.odFld (THIM_RAILCFGr q) THIM_RAILCFGr_ADDR (oct v q % 128) else c) (List.range 8)
    | 0x008504 => s.revoke x
    | 0x009001 =>
      let c := s.powerJudge (x % 128)
      (c, if c = 0 then s.powerGo (x % 128) (x / 128 == 1) else s)
    | 0x009003 => s.odReg SYS_PWR_WAKE (BitVec.ofNat 32 x)
    | 0x009004 => s.odRegs [(SYS_PWR_LOOMSRC0, BitVec.ofNat 32 (mapNat v)), (SYS_PWR_LOOMSRC1, BitVec.ofNat 32 (mapNat v / 2 ^ 32))]
    | 0x009005 => s.odReg SYS_PWR_TIMER (BitVec.ofNat 32 x)
    | 0x009006 => s.odRegs ((List.range 32).map (fun w => (SYS_PWR_DROWSYw w, BitVec.ofNat 32 (mapNat (slice v (4 * w) 4)))))
    | 0x009007 => s.odFld SYS_PWR_CTRL SYS_PWR_CTRL_DROWSY_IDLE x
    | 0x009009 => if x = 1 then s.wakeClear else s.suppClear
    | 0x00A002 => s.lifecycleReq v
    | 0x00A004 => s.obsReq x role
    | 0x00B001 => if 64 < ((List.range 1024).filter (fun n => (mapNat v).testBit n)).length then (7, s) else s.odKeep r.tag (mapNat v)
    | 0x00B003 => s.odKeep r.tag (mapNat v)
    | 0xF00002 => (0, s.snapStart (x == 2))
    | 0xF00004 => s.odFld OBS_SNAPCTL OBS_SNAPCTL_PERIOD x
    | 0xF00201 => s.odReg OBS_TAGCTL (BitVec.ofNat 32 x)
    | 0xF00301 => s.odReg OBS_TRCTL (BitVec.ofNat 32 x)
    | 0xF00302 => s.odRegs (wordsAt OBS_TRPORT v)
    | 0xF01002 => s.odRegs ((List.range 7).map (fun c => (ECC_CLSk c, BitVec.ofNat 32 (beAt v (4 * c) 4))))
    | 0xF01003 => s.odAll (fun t c => t.odFld (ECC_CLSk c + 28) ECC_CLSk_PERIOD (beAt v (2 * c) 2)) (List.range 7)
    | 0xF03003 => s.odReg OBS_COAL (BitVec.ofNat 32 x)
    | _ => s.odKeep r.tag x

/-! ### Records (R252, R454) -/

/-- Octets of the record that begins a segment. -/
def recordLen (tag : Nat) (seg : List Byte) : Nat :=
  match tag with
  | 0xC00301 => 20
  | 0xC00401 => 16
  | 0xF03001 => 24
  | _ => domRecLen tag (beAt seg 0 4)

/-- The segment holds whole records. -/
def wholeRecords (tag : Nat) : Nat → List Byte → Bool
  | 0, l => l.isEmpty
  | n + 1, l =>
    let k := recordLen tag l
    l.isEmpty || (decide (k ≤ l.length) && wholeRecords tag n (l.drop k))

/-- A role higher than the object's that an entry's values ask for: INTER (R228, R241), TENANT of a program or bobbin. -/
def State.recordRole (s : State) (tag k : Nat) (w : Nat → Word) : Nat :=
  match tag with
  | 0xC00103 => if getB (w 0) DESCRIPTOR_INTER then 2 else 0
  | 0xC00503 => if k < 2 ^ 31 ∧ getB (w 0) GROUP_INTER then 2 else 0
  | 0xC02001 => if getF (w 0) PROGRAM_TENANT ≠ s.fld (PROGRAM k) PROGRAM_TENANT then 2 else 0
  | 0xC03001 => if getF (w 0) BOBBIN_TENANT ≠ s.fld (BOBBIN k) BOBBIN_TENANT then 2 else 0
  | _ => 0

/-- Write the defined words of an entry through a session's staging copy, the commit word last (word 16 of a filter rule,
otherwise word 0). -/
def State.putEntry (s : State) (ses tag : Nat) (l : List (Nat × Word)) : Nat × State :=
  let c := match l with | p :: _ => p.1 + (if tag = 0xC00201 then 64 else 0) | [] => 0
  let l := l.filter (fun p => match regDesc? p.1 with
    | some d => d.fields.any (fun f => f.ty != .ro && f.ty != .rc)
    | none => false)
  s.odRegs (l.filter (fun p => p.1 != c) ++ l.filter (fun p => p.1 == c)) (sessionWho ses)

/-- One record of a session is applied: its status. -/
def State.putRecord (s : State) (ses tag role : Nat) (o : List Byte) : Nat × State :=
  match tag with
  | 0xC00301 =>
    let w := BitVec.ofNat 32 (beAt o 0 4)
    let op := getF w CORE_STACMD_OP
    if op = 0 ∨ 5 < op then (7, s)
    else
      let (r, _, t) := s.staRun op (getB w CORE_STACMD_STATIC_ONLY) ((List.range 4).map (fun k => BitVec.ofNat 32 (beAt o (4 + 4 * k) 4)))
      (if r = 0 then 0 else 5, t)
  | 0xC00401 =>
    let w := BitVec.ofNat 32 (beAt o 0 4)
    let leaf := BitVec.ofNat 32 (beAt o 12 4)
    let fam := getF w CORE_LPMCMD_FAMILY
    let op := getF w CORE_LPMCMD_OP
    if op = 0 ∨ 4 < op then (7, s)
    else if getB leaf CORE_LPMLEAF_INTER ∧ op = 1 ∧ role < 2 then (3, s)
    else
      let (r, _, t) := s.lpmRun op fam (getF w CORE_LPMCMD_OWNER) (if op = 3 then 0 else getF w CORE_LPMCMD_LEN)
        (lpmKeyOf fam (BitVec.ofNat 32 (beAt o 4 4)) (BitVec.ofNat 32 (beAt o 8 4))) (getB leaf CORE_LPMLEAF_INTER)
        (getF leaf CORE_LPMLEAF_LEAF)
      (if r = 0 then 0 else 5, t)
  | 0xF03001 =>
    if 3 < oct o 6 ∨ oct o 7 ≠ 0 ∨ 1023 < beAt o 4 2 ∨ !zeroAt o 10 6 then (7, s)
    else match s.reportFile { suspect := beAt o 0 4, reporter := beAt o 4 2, sev := oct o 6, code := beAt o 8 2 } with
      | some t => (0, t)
      | none => (9, s)
  | _ =>
    let k := beAt o 0 4
    match domAddrs tag k with
    | none => (7, s)
    | some l =>
      let w (j : Nat) : Word := BitVec.ofNat 32 (beAt o (4 + 4 * j) 4)
      if role < s.recordRole tag k w then (3, s)
      else if tag = 0xC02003 ∧ !s.inWindow k then (5, s)
      else s.putEntry ses tag ((List.range l.length).map (fun j => (l.getD j 0, w j)))

/-- The records of a segment in turn: how many are applied, the status of the first refused, and the effect. -/
def State.putRecords (s : State) (ses tag role : Nat) : Nat → List Byte → Nat × Nat × State
  | 0, _ => (0, 0, s)
  | n + 1, l =>
    if l.isEmpty then (0, 0, s)
    else
      let k := recordLen tag l
      let (c, t) := s.putRecord ses tag role (l.take k)
      if c ≠ 0 then (0, c, t)
      else
        let (m, c, u) := t.putRecords ses tag role n (l.drop k)
        (m + 1, c, u)

/-! ### What decides whether a write is taken (R418, R423, R443, R467, R544) -/

/-- Objects whose writes the twin does not take part in: per-twin objects, lane equalisation, keys and datums (R418, R422). -/
def ownObject (r : Od) (sub : Nat) : Bool :=
  r.base == 0x0060 || (decide (0x0080 ≤ r.base) && decide (r.base ≤ 0x0085)) || r.base == 0x0090 || r.base == 0x00A0 ||
    r.tag == 0x00B001 || decide (0xF000 ≤ r.base) || r.base == 0x1001 || r.base == 0xE000 ||
    ((r.base == 0x4002 || r.base == 0x0040) && sub != 6)

/-- A stop command (R467). -/
def isStop (r : Od) (v : List Byte) : Bool :=
  (isEnable r.tag && beNat v == 0) || (r.tag == 0xC03002 && oct v 2 == 5) || r.tag == 0x400002 || r.tag == 0x000201

/-- Objects that reach the table-window region. -/
def inTables (r : Od) : Bool :=
  r.base == 0x1001 || r.base == 0x8001 || r.base == 0x3400 || r.base == 0x3800 || r.base == 0x4003 || r.base == 0x4004 ||
    r.tag == 0x00600B || r.tag == 0xF00304 || domTabs.any (fun d => d.tag == r.tag) ||
    [0xC00202, 0xC00301, 0xC00401, 0xC00501, 0xC00503, 0xC01402, 0xC02002, 0xC02003, 0xC03003, 0xC03004, 0xE00101, 0x800303,
     0xF00003, 0xF00202, 0xF03002].contains r.tag

/-- STANDBY refuses the object's write, or its read (R544). -/
def State.standbyRefuses (s : State) (r : Od) : Bool := s.powerState == 2 && inTables r
def State.standbyRefusesWrite (s : State) (r : Od) (v : List Byte) : Bool :=
  s.powerState == 2 && (inTables r || r.tag == 0xC03002 ||
    ([0x100001, 0x320001, 0x800001].contains r.tag && beNat v == 1))

end Sys2Proof.Machine
end

