-- ==== Sys2Proof/Machine/Txn.lean ====
section
/-! DEFINITION. What a WRITE is judged by, its application, and the transactions of a paired Zalore: spec/13 R423, R424, R434,
R436 and R437, spec/14 R439 to R447, R452 and R454. -/

namespace Sys2Proof.Machine

/-! ### Judging a request (R444) -/

/-- The row of index.sub, with that of subindex 0 (R439). -/
def odEntry (idx sub : Nat) : Option Od :=
  if sub = 0 then (if odTop idx = 0 then none else some (od1 idx 1 1 0 (.u 1) .const 0)) else odFind idx sub

/-- Fields of a WRITE body. -/
def wrIndex (b : List Byte) : Nat := beAt b 0 2
def wrSub (b : List Byte) : Nat := oct b 2
def wrFinal (b : List Byte) : Bool := (oct b 3).testBit 0
def wrOffset (b : List Byte) : Nat := beAt b 4 4

/-- The value's length and the segment's layout fit the object (R440, R452, R454). -/
def wrLenOk (r : Od) (b : List Byte) : Bool :=
  let v := b.drop 8
  decide (8 ≤ b.length) && oct b 3 / 2 == 0 &&
    (match r.ty with
     | .msg => true
     | .dom => wrFinal b && wrOffset b == 0 && wholeRecords r.tag v.length v
     | .str n => wrFinal b && wrOffset b == 0 && decide (v.length ≤ n)
     | ty => wrFinal b && wrOffset b == 0 && ty.size == some v.length)

/-- The node state takes a write of the object (R441, R445). -/
def State.nodeTakes (s : State) (r : Od) (v : List Byte) : Bool :=
  (s.acceptsWrites && (r.acc != .rwc || s.node == .config)) || (s.node == .safe && isStop r v)

/-- Checks 6 to 12 of a WRITE by a role, and the refusals of STANDBY and of a twin without authority (R434, R544). -/
def State.writeCheck (s : State) (role : Nat) (b : List Byte) : Nat :=
  let v := b.drop 8
  match odEntry (wrIndex b) (wrSub b) with
  | none => 1
  | some r =>
    if r.acc = .const ∨ r.acc = .ro then 2
    else if role < r.role then 3
    else if s.obsLevel < r.obs then 4
    else if !s.nodeTakes r v || s.standbyRefusesWrite r v then 5
    else if !wrLenOk r b then 6
    else if r.ty ≠ .dom ∧ r.ty ≠ .msg ∧ !r.inRange v then 7
    else if !ownObject r (wrSub b) && s.refusesConfig then 5
    else 0

/-- Check 13 and the write itself, for an object that is no message DOMAIN: status, response body, effect. -/
def State.writeRun (s : State) (ses role : Nat) (b : List Byte) (twin : Option Nat) : Nat × List Byte × State :=
  let v := b.drop 8
  match odEntry (wrIndex b) (wrSub b) with
  | none => (1, [], s)
  | some r =>
    if r.ty = .dom then
      let (m, c, t) := s.putRecords ses r.tag role v.length v
      (c, natBe 4 m, t)
    else
      let (c, t) := s.odPut ses role r (wrIndex b) (wrSub b) v twin
      (c, [], if c = 0 ∧ isStop r v then t.oapCount 12 else t)

/-- The write could not be applied even in part. -/
def writeRefused (x : Nat × List Byte × State) : Bool := x.1 != 0 && beNat x.2.1 == 0

/-- Priority class of a response: 0 for a stop command's, otherwise 2 (R457). -/
def writeClass (b : List Byte) : Nat :=
  match odEntry (wrIndex b) (wrSub b) with
  | some r => if isStop r (b.drop 8) then 0 else 2
  | none => 2

/-! ### The response of a write -/

/-- The response of an executed request waits: kind 1 for a key-update result, 2 for a fence, 3 for a datum change that the
twin must hold, 4 for the save in progress, 5 for the save after it (R86, R252, R401, R523). -/
def State.oapWait (s : State) (kind : Nat) (r : OapReq) : State :=
  { s with oap := { s.oap with waits := s.oap.waits ++ [(kind, r)] } }

/-- The oldest response of a kind that waits leaves with a status. -/
def State.oapWake (s : State) (kind status : Nat) : State :=
  match s.oap.waits.find? (fun w => w.1 == kind) with
  | none => s
  | some w =>
    State.oapReply { s with oap := { s.oap with waits := s.oap.waits.erase w } } w.2 (writeClass (pduBody w.2.pdu)) status []

/-- Subindex 0x14 of a datum object (R107). -/
def datumCommitAt (idx sub : Nat) : Bool :=
  sub == 0x14 && (match odFind idx sub with | some r => r.base == 0x4002 || r.base == 0x0040 | none => false)

/-- A write that ran is answered, with what follows its response: LIFECYCLE_REQ's last step (R558), the EtherType under
which this response still leaves (R472). -/
def State.writeAnswer (old : State) (req : OapReq) (b : List Byte) (x : Nat × List Byte × State) : State :=
  let t := x.2.2
  let at_ := 256 * wrIndex b + wrSub b
  if at_ = 0x000301 ∧ x.1 = 0 then
    State.setOd ((t.setOd 0x000301 (old.od 0x000301)).oapReply req (writeClass b) x.1 x.2.1) 0x000301 (t.od 0x000301)
  else if at_ = 0xC00601 ∧ x.1 = 0 then t.oapWait 2 req
  else if at_ = 0x008001 ∧ x.1 = 0 then t.oapWait (if old.saveReady then 4 else 5) req
  else if datumCommitAt (wrIndex b) (wrSub b) && x.1 == 0 && t.paired && t.seamUp then t.oapWait 3 req
  else
    let u := t.oapReply req (writeClass b) x.1 x.2.1
    if at_ = 0x00A002 ∧ x.1 = 0 then u.lifecycleEnd else u

/-! ### Transactions (R423, R424) -/

def State.setTxns (s : State) (l : List Txn) : State := { s with sm := { s.sm with txns := l } }
def State.setPrepared (s : State) (l : List Txn) : State := { s with sm := { s.sm with prepared := l } }

/-- A link-aggregation record with the TWIN bit of every member inverted (R430). -/
def lagFlip (r : List Byte) : List Byte :=
  r.mapIdx (fun j o => if 36 ≤ j ∧ j % 2 = 0 ∧ (j - 36) / 2 < oct r 7 % 128 then o ^^^ 0x80 else o)

/-- Each of the records of a segment so. -/
def lagTwin : Nat → List Byte → List Byte
  | 0, l => l
  | n + 1, l => if l.length < 516 then l else lagFlip (l.take 516) ++ lagTwin n (l.drop 516)

/-- The write request of a transaction as the twin applies it (R423, R430). -/
def twinForm (pdu : List Byte) : List Byte :=
  if wrIndex (pduBody pdu) = 0xC013 ∧ wrSub (pduBody pdu) = 1 then pdu.take 24 ++ lagTwin pdu.length (pdu.drop 24) else pdu

/-- A TXN packet goes to the twin in its turn (R411, R423). -/
def State.txnSend (s : State) (op status num : Nat) (pdu : List Byte) : State :=
  let v := [op, status, num] ++ (twinForm pdu).map (fun o => o.toNat)
  if s.mirrorWait.isEmpty && decide (s.mirrorOut.length < 4096) then s.mirrorSend 20 v
  else { s with mirrorWait := s.mirrorWait ++ [(20, v)] }

/-- A TXN packet has come in its turn (R411). -/
def State.txnSeen (s : State) : State := { s with mseqRx := (s.mseqRx + 1) % 2 ^ 32 }

/-- The next transaction number. -/
def State.nextTxn (s : State) : Nat := ((s.sm.lone ++ s.sm.txns).foldl (fun m x => max m x.num) s.sm.txnNum) + 1

/-- The journal takes a committed write; its oldest entries make room under 65,536 transactions and 64 MiB (R434). -/
def State.journal (s : State) (num : Nat) (pdu : List Byte) (alone : Bool) : State :=
  let l := s.sm.journal ++ [(num, pdu)]
  let full := decide (65536 < l.length) || decide (2 ^ 26 < l.foldl (fun n e => n + e.2.length) 0)
  { s with sm := { s.sm with
      journal := if full then l.drop 1 else l, overflow := s.sm.overflow || full,
      alone := if alone then s.sm.alone ++ [num] else s.sm.alone, txnNum := num } }

/-- Twin A coordinates a write: PREPARE is sent under the next number, from the request's tick on. -/
def State.txnStart (s : State) (pdu : List Byte) (req : Option OapReq) : State :=
  let n := s.nextTxn
  (s.setTxns (s.sm.txns ++ [{ num := n, body := pdu, req := req, at_ := s.mer }])).txnSend 2 0 n pdu

/-- TXN_REQUEST: twin B forwards a write. A refusal on twin A ends it. -/
def State.txnRequestOp (s : State) (pdu : List Byte) : State :=
  let b := pduBody pdu
  if !s.paired || s.isTwinB || !s.seamUp then s
  else
    let c := s.writeCheck 3 b
    if c ≠ 0 ∨ writeRefused (s.writeRun 0 3 b none) then s.txnSeen.txnSend 5 (if c = 0 then 5 else c) 0 []
    else s.txnSeen.txnStart pdu none

/-- TXN_PREPARE: twin B checks the write against its own state, holds it where it accepts, and votes. A write that it has
asked for itself keeps its requester. -/
def State.txnPrepareOp (s : State) (num : Nat) (pdu : List Byte) : State :=
  if !s.paired || !s.isTwinB || !s.seamUp then s
  else
    let b := pduBody pdu
    let c := s.writeCheck 3 b
    let x := s.writeRun 0 3 b none
    let c := if c ≠ 0 then c else if writeRefused x then x.1 else 0
    let own := s.sm.txns.find? (fun t => t.body == pdu)
    let req : Option OapReq := match own with | some t => t.req | none => none
    let s := match own with | some t => s.setTxns (s.sm.txns.erase t) | none => s
    (s.setPrepared (s.sm.prepared ++ [{ num := num, body := pdu, req := req, at_ := s.mer }])).txnSeen.txnSend 3 c num []

/-- The write of a transaction is applied here; its requester, if it came to this twin, is answered. -/
def State.txnApply (s : State) (x : Txn) : State :=
  let b := pduBody x.body
  match x.req with
  | none => (s.writeRun 0 3 b none).2.2
  | some r =>
    let k := pduSession r.pdu
    let role := match s.session? k with | some y => y.role | none => 3
    s.writeAnswer r b (s.writeRun k role b none)

/-- A transaction ends with a state error for its requester. -/
def State.txnRefuse (s : State) (x : Txn) : State :=
  match x.req with
  | some r => s.oapReply r (writeClass (pduBody x.body)) 5 []
  | none => s

/-- Twin A applies alone, and journals, the writes whose PREPARE the loss of the Seam overtook (R424). -/
def State.loneApply (s : State) : State :=
  s.sm.lone.foldl (fun t x => (t.txnApply x).journal x.num x.body true) { s with sm := { s.sm with lone := [] } }

/-- TXN_VOTE: on a vote of accepted, twin A applies the write and sends COMMIT; otherwise ABORT. -/
def State.txnVoteOp (s : State) (num status : Nat) : State :=
  match s.sm.txns.find? (fun x => x.num == num) with
  | none => s
  | some x =>
    if !s.paired || s.isTwinB then s
    else
      let s := (s.setTxns (s.sm.txns.erase x)).txnSeen
      if status = 0 then ((s.txnApply x).journal num x.body false).txnSend 4 0 num []
      else ((s.txnRefuse x).seamEvent SEAM_EVT_CFG_DIVERGE).txnSend 5 0 num []

/-- TXN_COMMIT: twin B applies a write that it holds. -/
def State.txnCommitOp (s : State) (num : Nat) : State :=
  match s.sm.prepared.find? (fun x => x.num == num) with
  | none => s
  | some x =>
    if !s.paired || !s.isTwinB || !s.seamUp then s
    else (((s.setPrepared (s.sm.prepared.erase x)).txnSeen.txnApply x).journal num x.body false)

/-- TXN_ABORT: twin B drops a write that it holds, or, without a number, the oldest that it has asked for. -/
def State.txnAbortOp (s : State) (num : Nat) : State :=
  if !s.paired || !s.isTwinB then s
  else
    match s.sm.prepared.find? (fun x => x.num == num) with
    | some x => (s.setPrepared (s.sm.prepared.erase x)).txnSeen.txnRefuse x
    | none =>
      match s.sm.txns with
      | x :: l => if num = 0 then (s.setTxns l).txnSeen.txnRefuse x else s
      | [] => s

/-- TXN_TIMEOUT: twin A has not committed its oldest transaction within 200 µs. -/
def State.txnTimeoutOp (s : State) : State :=
  match s.sm.txns with
  | x :: l =>
    if s.isTwinB ∨ s.mer < x.at_ + 200 * usTicks then s
    else ((s.setTxns l).txnRefuse x).txnSend 5 0 x.num []
  | [] => s

/-- A judged write of a session is carried out: at once where this twin applies alone (journaled unless it is unpaired), in
a transaction of twin A, or forwarded to twin A (R423, R433, R434, R443). -/
def State.writeGo (s : State) (req : OapReq) (r : Od) (b : List Byte) (ses role : Nat) (twin : Option Nat) : State :=
  let s := s.loneApply
  let x := s.writeRun ses role b twin
  if ownObject r (wrSub b) || !s.paired then s.writeAnswer req b x
  else if writeRefused x then x.2.2.oapReply req (writeClass b) x.1 x.2.1
  else if !s.seamUp then
    let n := s.nextTxn
    State.writeAnswer s req b (x.1, x.2.1, x.2.2.journal n req.pdu true)
  else if s.isTwinB then
    (s.setTxns (s.sm.txns ++ [{ num := 0, body := req.pdu, req := some req, at_ := s.mer }])).txnSend 1 0 0 req.pdu
  else s.txnStart req.pdu (some req)

/-! ### Reconciliation (R436, R437) -/

/-- The source's record of datum d in force, and its pending one, replace the target's (R436). -/
def State.datumReplace (s : State) (d : Nat) : State :=
  let x := s.datum d
  let r := x.inForce s.mer
  let t := s.mirror 2 [d, r.anchor, r.rate, r.offset, 0]
  match x.pend with
  | some p => if s.mer < p.eff then t.mirror 2 [d, p.eff, p.rate, p.offset, bit p.step] else t
  | none => t

/-- RECONCILE_COMPLETE. On the target, the prepared writes that the source committed, and then what the source replays or
copies, are applied in turn (`writes`, as WRITE bodies); `diverged`: the digests differed. Twin A is the source unless
twin B has taken over, and the writes that twin B journaled meanwhile are discarded where twin A journaled too. -/
def State.reconcileOp (s : State) (writes : List (List Byte)) (diverged both : Bool) : State :=
  if s.seamState ≠ 5 then s
  else
    let source := if s.isTwinB then s.sm.took && !both else !s.sm.twinAuth || both
    let s := ((s.setFld SEAM_STAT SEAM_STAT_UP 1).seamEnter 6).seamEvent SEAM_EVT_UP
    let s := if s.flag SEAM_STAT SEAM_STAT_SPLIT || s.flag SEAM_STAT SEAM_STAT_TWIN_DOWN then s.log 432 0 [0] else s
    let s := (s.setFld SEAM_STAT SEAM_STAT_SPLIT 0).setFld SEAM_STAT SEAM_STAT_TWIN_DOWN 0
    let s := writes.foldl (fun t b => (t.writeRun 0 3 b none).2.2) (s.setPrepared [])
    let s := if both ∧ s.isTwinB then s.log 437 0 s.sm.alone else s
    let s := if (diverged ∧ source) ∨ both then s.seamEvent SEAM_EVT_CFG_DIVERGE else s
    let s : State := { s with sm := { s.sm with
        journal := [], overflow := false, alone := [], took := false, lostAt := none,
        txnNum := if source then s.nextTxn - 1 else s.sm.twinTxn } }
    let s := if source then (List.range 1032).foldl (fun t d => t.datumReplace d) s else s
    let s := (List.range 65536).foldl (fun t f =>
      if t.flag (FRESH f + 8) FRESH_VALID then t.mirror 3 [f, t.rd64 (FRESH f)] else t) s
    let s := s.sta.foldl (fun t p => match p.2 with
      | some e => t.staMirror e
      | none => t) s
    let s := (List.range 4096).foldl (fun t x => if t.keyValid x then t.mirror 4 (t.epochRec x) else t) s
    let s := s.liveBobbins.foldl (fun t b => t.bobMirror b) s
    let s := s.recHandles.foldl (fun t h => t.mirror 6 [h, (t.recov h).num, bit (t.recov h).takeAny, (t.recov h).hist]) s
    let s := s.lagGroups.foldl (fun t a => t.lagRefresh a) s
    s.showAuth.seamEvent SEAM_EVT_RECONCILED

/-- TXN_REQUEST, R423: Twin A receives a forwarded write and sends PREPARE. -/
def execTxnRequest (pdu : List Byte) (s : State) : Host.Outcome State Fault Refusal := finish s (s.txnRequestOp pdu)

/-- TXN_PREPARE, R423: Twin B checks a prepared write and returns VOTE. -/
def execTxnPrepare (num : Nat) (pdu : List Byte) (s : State) : Host.Outcome State Fault Refusal := finish s (s.txnPrepareOp num pdu)

/-- TXN_VOTE, R423: Twin A applies and commits on an accepting vote, or aborts. -/
def execTxnVote (num : Nat) (status : Nat) (s : State) : Host.Outcome State Fault Refusal := finish s (s.txnVoteOp num status)

/-- TXN_COMMIT, R423: Twin B applies a committed write. -/
def execTxnCommit (num : Nat) (s : State) : Host.Outcome State Fault Refusal := finish s (s.txnCommitOp num)

/-- TXN_ABORT, R423: Twin B drops an aborted write. -/
def execTxnAbort (num : Nat) (s : State) : Host.Outcome State Fault Refusal := finish s (s.txnAbortOp num)

/-- TXN_TIMEOUT, R423: Twin A aborts a transaction not committed within 200 us. -/
def execTxnTimeout (s : State) : Host.Outcome State Fault Refusal := finish s s.txnTimeoutOp

/-- RECONCILE_COMPLETE, R436: Reconciliation completes and the Seam becomes PAIRED. -/
def execReconcileComplete (writes : List (List Byte)) (diverged : Bool) (both : Bool) (s : State) : Host.Outcome State Fault Refusal := finish s (s.reconcileOp writes diverged both)


end Sys2Proof.Machine
end

