-- ==== Sys2Proof/Machine/Oap.lean ====
section
/-! DEFINITION. Requests of the Object Access Protocol: their arrival, sessions, reads, writes, relaying and broadcast:
spec/14 R444 to R469, spec/19 R616. -/

namespace Sys2Proof.Machine

/-! ### The form of a PDU (R448) -/

/-- A second of Meridian. -/
def secTicks : Nat := 1000 * msTicks

/-- Octets from the header to the end of the tag. -/
def pduTotal (p : List Byte) : Nat := 16 + pduLen p + (if pduTagged p then 16 else 0)

/-- A request (resp false) or a response is well formed; a carrier pads it to at most `pad` octets. -/
def pduFormed (resp : Bool) (pad : Nat) (p : List Byte) : Bool :=
  decide (16 ≤ p.length) && oct p 0 / 16 == 1 && (oct p 0).testBit 3 == resp && oct p 0 % 4 == 0 && oct p 2 / 4 % 32 == 0 &&
    (resp || beAt p 8 2 == 0) && oct p 12 / 4 % 32 == 0 && oct p 15 == 0 && decide (pduLen p ≤ 1024) &&
    (p.length == pduTotal p || (decide (pduTotal p < p.length) && decide (p.length ≤ pad))) &&
    [1, 2, 3, 0x10, 0x11, 0x30].contains (pduOp p) && (resp || pduTagged p == (pduSession p != 0 || pduOp p == 0x30))

/-- Fields of a READ body (R451). -/
def rdFirst (b : List Byte) : Nat := beAt b 12 4
def rdCount (b : List Byte) : Nat := beAt b 16 4
def rdMax (b : List Byte) : Nat := beAt b 8 2

/-- A stop command (R467). -/
def pduStop (p : List Byte) : Bool :=
  pduOp p == 0x11 && (match odEntry (wrIndex (pduBody p)) (wrSub (pduBody p)) with
    | some r => isStop r ((pduBody p).drop 8)
    | none => false)

/-- Priority class of the response to a request (R457). -/
def pduClass (p : List Byte) : Nat := if pduStop p then 0 else 2

/-! ### Sessions and the request queue (R460 to R465) -/

/-- Check 3 of R444: the session is open, and the request allowed for it. -/
def State.mayAsk (s : State) (p : List Byte) : Bool :=
  let op := pduOp p
  let b := pduBody p
  if pduSession p = 0 then
    if op = 1 then pduSeq p == 0
    else op == 0x10 && (match odEntry (wrIndex b) (wrSub b) with
      | none => true
      | some r => r.role == 0 && r.ty != .dom && r.ty != .msg && r.tag != 0x000202)
  else
    match s.session? (pduSession p) with
    | none => false
    | some x => if op = 2 then x.role != 0 && pduSeq p == 1 else if op = 3 then true else op != 1 && x.proved

/-- A request ends without a response. -/
def State.oapDiscard (s : State) (src : OapSrc) : State :=
  match src with
  | .mailbox k => s.mbNoResp k
  | _ => s

/-- A request joins the queue of 256; whether there was room (R465). -/
def State.oapQueue (s : State) (r : OapReq) : Bool × State :=
  if 256 ≤ s.oap.queue.length then (false, s.oapRefuse r (pduClass r.pdu) 9)
  else (true, { s with oap := { s.oap with queue := s.oap.queue ++ [r] } })

/-- NEXT of a session rises by 1. -/
def State.seqNext (s : State) (k : Nat) : State :=
  match s.session? k with
  | none => s
  | some x => s.setSession { x with next := (x.next + 1) % 65536 }

/-- Up to n held requests of a session that have become due join the queue in SEQ order (R463). -/
def State.heldDue (s : State) (k : Nat) : Nat → State
  | 0 => s
  | n + 1 =>
    match s.session? k with
    | none => s
    | some x =>
      match x.held.find? (fun r => pduSeq r.pdu == x.next) with
      | none => s
      | some r =>
        let (ok, t) := State.oapQueue (s.setSession { x with held := x.held.erase r }) r
        if ok then (t.seqNext k).heldDue k n else t

/-- The sequence number of a session's request is judged (R463). -/
def State.oapSequence (s : State) (r : OapReq) (x : Session) : State :=
  let q := pduSeq r.pdu
  let d := (q + 65536 - x.next) % 65536
  if d = 0 then
    let (ok, t) := s.oapQueue r
    if ok then (t.seqNext x.num).heldDue x.num 7 else t
  else if d ≤ 7 then
    if x.held.any (fun h => pduSeq h.pdu == q) then s.oapDiscard r.src else s.setSession { x with held := x.held ++ [r] }
  else if 65472 ≤ d then
    match x.done.find? (fun e => e.1 == q) with
    | some e => (s.oapCount 2).oapOut r (pduClass r.pdu) e.2
    | none => (s.oapCount 2).oapDiscard r.src
  else s.oapRefuse r (pduClass r.pdu) 10

/-- Checks 2 to 5 of R444. -/
def State.oapTake (s : State) (r : OapReq) : State :=
  let p := r.pdu
  match s.session? (pduSession p) with
  | none => if s.mayAsk p then (s.oapQueue r).2 else s.oapRefuse r (pduClass p) 11
  | some x =>
    if p.drop (16 + pduLen p) ≠ Config.hmac x.keyIn (tagCovers p) then (s.oapCount 1).oapDiscard r.src
    else
      let y : Session := { x with used := s.mer }
      let s := s.setSession y
      if s.mayAsk p then s.oapSequence r y else s.oapRefuse r (pduClass p) 11

/-! ### The tree (R456, R616) -/

/-- The port towards a node: to the child whose subtree holds it, otherwise to the parent. -/
def State.routeTo (s : State) (node : Nat) : Option Nat :=
  match s.jn.store.find? (fun e => e.1 == node) with
  | some (_, _, some p) => some p
  | _ => s.joinParent.map (fun p => p.2)

/-- The node at the far end of a join port. -/
def State.farNode (s : State) (q : Nat) : Nat :=
  match s.jn.neighbours.find? (fun e => e.1 == q) with
  | some e => e.2.node
  | none => 0

/-- A request that this node relays, with RELAYED, ENTRY and HOPS. -/
def State.relayHeader (s : State) (p : List Byte) : List Byte :=
  let entry := if (oct p 12).testBit 7 then pduEntry p else s.nodeNumber
  p.take 12 ++ natBe 2 (0x8000 + entry) ++ natBe 1 (oct p 14 + 1) ++ p.drop 15

/-- The entry node notes where a request came from; none where the table is full. -/
def State.relayNote (s : State) (n : Nat) (addr tag p : List Byte) : Option State :=
  if (oct p 12).testBit 7 then some s
  else
    let l := s.oap.relays.filter (fun e => e.session != pduSession p || e.seq != pduSeq p)
    if 256 ≤ l.length then none
    else
      let e : RelayEnt := { session := pduSession p, seq := pduSeq p, port := n, addr := addr, tag := tag, at_ := s.mer }
      some { s with oap := { s.oap with relays := l ++ [e] } }

/-- A PDU goes on to the neighbour on port q. -/
def State.relaySend (s : State) (q : Nat) (p : List Byte) : State :=
  (s.oapCount 9).oapSend (.port q (nodeMac (s.farNode q)) []) 2 p

/-- A request from port n goes on to the ports `to`. -/
def State.relayRequest (s : State) (n : Nat) (addr tag p : List Byte) (outs : List Nat) : State :=
  if outs.isEmpty ∨ 8 ≤ oct p 14 + 1 then s.oapCount 10
  else
    match s.relayNote n addr tag p with
    | none => s.oapCount 10
    | some t => outs.foldl (fun t q => t.relaySend q (t.relayHeader p)) t

/-- Ports to the tree neighbours. -/
def State.treePorts (s : State) : List Nat := (s.joinParent.map (fun p => p.2)).toList ++ s.joinChildren

/-- The Thimble serves requests beside those of the mailboxes. -/
def State.serves (s : State) : Bool := s.hostUp && !s.recovering

/-- OAP_RELAY: an OAP frame on port n for another node, or the response to one. -/
def State.oapRelayOp (s : State) (n : Nat) (addr tag octets : List Byte) : State :=
  let s := s.ctlTake n
  if !s.serves || s.th.restricted || !s.flag (PORT_STATn n) PORT_STATn_LINK then s
  else if !(s.od 0x000302).testBit n then s.oapCount 8
  else
    let resp := (oct octets 0).testBit 3
    if !pduFormed resp 46 octets then s.oapCount 0
    else
      let p := octets.take (pduTotal octets)
      if resp then
        if !(oct p 12).testBit 7 then s
        else if pduEntry p = s.nodeNumber then
          match s.oap.relays.find? (fun e => e.session == pduSession p && e.seq == pduSeq p) with
          | some e => (s.oapCount 9).oapSend (.port e.port e.addr e.tag) 2 p
          | none => s.oapCount 10
        else
          match s.routeTo (pduEntry p) with
          | some q => s.relaySend q p
          | none => s.oapCount 10
      else if pduBcast p || pduNode p == s.nodeNumber || pduOp p == 0x30 then s
      else s.relayRequest n addr tag p (s.routeTo (pduNode p)).toList

/-- RELAY_ENTRY_EXPIRY: entries 1 s old leave the table. -/
def State.relayExpiryOp (s : State) : State :=
  { s with oap := { s.oap with relays := s.oap.relays.filter (fun e => decide (s.mer < e.at_ + secTicks)) } }

/-! ### Arrival (R444, R455 to R458, R469) -/

/-- A request in band, from the port's control FIFO (R27). -/
def State.oapInBand (s : State) (n : Nat) (addr tag payload : List Byte) : State :=
  let s := s.ctlTake n
  if !s.serves || !s.flag (PORT_STATn n) PORT_STATn_LINK then s
  else if !(s.od 0x000302).testBit n then s.oapCount 8
  else if (oct payload 0).testBit 3 then s
  else if !pduFormed false 46 payload then s.oapCount 0
  else
    let p := payload.take (pduTotal payload)
    let r : OapReq := { src := .port n addr tag, pdu := p, at_ := s.mer }
    if pduOp p = 0x30 then s
    else if pduBcast p then
      if pduSession p = 0 ∧ pduOp p = 0x10 ∧ s.mayAsk p then
        let t : State := { s with oap := { s.oap with bcasts := s.oap.bcasts ++ [r] } }
        let outs := t.treePorts.filter (fun q => q != n)
        if outs.isEmpty then t else t.relayRequest n addr tag p outs
      else s.oapCount 7
    else if pduNode p = s.nodeNumber then s.oapTake r
    else s

/-- A CAN XL frame on management bus b. -/
def State.oapOnBus (s : State) (b : Nat) (f : CanFrame) : State :=
  let me := s.fld (MBb_CFG b) MBb_CFG_ADDR
  if !s.serves || f.fmt != 2 || f.sdt != 0x3E || f.sec || f.vcid != 0 || f.af / 65536 != 0x4F41 || f.af % 65536 / 2048 != 0 then s
  else
    let mine := f.af / 32 % 32 == me
    let p := f.data
    if !mine && !f.af.testBit 10 then s
    else if pduNode p ≠ s.nodeNumber ∧ !pduBcast p then (if mine then s.oapCount 11 else s)
    else if !pduFormed false 0 p then s.oapCount 0
    else if pduOp p = 0x30 then s
    else if pduBcast p then s.oapCount 7
    else s.oapTake { src := .mb b (f.af % 32), pdu := p, at_ := s.mer }

/-- The request submitted to mailbox k. -/
def State.oapInBox (s : State) (k : Nat) : State :=
  match s.oap.mbReq.find? (fun m => m.1 == k) with
  | none => s
  | some m =>
    let s : State := { s with oap := { s.oap with mbReq := s.oap.mbReq.erase m } }
    let p := m.2.1
    let r : OapReq := { src := .mailbox k, pdu := p, at_ := m.2.2 }
    if !pduFormed false 0 p then (s.oapCount 0).mbNoResp k
    else if pduOp p = 0x30 then s.mbNoResp k
    else if pduBcast p then (s.oapCount 7).mbNoResp k
    else if pduNode p ≠ s.nodeNumber then s.mbNoResp k
    else if s.recovering ∧ !(pduOp p = 0x10 ∧ pduSession p = 0) then s.oapRefuse r 2 5
    else s.oapTake r

/-- OAP_REQUEST_RECEIVE: a PDU is complete at its carrier. -/
def State.oapReceiveOp (s : State) (a : OapIn) : State :=
  match a with
  | .port n addr tag payload => s.oapInBand n addr tag payload
  | .mb b f => s.oapOnBus b f
  | .mailbox k => s.oapInBox k

/-- HELD_REQUEST_TIMEOUT: requests held for 100 ms are discarded. -/
def State.heldTimeoutOp (s : State) : State :=
  s.oap.sessions.foldl (fun t x =>
    let (late, keep) := x.held.partition (fun r => decide (r.at_ + 100 * msTicks ≤ s.mer))
    late.foldl (fun u r => (u.oapCount 4).oapDiscard r.src) (t.setSession { x with held := keep })) s

/-! ### Taking requests from the queue (R465, R467) -/

/-- The request that is executed next: a stop command first; OPEN and PROVE do not hold the queue. -/
def State.oapFront (s : State) : Option OapReq :=
  match s.oap.queue.find? (fun r => pduStop r.pdu) with
  | some r => some r
  | none => s.oap.queue.find? (fun r => decide (2 < pduOp r.pdu))

/-- The request of operation `op` whose turn it is. -/
def State.oapNext (s : State) (op : Nat) : Option OapReq :=
  if op ≤ 2 then s.oap.queue.find? (fun r => pduOp r.pdu == op)
  else
    match s.oapFront with
    | some r => if pduOp r.pdu = op then some r else none
    | none => none

/-- The queue without a request that is taken. -/
def State.unqueue (s : State) (r : OapReq) : State := { s with oap := { s.oap with queue := s.oap.queue.erase r } }

/-- Take that request out and execute it, for its session where it names one; a session that has closed since is answered
with SESSION. -/
def State.oapRun (s : State) (op : Nat) (f : State → OapReq → Option Session → State) : State :=
  match s.oapNext op with
  | none => s
  | some r =>
    let t := s.unqueue r
    let x := t.session? (pduSession r.pdu)
    if pduSession r.pdu ≠ 0 ∧ x.isNone then t.oapRefuse r (pduClass r.pdu) 11 else f t r x

/-! ### Sessions (R459 to R461) -/

/-- Session k closes. -/
def State.closeSession (s : State) (k : Nat) : State :=
  { s with oap := { s.oap with sessions := s.oap.sessions.filter (fun x => x.num != k) } }

/-- The next session number: 1 to 65,535, one that is not in use. -/
def State.sessionNumber (s : State) : Nat :=
  let c (i : Nat) : Nat := (s.oap.ctr + i) % 65535 + 1
  c (((List.range 17).find? (fun i => (s.session? (c i)).isNone)).getD 0)

/-- The status of an OPEN (R459). -/
def State.openStatus (s : State) (b : List Byte) : Nat :=
  let role := oct b 0
  if b.length ≠ 116 then 6
  else if 3 < role ∨ beAt b 1 3 ≠ 0 then 7
  else if 16 ≤ s.oap.sessions.length then 9
  else if !Config.ecPointOk (slice b 20 96) ∨ (role ≠ 0 ∧ (s.roleKey role).isNone) then 12
  else if role = 3 ∧ s.lifecycle ≠ 0 ∧ s.lifecycle ≠ 3 then 3
  else 0

/-- A session is allocated, with its keys; the response carries the device's part. -/
def State.openAllocate (s : State) (r : OapReq) (b : List Byte) : State :=
  let num := s.sessionNumber
  let (draw, t) := s.takeFree
  let head := natBe 2 num ++ natBe 2 0
  let body := head ++ slice (Config.openReply (b ++ head) draw) 0 208
  let salt := slice b 4 16 ++ slice body 4 16
  let points := slice b 20 96 ++ slice body 20 96
  let info := ascii [76, 105, 104, 97, 108, 32, 79, 65, 80, 32, 118, 49]
  let x : Session := { num := num, role := oct b 0, proved := oct b 0 == 0, src := r.src, opened := s.mer, used := s.mer, next := 1,
                       done := [], held := [], keyIn := Config.sessionKey 0 points salt info,
                       keyOut := Config.sessionKey 1 points salt info, opening := b ++ body ++ natBe 2 num, snap := none,
                       asm_ := none, aborted := false, hdr := [] }
  let t : State := { t with oap := { t.oap with sessions := t.oap.sessions ++ [x], ctr := num },
                            datumStage := t.datumStage.filter (fun e => e.1 / 2048 != num),
                            stage := t.stage.filter (fun e => e.1 / 2 ^ 32 != 16 + num) }
  t.oapOut r 2 (t.replyPdu r.pdu none 0 body)

/-- OPEN. -/
def State.openOp (s : State) : State :=
  s.oapRun 1 (fun t r _ =>
    let b := pduBody r.pdu
    let c := t.openStatus b
    if c = 0 then t.openAllocate r b else (if c = 9 then t.oapCount 5 else t).oapOut r 2 (t.replyPdu r.pdu none c []))

/-- The signature of a PROVE is the role's (R460). -/
def State.proves (s : State) (x : Session) (b : List Byte) : Bool :=
  match s.roleKey x.role with
  | some k => Config.ecdsaOk k x.opening b
  | none => false

/-- PROVE. -/
def State.proveOp (s : State) : State :=
  s.oapRun 2 (fun t r x =>
    match x with
    | none => t.oapRefuse r 2 11
    | some x =>
      let b := pduBody r.pdu
      if b.length ≠ 96 then t.oapReply r 2 6 []
      else if t.proves x b then State.oapReply (t.setSession { x with proved := true }) r 2 0 []
      else ((t.oapCount 6).oapReply r 2 12 []).closeSession x.num)

/-- PROVE_TIMEOUT: sessions whose role nothing has proved in 1 s close. -/
def State.proveTimeoutOp (s : State) : State :=
  let asked (x : Session) : Bool := s.oap.queue.any (fun r => pduOp r.pdu == 2 && pduSession r.pdu == x.num)
  let l := s.oap.sessions.filter (fun x => x.proved || asked x || decide (s.mer < x.opened + secTicks))
  { s with oap := { s.oap with sessions := l } }

/-- CLOSE. -/
def State.closeOp (s : State) : State :=
  s.oapRun 3 (fun t r _ =>
    if (pduBody r.pdu).isEmpty then (t.oapReply r 2 0 []).closeSession (pduSession r.pdu) else t.oapReply r 2 6 [])

/-- SESSION_IDLE_TIMEOUT: sessions without a valid request for SESSION_IDLE seconds close. -/
def State.sessionIdleOp (s : State) : State :=
  let l := s.oap.sessions.filter (fun x => decide (s.mer < x.used + s.od 0x000304 * secTicks))
  { s with oap := { s.oap with sessions := l } }

/-! ### Reads (R451, R453) -/

/-- Checks 6 to 12 of a READ by a role; `box`: it came through a mailbox. -/
def State.readCheck (s : State) (role : Nat) (box : Bool) (b : List Byte) : Nat :=
  let i := wrIndex b
  match odEntry i (wrSub b) with
  | none => 1
  | some r =>
    let none_ := wrOffset b == 0 && rdMax b == 0 && rdFirst b == 0 && rdCount b == 0
    if r.acc = .wo then 2
    else if role < r.role then 3
    else if s.obsLevel < r.obs then 4
    else if (s.node = .init ∧ !(box && decide (i < 0x1000))) ∨ s.standbyRefuses r then 5
    else if b.length ≠ 20 ∨ oct b 3 ≠ 0 ∨ beAt b 10 2 ≠ 0 ∨ (r.ty ≠ .dom ∧ !none_) ∨
        (r.ty = .dom ∧ (domSelect r.tag).isNone ∧ (rdFirst b ≠ 0 ∨ rdCount b ≠ 0)) then 6
    else if r.ty = .dom ∧ (rdMax b = 0 ∨ 1020 < rdMax b) then 7
    else if r.tag = 0x00B00C ∧ !s.isRoot then 5
    -- a lane the port does not have (R114), and program data outside every program's windows (R312)
    else if r.tag = 0x100101 ∧ s.portLanes (r.inst i) ≤ wrSub b - 1 then 7
    else if r.tag = 0xC02003 ∧ wrOffset b = 0 ∧ rdCount b ≤ 8192 ∧ (List.range (rdCount b)).any (fun j => !s.inWindow (rdFirst b + j)) then 5
    else 0

/-- The snapshot that FIRST and COUNT select, with what taking it clears; none where there is no such selection, or it would
exceed 65,536 octets. -/
def State.domSnap (s : State) (r : Od) (idx first count : Nat) : Option (List Byte × State) :=
  match domSelect r.tag with
  | some (n, w) => if n < first + count ∨ 65536 < w * count then none else some (s.domRead r idx first count)
  | none =>
    let x := s.domRead r idx 0 0
    if 65536 < x.1.length then none else some x

/-- One segment of a snapshot from an offset, as a response body; and the snapshot that remains held. -/
def snapSegment (s : State) (obj : Nat) (l : List Byte) (off n : Nat) : List Byte × Option (Nat × List Byte × Nat) :=
  let seg := (l.drop off).take n
  let rest := l.length - off - seg.length
  (natBe 4 rest ++ seg, if rest = 0 then none else some (obj, l, s.mer))

/-- A DOMAIN is read in a session: status, body and effect. -/
def State.domGet (s : State) (x : Session) (r : Od) (b : List Byte) : Nat × List Byte × State :=
  let obj := 256 * wrIndex b + wrSub b
  if wrOffset b = 0 then
    match s.domSnap r (wrIndex b) (rdFirst b) (rdCount b) with
    | none => (7, [], s)
    | some (l, t) =>
      let (v, keep) := snapSegment s obj l 0 (rdMax b)
      let y : Session := { x with snap := keep, asm_ := none, aborted := x.aborted || x.asm_.isSome }
      (0, v, t.setSession y)
  else
    match x.snap with
    | some (o, l, _) =>
      if o = obj ∧ wrOffset b < l.length then
        let (v, keep) := snapSegment s obj l (wrOffset b) (rdMax b)
        (0, v, s.setSession { x with snap := keep })
      else (7, [], s)
    | none => (7, [], s)

/-- A READ that passed its checks: status, body and effect. -/
def State.readRun (s : State) (x : Option Session) (b : List Byte) : Nat × List Byte × State :=
  match odEntry (wrIndex b) (wrSub b) with
  | none => (1, [], s)
  | some r =>
    if wrSub b = 0 then (0, natBe 1 (odTop (wrIndex b)), s)
    else if r.ty = .dom then
      match x with
      | some x => s.domGet x r b
      | none => (11, [], s)
    else
      let (v, t) := s.odGet (pduOfSession x) r (wrIndex b) (wrSub b)
      (0, v, t)
where
  /-- the session's number; 0 for none -/
  pduOfSession : Option Session → Nat
    | some x => x.num
    | none => 0

/-- A READ is judged and answered. -/
def State.readServe (s : State) (r : OapReq) (x : Option Session) : State :=
  let b := pduBody r.pdu
  let role := match x with | some x => x.role | none => 0
  let box := match r.src with | .mailbox _ => true | _ => false
  let c := s.readCheck role box b
  if c = 0 then
    let (c, v, t) := s.readRun x b
    t.oapReply r 2 c v
  else s.oapReply r 2 c []

/-- READ. -/
def State.readOp (s : State) : State := s.oapRun 0x10 State.readServe

/-- BROADCAST_EXECUTE: the first broadcast READ whose stagger is over. -/
def State.bcastOp (s : State) : State :=
  match s.oap.bcasts.find? (fun r => decide (r.at_ + s.nodeNumber * (2 * usTicks) ≤ s.mer)) with
  | none => s
  | some r => State.readServe { s with oap := { s.oap with bcasts := s.oap.bcasts.erase r } } r none

/-- SNAPSHOT_TIMEOUT: snapshots not read for 1 s are discarded. -/
def State.snapTimeoutOp (s : State) : State :=
  let keep (p : Nat × List Byte × Nat) : Bool := decide (s.mer < p.2.2 + secTicks)
  { s with oap := { s.oap with sessions := s.oap.sessions.map (fun x => { x with snap := x.snap.filter keep }) } }

/-! ### Writes (R452, R454) -/

/-- A whole message is submitted, and answered with its result. -/
def State.messageDone (s : State) (r : OapReq) (e : Od) (x : Session) (m : List Byte) : State :=
  if e.tag = 0xE00001 then
    if 4 ≤ s.kumQueue.length then (s.kumArrive 3 m).oapReply r 2 0x81 [] else (s.kumArrive 3 m).oapWait 1 r
  else
    let (c, t) := if e.tag = 0x008103 then s.blockSubmit x.num m else s.anchorUpdate m
    t.oapReply r 2 c []

/-- A segment of a message DOMAIN. -/
def State.segment (s : State) (r : OapReq) (e : Od) (x : Session) (b : List Byte) : State :=
  let v := b.drop 8
  let off := wrOffset b
  let base : Option (List Byte) :=
    if off = 0 then some []
    else match x.asm_ with
      | some (o, l, _) => if o = e.tag ∧ l.length = off then some l else none
      | none => none
  if off ≠ 0 ∧ x.aborted then State.oapReply (s.setSession { x with aborted := false }) r 2 13 []
  else
    match base with
    | none => State.oapReply (s.setSession { x with asm_ := none }) r 2 7 []
    | some l =>
      let m := l ++ v
      let y : Session := { x with snap := none, aborted := false, asm_ := none }
      if 65536 < m.length then State.oapReply (s.setSession { x with asm_ := none }) r 2 7 []
      else if wrFinal b then State.messageDone (s.setSession y) r e y m
      else State.oapReply (s.setSession { y with asm_ := some (e.tag, m, s.mer) }) r 2 0 []

/-- A WRITE is judged and carried out. `twin` is the UPDATE_STATE word that the twin answers an ACTIVATE with (R533). -/
def State.writeServe (twin : Option Nat) (s : State) (r : OapReq) (x : Option Session) : State :=
  let b := pduBody r.pdu
  match x, odEntry (wrIndex b) (wrSub b) with
  | some x, some e =>
    let c := s.writeCheck x.role b
    if c ≠ 0 then s.oapReply r (pduClass r.pdu) c []
    else
      let s := s.wakeValid
      if e.ty = .msg then s.segment r e x b else s.writeGo r e b x.num x.role twin
  | some _, none => s.oapReply r 2 1 []
  | none, _ => s.oapRefuse r 2 11

/-- Every response of a kind that waits leaves with a status. -/
def State.oapWakeAll (s : State) (kind status : Nat) : State :=
  (List.range (s.oap.waits.filter (fun w => w.1 == kind)).length).foldl (fun t _ => t.oapWake kind status) s

/-- The SAVE requests whose save is committed are answered; those that waited for the next one now wait for the save in
progress (R523). -/
def State.saveAnswers (s : State) (done : Bool) : State :=
  let t := if done ∨ s.th.saving.isNone then s.oapWakeAll 4 0 else s
  let up (w : Nat × OapReq) : Nat × OapReq := if w.1 = 5 then (4, w.2) else w
  if t.th.saveNext then t
  else if t.th.saving.isSome then { t with oap := { t.oap with waits := t.oap.waits.map up } }
  else t.oapWakeAll 5 0

/-- WRITE. -/
def State.writeOp (s : State) (twin : Option Nat) : State := s.oapRun 0x11 (State.writeServe twin)

/-- ASSEMBLY_TIMEOUT: assemblies left for 1 s are discarded. -/
def State.asmTimeoutOp (s : State) : State :=
  let late (x : Session) : Bool := match x.asm_ with | some (_, _, t) => decide (t + secTicks ≤ s.mer) | none => false
  let l := s.oap.sessions.map (fun x => if late x then { x with asm_ := none, aborted := true } else x)
  { s with oap := { s.oap with sessions := l } }

/-! ### Responses that follow a result -/

/-- KEY_UPDATE_PROCESS: the message at the front; a message that came through the dictionary is answered with 0, or with 0x80
and the result (R401, R444). -/
def State.keyProcessOp (s : State) (persistOk : Bool) : State :=
  let t := s.kumProcess persistOk
  match s.kumQueue with
  | [] => s
  | q :: _ =>
    let c := t.fld CIPH_KRES CIPH_KRES_RESULT
    if q.src = 3 then t.oapWake 1 (if c = 0 then 0 else 0x80 + c) else t

/-- FENCE_DONE: once everything that began before the latest REQ has completed, DONE is set and the dictionary's fences are
answered (R250, R252). -/
def State.fenceDoneOp (s : State) : State :=
  if s.fenceWaits then s else s.fenceDone.oapWakeAll 2 0

/-- SAVE_COMPLETE: the commit word of a save is written (R523). -/
def State.saveEndOp (s : State) : State := if s.th.saving.isNone then s.saveAnswers false else s.saveDoneOp.saveAnswers true

/-- SAVE_DELAY_EXPIRY: a save that is due, or that waits, starts (R523). -/
def State.saveStartOp (s : State) : State := if s.saveDue then s.saveDelayOp.saveAnswers false else s

/-- PROOF_MISMATCH: the key update that unit 1 computed for the dictionary fails (R389, R396). -/
def State.mismatchOp (s : State) (u : Nat) : State :=
  let t := (s.proofMismatchOp u).showQueue
  match s.kumQueue with
  | [] => t
  | q :: _ => if u = 1 ∧ q.src = 3 then t.oapWake 1 0x8E else t

/-- DATUM_CHANGE_COMPLETE: a change of the registers, or of the dictionary, is held by both twins; `result` is twin A's
judgement of a change that this twin asked it for (R86, R422). -/
def State.datumDoneOp (s : State) (dict : Bool) (result : Nat) : State :=
  if !s.datumHeld then s
  else if dict then s.oapWake 3 (if s.viaTwin then datumStatus result else 0) else s.datumComplete

/-- OAP_REQUEST_RECEIVE, R444: An OAP PDU arrives and is checked, sequenced and queued. -/
def execOapRequestReceive (a : OapIn) (s : State) : Host.Outcome State Fault Refusal := finish s (s.oapReceiveOp a)

/-- OAP_RELAY, R456: A request for another node, or its response, is relayed along the tree. -/
def execOapRelay (n : Nat) (addr : List Byte) (tag : List Byte) (octets : List Byte) (s : State) : Host.Outcome State Fault Refusal := finish s (s.oapRelayOp n addr tag octets)

/-- RELAY_ENTRY_EXPIRY, R456: A relay-table entry expires after 1 s. -/
def execRelayEntryExpiry (s : State) : Host.Outcome State Fault Refusal := finish s s.relayExpiryOp

/-- HELD_REQUEST_TIMEOUT, R463: A request held 100 ms for its turn is discarded. -/
def execHeldRequestTimeout (s : State) : Host.Outcome State Fault Refusal := finish s s.heldTimeoutOp

/-- OPEN, R459: An OPEN request allocates a session with a signed key exchange, or is refused. -/
def execOpenSession (s : State) : Host.Outcome State Fault Refusal := finish s s.openOp

/-- PROVE, R460: A PROVE signature authenticates the session role, or closes the session. -/
def execProveSession (s : State) : Host.Outcome State Fault Refusal := finish s s.proveOp

/-- PROVE_TIMEOUT, R460: No PROVE within 1 s closes a session. -/
def execProveTimeout (s : State) : Host.Outcome State Fault Refusal := finish s s.proveTimeoutOp

/-- CLOSE, R461: A CLOSE request closes the session. -/
def execCloseSession (s : State) : Host.Outcome State Fault Refusal := finish s s.closeOp

/-- SESSION_IDLE_TIMEOUT, R461: SESSION_IDLE seconds without a valid request close the session. -/
def execSessionIdleTimeout (s : State) : Host.Outcome State Fault Refusal := finish s s.sessionIdleOp

/-- READ, R451: A READ returns an object value or a DOMAIN snapshot segment. -/
def execOapRead (s : State) : Host.Outcome State Fault Refusal := finish s s.readOp

/-- BROADCAST_EXECUTE, R469: A broadcast READ executes after its node-number stagger. -/
def execBroadcastExecute (s : State) : Host.Outcome State Fault Refusal := finish s s.bcastOp

/-- SNAPSHOT_TIMEOUT, R453: 1 s without a read discards a session's DOMAIN snapshot. -/
def execSnapshotTimeout (s : State) : Host.Outcome State Fault Refusal := finish s s.snapTimeoutOp

/-- WRITE, R452: A WRITE applies a value, record segment or message segment. -/
def execOapWrite (twin : Option Nat) (s : State) : Host.Outcome State Fault Refusal := finish s (s.writeOp twin)

/-- ASSEMBLY_TIMEOUT, R454: 1 s without a segment discards a message assembly. -/
def execAssemblyTimeout (s : State) : Host.Outcome State Fault Refusal := finish s s.asmTimeoutOp

/-- KEY_UPDATE_PROCESS, R391: A key-update message is judged and, if accepted, applied through blob, counter and store commits. -/
def execKeyUpdateProcess (persistOk : Bool) (s : State) : Host.Outcome State Fault Refusal := finish s (s.keyProcessOp persistOk)

/-- SAVE_COMPLETE, R523: The snapshot's commit word is written and SAVED is set. -/
def execSaveComplete (s : State) : Host.Outcome State Fault Refusal := finish s s.saveEndOp

/-- SAVE_DELAY_EXPIRY, R523: SAVE_DELAY after a change, a settings save starts. -/
def execSaveDelayExpiry (s : State) : Host.Outcome State Fault Refusal := finish s s.saveStartOp

/-- PROOF_MISMATCH, R396: A proof unit's two copies disagree and nothing is released. -/
def execProofMismatch (u : Nat) (s : State) : Host.Outcome State Fault Refusal := finish s (s.mismatchOp u)

/-- FENCE_DONE, R250: Everything begun before the fence has completed and DONE is set. -/
def execFenceDone (s : State) : Host.Outcome State Fault Refusal := finish s s.fenceDoneOp

/-- DATUM_CHANGE_COMPLETE, R86: A datum change completes once both twins hold it, and BUSY clears. -/
def execDatumChangeComplete (dict : Bool) (result : Nat) (s : State) : Host.Outcome State Fault Refusal := finish s (s.datumDoneOp dict result)


end Sys2Proof.Machine
end

