-- ==== Sys2Proof/Machine/Boot.lean ====
section
/-! DEFINITION. Resets and the boot sequence: spec/19 R600 to R607, spec/16 R517, R519, R524, R526, R532 and R534, spec/17 R553
and R554. -/

namespace Sys2Proof.Machine

/-! ### Resets (R600, R626) -/

/-- POWER_ON_RESET and BROWN_OUT: PORST_N low, or a supply that acts as it. -/
def State.powerResetOp (s : State) : State := s.powerReset

/-- PORST_N holds the device in reset. -/
def State.porHeld (s : State) : Bool :=
  s.pw.boot == 0 && s.fld SYS_BOOT SYS_BOOT_CAUSE == 0 && s.powerState != 3

/-- DEVICE_RESET: RST_N low, ignored while PORST_N is low. -/
def State.deviceResetOp (s : State) : State := if s.porHeld then s else s.deviceReset 1

/-- ACTIVATION_RESET: 10 ms after ACTIVATE 2 (R533). -/
def State.activationResetOp (s : State) : State :=
  match s.th.rstDue with
  | some t => if t ≤ s.mer then s.deviceReset 2 else s
  | none => s

/-! ### Step 1: release and Meridian (R73, R602, R603) -/

/-- Meridian starts once the time PLL is locked after a release. -/
def State.startMeridian (s : State) : State :=
  if s.pw.boot = 1 ∧ s.pw.pll then
    State.setFld (State.setFld { s with pw := { s.pw with boot := 2 } } TIME_STAT TIME_STAT_RUN 1) TIME_STAT TIME_STAT_PLL_LOCK 1
  else s

/-- RESET_RELEASE: the straps are sampled, and boot begins. -/
def State.releaseOp (s : State) (nid : Nat) : State :=
  if s.pw.boot ≠ 0 ∨ s.powerState = 3 then s
  else State.startMeridian { s with pw := { s.pw with boot := 1, straps := nid } }

/-- PLL_LOCK. -/
def State.pllLockOp (s : State) : State :=
  if s.pw.boot = 1 ∧ !s.pw.pll then State.startMeridian { s with pw := { s.pw with pll := true } } else s

/-! ### Step 2: the boot ROM -/

/-- The lifecycle word that is completed at boot; `stuck`: its read-back fails (R554). -/
def State.lifecycleFill (s : State) (stuck : Bool) : State :=
  match [3, 2, 1, 0].find? (fun k => s.otp.lifecycle.getD k 0 != 0) with
  | none => s.showLcs
  | some k =>
    if s.otp.lifecycle.getD k 0 = 0xFFFFFFFF then s.showLcs
    else if stuck then (s.log 554 k).showLcs
    else
      State.setFld (State.showLcs { s with otp := { s.otp with lifecycle := s.otp.lifecycle.set k 0xFFFFFFFF } }) SYS_LCS
        SYS_LCS_COMPLETED 1

/-- The bit timings and address of a management bus from the ruling generation (R170, R519). -/
def State.anchorBus (s : State) (g : List Byte) (b : Nat) : State :=
  let t := s.setFld (MBb_CFG b) MBb_CFG_ADDR (oct g (9 + b) % 32)
  (t.wr (MBb_NBT b) (BitVec.ofNat 32 (beAt g (12 + 8 * b) 4))).wr (MBb_DBT b) (BitVec.ofNat 32 (beAt g (16 + 8 * b) 4))

/-- Once their settings are applied, the management buses go to normal (R156, R169). -/
def State.busesUp (s : State) : State := (s.chRequest 64 0).chRequest 65 0

/-- The node number and its source, and with it the twin's part (R17, R602). -/
def State.applyNode (s : State) : State :=
  let blank := match s.anchor with | some g => decide (1024 ≤ beAt g 6 2) | none => true
  let n := match s.anchor with | some g => if blank then s.pw.straps else beAt g 6 2 | none => s.pw.straps
  let t := (s.setFld SYS_BOOT SYS_BOOT_NODE n).setFlag SYS_BOOT SYS_BOOT_NID_SRC blank
  (t.setFld SEAM_STAT SEAM_STAT_ROLE (n % 2)).showAuth

/-- The ruling anchored generation is applied (R519). -/
def State.applyAnchor (s : State) : State :=
  match s.rulingAnchor with
  | some (k, g) => State.applyNode (((State.setFld { s with anchor := some g } THIM_STAT THIM_STAT_ANCHOR_GEN k).anchorBus g 0).anchorBus g 1)
  | none =>
    State.applyNode (((State.setFld { s with anchor := none } THIM_STAT THIM_STAT_ANCHOR_GEN 7).setFld THIM_STAT THIM_STAT_NO_ANCHOR
      1).log 519 0)

/-- Octets from the first to the last of a complete download; 0 where blocks are missing. -/
def ImgBank.span (x : ImgBank) : Nat :=
  if x.complete then x.blocks.foldl (fun n p => n + p.2.length) 0 else 0

/-- Type, offset and length of the parts of a manifest (R525). -/
def ImgBank.parts (x : ImgBank) : List (Nat × Nat × Nat) :=
  (List.range (x.field 6 2)).map (fun j => (x.field (64 + 64 * j) 1, x.field (72 + 64 * j) 4, x.field (76 + 64 * j) 4))

/-- n octets from off are 0. -/
def ImgBank.zero (x : ImgBank) (off n : Nat) : Bool := (x.read off n).all (fun b => b == 0)

/-- Check 1 of R526. -/
def ImgBank.shape (x : ImgBank) : Bool :=
  let n := x.field 6 2
  let total := x.field 20 4
  let ps := x.parts
  let once (t : Nat) : Bool := (ps.filter (fun p => p.1 == t)).length == 1
  x.field 0 4 == 0x4C484D46 && x.field 4 1 == 1 && decide (x.field 5 1 ≤ 3) && x.field 24 2 == 0x1024 && decide (1 ≤ n) &&
    decide (n ≤ 16) && decide (8192 ≤ total) && decide (total ≤ 50331648) && total == x.span && x.zero 26 38 &&
    x.zero (64 + 64 * n) (1024 - 64 * n) && x.zero 6445 3 && x.zero 6544 1648 &&
    (List.range n).all (fun j => x.zero (65 + 64 * j) 3) &&
    ps.all (fun p => decide (1 ≤ p.1) && decide (p.1 ≤ 6) && p.2.1 % 4096 == 0 && decide (8192 ≤ p.2.1) &&
      decide (p.2.1 + p.2.2 ≤ total)) &&
    (List.range n).all (fun i => (List.range i).all (fun j =>
      let a := ps.getD i (0, 0, 0)
      let b := ps.getD j (0, 0, 0)
      decide (a.2.1 + a.2.2 ≤ b.2.1) || decide (b.2.1 + b.2.2 ≤ a.2.1))) &&
    once 1 && once 3 && once 4 && once 6

/-- The first check of R526 that a bank's manifest fails; 0 where it passes. -/
def State.manifestFails (s : State) (b : Nat) : Nat :=
  let x := s.img b
  let th (c : Nat) : Nat := s.otp.therm.getD c 0
  if !x.shape then 1
  else if x.field 5 1 < min (th 1) 3 then 2
  else if Config.sha384 (x.read 1088 2048) ≠ s.otp.mkeys.getD (x.field 5 1) [] then 3
  else if x.field 8 4 < th 0 then 4
  else if !Config.mldsaOk (x.read 1088 1952) (x.read 0 1088) (x.read 3136 3309) then 5
  else if !Config.ecdsaOk (x.read 3040 96) (x.read 0 1088) (x.read 6448 96) then 6
  else if (List.range (x.field 6 2)).any (fun j =>
      Config.sha384 (x.read (x.field (72 + 64 * j) 4) (x.field (76 + 64 * j) 4)) != x.read (80 + 64 * j) 48) then 7
  else 0

/-- A rejected manifest is logged with its check (R526). -/
def State.rejectLog (s : State) (b : Nat) : State := s.log 526 b [s.manifestFails b]

/-- A fall-back to bank b from bank old: a CONFIRMED record, FALLBACK and one record that names the snapshot left behind
(R534). -/
def State.fallBack (s : State) (b old : Nat) : State :=
  let snap := match s.newestArea old with | some p => p.2.snap | none => 0
  ((s.writeSel b old false).setFld THIM_EVT THIM_EVT_FALLBACK 1).log 534 b [snap]

/-- Step 1 of R534: the boot attempt of a trial image, the fourth of which falls back; the region has 64 slots (R511). -/
def State.bootAttempt (s : State) : State :=
  match s.rulingSel with
  | none => s
  | some (_, r) =>
    if !r.trial then s
    else
      let t : State := { s with th := { s.th with bootTries := (s.th.bootTries ++ [r.seq]).drop (s.th.bootTries.length - 63) } }
      let n := (t.th.bootTries.filter (fun q => q == r.seq)).length
      if 4 ≤ n then t.fallBack r.prev r.sel else t.setFld THIM_STAT THIM_STAT_ATTEMPTS n

/-- The image bank that the ruling record selects, and whether it is in trial (R532). -/
def State.selected (s : State) : Nat × Bool :=
  match s.rulingSel with
  | some (_, r) => (r.sel, r.trial)
  | none => (0, false)

/-- The running bank is b, with UPD. -/
def State.runImage (s : State) (b upd : Nat) : State :=
  ((s.setFld THIM_STAT THIM_STAT_BANK b).setFld THIM_STAT THIM_STAT_UPD upd).showStandby

/-- Steps 2 to 4 of R534. -/
def State.bootImage (s : State) : State :=
  let (b, trial) := s.selected
  if s.manifestFails b = 0 then s.runImage b (bit trial)
  else
    let t := s.rejectLog b
    if (s.img (1 - b)).complete then
      let t := t.fallBack (1 - b) b
      if s.manifestFails (1 - b) = 0 then t.runImage (1 - b) 0 else (t.rejectLog (1 - b)).runImage (1 - b) 3
    else t.runImage b 3

/-- BOOT_ROM_VERIFY: the boot ROM's part of step 2; `stuck`: a lifecycle word does not complete; `shield`: the active shield
is open or shorted. -/
def State.bootRomOp (s : State) (stuck shield : Bool) : State :=
  if s.pw.boot ≠ 2 then s
  else
    let s := s.mramSweep.lifecycleFill stuck
    let s := if shield && !s.flag CIPH_STAT CIPH_STAT_TAMPER then s.globalTamper 0 else s
    let s : State := if s.keyMram.tamper then
        { s with keyMram := { s.keyMram with blob0 := none, blob1 := none, tamper := false } } else s
    let s := s.applyAnchor.busesUp.bootAttempt.bootImage
    { s with pw := { s.pw with boot := 3 } }

/-! ### Steps 2 and 3: Thimble boot and the initialisers -/

/-- A confirmed image's floor is burnt where a power failure left it out (R534, R537). -/
def State.burnFloor (s : State) : State :=
  match s.rulingSel with
  | some (_, r) => if r.trial then s else s.burn 0 (min r.svn 256)
  | none => s

/-- THIMBLE_BOOT_COMPLETE: the event log resumes (R514), hosts and mailboxes are served, the governors send their first command, and the register arrays of
class 1 report DONE (R62, R574, R603). -/
def State.thimbleBootOp (s : State) : State :=
  if s.pw.boot ≠ 3 ∨ s.recovering ∨ s.th.restricted then s
  else
    let s := State.burnFloor { s with pw := { s.pw with boot := 4 }, hostUp := true }
    let s := (s.logScan.setFld ECC_INIT ECC_INIT_DONE (s.fld ECC_INIT ECC_INIT_DONE ||| 2)).bootTime 0
    (s.avsStart 0 (s.gov 0).target).avsStart 1 (s.gov 1).target

/-- INIT_CLASS_DONE: class k has been initialised; ALL once every class is (R574). MRAM may be ready as soon as boot begins. -/
def State.initDoneOp (s : State) (k : Nat) : State :=
  if s.pw.boot < 4 ∧ !(k = 5 ∧ 1 ≤ s.pw.boot) then s
  else
    let t := s.setFld ECC_INIT ECC_INIT_DONE (s.fld ECC_INIT ECC_INIT_DONE ||| 2 ^ k)
    if t.fld ECC_INIT ECC_INIT_DONE = 127 then t.setFld ECC_INIT ECC_INIT_ALL 1 else t

/-! ### Step 4: settings and join ports (R524, R607) -/

/-- The newest snapshot of a bank in a schema. -/
def State.snapOf (s : State) (bank schema : Nat) : Option SetSnap :=
  [s.setArea (2 * bank), s.setArea (2 * bank + 1)].foldl (fun m x =>
    match x with
    | some y =>
      if y.schema ≠ schema then m
      else match m with
        | some z => if newerSeq z.snap y.snap then some y else some z
        | none => some y
    | none => m) none

/-- Octets of the settings-schema part of a bank's manifest. -/
def ImgBank.schemaPart (x : ImgBank) : List Byte :=
  match x.parts.find? (fun p => p.1 == 6) with
  | some p => x.read p.2.1 p.2.2
  | none => []

/-- The settings to restore: those of the running bank; in a trial those of the previous bank, converted and saved; none for
the defaults. -/
def State.settings (s : State) : Option (List (Nat × List Byte)) × State :=
  let b := s.runBank
  match s.snapOf b s.schema with
  | some x => (some x.entries, s)
  | none =>
    let prev := match s.rulingSel with | some (_, r) => r.prev | none => 1 - b
    let old := if s.upd = 1 then s.snapOf prev ((s.img prev).field 16 4) else none
    match old with
    | some x =>
      let l := Config.convertSettings (s.img b).schemaPart x.entries
      let (area, snap) := match s.newestArea b with
        | some (a, y) => (2 * b + (1 - a % 2), (y.snap + 1) % 2 ^ 32)
        | none => (2 * b, 1)
      let y : SetSnap := { snap := snap, schema := s.schema, entries := l }
      (some l, State.mramStored { s with th := { s.th with setAreas := Sparse.set (fun _ => none) s.th.setAreas area (some y) } }
        (0x6000000 + 0x200000 * area) 0x200000)
    | none => (none, (s.setFld THIM_STAT THIM_STAT_DEFAULTS 1).log 524 0)

/-- An entry is applied as a dictionary write; none where it is skipped. -/
def State.restoreEntry (s : State) (e : Nat × List Byte) : Option State :=
  let idx := e.1 / 256
  let sub := e.1 % 256
  match odFind idx sub with
  | none => none
  | some r =>
    let fits := match r.ty with
      | .str n => decide (e.2.length ≤ n)
      | ty => ty.size == some e.2.length && r.inRange e.2
    if !fits then none
    else
      let (c, t) := s.odPut 0 3 r idx sub e.2 none
      if c = 0 then some t else none

/-- Entries applied in turn; the numbers of those that are skipped are kept. -/
def State.restoreAll (s : State) (l : List (Nat × List Byte)) (skipped : List Nat) : State × List Nat :=
  l.foldl (fun p e => match p.1.restoreEntry e with
    | some t => (t, p.2)
    | none => (p.1, p.2 ++ [e.1])) (s, skipped)

/-- An entry of an ENABLE object, and that of PAIRED. -/
def entryEnables (e : Nat × List Byte) : Bool :=
  match odFind (e.1 / 256) (e.1 % 256) with
  | some r => isEnable r.tag
  | none => false
def entryPairs (e : Nat × List Byte) : Bool := e.1 == 0x00600C

/-- The join ports are enabled, with gPTP and its settings where JOIN_GPTP is 1 (R606, R607). -/
def State.joinPorts (s : State) : State :=
  let n := s.nodeNumber
  let on := s.od 0x00B008 == 1
  let g : JoinGptp := { sync := -7, pdelay := -3, announce := -3, prio := if n = 0 then 246 else if n = 1 then 247 else 255 }
  let s : State := { s with jn := { s.jn with ports := s.od 0x00B001, etype := s.od 0x00B002, gptp := if on then some g else none } }
  let s : State := if on && s.servo.mode == 0 then { s with servo := { s.servo with mode := if n < 2 then 2 else 1 } } else s
  ((List.range 1024).filter (fun k => s.jn.ports.testBit k)).foldl (fun t k =>
    let t := if on then (t.portCfg .thimble k (setF (t.rd (PORT_CFGn k)) PORT_CFGn_GPTP 1)).2 else t
    (t.portCfg .thimble k (setF (t.rd (PORT_CFGn k)) PORT_CFGn_EN 1)).2) s

/-- Skipped entries are counted, and the first eight logged (R524). -/
def State.noteSkipped (s : State) (l : List Nat) : State :=
  if l.isEmpty then s else (s.bumpSat THIM_STAT THIM_STAT_SKIPPED l.length).log 524 1 (l.take 8)

/-- JOINING begins: the node leaves INIT, writes are accepted, and a paired node whose Seam has never been up counts its loss
from here (R433, R446, R548, R552). -/
def State.enterJoining (s : State) : State :=
  let s : State := { s with pw := { s.pw with boot := 5 }, jn := { s.jn with joinAt := some s.mer },
                            sm := { s.sm with lostAt := if s.paired && s.sm.lostAt.isNone then some s.mer else s.sm.lostAt } }
  let s := if s.node = .init then s.setNode .joining else s
  let s := ((s.bootTime 1).showPhase).setReady
  let s := if s.fld SYS_BOOT SYS_BOOT_CAUSE = 3 then s.callTwin else s
  if s.paired && s.seamState == 0 then s.seamTrain else s

/-- SETTINGS_RESTORE: once every class is initialised. PAIRED is applied last, and ENABLE objects after all others. -/
def State.settingsRestoreOp (s : State) : State :=
  if s.pw.boot ≠ 4 ∨ !s.flag ECC_INIT ECC_INIT_ALL then s
  else
    let (l, s) := s.settings
    let l := l.getD []
    let (s, k) := s.restoreAll (l.filter (fun e => !entryEnables e && !entryPairs e)) []
    let s := s.joinPorts
    let (s, k) := s.restoreAll (if s.autostart then l.filter entryEnables else []) k
    let (s, k) := s.restoreAll (l.filter entryPairs) k
    let s := s.noteSkipped k
    State.enterJoining { s with th := { s.th with saveDirty := none } }

/-- POWER_ON_RESET, R600: PORST_N low (or the brown-out detector) resets every value of the manual, including those that survive SLEEP. -/
def execPowerOnReset (s : State) : Host.Outcome State Fault Refusal := finish s s.powerResetOp

/-- BROWN_OUT, R626: A group 1 rail, or a core rail below 0.60 V, for 2 us acts as PORST_N low until every rail has been in range for 100 us. -/
def execBrownOut (s : State) : Host.Outcome State Fault Refusal := finish s s.powerResetOp

/-- DEVICE_RESET, R600: RST_N low while PORST_N is high resets to the values of R14, except those that R549 keeps. -/
def execDeviceReset (s : State) : Host.Outcome State Fault Refusal := finish s s.deviceResetOp

/-- ACTIVATION_RESET, R533: 10 ms after ACTIVATE 2 the Zalore performs RST_N. -/
def execActivationReset (s : State) : Host.Outcome State Fault Refusal := finish s s.activationResetOp

/-- RESET_RELEASE, R603: Release of a reset samples the straps and starts the boot sequence with time PLL lock. -/
def execResetRelease (nid : Nat) (s : State) : Host.Outcome State Fault Refusal := finish s (s.releaseOp nid)

/-- PLL_LOCK, R73: The first lock of the time PLL after reset starts Meridian counting and sets TIME_STAT.RUN. -/
def execPllLock (s : State) : Host.Outcome State Fault Refusal := finish s s.pllLockOp

/-- BOOT_ROM_VERIFY, R534: The boot ROM records the boot attempt, verifies the selected manifest, falls back if needed and loads the parts. -/
def execBootRomVerify (stuck : Bool) (shield : Bool) (s : State) : Host.Outcome State Fault Refusal := finish s (s.bootRomOp stuck shield)

/-- THIMBLE_BOOT_COMPLETE, R603: When Thimble boot ends, the governor sends its first command and the memory initialisers start. -/
def execThimbleBootComplete (s : State) : Host.Outcome State Fault Refusal := finish s s.thimbleBootOp

/-- INIT_CLASS_DONE, R574: An initialiser finishes its memory class and sets its DONE bit, and ALL once every class is done. -/
def execInitClassDone (k : Nat) (s : State) : Host.Outcome State Fault Refusal := finish s (s.initDoneOp k)

/-- SETTINGS_RESTORE, R524: Once ECC_INIT.ALL is 1, the Thimble restores settings, enables the join ports and moves the node from INIT to JOINING. -/
def execSettingsRestore (s : State) : Host.Outcome State Fault Refusal := finish s s.settingsRestoreOp


end Sys2Proof.Machine
end

