-- ==== Sys2Proof/Machine/Dispatch.lean ====
section
/-! DEFINITION. The meaning of each command, one arm for each row of the table. -/

namespace Sys2Proof.Machine

/-- What a command does to everything but the queue of waiting commands. -/
def exec (i : Instr) (s : State) : Host.Outcome State Fault Refusal :=
  match i with
  | .powerOnReset => Sys2Proof.Machine.execPowerOnReset s
  | .deviceReset => Sys2Proof.Machine.execDeviceReset s
  | .brownOut => Sys2Proof.Machine.execBrownOut s
  | .resetRelease nid => Sys2Proof.Machine.execResetRelease nid s
  | .pllLock => Sys2Proof.Machine.execPllLock s
  | .bootRomVerify stuck shield => Sys2Proof.Machine.execBootRomVerify stuck shield s
  | .thimbleBootComplete => Sys2Proof.Machine.execThimbleBootComplete s
  | .initClassDone k => Sys2Proof.Machine.execInitClassDone k s
  | .keyStoreRestore => Sys2Proof.Machine.execKeyStoreRestore s
  | .settingsRestore => Sys2Proof.Machine.execSettingsRestore s
  | .monitorWindowEnd n count => Sys2Proof.Machine.execMonitorWindowEnd n count s
  | .controlPeriodEnd d => Sys2Proof.Machine.execControlPeriodEnd d s
  | .degradedLevelRaise d => Sys2Proof.Machine.execDegradedLevelRaise d s
  | .degradedLevelExit d => Sys2Proof.Machine.execDegradedLevelExit d s
  | .avsTransactionEnd rail res => Sys2Proof.Machine.execAvsTransactionEnd rail res s
  | .railDeviation rail mv => Sys2Proof.Machine.execRailDeviation rail mv s
  | .paceVcmdWrite ifc w => Sys2Proof.Machine.execPaceVcmdWrite ifc w s
  | .paceLimitWrite ifc vlim w => Sys2Proof.Machine.execPaceLimitWrite ifc vlim w s
  | .paceEvtWrite ifc w => Sys2Proof.Machine.execPaceEvtWrite ifc w s
  | .referenceLoss => Sys2Proof.Machine.execReferenceLoss s
  | .referenceRelock => Sys2Proof.Machine.execReferenceRelock s
  | .twinDiffRemeasure diff => Sys2Proof.Machine.execTwinDiffRemeasure diff s
  | .datumCommit src => Sys2Proof.Machine.execDatumCommit src s
  | .datumCancel src => Sys2Proof.Machine.execDatumCancel src s
  | .datumFetch ifc => Sys2Proof.Machine.execDatumFetch ifc s
  | .datumChangeComplete dict result => Sys2Proof.Machine.execDatumChangeComplete dict result s
  | .pendingRecordEffect d => Sys2Proof.Machine.execPendingRecordEffect d s
  | .gptpMessageReceive n msg => Sys2Proof.Machine.execGptpMessageReceive n msg s
  | .ppsInEdge rising => Sys2Proof.Machine.execPpsInEdge rising s
  | .ppsOutRise => Sys2Proof.Machine.execPpsOutRise s
  | .ppsOutFall => Sys2Proof.Machine.execPpsOutFall s
  | .txTimestampEntry n => Sys2Proof.Machine.execTxTimestampEntry n s
  | .tsqHeadRead ifc u => Sys2Proof.Machine.execTsqHeadRead ifc u s
  | .meridianRead ifc => Sys2Proof.Machine.execMeridianRead ifc s
  | .viewRead ifc => Sys2Proof.Machine.execViewRead ifc s
  | .datumSnapshotRead ifc d => Sys2Proof.Machine.execDatumSnapshotRead ifc d s
  | .ppsiStampRead ifc => Sys2Proof.Machine.execPpsiStampRead ifc s
  | .portEnable ifc n w => Sys2Proof.Machine.execPortEnable ifc n w s
  | .portStop ifc n w => Sys2Proof.Machine.execPortStop ifc n w s
  | .portDrained n => Sys2Proof.Machine.execPortDrained n s
  | .portConfigWrite ifc n w => Sys2Proof.Machine.execPortConfigWrite ifc n w s
  | .laneEqWrite ifc lane w => Sys2Proof.Machine.execLaneEqWrite ifc lane w s
  | .refWindowEnd p edges => Sys2Proof.Machine.execRefWindowEnd p edges s
  | .trainingComplete n => Sys2Proof.Machine.execTrainingComplete n s
  | .trainingTimeout n => Sys2Proof.Machine.execTrainingTimeout n s
  | .linkDown n fault => Sys2Proof.Machine.execLinkDown n fault s
  | .linkUp n => Sys2Proof.Machine.execLinkUp n s
  | .remoteFault n => Sys2Proof.Machine.execRemoteFault n s
  | .frameReceive n octets found raw => Sys2Proof.Machine.execFrameReceive n octets found raw s
  | .itemLookup p full slow => Sys2Proof.Machine.execItemLookup p full slow s
  | .itemEnqueue p => Sys2Proof.Machine.execItemEnqueue p s
  | .transmitStart n raw => Sys2Proof.Machine.execTransmitStart n raw s
  | .transmitComplete u => Sys2Proof.Machine.execTransmitComplete u s
  | .gateChange ifc n w => Sys2Proof.Machine.execGateChange ifc n w s
  | .gateConfigEffect n => Sys2Proof.Machine.execGateConfigEffect n s
  | .gateEvent n => Sys2Proof.Machine.execGateEvent n s
  | .verifySend n => Sys2Proof.Machine.execVerifySend n s
  | .verifyResponse n => Sys2Proof.Machine.execVerifyResponse n s
  | .lpiEntry n => Sys2Proof.Machine.execLpiEntry n s
  | .lpiExit n => Sys2Proof.Machine.execLpiExit n s
  | .groupHashWrite ifc n k w => Sys2Proof.Machine.execGroupHashWrite ifc n k w s
  | .statsRead ifc n c => Sys2Proof.Machine.execStatsRead ifc n c s
  | .channelEnable ifc u w => Sys2Proof.Machine.execChannelEnable ifc u w s
  | .channelStop ifc u w => Sys2Proof.Machine.execChannelStop ifc u w s
  | .canFrameReceive c frame found rec sof => Sys2Proof.Machine.execCanFrameReceive c frame found rec sof s
  | .channelItemArrival n => Sys2Proof.Machine.execChannelItemArrival n s
  | .canTxAttemptEnd c how lec eights tdcv sof => Sys2Proof.Machine.execCanTxAttemptEnd c how lec eights tdcv sof s
  | .loomRecover ifc n w => Sys2Proof.Machine.execLoomRecover ifc n w s
  | .busOffRecoveryComplete c => Sys2Proof.Machine.execBusOffRecoveryComplete c s
  | .linHeaderReceive n ident resp stamp => Sys2Proof.Machine.execLinHeaderReceive n ident resp stamp s
  | .linNoResponse n => Sys2Proof.Machine.execLinNoResponse n s
  | .linScheduleEntry n => Sys2Proof.Machine.execLinScheduleEntry n s
  | .linIdleTimeout n => Sys2Proof.Machine.execLinIdleTimeout n s
  | .linLocalWakeStart n => Sys2Proof.Machine.execLinLocalWakeStart n s
  | .rxRelease ifc n w => Sys2Proof.Machine.execRxRelease ifc n w s
  | .hostBufferRead ifc n k => Sys2Proof.Machine.execHostBufferRead ifc n k s
  | .trxRequest ifc n w => Sys2Proof.Machine.execTrxRequest ifc n w s
  | .trxModeSettled c => Sys2Proof.Machine.execTrxModeSettled c s
  | .inhOffDelay n => Sys2Proof.Machine.execInhOffDelay n s
  | .inhOnSettled n => Sys2Proof.Machine.execInhOnSettled n s
  | .channelWake c low => Sys2Proof.Machine.execChannelWake c low s
  | .wakeFrameDecode c frame bad sof => Sys2Proof.Machine.execWakeFrameDecode c frame bad sof s
  | .falseWakeWindowEnd n => Sys2Proof.Machine.execFalseWakeWindowEnd n s
  | .loomSuppClear ifc n w => Sys2Proof.Machine.execLoomSuppClear ifc n w s
  | .maxawake n => Sys2Proof.Machine.execMaxawake n s
  | .plcaFrameReceive m octets found raw => Sys2Proof.Machine.execPlcaFrameReceive m octets found raw s
  | .plcaTxAttemptEnd m ok raw => Sys2Proof.Machine.execPlcaTxAttemptEnd m ok raw s
  | .plcaBeacon m seen => Sys2Proof.Machine.execPlcaBeacon m seen s
  | .plcaBeaconLoss m => Sys2Proof.Machine.execPlcaBeaconLoss m s
  | .mdioAccess ifc w => Sys2Proof.Machine.execMdioAccess ifc w s
  | .mdioComplete v => Sys2Proof.Machine.execMdioComplete v s
  | .phyLinkPoll m up => Sys2Proof.Machine.execPhyLinkPoll m up s
  | .mbConfigApply b => Sys2Proof.Machine.execMbConfigApply b s
  | .vbusEnable ifc v w => Sys2Proof.Machine.execVbusEnable ifc v w s
  | .vbusStop ifc v w => Sys2Proof.Machine.execVbusStop ifc v w s
  | .vbusStopped v => Sys2Proof.Machine.execVbusStopped v s
  | .vbusRequest v => Sys2Proof.Machine.execVbusRequest v s
  | .slotClose v => Sys2Proof.Machine.execSlotClose v s
  | .vbusDelivery v => Sys2Proof.Machine.execVbusDelivery v s
  | .memberRecover ifc v m w => Sys2Proof.Machine.execMemberRecover ifc v m w s
  | .memberRecoveryComplete v m => Sys2Proof.Machine.execMemberRecoveryComplete v m s
  | .injectorWrite ifc f w => Sys2Proof.Machine.execInjectorWrite ifc f w s
  | .vbusLinScheduleEntry v => Sys2Proof.Machine.execVbusLinScheduleEntry v s
  | .vbusLinNoResponse v => Sys2Proof.Machine.execVbusLinNoResponse v s
  | .vbusFalseWakeWindowEnd v => Sys2Proof.Machine.execVbusFalseWakeWindowEnd v s
  | .vbusSleepRequest ifc v w => Sys2Proof.Machine.execVbusSleepRequest ifc v w s
  | .vbusIdleSleep v => Sys2Proof.Machine.execVbusIdleSleep v s
  | .vbusMaxawake v => Sys2Proof.Machine.execVbusMaxawake v s
  | .vbusSuppClear ifc v w => Sys2Proof.Machine.execVbusSuppClear ifc v w s
  | .loadWindowEnd v => Sys2Proof.Machine.execLoadWindowEnd v s
  | .ntscfReceive p => Sys2Proof.Machine.execNtscfReceive p s
  | .abortReq v => Sys2Proof.Machine.execAbortReq v s
  | .wakeReq v => Sys2Proof.Machine.execWakeReq v s
  | .tableStageWrite ifc a w => Sys2Proof.Machine.execTableStageWrite ifc a w s
  | .tableCommit ifc a w => Sys2Proof.Machine.execTableCommit ifc a w s
  | .ownershipWrite ifc a w => Sys2Proof.Machine.execOwnershipWrite ifc a w s
  | .walkerVisit b => Sys2Proof.Machine.execWalkerVisit b s
  | .staRead ifc w => Sys2Proof.Machine.execStaRead ifc w s
  | .staInsert ifc w => Sys2Proof.Machine.execStaInsert ifc w s
  | .staDelete ifc w => Sys2Proof.Machine.execStaDelete ifc w s
  | .staFlushTenant ifc w => Sys2Proof.Machine.execStaFlushTenant ifc w s
  | .staFlushTenantDest ifc w => Sys2Proof.Machine.execStaFlushTenantDest ifc w s
  | .staCmdComplete => Sys2Proof.Machine.execStaCmdComplete s
  | .lpmAdd ifc w => Sys2Proof.Machine.execLpmAdd ifc w s
  | .lpmDelete ifc w => Sys2Proof.Machine.execLpmDelete ifc w s
  | .lpmLookup ifc w => Sys2Proof.Machine.execLpmLookup ifc w s
  | .lpmExactRead ifc w => Sys2Proof.Machine.execLpmExactRead ifc w s
  | .lpmCmdComplete => Sys2Proof.Machine.execLpmCmdComplete s
  | .fenceRequest ifc w => Sys2Proof.Machine.execFenceRequest ifc w s
  | .fenceDone => Sys2Proof.Machine.execFenceDone s
  | .spillFrame p => Sys2Proof.Machine.execSpillFrame p s
  | .spillWriteComplete p => Sys2Proof.Machine.execSpillWriteComplete p s
  | .recallFrame p => Sys2Proof.Machine.execRecallFrame p s
  | .recallComplete p bad => Sys2Proof.Machine.execRecallComplete p bad s
  | .spillCellsFreed => Sys2Proof.Machine.execSpillCellsFreed s
  | .lagMemberLeave a ifc => Sys2Proof.Machine.execLagMemberLeave a ifc s
  | .lagSlotMove a => Sys2Proof.Machine.execLagSlotMove a s
  | .surveyRecord p => Sys2Proof.Machine.execSurveyRecord p s
  | .workItemDispatch => Sys2Proof.Machine.execWorkItemDispatch s
  | .workItemStart e => Sys2Proof.Machine.execWorkItemStart e s
  | .programCommit ifc p w => Sys2Proof.Machine.execProgramCommit ifc p w s
  | .imemWrite ifc e k w => Sys2Proof.Machine.execImemWrite ifc e k w s
  | .stitchQueueCommit ifc q w => Sys2Proof.Machine.execStitchQueueCommit ifc q w s
  | .add e => Sys2Proof.Machine.execAdd e s
  | .sub e => Sys2Proof.Machine.execSub e s
  | .andW e => Sys2Proof.Machine.execAndW e s
  | .orW e => Sys2Proof.Machine.execOrW e s
  | .xorW e => Sys2Proof.Machine.execXorW e s
  | .sll e => Sys2Proof.Machine.execSll e s
  | .srl e => Sys2Proof.Machine.execSrl e s
  | .sra e => Sys2Proof.Machine.execSra e s
  | .slli e => Sys2Proof.Machine.execSlli e s
  | .srli e => Sys2Proof.Machine.execSrli e s
  | .srai e => Sys2Proof.Machine.execSrai e s
  | .mul e => Sys2Proof.Machine.execMul e s
  | .mulhu e => Sys2Proof.Machine.execMulhu e s
  | .mulhs e => Sys2Proof.Machine.execMulhs e s
  | .divu e => Sys2Proof.Machine.execDivu e s
  | .remu e => Sys2Proof.Machine.execRemu e s
  | .minW e => Sys2Proof.Machine.execMinW e s
  | .maxW e => Sys2Proof.Machine.execMaxW e s
  | .minu e => Sys2Proof.Machine.execMinu e s
  | .maxu e => Sys2Proof.Machine.execMaxu e s
  | .cmp e => Sys2Proof.Machine.execCmp e s
  | .tst e => Sys2Proof.Machine.execTst e s
  | .bswap e => Sys2Proof.Machine.execBswap e s
  | .clz e => Sys2Proof.Machine.execClz e s
  | .movf e => Sys2Proof.Machine.execMovf e s
  | .setf e => Sys2Proof.Machine.execSetf e s
  | .adds e => Sys2Proof.Machine.execAdds e s
  | .subs e => Sys2Proof.Machine.execSubs e s
  | .addi e => Sys2Proof.Machine.execAddi e s
  | .andi e => Sys2Proof.Machine.execAndi e s
  | .ori e => Sys2Proof.Machine.execOri e s
  | .xori e => Sys2Proof.Machine.execXori e s
  | .lui e => Sys2Proof.Machine.execLui e s
  | .cmpi e => Sys2Proof.Machine.execCmpi e s
  | .ldw e => Sys2Proof.Machine.execLdw e s
  | .ldh e => Sys2Proof.Machine.execLdh e s
  | .ldhs e => Sys2Proof.Machine.execLdhs e s
  | .ldb e => Sys2Proof.Machine.execLdb e s
  | .ldbs e => Sys2Proof.Machine.execLdbs e s
  | .stw e => Sys2Proof.Machine.execStw e s
  | .sth e => Sys2Proof.Machine.execSth e s
  | .stb e => Sys2Proof.Machine.execStb e s
  | .bc e => Sys2Proof.Machine.execBc e s
  | .jal e => Sys2Proof.Machine.execJal e s
  | .jalr e => Sys2Proof.Machine.execJalr e s
  | .sigx e => Sys2Proof.Machine.execSigx e s
  | .sigi e => Sys2Proof.Machine.execSigi e s
  | .scale e => Sys2Proof.Machine.execScale e s
  | .ctrIncrement e => Sys2Proof.Machine.execCtrIncrement e s
  | .ctrDelta e => Sys2Proof.Machine.execCtrDelta e s
  | .crc e => Sys2Proof.Machine.execCrc e s
  | .amoadd e => Sys2Proof.Machine.execAmoadd e s
  | .amoswap e => Sys2Proof.Machine.execAmoswap e s
  | .amomaxu e => Sys2Proof.Machine.execAmomaxu e s
  | .timeRead e => Sys2Proof.Machine.execTimeRead e s
  | .qopGet e => Sys2Proof.Machine.execQopGet e s
  | .qopPut e => Sys2Proof.Machine.execQopPut e s
  | .qopMark e => Sys2Proof.Machine.execQopMark e s
  | .qopRewind e => Sys2Proof.Machine.execQopRewind e s
  | .qopRelease e => Sys2Proof.Machine.execQopRelease e s
  | .qopFill e => Sys2Proof.Machine.execQopFill e s
  | .rlkp e => Sys2Proof.Machine.execRlkp e s
  | .slkp e => Sys2Proof.Machine.execSlkp e s
  | .frshRead e => Sys2Proof.Machine.execFrshRead e s
  | .frshRaise e => Sys2Proof.Machine.execFrshRaise e s
  | .frshIncrement e => Sys2Proof.Machine.execFrshIncrement e s
  | .ciph e => Sys2Proof.Machine.execCiph e s
  | .emit e => Sys2Proof.Machine.execEmit e s
  | .endItem e => Sys2Proof.Machine.execEndItem e s
  | .dropItem e => Sys2Proof.Machine.execDropItem e s
  | .notify e => Sys2Proof.Machine.execNotify e s
  | .stallEnd e => Sys2Proof.Machine.execStallEnd e s
  | .stallLimitExpiry e reached => Sys2Proof.Machine.execStallLimitExpiry e reached s
  | .hostQueueGet ifc q => Sys2Proof.Machine.execHostQueueGet ifc q s
  | .hostQueuePut ifc q w => Sys2Proof.Machine.execHostQueuePut ifc q w s
  | .hostQueueMark ifc q => Sys2Proof.Machine.execHostQueueMark ifc q s
  | .hostQueueRewind ifc q => Sys2Proof.Machine.execHostQueueRewind ifc q s
  | .hostQueueRelease ifc q => Sys2Proof.Machine.execHostQueueRelease ifc q s
  | .completionRead ifc => Sys2Proof.Machine.execCompletionRead ifc s
  | .freshnessHostWrite ifc f w => Sys2Proof.Machine.execFreshnessHostWrite ifc f w s
  | .bobbinCommit ifc b w => Sys2Proof.Machine.execBobbinCommit ifc b w s
  | .windFrame => Sys2Proof.Machine.execWindFrame s
  | .windWriteComplete die => Sys2Proof.Machine.execWindWriteComplete die s
  | .bobbinStart b => Sys2Proof.Machine.execBobbinStart b s
  | .bobbinStartAt b => Sys2Proof.Machine.execBobbinStartAt b s
  | .bobbinPause b => Sys2Proof.Machine.execBobbinPause b s
  | .bobbinResume b => Sys2Proof.Machine.execBobbinResume b s
  | .bobbinStop b => Sys2Proof.Machine.execBobbinStop b s
  | .bobbinFlush b => Sys2Proof.Machine.execBobbinFlush b s
  | .stageRecord b => Sys2Proof.Machine.execStageRecord b s
  | .bobbinRelease b => Sys2Proof.Machine.execBobbinRelease b s
  | .unwindFrame b => Sys2Proof.Machine.execUnwindFrame b s
  | .cipherResult n => Sys2Proof.Machine.execCipherResult n s
  | .laneAlarm n cause => Sys2Proof.Machine.execLaneAlarm n cause s
  | .laneResetComplete n => Sys2Proof.Machine.execLaneResetComplete n s
  | .laneEnableWrite ifc n w => Sys2Proof.Machine.execLaneEnableWrite ifc n w s
  | .globalTamper cause => Sys2Proof.Machine.execGlobalTamper cause s
  | .proofMismatch u => Sys2Proof.Machine.execProofMismatch u s
  | .keyUpdateSubmit ifc w octets => Sys2Proof.Machine.execKeyUpdateSubmit ifc w octets s
  | .keyUpdateProcess persistOk => Sys2Proof.Machine.execKeyUpdateProcess persistOk s
  | .seamEnable ifc w => Sys2Proof.Machine.execSeamEnable ifc w s
  | .seamRestart ifc => Sys2Proof.Machine.execSeamRestart ifc s
  | .seamTrained => Sys2Proof.Machine.execSeamTrained s
  | .alignmentMarker k octets bip => Sys2Proof.Machine.execAlignmentMarker k octets bip s
  | .groupAligned g skew => Sys2Proof.Machine.execGroupAligned g skew s
  | .alignTimeout => Sys2Proof.Machine.execAlignTimeout s
  | .seamBlock g octets bad => Sys2Proof.Machine.execSeamBlock g octets bad s
  | .seamHello uid node ident sig => Sys2Proof.Machine.execSeamHello uid node ident sig s
  | .measureComplete probes => Sys2Proof.Machine.execMeasureComplete probes s
  | .heartbeatSend => Sys2Proof.Machine.execHeartbeatSend s
  | .heartbeatReceive g body ok => Sys2Proof.Machine.execHeartbeatReceive g body ok s
  | .seamLoss => Sys2Proof.Machine.execSeamLoss s
  | .mirrorPacket octets ok => Sys2Proof.Machine.execMirrorPacket octets ok s
  | .mirrorRetransmit => Sys2Proof.Machine.execMirrorRetransmit s
  | .epochDiffCheck x => Sys2Proof.Machine.execEpochDiffCheck x s
  | .txnRequest pdu => Sys2Proof.Machine.execTxnRequest pdu s
  | .txnPrepare num pdu => Sys2Proof.Machine.execTxnPrepare num pdu s
  | .txnVote num status => Sys2Proof.Machine.execTxnVote num status s
  | .txnCommit num => Sys2Proof.Machine.execTxnCommit num s
  | .txnAbort num => Sys2Proof.Machine.execTxnAbort num s
  | .txnTimeout => Sys2Proof.Machine.execTxnTimeout s
  | .seamDataPacket => Sys2Proof.Machine.execSeamDataPacket s
  | .twinStatusSend => Sys2Proof.Machine.execTwinStatusSend s
  | .twinStatus node body ok => Sys2Proof.Machine.execTwinStatus node body ok s
  | .twinSilence => Sys2Proof.Machine.execTwinSilence s
  | .takeover reg => Sys2Proof.Machine.execTakeover reg s
  | .autoTakeover => Sys2Proof.Machine.execAutoTakeover s
  | .reconcileComplete writes diverged both => Sys2Proof.Machine.execReconcileComplete writes diverged both s
  | .openSession => Sys2Proof.Machine.execOpenSession s
  | .proveSession => Sys2Proof.Machine.execProveSession s
  | .proveTimeout => Sys2Proof.Machine.execProveTimeout s
  | .closeSession => Sys2Proof.Machine.execCloseSession s
  | .oapRead => Sys2Proof.Machine.execOapRead s
  | .oapWrite twin => Sys2Proof.Machine.execOapWrite twin s
  | .oapRequestReceive a => Sys2Proof.Machine.execOapRequestReceive a s
  | .heldRequestTimeout => Sys2Proof.Machine.execHeldRequestTimeout s
  | .sessionIdleTimeout => Sys2Proof.Machine.execSessionIdleTimeout s
  | .snapshotTimeout => Sys2Proof.Machine.execSnapshotTimeout s
  | .assemblyTimeout => Sys2Proof.Machine.execAssemblyTimeout s
  | .oapRelay n addr tag octets => Sys2Proof.Machine.execOapRelay n addr tag octets s
  | .relayEntryExpiry => Sys2Proof.Machine.execRelayEntryExpiry s
  | .broadcastExecute => Sys2Proof.Machine.execBroadcastExecute s
  | .stateReq v => Sys2Proof.Machine.execStateReq v s
  | .dataStop => Sys2Proof.Machine.execDataStop s
  | .tenantStop t => Sys2Proof.Machine.execTenantStop t s
  | .mailboxSubmit ifc w => Sys2Proof.Machine.execMailboxSubmit ifc w s
  | .mailboxResponse k => Sys2Proof.Machine.execMailboxResponse k s
  | .mailboxRelease ifc w => Sys2Proof.Machine.execMailboxRelease ifc w s
  | .registerWrite ifc a be flaw w => Sys2Proof.Machine.execRegisterWrite ifc a be flaw w s
  | .aliasWrite ifc b a w => Sys2Proof.Machine.execAliasWrite ifc b a w s
  | .lockall ifc w => Sys2Proof.Machine.execLockall ifc w s
  | .irqRearm ifc w => Sys2Proof.Machine.execIrqRearm ifc w s
  | .spiTransactionEnd n cmd whole => Sys2Proof.Machine.execSpiTransactionEnd n cmd whole s
  | .spiReadWord ifc a bad => Sys2Proof.Machine.execSpiReadWord ifc a bad s
  | .functionLevelReset => Sys2Proof.Machine.execFunctionLevelReset s
  | .pciePerst low => Sys2Proof.Machine.execPciePerst low s
  | .puntItem q => Sys2Proof.Machine.execPuntItem q s
  | .puntSlotWrite q => Sys2Proof.Machine.execPuntSlotWrite q s
  | .puntTimeout q => Sys2Proof.Machine.execPuntTimeout q s
  | .puntConfigWrite ifc q w => Sys2Proof.Machine.execPuntConfigWrite ifc q w s
  | .upRdWrite ifc q w => Sys2Proof.Machine.execUpRdWrite ifc q w s
  | .dnWrWrite ifc q w => Sys2Proof.Machine.execDnWrWrite ifc q w s
  | .injectSlot q slot bad => Sys2Proof.Machine.execInjectSlot q slot bad s
  | .bridgeOperation ifc write a ws n => Sys2Proof.Machine.execBridgeOperation ifc write a ws n s
  | .bridgeResponse twin => Sys2Proof.Machine.execBridgeResponse twin s
  | .bridgeTimeout k => Sys2Proof.Machine.execBridgeTimeout k s
  | .bridgeRequestReceive octets => Sys2Proof.Machine.execBridgeRequestReceive octets s
  | .prefetchExpiry k => Sys2Proof.Machine.execPrefetchExpiry k s
  | .lockstepFailure => Sys2Proof.Machine.execLockstepFailure s
  | .thermalSample n temp => Sys2Proof.Machine.execThermalSample n temp s
  | .thermalCritical n => Sys2Proof.Machine.execThermalCritical n s
  | .pmbusPoll r res => Sys2Proof.Machine.execPmbusPoll r res s
  | .logWrite => Sys2Proof.Machine.execLogWrite s
  | .anchorUpdate octets => Sys2Proof.Machine.execAnchorUpdate octets s
  | .saveStart => Sys2Proof.Machine.execSaveStart s
  | .saveDelayExpiry => Sys2Proof.Machine.execSaveDelayExpiry s
  | .saveComplete => Sys2Proof.Machine.execSaveComplete s
  | .blockHeader session octets => Sys2Proof.Machine.execBlockHeader session octets s
  | .submitBlock session octets => Sys2Proof.Machine.execSubmitBlock session octets s
  | .imgStoreBlock ifc w => Sys2Proof.Machine.execImgStoreBlock ifc w s
  | .activateImage v reg twin => Sys2Proof.Machine.execActivateImage v reg twin s
  | .activateSkipTwin reg => Sys2Proof.Machine.execActivateSkipTwin reg s
  | .activationReset => Sys2Proof.Machine.execActivationReset s
  | .confirmImage => Sys2Proof.Machine.execConfirmImage s
  | .autoConfirm => Sys2Proof.Machine.execAutoConfirm s
  | .discardImage reg => Sys2Proof.Machine.execDiscardImage reg s
  | .revokeKeys k => Sys2Proof.Machine.execRevokeKeys k s
  | .threadForward resp => Sys2Proof.Machine.execThreadForward resp s
  | .threadReopen next same => Sys2Proof.Machine.execThreadReopen next same s
  | .expanderPush => Sys2Proof.Machine.execExpanderPush s
  | .powerReqActive src => Sys2Proof.Machine.execPowerReqActive src s
  | .powerReqDrowsy src => Sys2Proof.Machine.execPowerReqDrowsy src s
  | .powerReqStandby src test => Sys2Proof.Machine.execPowerReqStandby src test s
  | .powerReqSleep src test => Sys2Proof.Machine.execPowerReqSleep src test s
  | .standbyEntryComplete => Sys2Proof.Machine.execStandbyEntryComplete s
  | .networkWake c => Sys2Proof.Machine.execNetworkWake c s
  | .pinWake high => Sys2Proof.Machine.execPinWake high s
  | .twinSidebandWake => Sys2Proof.Machine.execTwinSidebandWake s
  | .wakeTimerExpiry => Sys2Proof.Machine.execWakeTimerExpiry s
  | .standbyExitReady => Sys2Proof.Machine.execStandbyExitReady s
  | .deviceFalseWake => Sys2Proof.Machine.execDeviceFalseWake s
  | .suppClr src => Sys2Proof.Machine.execSuppClr src s
  | .wakeClear => Sys2Proof.Machine.execWakeClear s
  | .lifecycleReq octets => Sys2Proof.Machine.execLifecycleReq octets s
  | .obsReq level role => Sys2Proof.Machine.execObsReq level role s
  | .jtagInstruction code => Sys2Proof.Machine.execJtagInstruction code s
  | .leakTick c => Sys2Proof.Machine.execLeakTick c s
  | .scrubAccess c a upset => Sys2Proof.Machine.execScrubAccess c a upset s
  | .mergeFlush c => Sys2Proof.Machine.execMergeFlush c s
  | .eccFlipArm ifc w => Sys2Proof.Machine.execEccFlipArm ifc w s
  | .fifoParityError island => Sys2Proof.Machine.execFifoParityError island s
  | .snapshotRequest ifc w => Sys2Proof.Machine.execSnapshotRequest ifc w s
  | .snapshotPeriod => Sys2Proof.Machine.execSnapshotPeriod s
  | .snapshotComplete => Sys2Proof.Machine.execSnapshotComplete s
  | .traceRecord d => Sys2Proof.Machine.execTraceRecord d s
  | .traceFrame d => Sys2Proof.Machine.execTraceFrame d s
  | .olLockChange d st => Sys2Proof.Machine.execOlLockChange d st s
  | .faultReport suspect reporter sev code => Sys2Proof.Machine.execFaultReport suspect reporter sev code s
  | .coalescerClose k => Sys2Proof.Machine.execCoalescerClose k s
  | .joinHelloSend n => Sys2Proof.Machine.execJoinHelloSend n s
  | .joinHello n octets => Sys2Proof.Machine.execJoinHello n octets s
  | .neighbourLoss n => Sys2Proof.Machine.execNeighbourLoss n s
  | .joinRecordCreate => Sys2Proof.Machine.execJoinRecordCreate s
  | .joinRecords n octets => Sys2Proof.Machine.execJoinRecords n octets s
  | .joinAck n octets => Sys2Proof.Machine.execJoinAck n octets s
  | .joinResend n => Sys2Proof.Machine.execJoinResend n s
  | .joinComplete n octets => Sys2Proof.Machine.execJoinComplete n octets s
  | .rootCompletion => Sys2Proof.Machine.execRootCompletion s
  | .joinLeave => Sys2Proof.Machine.execJoinLeave s
  | .joinReport n octets => Sys2Proof.Machine.execJoinReport n octets s
  | .remoteFaultEnd n => Sys2Proof.Machine.execRemoteFaultEnd n s
  | .lpiReceiveChange n on => Sys2Proof.Machine.execLpiReceiveChange n on s
  | .recoveryResetTimeout h => Sys2Proof.Machine.execRecoveryResetTimeout h s
  | .gptpMessageSend n kind => Sys2Proof.Machine.execGptpMessageSend n kind s
  | .bobbinMirrorReport b => Sys2Proof.Machine.execBobbinMirrorReport b s

end Sys2Proof.Machine
end

