-- ==== Sys2Proof/Machine/Tick.lean ====
section
/-! DEFINITION. One tick of Meridian, which passes while no command waits: spec/03 R73, spec/18 R581, R593 (log entry 2). -/

namespace Sys2Proof.Machine

/-- While Meridian counts, it advances by 1; then the observation lanes send what is due, the coalescer takes
a report, the SPI write queue drains, FRER records held back by HSYNC leave, twin A applies alone what a loss of the Seam left it, and the level-mode
counters count. -/
def State.tick (s : State) : State :=
  if s.flag TIME_STAT TIME_STAT_RUN then
    State.levelTick (State.spiDrain 64 <| State.frerTick <| State.loneApply <| State.coalTake <| State.laneSend (State.laneSend { s with mer := (s.mer + 1) % 2 ^ 64 } 0) 1)
  else s

end Sys2Proof.Machine
end

