-- ==== Sys2Proof/Safety.lean ====
section
/-! DEFINITION. What a run of the block never does: it stops on no command. -/

namespace Sys2Proof.Machine

/-- The outcome goes on. -/
def Goes (o : Host.Outcome State Fault Refusal) : Prop := ∃ t, o = .next t

/-- The edge detector of R484 holds the present (level AND enable) bits. -/
def IrqSettled (s : State) : Prop := s.irqPrev = s.irqNow

end Sys2Proof.Machine
end

