-- ==== Sys2Proof/Certificates/Slice0/Obligations.lean ====
section
/-! DEFINITION. The statements for the provers, in the order of the chapters they speak of. Where a statement says what a
command answers, the next state is written with the model's own operations over registers and units; the frame is the equation
itself, up to what `settle` does with the interrupt sources (SettleChangesFourFields). -/

open Sys2Proof Sys2Proof.Machine

set_option linter.unusedVariables false

/-- A step takes the command at the front of the queue and runs it on the rest. Rests on 00_scope.md, log entry 1. -/
def Obligations.StepRunsFrontCommand : Prop :=
  ∀ (c : Instr) (s : State) (rest : List Instr),
    step { s with pending := c :: rest } = exec c { s with pending := rest }

/-- With no command waiting a step is one tick of Meridian. Rests on 03_time_and_datums.md, log entry 2. -/
def Obligations.EmptyQueueTicks : Prop :=
  ∀ s : State, s.pending = [] →
    step s = .next (settle s s.tick) ∧
    (s.flag TIME_STAT TIME_STAT_RUN = false → s.tick = s) ∧
    (s.flag TIME_STAT TIME_STAT_RUN = true → s.hs.spiQ = [] → s.sm.lone = [] → s.tick.mer = (s.mer + 1) % 2 ^ 64)

/-- No step faults or refuses, and each step takes exactly the command at the front of the queue. Rests on 00_scope.md,
log entry 1, log entry 7. -/
def Obligations.EveryStepGoesOnAndTakesOneCommand : Prop :=
  ∀ s : State, ∃ t : State, step s = .next t ∧ t.pending = s.pending.tail

/-- After every step the edge detector of the interrupt sources holds the present (level AND enable) bits. Rests on
15_registers_and_host.md R483, 15_registers_and_host.md R484. -/
def Obligations.InterruptEdgesAreKept : Prop :=
  ∀ s t : State, IrqSettled s → step s = .next t → IrqSettled t

/-- The state after reset meets the invariants: the edge detector is settled and every memory is in canonical form.
Rests on 15_registers_and_host.md R484, 00_scope.md R14. -/
def Obligations.ResetIsSettled : Prop :=
  IrqSettled State.reset ∧ Memory.wf State.reset = true ∧ State.reset.pending = [] ∧ State.reset.mer = 0 ∧
  State.reset.node = .init ∧ State.reset.out = []

/-- Whatever a step does, each interrupt source that rose has sent its MSI-X message or set its pending bit. Rests on
15_registers_and_host.md R484, 15_registers_and_host.md R489. -/
def Obligations.EveryRiseIsSignalled : Prop :=
  ∀ s t : State, IrqSettled s → step s = .next t →
    ∀ i : Nat, i < 15 → t.irqNow.testBit i = true → s.irqNow.testBit i = false →
      Out.msix i ∈ t.out ∨ (t.msixMasked i = true ∧ t.msixPend.testBit i = true)

/-- The end of every command touches only the message record, the pending bits, the edge detector and the queue. Rests
on 15_registers_and_host.md R484. -/
def Obligations.SettleChangesFourFields : Prop :=
  ∀ s t : State,
    settle s t = { t with out := (settle s t).out, msixPend := (settle s t).msixPend, irqPrev := t.irqNow, pending := s.pending } ∧
    ((∀ i : Nat, i < 15 → t.irqNow.testBit i = true → s.irqPrev.testBit i = true) →
      (settle s t).out = t.out ∧ (settle s t).msixPend = t.msixPend)

/-- A word or field write keeps the memories canonical, reads back, and leaves every other word alone. Rests on
15_registers_and_host.md R474, 09_stitch_engines.md R283, 11_bobbins.md R357. -/
def Obligations.MemoryKeepsCanonicalForm : Prop :=
  ∀ (s : State) (a k : Nat) (w : Word), Memory.wf s = true →
    (Memory.wf (s.wr a w) = true ∧ (s.wr a w).rd a = w ∧ ∀ b, b ≠ a → (s.wr a w).rd b = s.rd b) ∧
    (Memory.wf (s.heapWrite k w) = true ∧ Sparse.get (fun _ => 0) (s.heapWrite k w).heap k = w ∧
      ∀ j, j ≠ k → Sparse.get (fun _ => 0) (s.heapWrite k w).heap j = Sparse.get (fun _ => 0) s.heap j)

/-- The end of a monitor's window publishes its count and its margin together. Rests on 02_clockless_core.md R51. -/
def Obligations.PaceWindowPublishesCountAndMargin : Prop :=
  ∀ (s : State) (n count : Nat), n < 32 → count < 65536 → s.fld (PACE_FLOORn n) PACE_FLOORn_FLOOR ≠ 0 →
    ∃ t : State, exec (.monitorWindowEnd n count) s = .next t ∧
      t.fld (PACE_MONn n) PACE_MONn_COUNT = count ∧
      t.fld (PACE_MONn n) PACE_MONn_MARGIN =
        trunc 12 (max (-2048) (min 2047
          (Int.tdiv (((count : Int) - s.fld (PACE_FLOORn n) PACE_FLOORn_FLOOR) * 1024) (s.fld (PACE_FLOORn n) PACE_FLOORn_FLOOR))))

/-- Windows, control periods, AVSBus ends and level changes: what each answers. Rests on R51, R53, R55, R57, R59, R60,
R61, R63, R64, R66. -/
def Obligations.PaceGovernorCommandsComplete : Prop :=
  (∀ (s : State) (n count : Nat), s.fld (PACE_FLOORn n) PACE_FLOORn_FLOOR ≠ 0 → s.monFaulty n = false → 1 ≤ count →
    count ≤ 65534 → s.fld (PACE_FLOORn n) PACE_FLOORn_FLOOR ≤ count → countJump (s.mon n).prev count = false →
    exec (.monitorWindowEnd n count) s = .next (settle s
      ((((((s.wr (PACE_MONn n) (setF (setF (setF (setF (s.rd (PACE_MONn n)) PACE_MONn_COUNT count) PACE_MONn_MARGIN
        (trunc 12 (paceMargin count (s.fld (PACE_FLOORn n) PACE_FLOORn_FLOOR)))) PACE_MONn_BELOW 0) PACE_MONn_FAULT 0)).showMfault
        (n / 16)).showBelow (n / 16)).setMon n
          { s.mon n with prev := some count, lastBad := false, lastGood := true, windows := (s.mon n).windows + 1,
                         minMargin := some ((s.mon n).minMargin.elim (paceMargin count (s.fld (PACE_FLOORn n) PACE_FLOORn_FLOOR))
                           (fun x => min x (paceMargin count (s.fld (PACE_FLOORn n) PACE_FLOORn_FLOOR)))),
                         margin := paceMargin count (s.fld (PACE_FLOORn n) PACE_FLOORn_FLOOR), breach := 0 }).trackExit
        (n / 16)).trackBreach (n / 16)))) ∧
  (∀ (s : State) (d v : Nat), (s.gov d).periodAt + s.paceTicks ≤ s.mer → s.paceEn = true → (s.gov d).started = true →
    (s.gov d).tx = none → 4 ≤ s.pw.boot → s.flag PACE_STAT (mfaultFld d) = false → s.clampMv (s.gov d).target = (s.gov d).target →
    v = s.clampMv ((s.gov d).target + orElse (s.fld PACE_CTRL PACE_CTRL_STEP_UP) 1) → (s.gov d).target < v →
    (∃ n ∈ s.goodMons d, sext 12 (s.fld (PACE_MONn n) PACE_MONn_MARGIN) < (s.fld PACE_THRESH PACE_THRESH_RAISE : Int)) →
    ∃ t : State, exec (.controlPeriodEnd d) s = .next t ∧ (t.gov d).target = v ∧ (t.gov d).periodAt = s.mer ∧
      Out.avs d 0 v ∈ t.out ∧ Out.avs d 1 v ∈ t.out ∧ (∀ e, e ≠ d → t.gov e = s.gov e)) ∧
  (∀ (s : State) (d v : Nat), (s.gov d).periodAt + s.paceTicks ≤ s.mer → s.paceEn = true → (s.gov d).started = true →
    (s.gov d).tx = none → 4 ≤ s.pw.boot → s.flag PACE_STAT (mfaultFld d) = false → s.clampMv (s.gov d).target = (s.gov d).target →
    (s.gov d).avsErr = false → s.goodMons d ≠ [] → s.periodCalm d = true →
    orElse (s.fld PACE_CTRL PACE_CTRL_HOLD) 1 ≤ (s.gov d).calm + 1 →
    s.fld PACE_THRESH PACE_THRESH_RAISE < s.fld PACE_THRESH PACE_THRESH_LOWER →
    v = s.clampMv ((s.gov d).target - orElse (s.fld PACE_CTRL PACE_CTRL_STEP_DN) 1) → v ≠ (s.gov d).target →
    (∀ n ∈ s.goodMons d, (s.fld PACE_THRESH PACE_THRESH_RAISE : Int) ≤ sext 12 (s.fld (PACE_MONn n) PACE_MONn_MARGIN)) →
    ∃ t : State, exec (.controlPeriodEnd d) s = .next t ∧ (t.gov d).target = v ∧ (t.gov d).periodAt = s.mer ∧
      Out.avs d 0 v ∈ t.out ∧ Out.avs d 1 v ∈ t.out ∧ (∀ e, e ≠ d → t.gov e = s.gov e)) ∧
  (∀ (s : State) (d : Nat), (s.gov d).periodAt + s.paceTicks ≤ s.mer → s.paceEn = true → (s.gov d).started = true →
    s.flag PACE_STAT (mfaultFld d) = false → s.clampMv (s.gov d).target = (s.gov d).target → s.periodCalm d = false →
    (∀ n ∈ s.goodMons d, (s.fld PACE_THRESH PACE_THRESH_RAISE : Int) ≤ sext 12 (s.fld (PACE_MONn n) PACE_MONn_MARGIN)) →
    ∃ t : State, exec (.controlPeriodEnd d) s = .next t ∧ (∀ e, (t.gov e).target = (s.gov e).target) ∧
      t.out.filter (fun o => match o with | .avs _ _ _ => true | _ => false) =
        s.out.filter (fun o => match o with | .avs _ _ _ => true | _ => false)) ∧
  (∀ (s : State) (d : Nat), s.paceEn = false →
    ∃ t : State, exec (.controlPeriodEnd d) s = .next t ∧ (∀ e, (t.gov e).target = (s.gov e).target) ∧
      t.out.filter (fun o => match o with | .avs _ _ _ => true | _ => false) =
        s.out.filter (fun o => match o with | .avs _ _ _ => true | _ => false)) ∧
  (∀ (s : State) (rail mv n : Nat) (h : Option Nat), (s.gov rail).tx = some { mv := mv, attempts := n, held := h } →
    exec (.avsTransactionEnd rail 0) s = .next (settle s
      (h.elim ((s.setGov rail { s.gov rail with tx := none, accepted := mv, avsErr := false }).setFld PACE_STAT PACE_STAT_AVS_ERR 0)
        (fun v => ((s.setGov rail { s.gov rail with tx := none, accepted := mv, avsErr := false }).setFld PACE_STAT
          PACE_STAT_AVS_ERR 0).sendTarget rail v)))) ∧
  (∀ (s : State) (rail res mv n : Nat) (h : Option Nat), (s.gov rail).tx = some { mv := mv, attempts := n, held := h } →
    1 ≤ res → res ≤ 2 → n < 4 →
    exec (.avsTransactionEnd rail res) s = .next (settle s
      ((((if res = 1 then s.emitOut (.avs rail 2 mv) else s).setGov rail
        { s.gov rail with tx := some { mv := mv, attempts := n + 1, held := h }, lastCmd := some s.mer }).emitOut
          (.avs rail 0 mv)).emitOut (.avs rail 1 mv)))) ∧
  (∀ (s : State) (rail mv : Nat), (s.gov rail).tx = some { mv := mv, attempts := 4, held := none } →
    exec (.avsTransactionEnd rail 2) s = .next (settle s
      ((((s.setGov rail { s.gov rail with tx := none, target := (s.gov rail).accepted, avsErr := true }).setFld PACE_STAT
        PACE_STAT_AVS_ERR 1).setFld PACE_EVT PACE_EVT_AVS 1).log 57 rail [mv]))) ∧
  (∀ (s : State) (d a : Nat), (s.gov d).level ≠ 0 → (s.gov d).level < 3 → s.inBreach d = true →
    (s.gov d).breachAt = some a → a + 20000000 ≤ s.mer → (s.gov d).levelAt + 20000000 ≤ s.mer →
    exec (.degradedLevelRaise d) s = .next (settle s (s.setLevel d ((s.gov d).level + 1)))) ∧
  (∀ (s : State) (d a : Nat), (s.gov d).level ≠ 0 → (s.gov d).okSince = some a → a + 20000000 ≤ s.mer →
    (s.gov d).levelAt + 20000000 ≤ s.mer →
    exec (.degradedLevelExit d) s = .next (settle s (s.setLevel d ((s.gov d).level - 1))))

/-- A rail deviation and the writes of the pace registers. Rests on R58, R61, R63. -/
def Obligations.PaceRegisterCommandsComplete : Prop :=
  (∀ (s : State) (rail mv : Nat), (s.gov rail).accepted + 30 < mv ∨ mv + 30 < (s.gov rail).accepted →
    s.flag PACE_STAT (railErrFld rail) = false →
    exec (.railDeviation rail mv) s = .next (settle s
      (((s.setFld PACE_STAT (railErrFld rail) 1).setFld PACE_EVT PACE_EVT_RAIL 1).log 58 rail [mv, (s.gov rail).accepted]))) ∧
  (∀ (s : State) (rail mv : Nat), s.flag PACE_STAT (railErrFld rail) = true ∨
    (mv ≤ (s.gov rail).accepted + 30 ∧ (s.gov rail).accepted ≤ mv + 30) →
    exec (.railDeviation rail mv) s = .next (settle s s)) ∧
  (∀ (s : State) (i : Iface) (w : Word), s.paceEn = true → exec (.paceVcmdWrite i w) s = .next (settle s s)) ∧
  (∀ (s : State) (i : Iface) (w : Word), s.hostUp = true → s.paceEn = false →
    exec (.paceVcmdWrite i w) s = .next (settle s
      (((s.typedWrite i PACE_VCMD w).sendWritten 0 (getF w PACE_VCMD_V0)).sendWritten 1 (getF w PACE_VCMD_V1)))) ∧
  (∀ (s : State) (d v : Nat), 4 ≤ s.pw.boot → (s.gov d).tx = none → s.clampMv v ≠ (s.gov d).target →
    s.sendWritten d v = s.avsStart d (s.clampMv v)) ∧
  (∀ (s : State) (i : Iface) (w : Word), s.hostUp = true →
    exec (.paceLimitWrite i true w) s = .next (settle s (s.typedWrite i PACE_VLIM w).showLimErr) ∧
    exec (.paceLimitWrite i false w) s = .next (settle s (s.typedWrite i PACE_THRESH w).showLimErr)) ∧
  (∀ (s : State) (i : Iface) (w : Word), s.hostUp = true →
    ∃ t : State, exec (.paceEvtWrite i w) s = .next t ∧
      (getB w PACE_EVT_RAIL = true → t.fld PACE_STAT PACE_STAT_RAIL_ERR0 = 0 ∧ t.fld PACE_STAT PACE_STAT_RAIL_ERR1 = 0) ∧
      (getB w PACE_EVT_RAIL = false → t.rd PACE_STAT = s.rd PACE_STAT))

/-- Every datum's record at reset. Formalises R80. -/
def Obligations.DatumsAtReset : Prop :=
  ∀ d : Nat, d < 1032 →
    (State.reset.datum d).act.anchor = 0 ∧ (State.reset.datum d).act.offset = 0 ∧ (State.reset.datum d).act.rate = 2 ^ 40 ∧
    (State.reset.datum d).gen = 0 ∧ (State.reset.datum d).pend = none

/-- The reads of Meridian, a view, a datum's snapshot, the PPS stamp and a transmit time-stamp queue. Rests on R74, R78,
R98, R105. -/
def Obligations.TimeReadsComplete : Prop :=
  (∀ (s : State) (i : Iface), s.hostUp = true →
    exec (.meridianRead i) s = .next (settle s
      ((s.latch i TIME_MER_HI (BitVec.ofNat 32 (s.mer / 2 ^ 32))).answer i TIME_MER_LO (BitVec.ofNat 32 s.mer)))) ∧
  (∀ (s : State) (i : Iface), s.hostUp = true → 1031 < s.fld TIME_VSEL TIME_VSEL_DATUM →
    exec (.viewRead i) s = .next (settle s
      ((((s.latch i TIME_VIEW_HI 0).latch i TIME_VMER_LO (BitVec.ofNat 32 s.mer)).latch i TIME_VMER_HI
        (BitVec.ofNat 32 (s.mer / 2 ^ 32))).answer i TIME_VIEW_LO 0))) ∧
  (∀ (s : State) (i : Iface), s.hostUp = true → s.fld TIME_VSEL TIME_VSEL_DATUM ≤ 1031 →
    exec (.viewRead i) s = .next (settle s
      ((((s.latch i TIME_VIEW_HI (BitVec.ofNat 32 (s.viewNow (s.fld TIME_VSEL TIME_VSEL_DATUM) / 2 ^ 32))).latch i TIME_VMER_LO
        (BitVec.ofNat 32 s.mer)).latch i TIME_VMER_HI (BitVec.ofNat 32 (s.mer / 2 ^ 32))).answer i TIME_VIEW_LO
        (BitVec.ofNat 32 (s.viewNow (s.fld TIME_VSEL TIME_VSEL_DATUM)))))) ∧
  (∀ (s : State) (i : Iface) (d : Nat), s.hostUp = true →
    exec (.datumSnapshotRead i d) s = .next (settle s
      ((((List.range 6).foldl (fun t k => t.latch i (TIME_DATd 0 + 4 * (k + 1)) (s.datumWord d (k + 1))) s).latch i
        (TIME_DATd 0) (BitVec.ofNat 32 (d + 1))).answer i (TIME_DATd d) (s.datumWord d 0)))) ∧
  (∀ (s : State) (i : Iface), s.hostUp = true →
    exec (.ppsiStampRead i) s = .next (settle s
      ((s.latch i TIME_PPSI_HI (s.rd TIME_PPSI_HI)).answer i TIME_PPSI_LO (s.rd TIME_PPSI_LO)))) ∧
  (∀ (s : State) (i : Iface) (u : Nat) (e : TsqEntry) (rest : List TsqEntry), s.hostUp = true → s.tsqHidden u = false → s.tsq u = e :: rest →
    exec (.tsqHeadRead i u) s = .next (settle s
      ((((((s.setTsq u rest).latch i (tsqAddr u + 4) (BitVec.ofNat 32 e.mer)).latch i (tsqAddr u + 8)
        (BitVec.ofNat 32 (e.mer / 2 ^ 32))).latch i (tsqAddr u + 12) (BitVec.ofNat 32 e.ten)).latch i (tsqAddr u + 16)
        (BitVec.ofNat 32 (e.ten / 2 ^ 32))).answer i (tsqAddr u)
          (BitVec.ofNat 32 (2 ^ 31 + 2 ^ 30 * bit e.disc + 2 ^ 28 * (e.src % 4) + e.ident % 2 ^ 16))))) ∧
  (∀ (s : State) (i : Iface) (u : Nat), s.hostUp = true → s.tsqHidden u = true →
    exec (.tsqHeadRead i u) s = .next (settle s (s.answer i (tsqAddr u) 0))) ∧
  (∀ (s : State) (i : Iface) (u : Nat), s.hostUp = true → s.tsqHidden u = false → s.tsq u = [] →
    exec (.tsqHeadRead i u) s = .next (settle s
      (((((s.latch i (tsqAddr u + 4) 0).latch i (tsqAddr u + 8) 0).latch i (tsqAddr u + 12) 0).latch i (tsqAddr u + 16) 0).answer
        i (tsqAddr u) 0)))

/-- An acceptable datum change from the registers becomes the pending record; a cancel removes it; a fetch copies it.
Rests on R79, R82, R83, R84, R638. -/
def Obligations.DatumChangeBecomesPending : Prop :=
  (∀ (s : State) (i : Iface) (d eff rate : Nat), s.hostUp = true → s.flag TIME_DCMD TIME_DCMD_BUSY = false →
    s.viaTwin = false → s.refusesConfig = false → s.fld TIME_DSEL TIME_DSEL_DATUM = d → d ≤ 1031 → d ≠ 1024 →
    (d < 1024 → (s.datum d).follow = false) → (s.datum d).pend = none → s.rd64 TIME_DEFF_LO = eff →
    (s.rd TIME_DRATE_LO).toNat + 2 ^ 32 * s.fld TIME_DRATE_HI TIME_DRATE_HI_RATE = rate → rate ≠ 0 →
    s.mer + s.datumLead ≤ eff → eff ≤ s.mer + 2 ^ 44 →
    ∃ t : State, exec (.datumCommit (.regs i)) s = .next t ∧
      (t.datum d).pend = some { eff := eff, step := s.flag TIME_DSEL TIME_DSEL_MODE, rate := rate, offset := s.rd64 TIME_DOFF_LO } ∧
      (t.datum d).act = (s.datum d).act ∧ (t.datum d).gen = (s.datum d).gen ∧ (∀ e, e ≠ d → t.datum e = s.datum e) ∧
      t.flag TIME_DCMD TIME_DCMD_BUSY = true ∧ t.fld TIME_DCMD TIME_DCMD_RESULT = 0) ∧
  (∀ (s : State) (i : Iface) (d : Nat) (p : DatumPend), s.hostUp = true → s.flag TIME_DCMD TIME_DCMD_BUSY = false →
    s.viaTwin = false → s.refusesConfig = false → s.fld TIME_DSEL TIME_DSEL_DATUM = d → d ≤ 1031 → d ≠ 1024 →
    (d < 1024 → (s.datum d).follow = false) → (s.datum d).pend = some p → s.mer + s.datumLead ≤ p.eff →
    ∃ t : State, exec (.datumCancel (.regs i)) s = .next t ∧ (t.datum d).pend = none ∧ (t.datum d).act = (s.datum d).act ∧
      (∀ e, e ≠ d → t.datum e = s.datum e) ∧ t.flag TIME_DCMD TIME_DCMD_BUSY = true ∧ t.fld TIME_DCMD TIME_DCMD_RESULT = 0) ∧
  (∀ (s : State) (i : Iface), s.hostUp = true → s.flag TIME_DCMD TIME_DCMD_BUSY = false →
    s.fld TIME_DSEL TIME_DSEL_DATUM ≤ 1031 → (s.datum (s.fld TIME_DSEL TIME_DSEL_DATUM)).pend = none →
    exec (.datumFetch i) s = .next (settle s (s.setFld TIME_DCMD TIME_DCMD_RESULT 3))) ∧
  (∀ (s : State) (i : Iface) (p : DatumPend), s.hostUp = true → s.flag TIME_DCMD TIME_DCMD_BUSY = false →
    s.fld TIME_DSEL TIME_DSEL_DATUM ≤ 1031 → (s.datum (s.fld TIME_DSEL TIME_DSEL_DATUM)).pend = some p → p.eff < 2 ^ 64 →
    ∃ t : State, exec (.datumFetch i) s = .next t ∧ t.rd64 TIME_DEFF_LO = p.eff ∧ t.fld TIME_DCMD TIME_DCMD_RESULT = 0)

/-- At E the pending record becomes the active record and the generation count rises by 1. Rests on R79, R82. -/
def Obligations.PendingRecordTakesEffect : Prop :=
  ∀ (s : State) (d : Nat) (p : DatumPend), (s.datum d).pend = some p → p.eff ≤ s.mer →
    ∃ t : State, exec (.pendingRecordEffect d) s = .next t ∧
      (t.datum d).act = { anchor := p.eff, offset := if p.step then p.offset else (s.datum d).act.view p.eff, rate := p.rate } ∧
      (t.datum d).pend = none ∧ (t.datum d).gen = ((s.datum d).gen + 1) % 2 ^ 16 ∧ (∀ e, e ≠ d → t.datum e = s.datum e) ∧
      (p.step = false → (t.datum d).act.view p.eff = (s.datum d).act.view p.eff)

/-- The time reference, the twin's Meridian difference, the pulses and the gPTP messages. Rests on R75, R76, R95, R97,
R98, R99, R102, R136. -/
def Obligations.ReferenceAndPulseCommandsComplete : Prop :=
  (∀ s : State, s.flag TIME_STAT TIME_STAT_HOLDOVER = false → s.flag TIME_STAT TIME_STAT_PLL_LOCK = true →
    exec .referenceLoss s = .next (settle s
      ((State.setFld (State.setFld { s with refBad := true } TIME_STAT TIME_STAT_HOLDOVER 1) TIME_EVT TIME_EVT_REFLOSS 1).log 75 0))) ∧
  (∀ s : State, s.flag TIME_STAT TIME_STAT_HOLDOVER = true →
    exec .referenceRelock s = .next (settle s
      ((State.setFld (State.setFld { s with refBad := false } TIME_STAT TIME_STAT_HOLDOVER 0) TIME_EVT TIME_EVT_REFBACK 1).log 75 1))) ∧
  (∀ (s : State) (diff : Int), s.flag SEAM_CTRL SEAM_CTRL_EN = true → s.flag SEAM_STAT SEAM_STAT_UP = true →
    exec (.twinDiffRemeasure diff) s = .next (settle s
      (if 64 < (diff - s.seamDiff).natAbs then
        ((s.wr64 SEAM_DIFF_LO (trunc 64 diff)).setFld TIME_EVT TIME_EVT_TWIN 1).log 76 0 [trunc 64 diff]
      else s))) ∧
  (∀ (s : State) (rising : Bool), s.flag TIME_CTRL TIME_CTRL_PPSI_EN = true → s.flag TIME_CTRL TIME_CTRL_PPSI_EDGE = !rising →
    s.ppsiLast.all (fun l => decide (l + 200000000 ≤ s.mer)) = true → s.servo.mode ≠ 3 →
    ∃ t : State, exec (.ppsInEdge rising) s = .next t ∧ t.ppsiLast = some s.mer ∧
      t.rd TIME_PPSI_CNT = s.rd TIME_PPSI_CNT + 1 ∧ t.flag TIME_EVT TIME_EVT_PPSI = true ∧
      (s.mer < 2 ^ 64 → t.rd64 TIME_PPSI_LO = s.mer)) ∧
  (∀ s : State, s.flag TIME_CTRL TIME_CTRL_PPSO_EN = true → s.ppsoHigh = false → 0 < s.mer →
    (s.viewAt s.ppsoDatum (s.mer - 1) / 2000000000 < s.viewNow s.ppsoDatum / 2000000000 ∨
      (s.viewNow s.ppsoDatum % 2000000000 = 0 ∧ s.viewAt s.ppsoDatum (s.mer - 1) ≠ s.viewNow s.ppsoDatum)) →
    exec .ppsOutRise s = .next (settle s (State.emitOut
      { s with ppsoHigh := true, ppsoRise := s.mer, ppsoNext := (s.viewNow s.ppsoDatum / 2000000000 + 1) * 2000000000 % 2 ^ 64 } (.ppsOut true)))) ∧
  (∀ s : State, s.ppsoHigh = true →
    s.ppsoRise + min (max 1 (s.fld TIME_PPSO TIME_PPSO_WIDTH) * 2000) ((s.dueTick s.ppsoDatum s.ppsoNext - s.ppsoRise) / 2) ≤ s.mer →
    exec .ppsOutFall s = .next (settle s (State.emitOut { s with ppsoHigh := false } (.ppsOut false)))) ∧
  (∀ (s : State) (n : Nat), s.gptpPort n = true → s.flag (PORT_CFGn n) PORT_CFGn_EN = true →
    (∀ d : Nat, ∃ t : State, exec (.gptpMessageReceive n (.linkDelay d)) s = .next t ∧
      t.fld (TIME_PLINKn n) TIME_PLINKn_LINK_DLY =
        (if s.flag (TIME_PLINKn n) TIME_PLINKn_AUTO then d % 2 ^ 20 else s.fld (TIME_PLINKn n) TIME_PLINKn_LINK_DLY) ∧
      (∀ a, a ≠ TIME_PLINKn n → t.rd a = s.rd a)) ∧
    (s.gptpLive n = true → exec (.gptpMessageReceive n .pdelayReq) s = .next (settle s ((s.gptpEvent n 3).gptpCount n 3))) ∧
    (∀ p r : Nat, exec (.gptpMessageReceive n (.announce p r)) s = .next (settle s (s.setGp n { s.gp n with vec := some (p, r) }))) ∧
    (∀ a b c : Int, -7 ≤ a → a ≤ 0 → -3 ≤ b → b ≤ 3 → -3 ≤ c → c ≤ 3 →
      exec (.gptpMessageReceive n (.signal a b c)) s = .next (settle s (s.setGp n { s.gp n with sync := a, pdelay := b, announce := c }))) ∧
    (∀ o : Int, exec (.gptpMessageReceive n (.offset o)) s = .next (settle s
      (if s.servo.mode = 1 ∧ s.gptpSlave = some n then s.servoMeasure o else s)))) ∧
  (∀ (s sent : State) (n : Nat) (k : Nat), s.gptpPort n = true → s.flag (PORT_CFGn n) PORT_CFGn_EN = true →
    s.flag (PORT_STATn n) PORT_STATn_LINK = true → s.flag (PORT_STATn n) PORT_STATn_RFAULT = false →
    sent = s.setGp n { s.gp n with last := (k, s.mer) :: (s.gp n).last.filter (fun e => e.1 != k) } →
    (k = 2 → s.gptpDue n 2 = true → exec (.gptpMessageSend n k) s = .next (settle s ((sent.gptpEvent n 2).gptpCount n 2))) ∧
    (k = 0 → s.gptpMaster n = true → s.gptpDue n 0 = true →
      exec (.gptpMessageSend n k) s = .next (settle s ((sent.gptpEvent n 0).gptpCount n 0))) ∧
    (k = 11 → s.gptpMaster n = true → s.gptpDue n 11 = true →
      exec (.gptpMessageSend n k) s = .next (settle s ((sent.emitOut (.gptp n 11)).gptpCount n 11))) ∧
    (∀ t : State, k = 8 → s.gptpStamp n 0 = some t → exec (.gptpMessageSend n k) s = .next (settle s ((t.emitOut (.gptp n 8)).gptpCount n 8))) ∧
    (∀ t : State, k = 10 → s.gptpStamp n 3 = some t → exec (.gptpMessageSend n k) s = .next (settle s ((t.emitOut (.gptp n 10)).gptpCount n 10))))

/-- Ports: configuration, stopping, training, link, faults, verification, statistics. Rests on R111, R113, R114, R115,
R116, R117, R118, R126, R133, R136. -/
def Obligations.PortLinkCommandsComplete : Prop :=
  (∀ (s t : State) (i : Iface) (n : Nat) (w : Word), s.hostUp = true → s.portShadowed n = false → s.portEn n = false →
    s.portStopped n = true → t = s.typedWrite i (PORT_CFGn n) w →
    (getB w PORT_CFGn_EN = true → exec (.portEnable i n w) s = .next (settle s
      (if s.portMayEnable n (t.rd (PORT_CFGn n)) then t.portStart n else s.portEvent n PORT_EVTn_CFG_ERR))) ∧
    (getB w PORT_CFGn_EN = false → exec (.portConfigWrite i n w) s = .next (settle s t))) ∧
  (∀ (s : State) (i : Iface) (n : Nat) (w : Word), s.hostUp = true → s.portShadowed n = false → s.portEn n = true →
    getB w PORT_CFGn_EN = false → exec (.portStop i n w) s = .next (settle s
      (((if setF ((s.typedWrite i (PORT_CFGn n) w).rd (PORT_CFGn n)) PORT_CFGn_EN 1 = s.rd (PORT_CFGn n) then s
        else s.portEvent n PORT_EVTn_CFG_ERR).setFld (PORT_CFGn n) PORT_CFGn_EN 0).portHalt n))) ∧
  (∀ (s : State) (i : Iface) (n : Nat) (w : Word), s.hostUp = true → s.portShadowed n = false → s.portEn n = true →
    getB w PORT_CFGn_EN = true → exec (.portConfigWrite i n w) s = .next (settle s
      (if setF ((s.typedWrite i (PORT_CFGn n) w).rd (PORT_CFGn n)) PORT_CFGn_EN 1 = s.rd (PORT_CFGn n) then s
        else s.portEvent n PORT_EVTn_CFG_ERR))) ∧
  (∀ (s t u : State) (n : Nat), s.portEn n = false → s.portStopped n = false → (s.port n).tx = none → (s.port n).rem = none →
    t = (if s.portLink n then s.linkFall n else s).setFld (PORT_STATn n) PORT_STATn_STOPPED 1 →
    u = [PORT_STATn_RFAULT, PORT_STATn_LFAULT, PORT_STATn_LPI_TX, PORT_STATn_LPI_RX, PORT_STATn_TRAIN, PORT_STATn_PVS].foldl
      (fun v f => v.setFld (PORT_STATn n) f 0) t →
    exec (.portDrained n) s = .next (settle s (s.joinLinkFall
      (u.setPort n { u.port n with rxOpen := none, noLock := true, downAt := none, upAt := none }) n))) ∧
  (∀ (s : State) (i : Iface) (l : Nat) (w : Word), s.hostUp = true → tapsOk w = true →
    exec (.laneEqWrite i l w) s = .next (settle s
      ((s.typedWord (eqAddr l) w).typedWord (eqAddr l + 4) (s.stagedWord (ifaceNum i) (eqAddr l + 4))))) ∧
  (∀ (s t : State) (p edges : Nat), s.flag TIME_STAT TIME_STAT_PLL_LOCK = true → 155 ≤ edges → edges ≤ 158 →
    Sparse.get (fun _ => 0) s.refWin p < s.mer / 2000 →
    t = { s with refWin := Sparse.set (fun _ => 0) s.refWin p (s.mer / 2000),
                 refGood := Sparse.set (fun _ => 0) s.refGood p (min 10 (Sparse.get (fun _ => 0) s.refGood p + 1)) } →
    (Sparse.get (fun _ => 0) s.refGood p < 9 ∨ s.refPresent p = true → exec (.refWindowEnd p edges) s = .next (settle s t)) ∧
    (9 ≤ Sparse.get (fun _ => 0) s.refGood p → s.refPresent p = false → exec (.refWindowEnd p edges) s = .next (settle s
      ((t.panelPorts p).foldl (fun u n => u.retrain n)
        (t.setFld PORT_REFSTAT PORT_REFSTAT_PRESENT (t.fld PORT_REFSTAT PORT_REFSTAT_PRESENT ||| 2 ^ p)))))) ∧
  (∀ (s t : State) (p edges : Nat), s.flag TIME_STAT TIME_STAT_PLL_LOCK = false ∨
      Sparse.get (fun _ => 0) s.refWin p < s.mer / 2000 ∧ (edges < 155 ∨ 158 < edges) →
    t = { s with refWin := Sparse.set (fun _ => 0) s.refWin p (s.mer / 2000), refGood := Sparse.set (fun _ => 0) s.refGood p 0 } →
    (s.refPresent p = false → exec (.refWindowEnd p edges) s = .next (settle s t)) ∧
    (s.refPresent p = true → exec (.refWindowEnd p edges) s = .next (settle s (State.refGone (State.log
      ((t.setFld PORT_REFSTAT PORT_REFSTAT_PRESENT (t.fld PORT_REFSTAT PORT_REFSTAT_PRESENT - 2 ^ p)).setFld PORT_REFSTAT
        PORT_REFSTAT_LOST (t.fld PORT_REFSTAT PORT_REFSTAT_LOST ||| 2 ^ p)) 113 p) p)))) ∧
  (∀ (s : State) (n : Nat), s.portEn n = true → s.portTrains n = true → s.refPresent (n / 64) = true →
    s.fld (PORT_STATn n) PORT_STATn_TRAIN = 1 ∨ s.fld (PORT_STATn n) PORT_STATn_TRAIN = 3 →
    exec (.trainingComplete n) s = .next (settle s (State.setFld
      { s with jn := { s.jn with fails := Sparse.set (fun _ => 0) s.jn.fails n 0 } } (PORT_STATn n) PORT_STATn_TRAIN 2))) ∧
  (∀ (s r t u v : State) (n : Nat), s.portRuns n = true → s.refPresent (n / 64) = true →
    s.portTrains n = false ∨ s.fld (PORT_STATn n) PORT_STATn_TRAIN = 2 →
    r = (s.setFld (PORT_STATn n) PORT_STATn_LFAULT 0).setPort n
      { s.port n with noLock := false, downAt := none, upAt := some ((s.port n).upAt.getD s.mer) } →
    (r.portLink n = true ∨ r.mer < (r.port n).upAt.getD r.mer + r.upHold n → exec (.linkUp n) s = .next (settle s r)) ∧
    (r.portLink n = false → (r.port n).upAt.getD r.mer + r.upHold n ≤ r.mer →
      t = ((r.setFld (PORT_STATn n) PORT_STATn_LINK 1).portEvent n PORT_EVTn_LINK_UP).log 117 n [1] →
      u = (t.setPort n { t.port n with idleAt := r.mer }).startVerify n →
      v = (if r.jn.ports.testBit n ∧ r.jn.upAt.isNone then
        State.wr { u with jn := { u.jn with upAt := some r.mer } } (SYS_BOOTTk 2) (BitVec.ofNat 32 (r.mer / usTicks)) else u) →
      exec (.linkUp n) s = .next (settle s (match v.lagOf n with | some a => v.lagRefresh a | none => v)))) ∧
  (∀ (s r t : State) (n : Nat) (fault : Bool), s.portRuns n = true → r = s.linkFaulty n fault →
    (r.portLink n = false ∨ r.mer < (r.port n).downAt.getD r.mer + r.dnHold n → exec (.linkDown n fault) s = .next (settle s r)) ∧
    (r.portLink n = true → (r.port n).downAt.getD r.mer + r.dnHold n ≤ r.mer →
      t = (if (r.port n).noLock then (r.linkFall n).retrain n else r.linkFall n).dropRem n →
      exec (.linkDown n fault) s = .next (settle s
        (s.joinLinkFall (match t.lagOf n with | some _ => t | none => t.flushPort n) n)))) ∧
  (∀ (s : State) (n : Nat), s.portRuns n = true → s.flag (PORT_STATn n) PORT_STATn_RFAULT = false →
    exec (.remoteFault n) s = .next (settle s ((s.setFld (PORT_STATn n) PORT_STATn_RFAULT 1).portEvent n PORT_EVTn_RFAULT))) ∧
  (∀ (s : State) (n : Nat), exec (.remoteFaultEnd n) s = .next (settle s (s.setFld (PORT_STATn n) PORT_STATn_RFAULT 0))) ∧
  (∀ (s : State) (n : Nat), s.fld (PORT_STATn n) PORT_STATn_PVS = 1 → (s.port n).vAt ≤ s.mer →
    s.flag (PORT_STATn n) PORT_STATn_RFAULT = false →
    ((s.port n).vTries < 3 → exec (.verifySend n) s = .next (settle s
      ((s.setPort n { s.port n with vTries := (s.port n).vTries + 1, vAt := s.mer + s.verifyTicks n }).emitOut (.verify n)))) ∧
    (3 ≤ (s.port n).vTries → exec (.verifySend n) s = .next (settle s
      ((s.setFld (PORT_STATn n) PORT_STATn_PVS 3).portEvent n PORT_EVTn_VERIFY_FAIL)))) ∧
  (∀ (s : State) (n : Nat), s.fld (PORT_STATn n) PORT_STATn_PVS = 1 → (s.port n).vTries ≠ 0 →
    exec (.verifyResponse n) s = .next (settle s (s.setFld (PORT_STATn n) PORT_STATn_PVS 2))) ∧
  (∀ (s : State) (i : Iface) (n k : Nat) (w : Word), s.hostUp = true →
    exec (.groupHashWrite i n k w) s = .next (settle s (s.typedWrite i (GROUP_HASH n k) w))) ∧
  (∀ (s : State) (i : Iface) (n c : Nat), s.hostUp = true →
    exec (.statsRead i n c) s = .next (settle s
      (((s.wr64 (PORT_STATSn n c) 0).latch i (PORT_STATSn_HI n c) (BitVec.ofNat 32 (s.rd64 (PORT_STATSn n c) / 2 ^ 32))).answer i
        (PORT_STATSn n c) (BitVec.ofNat 32 (s.rd64 (PORT_STATSn n c))))))

/-- Ports: frames in and out, gates and low-power idle. Rests on R103, R116, R119, R127, R129, R130, R131, R135, R256,
R425. -/
def Obligations.PortTrafficCommandsComplete : Prop :=
  (∀ (s a u v : State) (n raw : Nat) (d : List Byte) (hit : Bool) (it : Item), s.portEn n = true → s.portShadowed n = false →
    s.refPresent (n / 64) = true → (s.port n).noLock = false → 60 ≤ d.length → d.length + 4 ≤ s.portMaxlen n → isMacCtl d = false →
    s.isCtl n d = false → s.rxWords n < 64 → s.isGptp n d = false → s.admitData (n / 64) = (true, a) →
    (a.rxCount n d).sampleStep n = (hit, u) → it = { a.rxItem n d raw with mirror := if hit then some 0 else none } →
    v = u.capture n it (a.tenantStamp (a.portTenant n) it.stamp) →
    (oct d 0 % 2 = 0 ∨ s.groupPass n d = true) →
    exec (.frameReceive n d 0 raw) s = .next (settle s (v.parse (n / 64) it))) ∧
  (∀ (s u v : State) (n raw : Nat) (d : List Byte) (hit : Bool) (it : Item), s.portEn n = true → s.portShadowed n = false →
    s.refPresent (n / 64) = true → (s.port n).noLock = false → 60 ≤ d.length → d.length + 4 ≤ s.portMaxlen n → isMacCtl d = false →
    s.isCtl n d = false → s.rxWords n < 64 → oct d 0 % 2 = 1 → s.groupPass n d = false →
    (s.rxCount n d).sampleStep n = (hit, u) → it = { s.rxItem n d raw with mirror := if hit then some 0 else none } →
    v = u.capture n it (s.tenantStamp (s.portTenant n) it.stamp) →
    exec (.frameReceive n d 0 raw) s = .next (settle s
      ((v.portCount n 7).dropItem { it with tenant := (s.portTenant n).getD 1024 } rFilterDeny))) ∧
  (∀ (s u : State) (n raw : Nat) (d : List Byte) (hit : Bool), s.portEn n = true → s.portShadowed n = false →
    s.refPresent (n / 64) = true → (s.port n).noLock = false → 60 ≤ d.length → d.length + 4 ≤ s.portMaxlen n → isMacCtl d = false →
    s.isCtl n d = true → (s.rxCount n d).sampleStep n = (hit, u) →
    exec (.frameReceive n d 0 raw) s = .next (settle s (u.ctlEnter n d))) ∧
  (∀ (s : State) (n raw : Nat) (d : List Byte), s.portEn n = true → s.portShadowed n = false → s.refPresent (n / 64) = true →
    (s.port n).noLock = false → s.isCtl n d = false → s.rxWords n < 64 →
    exec (.frameReceive n d 2 raw) s = .next (settle s ((s.portCount n 6).portDrop n rMalformed)) ∧
    exec (.frameReceive n d 3 raw) s = .next (settle s ((s.portCount n 15).portDrop n rMalformed)) ∧
    (isMacCtl d = false → exec (.frameReceive n d 4 raw) s = .next (settle s ((s.portCount n 8).portDrop n rOverrun))) ∧
    (d.length < 60 → exec (.frameReceive n d 0 raw) s = .next (settle s ((s.portCount n 5).portDrop n rMalformed))) ∧
    (60 ≤ d.length → d.length + 4 ≤ s.portMaxlen n → isMacCtl d = true →
      exec (.frameReceive n d 0 raw) s = .next (settle s (s.portCount n 9))) ∧
    (60 ≤ d.length → d.length + 4 ≤ s.portMaxlen n → exec (.frameReceive n d 1 raw) s = .next (settle s (s.rxBad n 4 d raw)))) ∧
  (∀ (s t : State) (p n q : Nat) (o : Offer) (rest : List Offer), Sparse.get (fun _ => []) s.offers p = o :: rest →
    o.copies = [.port n q] → o.own = [t.destOwner (.port n q)] →
    t = State.portSync { s with offers := Sparse.set (fun _ => []) s.offers p rest } n → t.destLive (.port n q) = true →
    (t.cutThrough o = true ∧ (t.queueIn p o).chainCtr ≠ t.chainCtr →
      exec (.itemEnqueue p) s = .next (settle s ((t.queueIn p o).count (CORE_PNLp_CNTc p 6)))) ∧
    (t.cutThrough o = false → o.item.bad = false → exec (.itemEnqueue p) s = .next (settle s (t.queueIn p o)))) ∧
  (∀ (s t : State) (n q raw : Nat), s.portEn n = true → s.portLink n = true → s.flag (PORT_STATn n) PORT_STATn_RFAULT = false →
    s.flag (PORT_STATn n) PORT_STATn_LPI_TX = false → (s.portSync n).portEn n = true →
    t = (List.range 17).foldl (fun u r => u.purgeQueue n r) (s.portSync n) → (t.port n).tx = none → t.pickQueue n false = some q →
    exec (.transmitStart n raw) s = .next (settle s (t.txBegin n q raw))) ∧
  (∀ (s t : State) (n q raw : Nat) (x : TxFrame), s.portEn n = true → s.portLink n = true →
    s.flag (PORT_STATn n) PORT_STATn_RFAULT = false → s.flag (PORT_STATn n) PORT_STATn_LPI_TX = false →
    (s.portSync n).portEn n = true → t = (List.range 17).foldl (fun u r => u.purgeQueue n r) (s.portSync n) →
    (t.port n).tx = some x → t.pickQueue n true = some q → ((t.preempt n).port n).tx = none →
    exec (.transmitStart n raw) s = .next (settle s ((t.preempt n).txBegin n q raw))) ∧
  (∀ (s : State) (n : Nat) (x : TxFrame), (s.port n).rem = none → (s.port n).tx = some x → x.raw ≤ s.mer →
    exec (.txTimestampEntry n) s = .next (settle s
      ((s.txStamp n x).setPort n { s.port n with tx := some { x with stamped := true } }))) ∧
  (∀ (s : State) (n : Nat) (x : TxFrame), (s.port n).rem = some x → x.stamped = false → x.item.tsreq.isSome = true →
    exec (.txTimestampEntry n) s = .next (settle s (s.remStamp n))) ∧
  (∀ (s : State) (n : Nat) (x : TxFrame), n < 1024 → (s.port n).tx = some x →
    exec (.transmitComplete n) s = .next (settle s (s.txDone n))) ∧
  (∀ (s t : State) (g q m : Nat) (e : QEnt) (rest : List QEnt), s.flag SEAM_STAT SEAM_STAT_UP = true →
    (List.range 16).reverse.find? (fun r => !(s.queue (Dest.seam g 0 r).key).isEmpty) = some q →
    s.queue (Dest.seam g 0 q).key = e :: rest → e.item.poison = false → e.dest = .seam g m q →
    t = s.obs e.dest.panel 0x021 e.cells (tenant := some e.item.tenant) (cls := some e.dest.cls) →
    exec (.transmitComplete (1024 + g)) s = .next (settle s
      ((((t.setQueue (.seam g 0 q) rest).freeEntry e).count (SEAM_CNTc 6)).emitOut (.seamData g (seamPacket m q e.item))))) ∧
  (∀ (s t : State) (i : Iface) (n : Nat) (w : Word) (g : GateCfg), s.hostUp = true → s.portShadowed n = false →
    getB w PORT_GCTLn_CHANGE = true → t = (State.typedWrite (s.portSync n) i (PORT_GCTLn n) w).portSync n →
    t.gateChange n = some g →
    exec (.gateChange i n w) s = .next (settle s
      ((t.setPort n { t.port n with gatePend := some g }).setFld (PORT_STATn n) PORT_STATn_GATE_PEND 1))) ∧
  (∀ (s t : State) (n : Nat) (g : GateCfg), (s.port n).gatePend = some g → reached (s.viewNow g.ten) g.base = true →
    t = State.setFld (State.setFld (s.setPort n { s.port n with gateOper := some g, gatePend := none }) (PORT_STATn n)
      PORT_STATn_GATE_PEND 0) (PORT_STATn n) PORT_STATn_GATE_OPER 1 →
    exec (.gateConfigEffect n) s = .next (settle s (((t.showGates n g).portEvent n PORT_EVTn_GATE_CHG).gateStep n))) ∧
  (∀ (s : State) (n : Nat), s.portRuns n = true →
    exec (.gateEvent n) s = .next (settle s (s.gateStep n))) ∧
  (∀ (s : State) (n : Nat), s.portEn n = true → s.portLink n = true → s.flag (PORT_STATn n) PORT_STATn_RFAULT = false →
    s.portEmpty n = true → s.lpiBarred n = false →
    (s.port n).idleAt + s.lpiIdle n * usTicks ≤ s.mer →
    exec (.lpiEntry n) s = .next (settle s (s.setFld (PORT_STATn n) PORT_STATn_LPI_TX 1))) ∧
  (∀ (s : State) (n : Nat), s.flag (PORT_STATn n) PORT_STATn_LPI_TX = true → (s.portEmpty n = false ∨ s.lpiBarred n = true) →
    exec (.lpiExit n) s = .next (settle s (s.setFld (PORT_STATn n) PORT_STATn_LPI_TX 0))) ∧
  (∀ (s : State) (n : Nat) (on : Bool), s.portRuns n = true →
    exec (.lpiReceiveChange n on) s = .next (settle s (s.setFlag (PORT_STATn n) PORT_STATn_LPI_RX on)))

/-- CAN channels: enabling, stopping, arrival, attempts, bus-off, host buffers. Rests on R139, R140, R145, R147, R148,
R149, R153, R154. -/
def Obligations.CanChannelCommandsComplete : Prop :=
  (∀ (s r t : State) (i : Iface) (c : Nat) (w : Word), s.hostUp = true → c < 64 → s.chRuns c = false →
    getB w LCn_CFG_EN = true → r = s.typedWrite i (LCn_CFG c) w →
    t = (if s.loomTenant c = r.loomTenant c then r else r.linRebind c (s.chTime c)) →
    exec (.channelEnable i c w) s = .next (settle s (if s.chMayEnable c (r.rd (LCn_CFG c)) then
      (((t.setChan c { t.chan c with cur := none, shd := none, linAct := t.mer }).setFld (chStat c) LCn_STAT_RXCUR 0).setFld
        (chStat c) LCn_STAT_RXSHD 0).chPick c
      else s.chEvent c LCn_EVT_CFG_ERR))) ∧
  (∀ (s t : State) (i : Iface) (m : Nat) (w : Word), s.hostUp = true → s.pcEn m = false → (s.plca m).txq = none → s.mayRun = true →
    getB w PCm_CFG_EN = true → t = s.typedWrite i (PCm_CFG m) w →
    exec (.channelEnable i (64 + m) w) s = .next (settle s
      ((List.range 16).foldl (fun u k => u.wr64 (PCm_STATS m k) 0) (t.setPlca m { t.plca m with rxOpen := none })))) ∧
  (∀ (s : State) (i : Iface) (c : Nat) (w : Word), s.hostUp = true → c < 64 → s.chEn c = true → getB w LCn_CFG_EN = false →
    exec (.channelStop i c w) s = .next (settle s
      ((((if setF ((s.typedWrite i (LCn_CFG c) w).rd (LCn_CFG c)) LCn_CFG_EN 1 = s.rd (LCn_CFG c) then s
        else s.chEvent c LCn_EVT_CFG_ERR).setFld (LCn_CFG c) LCn_CFG_EN 0).chFlush c true).flushQueue (.loom c)))) ∧
  (∀ (s : State) (i : Iface) (m : Nat) (w : Word), s.hostUp = true → s.pcEn m = true → getB w PCm_CFG_EN = false →
    exec (.channelStop i (64 + m) w) s = .next (settle s
      (State.pcFlush ((s.setFld (PCm_CFG m) PCm_CFG_EN 0).setPlca m { s.plca m with rxOpen := some s.mer }) m))) ∧
  (∀ (s t u : State) (c : Nat) (e : QEnt) (rest : List QEnt), s.queue (Dest.loom c).key = e :: rest → (s.chan c).tset.length < 8 →
    t = ((s.setQueue (.loom c) rest).freeEntry e).obs (Dest.loom c).panel 0x021 e.cells (tenant := some e.item.tenant) (cls := some 0) →
    u = (t.dropAt e.item (.loom c) (dequeueReason e.item)).tsqDiscard (1024 + c) e.item →
    (e.item.poison = true → exec (.channelItemArrival c) s = .next (settle s u)) ∧
    (e.item.poison = false → s.chRefuses c = true ∨ s.chTakes c e.item = false →
      exec (.channelItemArrival c) s = .next (settle s (u.chCount c 7))) ∧
    (s.chRefuses c = false → e.item.poison = false → s.chTakes c e.item = true →
      exec (.channelItemArrival c) s = .next (settle s ((t.pathEnd (e.item.mark 8 s.mer)
        { kind := 2, num := c, queue := 0, verdict := 0, panel := (Dest.loom c).panel, tsOut := s.mer }).chAccept c
        (e.item.mark 8 s.mer))))) ∧
  (∀ (s r t : State) (c rec sof : Nat) (f : CanFrame), s.chReceives c = true → s.chProto c ≠ 3 → canFormed f (s.chProto c) = true →
    r = s.setChan c { s.chan c with rxBusy := false } →
    t = ((((r.chRecDown c).setFld (chErr c) LCn_ERR_LEC 0).chErrState c).chCount c 0).chValid c →
    (c < 64 →
      exec (.canFrameReceive c f 0 rec sof) s = .next (settle s ((t.chDeliver c (canItem f c sof) false).chAfter c)) ∧
      exec (.canFrameReceive c f 7 rec sof) s = .next (settle s ((t.chDeliver c (canItem f c sof) true).chAfter c))) ∧
    (64 ≤ c → exec (.canFrameReceive c f 0 rec sof) s = .next (settle s (t.chAfter c)))) ∧
  (∀ (s r t : State) (c found rec sof : Nat) (f : CanFrame), s.chReceives c = true → s.chProto c ≠ 3 → 1 ≤ found → found ≤ 6 →
    r = s.setChan c { s.chan c with rxBusy := false } → t = (r.chCount c 2).setFld (chErr c) LCn_ERR_LEC found →
    exec (.canFrameReceive c f found rec sof) s = .next (settle s
      (((if r.chTrxSt c = 0 then t.bumpSat (chErr c) LCn_ERR_REC rec else t).chErrState c).chAfter c))) ∧
  (∀ (s : State) (c rec sof : Nat) (f : CanFrame), s.chReceives c = true → s.chProto c ≠ 3 → s.chEn c = true →
    (s.chan c).trans = none →
    exec (.canFrameReceive c f 8 rec sof) s = .next (settle s (State.chPick (s.setChan c { s.chan c with rxBusy := true }) c))) ∧
  (∀ (s t : State) (c lec eights sof : Nat) (tdcv meas : Option Nat) (it jt : Item), (s.chan c).frame = some it → s.chTrxSt c = 0 →
    meas = (if it.fmt ≠ 0 ∧ s.flag (chTdc c) LCn_TDC_EN then tdcv else none) →
    t = (match meas with | some v => s.setFld (chTdc c) LCn_TDC_TDCV (min 127 v) | none => s) →
    jt = (if it.fmt = 0 then it else { it with esi := s.chState c == 1 }) →
    (meas.getD 0 ≤ 127 → exec (.canTxAttemptEnd c 0 lec eights tdcv sof) s = .next (settle s
      (((((t.chTaken c).setFld (chErr c) LCn_ERR_TEC (t.fld (chErr c) LCn_ERR_TEC - 1)).setFld (chErr c) LCn_ERR_LEC 0).chErrState
        c).chSent c jt sof |>.chAfter c))) ∧
    (∀ u : State, u = s.chCount c 4 → exec (.canTxAttemptEnd c 1 lec eights tdcv sof) s = .next (settle s
      (State.chAfter (if u.chEn c then u.setChan c { u.chan c with txNow := none } else u.chFlush c false) c))) ∧
    (∀ u : State, meas.getD 0 ≤ 127 → u = (t.takeFree.2.chCount c 3).setFld (chErr c) LCn_ERR_LEC lec →
      255 < t.fld (chErr c) LCn_ERR_TEC + 8 * eights →
      exec (.canTxAttemptEnd c 2 lec eights tdcv sof) s = .next (settle s ((u.chBusOff c).chAfter c))) ∧
    (∀ u v : State, meas.getD 0 ≤ 127 → u = (t.takeFree.2.chCount c 3).setFld (chErr c) LCn_ERR_LEC lec →
      t.fld (chErr c) LCn_ERR_TEC + 8 * eights ≤ 255 →
      v = (u.setFld (chErr c) LCn_ERR_TEC (t.fld (chErr c) LCn_ERR_TEC + 8 * eights)).chErrState c →
      exec (.canTxAttemptEnd c 2 lec eights tdcv sof) s = .next (settle s
        (State.chAfter (if v.chEn c then v.setChan c { v.chan c with txNow := none } else v.chFlush c false) c)))) ∧
  (∀ (s : State) (i : Iface) (c : Nat) (w : Word), s.hostUp = true → c < 64 → s.chState c = 2 → getB w LCn_ERR_RECOVER = true →
    exec (.loomRecover i c w) s = .next (settle s (s.setFld (chErr c) LCn_ERR_STATE 3))) ∧
  (∀ (s : State) (c : Nat), s.chState c = 3 →
    exec (.busOffRecoveryComplete c) s = .next (settle s
      ((((((s.setFld (chErr c) LCn_ERR_STATE 0).setFld (chErr c) LCn_ERR_TEC 0).setFld (chErr c) LCn_ERR_REC 0).chEvent c
        LCn_EVT_RECOVERED).chPick c)))) ∧
  (∀ (s : State) (i : Iface) (c : Nat) (w : Word), s.hostUp = true → getB w LCn_RXCTL_RELEASE = true → (s.chan c).cur.isSome = true →
    exec (.rxRelease i c w) s = .next (settle s
      (((s.setChan c { s.chan c with cur := (s.chan c).shd, shd := none }).setFlag (chStat c) LCn_STAT_RXCUR
        (s.chan c).shd.isSome).setFld (chStat c) LCn_STAT_RXSHD 0))) ∧
  (∀ (s : State) (i : Iface) (c k : Nat), s.hostUp = true →
    (∀ b : RxBuf, (s.chan c).cur = some b → exec (.hostBufferRead i c k) s = .next (settle s (s.answer i (LOOM_RXBUF c k) (b.word k)))) ∧
    ((s.chan c).cur = none → exec (.hostBufferRead i c k) s = .next (settle s (s.answer i (LOOM_RXBUF c k) 0))))

/-- LIN channels: headers, responses, the schedule, idle time and the local wake. Rests on R150, R151, R152, R163. -/
def Obligations.LinChannelCommandsComplete : Prop :=
  (∀ (s t : State) (c id err stamp : Nat) (resp : Option (List Byte)), s.chReceives c = true → s.chEn c = true → s.chProto c = 3 →
    s.flag (LCn_CFG c) LCn_CFG_LIN_ROLE = false → (s.chan c).linWait = none → (s.chan c).trans = none →
    t = s.setChan c { s.chan c with linAct := s.mer } →
    (err = 5 ∨ err = 6 →
      exec (.linHeaderReceive c id (err, resp) stamp) s = .next (settle s ((t.chCount c 2).setFld (chErr c) LCn_ERR_LEC err))) ∧
    (err ≠ 5 → err ≠ 6 → s.linLen c id ≠ 0 →
      (∀ p : Nat × Item, (t.chan c).lin.find? (fun p => p.1 == id) = some p → t.chTrxSt c = 0 →
        exec (.linHeaderReceive c id (err, resp) stamp) s = .next (settle s (t.linAnswer c p.2 (err == 1) stamp))) ∧
      ((t.chan c).lin.find? (fun p => p.1 == id) = none ∨ t.chTrxSt c ≠ 0 →
        (∀ d : List Byte, resp = some d →
          exec (.linHeaderReceive c id (err, resp) stamp) s = .next (settle s (t.linTake c id d err stamp))) ∧
        (resp = none → exec (.linHeaderReceive c id (err, resp) stamp) s = .next (settle s
          (t.setChan c { t.chan c with linWait := some (id, t.mer + t.linTimeout c (t.linLen c id)) })))))) ∧
  (∀ (s t : State) (c id err stamp due : Nat) (d : List Byte), s.chReceives c = true → s.chProto c = 3 →
    t = s.setChan c { s.chan c with linAct := s.mer } → (s.chan c).linWait = some (id, due) →
    exec (.linHeaderReceive c id (err, some d) stamp) s = .next (settle s (t.linTake c id d err stamp))) ∧
  (∀ (s : State) (c id due : Nat), (s.chan c).linWait = some (id, due) → due ≤ s.mer →
    exec (.linNoResponse c) s = .next (settle s (State.chAfter
      ((State.chCount (s.setChan c { s.chan c with linWait := none }) c 12).setFld (chErr c) LCn_ERR_LEC 4) c))) ∧
  (∀ (s : State) (c : Nat) (bitErr : Bool), s.chEn c = true → s.chProto c = 3 → s.linScheduled c = true → s.chTrxSt c = 0 →
    (s.chan c).trans = none → (s.chan c).wakeAt = none →
    (∀ (k : Nat) (l : List Nat), (s.chan c).late = k :: l → (s.chan c).linWait = none → (s.chan c).busyTill ≤ s.mer →
      exec (.linScheduleEntry (c, bitErr)) s = .next (settle s (State.linRun (s.setChan c { s.chan c with late := l }) c k bitErr))) ∧
    (∀ (k : Nat) (y : ChanSt), (s.chan c).schedIdx = k → k < s.schedLen c → reached (s.chTime c) (s.chan c).schedDue = true →
      y = { s.chan c with schedIdx := (k + 1) % s.schedLen c, schedDue := ((s.chan c).schedDue + (s.rd (LIN_SCHED c k + 4)).toNat) % 2 ^ 64 } →
      ((s.chan c).late = [] → (s.chan c).linWait = none → (s.chan c).busyTill ≤ s.mer →
        exec (.linScheduleEntry (c, bitErr)) s = .next (settle s ((s.setChan c y).linRun c k bitErr))) ∧
      (s.mer < (s.chan c).busyTill ∨ (s.chan c).linWait.isSome = true →
        exec (.linScheduleEntry (c, bitErr)) s = .next (settle s
          (State.chCount (s.setChan c { y with late := (s.chan c).late ++ [k] }) c 13))))) ∧
  (∀ (s : State) (c : Nat), s.chProto c = 3 → s.chEn c = true → s.flag (LCn_CFG c) LCn_CFG_LIN_ROLE = false → s.chTrxSt c < 2 →
    (s.chan c).trans = none → (s.chan c).linAct + 4000 * msTicks ≤ s.mer →
    exec (.linIdleTimeout c) s = .next (settle s (s.chMove c 3 true))) ∧
  (∀ (s : State) (c a : Nat), (s.chan c).wakeAt = some a → a ≤ s.mer →
    exec (.linLocalWakeStart c) s = .next (settle s (State.linRestart (s.setChan c { s.chan c with wakeAt := none }) c)))

/-- Transceiver states, wake detection, false wakes and MAXAWAKE. Rests on R155, R156, R157, R158, R159, R161, R162. -/
def Obligations.TransceiverCommandsComplete : Prop :=
  (∀ (s r t : State) (i : Iface) (c : Nat) (w : Word), s.hostUp = true → c < 64 →
    r = s.typedWrite i (chTrx c) w → t = r.setChan c { r.chan c with code := r.chCode c (r.chTrxSt c) } →
    (getB w LCn_TRX_REQ_V = false → exec (.trxRequest i c w) s = .next (settle s t)) ∧
    (getB w LCn_TRX_REQ_V = true → (t.chan c).trans = none → exec (.trxRequest i c w) s = .next (settle s
      (if t.chTrxSt c = getF w LCn_TRX_REQ then t else t.chMove c (getF w LCn_TRX_REQ) false))) ∧
    (∀ tr : LoomTrans, getB w LCn_TRX_REQ_V = true → (t.chan c).trans = some tr →
      exec (.trxRequest i c w) s = .next (settle s (if tr.deaf then t.chEvent c LCn_EVT_REQ_ERR
        else t.setChan c { t.chan c with held := some (getF w LCn_TRX_REQ) })))) ∧
  (∀ (s : State) (i : Iface) (c : Nat) (w : Word), s.hostUp = true → 64 ≤ c →
    exec (.trxRequest i c w) s = .next (settle s (s.mbWrite i (chTrx c) w))) ∧
  (∀ (s : State) (c : Nat) (tr : LoomTrans), (s.chan c).trans = some tr →
    (tr.phase = 0 → exec (.trxModeSettled c) s = .next (settle s (s.chAfter c))) ∧
    (tr.phase = 1 → tr.due ≤ s.mer → exec (.trxModeSettled c) s = .next (settle s (s.chSettle c))) ∧
    (tr.phase = 2 → tr.due ≤ s.mer → exec (.inhOffDelay c) s = .next (settle s
      (State.chSettle (s.setChan c { s.chan c with inh := false, awake := none }) c))) ∧
    (tr.phase = 3 → tr.due ≤ s.mer → exec (.inhOnSettled c) s = .next (settle s
      ((s.chDrive c tr.target).chSetTrans c
        (some { tr with phase := 1, due := s.mer + s.chDelay c LCn_TRX_T_MODE }))))) ∧
  (∀ (s : State) (c low : Nat), s.chArmed c = true → s.flag (chWake c) LCn_WAKE_WMODE = false → s.chFilter c ≤ low →
    exec (.channelWake c low) s = .next (settle s (s.chWakeUp c))) ∧
  (∀ (s t : State) (c sof : Nat) (f : CanFrame), s.chArmed c = true → s.flag (chWake c) LCn_WAKE_WMODE = true → f.fmt = 0 →
    t = s.setChan c { s.chan c with wufErr := (s.chan c).wufErr - 1 } →
    (t.wufMatch c f = true → t.filterRegime c = false →
      exec (.wakeFrameDecode c f false sof) s = .next (settle s (t.chWakeUp c))) ∧
    (t.wufMatch c f = true → t.filterRegime c = true →
      ((s.chan c).wufPrev = none → exec (.wakeFrameDecode c f false sof) s = .next (settle s
        (t.setChan c { t.chan c with wufPrev := some sof }))) ∧
      (∀ p : Nat, (s.chan c).wufPrev = some p → exec (.wakeFrameDecode c f false sof) s = .next (settle s
        (if sof - p ≤ t.fld (chWtime c) LCn_WTIME_SU_FILT * usTicks then t.chWakeUp c
          else t.setChan c { t.chan c with wufPrev := some sof })))) ∧
    (t.wufMatch c f = false → exec (.wakeFrameDecode c f false sof) s = .next (settle s t)) ∧
    (31 ≤ (s.chan c).wufErr → exec (.wakeFrameDecode c f true sof) s = .next (settle s (s.chWakeUp c))) ∧
    ((s.chan c).wufErr < 31 →
      exec (.wakeFrameDecode c f true sof) s = .next (settle s (s.setChan c { s.chan c with wufErr := (s.chan c).wufErr + 1 })))) ∧
  (∀ (s t u : State) (c t0 : Nat), (s.chan c).fw = some t0 → reached (s.chTime c) (t0 + s.fld (chWake c) LCn_WAKE_FW_WIN * msTicks) = true →
    t = ((State.chCount (s.setChan c { s.chan c with fw := none }) c 10).bumpSat (chStat c) LCn_STAT_FW_CNT).chEvent c
      LCn_EVT_FALSE_WAKE →
    u = (if t.fld (chWake c) LCn_WAKE_FW_THR ≠ 0 ∧ t.fld (chStat c) LCn_STAT_FW_CNT = t.fld (chWake c) LCn_WAKE_FW_THR then
      ((t.setFld (chStat c) LCn_STAT_WAKE_SUPP 1).chEvent c LCn_EVT_SUPP).log 161 c else t) →
    ((u.chan c).trans = none → exec (.falseWakeWindowEnd c) s = .next (settle s (if u.chTrxSt c = 3 then u else u.chMove c 3 false))) ∧
    (∀ m : LoomTrans, (u.chan c).trans = some m →
      exec (.falseWakeWindowEnd c) s = .next (settle s (if m.target = 3 then u else u.chMove c 3 false)))) ∧
  (∀ (s : State) (i : Iface) (c : Nat) (w : Word), s.hostUp = true → c < 64 → getB w LCn_EVT_SUPP = true →
    exec (.loomSuppClear i c w) s = .next (settle s
      (((s.typedWrite i (chEvt c) w).setFld (chStat c) LCn_STAT_WAKE_SUPP 0).setFld (chStat c) LCn_STAT_FW_CNT 0))) ∧
  (∀ (s t u : State) (c t0 : Nat), (s.chan c).awake = some t0 → c < 64 → s.fld (chWtime c) LCn_WTIME_MAXAWAKE ≠ 0 →
    reached (s.chTime c) (t0 + s.fld (chWtime c) LCn_WTIME_MAXAWAKE * 100 * msTicks) = true →
    t = s.setChan c { s.chan c with awake := none, held := none } →
    u = (match (t.chan c).trans with
      | some x => if x.target = 3 then t.chSetTrans c (some { x with deaf := true }) else t.chMove c 3 true
      | none => t.chMove c 3 true) →
    exec (.maxawake c) s = .next (settle s (((u.chEvent c LCn_EVT_MAXAWAKE).chCount c 11).log 162 c)))

/-- PLCA channels, their PHYs, and the settings of the management buses. Rests on R165, R166, R167, R168, R170. -/
def Obligations.PlcaAndManagementCommandsComplete : Prop :=
  (∀ (s a t u : State) (m raw : Nat) (d : List Byte) (it : Item), s.pcEn m = true → 60 ≤ d.length → d.length ≤ 1518 →
    (beAt d 12 2 == 0x8808) = false → s.waitsOf (12288 + m) < 8 → (oct d 0 % 2 = 0 ∨ s.pcPass m d = true) →
    s.admitData (srcPanel (12288 + m)) = (true, a) → t = (a.pcCount m 0).pcCount m 1 (d.length + 4) →
    u = (if beAt d 0 6 = 2 ^ 48 - 1 then t.pcCount m 3 else if oct d 0 % 2 == 1 then t.pcCount m 2 else t) →
    it = { Item.blank with data := d, src := 12288 + m, stamp := raw, tenant := 1024 } →
    exec (.plcaFrameReceive m d 0 raw) s = .next (settle s
      ((u.capture (12288 + m) it (a.tenantStamp (a.plcaTenant m) raw)).parse (srcPanel it.src) it))) ∧
  (∀ (s : State) (m raw : Nat) (d : List Byte), s.pcEn m = true → (beAt d 12 2 == 0x8808) = false → s.waitsOf (12288 + m) < 8 →
    (60 ≤ d.length → d.length ≤ 1518 →
      exec (.plcaFrameReceive m d 1 raw) s = .next (settle s ((s.pcCount m 4).dropFor ((s.plcaTenant m).getD 1024) rMalformed))) ∧
    exec (.plcaFrameReceive m d 2 raw) s = .next (settle s ((s.pcCount m 6).dropFor ((s.plcaTenant m).getD 1024) rMalformed)) ∧
    exec (.plcaFrameReceive m d 4 raw) s = .next (settle s ((s.pcCount m 8).dropFor ((s.plcaTenant m).getD 1024) rOverrun)) ∧
    (d.length < 60 ∨ 1518 < d.length →
      exec (.plcaFrameReceive m d 0 raw) s = .next (settle s ((s.pcCount m 5).dropFor ((s.plcaTenant m).getD 1024) rMalformed)))) ∧
  (∀ (s t : State) (m q raw : Nat) (e : QEnt) (rest : List QEnt), s.flag (PCm_STAT m) PCm_STAT_LINK = true → s.pcEn m = true →
    s.plcaMay m raw = true → s.pcQueue m = some q → s.queue (Dest.plca m q).key = e :: rest → e.item.poison = false →
    max ((s.pcSent m e.item).length + 4) e.item.stored ≤ 1526 →
    t = (s.setQueue (.plca m q) rest).setPlca m { s.plca m with txq := none, coll := 0 } →
    (∀ (it : Item) (u v w : State), e.item.tsreq = none → it = { e.item.mark 8 s.mer with data := s.pcSent m e.item } →
      u = (t.freeEntry e).obs (Dest.plca m q).panel 0x021 e.cells (tenant := some it.tenant) (cls := some q) →
      v = (u.setPlca m { u.plca m with sent := (s.plca m).sent + 1, sentAt := s.mer }).emitOut (.frame (1024 + m) it false) →
      w = (v.pcCount m 9).pcCount m 10 ((s.pcSent m e.item).length + 4) →
      exec (.plcaTxAttemptEnd m true raw) s = .next (settle s (w.pathEnd (e.item.mark 8 s.mer)
        { kind := 3, num := m, queue := q, verdict := 0, panel := (Dest.plca m q).panel, tsOut := s.mer }))) ∧
    ((s.plca m).coll < 15 →
      exec (.plcaTxAttemptEnd m false raw) s = .next (settle s
        ((s.pcCount m 12).setPlca m { s.plca m with txq := some q, coll := (s.plca m).coll + 1 }))) ∧
    (∀ u : State, 15 ≤ (s.plca m).coll →
      u = ((s.pcCount m 12).setQueue (.plca m q) rest).setPlca m { s.plca m with txq := none, coll := 0 } →
      exec (.plcaTxAttemptEnd m false raw) s = .next (settle s
        (((u.discardEntry e rEgress).pcCount m 13).pcEvent m PCm_EVT_EXCESS_COLL)))) ∧
  (∀ (s : State) (m seen : Nat), s.plcaOn m = true → s.fld (PCm_PLCA m) PCm_PLCA_NODE_ID ≠ 0 →
    exec (.plcaBeacon m seen) s = .next (settle s (s.plcaCycle m seen))) ∧
  (∀ (s : State) (m seen nodes : Nat), s.plcaOn m = true → s.fld (PCm_PLCA m) PCm_PLCA_NODE_ID = 0 →
    nodes = max 1 (s.fld (PCm_PLCA m) PCm_PLCA_NODE_CNT) →
    s.flag (PCm_STAT m) PCm_STAT_PLCA_ST = false ∨ (s.plca m).beaconAt + (20 + nodes * s.plcaTo m) * plcaBit ≤ s.mer →
    exec (.plcaBeacon m seen) s = .next (settle s ((s.emitOut (.beacon m)).plcaCycle m nodes))) ∧
  (∀ (s : State) (m : Nat), s.flag (PCm_STAT m) PCm_STAT_PLCA_ST = true → s.fld (PCm_PLCA m) PCm_PLCA_NODE_ID ≠ 0 →
    (s.plca m).beaconAt + 4 * max 1 (s.plca m).seen * (s.plcaTo m + 20) * plcaBit ≤ s.mer →
    exec (.plcaBeaconLoss m) s = .next (settle s
      (((s.setPlca m { s.plca m with seen := 0 }).setFld (PCm_STAT m) PCm_STAT_PLCA_ST 0).pcEvent m PCm_EVT_PLCA_DOWN))) ∧
  (∀ (s : State) (i : Iface) (w : Word), s.hostUp = true → s.flag LOOM_MDIO LOOM_MDIO_BUSY = false → getB w LOOM_MDIO_BUSY = true →
    exec (.mdioAccess i w) s = .next (settle s ((s.typedWrite i LOOM_MDIO w).emitOut
      (.mdio (getB w LOOM_MDIO_OP) (getF w LOOM_MDIO_PHYAD) (getF w LOOM_MDIO_REGAD) (getF w LOOM_MDIO_DATA))))) ∧
  (∀ (s : State) (v : Nat), s.flag LOOM_MDIO LOOM_MDIO_BUSY = true →
    (s.flag LOOM_MDIO LOOM_MDIO_OP = true → exec (.mdioComplete v) s = .next (settle s (s.setFld LOOM_MDIO LOOM_MDIO_BUSY 0))) ∧
    (s.flag LOOM_MDIO LOOM_MDIO_OP = false → exec (.mdioComplete v) s = .next (settle s
      ((s.setFld LOOM_MDIO LOOM_MDIO_DATA v).setFld LOOM_MDIO LOOM_MDIO_BUSY 0)))) ∧
  (∀ (s t : State) (m : Nat), s.pcEn m = true →
    (s.flag (PCm_STAT m) PCm_STAT_LINK = false →
      exec (.phyLinkPoll m true) s = .next (settle s ((s.setFlag (PCm_STAT m) PCm_STAT_LINK true).pcEvent m PCm_EVT_LINK_UP))) ∧
    (s.flag (PCm_STAT m) PCm_STAT_LINK = true →
      t = (s.setFlag (PCm_STAT m) PCm_STAT_LINK false).pcEvent m PCm_EVT_LINK_DOWN →
      exec (.phyLinkPoll m false) s = .next (settle s (State.pcFlush (t.setPlca m { t.plca m with txq := none, coll := 0 }) m)))) ∧
  (∀ (s t : State) (b : Nat), s.chInFrame (64 + b) = false →
    t = (s.chan (64 + b)).pend.foldl (fun t p => t.mbTake (64 + b) p) (s.setChan (64 + b) { s.chan (64 + b) with pend := [] }) →
    exec (.mbConfigApply b) s = .next (settle s
      (State.chPick (t.setChan (64 + b) { t.chan (64 + b) with code := t.chCode (64 + b) (t.chTrxSt (64 + b)) }) (64 + b))))

/-- Virtual buses: starting, requests, slots, deliveries, recovery, the injector and load. Rests on R174, R179, R180,
R182, R185, R186, R189, R190, R192, R194, R201. -/
def Obligations.VBusTrafficCommandsComplete : Prop :=
  (∀ (s t : State) (i : Iface) (v : Nat) (w : Word), s.hostUp = true → s.vbRuns v = false → s.vbEn v = false →
    getB w VBn_CFG_EN = true → t = s.typedWrite i (VBn_CFG v) w →
    exec (.vbusEnable i v w) s = .next (settle s
      (if s.mayRun && s.vbMayEnable v (t.rd (VBn_CFG v)) then t.vbStart v else s.vbEvent v VBn_EVT_CFG_ERR))) ∧
  (∀ (s : State) (i : Iface) (v : Nat) (w : Word), s.hostUp = true → s.vbEn v = true → getB w VBn_CFG_EN = false →
    exec (.vbusStop i v w) s = .next (settle s
      ((if setF ((s.typedWrite i (VBn_CFG v) w).rd (VBn_CFG v)) VBn_CFG_EN 1 = s.rd (VBn_CFG v) then s
        else s.vbEvent v VBn_EVT_CFG_ERR).vbHalt v))) ∧
  (∀ (s : State) (v : Nat), s.vbEn v = false →
    exec (.vbusStopped v) s = .next (settle s (s.setFld (VBn_STAT v) VBn_STAT_STOPPED 1))) ∧
  (∀ (s t u x : State) (v m : Nat) (e : QEnt) (rest : List QEnt) (it : Item) (data : List Byte) (r : VbReq),
    s.queue (Dest.vbus v).key = e :: rest → it = e.item.mark 8 t.mer →
    t = ((s.setQueue (.vbus v) rest).freeEntry e).obs (Dest.vbus v).panel 0x021 e.cells (tenant := some e.item.tenant) (cls := some 0) →
    it.poison = false → it.member = m → t.vbEn v = true → t.memFits v it = true → fmtOk (t.vbProto v) it = true →
    t.memListen v m = false → t.memState v m < 2 →
    x = t.pathEnd it { kind := 1, num := v, queue := 0, verdict := 0, panel := (Dest.vbus v).panel, tsOut := t.mer } →
    u = (if t.vbTau v it < t.vbPos v then (x.vbCount v 1).vbEvent v VBn_EVT_LATE else x) →
    r = { item := { it with data := data, tsreq := none }, member := m, arrival := t.mer, rho := max (t.vbTau v it) (t.vbPos v) } →
    (it.fmt ≠ 3 → (t.vb v).reqs.length < 64 →
      data = (if it.fmt = 1 then padTo (fdLen it.data.length) (t.fld (VBn_CFG v) VBn_CFG_PAD) it.data else it.data) →
      exec (.vbusRequest v) s = .next (settle s ((u.setVb v { u.vb v with reqs := (u.vb v).reqs ++ [r] }).vbShow v m))) ∧
    (it.fmt = 3 → it.data.isEmpty = true → t.flag (VBn_CFG v) VBn_CFG_LIN_CMDR = true → t.fld (VBn_CFG v) VBn_CFG_CMDR_MEMBER = m →
      (t.vb v).reqs.length < 64 → data = it.data →
      exec (.vbusRequest v) s = .next (settle s ((u.setVb v { u.vb v with reqs := (u.vb v).reqs ++ [r] }).vbShow v m))) ∧
    (it.fmt = 3 → it.data.isEmpty = false → it.data.length ≤ t.vlinLen v it.ident →
      data = padTo (t.vlinLen v it.ident) (t.fld (VBn_CFG v) VBn_CFG_PAD) it.data →
      exec (.vbusRequest v) s = .next (settle s (u.vbHold v r)))) ∧
  (∀ (s : State) (v : Nat) (st : Int) (w : VbReq) (e : List VbReq) (u : State), s.vbEn v = true → s.vbProto v ≠ 3 →
    (s.vb v).start (s.vbParts v) = some st → s.vbReached v st = true →
    e = (s.vbParts v).filter (fun r => decide ((s.vb v).ready r ≤ st) && decide (r.arrival ≤ s.vbTick v (st + s.vbLead v))) →
    slotWinner e = some w → u = s.vbDecided v (s.vbTick v (st + s.vbLead v)) →
    exec (.slotClose v) s = .next (settle s
      ((if e.any (fun r => r.member != w.member && vbKey r.item == vbKey w.item) then u.vbCount v 5 else u).vbAttempt v w st))) ∧
  (∀ (s u : State) (v : Nat) (r r0 : VbReq) (l : List VbReq) (st : Int), s.vbEn v = true → s.vbProto v = 3 →
    s.flag (VBn_CFG v) VBn_CFG_LIN_CMDR = true → (s.vb v).reqs = r0 :: l →
    r = l.foldl (fun b q => if q.rho < b.rho then q else b) r0 → st = max (s.vb v).free r.rho → s.vbReached v st = true →
    u = (s.setVb v { s.vb v with reqs := (s.vb v).reqs.erase r }).vbShow v r.member →
    exec (.slotClose v) s = .next (settle s
      ((if r.rho < st then u.vbCount v 10 else u).vlinSlot v (r.item.ident % 64) false st))) ∧
  (∀ (s : State) (v id : Nat) (sl : Bool) (l : List (Nat × Bool)), s.vbEn v = true → s.vbProto v = 3 →
    s.flag (VBn_CFG v) VBn_CFG_LIN_CMDR = false → (s.vb v).hdrs = (id, sl) :: l → s.vbReached v (s.vb v).free = true →
    s.vbAsleep v = false →
    exec (.slotClose v) s = .next (settle s ((s.setVb v { s.vb v with hdrs := l }).vlinSlot v id sl (s.vb v).free))) ∧
  (∀ (s t : State) (v : Nat) (d : VbDue) (l : List VbDue) (ms : List Msg), (s.vb v).due = d :: l → s.vbEn v = true →
    s.vbReached v d.time = true →
    s.liveBuses.foldl (fun (p : State × List Msg) u => ((p.1.vbRun u (s.dueAt v d)).1, p.2 ++ (p.1.vbRun u (s.dueAt v d)).2)) (s, []) =
      (t, ms) →
    exec (.vbusDelivery v) s = .next (settle s (t.sendMsgs ms))) ∧
  (∀ (s : State) (i : Iface) (v m : Nat) (w : Word), s.hostUp = true → getB w MEMBER_RECOVER = true → s.memState v m = 2 →
    s.vbEn v = true →
    exec (.memberRecover i v m w) s = .next (settle s (State.setVb (s.setFld (memErr v m) MEMBER_STATE 3) v
      { s.vb v with recov := (s.vb v).recov ++ [(m, 0, max (s.vbPos v) (s.vb v).free)] }))) ∧
  (∀ (s : State) (v m n : Nat) (p : Int), (s.vb v).recov.find? (fun r => r.1 == m) = some (m, n, p) → p ≤ s.vbPos v →
    128 ≤ (n : Int) + (s.vbPos v - p) / (11 * s.vbNbt v) → s.vbEn v = true →
    exec (.memberRecoveryComplete v m) s = .next (settle s
      ((s.setVb v { s.vb v with recov := (s.vb v).recov.filter (fun r => r.1 != m) }).vbErrSet v m 0 0 (s.vbPos v)))) ∧
  (∀ (s t : State) (i : Iface) (f : Nat) (w : Word), s.hostUp = true →
    t = State.vbCatchUp (getF w INJECTOR_BUS) 4096 (State.vbCatchUp (s.fld (INJECTOR f) INJECTOR_BUS) 4096 s) →
    exec (.injectorWrite i f w) s = .next (settle s
      ((t.commitEntry (ifaceNum i) ⟨0x00E08000, 16, 64, 1, 1, 4, 0, false⟩ (INJECTOR f) w).setInj f { seen := 0, due := false }))) ∧
  (∀ (s : State) (v k a : Nat) (y : VbSt), s.vbEn v = true → s.vbProto v = 3 → s.flag (VBn_CFG v) VBn_CFG_LIN_CMDR = false →
    s.flag (VBn_LIN v) VBn_LIN_SCHED_EN = true → s.vbAsleep v = false → s.vbReached v (s.vb v).schedDue = true →
    (s.vb v).schedIdx = k → k < s.vlinCount v → a = VLIN_SCHED (s.fld (VBn_LIN v) VBn_LIN_SCHED_BASE + k) →
    y = { s.vb v with schedIdx := (k + 1) % s.vlinCount v, schedDue := (s.vb v).schedDue + (s.rd (a + 4)).toNat } →
    ((s.vb v).free ≤ (s.vb v).schedDue → (s.vb v).hdrs = [] →
      exec (.vbusLinScheduleEntry v) s = .next (settle s ((s.setVb v y).vlinSlot v
        (s.fld a VLIN_SCHED_FRAME_ID) (s.flag a VLIN_SCHED_CMD_SLEEP) (s.vb v).schedDue))) ∧
    ((s.vb v).schedDue < (s.vb v).free → exec (.vbusLinScheduleEntry v) s = .next (settle s (State.vbCount
      (s.setVb v { y with hdrs := (s.vb v).hdrs ++ [(s.fld a VLIN_SCHED_FRAME_ID, s.flag a VLIN_SCHED_CMD_SLEEP)] }) v 10)))) ∧
  (∀ (s : State) (v : Nat) (p : Int) (l : List Int), (s.vb v).noResp = p :: l → s.vbReached v p = true →
    exec (.vbusLinNoResponse v) s = .next (settle s ((s.setVb v { s.vb v with noResp := l }).vbCount v 11))) ∧
  (∀ (s : State) (v : Nat) (e used : Int), s.vbEn v = true → e = (s.vb v).winStart + (s.vb v).winLen → s.vbReached v e = true →
    used = (s.vb v).busy.foldl (fun (a : Int) p => a + max 0 (min p.2 e - max p.1 (s.vb v).winStart)) 0 →
    exec (.loadWindowEnd v) s = .next (settle s ((s.setVb v { s.vb v with
      winStart := e, winLen := s.winTicks v, busy := (s.vb v).busy.filter (fun p => decide (e < p.2)) }).setFld (VBn_LOAD v)
        VBn_LOAD_LOAD (min 65535 (used * 65536 / (s.vb v).winLen).toNat))))

/-- Virtual buses: sleep and wake, NTSCF frames, ABORT and WAKE_REQ. Rests on R196, R197, R198, R199, R205, R208. -/
def Obligations.VBusSleepAndExpanderCommandsComplete : Prop :=
  (∀ (s t u : State) (v : Nat) (a e : Int), (s.vb v).fw = some a → s.vbEn v = true →
    e = a + s.fld (VBn_WAKE v) VBn_WAKE_FW_WIN * msTicks → s.vbReached v e = true →
    (s.vb v).due.any (fun d => d.kind == 0 && decide (d.time ≤ e)) = false →
    t = ((s.vbCount v 7).bumpSat (VBn_STAT v) VBn_STAT_FW_CNT).vbEvent v VBn_EVT_FALSE_WAKE →
    u = (if t.fld (VBn_WAKE v) VBn_WAKE_FW_THR ≠ 0 ∧ t.fld (VBn_STAT v) VBn_STAT_FW_CNT = t.fld (VBn_WAKE v) VBn_WAKE_FW_THR then
      (t.setFld (VBn_STAT v) VBn_STAT_WAKE_SUPP 1).vbEvent v VBn_EVT_SUPP else t) →
    exec (.vbusFalseWakeWindowEnd v) s = .next (settle s (u.vbSleep v 3 e))) ∧
  (∀ (s t : State) (i : Iface) (v : Nat) (w : Word), s.hostUp = true → t = s.typedWrite i (VBn_SLEEP v) w → t.vbEn v = true →
    (getF w VBn_SLEEP_REQ = 1 → t.vbAsleep v = true →
      exec (.vbusSleepRequest i v w) s = .next (settle s (t.vbWake v 2 (t.vbPos v) (t.vbRule v)))) ∧
    (getF w VBn_SLEEP_REQ = 2 → exec (.vbusSleepRequest i v w) s = .next (settle s (t.vbSleep v 1 (t.vbPos v)))) ∧
    (getF w VBn_SLEEP_REQ = 0 → exec (.vbusSleepRequest i v w) s = .next (settle s t))) ∧
  (∀ (s : State) (v : Nat), s.vbEn v = true → s.vbAsleep v = false →
    (s.fld (VBn_SLEEP v) VBn_SLEEP_IDLE_SLEEP ≠ 0 →
      s.vbReached v ((s.vb v).last + s.fld (VBn_SLEEP v) VBn_SLEEP_IDLE_SLEEP * msTicks) = true →
      (s.vb v).due.all (fun d => d.kind != 0 ||
        decide ((s.vb v).last + s.fld (VBn_SLEEP v) VBn_SLEEP_IDLE_SLEEP * msTicks < d.time)) = true →
      exec (.vbusIdleSleep v) s = .next (settle s (s.vbSleep v 2 (s.vbPos v)))) ∧
    (s.fld (VBn_SLEEP v) VBn_SLEEP_IDLE_SLEEP = 0 → s.vbProto v = 3 → s.vbReached v ((s.vb v).lastHdr + 4000 * msTicks) = true →
      exec (.vbusIdleSleep v) s = .next (settle s (s.vbSleep v 4 (s.vbPos v))))) ∧
  (∀ (s : State) (v m : Nat) (a : Int), (s.vb v).awake = some a → s.fld (VBn_WTIME v) VBn_WTIME_MAXAWAKE = m → m ≠ 0 → s.vbEn v = true →
    s.vbReached v (a + m * 100 * msTicks) = true →
    exec (.vbusMaxawake v) s = .next (settle s
      (((((s.vbSleep v 5 (a + m * 100 * msTicks)).vbDropReqs v (fun _ => true)).vbEvent v VBn_EVT_MAXAWAKE).vbCount v 8).log 199 v))) ∧
  (∀ (s : State) (i : Iface) (v : Nat) (w : Word), s.hostUp = true → getB w VBn_EVT_SUPP = true →
    exec (.vbusSuppClear i v w) s = .next (settle s
      (((s.typedWrite i (VBn_EVT v) w).setFld (VBn_STAT v) VBn_STAT_WAKE_SUPP 0).setFld (VBn_STAT v) VBn_STAT_FW_CNT 0))) ∧
  (∀ (s t u : State) (p a b o len q : Nat) (it : Item), s.ntscfIn.find? (fun x => x.1 == p) = some (b, a, it) → o = it.etherOff + 2 →
    len = beAt it.data (o + 1) 2 % 2048 → q = oct it.data (o + 3) → t = { s with ntscfIn := s.ntscfIn.erase (p, a, it) } →
    u = { t with attRx := Sparse.set (fun _ => none) t.attRx a (some ((q + 1) % 256)) } →
    (oct it.data (o + 1) / 16 % 8 ≠ 0 ∨ it.data.length < o + 12 + len →
      exec (.ntscfReceive p) s = .next (settle s (t.dropFor it.tenant rMalformed))) ∧
    (oct it.data (o + 1) / 16 % 8 = 0 → o + 12 + len ≤ it.data.length →
      (∀ e : Option Nat, Sparse.get (fun _ => none) s.attRx a = e →
        exec (.ntscfReceive p) s = .next (settle s ((acfSplit 512 (slice it.data (o + 12) len)).foldl
          (fun x m => if m.1 then x.acfTake p a it.tenant it m.2 else x.dropFor it.tenant rMalformed)
          (if e = none ∨ e = some q then u else u.seqGap a)))))) ∧
  (∀ (s t : State) (v : Nat) (c : VbCtl) (hit : VbReq → Bool), (s.vb v).ctl.find? (fun c => c.op == 2) = some c →
    t = s.setVb v { s.vb v with ctl := (s.vb v).ctl.erase c } → t.vbEn v = true →
    hit = (fun r => r.member == c.member && (c.all || identWord r.item == c.ident)) →
    exec (.abortReq v) s = .next (settle s ((t.vbDropReqs v hit).vbTell v (t.vbPos v) [c.member] 3
      [((t.vb v).reqs.filter hit).length, 0, 0, 0] c.ident (t.vbPos v)))) ∧
  (∀ (s t u : State) (v : Nat) (c : VbCtl) (wakes : Bool), (s.vb v).ctl.find? (fun c => c.op == 8) = some c →
    t = s.setVb v { s.vb v with ctl := (s.vb v).ctl.erase c } →
    s.vbEn v = true → s.vbReached v c.rho = true → t.vbAsleep v = true → t.flag (VBn_WAKE v) VBn_WAKE_EN = true →
    t.flag (VBn_WAKE v) VBn_WAKE_WMODE = false → t.flag (VBn_STAT v) VBn_STAT_WAKE_SUPP = false → (t.vb v).slp ≤ c.rho →
    t.vbPair v c.rho (t.vbRule v) = (wakes, u) →
    exec (.wakeReq v) s = .next (settle s (if wakes then u.vbWake v 1 c.rho (t.vbRule v) else u)))

/-- Lookup, staged writes, commits, ownership, station and prefix commands, fences and the recovery timer. Rests on R24,
R216, R230, R233, R234, R236, R245, R246, R249, R250, R428. -/
def Obligations.TableCommandsComplete : Prop :=
  (∀ (s t : State) (p ten : Nat) (full : List Nat) (slow : Bool) (it jt : Item) (rest : List Item),
    Sparse.get (fun _ => []) s.parserIn p = it :: rest →
    t = State.pressed { s with parserIn := Sparse.set (fun _ => []) s.parserIn p rest } p full →
    jt = (if it.eth = true ∧ it.member ≠ 0 then { it with stamp := t.mer } else it) →
    (t.parsedTenant it = none →
      exec (.itemLookup p full slow) s = .next (settle s (t.dropItem { it with tenant := 1024 } rUnbound))) ∧
    (t.parsedTenant it = some ten → it.bad = false →
      exec (.itemLookup p full slow) s = .next (settle s (t.lookupItem p { jt with tenant := ten } full slow))) ∧
    (t.parsedTenant it = some ten → it.bad = true → exec (.itemLookup p full slow) s = .next (settle s
      { t with offers := (t.lookupItem p { jt with tenant := ten } full slow).offers }))) ∧
  (∀ (s : State) (i : Iface) (a base k : Nat) (w : Word) (d : TableDesc), s.hostUp = true → stagedEntry? a = some (d, base, k) →
    k ≠ d.commit → exec (.tableStageWrite i a w) s = .next (settle s (s.stageWord (ifaceNum i) a w))) ∧
  (∀ (s : State) (i : Iface) (a base : Nat) (w : Word) (d : TableDesc), s.hostUp = true → stagedEntry? a = some (d, base, d.commit) →
    d.base ∉ [0x00B80000, 0x00B82000, 0x00B82080, 0x00E00000, 0x00E08000, 0x05100000, 0x07000000, 0x0A000000, 0x0A100000,
      0x0A200000] →
    exec (.tableCommit i a w) s = .next (settle s ((s.commitEntry (ifaceNum i) d base w).afterCommit base))) ∧
  (∀ (s : State) (i : Iface) (a base : Nat) (w : Word) (d : TableDesc), s.hostUp = true → stagedEntry? a = some (d, base, d.commit) →
    (d.base = 0x00B80000 →
      exec (.tableCommit i a w) s = .next (settle s (s.eqCommit (ifaceNum i) ((base - 0x00B80000) / 8) w).2)) ∧
    (d.base = 0x00E00000 →
      exec (.tableCommit i a w) s = .next (settle s (s.attCommit (ifaceNum i) ((base - 0x00E00000) / 32) w).2)) ∧
    (d.base = 0x00E08000 →
      exec (.tableCommit i a w) s = .next (settle s (s.injCommit (ifaceNum i) ((base - 0x00E08000) / 16) w))) ∧
    (d.base = 0x05100000 →
      exec (.tableCommit i a w) s = .next (settle s (s.lagCommit (ifaceNum i) ((base - 0x05100000) / 512) w).2)) ∧
    (d.base = 0x07000000 →
      exec (.tableCommit i a w) s = .next (settle s (s.bobCommit (ifaceNum i) ((base - 0x07000000) / 128) w).2))) ∧
  (∀ (s : State) (i : Iface) (a : Nat) (w : Word), s.hostUp = true → ownerTable a ≠ 0 →
    s.flag CORE_TBLCTRL CORE_TBLCTRL_LOCK = false →
    (s.ownerBusy a = false → exec (.ownershipWrite i a w) s = .next (settle s (s.typedWrite i a w))) ∧
    (s.ownerBusy a = true → exec (.ownershipWrite i a w) s = .next (settle s
      (if ownerTable a = 4 then s.setFld PANEL_STEVT PANEL_STEVT_OWN_ERR 1 else s.tblEvent CORE_TBLEVT_OWN_ERR)))) ∧
  (∀ (s : State) (b : Nat), s.flag CORE_TBLCTRL CORE_TBLCTRL_WALK_EN = true →
    ∃ t : State, exec (.walkerVisit b) s = .next t ∧
      ∀ k : Nat, t.staAt k = if k ∈ staWays b ∧ (s.staAt k).any s.staAged = true then none else s.staAt k) ∧
  (∀ (s : State) (i : Iface) (w : Word), s.hostUp = true → s.flag CORE_STACMD CORE_STACMD_BUSY = false →
    (getF w CORE_STACMD_OP = 1 → exec (.staRead i w) s = .next (settle s (State.setFld
      { s with staCmd := some (w, (List.range 4).map (fun k => s.rd (CORE_STADATAk k))) } CORE_STACMD CORE_STACMD_BUSY 1))) ∧
    (getF w CORE_STACMD_OP = 2 → exec (.staInsert i w) s = .next (settle s (State.setFld
      { s with staCmd := some (w, (List.range 4).map (fun k => s.rd (CORE_STADATAk k))) } CORE_STACMD CORE_STACMD_BUSY 1))) ∧
    (getF w CORE_STACMD_OP = 3 → exec (.staDelete i w) s = .next (settle s (State.setFld
      { s with staCmd := some (w, (List.range 4).map (fun k => s.rd (CORE_STADATAk k))) } CORE_STACMD CORE_STACMD_BUSY 1))) ∧
    (getF w CORE_STACMD_OP = 4 → exec (.staFlushTenant i w) s = .next (settle s (State.setFld
      { s with staCmd := some (w, (List.range 4).map (fun k => s.rd (CORE_STADATAk k))) } CORE_STACMD CORE_STACMD_BUSY 1))) ∧
    (getF w CORE_STACMD_OP = 5 → exec (.staFlushTenantDest i w) s = .next (settle s (State.setFld
      { s with staCmd := some (w, (List.range 4).map (fun k => s.rd (CORE_STADATAk k))) } CORE_STACMD CORE_STACMD_BUSY 1)))) ∧
  (∀ (s t : State) (w : Word) (data : List Word) (l : Option (List Word)) (r : Nat), s.staCmd = some (w, data) →
    State.staRun { s with staCmd := none } (getF w CORE_STACMD_OP) (getB w CORE_STACMD_STATIC_ONLY) data = (r, l, t) →
    exec .staCmdComplete s = .next (settle s
      (((match l with
        | some ws => (List.range 4).foldl (fun (u : State) k => u.wr (CORE_STADATAk k) (ws.getD k 0)) t
        | none => t).setFld CORE_STACMD CORE_STACMD_BUSY 0).setFld CORE_STACMD CORE_STACMD_RESULT r))) ∧
  (∀ (s t : State) (i : Iface) (w : Word), s.hostUp = true → s.flag CORE_LPMCMD CORE_LPMCMD_BUSY = false →
    t = s.typedWrite i CORE_LPMCMD w →
    (getF w CORE_LPMCMD_OP = 1 → exec (.lpmAdd i w) s = .next (settle s (State.setFld
      { t with lpmCmd := some (w, [t.rd CORE_LPMKEY0, t.rd CORE_LPMKEY1, t.rd CORE_LPMLEAF]) } CORE_LPMCMD CORE_LPMCMD_BUSY 1))) ∧
    (getF w CORE_LPMCMD_OP = 2 → exec (.lpmDelete i w) s = .next (settle s (State.setFld
      { t with lpmCmd := some (w, [t.rd CORE_LPMKEY0, t.rd CORE_LPMKEY1, t.rd CORE_LPMLEAF]) } CORE_LPMCMD CORE_LPMCMD_BUSY 1))) ∧
    (getF w CORE_LPMCMD_OP = 3 → exec (.lpmLookup i w) s = .next (settle s (State.setFld
      { t with lpmCmd := some (w, [t.rd CORE_LPMKEY0, t.rd CORE_LPMKEY1, t.rd CORE_LPMLEAF]) } CORE_LPMCMD CORE_LPMCMD_BUSY 1))) ∧
    (getF w CORE_LPMCMD_OP = 4 → exec (.lpmExactRead i w) s = .next (settle s (State.setFld
      { t with lpmCmd := some (w, [t.rd CORE_LPMKEY0, t.rd CORE_LPMKEY1, t.rd CORE_LPMLEAF]) } CORE_LPMCMD CORE_LPMCMD_BUSY 1)))) ∧
  (∀ (s t : State) (w : Word) (l : List Word) (e : Option LpmEnt) (r op fam : Nat), s.lpmCmd = some (w, l) → op = getF w CORE_LPMCMD_OP →
    fam = getF w CORE_LPMCMD_FAMILY → State.lpmRun { s with lpmCmd := none } op fam (getF w CORE_LPMCMD_OWNER)
      (if op = 3 then 0 else getF w CORE_LPMCMD_LEN) (lpmKeyOf fam (l.getD 0 0) (l.getD 1 0))
      (getB (l.getD 2 0) CORE_LPMLEAF_INTER) (getF (l.getD 2 0) CORE_LPMLEAF_LEAF) = (r, e, t) →
    exec .lpmCmdComplete s = .next (settle s
      (((match e with
        | some x => ((t.setFld CORE_LPMCMD CORE_LPMCMD_LEN x.len).setFlag CORE_LPMLEAF CORE_LPMLEAF_INTER x.inter).setFld
            CORE_LPMLEAF CORE_LPMLEAF_LEAF x.leaf
        | none => t).setFld CORE_LPMCMD CORE_LPMCMD_BUSY 0).setFld CORE_LPMCMD CORE_LPMCMD_RESULT r))) ∧
  (∀ (s : State) (i : Iface) (w : Word), s.hostUp = true → getB w CORE_TBLFENCE_REQ = true →
    ∃ t : State, exec (.fenceRequest i w) s = .next t ∧ t.flag CORE_TBLFENCE CORE_TBLFENCE_DONE = false ∧
      (∀ p ∈ t.engs, ∀ r : Run, p.2.run = some r → r.fenced = true) ∧ t.engs.length = s.engs.length ∧
      (∀ p ∈ t.lanes, ∀ q ∈ p.2.reqs, q.fenced = true) ∧ t.lanes.length = s.lanes.length) ∧
  (∀ (s : State) (h due : Nat), (s.recov h).due = some due → due ≤ s.mer →
    exec (.recoveryResetTimeout h) s = .next (settle s
      (s.setRecov h { RecovSt.reset with quiet := (s.recov h).quiet, open_ := (s.recov h).open_, late := true })))

/-- Punt queues, injection, node states asked for and stop commands. Rests on R445, R446, R447, R467, R468, R486, R487,
R488, R489, R490, R491. -/
def Obligations.PuntAndStopCommandsComplete : Prop :=
  (∀ (s t u : State) (q why : Nat) (it : Item) (rest : List (Item × Nat)), Sparse.get (fun _ => []) s.puntIn q = (it, why) :: rest →
    t = { s with puntIn := Sparse.set (fun _ => []) s.puntIn q rest } → t.pqValid q = true →
    (t.flag (PUNTq q) PUNTq_ANY = true ∨ t.fld (PUNTq q) PUNTq_TENANT = it.tenant ∨ why.testBit 20 = true) →
    u = t.queueIn 0 { item := it, copies := [.punt q], held := false } →
    (u.queue (Dest.punt q).key).length ≠ (t.queue (Dest.punt q).key).length →
    exec (.puntItem q) s = .next (settle s (u.setPuntWhy q (t.puntWhy q ++ [why % 2 ^ 20])))) ∧
  (∀ (s t u : State) (q : Nat) (x : QEnt) (rest : List QEnt), s.queue (Dest.punt q).key = x :: rest → s.pqValid q = true →
    s.upUsed q ≠ s.pqDepth q → s.wakeable = false → x.item.poison = false →
    t = ((((s.setQueue (.punt q) rest).setPuntWhy q (s.puntWhy q).tail).obs 0 0x021 x.cells (tenant := some x.item.tenant)
      (cls := some x.dest.cls)).releaseChain x.chain).pathEnd x.item
      { kind := 5, num := q, queue := 31, verdict := 14, panel := 0, tsOut := s.mer } →
    u = (((t.emitOut (.puntSlot q (s.upWr q % s.pqDepth q)
      ((s.slotWords q x.item ((s.puntWhy q).headD 0)).flatMap (natLe 4) ++ x.item.data.take (s.pqSlot q - 48)))).bump
        (pqWord q 3) PUNTq_UP_WR).count (pqWord q 10)).setSlotTicks q (s.slotTicks q ++ [s.mer]) →
    exec (.puntSlotWrite q) s = .next (settle s
      (if max 1 (s.fld (pqWord q 7) PUNTq_IRQ_THR) ≤ u.upUsed q then u.setPend q else u))) ∧
  (∀ (s : State) (q a : Nat) (rest : List Nat), s.slotTicks q = a :: rest → s.fld (pqWord q 7) PUNTq_IRQ_TMO ≠ 0 →
    s.upUsed q ≠ 0 → a + s.fld (pqWord q 7) PUNTq_IRQ_TMO * usTicks ≤ s.mer →
    exec (.puntTimeout q) s = .next (settle s (s.setPend q))) ∧
  (∀ (s t : State) (i : Iface) (q : Nat) (w : Word), s.hostUp = true → s.pqValid q = false →
    (i = .pcie ∨ i = .spi ∨ s.flag (PUNTq q) PUNTq_ANY = false ∧ getB w PUNTq_ANY = false) → t = s.typedWrite i (PUNTq q) w →
    t.pqValid q = true →
    exec (.puntConfigWrite i q w) s = .next (settle s (((t.wr (pqWord q 3) 0).wr (pqWord q 6) 0).setSlotTicks q []))) ∧
  (∀ (s : State) (i : Iface) (q left : Nat) (w : Word), s.hostUp = true →
    left = (s.upWr q + 65536 - getF w PUNTq_UP_RD) % 65536 → left ≤ s.upUsed q →
    exec (.upRdWrite i q w) s = .next (settle s
      ((s.typedWrite i (pqWord q 3) w).setSlotTicks q ((s.slotTicks q).drop (s.upUsed q - left))))) ∧
  (∀ (s : State) (i : Iface) (q : Nat) (w : Word), s.hostUp = true →
    (getF w PUNTq_DN_WR + 65536 - s.dnRd q) % 65536 ≤ s.pqDepth q →
    exec (.dnWrWrite i q w) s = .next (settle s (s.typedWrite i (pqWord q 6) w))) ∧
  (∀ (s : State) (q ten n : Nat) (o : List Byte), s.pqValid q = true → s.flag (PUNTq q) PUNTq_INJ_EN = true → s.dnWr q ≠ s.dnRd q →
    s.wakeable = false → s.hostUp = true → slotFormed o (s.pqSlot q) = true → ten = bits (slotWord o 0) 23 14 →
    n = bits (slotWord o 1) 25 16 → (s.flag (PUNTq q) PUNTq_ANY = true ∨ s.fld (PUNTq q) PUNTq_TENANT = ten) →
    s.portEn n = true → (s.portTenant n = some ten ∨ s.portTenant n = none) →
    exec (.injectSlot q o false) s = .next (settle s
      ((s.setFld (pqWord q 6) PUNTq_DN_RD (s.dnRd q + 1)).parse (n / 64) (s.slotItem o n)))) ∧
  (∀ s : State, s.acceptsWrites = true → s.refusesConfig = false →
    exec (.stateReq 1) s = .next (settle s ((s.stateReq 1).emitOut (.status 0x000103 0))) ∧
    exec (.stateReq 2) s = .next (settle s ((s.stateReq 2).emitOut (.status 0x000103 0)))) ∧
  (∀ s : State, s.acceptsStops = true → exec .dataStop s = .next (settle s (s.dataStop.emitOut (.status 0x000201 0)))) ∧
  (∀ (s : State) (t : Nat), s.acceptsStops = true →
    exec (.tenantStop t) s = .next (settle s ((s.tenantStop t).emitOut (.status (256 * (0x4000 + 16 * t) + 2) 0))))

/-- Spill, recall, freed deep cells, a moved slot, a leaving member and a survey record. Rests on R260, R261, R262,
R263, R265, R271, R278. -/
def Obligations.SpillAndRecallCommandsComplete : Prop :=
  (∀ (s : State) (p k i o : Nat) (x : QEnt), s.flag (CORE_PNLp_STAT p) CORE_PNLp_STAT_SPILLING = true →
    s.fld (CORE_PNLp_SPILLCFG p) CORE_PNLp_SPILLCFG_SPILL_MARK ≠ 0 → s.recallDue p = false →
    s.spillVictim p (s.fld (CORE_PNLp_RECALL p) CORE_PNLp_RECALL_RECALL_MARK) = some k → s.spillPick p k = some (i, o, x) →
    exec (.spillFrame p) s = .next (settle s ((s.setQueue (.port (k / 32) (k % 32))
      (setAt (s.queue k) i { x with place := 1, item := { x.item with spilled := true } })).deepTake
        (panelDie p) x.item.tenant x.cells))) ∧
  (∀ (s : State) (p k i : Nat) (x : QEnt), s.firstAt p 1 = some (k, i, x) →
    exec (.spillWriteComplete p) s = .next (settle s
      ((((s.setQueue (.port (k / 32) (k % 32)) (setAt (s.queue k) i { x with place := 2 })).count (CORE_PNLp_CNTc p 0)).obs
        p 0x022 x.cells (some x.item.tenant) none (some x.dest.cls)).releaseChain x.chain |>.obsDie (panelDie p) 0x071 (256 * x.cells)))) ∧
  (∀ (s : State) (p k i o : Nat) (x : QEnt), s.recallPick p = some (k, i, o, x) → x.cells ≤ s.sharedFree p →
    exec (.recallFrame p) s = .next (settle s
      (((s.setQueue (.port (k / 32) (k % 32)) (setAt (s.queue k) i { x with place := 3 })).setShared p
        (s.sharedFree p - x.cells)).showRecall p))) ∧
  (∀ (s t u v : State) (p k i : Nat) (x : QEnt), s.firstAt p 3 = some (k, i, x) →
    t = (s.deepFree (panelDie p) x.item.tenant x.cells).obsDie (panelDie p) 0x070 (256 * x.cells) →
    u = (t.setQueue (.port (k / 32) (k % 32)) ((s.queue k).eraseIdx i)).setShared p
      ((t.setQueue (.port (k / 32) (k % 32)) ((s.queue k).eraseIdx i)).sharedFree p + x.cells) →
    v = u.dropAt x.item (.port (k / 32) (k % 32)) rMalformed →
    exec (.recallComplete p false) s = .next (settle s
      (((State.setQueue { (t.newChain p 1 x.cells 0).2 with chains := Sparse.erase (t.newChain p 1 x.cells 0).2.chains x.chain }
        (.port (k / 32) (k % 32)) (setAt (s.queue k) i { x with place := 0, chain := t.chainCtr })).count (CORE_PNLp_CNTc p 1)
        |>.showRecall p).obs p 0x023 x.cells (some x.item.tenant) none (some (Dest.cls (.port (k / 32) (k % 32)))))) ∧
    exec (.recallComplete p true) s = .next (settle s
      ((((State.tsqDiscard { v with chains := Sparse.erase v.chains x.chain } (k / 32) x.item).count (CORE_PNLp_CNTc p 3)).setFld
        CORE_EVT CORE_EVT_SPILL_ERR 1).showRecall p |>.noteIdle (k / 32)))) ∧
  (∀ (s : State) (die tenant c : Nat) (rest : List (Nat × Nat × Nat)), s.deepFreeing = (die, tenant, c) :: rest →
    exec .spillCellsFreed s = .next (settle s (State.deepFree { s with deepFreeing := rest } die tenant c))) ∧
  (∀ (s : State) (a most least k : Nat), s.lagValid a = true → s.lagEnds a = some (most, least) →
    s.lagHeld a least + 1 < s.lagHeld a most →
    ((List.range 256).filter (fun k => s.lagSlot a k == most)).getLast? = some k → s.lagQuiet a k = true →
    exec (.lagSlotMove a) s = .next (settle s (s.setLagSlot a k least))) ∧
  (∀ (s : State) (a i : Nat), i < 64 → s.lagValid a = true → (s.lagMask a 4).testBit i = true → s.lagFit a i = false →
    exec (.lagMemberLeave a i) s = .next (settle s
      ((((s.setLagActive a (s.lagMask a 4 - 2 ^ i)).setFld CORE_EVT CORE_EVT_LAG_CHG 1).lagDeal a
        ((List.range 256).filter (fun k => s.lagSlot a k == i))).lagFlush (s.lagMember a i)))) ∧
  (∀ (s t : State) (p w wp rp : Nat) (rcd : List Byte) (rest : List (List Byte)),
    (p < 8 ∧ wp = CORE_SVWPTR0 ∧ rp = CORE_SVRPTR0 ∨ 8 ≤ p ∧ p < 16 ∧ wp = CORE_SVWPTR1 ∧ rp = CORE_SVRPTR1) →
    Sparse.get (fun _ => []) s.svFifo p = rcd :: rest →
    s.flag CORE_CTRL CORE_CTRL_SV_EN = true → w = s.fld wp CORE_SVWPTR0_WPTR →
    (s.flag CORE_CTRL CORE_CTRL_SV_WRAP = true ∨ (w + 1) % 2 ^ 22 ≠ s.fld rp CORE_SVRPTR0_RPTR) →
    t = (State.setFld { s with svFifo := Sparse.set (fun _ => []) s.svFifo p rest
                               svRing := Sparse.set (fun _ => []) s.svRing (2 ^ 22 * (p / 8) + w) rcd }
        wp CORE_SVWPTR0_WPTR (w + 1)).memWrote 4 (surveyOctet (2 ^ 22 * (p / 8) + w)) 128 →
    exec (.surveyRecord p) s = .next (settle s (if w + 1 = 2 ^ 22 then t.setFld wp CORE_SVWPTR0_WRAPPED 1 else t)))

/-- Stitch engines: dispatch, start, programs, stitch queues of the host, completion records. Rests on R286, R288, R290,
R292, R294, R301, R302, R305, R307, R310. -/
def Obligations.StitchCommandsComplete : Prop :=
  (∀ (s t : State) (r : WorkReq) (rest : List WorkReq) (l : List Word) (e : Nat), s.workIn = r :: rest →
    t = State.freeHeld { s with workIn := rest } r.held →
    l = t.progEntry r.prog → getB (entWord l 0) PROGRAM_VALID = true → getB (entWord l 0) PROGRAM_SUSPENDED = false →
    pickEngine (entMask l) r.item.hash r.item.here = some e →
    exec .workItemDispatch s = .next (settle s
      (if 32 ≤ (t.eng e).count ∨ 32768 < (t.eng e).octets + r.item.data.length then
        ((t.dropItem r.item rStitch).engCount e 3).stEvent PANEL_STEVT_INQ_FULL
      else ((t.crossed r.item (e / 8)).setEng e { t.eng e with inq := (t.eng e).inq ++
        [{ item := r.item, prog := r.prog, desc := r.desc, kind := r.kind, entry := l, handed := t.mer }] }).engShow e))) ∧
  (∀ (s t u : State) (e : Nat) (w x : StWork) (rest : List StWork), (s.eng e).run = none → (s.eng e).inq = w :: rest →
    t = (s.setEng e { s.eng e with inq := rest }).engShow e → t.flag (PROGRAM w.prog) PROGRAM_SUSPENDED = false →
    x = { w with item := w.item.mark 4 t.mer } →
    u = (((t.setEng e { s.eng e with inq := rest, run := some (x.start t.mer) }).engShow e).engCount e 0).count (PROGRAM x.prog + 48) →
    exec (.workItemStart e) s = .next (settle s
      ((u.obs (e / 8) 0x043 1 (tenant := some x.item.tenant) (master := some e)).obs (e / 8) 0x042 1 (master := some e)))) ∧
  (∀ (s : State) (i : Iface) (p : Nat) (w : Word) (l : List Word), s.hostUp = true →
    l = (List.range 12).map (fun k => s.newWord (ifaceNum i) (PROGRAM p) 0 k w) →
    exec (.programCommit i p w) s = .next (settle s
      (if s.progOk p l = true then
        (s.commitEntry (ifaceNum i) ⟨0x0A000000, 64, 4096, 1, 1, 12, 0, false⟩ (PROGRAM p) w).setFld (PROGRAM p) PROGRAM_SUSPENDED 0
      else s.stEvent PANEL_STEVT_OWN_ERR))) ∧
  (∀ (s : State) (i : Iface) (e k : Nat) (w : Word), s.hostUp = true →
    ((∀ p ∈ s.validProgs, (entMask (s.progEntry p)).testBit e = true → entCodeBase (s.progEntry p) ≤ k →
        entCodeBase (s.progEntry p) + entCodeLen (s.progEntry p) ≤ k) →
      exec (.imemWrite i e k w) s = .next (settle s ((s.wr (IMEM e k) w).memWrote 0 (IMEM e k) 4))) ∧
    (∀ p : Nat, p ∈ s.validProgs → (entMask (s.progEntry p)).testBit e = true → entCodeBase (s.progEntry p) ≤ k →
      k < entCodeBase (s.progEntry p) + entCodeLen (s.progEntry p) →
      exec (.imemWrite i e k w) s = .next (settle s (s.stEvent PANEL_STEVT_OWN_ERR)))) ∧
  (∀ (s t : State) (i : Iface) (q : Nat) (w w1 : Word), s.hostUp = true →
    w1 = s.newWord (ifaceNum i) (SQUEUE q) 0 1 w → (ringOf w w1).1 + (ringOf w w1).2 ≤ 4194304 → 4 ≤ getF w SQUEUE_DEPTH →
    getF w SQUEUE_HOST ≠ 3 →
    (∀ p ∈ s.validProgs, (maskPanels (entMask (s.progEntry p))).testBit (q / 64) = true →
      rangesMeet (entShared (s.progEntry p)) (ringOf w w1) = false) →
    (∀ k ∈ s.validQueues, k ≠ q → k / 64 = q / 64 → rangesMeet (s.sqRing k) (ringOf w w1) = false) →
    t = s.commitEntry (ifaceNum i) ⟨0x0A100000, 32, 1024, 1, 1, 2, 0, false⟩ (SQUEUE q) w →
    exec (.stitchQueueCommit i q w) s = .next (settle s ((t.wr (SQUEUE q + 8) 0).wr (SQUEUE q + 12) 0))) ∧
  (∀ (s t : State) (i : Iface) (q : Nat) (l : List Word), s.hostUp = true → s.hostEnd q 2 = true →
    (s.sqGet q = some (l, t) ∨ s.sqGet q = none ∧ l = [] ∧ t = s) →
    exec (.hostQueueGet i q) s = .next (settle s
      (((List.range 32).foldl (fun u k => u.latch i (SQ_ITEM q k) (l.getD k 0)) t).answer i (SQ_GET q) (l.getD 0 0)))) ∧
  (∀ (s : State) (i : Iface) (q : Nat) (l : List Word), s.hostUp = true → s.hostEnd q 1 = true →
    l = (List.range 32).map (fun k => s.stagedWord (ifaceNum i) (SQ_ITEM q k)) →
    (∀ t : State, s.sqPut q l = some t → exec (.hostQueuePut i q 1) s = .next (settle s (t.sqResult i q 0))) ∧
    (s.sqPut q l = none → exec (.hostQueuePut i q 1) s = .next (settle s ((s.count (SQUEUE q + 16)).sqResult i q 1)))) ∧
  (∀ (s : State) (i : Iface) (q : Nat), s.hostUp = true → s.hostEnd q 2 = true →
    exec (.hostQueueMark i q) s = .next (settle s (s.setFld (SQUEUE q + 12) SQUEUE_MARK (s.sqRd q))) ∧
    exec (.hostQueueRewind i q) s = .next (settle s (s.setFld (SQUEUE q + 8) SQUEUE_RD (s.sqMark q))) ∧
    exec (.hostQueueRelease i q) s = .next (settle s
      ((s.setFld (SQUEUE q + 12) SQUEUE_REL (s.sqRd q)).setFld (SQUEUE q + 12) SQUEUE_MARK (s.sqRd q)))) ∧
  (∀ (s t : State) (i : Iface) (c : CqRec) (rest : List CqRec), s.hostUp = true → s.cq = c :: rest →
    t = { s with cq := rest } →
    exec (.completionRead i) s = .next (settle s
      (((List.range 3).foldl (fun u k => u.latch i (PANEL_CQk k) (c.words.getD (k + 1) 0))
        (t.setFld (PANEL_ENGe_STAT c.engine) PANEL_ENGe_STAT_CREDITS
          (t.fld (PANEL_ENGe_STAT c.engine) PANEL_ENGe_STAT_CREDITS + 1)).showCq).answer i PANEL_CQ0 (c.words.getD 0 0)))) ∧
  (∀ (s : State) (i : Iface) (f : Nat) (w : Word), s.hostUp = true →
    exec (.freshnessHostWrite i f w) s = .next (settle s
      (s.commitEntry (ifaceNum i) ⟨0x0A200000, 16, 65536, 1, 1, 3, 0, false⟩ (FRESH f) w)))

/-- What each register-to-register instruction writes, and its slots. Rests on R313, R315, R316, R327. -/
def Obligations.RegisterArithmeticCompletes : Prop :=
  ∀ (s : State) (e : Nat) (r : Run) (w : Word),
    (s.Issues e 0 r w → exec (.add e) s = .next (settle s (s.retire e r 1 (fun q => (q.setReg (iRd w)
      (r.reg (iRa w) + r.reg (iRb w))).next)))) ∧
    (s.Issues e 1 r w → exec (.sub e) s = .next (settle s (s.retire e r 1 (fun q => (q.setReg (iRd w)
      (r.reg (iRa w) - r.reg (iRb w))).next)))) ∧
    (s.Issues e 2 r w → exec (.andW e) s = .next (settle s (s.retire e r 1 (fun q => (q.setReg (iRd w)
      (r.reg (iRa w) &&& r.reg (iRb w))).next)))) ∧
    (s.Issues e 3 r w → exec (.orW e) s = .next (settle s (s.retire e r 1 (fun q => (q.setReg (iRd w)
      (r.reg (iRa w) ||| r.reg (iRb w))).next)))) ∧
    (s.Issues e 4 r w → exec (.xorW e) s = .next (settle s (s.retire e r 1 (fun q => (q.setReg (iRd w)
      (r.reg (iRa w) ^^^ r.reg (iRb w))).next)))) ∧
    (s.Issues e 5 r w → exec (.sll e) s = .next (settle s (s.retire e r 1 (fun q => (q.setReg (iRd w)
      (r.reg (iRa w) <<< ((r.reg (iRb w)).toNat % 32))).next)))) ∧
    (s.Issues e 6 r w → exec (.srl e) s = .next (settle s (s.retire e r 1 (fun q => (q.setReg (iRd w)
      (r.reg (iRa w) >>> ((r.reg (iRb w)).toNat % 32))).next)))) ∧
    (s.Issues e 7 r w → exec (.sra e) s = .next (settle s (s.retire e r 1 (fun q => (q.setReg (iRd w)
      ((r.reg (iRa w)).sshiftRight ((r.reg (iRb w)).toNat % 32))).next)))) ∧
    (s.Issues e 8 r w → exec (.slli e) s = .next (settle s (s.retire e r 1 (fun q => (q.setReg (iRd w)
      (r.reg (iRa w) <<< iRb w)).next)))) ∧
    (s.Issues e 9 r w → exec (.srli e) s = .next (settle s (s.retire e r 1 (fun q => (q.setReg (iRd w)
      (r.reg (iRa w) >>> iRb w)).next)))) ∧
    (s.Issues e 10 r w → exec (.srai e) s = .next (settle s (s.retire e r 1 (fun q => (q.setReg (iRd w)
      ((r.reg (iRa w)).sshiftRight (iRb w))).next)))) ∧
    (s.Issues e 11 r w → exec (.mul e) s = .next (settle s (s.retire e r 1 (fun q => (q.setReg (iRd w)
      (r.reg (iRa w) * r.reg (iRb w))).next)))) ∧
    (s.Issues e 12 r w → exec (.mulhu e) s = .next (settle s (s.retire e r 1 (fun q => (q.setReg (iRd w)
      (BitVec.ofNat 32 ((r.reg (iRa w)).toNat * (r.reg (iRb w)).toNat / 2 ^ 32))).next)))) ∧
    (s.Issues e 13 r w → exec (.mulhs e) s = .next (settle s (s.retire e r 1 (fun q => (q.setReg (iRd w)
      (BitVec.ofInt 32 ((r.reg (iRa w)).toInt * (r.reg (iRb w)).toInt / 2 ^ 32))).next)))) ∧
    (s.Issues e 16 r w → exec (.minW e) s = .next (settle s (s.retire e r 1 (fun q => (q.setReg (iRd w)
      (if (r.reg (iRa w)).toInt < (r.reg (iRb w)).toInt then r.reg (iRa w) else r.reg (iRb w))).next)))) ∧
    (s.Issues e 17 r w → exec (.maxW e) s = .next (settle s (s.retire e r 1 (fun q => (q.setReg (iRd w)
      (if (r.reg (iRa w)).toInt < (r.reg (iRb w)).toInt then r.reg (iRb w) else r.reg (iRa w))).next)))) ∧
    (s.Issues e 18 r w → exec (.minu e) s = .next (settle s (s.retire e r 1 (fun q => (q.setReg (iRd w)
      (if (r.reg (iRa w)).toNat < (r.reg (iRb w)).toNat then r.reg (iRa w) else r.reg (iRb w))).next)))) ∧
    (s.Issues e 19 r w → exec (.maxu e) s = .next (settle s (s.retire e r 1 (fun q => (q.setReg (iRd w)
      (if (r.reg (iRa w)).toNat < (r.reg (iRb w)).toNat then r.reg (iRb w) else r.reg (iRa w))).next)))) ∧
    (s.Issues e 22 r w → exec (.bswap e) s = .next (settle s (s.retire e r 1 (fun q => (q.setReg (iRd w)
      (bswap (r.reg (iRa w)))).next)))) ∧
    (s.Issues e 23 r w → exec (.clz e) s = .next (settle s (s.retire e r 1 (fun q => (q.setReg (iRd w)
      (BitVec.ofNat 32 (clz (r.reg (iRa w))))).next)))) ∧
    (s.Issues e 14 r w → (r.reg (iRb w)).toNat ≠ 0 → exec (.divu e) s = .next (settle s (s.retire e r 12 (fun q =>
      (q.setReg (iRd w) (BitVec.ofNat 32 ((r.reg (iRa w)).toNat / (r.reg (iRb w)).toNat))).next)))) ∧
    (s.Issues e 15 r w → (r.reg (iRb w)).toNat ≠ 0 → exec (.remu e) s = .next (settle s (s.retire e r 12 (fun q =>
      (q.setReg (iRd w) (BitVec.ofNat 32 ((r.reg (iRa w)).toNat % (r.reg (iRb w)).toNat))).next)))) ∧
    (s.Issues e 14 r w → (r.reg (iRb w)).toNat = 0 → exec (.divu e) s = .next (settle s
      ((s.fetched e r).engExc e (s.fetchedRun e r) 16 0))) ∧
    (s.Issues e 15 r w → (r.reg (iRb w)).toNat = 0 → exec (.remu e) s = .next (settle s
      ((s.fetched e r).engExc e (s.fetchedRun e r) 16 0))) ∧
    (s.Issues e 20 r w → exec (.cmp e) s = .next (settle s (s.retire e r 1 (fun q =>
      (q.compare (r.reg (iRa w)) (r.reg (iRb w))).next)))) ∧
    (s.Issues e 21 r w → exec (.tst e) s = .next (settle s (s.retire e r 1 (fun q =>
      (q.setNzcv (r.reg (iRa w) &&& r.reg (iRb w) == 0) (r.reg (iRa w) &&& r.reg (iRb w)).msb false false).next)))) ∧
    (s.Issues e 24 r w → exec (.movf e) s = .next (settle s (s.retire e r 1 (fun q =>
      (q.setReg (iRd w) (BitVec.ofNat 32 (r.fl % 32))).next)))) ∧
    (s.Issues e 25 r w → exec (.setf e) s = .next (settle s (s.retire e r 1 (fun q =>
      Run.next { q with fl := (r.reg (iRa w)).toNat % 32 })))) ∧
    (s.Issues e 28 r w → exec (.adds e) s = .next (settle s (s.retire e r 1 (fun q =>
      ((q.setReg (iRd w) (satSigned ((r.reg (iRa w)).toInt + (r.reg (iRb w)).toInt)).1).setQ
        (satSigned ((r.reg (iRa w)).toInt + (r.reg (iRb w)).toInt)).2).next)))) ∧
    (s.Issues e 29 r w → exec (.subs e) s = .next (settle s (s.retire e r 1 (fun q =>
      ((q.setReg (iRd w) (satSigned ((r.reg (iRa w)).toInt - (r.reg (iRb w)).toInt)).1).setQ
        (satSigned ((r.reg (iRa w)).toInt - (r.reg (iRb w)).toInt)).2).next))))

/-- What immediates, branches, scaling, counters and tenant time do to the work item. Rests on R328, R329, R330, R332,
R333, R337. -/
def Obligations.ImmediateAndBranchInstructionsComplete : Prop :=
  ∀ (s : State) (e : Nat) (r : Run) (w : Word),
    (s.Issues e 256 r w → exec (.addi e) s = .next (settle s (s.retire e r 1 (fun q => (q.setReg (iRd w)
      (r.reg (iRa w) + BitVec.ofInt 32 (sext 16 (iImm w)))).next)))) ∧
    (s.Issues e 512 r w → exec (.andi e) s = .next (settle s (s.retire e r 1 (fun q => (q.setReg (iRd w)
      (r.reg (iRa w) &&& BitVec.ofNat 32 (iImm w))).next)))) ∧
    (s.Issues e 768 r w → exec (.ori e) s = .next (settle s (s.retire e r 1 (fun q => (q.setReg (iRd w)
      (r.reg (iRa w) ||| BitVec.ofNat 32 (iImm w))).next)))) ∧
    (s.Issues e 1024 r w → exec (.xori e) s = .next (settle s (s.retire e r 1 (fun q => (q.setReg (iRd w)
      (r.reg (iRa w) ^^^ BitVec.ofNat 32 (iImm w))).next)))) ∧
    (s.Issues e 1280 r w → exec (.lui e) s = .next (settle s (s.retire e r 1 (fun q => (q.setReg (iRd w)
      (BitVec.ofNat 32 (iImm w * 65536))).next)))) ∧
    (s.Issues e 1536 r w → exec (.cmpi e) s = .next (settle s (s.retire e r 1 (fun q =>
      (q.compare (r.reg (iRa w)) (BitVec.ofInt 32 (sext 16 (iImm w)))).next)))) ∧
    (s.Issues e 6144 r w → r.cond (iRd w) = true → exec (.bc e) s = .next (settle s (s.retire e r 2 (fun q =>
      { q with pc := r.target (sext 16 (iImm w)) })))) ∧
    (s.Issues e 6144 r w → r.cond (iRd w) = false → exec (.bc e) s = .next (settle s (s.retire e r 1 Run.next))) ∧
    (s.Issues e 6400 r w → exec (.jal e) s = .next (settle s (s.retire e r 2 (fun q =>
      { q.setReg (iRd w) (BitVec.ofNat 32 (r.pc + 1)) with pc := r.target (sext 21 (iOff21 w)) })))) ∧
    (s.Issues e 6656 r w → (r.reg (iRa w) + iSext w).toNat < 16384 → exec (.jalr e) s = .next (settle s (s.retire e r 2 (fun q =>
      { q.setReg (iRd w) (BitVec.ofNat 32 (r.pc + 1)) with pc := (r.reg (iRa w) + iSext w).toNat })))) ∧
    (s.Issues e 6656 r w → 16384 ≤ (r.reg (iRa w) + iSext w).toNat → exec (.jalr e) s = .next (settle s
      ((s.fetched e r).engExc e (s.fetchedRun e r) 2 (r.reg (iRa w) + iSext w).toNat))) ∧
    (∀ (sg : Bool) (v lo hi : Int), s.Issues e 4608 r w → sg = (iFn w).testBit 10 →
      v = (if sg = true then (r.reg (iRa w)).toInt * (r.reg (iRb w)).toInt
        else (((r.reg (iRa w)).toNat * (r.reg (iRb w)).toNat : Nat) : Int)) / 2 ^ bits (iFn w) 9 5 →
      lo = (if sg = true then -2 ^ (iFn w % 32) else 0) → hi = (if sg = true then 2 ^ (iFn w % 32) - 1 else 2 ^ (iFn w % 32 + 1) - 1) →
      exec (.scale e) s = .next (settle s (s.retire e r 2 (fun q =>
        ((q.setReg (iRd w) (BitVec.ofInt 32 (if v < lo then lo else if hi < v then hi else v))).setQ
          (decide (v < lo ∨ hi < v))).next)))) ∧
    (s.Issues e 5120 r w → exec (.ctrIncrement e) s = .next (settle s (s.retire e r 1 (fun q => (q.setReg (iRd w)
      (if (r.reg (iRb w)).toNat ≤ (r.reg (iRa w)).toNat then 0 else BitVec.ofNat 32 ((r.reg (iRa w)).toNat + 1))).next)))) ∧
    (s.Issues e 5121 r w → (r.reg (iRa w)).toNat ≤ (r.reg (iRb w)).toNat → (r.reg (iRd w)).toNat ≤ (r.reg (iRb w)).toNat →
      exec (.ctrDelta e) s = .next (settle s (s.retire e r 1 (fun q => (q.setReg (iRd w)
        (BitVec.ofNat 32 (if (r.reg (iRd w)).toNat ≤ (r.reg (iRa w)).toNat then (r.reg (iRa w)).toNat - (r.reg (iRd w)).toNat
          else (r.reg (iRa w)).toNat + ((r.reg (iRb w)).toNat + 1) - (r.reg (iRd w)).toNat))).next)))) ∧
    (s.Issues e 5121 r w → ((r.reg (iRb w)).toNat < (r.reg (iRa w)).toNat ∨ (r.reg (iRb w)).toNat < (r.reg (iRd w)).toNat) →
      exec (.ctrDelta e) s = .next (settle s (s.retire e r 1 (fun q => ((q.setReg (iRd w) 0xFFFFFFFF#32).setQ true).next)))) ∧
    (∀ m : Nat, s.Issues e 7168 r w → m = (if (iFn w).testBit 2 = true then r.work.item.stamp else s.mer) →
      exec (.timeRead e) s = .next (settle s (s.retire e r 3 (fun q => (q.setPair (iRd w)
        (if iFn w % 4 = 0 then (s.fetched e r).viewAt r.work.item.tenant m else if iFn w % 4 = 1 then (s.fetched e r).viewAt 1024 m
          else m)).next))))

/-- Loads, stores, signals, CRC and atomics on an engine's own memory. Rests on R320, R321, R322, R325, R328, R331,
R334, R335, R336, R575. -/
def Obligations.MemoryInstructionsComplete : Prop :=
  ∀ (s f : State) (e : Nat) (r q : Run) (w : Word), f = s.fetched e r → q = s.fetchedRun e r →
    (s.Issues e 2048 r w → q.accessFault (r.loadAddr w) 4 4 = none → inHeap (r.loadAddr w) = false →
      f.engPoison e q (r.loadAddr w) 4 = none → exec (.ldw e) s = .next (settle s (f.settle e q
        (.done (f.engRead e q (r.loadAddr w) 4) (q.setReg (iRd w) (BitVec.ofNat 32 (leNat (f.engBytes e q (r.loadAddr w) 4)))).next
          (accessSlots (r.loadAddr w)))))) ∧
    (s.Issues e 2304 r w → q.accessFault (r.loadAddr w) 2 2 = none → inHeap (r.loadAddr w) = false →
      f.engPoison e q (r.loadAddr w) 2 = none → exec (.ldh e) s = .next (settle s (f.settle e q
        (.done (f.engRead e q (r.loadAddr w) 2) (q.setReg (iRd w) (BitVec.ofNat 32 (leNat (f.engBytes e q (r.loadAddr w) 2)))).next
          (accessSlots (r.loadAddr w)))))) ∧
    (s.Issues e 2560 r w → q.accessFault (r.loadAddr w) 2 2 = none → inHeap (r.loadAddr w) = false →
      f.engPoison e q (r.loadAddr w) 2 = none → exec (.ldhs e) s = .next (settle s (f.settle e q
        (.done (f.engRead e q (r.loadAddr w) 2) (q.setReg (iRd w) (BitVec.ofInt 32 (sext 16 (leNat (f.engBytes e q (r.loadAddr w) 2))))).next
          (accessSlots (r.loadAddr w)))))) ∧
    (s.Issues e 2816 r w → q.accessFault (r.loadAddr w) 1 1 = none → inHeap (r.loadAddr w) = false →
      f.engPoison e q (r.loadAddr w) 1 = none → exec (.ldb e) s = .next (settle s (f.settle e q
        (.done (f.engRead e q (r.loadAddr w) 1) (q.setReg (iRd w) (BitVec.ofNat 32 (leNat (f.engBytes e q (r.loadAddr w) 1)))).next
          (accessSlots (r.loadAddr w)))))) ∧
    (s.Issues e 3072 r w → q.accessFault (r.loadAddr w) 1 1 = none → inHeap (r.loadAddr w) = false →
      f.engPoison e q (r.loadAddr w) 1 = none → exec (.ldbs e) s = .next (settle s (f.settle e q
        (.done (f.engRead e q (r.loadAddr w) 1) (q.setReg (iRd w) (BitVec.ofInt 32 (sext 8 (leNat (f.engBytes e q (r.loadAddr w) 1))))).next
          (accessSlots (r.loadAddr w)))))) ∧
    (s.Issues e 3328 r w → q.accessFault (r.loadAddr w) 4 4 = none → inHeap (r.loadAddr w) = false →
      exec (.stw e) s = .next (settle s (f.settle e q
        (.done (f.engStore e q (r.loadAddr w) (natLe 4 (r.reg (iRd w)).toNat)).1
          (f.engStore e q (r.loadAddr w) (natLe 4 (r.reg (iRd w)).toNat)).2.next (accessSlots (r.loadAddr w)))))) ∧
    (s.Issues e 3584 r w → q.accessFault (r.loadAddr w) 2 2 = none → inHeap (r.loadAddr w) = false →
      exec (.sth e) s = .next (settle s (f.settle e q
        (.done (f.engStore e q (r.loadAddr w) (natLe 2 (r.reg (iRd w)).toNat)).1
          (f.engStore e q (r.loadAddr w) (natLe 2 (r.reg (iRd w)).toNat)).2.next (accessSlots (r.loadAddr w)))))) ∧
    (s.Issues e 3840 r w → q.accessFault (r.loadAddr w) 1 1 = none → inHeap (r.loadAddr w) = false →
      exec (.stb e) s = .next (settle s (f.settle e q
        (.done (f.engStore e q (r.loadAddr w) (natLe 1 (r.reg (iRd w)).toNat)).1
          (f.engStore e q (r.loadAddr w) (natLe 1 (r.reg (iRd w)).toNat)).2.next (accessSlots (r.loadAddr w)))))) ∧
    (∀ (a n off width v : Nat) (be : Bool), off = (r.reg (iRb w)).toNat → width = iFn w % 32 + 1 → be = (iFn w).testBit 10 →
      (a, n) = sigSpan (r.reg (iRa w)).toNat off width → v = sigGet be off width (f.engBytes e q a n) → q.outside a n = none →
      inHeap a = false → f.engPoison e q a n = none →
      (s.Issues e 4096 r w → exec (.sigx e) s = .next (settle s (f.settle e q (.done (f.engRead e q a n)
        (q.setReg (iRd w) (if (iFn w).testBit 9 = true then BitVec.ofInt 32 (sext width v) else BitVec.ofNat 32 v)).next 2)))) ∧
      (s.Issues e 4352 r w → exec (.sigi e) s = .next (settle s (f.settle e q (.done
        ((f.engRead e q a n).engStore e q a (sigPut be off width (r.reg (iRd w)).toNat ((f.engRead e q a n).engBytes e q a n))).1
        ((f.engRead e q a n).engStore e q a (sigPut be off width (r.reg (iRd w)).toNat ((f.engRead e q a n).engBytes e q a n))).2.next
        3))))) ∧
    (s.Issues e 4864 r w → (r.reg (iRb w)).toNat = 0 → exec (.crc e) s = .next (settle s (f.settle e q (.done f
      (q.setReg (iRd w) (BitVec.ofNat 32 (crcOver (iFn w) (r.reg (iRd w)).toNat []))).next 2)))) ∧
    (∀ a n : Nat, a = (r.reg (iRa w)).toNat → n = (r.reg (iRb w)).toNat → n ≠ 0 → n ≤ 16384 → q.outside a n = none →
      inHeap a = false → f.engPoison e q a n = none → s.Issues e 4864 r w →
      exec (.crc e) s = .next (settle s (f.settle e q (.done (f.engRead e q a n)
        (q.setReg (iRd w) (BitVec.ofNat 32 (crcOver (iFn w) (r.reg (iRd w)).toNat (f.engBytes e q a n)))).next (2 + (n + 7) / 8))))) ∧
    (∀ (a c o : Nat) (g : State), a = (r.reg (iRa w)).toNat → q.accessFault a 4 4 = none → inHeap a = false →
      placeClass (q.place e a) = some (c, o) → g = f.flushKey (codeKey c (codeAddr c o)) → g.engPoison e q a 4 = none →
      (s.Issues e 5376 r w → exec (.amoadd e) s = .next (settle s (f.settle e q (.done
        ((g.engRead e q a 4).engStore e q a (natLe 4 (g.engWord e q a + r.reg (iRb w)).toNat)).1
        (((g.engRead e q a 4).engStore e q a (natLe 4 (g.engWord e q a + r.reg (iRb w)).toNat)).2.setReg (iRd w) (g.engWord e q a)).next 2)))) ∧
      (s.Issues e 5377 r w → exec (.amoswap e) s = .next (settle s (f.settle e q (.done
        ((g.engRead e q a 4).engStore e q a (natLe 4 (r.reg (iRb w)).toNat)).1
        (((g.engRead e q a 4).engStore e q a (natLe 4 (r.reg (iRb w)).toNat)).2.setReg (iRd w) (g.engWord e q a)).next 2)))) ∧
      (s.Issues e 5378 r w → exec (.amomaxu e) s = .next (settle s (f.settle e q (.done
        ((g.engRead e q a 4).engStore e q a (natLe 4 (if (g.engWord e q a).toNat < (r.reg (iRb w)).toNat then r.reg (iRb w) else g.engWord e q a).toNat)).1
        (((g.engRead e q a 4).engStore e q a (natLe 4 (if (g.engWord e q a).toNat < (r.reg (iRb w)).toNat then r.reg (iRb w) else g.engWord e q a).toNat)).2.setReg (iRd w) (g.engWord e q a)).next 2))))) ∧
    (s.Issues e 2048 r w → q.accessFault (r.loadAddr w) 4 4 = none → inHeap (r.loadAddr w) = true →
      exec (.ldw e) s = .next (settle s (f.settle e q (.wait 0 f q)))) ∧
    (s.Issues e 2304 r w → q.accessFault (r.loadAddr w) 2 2 = none → inHeap (r.loadAddr w) = true →
      exec (.ldh e) s = .next (settle s (f.settle e q (.wait 0 f q)))) ∧
    (s.Issues e 2560 r w → q.accessFault (r.loadAddr w) 2 2 = none → inHeap (r.loadAddr w) = true →
      exec (.ldhs e) s = .next (settle s (f.settle e q (.wait 0 f q)))) ∧
    (s.Issues e 2816 r w → q.accessFault (r.loadAddr w) 1 1 = none → inHeap (r.loadAddr w) = true →
      exec (.ldb e) s = .next (settle s (f.settle e q (.wait 0 f q)))) ∧
    (s.Issues e 3072 r w → q.accessFault (r.loadAddr w) 1 1 = none → inHeap (r.loadAddr w) = true →
      exec (.ldbs e) s = .next (settle s (f.settle e q (.wait 0 f q)))) ∧
    (s.Issues e 3328 r w → q.accessFault (r.loadAddr w) 4 4 = none → inHeap (r.loadAddr w) = true →
      exec (.stw e) s = .next (settle s (f.settle e q (.wait 0 f q)))) ∧
    (s.Issues e 3584 r w → q.accessFault (r.loadAddr w) 2 2 = none → inHeap (r.loadAddr w) = true →
      exec (.sth e) s = .next (settle s (f.settle e q (.wait 0 f q)))) ∧
    (s.Issues e 3840 r w → q.accessFault (r.loadAddr w) 1 1 = none → inHeap (r.loadAddr w) = true →
      exec (.stb e) s = .next (settle s (f.settle e q (.wait 0 f q)))) ∧
    (s.Issues e 5376 r w → q.accessFault (r.reg (iRa w)).toNat 4 4 = none → inHeap (r.reg (iRa w)).toNat = true →
      exec (.amoadd e) s = .next (settle s (f.settle e q (.wait 0 f q)))) ∧
    (s.Issues e 5377 r w → q.accessFault (r.reg (iRa w)).toNat 4 4 = none → inHeap (r.reg (iRa w)).toNat = true →
      exec (.amoswap e) s = .next (settle s (f.settle e q (.wait 0 f q)))) ∧
    (s.Issues e 5378 r w → q.accessFault (r.reg (iRa w)).toNat 4 4 = none → inHeap (r.reg (iRa w)).toNat = true →
      exec (.amomaxu e) s = .next (settle s (f.settle e q (.wait 0 f q)))) ∧
    (∀ a n : Nat, (a, n) = sigSpan (r.reg (iRa w)).toNat (r.reg (iRb w)).toNat (iFn w % 32 + 1) → q.outside a n = none → inHeap a = true →
      (s.Issues e 4096 r w → exec (.sigx e) s = .next (settle s (f.settle e q (.wait 0 f q)))) ∧
      (s.Issues e 4352 r w → exec (.sigi e) s = .next (settle s (f.settle e q (.wait 0 f q 1))))) ∧
    (s.Issues e 4864 r w → (r.reg (iRb w)).toNat ≠ 0 → q.outside (r.reg (iRa w)).toNat (r.reg (iRb w)).toNat = none →
      inHeap (r.reg (iRa w)).toNat = true → exec (.crc e) s = .next (settle s (f.settle e q (.wait 0 f q)))) ∧
    (∀ c b : Nat, s.Issues e 2048 r w → q.accessFault (r.loadAddr w) 4 4 = some (c, b) →
      exec (.ldw e) s = .next (settle s (f.engExc e q c b))) ∧
    (∀ c b : Nat, s.Issues e 2304 r w → q.accessFault (r.loadAddr w) 2 2 = some (c, b) →
      exec (.ldh e) s = .next (settle s (f.engExc e q c b))) ∧
    (∀ c b : Nat, s.Issues e 2560 r w → q.accessFault (r.loadAddr w) 2 2 = some (c, b) →
      exec (.ldhs e) s = .next (settle s (f.engExc e q c b))) ∧
    (∀ c b : Nat, s.Issues e 2816 r w → q.accessFault (r.loadAddr w) 1 1 = some (c, b) →
      exec (.ldb e) s = .next (settle s (f.engExc e q c b))) ∧
    (∀ c b : Nat, s.Issues e 3072 r w → q.accessFault (r.loadAddr w) 1 1 = some (c, b) →
      exec (.ldbs e) s = .next (settle s (f.engExc e q c b))) ∧
    (∀ c b : Nat, s.Issues e 3328 r w → q.accessFault (r.loadAddr w) 4 4 = some (c, b) →
      exec (.stw e) s = .next (settle s (f.engExc e q c b))) ∧
    (∀ c b : Nat, s.Issues e 3584 r w → q.accessFault (r.loadAddr w) 2 2 = some (c, b) →
      exec (.sth e) s = .next (settle s (f.engExc e q c b))) ∧
    (∀ c b : Nat, s.Issues e 3840 r w → q.accessFault (r.loadAddr w) 1 1 = some (c, b) →
      exec (.stb e) s = .next (settle s (f.engExc e q c b))) ∧
    (∀ c b : Nat, s.Issues e 5376 r w → q.accessFault (r.reg (iRa w)).toNat 4 4 = some (c, b) →
      exec (.amoadd e) s = .next (settle s (f.engExc e q c b))) ∧
    (∀ c b : Nat, s.Issues e 5377 r w → q.accessFault (r.reg (iRa w)).toNat 4 4 = some (c, b) →
      exec (.amoswap e) s = .next (settle s (f.engExc e q c b))) ∧
    (∀ c b : Nat, s.Issues e 5378 r w → q.accessFault (r.reg (iRa w)).toNat 4 4 = some (c, b) →
      exec (.amomaxu e) s = .next (settle s (f.engExc e q c b)))

/-- Stitch queue operations, route and station lookups and freshness operations of an engine. Rests on R338, R339, R340,
R341, R324. -/
def Obligations.QueueAndLookupInstructionsComplete : Prop :=
  ∀ (s f : State) (e : Nat) (r q : Run) (w : Word) (k a : Nat), f = s.fetched e r → q = s.fetchedRun e r →
    k = (r.reg (iRa w)).toNat → a = (r.reg (iRb w)).toNat →
    (s.Issues e 0x2002 r w → f.sqFault e q k 0 = none → exec (.qopMark e) s = .next (settle s (f.settle e q
      (.done (f.sqMarkNow k) ((q.setReg (iRd w) 0).setZ true).next 2)))) ∧
    (s.Issues e 0x2003 r w → f.sqFault e q k 0 = none → exec (.qopRewind e) s = .next (settle s (f.settle e q
      (.done (f.sqRewind k) ((q.setReg (iRd w) 0).setZ true).next 2)))) ∧
    (s.Issues e 0x2004 r w → f.sqFault e q k 0 = none → exec (.qopRelease e) s = .next (settle s (f.settle e q
      (.done (f.sqRelease k) ((q.setReg (iRd w) 0).setZ true).next 2)))) ∧
    (s.Issues e 0x2005 r w → f.sqFault e q k 2 = none → exec (.qopFill e) s = .next (settle s (f.settle e q
      (.done f ((q.setReg (iRd w) (BitVec.ofNat 32 (f.sqHeld k * 65536 + f.sqUnread k))).setZ true).next 2)))) ∧
    (∀ n : Nat, s.Issues e 0x2000 r w → n = f.sqSize k → f.sqBuffer q k a = none → f.sqFault e q k 0 = none →
      (∀ l : List Byte, f.getLook k n = some (false, l) → inHeap a = false →
        exec (.qopGet e) s = .next (settle s (f.settle e q (.done ((f.getTake k n).engStore e q a l).1
          (((((f.getTake k n).engStore e q a l).2.setReg (iRd w) (BitVec.ofNat 32 (leNat (slice l 0 4)))).setZ true).next) 2)))) ∧
      (∀ l : List Byte, f.getLook k n = some (false, l) → inHeap a = true →
        exec (.qopGet e) s = .next (settle s (f.settle e q (.wait 0 f q 2 l)))) ∧
      (∀ l : List Byte, f.getLook k n = some (true, l) → exec (.qopGet e) s = .next (settle s (f.engExc e q 5 (a / 4 * 4)))) ∧
      (f.getLook k n = none → f.sqHost k = 0 →
        exec (.qopGet e) s = .next (settle s (f.settle e q (.wait 5 f q 1 (List.replicate n 0))))) ∧
      (f.getLook k n = none → f.sqHost k ≠ 0 → inHeap a = false →
        exec (.qopGet e) s = .next (settle s (f.settle e q (f.getEnd e q w none n))))) ∧
    (∀ (n : Nat) (l : List Byte) (o : Option State), s.Issues e 0x2001 r w → n = f.sqSize k → f.sqBuffer q k a = none → inHeap a = false →
      f.engPoison e q a n = none → f.sqFault e q k 1 = none → l = f.engBytes e q a n →
      o = (f.engRead e q a n).sqPut k ((List.range (n / 4)).map (fun j => BitVec.ofNat 32 (leNat (slice l (4 * j) 4)))) →
      (∀ t : State, o = some t →
        exec (.qopPut e) s = .next (settle s (f.settle e q (.done t ((q.setReg (iRd w) 0).setZ true).next 2)))) ∧
      (o = none → (f.engRead e q a n).sqHost k = 0 →
        exec (.qopPut e) s = .next (settle s (f.settle e q (.wait 5 (f.engRead e q a n) q 2 l)))) ∧
      (o = none → (f.engRead e q a n).sqHost k ≠ 0 → exec (.qopPut e) s = .next (settle s (f.settle e q (.done
        ((((f.engRead e q a n).count (SQUEUE k + 16)).engCount e 5).stEvent PANEL_STEVT_PUT_FAIL)
        ((q.setReg (iRd w) 0).setZ false).next 2))))) ∧
    (s.Issues e 0x2001 r w → f.sqBuffer q k a = none → inHeap a = true →
      exec (.qopPut e) s = .next (settle s (f.settle e q (.wait 0 f q 1)))) ∧
    (s.Issues e 0x2100 r w → k ≤ 5183 → exec (.rlkp e) s = .next (settle s (f.settle e q (.wait 1 f q)))) ∧
    (s.Issues e 0x2200 r w → q.outside a 6 = none → inHeap a = false → f.engPoison e q a 6 = none →
      exec (.slkp e) s = .next (settle s (f.settle e q (.wait 1 (f.engRead e q a 6) q 2 (f.engBytes e q a 6))))) ∧
    (s.Issues e 0x2200 r w → q.outside a 6 = none → inHeap a = true →
      exec (.slkp e) s = .next (settle s (f.settle e q (.wait 0 f q 1)))) ∧
    (s.Issues e 0x2300 r w → k ≤ 65535 → exec (.frshRead e) s = .next (settle s (f.settle e q (.wait 2 f q)))) ∧
    (s.Issues e 0x2301 r w → k ≤ 65535 → exec (.frshRaise e) s = .next (settle s (f.settle e q (.wait 2 f q)))) ∧
    (s.Issues e 0x2302 r w → k ≤ 65535 → exec (.frshIncrement e) s = .next (settle s (f.settle e q (.wait 2 f q))))

/-- Cipher requests, emits, the end of an item, completion records and stalls. Rests on R295, R310, R324, R342, R343,
R344, R345, R347, R348. -/
def Obligations.RequestAndEndInstructionsComplete : Prop :=
  ∀ (s f : State) (e : Nat) (r q : Run) (w : Word) (a d : Nat), f = s.fetched e r → q = s.fetchedRun e r →
    a = (r.reg (iRa w)).toNat → d = (r.reg (iRb w)).toNat →
    (s.Issues e 0x2400 r w → q.accessFault a 32 4 = none → inHeap a = true →
      exec (.ciph e) s = .next (settle s (f.settle e q (.wait 0 f q 1)))) ∧
    (∀ (g t : State) (b : CiphBlk) (l : List Byte), s.Issues e 0x2400 r w → q.accessFault a 32 4 = none → inHeap a = false →
      f.engPoison e q a 32 = none → b = CiphBlk.ofOctets (f.engBytes e q a 32) → b.pair = true → b.malformed = false →
      (b.inputs ++ [(b.oaddr, b.outLen)]).findSome? (fun x => if x.2 = 0 then none else q.outside x.1 x.2) = none →
      g = f.engRead e q a 32 →
      b.inputs.findSome? (fun x => g.engPoison e q x.1 x.2) = none →
      b.inputs.any (fun x => inHeap x.1 && decide (0 < x.2)) = false →
      t = b.inputs.foldl (fun u x => u.engRead e q x.1 x.2) g →
      l = f.engBytes e q a 32 ++ b.inputs.flatMap (fun x => g.engBytes e q x.1 x.2) →
      (∀ (n : Nat) (moved : Bool), t.pickLane e r.work.item.hash = .lane n moved →
        exec (.ciph e) s = .next (settle s (f.settle e q (t.ciphSend e q b l n moved)))) ∧
      (t.pickLane e r.work.item.hash = .wait → exec (.ciph e) s = .next (settle s (f.settle e q (.wait 3 t q 3 l)))) ∧
      (t.pickLane e r.work.item.hash = .off → exec (.ciph e) s = .next (settle s (f.settle e q (t.ciphEnd e q w b 3 []))))) ∧
    (s.Issues e 0x2800 r w → q.accessFault a 32 4 = none → inHeap a = true →
      exec (.emit e) s = .next (settle s (f.settle e q (.wait 0 f q 1)))) ∧
    (∀ (h len n : Nat) (g : State), s.Issues e 0x2800 r w → q.accessFault a 32 4 = none → inHeap a = false →
      h = leNat (slice (f.engBytes e q a 32) 0 4) → len = bits h 13 0 → n = (if emitRemote h = true then 0 else len) →
      (n = 0 ∨ q.outside d n = none ∧ inHeap d = false ∧ g.engPoison e q d n = none) →
      f.engPoison e q a 32 = none → g = f.engRead e q a 32 → r.emits.length < 16 →
      r.emits.foldl (fun x m => x + m.held) n ≤ 16384 → emitLenBad h = false →
      exec (.emit e) s = .next (settle s (f.settle e q (.done (if n = 0 then g else g.engRead e q d n)
        (Run.next { q with emits := q.emits ++
          [{ hdr := (List.range 8).map (fun k => BitVec.ofNat 32 (leNat (slice (f.engBytes e q a 32) (4 * k) 4)))
             data := if emitRemote h = true then List.replicate len 0 else g.engBytes e q d n }] })
        (2 + (32 + len + 15) / 16))))) ∧
    (s.Issues e 0x2900 r w → exec (.endItem e) s = .next (settle s (f.settle e q (.finish 0)))) ∧
    (s.Issues e 0x2A00 r w → exec (.dropItem e) s = .next (settle s (f.settle e q (.finish (1 + iImm w))))) ∧
    (∀ (ok : Bool) (t : State), s.Issues e 0x2B00 r w → f.complete e q 0 0 (r.reg (iRa w)) = (ok, t) →
      exec (.notify e) s = .next (settle s (f.settle e q (.done (if ok = true then t else f.engCount e 7) (q.setZ ok).next 1)))) ∧
    (∀ (st : Stall) (body : Body), (s.eng e).run = some r → r.stall = some st → (st.kind < 3 → s.mer - st.since ≤ s.stallLimit) →
      (instrCode r.word).bind stallBody = some body →
      exec (.stallEnd e) s = .next (settle s (s.settle e r (body s e r r.word true)))) ∧
    (∀ (st : Stall) (reached : Bool), (s.eng e).run = some r → r.stall = some st → s.stallLimit < s.mer - st.since →
      s.eventCome e r st = false →
      (st.kind ≠ 2 → st.kind ≠ 4 → exec (.stallLimitExpiry e reached) s = .next (settle s (s.engExc e r 7 0))) ∧
      (st.kind = 4 → exec (.stallLimitExpiry e reached) s = .next (settle s (State.engExc
        (s.setLane r.lane { s.lane r.lane with reqs := (s.lane r.lane).reqs.map (fun x => if x.engine = e then { x with engine := 128 } else x) })
        e r 7 0))) ∧
      (st.kind = 2 → reached = false → exec (.stallLimitExpiry e reached) s = .next (settle s (s.engExc e r 7 0))) ∧
      (st.kind = 2 → reached = true → s.freshMay (r.reg (iRa r.word)).toNat r.work.item.tenant = true →
        (instrCode r.word = some 0x2301 → exec (.stallLimitExpiry e reached) s = .next (settle s
          ((s.freshRaise (r.reg (iRa r.word)).toNat (r.pair (iRd r.word))).2.engExc e r 7 0))) ∧
        (instrCode r.word = some 0x2302 → exec (.stallLimitExpiry e reached) s = .next (settle s
          ((s.freshInc (r.reg (iRa r.word)).toNat).2.engExc e r 7 0)))))

/-- The commit of a bobbin's entry, the six commands, and the mirror report. Rests on R349, R359, R367, R417. -/
def Obligations.BobbinCommandRegisterCommandsComplete : Prop :=
  (∀ (s t u : State) (i : Iface) (b : Nat) (w : Word) (nw : Nat → Word), s.hostUp = true →
    nw = (fun k => s.newWord (ifaceNum i) (BOBBIN b) 0 k w) →
    t = (s.commitEntry (ifaceNum i) ⟨0x07000000, 128, 4096, 1, 1, 12, 0, false⟩ (BOBBIN b) w).setFld (bobWord b 2) BOBBIN_STACK
      (s.bobNewStack (nw 0) (nw 1)) → u = t.setBobLoops b (t.fld (bobWord b 5) BOBBIN_LOOPS) →
    (s.bobRefuses b nw = false → exec (.bobbinCommit i b w) s = .next (settle s
      ((u.setBob b
        { u.bob b with
          woff := (u.bob b).woff % max 1 (u.bobCap b)
          panel := if getB (nw 0) BOBBIN_KIND = true then 0
            else (s.bobPanelOf (getF (nw 0) BOBBIN_DKIND) (getF (nw 1) BOBBIN_TARGET)).getD 0 }).setFld (bobWord b 16) BOBBIN_STATE 0))) ∧
    (s.bobRefuses b nw = true → exec (.bobbinCommit i b w) s = .next (settle s (s.bobEvent b BOBBIN_EVT_CFG_ERR)))) ∧
  (∀ (s u v : State) (b : Nat), s.hostUp = true → s.bobValid b = true → s.powerState ≠ 2 →
    u = (if s.bobCapture b = true ∧ (s.bob b).ring = [] then s.setBob b { s.bob b with capSeq := 0 } else s) → v = s.releaseDue b →
    (s.bobState b = 0 → s.lifecycle ≠ 4 →
      exec (.bobbinStart b) s = .next (settle s ((u.setBobState b 1).setFld CORE_BOBCMD CORE_BOBCMD_RESULT 0))) ∧
    (s.bobState b = 0 → s.lifecycle ≠ 4 → s.bobCapture b = true →
      exec (.bobbinStartAt b) s = .next (settle s ((u.setBobState b 1).setFld CORE_BOBCMD CORE_BOBCMD_RESULT 0))) ∧
    (∀ o : Option RingRec, s.bobState b = 0 → s.lifecycle ≠ 4 → s.bobCapture b = false →
      o = ((s.bob b).ring.filter (fun r => r.isSeg && decide (r.id ≤ (s.bob b).pos))).getLast? →
      exec (.bobbinStartAt b) s = .next (settle s
        (((match o with
           | some g => s.setBobShift b (s.rd64 CORE_BOBT_LO + 2 ^ 64 - segS g.hdr)
           | none => s).setBobState b 1).setFld CORE_BOBCMD CORE_BOBCMD_RESULT 0))) ∧
    (s.bobState b = 1 → v.bobState b = 1 → exec (.bobbinPause b) s = .next (settle s
      (((v.setBob b { v.bob b with vp := v.viewNow (s.bobTenant b) }).setBobState b 2).setFld CORE_BOBCMD CORE_BOBCMD_RESULT 0))) ∧
    (s.bobState b = 2 → s.bobCapture b = true →
      exec (.bobbinResume b) s = .next (settle s ((s.setBobState b 1).setFld CORE_BOBCMD CORE_BOBCMD_RESULT 0))) ∧
    (∀ d : Nat, s.bobState b = 2 → s.bobCapture b = false → d = (s.viewNow (s.bobTenant b) + 2 ^ 64 - (s.bob b).vp) % 2 ^ 64 →
      exec (.bobbinResume b) s = .next (settle s
        ((((s.setBobShift b (s.bobShift b + d)).setBob b
          { s.bob b with
            staged := (s.bob b).staged.map (fun r => { r with rtEff := (r.rtEff + d) % 2 ^ 64, since := s.mer }) }).setBobState b 1).setFld CORE_BOBCMD CORE_BOBCMD_RESULT 0))) ∧
    (s.bobState b ≠ 0 → exec (.bobbinStop b) s = .next (settle s ((v.bobStop b).setFld CORE_BOBCMD CORE_BOBCMD_RESULT 0))) ∧
    (s.bobState b = 0 ∨ s.bobState b = 3 → exec (.bobbinFlush b) s = .next (settle s
      ((((((s.setBob b
        { s.bob b with
          ring := [], pos := (s.bob b).nextId, staged := [], crossed := false, needRst := true, relSeq := 0, uwseq := 0, urst := true,
          uretry := none, lastSeg := false, curLast := false, skip := false }).setBobLastSeq b 0).setBobLoops b
          (s.fld (bobWord b 5) BOBBIN_LOOPS)).bobSettle b).bobMirror b).setFld CORE_BOBCMD CORE_BOBCMD_RESULT 0)))) ∧
  (∀ (s : State) (b : Nat), s.hostUp = true →
    (s.bobState b ≠ 0 → exec (.bobbinStart b) s = .next (settle s (s.setFld CORE_BOBCMD CORE_BOBCMD_RESULT 1)) ∧
      exec (.bobbinStartAt b) s = .next (settle s (s.setFld CORE_BOBCMD CORE_BOBCMD_RESULT 1))) ∧
    (s.bobState b ≠ 1 → exec (.bobbinPause b) s = .next (settle s (s.setFld CORE_BOBCMD CORE_BOBCMD_RESULT 1))) ∧
    (s.bobState b ≠ 2 → exec (.bobbinResume b) s = .next (settle s (s.setFld CORE_BOBCMD CORE_BOBCMD_RESULT 1))) ∧
    (s.bobState b = 0 → exec (.bobbinStop b) s = .next (settle s (s.setFld CORE_BOBCMD CORE_BOBCMD_RESULT 1))) ∧
    (s.bobState b ≠ 0 → s.bobState b ≠ 3 → exec (.bobbinFlush b) s = .next (settle s (s.setFld CORE_BOBCMD CORE_BOBCMD_RESULT 1)))) ∧
  (∀ (s : State) (b : Nat), s.bobState b = 1 → exec (.bobbinMirrorReport b) s = .next (settle s (s.bobMirror b)))

/-- Winding, staging, release and unwinding of records. Rests on R355, R356, R357, R358, R361, R362, R363, R366, R371.
-/
def Obligations.BobbinDataCommandsComplete : Prop :=
  (∀ (s t u v : State) (it : Item) (rest : List Item) (h : List Byte) (recs : List (List Byte × List Byte)) (b wseq n d : Nat),
    s.windIn = it :: rest → t = { s with windIn := rest } → windParse it = some (h, recs) → b = beAt h 2 2 % 4096 → wseq = beAt h 4 2 →
    t.bobValid b = true → t.bobCapture b = false → t.bobTenant b = it.tenant →
    d = (t.fld (bobWord b 18) BOBBIN_WNEXT + 65536 - wseq) % 65536 →
    ((oct h 1).testBit 7 = true ∧ (t.bob b).ring = [] ∨ wseq = t.fld (bobWord b 18) BOBBIN_WNEXT ∧ (t.bob b).needRst = false →
      (windFilter (t.bob b).ctx recs = none →
        exec .windFrame s = .next (settle s ((t.bobCount b 6).bobEvent b BOBBIN_EVT_WIND_ERR))) ∧
      (∀ (keep : List (List Byte × List Byte)) (bad : Nat), windFilter (t.bob b).ctx recs = some (keep, bad) →
        n = keep.foldl (fun a p => a + recUnits p.1) 0 → ringUnits (t.bob b).ring + n ≤ t.bobCap b →
        t.winderLoad (t.bobStack b) + 16 * n ≤ 4 * 1048576 → v = t.ringAppend b false keep →
        u = (((v.setBob b { v.bob b with needRst := false
                                         lastSeg := (t.bob b).lastSeg || keep.any (fun p => recType p.1 == 3 && segLast p.1) }).setFld
          (bobWord b 18) BOBBIN_WNEXT ((wseq + 1) % 65536)).bobCount b 5) →
        exec .windFrame s = .next (settle s
          (let x := if bad = 0 then u else (u.bobCount b 6 bad).bobEvent b BOBBIN_EVT_WIND_ERR
           if keep = [] then x
           else x.setFills (t.bobStack b)
             (x.fills (t.bobStack b) ++ [{ bob := b, last := (x.bob b).nextId, octets := 16 * n, src := none }]))))) ∧
    ((oct h 1).testBit 7 = false ∨ (t.bob b).ring ≠ [] → wseq ≠ t.fld (bobWord b 18) BOBBIN_WNEXT ∨ (t.bob b).needRst = true →
      exec .windFrame s = .next (settle s
        (if 1 ≤ d ∧ d ≤ 32768 then t.bobCount b 7 else (t.bobCount b 8).bobEvent b BOBBIN_EVT_WIND_GAP)))) ∧
  (∀ (s t : State) (die : Nat) (j : FillJob) (rest : List FillJob), s.fills die = j :: rest → t = s.setFills die rest →
    exec (.windWriteComplete die) s = .next (settle s
      (((((t.bob j.bob).ring.filter (fun r => !r.written && decide (r.id < j.last))).foldl
        (fun u r => (u.poolWrite j.bob r).poolCoded j.bob r) t).setBob j.bob
        { t.bob j.bob with ring := (t.bob j.bob).ring.map (fun r => if r.id < j.last then { r with written := true } else r) }).obsDie
          die 0x071 j.octets))) ∧
  (∀ (s u v x : State) (b p m c : Nat) (r : RingRec) (it : Item), s.bobValid b = true → s.bobCapture b = false → s.bobState b = 1 →
    (s.bob b).ring.find? (fun r => decide ((s.bob b).pos ≤ r.id)) = some r → r.written = true → r.isSeg = false →
    u = s.setFld (bobWord b 16) BOBBIN_STARVED 0 → p = u.bobPanel b → (u.bob b).skip = false → u.poolBad b r = false →
    ((u.bob b).crossed = true → newerSeq (u.bobLastSeq b) (recSeq r.hdr) = true) → recFits (u.bobDkind b) (recType r.hdr) = true →
    m = u.releaseTick (u.bobTenant b) ((recRt r.hdr + u.bobShift b) % 2 ^ 64) → m ≤ u.mer + stageLead u b →
    it = u.recItem b r → c = cellsOf it.stored → (if stageCells u b < c then (u.bob b).held = 0 else (u.bob b).held < stageCells u b) →
    u.fld (CORE_PNLp_STAGE p) CORE_PNLp_STAGE_STAGE_USE < u.fld (CORE_PNLp_STAGE p) CORE_PNLp_STAGE_STAGE_MAX → c ≤ u.sharedFree p →
    u.mayStage (panelDie p) = true → v = (u.poolRead b r).staged (panelDie p) (16 * r.units) →
    (m < v.mer → v.fld (bobWord b 5) BOBBIN_LATE_MAX = 65535 ∨ v.mer - m ≤ v.fld (bobWord b 5) BOBBIN_LATE_MAX * usTicks) →
    x = (v.setBob b { v.bob b with pos := r.id + 1 }).setBobLastSeq b (recSeq r.hdr) →
    exec (.stageRecord b) s = .next (settle s (State.addStaged
      ((((x.setBob b { x.bob b with crossed := false }).obsDie (panelDie p) 0x070 (16 * r.units)).addStageUse p c).setShared p
        (v.sharedFree p - c)) b
      { id := r.id, seq := recSeq r.hdr, rtEff := (recRt r.hdr + u.bobShift b) % 2 ^ 64, item := it, cells := c,
        late := decide (m < v.mer), since := v.mer }))) ∧
  (∀ (s t u : State) (b m : Nat) (r x : Staged), s.releasable b = some r →
    t = (s.bobs.filter (fun p => decide (p.1 < b))).foldl
      (fun t p => t.releaseUpTo p.1 (s.stagedTick b r) (t.bob p.1).staged.length) s →
    t.releasable b = some x → m = t.stagedTick b x →
    u = (((t.setBob b { t.bob b with staged := (t.bob b).staged.tail, relId := x.id, relSeq := x.seq }).bobCount b 0).obs
      (t.bobPanel b) 0x090 1 (some (t.bobTenant b))).histSample 4 (t.bobPanel b) b (m - t.stagedDue b x) (some (t.bobTenant b)) →
    exec (.bobbinRelease b) s = .next (settle s
      (((if x.late = true then
          ((u.bobCount b 2).bobEvent b BOBBIN_EVT_LATE).obs (t.bobPanel b) 0x091 1 (some (t.bobTenant b))
        else u).releaseTo b x m).ringGone b x.id))) ∧
  (∀ (s : State) (b n : Nat) (d : Dest) (first : RingRec) (more : List RingRec) (it : Item), s.unwindReady b = true →
    s.unwindTake b = first :: more → (s.unwindFull b (first :: more) = true ∨ first.at_ + 100 * usTicks ≤ s.mer) →
    n = s.bobTarget b → it = s.unwindItem b (first :: more) → d = .port n (s.queueOf it n) →
    (s.admits d.panel (s.sharedFree d.panel) (cellsOf it.stored) false false d = true →
      exec (.unwindFrame b) s = .next (settle s
        ((((s.setBob b ((s.bob b).unwind (first :: more))).obsDie (s.bobStack b) 0x070
          (16 * ringUnits (first :: more))).bobCount b 14).queueOne it d))) ∧
    (s.admits d.panel (s.sharedFree d.panel) (cellsOf it.stored) false false d = false →
      exec (.unwindFrame b) s = .next (settle s (s.setBob b { s.bob b with uretry := some (s.mer + usTicks) }))))

/-- A lane's result, alarm, reset end and enable, and the global tamper alarm. Rests on R375, R377, R380, R397, R398,
R399. -/
def Obligations.CipherLaneCommandsComplete : Prop :=
  (∀ (s v : State) (n : Nat) (q : CiphReq) (rest : List CiphReq), (s.lane n).reqs = q :: rest →
    s.flag (CIPH_LANEn n) CIPH_LANEn_RESET = false →
    v = (s.serve n q).2.2.histSample 5 (n / 2) n (s.mer - q.accepted) (some q.tenant) →
    exec (.cipherResult n) s = .next (settle s
      ((v.setLane n { (v.lane n).keyUsed q with reqs := rest }).reply q.engine (s.serve n q).1 (s.serve n q).2.1))) ∧
  (∀ (s t u v w : State) (n cause : Nat) (recent : List Nat) (log : List (Nat × Nat)),
    recent = ((s.lane n).alarms.filter (fun a => decide (s.mer < a + 1000 * msTicks))) ++ [s.mer] →
    log = (s.laneAlarms.filter (fun p => p.1 != n && decide (s.mer < p.2 + msTicks))) ++ [(n, s.mer)] →
    t = (s.loseRequests n).laneCount n 5 →
    u = (((((t.setLane n { t.lane n with alarms := recent, cache := [] }).setFld (CIPH_LANEn n) CIPH_LANEn_RESET 1).setFld
      (CIPH_LANEn n) CIPH_LANEn_LAST_ALM cause).setFld (CIPH_LANEn n) CIPH_LANEn_ALM_1S (min recent.length 255)).setFld
      CIPH_EVT CIPH_EVT_LANE_ALM 1).log 397 n [cause] →
    v = (if u.fld CIPH_CTRL CIPH_CTRL_ALM_LIMIT < recent.length ∧ u.fld CIPH_CTRL CIPH_CTRL_ALM_LIMIT ≠ 0 then
      ((u.setFld (CIPH_LANEn n) CIPH_LANEn_EN 0).setFld (CIPH_LANEn n) CIPH_LANEn_ALM_DIS 1).setFld CIPH_EVT CIPH_EVT_LANE_DIS 1
      else u) →
    w = { v with laneAlarms := log } →
    exec (.laneAlarm n cause) s = .next (settle s
      (if 8 ≤ log.length ∧ w.flag CIPH_STAT CIPH_STAT_TAMPER = false then w.globalTamper 3 else w))) ∧
  (∀ (s : State) (n : Nat), exec (.laneResetComplete n) s = .next (settle s (s.setFld (CIPH_LANEn n) CIPH_LANEn_RESET 0))) ∧
  (∀ (s t : State) (i : Iface) (n : Nat) (w : Word), s.hostUp = true → t = s.typedWrite i (CIPH_LANEn n) w →
    exec (.laneEnableWrite i n w) s = .next (settle s
      (if getB w CIPH_LANEn_EN = true then t.setFld (CIPH_LANEn n) CIPH_LANEn_ALM_DIS 0 else t))) ∧
  (∀ (s : State) (cause : Nat), s.powerState ≠ 3 →
    ∃ t : State, exec (.globalTamper cause) s = .next t ∧ t.keyMat = [] ∧ t.tamperAlarm = true ∧
      t.flag CIPH_STAT CIPH_STAT_TAMPER = true ∧ t.keyMram.blob0 = none ∧ t.keyMram.blob1 = none ∧
      (s.node ≠ .init → t.node = .safe)) ∧
  (∀ (s t u : State) (x : Nat) (times : List Nat),
    t = ((s.bumpSat (CIPH_PROOFu x) CIPH_PROOFu_MISMATCHES).setFld CIPH_EVT CIPH_EVT_PROOF_MISMATCH 1).log 396 x →
    times = (s.proofTimes.filter (fun a => decide (s.mer < a + msTicks))) ++ [s.mer] → u = { t with proofTimes := times } →
    times.length < 4 →
    (x ≠ 1 ∨ s.kumQueue = [] → exec (.proofMismatch x) s = .next (settle s u.showQueue)) ∧
    (∀ (m : KumMsg) (rest : List KumMsg), x = 1 → s.kumQueue = m :: rest → m.src < 3 →
      exec (.proofMismatch x) s = .next (settle s
        ((State.kumResult (State.showQueue { u with kumQueue := rest }) m.src 14 255).showQueue))))

/-- Submitting and judging key-update messages, and the restore of the key store. Rests on R385, R389, R391, R393. -/
def Obligations.KeyStoreCommandsComplete : Prop :=
  (∀ (s : State) (w : Word) (octets : List Byte),
    exec (.keyUpdateSubmit .thimble w octets) s = .next (settle s
      (if 4 ≤ s.kumQueue.length then s.kumResult 2 1 255
      else State.showQueue { s with kumQueue := s.kumQueue ++ [{ src := 2, octets := octets }] }))) ∧
  (∀ (s t : State) (i : Iface) (a k : Nat) (w : Word) (octets : List Byte),
    (i = .pcie ∧ a = KEYS_KUMCMD0 ∧ k = 0 ∨ i = .spi ∧ a = KEYS_KUMCMD1 ∧ k = 1) → s.hostUp = true → t = s.typedWrite i a w →
    s.flag a KEYS_KUMCMD0_BUSY = false → getB w KEYS_KUMCMD0_SUBMIT = true →
    exec (.keyUpdateSubmit i w octets) s = .next (settle s
      (if 4 ≤ s.kumQueue.length then t.kumResult k 1 255
      else if s.flag KEYS_CTRL KEYS_CTRL_HOST_KUM_DIS = true then t.kumResult k 12 255
      else (t.setFld a KEYS_KUMCMD0_BUSY 1).kumArrive k (s.kumBuffer k (getF w KEYS_KUMCMD0_LEN))))) ∧
  (∀ (s t u : State) (ok : Bool) (m : KumMsg) (rest : List KumMsg) (r j : Nat), s.kumQueue = m :: rest →
    s.kumJudge m.octets ok = (r, j, t) → u = (State.showQueue { t with kumQueue := rest }).kumResult m.src r j →
    exec (.keyUpdateProcess ok) s = .next (settle s
      (if m.src = 3 then
        u.oapWake 1 (if u.fld CIPH_KRES CIPH_KRES_RESULT = 0 then 0 else 0x80 + u.fld CIPH_KRES CIPH_KRES_RESULT)
      else u))) ∧
  (∀ (s t u : State), s.lifecycle ≠ 4 → s.flag CIPH_STAT CIPH_STAT_READY = false →
    (s.fld ECC_INIT ECC_INIT_DONE).testBit 6 = true →
    t = (if s.keyMram.tamper = true then { s with keyMram := { s.keyMram with blob0 := none, blob1 := none, tamper := false } } else s) →
    u = (match t.keyMram.pick with
      | some b => State.showFill (b.attrs.foldl (fun (x : State) (p : Nat × Word) => x.wr p.1 p.2) { t with keyMat := b.keys })
      | none => ((t.setFld CIPH_STAT CIPH_STAT_RESTORE_ERR 1).setFld CIPH_EVT CIPH_EVT_RESTORE_ERR 1).log 385 0) →
    exec .keyStoreRestore s = .next (settle s
      (((u.burnCheckpoint u.kumCounter 512).showCounters).setFld CIPH_STAT CIPH_STAT_READY 1)))

/-- The steps of a paired transaction, and the end of a reconciliation. Rests on R423, R424, R434, R436, R437. -/
def Obligations.TransactionCommandsComplete : Prop :=
  (∀ (s : State) (pdu : List Byte), s.paired = true → s.isTwinB = false → s.seamUp = true → s.writeCheck 3 (pduBody pdu) = 0 →
    writeRefused (s.writeRun 0 3 (pduBody pdu) none) = false →
    exec (.txnRequest pdu) s = .next (settle s
      ((s.txnSeen.setTxns (s.sm.txns ++ [{ num := s.nextTxn, body := pdu, req := none, at_ := s.mer }])).txnSend 2 0 s.nextTxn pdu))) ∧
  (∀ (s : State) (pdu : List Byte) (c : Nat), s.paired = true → s.isTwinB = false → s.seamUp = true → c = s.writeCheck 3 (pduBody pdu) →
    (c ≠ 0 ∨ writeRefused (s.writeRun 0 3 (pduBody pdu) none) = true) →
    exec (.txnRequest pdu) s = .next (settle s (s.txnSeen.txnSend 5 (if c = 0 then 5 else c) 0 []))) ∧
  (∀ (s t : State) (num c : Nat) (pdu : List Byte) (own : Option Txn), s.paired = true → s.isTwinB = true → s.seamUp = true →
    c = (if s.writeCheck 3 (pduBody pdu) ≠ 0 then s.writeCheck 3 (pduBody pdu)
      else if writeRefused (s.writeRun 0 3 (pduBody pdu) none) = true then (s.writeRun 0 3 (pduBody pdu) none).1 else 0) →
    own = s.sm.txns.find? (fun t => t.body == pdu) → t = (match own with | some x => s.setTxns (s.sm.txns.erase x) | none => s) →
    exec (.txnPrepare num pdu) s = .next (settle s
      ((t.setPrepared (t.sm.prepared ++ [{ num := num, body := pdu, req := own.bind (fun x => x.req), at_ := t.mer }])).txnSeen.txnSend
        3 c num []))) ∧
  (∀ (s : State) (num : Nat) (x : Txn), s.sm.txns.find? (fun x => x.num == num) = some x → s.paired = true → s.isTwinB = false →
    exec (.txnVote num 0) s = .next (settle s
      ((((s.setTxns (s.sm.txns.erase x)).txnSeen.txnApply x).journal num x.body false).txnSend 4 0 num []))) ∧
  (∀ (s : State) (num status : Nat) (x : Txn), s.sm.txns.find? (fun x => x.num == num) = some x → s.paired = true →
    s.isTwinB = false → status ≠ 0 →
    exec (.txnVote num status) s = .next (settle s
      ((((s.setTxns (s.sm.txns.erase x)).txnSeen.txnRefuse x).seamEvent SEAM_EVT_CFG_DIVERGE).txnSend 5 0 num []))) ∧
  (∀ (s : State) (num : Nat) (x : Txn), s.sm.prepared.find? (fun x => x.num == num) = some x → s.paired = true →
    s.isTwinB = true → s.seamUp = true →
    exec (.txnCommit num) s = .next (settle s
      (((s.setPrepared (s.sm.prepared.erase x)).txnSeen.txnApply x).journal num x.body false))) ∧
  (∀ (s : State) (num : Nat) (x : Txn), s.sm.prepared.find? (fun x => x.num == num) = some x → s.paired = true →
    s.isTwinB = true →
    exec (.txnAbort num) s = .next (settle s ((s.setPrepared (s.sm.prepared.erase x)).txnSeen.txnRefuse x))) ∧
  (∀ (s : State) (x : Txn) (l : List Txn), s.sm.prepared.find? (fun x => x.num == 0) = none → s.sm.txns = x :: l → s.paired = true →
    s.isTwinB = true → exec (.txnAbort 0) s = .next (settle s ((s.setTxns l).txnSeen.txnRefuse x))) ∧
  (∀ (s : State) (x : Txn) (l : List Txn), s.sm.txns = x :: l → s.isTwinB = false → x.at_ + 200 * usTicks ≤ s.mer →
    exec .txnTimeout s = .next (settle s (((s.setTxns l).txnRefuse x).txnSend 5 0 x.num []))) ∧
  (∀ (s : State) (writes : List (List Byte)) (diverged both : Bool), s.seamState = 5 →
    ∃ t : State, exec (.reconcileComplete writes diverged both) s = .next t ∧ t.sm.journal = [] ∧ t.sm.alone = [] ∧
      t.sm.took = false ∧ t.sm.lostAt = none ∧ t.flag SEAM_EVT SEAM_EVT_RECONCILED = true)

/-- The Seam from DOWN to PAIRED, its blocks and heartbeats, and its loss. Rests on R404, R405, R406, R407, R408, R412,
R413, R414, R415. -/
def Obligations.SeamBringUpCommandsComplete : Prop :=
  (∀ (s t : State) (i : Iface) (w : Word), s.hostUp = true → t = s.typedWrite i SEAM_CTRL w →
    (t.paired = true → exec (.seamEnable i w) s = .next (settle s (if s.seamState = 0 then t.seamTrain else t).showAuth)) ∧
    (t.paired = false → t.flag SEAM_STAT SEAM_STAT_SPLIT = false → t.flag SEAM_STAT SEAM_STAT_TWIN_DOWN = false → s.seamState = 0 →
      exec (.seamEnable i w) s = .next (settle s
        ((t.setFld SEAM_STAT SEAM_STAT_SPLIT 0).setFld SEAM_STAT SEAM_STAT_TWIN_DOWN 0).showAuth))) ∧
  (∀ (s : State) (i : Iface), s.hostUp = true → s.paired = true → s.seamState ≠ 0 → exec (.seamRestart i) s = .next (settle s s.seamTrain)) ∧
  (∀ s : State, s.seamState = 1 → exec .seamTrained s = .next (settle s (s.seamEnter 2))) ∧
  (∀ (s t : State) (k : Nat) (o : List Byte) (bip : Bool), 2 ≤ s.seamState → s.seamLane k = 0 → markPattern o = markWant →
    markSelf o = true → oct o 3 / 128 = laneGroup k → t = s.setFld (SEAM_LANEk k) SEAM_LANEk_LSTATE 1 →
    exec (.alignmentMarker k o bip) s = .next (settle s (State.setFld
      { t with sm := { t.sm with
          run := Sparse.set (fun _ => 0) t.sm.run k 1, missed := Sparse.set (fun _ => 0) t.sm.missed k 0 } }
      (SEAM_LANEk k) SEAM_LANEk_L (oct o 3 / 16 % 8)))) ∧
  (∀ (s t u : State) (k n : Nat) (o : List Byte) (bip : Bool), 2 ≤ s.seamState → s.seamLane k = 1 → markPattern o = markWant →
    markSelf o = true → oct o 3 / 128 = laneGroup k → oct o 3 / 16 % 8 = s.fld (SEAM_LANEk k) SEAM_LANEk_L →
    t = (if bip = true then s else s.bumpSat (SEAM_LANEk k) SEAM_LANEk_BIP_ERR) → n = Sparse.get (fun _ => 0) t.sm.run k + 1 →
    u = { t with sm := { t.sm with
      run := Sparse.set (fun _ => 0) t.sm.run k n, missed := Sparse.set (fun _ => 0) t.sm.missed k 0 } } →
    exec (.alignmentMarker k o bip) s = .next (settle s
      (if n < 4 then u else (u.setFld (SEAM_LANEk k) SEAM_LANEk_LSTATE 2).showLocks (laneGroup k)))) ∧
  (∀ (s t : State) (k : Nat) (o : List Byte) (bip : Bool), 2 ≤ s.seamState → s.seamLane k = 2 →
    ones 48 (markPattern o ^^^ markWant) ≤ 6 → oct o 3 / 16 = 8 * laneGroup k + s.fld (SEAM_LANEk k) SEAM_LANEk_L →
    t = (if bip = true then s else s.bumpSat (SEAM_LANEk k) SEAM_LANEk_BIP_ERR) →
    exec (.alignmentMarker k o bip) s = .next (settle s { t with sm := { t.sm with
      run := Sparse.set (fun _ => 0) t.sm.run k 4, missed := Sparse.set (fun _ => 0) t.sm.missed k 0 } })) ∧
  (∀ (s : State) (g skew : Nat), (List.range 8).all (fun i => s.seamLane (8 * g + i) == 2) = true →
    ((List.range 8).map (fun i => s.fld (SEAM_LANEk (8 * g + i)) SEAM_LANEk_L)).eraseDups.length = 8 →
    (skew ≤ 512 → exec (.groupAligned g skew) s = .next (settle s
      (State.seamSecure { s with sm := { s.sm with aligned := s.sm.aligned.filter (fun x => x != g) ++ [g] } }))) ∧
    (512 < skew → exec (.groupAligned g skew) s = .next (settle s (s.seamEvent SEAM_EVT_SKEW)))) ∧
  (∀ s : State, s.seamState = 2 → s.sm.since + 10 * msTicks ≤ s.mer → exec .alignTimeout s = .next (settle s s.seamTrain)) ∧
  (∀ (s t u : State) (g cls cnt k : Nat) (o pay whole : List Byte), s.sm.aligned.contains g = true →
    pay = (descramble (Sparse.get (fun _ => 0) s.sm.scr g) (slice o 1 31)).1 → cls = oct o 0 / 32 % 2 → cnt = oct o 0 % 32 →
    k = 2 * g + cls →
    t = { s with sm := { s.sm with
      scr := Sparse.set (fun _ => 0) s.sm.scr g (descramble (Sparse.get (fun _ => 0) s.sm.scr g) (slice o 1 31)).2 } } →
    whole = (t.openPkt k).getD [] ++ pay.take (cnt + 1) → u = (t.setOpenPkt k none).seamCount (if cls = 0 then 7 else 1) →
    exec (.seamBlock g o true) s = .next (settle s (((t.setOpenPkt (2 * g) none).setOpenPkt (2 * g + 1) none).seamCount 9)) ∧
    (oct o 0 / 64 = 0 → cls = 0 → cnt = 0 → exec (.seamBlock g o false) s = .next (settle s t)) ∧
    (oct o 0 / 64 = 1 → cnt = 0 → t.openPkt k = none → exec (.seamBlock g o false) s = .next (settle s (t.setOpenPkt k (some pay)))) ∧
    (oct o 0 / 64 = 2 → cnt = 0 → t.openPkt k ≠ none →
      exec (.seamBlock g o false) s = .next (settle s (t.setOpenPkt k (some ((t.openPkt k).getD [] ++ pay))))) ∧
    (oct o 0 / 64 = 3 → cnt ≠ 31 → t.openPkt k ≠ none →
      (cls = 0 → oct whole 0 = 1 → exec (.seamBlock g o false) s = .next (settle s
        (if u.seamUp = true then { u with sm := { u.sm with rxData := u.sm.rxData ++ [(g, whole)] } } else u.seamDiscard whole))) ∧
      (cls = 1 → exec (.seamBlock g o false) s = .next (settle s
        (if oct whole 0 = 0x15 then u else { u with sm := { u.sm with nonceRx := u.sm.nonceRx + 1 } }))))) ∧
  (∀ (s t : State) (uid ident : List Byte) (node : Nat) (sig ok : Bool), s.seamState = 3 →
    t = (List.range 4).foldl (fun t k => t.wr (SEAM_PEER_UIDk k) (BitVec.ofNat 32 (beAt uid (4 * k) 4))) s →
    ok = (sig && node == s.nodeNumber ^^^ 1 && (s.od 0x006002 == 0 || s.od 0x006002 == beNat uid) &&
      (s.od 0x006003 == 0 || s.od 0x006003 == beNat ident)) →
    exec (.seamHello uid node ident sig) s = .next (settle s
      (if ok = true then State.seamEnter
        { t with mirrorOut := [], mirrorWait := [], mseqTx := 0, mseqRx := 0
                 sm := { t.sm with keyed := true, statusRx := none, statusTx := 0, ackAt := t.mer, nonceTx := 0, nonceRx := 0 } } 4
      else ((t.seamEvent SEAM_EVT_PEER_REJECT).log 413 0).seamStop))) ∧
  (∀ (s : State) (probes : List (Int × Int × Int × Int)), s.seamState = 4 → probes.length = 16 →
    exec (.measureComplete probes) s = .next (settle s
      (((State.seamCount { s with sm := { s.sm with nonceTx := s.sm.nonceTx + 16 } } 0 16).wr64 SEAM_DIFF_LO
        (trunc 64 (probeDiff probes))).seamEnter 5))) ∧
  (∀ (s t : State) (o : List Byte), s.seamState = 6 → (∀ a : Nat, s.sm.hbSent = some a → a + usTicks ≤ s.mer) →
    o = s.mirrorPacket 0x10 s.sm.hbCnt s.heartbeatBody →
    t = { s with sm := { s.sm with hbSent := some s.mer, hbCnt := (s.sm.hbCnt + 1) % 2 ^ 32 } } →
    exec .heartbeatSend s = .next (settle s ((t.mirrorEmit o).mirrorEmit o))) ∧
  (∀ (s t u : State) (g : Nat) (o body : List Byte), s.seamState = 6 → body = o.drop 16 → t = s.mirrorAck (beAt o 8 4) →
    u = State.twinLeave { t with
      twinPortUp := (List.range 1024).filter (fun n => (oct body (16 + n / 8)).testBit (n % 8))
      sm := { t.sm with
        hbAt := Sparse.set (fun _ => 0) t.sm.hbAt g t.mer, twinNode := oct body 8,
        twinAuth := (oct body 9).testBit 0, twinTxn := beAt body 12 4 } } →
    exec (.heartbeatReceive g o true) s = .next (settle s (u.lagGroups.foldl (fun x a => x.lagRefresh a) u)) ∧
    exec (.heartbeatReceive g o false) s = .next (settle s (s.seamCount 9))) ∧
  (∀ s : State, s.seamUp = true → (s.hbLast 0 + 7 * usTicks ≤ s.mer ∨ s.hbLast 1 + 7 * usTicks ≤ s.mer) →
    exec .seamLoss s = .next (settle s (s.seamLost 2).seamSecure))

/-- Mirror packets, data packets, twin status and takeover. Rests on R409, R411, R417, R421, R426, R432, R435, R470. -/
def Obligations.SeamPairCommandsComplete : Prop :=
  (∀ (s u : State) (o : List Byte) (next : Bool), 5 ≤ s.seamState → oct o 0 = 0x11 ∨ oct o 0 = 0x12 →
    (s.mirrorAck (beAt o 8 4)).mirrorNext (beAt o 4 4) = (next, u) →
    exec (.mirrorPacket o true) s = .next (settle s
      (if next = true ∧ oct o 0 = 0x11 then (recordsOf 2048 (o.drop 16)).foldl (fun x y => x.mirrorRecord y) u else u)) ∧
    exec (.mirrorPacket o false) s = .next (settle s (s.seamCount 9))) ∧
  (∀ (s t : State), 5 ≤ s.seamState → s.mirrorOut ≠ [] → s.sm.ackAt + 20 * usTicks ≤ s.mer →
    t = { s with sm := { s.sm with ackAt := s.mer } } →
    exec .mirrorRetransmit s = .next (settle s
      ((s.mirrorOut.foldl (fun u p => u.mirrorEmit (u.mirrorOctets p)) t).seamCount 2 s.mirrorOut.length))) ∧
  (∀ (s t : State) (x due : Nat) (v : List Nat), s.sm.epochs.find? (fun p => p.1.head? == some x) = some (v, due) → due ≤ s.mer →
    t = { s with sm := { s.sm with epochs := s.sm.epochs.filter (fun p => p.1.head? != some x) } } →
    exec (.epochDiffCheck x) s = .next (settle s
      (if epochDiffers v (s.epochRec x) = true then (t.seamEvent SEAM_EVT_EPOCH_DIFF).log 421 x else t))) ∧
  (∀ (s t u v : State) (g : Nat) (o : List Byte) (rest : List (Nat × List Byte)) (n f : Nat) (it : Item) (pass : Bool),
    s.sm.rxData = (g, o) :: rest → t = { s with sm := { s.sm with rxData := rest } } →
    (f, u) = (if (oct o 1).testBit 3 = true then t.takeFree else (0, t)) → it = u.seamItem g o (f % 4) → n = beAt o 6 2 % 1024 →
    (u.portTenant n ≠ some it.tenant → exec .seamDataPacket s = .next (settle s (u.dropFor it.tenant rTenant))) ∧
    (u.portTenant n = some it.tenant → u.portEn n = true → u.vlanMember it.vid n = true →
      (pass, v) = (match it.handle with
        | some (h, q) => if u.flag (HANDLE h) HANDLE_REC = true then u.recover h q else (true, u)
        | none => (true, u)) →
      exec .seamDataPacket s = .next (settle s
        (if pass = true then
          v.deliver { it with handle := it.handle.map (fun p => (p.1, p.2 + 2 ^ 16 * v.fld (HANDLE p.1) HANDLE_ENC +
            2 ^ 17 * v.fld (HANDLE p.1) HANDLE_DEC)) } [.port n (oct o 8 / 16)]
        else v)))) ∧
  (∀ s : State, s.paired = true → s.sm.keyed = true → (∀ a : Nat, s.sm.statusAt = some a → a + msTicks ≤ s.mer) →
    exec .twinStatusSend s = .next (settle s (State.emitOut
      { s with sm := { s.sm with statusAt := some s.mer, statusTx := (s.sm.statusTx + 1) % 2 ^ 32 } } (.twinStatus s.statusBody)))) ∧
  (∀ (s t : State) (node : Nat) (body : List Byte), s.paired = true → node = s.nodeNumber ^^^ 1 →
    (∀ p : Nat, s.sm.statusRx = some p → p < beAt body 4 4) →
    t = State.setFld { s with
      sm := { s.sm with
        heardAt := some s.mer, statusRx := some (beAt body 4 4), twinNode := oct body 2,
        twinAuth := (oct body 3).testBit 3, twinTxn := beAt body 16 4 } } SEAM_STAT SEAM_STAT_TWIN_MB 1 →
    exec (.twinStatus node body true) s = .next (settle s
      (if t.classifies = true ∧ t.flag SEAM_STAT SEAM_STAT_SPLIT = false then t.setSplit else t))) ∧
  (∀ (s t : State) (a : Nat), (s.sm.heardAt = some a ∨ s.sm.heardAt = none ∧ a = s.sm.lostAt.getD 0) → a + 5 * msTicks ≤ s.mer →
    t = s.setFld SEAM_STAT SEAM_STAT_TWIN_MB 0 →
    exec .twinSilence s = .next (settle s
      (if t.classifies = true ∧ t.flag SEAM_STAT SEAM_STAT_TWIN_DOWN = false then t.setTwinDown else t))) ∧
  (∀ s t : State, s.paired = true → s.flag SEAM_STAT SEAM_STAT_TWIN_DOWN = true → s.isTwinB = true → s.sm.took = false →
    t = ((State.showAuth { s with sm := { s.sm with took := true } }).seamEvent SEAM_EVT_TAKEOVER).log 435 0 →
    (s.hostUp = true → exec (.takeover true) s = .next (settle s t)) ∧
    (s.acceptsWrites = true → exec (.takeover false) s = .next (settle s (t.emitOut (.status 0x006005 0)))) ∧
    (s.od 0x006004 = 1 → s.sm.downAt + 5 * msTicks ≤ s.mer → exec .autoTakeover s = .next (settle s t)))

/-- Requests arrive, are relayed, and leave the tables they wait in. Rests on R444, R448, R456, R457, R458, R463, R465,
R469. -/
def Obligations.OapArrivalCommandsComplete : Prop :=
  (∀ (s : State) (k at_ : Nat) (p : List Byte), s.oap.mbReq = [(k, p, at_)] → pduFormed false 0 p = true →
    pduOp p = 0x10 → pduSession p = 0 → s.session? 0 = none → s.mayAsk p = true → pduBcast p = false →
    pduNode p = s.nodeNumber → s.oap.queue.length < 256 →
    exec (.oapRequestReceive (.mailbox k)) s = .next (settle s
      { s with oap := { s.oap with mbReq := [], queue := s.oap.queue ++ [{ src := .mailbox k, pdu := p, at_ := at_ }] } })) ∧
  (∀ (s t : State) (k : Nat) (m : Nat × List Byte × Nat), s.oap.mbReq.find? (fun m => m.1 == k) = some m →
    pduFormed false 0 m.2.1 = true → pduOp m.2.1 ≠ 0x30 → pduBcast m.2.1 = false → pduNode m.2.1 = s.nodeNumber →
    (s.recovering = true → pduOp m.2.1 = 0x10 ∧ pduSession m.2.1 = 0) → t = { s with oap := { s.oap with mbReq := s.oap.mbReq.erase m } } →
    exec (.oapRequestReceive (.mailbox k)) s = .next (settle s (t.oapTake { src := .mailbox k, pdu := m.2.1, at_ := m.2.2 }))) ∧
  (∀ (s : State) (n : Nat) (addr tag o p : List Byte), s.serves = true → s.flag (PORT_STATn n) PORT_STATn_LINK = true →
    (s.od 0x000302).testBit n = true → (oct o 0).testBit 3 = false → pduFormed false 46 o = true → p = o.take (pduTotal o) →
    pduOp p ≠ 0x30 → pduBcast p = false → pduNode p = s.nodeNumber →
    exec (.oapRequestReceive (.port n addr tag o)) s = .next (settle s
      ((s.ctlTake n).oapTake { src := .port n addr tag, pdu := p, at_ := s.mer }))) ∧
  (∀ (s : State) (b : Nat) (f : CanFrame), s.serves = true → f.fmt = 2 → f.sdt = 0x3E → f.sec = false → f.vcid = 0 →
    f.af = 65536 * 0x4F41 + 32 * s.fld (MBb_CFG b) MBb_CFG_ADDR + f.af % 32 → pduNode f.data = s.nodeNumber →
    pduFormed false 0 f.data = true → pduOp f.data ≠ 0x30 → pduBcast f.data = false →
    exec (.oapRequestReceive (.mb b f)) s = .next (settle s (s.oapTake { src := .mb b (f.af % 32), pdu := f.data, at_ := s.mer }))) ∧
  (∀ (s : State) (n q : Nat) (addr tag o p : List Byte), s.serves = true → s.th.restricted = false →
    s.flag (PORT_STATn n) PORT_STATn_LINK = true → (s.od 0x000302).testBit n = true → (oct o 0).testBit 3 = false →
    pduFormed false 46 o = true → p = o.take (pduTotal o) → pduBcast p = false → pduNode p ≠ s.nodeNumber → pduOp p ≠ 0x30 →
    s.routeTo (pduNode p) = some q →
    exec (.oapRelay n addr tag o) s = .next (settle s ((s.ctlTake n).relayRequest n addr tag p [q]))) ∧
  (∀ (s : State) (n : Nat) (addr tag o p : List Byte), s.serves = true → s.th.restricted = false →
    s.flag (PORT_STATn n) PORT_STATn_LINK = true → (s.od 0x000302).testBit n = true → (oct o 0).testBit 3 = true →
    pduFormed true 46 o = true → p = o.take (pduTotal o) → (oct p 12).testBit 7 = true →
    (∀ e : RelayEnt, pduEntry p = s.nodeNumber →
      s.oap.relays.find? (fun e => e.session == pduSession p && e.seq == pduSeq p) = some e →
      exec (.oapRelay n addr tag o) s = .next (settle s (((s.ctlTake n).oapCount 9).oapSend (.port e.port e.addr e.tag) 2 p))) ∧
    (∀ q : Nat, pduEntry p ≠ s.nodeNumber → s.routeTo (pduEntry p) = some q →
      exec (.oapRelay n addr tag o) s = .next (settle s ((s.ctlTake n).relaySend q p)))) ∧
  (∀ s : State, ∃ t : State, exec .relayEntryExpiry s = .next t ∧
    (∀ e : RelayEnt, e ∈ t.oap.relays ↔ e ∈ s.oap.relays ∧ s.mer < e.at_ + secTicks) ∧ t.oap.queue = s.oap.queue ∧
    (∀ a, t.rd a = s.rd a)) ∧
  (∀ (s : State) (x : Session) (late keep : List OapReq), s.oap.sessions = [x] →
    (late, keep) = x.held.partition (fun r => decide (r.at_ + 100 * msTicks ≤ s.mer)) →
    exec .heldRequestTimeout s = .next (settle s
      (late.foldl (fun u r => (u.oapCount 4).oapDiscard r.src) (s.setSession { x with held := keep }))))

/-- OPEN, PROVE, CLOSE and the session timers. Rests on R453, R454, R459, R460, R461. -/
def Obligations.OapSessionCommandsComplete : Prop :=
  (∀ (s : State) (r : OapReq), s.oapNext 1 = some r → pduSession r.pdu = 0 → s.session? 0 = none →
    exec .openSession s = .next (settle s
      (if (s.unqueue r).openStatus (pduBody r.pdu) = 0 then
        (s.unqueue r).openAllocate r (pduBody r.pdu)
      else
        (if (s.unqueue r).openStatus (pduBody r.pdu) = 9 then
          (s.unqueue r).oapCount 5
        else s.unqueue r).oapOut r 2
          ((s.unqueue r).replyPdu r.pdu none ((s.unqueue r).openStatus (pduBody r.pdu)) [])))) ∧
  (∀ (s : State) (r : OapReq) (x : Session), s.oapNext 2 = some r → s.session? (pduSession r.pdu) = some x →
    (pduBody r.pdu).length = 96 →
    exec .proveSession s = .next (settle s
      (if (s.unqueue r).proves x (pduBody r.pdu) = true then
        ((s.unqueue r).setSession { x with proved := true }).oapReply r 2 0 []
      else
        (((s.unqueue r).oapCount 6).oapReply r 2 12 []).closeSession x.num))) ∧
  (∀ s : State, ∃ t : State, exec .proveTimeout s = .next t ∧
    ∀ x : Session, x ∈ t.oap.sessions ↔ x ∈ s.oap.sessions ∧ ((x.proved = true ∨
      s.oap.queue.any (fun r => pduOp r.pdu == 2 && pduSession r.pdu == x.num) = true) ∨ s.mer < x.opened + secTicks)) ∧
  (∀ (s : State) (r : OapReq) (x : Session), s.oapNext 3 = some r → s.session? (pduSession r.pdu) = some x →
    pduBody r.pdu = [] →
    exec .closeSession s = .next (settle s
      (((s.unqueue r).oapReply r 2 0 []).closeSession (pduSession r.pdu)))) ∧
  (∀ s : State, ∃ t : State, exec .sessionIdleTimeout s = .next t ∧
    ∀ x : Session, x ∈ t.oap.sessions ↔ x ∈ s.oap.sessions ∧ s.mer < x.used + s.od 0x000304 * secTicks) ∧
  (∀ (s : State) (x : Session) (o tk : Nat) (l : List Byte), s.oap.sessions = [x] → x.snap = some (o, l, tk) →
    tk + secTicks ≤ s.mer →
    exec .snapshotTimeout s = .next (settle s { s with oap := { s.oap with sessions := [{ x with snap := none }] } })) ∧
  (∀ (s : State) (x : Session) (o tk : Nat) (l : List Byte), s.oap.sessions = [x] → x.asm_ = some (o, l, tk) →
    tk + secTicks ≤ s.mer →
    exec .assemblyTimeout s = .next (settle s
      { s with oap := { s.oap with sessions := [{ x with asm_ := none, aborted := true }] } }))

/-- READ, WRITE and the answers that follow a result. Rests on R86, R250, R444, R451, R452, R469, R523. -/
def Obligations.OapAccessCommandsComplete : Prop :=
  (∀ (s : State) (r : OapReq), s.oapNext 0x10 = some r → (pduSession r.pdu ≠ 0 → (s.session? (pduSession r.pdu)).isSome = true) →
    exec .oapRead s = .next (settle s ((s.unqueue r).readServe r (s.session? (pduSession r.pdu))))) ∧
  (∀ (s : State) (r : OapReq), s.oap.bcasts.find? (fun r => decide (r.at_ + s.nodeNumber * 4000 ≤ s.mer)) = some r →
    exec .broadcastExecute s = .next (settle s
      (State.readServe { s with oap := { s.oap with bcasts := s.oap.bcasts.erase r } } r none))) ∧
  (∀ (s : State) (r : OapReq) (x : Session) (e : Od) (twin : Option Nat), s.oapNext 0x11 = some r →
    s.session? (pduSession r.pdu) = some x → odEntry (wrIndex (pduBody r.pdu)) (wrSub (pduBody r.pdu)) = some e → e.ty ≠ .msg →
    (s.unqueue r).writeCheck x.role (pduBody r.pdu) = 0 →
    exec (.oapWrite twin) s = .next (settle s
      (((s.unqueue r).wakeValid).writeGo r e (pduBody r.pdu) x.num x.role
        twin))) ∧
  (∀ s : State, s.fenceWaits = false →
    exec .fenceDone s = .next (settle s ((s.setFld CORE_TBLFENCE CORE_TBLFENCE_DONE 1).oapWakeAll 2 0))) ∧
  (∀ (s : State) (j : SaveJob), s.oap.waits = [] → s.th.saving = some j → s.th.saveNext = false →
    ∃ t : State, exec .saveComplete s = .next t ∧ Sparse.get (fun _ => none) t.th.setAreas j.area = some j.snap ∧
      t.th.saving = none ∧ t.flag THIM_EVT THIM_EVT_SAVED = true) ∧
  (∀ s : State, s.oap.waits = [] → s.saveDue = true →
    ∃ t : State, exec .saveDelayExpiry s = .next t ∧ t.th.saving.isSome = true ∧ t.th.saveDirty = none ∧
      t.th.saveLast = some s.mer ∧ (∀ a, t.rd a = s.rd a)) ∧
  (∀ (s : State) (result : Nat), s.datumHeld = true → s.flag TIME_DCMD TIME_DCMD_BUSY = true →
    exec (.datumChangeComplete false result) s = .next (settle s (s.setFld TIME_DCMD TIME_DCMD_BUSY 0))) ∧
  (∀ (s : State) (result : Nat), s.datumHeld = true →
    exec (.datumChangeComplete true result) s = .next (settle s (s.oapWake 3 (if s.viaTwin = true then datumStatus result else 0))))

/-- Locks, rearm, aliases, mailboxes, the end of an SPI transaction, PCIe resets and a scrub. Rests on R474, R480, R482,
R484, R485, R494, R496, R498, R576. -/
def Obligations.HostInterfaceCommandsComplete : Prop :=
  (∀ (s : State) (i : Iface) (w : Word), s.hostUp = true → getB w SYS_CTRL_LOCKALL = true →
    exec (.lockall i w) s = .next (settle s (s.typedWrite i SYS_CTRL w).lockAll)) ∧
  (∀ (s : State) (i : Iface) (w : Word), s.hostUp = true →
    exec (.irqRearm i w) s = .next (settle s (s.sendSources (getF w SYS_IRQ_REARM_REARM &&& s.irqNow)))) ∧
  (∀ (s : State) (i : Iface) (b a : Nat) (w : Word) (d : RegDesc), s.hostUp = true → b < 32 → a < 2 ^ 23 → a % 4 = 0 →
    regDesc? a = some d → aliasable d b = true →
    exec (.aliasWrite i b a w) s = .next (settle s (s.regWrite i a (aliasValue d (s.rd a) b (w.getLsbD 0))))) ∧
  (∀ (s t u : State) (i : Iface) (k n : Nat) (w : Word), s.hostUp = true → mailboxOf i = some k →
    getB w THIM_MBCTLk_SUBMIT = true → s.flag (THIM_MBCTLk k) THIM_MBCTLk_BUSY = false →
    s.flag (THIM_MBCTLk k) THIM_MBCTLk_RESP = false → n = getF w THIM_MBCTLk_LEN → 16 ≤ n → n ≤ 1056 →
    getB w THIM_MBCTLk_RELEASE = false → t = s.typedWrite i (THIM_MBCTLk k) w →
    u = (t.setFld (THIM_MBCTLk k) THIM_MBCTLk_BUSY 1).setFld (THIM_MBCTLk k) THIM_MBCTLk_NORESP 0 →
    exec (.mailboxSubmit i w) s = .next (settle s
      { u with oap := { u.oap with mbReq := u.oap.mbReq ++ [(k, u.mbOctets k n, s.mer)] } })) ∧
  (∀ (s : State) (i : Iface) (k : Nat) (w : Word), s.hostUp = true → mailboxOf i = some k →
    getB w THIM_MBCTLk_SUBMIT = false → getB w THIM_MBCTLk_RELEASE = true →
    exec (.mailboxRelease i w) s = .next (settle s
      (((s.typedWrite i (THIM_MBCTLk k) w).setFld (THIM_MBCTLk k) THIM_MBCTLk_RESP 0).setFld (THIM_MBCTLk k) THIM_MBCTLk_NORESP 0))) ∧
  (∀ (s t : State) (k : Nat) (r : Nat × List Byte), s.oap.mbResp.find? (fun r => r.1 == k) = some r →
    s.flag (THIM_MBCTLk k) THIM_MBCTLk_BUSY = true →
    t = (List.range ((r.2.length + 3) / 4)).foldl (fun t j => t.wr (THIM_MBRESP k j) (BitVec.ofNat 32 (leNat (slice r.2 (4 * j) 4))))
      { s with oap := { s.oap with mbResp := s.oap.mbResp.erase r } } →
    exec (.mailboxResponse k) s = .next (settle s
      ((((t.setFld (THIM_MBCTLk k) THIM_MBCTLk_BUSY 0).setFld (THIM_MBCTLk k) THIM_MBCTLk_RESP 1).setFld (THIM_MBRLENk k)
        THIM_MBRLENk_RLEN r.2.length).setFld THIM_MBEVT (if k = 0 then THIM_MBEVT_RESP0 else THIM_MBEVT_RESP1) 1))) ∧
  (∀ (s : State) (cmd : Nat), s.hostUp = true → exec (.spiTransactionEnd 0 cmd true) s = .next (settle s s)) ∧
  (∀ (s : State) (n cmd : Nat), s.hostUp = true → n < 8 → n ≠ 0 →
    exec (.spiTransactionEnd n cmd false) s = .next (settle s
      ((s.hostErr SYS_HOSTERR_SPI_FRAME .spi (bits cmd 31 0)).bumpSat SYS_SPICNT SYS_SPICNT_FRAME))) ∧
  (∀ s : State, s.hostUp = true → exec .functionLevelReset s = .next (settle s s.flr)) ∧
  (∀ s : State, exec (.pciePerst false) s = .next (settle s { s with hs := { s.hs with perst := false } }) ∧
    exec (.pciePerst true) s = .next (settle s (State.flr { s with hs := { s.hs with perst := true } }))) ∧
  (∀ (s t u : State) (c a : Nat) (upset : List Nat), s.flag ECC_CTRL ECC_CTRL_SCRUB_EN = true → c < 7 →
    s.fld (ECC_CLSk c + 28) ECC_CLSk_PERIOD ≠ 0 → Sparse.get (fun _ => 0) s.scrubAt c ≤ a →
    t = State.flushKey { s with scrubAt := Sparse.set (fun _ => 0) s.scrubAt c a } (codeKey c a) →
    u = (t.setFlaws c a ((upset.filter (fun p => decide (p < codeBits c))).foldl flip (t.flawsAt c a))).codeRead c a →
    exec (.scrubAccess c a upset) s = .next (settle s
      (if u.poisoned c a = true ∧ s.poisoned c a = false then
        u.wordLost c a else u)))

/-- Words written and read, bridge operations, their answers, and the protected memories. Rests on R477, R499, R500,
R501, R502, R503, R504, R505, R569, R575, R577, R578. -/
def Obligations.BridgeAndMemoryCommandsComplete : Prop :=
  (∀ (s : State) (i : Iface) (a : Nat) (w : Word), s.hostUp = true → s.hs.spiQ = [] → s.pcieDown = false → a < 0x10000000 → a % 4 = 0 →
    exec (.registerWrite i a 15 0 w) s = .next (settle s (s.regWrite i a w))) ∧
  (∀ (s : State) (i : Iface) (a : Nat), s.hostUp = true → s.hs.spiQ = [] → s.pcieDown = false → a < 0x10000000 → a % 4 = 0 →
    exec (.spiReadWord i a false) s = .next (settle s ((s.regRead i a).2.emitOut (.readData i a (s.regRead i a).1)))) ∧
  (∀ (s : State) (a k : Nat) (ws : List Word), s.hostUp = true → s.pcieDown = false → ws ≠ [] → ws.length ≤ 64 → a % 4 = 0 →
    0x10000000 ≤ a → a + 4 * ws.length ≤ 0x20000000 → brWin a = brWin (a + 4 * ws.length - 4) → s.brCount 0 < 64 →
    exec (.bridgeOperation .pcie true a ws k) s = .next (settle s
      (((s.pfDropWin (brWin a)).setOps ((s.pfDropWin (brWin a)).hs.ops ++
        [{ iface := 0, write := true, addr := a, data := ws, count := ws.length, fetch := ws.length, seq := 0, tries := 0,
           sentAt := 0 }])).brStart 0 64))) ∧
  (∀ (s : State) (a n : Nat), s.hostUp = true → s.hs.spiQ = [] → 0 < n → n ≤ 64 → a % 4 = 0 → 0x10000000 ≤ a → a + 4 * n ≤ 0x20000000 →
    brWin a = brWin (a + 4 * n - 4) → s.brCount 1 < 64 →
    exec (.bridgeOperation .spi false a [] n) s = .next (settle s
      ((s.setOps (s.hs.ops ++
        [{ iface := 1, write := false, addr := a, data := [], count := n, fetch := n, seq := 0, tries := 0, sentAt := 0 }])).brStart 1 64))) ∧
  (∀ (s : State) (i : Nat) (o : BrOp), s.brHead i = some o → 0 < o.tries → o.sentAt + s.brTmo * usTicks ≤ s.mer →
    o.tries ≤ s.fld BRDG_CTRL BRDG_CTRL_RETRY → s.brReachable (brWin o.addr) = true →
    exec (.bridgeTimeout i) s = .next (settle s (s.brSend o))) ∧
  (∀ (s : State) (p : List Byte) (o : BrOp), s.seamUp = true → oct p 0 = 0xB1 → s.brMatch true p = some o → o.write = true →
    16 ≤ p.length → oct p 1 = 0x82 → beAt p 4 4 = s.brRemote o.addr → beAt p 8 2 = o.data.length → oct p 10 = 0 →
    exec (.bridgeResponse (some p)) s = .next (settle s ((s.brEnd o 0 o.data).brStart o.iface 64))) ∧
  (∀ (s : State) (i : Nat) (b : Nat × PfBuf), s.hs.pf.find? (fun p => p.1 == i) = some b → b.2.at_ + 100 * usTicks ≤ s.mer →
    exec (.prefetchExpiry i) s = .next (settle s (s.pfDrop i))) ∧
  (∀ (s t : State) (p : List Byte) (l : List Word), s.seamUp = true → brFormed p = true → oct p 1 = 1 →
    s.hs.done.find? (fun d => d.1 == beAt p 2 2) = none → s.twinRead (beAt p 4 4 / 4 * 4) (beAt p 8 2) = (l, t) →
    l.length = beAt p 8 2 →
    exec (.bridgeRequestReceive p) s = .next (settle s
      ((State.count { t with hs := { t.hs with done := ((beAt p 2 2, brResponse p 0 0 l) :: t.hs.done).take 16 } } (SEAM_CNTc 6)).emitOut
        (.bridge none (brResponse p 0 0 l))))) ∧
  (∀ (s t : State) (p : List Byte) (n : Nat), s.seamUp = true → brFormed p = true → oct p 1 = 2 →
    s.hs.done.find? (fun d => d.1 == beAt p 2 2) = none → n = beAt p 8 2 →
    s.twinWrite (beAt p 4 4 / 4 * 4) ((List.range n).map (fun k => BitVec.ofNat 32 (beAt p (16 + 4 * k) 4))) = (n, t) →
    exec (.bridgeRequestReceive p) s = .next (settle s
      ((State.count { t with hs := { t.hs with done := ((beAt p 2 2, brResponse p 0 n []) :: t.hs.done).take 16 } } (SEAM_CNTc 6)).emitOut
        (.bridge none (brResponse p 0 n []))))) ∧
  (∀ (s : State) (c n : Nat), c < 7 → n = s.fld (ECC_CLSk c) ECC_CLSk_LEAK * msTicks → n ≠ 0 →
    Sparse.get (fun _ => 0) s.leakAt c < s.mer / n * n →
    exec (.leakTick c) s = .next (settle s (State.setFld { s with leakAt := Sparse.set (fun _ => 0) s.leakAt c (s.mer / n * n) }
      (ECC_CLSk c + 4) ECC_CLSk_LEVEL (s.fld (ECC_CLSk c + 4) ECC_CLSk_LEVEL - 1)))) ∧
  (∀ (s : State) (c : Nat) (e : Nat × Nat × Nat), s.merge.find? (fun e => e.1 / 2 ^ 32 == c) = some e →
    exec (.mergeFlush c) s = .next (settle s (s.flushKey e.1))) ∧
  (∀ (s : State) (i : Iface) (w : Word), s.hostUp = true →
    exec (.eccFlipArm i w) s = .next (settle s (s.typedWrite i ECC_FLIP w))) ∧
  (∀ (s t v : State) (island : Nat), island < 1024 → t = s.bumpSat (ECC_CLSk 7 + 16) ECC_CLSk_UE_CNT →
    v = ((if t.flag ECC_EVT ECC_EVT_FIFO_UE = true then t
      else t.wr (ECC_CLSk 7 + 20) (BitVec.ofNat 32 (0x7F000000 + island))).setFld ECC_EVT ECC_EVT_FIFO_UE 1).log 578 island [island] →
    (∀ u : State, v.hurtParsed (island / 64) (fun it => it.src == island) = some u →
      exec (.fifoParityError island) s = .next (settle s u)) ∧
    (∀ (x : TxFrame) (u : State), v.hurtParsed (island / 64) (fun it => it.src == island) = none → (v.port island).tx = some x →
      u = v.dropItem x.item rMalformed →
      exec (.fifoParityError island) s = .next (settle s
        (u.setPort island { u.port island with tx := some { x with item := { x.item with bad := true } } }))))

/-- Lockstep, temperatures, regulators, the event log, the trust anchor, saves and key revocation. Rests on R507, R508,
R509, R510, R513, R515, R517, R520, R523, R536. -/
def Obligations.ThimbleSensorAndLogCommandsComplete : Prop :=
  (∀ s t : State, 2 ≤ s.pw.boot → s.node ≠ .init → s.node ≠ .safe →
    t = (State.setFld { s.dataStop.log 507 0 [0] with safeAlarm := true } THIM_EVT THIM_EVT_SAFE 1).enterSafe →
    exec .lockstepFailure s = .next (settle s { t with th := { t.th with restricted := true }, hostUp := true })) ∧
  (∀ (s t : State) (n temp : Nat), s.pw.boot ≠ 0 → s.th.restricted = false → sext 16 temp < s.warnTemp → s.th.hotWarn = false → sext 16 temp < s.critTemp →
    -720 ≤ sext 16 temp →
    t = (if sext 16 (s.fld THIM_TMAX THIM_TMAX_TEMP) < sext 16 temp then
      ((s.setFld (THIM_TSENSn n) THIM_TSENSn_TEMP temp).setFld THIM_TMAX THIM_TMAX_TEMP temp).setFld THIM_TMAX THIM_TMAX_SENSOR n
      else s.setFld (THIM_TSENSn n) THIM_TSENSn_TEMP temp) →
    exec (.thermalSample n temp) s = .next (settle s
      { t with th := { t.th with critSince := Sparse.set (fun _ => none) t.th.critSince n none } })) ∧
  (∀ (s : State) (n since : Nat), Sparse.get (fun _ => none) s.th.critSince n = some since → since + msTicks ≤ s.mer →
    s.th.restricted = false → s.node ≠ .init → s.node ≠ .safe →
    exec (.thermalCritical n) s = .next (settle s
      (State.setFld { s.dataStop.log 507 0 [1] with safeAlarm := true } THIM_EVT THIM_EVT_SAFE 1).enterSafe)) ∧
  (∀ (s t : State) (r v i st c : Nat), s.flag (THIM_RAILCFGr r) THIM_RAILCFGr_VALID = true → s.th.restricted = false →
    t = State.emitOut { s with th := { s.th with pmbSeen := Sparse.set (fun _ => false) s.th.pmbSeen r true } }
      (.pmbus r ((if Sparse.get (fun _ => false) s.th.pmbSeen r = true then [] else [0x20]) ++ [0x88, 0x8B, 0x8C, 0x8D, 0x79] ++
        (if st = 0 then [] else [0x03]))) →
    exec (.pmbusPoll r (some (v, i, st, c))) s = .next (settle s
      (((((t.setFld (THIM_RAILr r) THIM_RAILr_ERR 0).setFld (THIM_RAILr r) THIM_RAILr_VOUT v).setFld (THIM_RAILr r)
        THIM_RAILr_IOUT i).setFld (THIM_RAILr r + 4) THIM_RAILr_STATUS st).setFld (THIM_RAILr r + 4) THIM_RAILr_TEMP c))) ∧
  (∀ (s : State) (r : LogRec) (rest : List LogRec) (q : Nat) (o : List Byte), s.logQueue = r :: rest →
    (s.fld ECC_INIT ECC_INIT_DONE).testBit 5 = true → q = (s.rd THIM_LOGSEQ).toNat → o = committed (r.body q) →
    exec .logWrite s = .next (settle s
      (((State.wr { s with logQueue := rest
                           th := { s.th with logRing := Sparse.set (fun _ => []) s.th.logRing (q % 131072) o } }
        THIM_LOGSEQ (BitVec.ofNat 32 (q + 1))).mramStored (0x6800000 + 64 * (q % 131072)) 64).traceDue 0 4 false o))) ∧
  (∀ (s : State) (m : List Byte), s.acceptsWrites = true →
    exec (.anchorUpdate m) s = .next (settle s ((s.anchorUpdate m).2.emitOut (.status 0x008502 (s.anchorUpdate m).1)))) ∧
  (∀ s : State, s.acceptsWrites = true → s.saveReady = true →
    exec .saveStart s = .next (settle s (s.saveStart.emitOut (.status 0x008001 0)))) ∧
  (∀ (s : State) (k : Nat), s.acceptsWrites = true → 0 < k → k ≤ 3 → k ≤ (s.img s.runBank).field 5 1 →
    exec (.revokeKeys k) s = .next (settle s ((s.burn 1 k).emitOut (.status 0x008504 0))))

/-- Blocks, activation, confirmation and the update thread. Rests on R527, R528, R529, R530, R531, R533, R534, R535,
R536. -/
def Obligations.ThimbleImageCommandsComplete : Prop :=
  (∀ (s : State) (k : Nat) (h : List Byte) (x : Session), s.acceptsWrites = true → s.session? k = some x → h.length = 16 →
    exec (.blockHeader k h) s = .next (settle s ((s.setSession { x with hdr := h }).emitOut (.status 0x008102 0)))) ∧
  (∀ (s t : State) (k : Nat) (o : List Byte) (x : Session), s.acceptsWrites = true → s.session? k = some x →
    t = s.setSession { x with hdr := [] } → s.od 0x008101 = 1 →
    exec (.submitBlock k o) s = .next (settle s ((t.storeBlock x.hdr o).2.emitOut (.status 0x008103 (t.storeBlock x.hdr o).1)))) ∧
  (∀ (s : State) (i : Iface) (w : Word), s.hostUp = true → s.th.restricted = false → getF w THIM_IMGCTL_OP = 1 → s.flag THIM_IMGCTL THIM_IMGCTL_BUSY = false →
    exec (.imgStoreBlock i w) s = .next (settle s (s.typedWrite i THIM_IMGCTL w).imgStore)) ∧
  (∀ (s : State) (v : Nat), v = 1 ∨ v = 2 → s.acceptsWrites = true → (s.img s.standby).complete = true → s.upd = 0 →
    s.paired = false →
    exec (.activateImage v false none) s = .next (settle s ((s.select v).emitOut (.status 0x008106 0)))) ∧
  (∀ (s : State) (v w : Nat), v = 1 ∨ v = 2 → s.acceptsWrites = true → (s.img s.standby).complete = true → s.upd = 0 →
    s.paired = true → bits w 31 29 = 0 →
    exec (.activateImage v false (some w)) s = .next (settle s ((s.select v).emitOut (.status 0x008106 0)))) ∧
  (∀ s : State, s.hostUp = true → s.th.restricted = false → s.flag THIM_IMGCTL THIM_IMGCTL_BUSY = false → (s.img s.standby).complete = true → s.upd = 0 →
    s.paired = false →
    exec (.activateImage 1 true none) s = .next (settle s ((s.select 1).setFld THIM_IMGCTL THIM_IMGCTL_RESULT 0))) ∧
  (∀ s : State, s.acceptsWrites = true → s.flag SEAM_STAT SEAM_STAT_TWIN_DOWN = true → (s.img s.standby).complete = true → s.upd = 0 →
    exec (.activateSkipTwin false) s = .next (settle s (((s.log 533 0).select 3).emitOut (.status 0x008106 0)))) ∧
  (∀ s : State, s.acceptsWrites = true →
    exec .confirmImage s = .next (settle s (s.confirm.emitOut (.status 0x008107 0)))) ∧
  (∀ (s : State) (a : Nat), s.runAt = some a → s.od 0x008109 ≠ 0 → a + s.od 0x008109 * 1000 * msTicks ≤ s.mer →
    s.th.restricted = false → exec .autoConfirm s = .next (settle s s.confirm)) ∧
  (∀ s : State, s.acceptsWrites = true → s.upd ≠ 1 → s.upd ≠ 2 →
    exec (.discardImage false) s = .next (settle s
      ((s.setImg s.standby ImgBank.reset).threadAgain.showStandby.emitOut (.status 0x00810A 0)))) ∧
  (∀ s : State, s.hostUp = true → s.th.restricted = false → s.flag THIM_IMGCTL THIM_IMGCTL_BUSY = false → s.upd ≠ 1 → s.upd ≠ 2 →
    exec (.discardImage true) s = .next (settle s
      ((s.setImg s.standby ImgBank.reset).threadAgain.showStandby.setFld THIM_IMGCTL THIM_IMGCTL_RESULT 0))) ∧
  (∀ s : State, s.threadNode ≠ 65535 → s.th.restricted = false → s.th.thread.retry = none → s.th.thread.waiting.length < 8 →
    (s.img s.standby).has s.th.thread.next = true → s.th.thread.open_ = true →
    exec (.threadForward none) s = .next (settle s
      ((s.setThread { s.th.thread with
        open_ := true, next := s.th.thread.next + 1, waiting := s.th.thread.waiting ++ [(s.th.thread.next, s.mer)], state := 1 }).emitOut
        (.threadBlock s.threadNode s.threadPort s.th.thread.next)))) ∧
  (∀ (s : State) (k a : Nat) (rest : List (Nat × Nat)), s.threadNode ≠ 65535 → s.th.restricted = false →
    s.th.thread.waiting = (k, a) :: rest →
    exec (.threadForward (some 0)) s = .next (settle s
      (s.setThread { s.th.thread with waiting := rest, last := k, state := if rest = [] then 0 else 1 }))) ∧
  (∀ (s : State) (next a : Nat) (same : Bool), s.threadNode ≠ 65535 → s.th.restricted = false → s.th.thread.retry = some a → a ≤ s.mer →
    exec (.threadReopen next same) s = .next (settle s
      ((s.setThread { s.th.thread with
        open_ := true, next := if same then next else 0, waiting := [], retry := none, state := 1 }).emitOut
        (.threadOpen s.threadNode s.threadPort)))) ∧
  (∀ s : State, s.od 0x008203 = 1 → s.upd = 0 → s.hasPart 5 = true → s.hostUp = true → s.th.restricted = false →
    exec .expanderPush s = .next (settle s
      (((s.unitsWith (ATTACH 0) 32 1024 (fun w => w.getLsbD 31)).filter (fun a => !s.th.pushed.contains a)).foldl
        (fun t a => State.emitOut { t with th := { t.th with pushed := t.th.pushed ++ [a] } } (.push a)) s)))

/-- Power requests, wakes, the ends of STANDBY's entry and exit, lifecycle, level and JTAG commands. Rests on R541,
R542, R543, R546, R547, R548, R550, R555, R558, R561, R563. -/
def Obligations.PowerCommandsComplete : Prop :=
  (∀ (s : State) (test : Bool),
    (s.powerJudge 0 = 0 → exec (.powerReqActive none) s = .next (settle s ((s.emitOut (.status 0x009001 0)).powerGo 0 false))) ∧
    (s.powerJudge 1 = 0 → exec (.powerReqDrowsy none) s = .next (settle s ((s.emitOut (.status 0x009001 0)).powerGo 1 false))) ∧
    (s.powerJudge 2 = 0 → exec (.powerReqStandby none test) s = .next (settle s
      ((s.emitOut (.status 0x009001 0)).powerGo 2 test))) ∧
    (s.powerJudge 3 = 0 → exec (.powerReqSleep none test) s = .next (settle s
      ((s.emitOut (.status 0x009001 0)).powerGo 3 test)))) ∧
  (∀ (s t : State) (i : Iface) (w : Word) (v : Nat) (test : Bool), s.hostUp = true → getB w SYS_PWR_CTRL_REQ_V = true →
    getF w SYS_PWR_CTRL_REQ = v → getB w SYS_PWR_CTRL_SUPP_CLR = false → t = s.typedWrite i SYS_PWR_CTRL w → t.powerJudge v = 0 →
    (v = 0 → exec (.powerReqActive (some (i, w))) s = .next (settle s
      ((t.setFld SYS_PWR_STAT SYS_PWR_STAT_RESULT 0).powerGo 0 (getB w SYS_PWR_CTRL_TEST)))) ∧
    (v = 1 → exec (.powerReqDrowsy (some (i, w))) s = .next (settle s
      ((t.setFld SYS_PWR_STAT SYS_PWR_STAT_RESULT 0).powerGo 1 (getB w SYS_PWR_CTRL_TEST)))) ∧
    (v = 2 → exec (.powerReqStandby (some (i, w)) test) s = .next (settle s
      ((t.setFld SYS_PWR_STAT SYS_PWR_STAT_RESULT 0).powerGo 2 (getB w SYS_PWR_CTRL_TEST)))) ∧
    (v = 3 → exec (.powerReqSleep (some (i, w)) test) s = .next (settle s
      ((t.setFld SYS_PWR_STAT SYS_PWR_STAT_RESULT 0).powerGo 3 (getB w SYS_PWR_CTRL_TEST))))) ∧
  (∀ s t u : State, s.pw.entering = some 2 →
    s.chans.any (fun p => match p.2.trans with | some t => t.target == 3 && decide (p.1 < 64) | none => false) = false →
    t = s.clearDomains →
    u = ((State.setFld { t with pw := { t.pw with
          entering := none, enteredAt := some s.mer, wake := none, jtag := if 2 < t.pw.jtag then 0 else t.pw.jtag } }
        SYS_PWR_STAT SYS_PWR_STAT_STATE 2).setFld SYS_PWR_STAT SYS_PWR_STAT_TRANS 0).setFld SYS_PWR_STAT SYS_PWR_STAT_READY 0 →
    (s.pw.wake = none → exec .standbyEntryComplete s = .next (settle s u)) ∧
    (∀ code c : Nat, s.pw.wake = some (code, c) → exec .standbyEntryComplete s = .next (settle s (u.exitStart code c)))) ∧
  (∀ (s : State) (c : Nat), s.wakeable = true → s.flag SYS_PWR_STAT SYS_PWR_STAT_SUPP = false → s.powerState = 3 →
    (64 ≤ c → s.wakeOn (c - 63) = true → exec (.networkWake c) s = .next (settle s (s.deviceWake (c - 63) c))) ∧
    (c < 64 → s.loomSource c = true → getB (s.wakeWord (chWake c)) LCn_WAKE_EN = true →
      exec (.networkWake c) s = .next (settle s (s.deviceWake 3 c)))) ∧
  (∀ (s : State) (c : Nat), s.powerState ≠ 3 → c < 64 → s.chArmed c = true → s.loomSource c = true →
    exec (.networkWake c) s = .next (settle s (s.chWakeUp c))) ∧
  (∀ s t : State, t = { s with pw := { s.pw with wakeHigh := true } } → s.wakeOn 4 = true →
    exec (.pinWake true) s = .next (settle s (t.deviceWake 4 0))) ∧
  (∀ s : State, exec (.pinWake false) s = .next (settle s { s with pw := { s.pw with wakeHigh := false } })) ∧
  (∀ s : State, s.wakeOn 5 = true → exec .twinSidebandWake s = .next (settle s (s.deviceWake 5 0))) ∧
  (∀ (s : State) (a : Nat), s.pw.enteredAt = some a → s.powerState = 2 → s.wakeOn 6 = true → (s.rd SYS_PWR_TIMER).toNat ≠ 0 →
    a + (s.rd SYS_PWR_TIMER).toNat * msTicks ≤ s.mer →
    exec .wakeTimerExpiry s = .next (settle s (State.deviceWake { s with pw := { s.pw with enteredAt := none } } 6 0))) ∧
  (∀ s t u : State, s.pw.exiting = true → t = (s.setFld ECC_INIT ECC_INIT_DONE 127).setFld ECC_INIT ECC_INIT_ALL 1 →
    u = (State.keyRestoreOp ((State.setFld { t with pw := { t.pw with exiting := false } } SYS_PWR_STAT SYS_PWR_STAT_STATE 0).setFld
      SYS_PWR_STAT SYS_PWR_STAT_TRANS 0)).setReady.callTwin →
    exec .standbyExitReady s = .next (settle s (if u.paired = true then u.seamTrain else u))) ∧
  (∀ (s t u : State) (j : WakeJudge) (a : Nat), s.pw.judge = some j → s.pw.readyAt = some a → s.fld SYS_PWR_WAKE SYS_PWR_WAKE_FW_WIN ≠ 0 →
    a + s.fld SYS_PWR_WAKE SYS_PWR_WAKE_FW_WIN * 1000 * msTicks ≤ s.mer →
    t = State.bumpSat { s with pw := { s.pw with judge := none } } SYS_PWR_STAT SYS_PWR_STAT_FW_CNT →
    u = (if s.fld SYS_PWR_WAKE SYS_PWR_WAKE_FW_THR ≠ 0 ∧ t.fld SYS_PWR_STAT SYS_PWR_STAT_FW_CNT = s.fld SYS_PWR_WAKE SYS_PWR_WAKE_FW_THR then
      t.setFld SYS_PWR_STAT SYS_PWR_STAT_SUPP 1 else t).log 550 j.code [j.chan] →
    u.flag SYS_PWR_STAT SYS_PWR_STAT_TRANS = false → u.powerState < 2 →
    exec .deviceFalseWake s = .next (settle s (u.enterPower j.was j.test false))) ∧
  (∀ (s : State) (i : Iface) (w : Word), s.hostUp = true → getB w SYS_PWR_CTRL_SUPP_CLR = true → getB w SYS_PWR_CTRL_REQ_V = false →
    exec (.suppClr (some (i, w))) s = .next (settle s ((s.typedWrite i SYS_PWR_CTRL w).clearFalse true))) ∧
  (∀ s : State, s.acceptsWrites = true →
    exec (.suppClr none) s = .next (settle s ((s.clearFalse true).emitOut (.status 0x009009 0))) ∧
    exec .wakeClear s = .next (settle s ((s.wr SYS_PWR_CAUSE 0).emitOut (.status 0x009009 0)))) ∧
  (∀ (s t : State) (m : List Byte), s.acceptsWrites = true → s.lifecycleReq m = (0, t) →
    exec (.lifecycleReq m) s = .next (settle s (t.emitOut (.status 0x00A002 0)).lifecycleEnd)) ∧
  (∀ (s : State) (v role : Nat), v ≤ 3 → 1 ≤ role → s.acceptsWrites = true →
    (s.fld SYS_LCS SYS_LCS_OBS < v → v ≤ role ∧ v ≤ obsCap s.lifecycle) →
    exec (.obsReq v role) s = .next (settle s ((s.setFld SYS_LCS SYS_LCS_OBS v).emitOut (.status 0x00A004 0)))) ∧
  (∀ (s : State) (code : Nat), s.powerState ≠ 3 → (code ≤ 2 ∨ s.flag SYS_LCS SYS_LCS_JTAG_FULL = true ∧ s.powerState ≠ 2) →
    exec (.jtagInstruction code) s = .next (settle s { s with pw := { s.pw with jtag := code } }))

/-- Training failures, the frames of join, records, completion, leaving JOINING, and reports. Rests on R112, R446, R608,
R610, R611, R613, R614, R615, R618. -/
def Obligations.JoinCommandsComplete : Prop :=
  (∀ (s t : State) (n k : Nat), s.trainExpired n = true →
    t = ((s.setFld (PORT_STATn n) PORT_STATn_TRAIN 3).portEvent n PORT_EVTn_TRAIN_FAIL).setPort n { s.port n with trainAt := s.mer } →
    k = Sparse.get (fun _ => 0) s.jn.fails n + 1 →
    (s.jn.ports.testBit n = false → exec (.trainingTimeout n) s = .next (settle s t)) ∧
    (s.jn.ports.testBit n = true → k ≠ 3 →
      exec (.trainingTimeout n) s = .next (settle s { t with jn := { t.jn with fails := Sparse.set (fun _ => 0) t.jn.fails n (k % 3) } })) ∧
    (s.jn.ports.testBit n = true → k = 3 →
      exec (.trainingTimeout n) s = .next (settle s
        (State.joinReport { t with jn := { t.jn with fails := Sparse.set (fun _ => 0) t.jn.fails n 0 } } (s.suspectPort n))))) ∧
  (∀ (s : State) (n : Nat), 5 ≤ s.pw.boot → s.jn.ports.testBit n = true → s.flag (PORT_STATn n) PORT_STATn_LINK = true →
    s.jn.hello.find? (fun p => p.1 == n) = none →
    exec (.joinHelloSend n) s = .next (settle s (State.joinSend
      { s with jn := { s.jn with
        hello := s.jn.hello.filter (fun p => p.1 != n) ++ [(n, s.mer)], trig := s.jn.trig.filter (fun k => k != n) } }
      n msgHello 0 s.helloBody))) ∧
  (∀ (s t u : State) (n : Nat) (p : List Byte) (x : Neighbour), u = s.ctlTake n → s.jn.ports.testBit n = true →
    s.flag (PORT_STATn n) PORT_STATn_LINK = true → joinFormed p = true → oct p 1 % 16 = msgHello → beAt p 4 2 ≠ s.nodeNumber →
    slice (p.drop 16) 0 16 ≠ s.otp.uid → s.jn.barred.contains n = false →
    s.jn.neighbours.any (fun q => q.1 == n && q.2.uid == slice (p.drop 16) 0 16) = false →
    (oct (p.drop 16) 19).testBit 0 = false →
    x = { uid := slice (p.drop 16) 0 16, node := beAt p 4 2, port := beAt p 6 2
          vec := if oct (p.drop 16) 18 = 255 then none else some (beAt (p.drop 16) 16 2, oct (p.drop 16) 18)
          cand := (oct (p.drop 16) 19).testBit 1, complete := false
          parent := if beAt (p.drop 16) 20 2 = 0xFFFF then none else some (beAt (p.drop 16) 20 2), heard := s.mer } →
    t = u.dropNeighbour n →
    exec (.joinHello n p) s = .next (settle s (State.joinTree
      { t with jn := { t.jn with neighbours := t.jn.neighbours.filter (fun q => q.1 != n) ++ [(n, x)] } }))) ∧
  (∀ (s : State) (n : Nat) (q : Nat × Neighbour), s.jn.neighbours.find? (fun p => p.1 == n) = some q → q.2.heard + 35 * msTicks ≤ s.mer →
    (s.joinParent.all (fun k => k.2 != n) = true →
      exec (.neighbourLoss n) s = .next (settle s (s.dropNeighbour n).joinTree)) ∧
    (∀ k : Nat, s.joinParent = some (k, n) →
      exec (.neighbourLoss n) s = .next (settle s ((s.dropNeighbour n).joinTree.joinReport (suspectNode q.2.node))))) ∧
  (∀ s : State, 5 ≤ s.pw.boot → s.jn.vec.isSome = true → s.jn.store.any (fun p => p.1 == s.nodeNumber) = false →
    s.timeReady.1 = true → s.seamReady.1 = true →
    exec .joinRecordCreate s = .next (settle s
      (s.noteConds.joinHold none [s.noteConds.ownRecord (s.noteConds.mer / usTicks)]).showPhase)) ∧
  (∀ (s u v : State) (n : Nat) (p : List Byte), u = s.ctlTake n → s.jn.ports.testBit n = true →
    s.flag (PORT_STATn n) PORT_STATn_LINK = true → joinFormed p = true → beAt p 8 4 = (s.jlink n).rx →
    v = u.setJlink n { u.jlink n with rx := ((u.jlink n).rx + 1) % 2 ^ 32 } →
    (oct p 1 % 16 = msgRecords → s.jn.neighbours.any (fun q => q.1 == n) = true →
      exec (.joinRecords n p) s = .next (settle s
        ((v.joinHold (some n)
          ((List.range ((beAt p 2 2 - 16) / 32)).map (fun i => slice p (16 + 32 * i) 32))).joinSend n msgAck (beAt p 8 4) []))) ∧
    (∀ rs : List (List Byte), oct p 1 % 16 = msgReport → s.jn.neighbours.any (fun q => q.1 == n) = true →
      rs = (List.range ((beAt p 2 2 - 16) / 24)).map (fun i => slice p (16 + 24 * i) 24) →
      (s.isRoot = true → exec (.joinReport n p) s = .next (settle s
        ((rs.foldl (fun t r => if 3 < oct r 6 ∨ 1023 < beAt r 4 2 then t else
            t.reportOwn { suspect := beAt r 0 4, reporter := beAt r 4 2, sev := oct r 6, code := beAt r 8 2 }) v).joinSend
          n msgAck (beAt p 8 4) []))) ∧
      (∀ a m : Nat, s.isRoot = false → s.joinParent = some (a, m) → exec (.joinReport n p) s = .next (settle s
        ((v.joinQueue m msgReport rs).joinSend n msgAck (beAt p 8 4) []))))) ∧
  (∀ (s u : State) (n : Nat) (p : List Byte), u = s.ctlTake n → s.jn.ports.testBit n = true →
    s.flag (PORT_STATn n) PORT_STATn_LINK = true → joinFormed p = true →
    (∀ (gone : List (Nat × Nat × List (List Byte))) (t : State), oct p 1 % 16 = msgAck →
      gone = (s.jlink n).unacked.filter (fun f => decide ((beAt p 8 4 + 2 ^ 32 - f.1) % 2 ^ 32 < 2 ^ 31)) → gone ≠ [] →
      t = { u with jn := { u.jn with acked := u.jn.acked ||
        (gone.any (fun f => f.2.1 == msgRecords && f.2.2.any (fun r => recNode r == s.nodeNumber)) &&
          s.joinParent.any (fun k => k.2 == n)) } } →
      exec (.joinAck n p) s = .next (settle s ((t.setJlink n
        { s.jlink n with
          unacked := (s.jlink n).unacked.filter (fun f => !decide ((beAt p 8 4 + 2 ^ 32 - f.1) % 2 ^ 32 < 2 ^ 31)), at_ := s.mer }).joinPump
          n 8))) ∧
    (oct p 1 % 16 = msgComplete →
      exec (.joinComplete n p) s = .next (settle s (u.joinHeard.joinTell (slice p 16 8)).showPhase))) ∧
  (∀ (s : State) (n : Nat), (s.jlink n).unacked.isEmpty = false → (s.jlink n).at_ + 2 * msTicks ≤ s.mer →
    exec (.joinResend n) s = .next (settle s ((s.jlink n).unacked.foldl (fun t f => t.joinSend n f.2.1 f.1 f.2.2.flatten)
      (s.setJlink n { s.jlink n with at_ := s.mer })))) ∧
  (∀ (s : State) (a : Nat), s.jn.ownAt = some a → s.isRoot = true → s.jn.complete = false → s.od 0x00B003 ≠ 0 → s.joinMissing = [] →
    exec .rootCompletion s = .next (settle s (s.joinHeard.joinTell
      (natBe 2 s.nodeNumber ++ natBe 2 s.jn.table.length ++ natBe 2 0 ++ natBe 2 0)).showPhase)) ∧
  (∀ s t : State, s.node = .joining → s.jn.complete = true → (s.isRoot = true ∨ s.jn.acked = true) →
    t = (s.setNode (if s.configFirst = true ∨ s.flag THIM_STAT THIM_STAT_DEFAULTS = true then .config else .run)).settleDegraded →
    exec .joinLeave s = .next (settle s
      (State.bootTime { t with pw := { t.pw with joinedAt := some s.mer } } 6).showPhase))

/-- Snapshots, trace records and frames, lane locks and the fault coalescer. Rests on R583, R590, R592, R594, R595,
R597. -/
def Obligations.SnapshotAndTraceCommandsComplete : Prop :=
  (∀ (s : State) (i : Iface) (w : Word), getB w OBS_SNAPCTL_REQ = true → s.hostUp = true → s.obsLevel ≠ 0 →
    exec (.snapshotRequest i w) s = .next (settle s (s.snapWrite i w))) ∧
  (∀ (s : State), s.fld OBS_SNAPCTL OBS_SNAPCTL_PERIOD ≠ 0 → s.obsLevel ≠ 0 →
    s.snapLast + s.fld OBS_SNAPCTL OBS_SNAPCTL_PERIOD * usTicks ≤ s.mer → s.snapCopy = none →
    exec .snapshotPeriod s = .next (settle s
      (State.snapStart { s with snapLast := s.mer } (s.flag OBS_SNAPCTL OBS_SNAPCTL_CLR)))) ∧
  (∀ (s : State) (a : Nat) (l : List (Nat × Word)), s.snapCopy = some (a, l) → s.snapAgain = none →
    s.flag OBS_SNAPCTL OBS_SNAPCTL_BANK = true →
    exec .snapshotComplete s = .next (settle s
      ((((((State.setFlag { s with snapBank0 := l, snapCopy := none, snapAgain := none } OBS_SNAPCTL OBS_SNAPCTL_BANK false).setFld
        OBS_SNAPCTL OBS_SNAPCTL_BUSY 0).count OBS_SNAPSEQ).wr64 OBS_SNAPT_LO a).setFld OBS_EVT OBS_EVT_SNAP_DONE 1)))) ∧
  (∀ (s : State) (a : Nat) (l : List (Nat × Word)), s.snapCopy = some (a, l) → s.snapAgain = none →
    s.flag OBS_SNAPCTL OBS_SNAPCTL_BANK = false →
    exec .snapshotComplete s = .next (settle s
      ((((((State.setFlag { s with snapBank1 := l, snapCopy := none, snapAgain := none } OBS_SNAPCTL OBS_SNAPCTL_BANK true).setFld
        OBS_SNAPCTL OBS_SNAPCTL_BUSY 0).count OBS_SNAPSEQ).wr64 OBS_SNAPT_LO a).setFld OBS_EVT OBS_EVT_SNAP_DONE 1)))) ∧
  (∀ (s : State) (d : Nat) (r : TraceRec) (rest : List TraceRec), Sparse.get (fun _ => []) s.traceIn d = r :: rest →
    traceLen (s.traceOf d) + r.octets.length ≤ 2 ^ 20 →
    exec (.traceRecord d) s = .next (settle s
      { s with traceIn := Sparse.set (fun _ => []) s.traceIn d rest
               traceQ := Sparse.set (fun _ => []) s.traceQ d (s.traceOf d ++ [{ rcd := r, lane := false, port := false }]) })) ∧
  (∀ (s t u : State) (d n q : Nat) (r : TraceRec) (rest l : List TraceRec), s.flag OBS_TRCTL OBS_TRCTL_PORT_EN = true →
    t = s.traceLossNext d → ((t.traceOf d).filter (fun e => !e.port)).map (fun e => e.rcd) = r :: rest →
    l = fitting s.traceRoom (r :: rest) → l ≠ [] → r.mer + 50 * usTicks ≤ s.mer →
    n = s.fld OBS_TRPORT OBS_TRPORT_PORT → q = s.fld OBS_TRPORT OBS_TRPORT_QUEUE →
    u = t.traceFramed d l.length →
    u.destLive (.port n q) = true →
    u.admits (n / 64) (u.sharedFree (n / 64)) (cellsOf (s.traceItem d l).stored) false false (.port n q) = true →
    exec (.traceFrame d) s = .next (settle s ((u.queueOne (s.traceItem d l) (.port n q)).traceSent d))) ∧
  (∀ (s : State) (st : Nat), s.fld OBS_OLSTAT OBS_OLSTAT_RX0 = 2 → st ≠ 2 →
    exec (.olLockChange 0 st) s = .next (settle s ((s.setFld OBS_OLSTAT OBS_OLSTAT_RX0 st).setFld OBS_EVT OBS_EVT_OL0_LOCK 1))) ∧
  (∀ (s : State), s.fld OBS_OLSTAT OBS_OLSTAT_RX1 ≠ 2 →
    exec (.olLockChange 1 2) s = .next (settle s ((s.setFld OBS_OLSTAT OBS_OLSTAT_RX1 2).setFld OBS_EVT OBS_EVT_OL1_LOCK 1))) ∧
  (∀ (s : State) (suspect reporter sev code slot : Nat), s.coalIn = [] → s.coalFree ≤ s.mer →
    s.coal.find? (fun p => p.2.suspect == suspect) = none →
    (List.range 256).find? (fun k => !s.coal.any (fun p => p.1 == k)) = some slot →
    exec (.faultReport suspect reporter sev code) s = .next (settle s (State.setCoal
      { s with coalIn := [], coalFree := s.mer + 1000 } (s.coal ++
      [(slot, { suspect := suspect, code := code, sev := sev, count := 1, first := s.mer, last := s.mer,
                partners := [reporter], firstRep := reporter, lastRep := reporter })])))) ∧
  (∀ (s : State) (suspect reporter sev code : Nat), s.mer < s.coalFree → s.coalIn.length < 4096 →
    exec (.faultReport suspect reporter sev code) s = .next (settle s
      { s with coalIn := s.coalIn ++ [{ suspect := suspect, reporter := reporter, sev := sev, code := code }] })) ∧
  (∀ (s : State) (k : Nat) (p : Nat × CoalEnt), s.coal.find? (fun p => p.1 == k) = some p → s.coalDue p.2 = true →
    exec (.coalescerClose k) s = .next (settle s (s.coalClose k p.2)))

/-- PORST_N, a brown-out and RST_N leave the values of R14, with what each keeps. Rests on R14, R549, R600, R626. -/
def Obligations.ResetsRestoreTheResetState : Prop :=
  (∀ s : State, ∃ t : State, exec .powerOnReset s = .next t ∧ t.mer = 0 ∧ t.node = .init ∧ t.datums = [] ∧ t.queues = [] ∧
    t.otp = s.otp ∧ t.keyMram = s.keyMram ∧ t.pw.boot = 0 ∧ t.pw.pll = false ∧ t.hostUp = false ∧
    ∀ a : Nat, a ≠ THIM_LOGSEQ → t.rd a = regReset a) ∧
  (∀ s : State, ∃ t : State, exec .brownOut s = .next t ∧ t.mer = 0 ∧ t.node = .init ∧ t.datums = [] ∧ t.queues = [] ∧
    t.otp = s.otp ∧ t.keyMram = s.keyMram ∧ t.pw.boot = 0 ∧ t.pw.pll = false ∧ t.hostUp = false ∧
    ∀ a : Nat, a ≠ THIM_LOGSEQ → t.rd a = regReset a) ∧
  (∀ s : State, s.porHeld = false →
    ∃ t : State, exec .deviceReset s = .next t ∧ t.mer = 0 ∧ (s.node ≠ .safe → t.node = .init) ∧ (s.node = .safe → t.node = .safe) ∧
      t.datums = [] ∧ t.queues = [] ∧ t.otp = s.otp ∧ t.keyMram = s.keyMram ∧ t.pw.boot = 0 ∧ t.pw.pll = s.pw.pll ∧
      t.hostUp = false ∧ t.fld SYS_BOOT SYS_BOOT_CAUSE = 1 ∧
      t.fld SYS_PWR_STAT SYS_PWR_STAT_FW_CNT = s.fld SYS_PWR_STAT SYS_PWR_STAT_FW_CNT ∧
      t.fld SYS_PWR_STAT SYS_PWR_STAT_SUPP = s.fld SYS_PWR_STAT SYS_PWR_STAT_SUPP) ∧
  (∀ s : State, s.porHeld = true → exec .deviceReset s = .next (settle s s)) ∧
  (∀ (s : State) (due : Nat), s.th.rstDue = some due → due ≤ s.mer →
    ∃ t : State, exec .activationReset s = .next t ∧ t.mer = 0 ∧ t.datums = [] ∧ t.queues = [] ∧ t.otp = s.otp ∧
      t.keyMram = s.keyMram ∧ t.pw.boot = 0 ∧ t.pw.pll = s.pw.pll ∧ t.fld SYS_BOOT SYS_BOOT_CAUSE = 2)

/-- The steps of the boot sequence, each in its turn. Rests on R62, R73, R446, R524, R534, R553, R574, R602, R603, R607.
-/
def Obligations.BootCommandsComplete : Prop :=
  (∀ (s : State) (nid : Nat), s.pw.boot = 0 → s.powerState ≠ 3 → s.pw.pll = false →
    exec (.resetRelease nid) s = .next (settle s { s with pw := { s.pw with boot := 1, straps := nid } })) ∧
  (∀ (s : State) (nid : Nat), s.pw.boot = 0 → s.powerState ≠ 3 → s.pw.pll = true →
    exec (.resetRelease nid) s = .next (settle s (State.setFld (State.setFld { s with pw := { s.pw with boot := 2, straps := nid } }
      TIME_STAT TIME_STAT_RUN 1) TIME_STAT TIME_STAT_PLL_LOCK 1))) ∧
  (∀ s : State, s.pw.boot = 1 → s.pw.pll = false →
    exec .pllLock s = .next (settle s (State.setFld (State.setFld { s with pw := { s.pw with boot := 2, pll := true } }
      TIME_STAT TIME_STAT_RUN 1) TIME_STAT TIME_STAT_PLL_LOCK 1))) ∧
  (∀ (s u : State) (stuck : Bool), s.pw.boot = 2 → (s.mramSweep.lifecycleFill stuck).keyMram.tamper = false →
    u = (s.mramSweep.lifecycleFill stuck).applyAnchor.busesUp.bootAttempt.bootImage →
    exec (.bootRomVerify stuck false) s = .next (settle s { u with pw := { u.pw with boot := 3 } })) ∧
  (∀ (s : State) (stuck shield : Bool), s.pw.boot = 2 →
    ∃ t : State, exec (.bootRomVerify stuck shield) s = .next t ∧ t.pw.boot = 3 ∧
      (s.th.imgBanks = [] → s.th.bankSels = [] → t.upd = 3)) ∧
  (∀ s : State, s.pw.boot = 3 → s.recovering = false → s.th.restricted = false →
    ∃ t : State, exec .thimbleBootComplete s = .next t ∧ t.pw.boot = 4 ∧ t.hostUp = true ∧ t.node = s.node ∧
      ∀ d : Nat, d < 2 → (t.gov d).started = true ∧ Out.avs d 0 (s.gov d).target ∈ t.out ∧ Out.avs d 1 (s.gov d).target ∈ t.out) ∧
  (∀ (s : State) (k : Nat), 4 ≤ s.pw.boot → k < 7 → (s.fld ECC_INIT ECC_INIT_DONE ||| 2 ^ k) ≠ 127 →
    exec (.initClassDone k) s = .next (settle s (s.setFld ECC_INIT ECC_INIT_DONE (s.fld ECC_INIT ECC_INIT_DONE ||| 2 ^ k)))) ∧
  (∀ (s : State) (k : Nat), 4 ≤ s.pw.boot → k < 7 → (s.fld ECC_INIT ECC_INIT_DONE ||| 2 ^ k) = 127 →
    exec (.initClassDone k) s = .next (settle s ((s.setFld ECC_INIT ECC_INIT_DONE 127).setFld ECC_INIT ECC_INIT_ALL 1))) ∧
  (∀ (s s1 s2 s3 s4 : State) (l : Option (List (Nat × List Byte))) (k2 k3 k4 : List Nat), s.pw.boot = 4 →
    s.flag ECC_INIT ECC_INIT_ALL = true → s.settings = (l, s1) →
    s1.restoreAll ((l.getD []).filter (fun e => !entryEnables e && !entryPairs e)) [] = (s2, k2) →
    s2.joinPorts.restoreAll (if s2.joinPorts.autostart then (l.getD []).filter entryEnables else []) k2 = (s3, k3) →
    s3.restoreAll ((l.getD []).filter entryPairs) k3 = (s4, k4) →
    exec .settingsRestore s = .next (settle s
      (State.enterJoining { s4.noteSkipped k4 with th := { (s4.noteSkipped k4).th with saveDirty := none } }))) ∧
  (∀ s : State, s.pw.boot = 4 → s.flag ECC_INIT ECC_INIT_ALL = true → s.th.setAreas = [] → s.od 0x00B001 = 0 →
    s.node = .init → s.paired = false →
    ∃ t : State, exec .settingsRestore s = .next t ∧ t.pw.boot = 5 ∧ t.node = .joining)

/-- A register write changes each field as its type and its lock say, and no bit outside the fields. Rests on R12, R13,
R480. -/
def Obligations.FieldsOfAWrittenWord : Prop :=
  ∀ (locked : Bool) (d : RegDesc) (old new : Word),
    (∀ f ∈ d.fields, f.fld.lo ≤ f.fld.hi ∧ f.fld.hi < 32) →
    d.fields.Pairwise (fun f g => f.fld.hi < g.fld.lo ∨ g.fld.hi < f.fld.lo) →
    (∀ f ∈ d.fields,
      (f.ty = .rw → getF (writeWord locked d old new) f.fld = getF new f.fld) ∧
      (f.ty = .rwl → getF (writeWord locked d old new) f.fld = if locked = true then getF old f.fld else getF new f.fld) ∧
      (f.ty = .ro ∨ f.ty = .rc ∨ f.ty = .wo → getF (writeWord locked d old new) f.fld = getF old f.fld) ∧
      (∀ k, f.fld.lo ≤ k → k ≤ f.fld.hi →
        (f.ty = .w1c → (writeWord locked d old new).getLsbD k = (old.getLsbD k && !new.getLsbD k)) ∧
        (f.ty = .w1s → (writeWord locked d old new).getLsbD k = (old.getLsbD k || new.getLsbD k)))) ∧
    (∀ k, (∀ f ∈ d.fields, k < f.fld.lo ∨ f.fld.hi < k) → (writeWord locked d old new).getLsbD k = old.getLsbD k)

/-- put, get, mark, rewind and release of a stitch queue. Formalises R302. -/
def Obligations.StitchQueueOperations : Prop :=
  ∀ (s : State) (q : Nat),
    (∀ item : List Word,
      ((s.sqWr q + 65536 - s.sqRel q) % 65536 < 2 ^ s.fld (SQUEUE q) SQUEUE_DEPTH →
        ∃ u : State,
          s.sqPut q item = some ((u.memWrote 0 (s.sqSlot q (s.sqWr q) 0) (4 * (s.sqBytes q / 4))).setFld (SQUEUE q + 8) SQUEUE_WR
            (s.sqWr q + 1)) ∧
          (∀ k < s.sqBytes q / 4, u.rd (s.sqSlot q (s.sqWr q) k) =
            if k = 0 then item.getD 0 0 ||| 0x80000000#32 else item.getD k 0) ∧
          (∀ a, (∀ k < s.sqBytes q / 4, a ≠ s.sqSlot q (s.sqWr q) k) → u.rd a = s.rd a)) ∧
      (2 ^ s.fld (SQUEUE q) SQUEUE_DEPTH ≤ (s.sqWr q + 65536 - s.sqRel q) % 65536 → s.sqPut q item = none) ∧
      (item.getD 0 0 ||| 0x80000000#32).getLsbD 31 = true) ∧
    (s.sqRd q ≠ s.sqWr q → ∃ t : State,
      s.sqGet q = some ((List.range (s.sqBytes q / 4)).map (fun k => s.rd (s.sqSlot q (s.sqRd q) k)), t) ∧
      t.sqRd q = (s.sqRd q + 1) % 65536 ∧ t.sqWr q = s.sqWr q ∧
      (s.flag (SQUEUE q) SQUEUE_AUTOREL = true → t.sqRel q = t.sqRd q ∧ t.sqMark q = t.sqRd q) ∧
      (s.flag (SQUEUE q) SQUEUE_AUTOREL = false → t.sqRel q = s.sqRel q ∧ t.sqMark q = s.sqMark q)) ∧
    (s.sqRd q = s.sqWr q → s.sqGet q = none ∧
      (∀ i : Iface, s.hostEnd q 2 = true → Out.readData i (SQ_GET q) 0 ∈ (s.hostGet i q).out)) ∧
    ((s.sqMarkNow q).sqMark q = s.sqRd q ∧ (s.sqMarkNow q).sqRd q = s.sqRd q ∧ (s.sqMarkNow q).sqRel q = s.sqRel q) ∧
    ((s.sqRewind q).sqRd q = s.sqMark q ∧ (s.sqRewind q).sqMark q = s.sqMark q ∧ (s.sqRewind q).sqWr q = s.sqWr q) ∧
    ((s.sqRelease q).sqRel q = s.sqRd q ∧ (s.sqRelease q).sqMark q = s.sqRd q ∧ (s.sqRelease q).sqRd q = s.sqRd q)

/-- The bin of a sample, and a bin that stays at its largest value. Rests on R586. -/
def Obligations.HistogramBins : Prop :=
  (∀ shift v k : Nat,
    (histBin shift v = 0 ↔ v >>> shift = 0) ∧
    (1 ≤ k → k ≤ 30 → (histBin shift v = k ↔ 2 ^ (k - 1) ≤ v >>> shift ∧ v >>> shift < 2 ^ k)) ∧
    (histBin shift v = 31 ↔ 2 ^ 30 ≤ v >>> shift) ∧ histBin shift v ≤ 31) ∧
  (∀ (s : State) (h v b : Nat), b < 32 →
    Sparse.get (fun _ => 0) (s.histAdd h v).hist (32 * h + b) =
      if b = histBin (s.fld (HISTUNIT h) HISTUNIT_SHIFT) v then min (Sparse.get (fun _ => 0) s.hist (32 * h + b) + 1) (2 ^ 32 - 1)
      else Sparse.get (fun _ => 0) s.hist (32 * h + b))

/-- A narrow write keeps a poison tag, a write of the whole code word clears it. Formalises R573. -/
def Obligations.PoisonTagOnWrite : Prop :=
  ∀ (s : State) (c a : Nat), c < 7 → a < 2 ^ 32 →
    (s.codeStore c a true).poisoned c a = false ∧
    (s.poisoned c a = true → (s.codeStore c a false).poisoned c a = true) ∧
    (s.merge = [] → s.flipArmed c a = false →
      (∀ mask, fullMask c mask = true → (s.codeWrite c a mask).poisoned c a = false) ∧
      (∀ mask, fullMask c mask = false → s.poisoned c a = true →
        (s.codeWrite c a mask).poisoned c a = true ∧ ((s.codeWrite c a mask).flushKey (codeKey c a)).poisoned c a = true))

/-- The winner of a slot has the lowest key, then the lowest member, then came first. Rests on R182. -/
def Obligations.SlotWinnerIsLeast : Prop :=
  ∀ l : List VbReq,
    (slotWinner l = none ↔ l = []) ∧
    (∀ w : VbReq, slotWinner l = some w →
      w ∈ l ∧ (∀ r ∈ l, vbKey w.item ≤ vbKey r.item ∧ (vbKey r.item = vbKey w.item → w.member ≤ r.member)) ∧
      ∃ a b : List VbReq, l = a ++ w :: b ∧ ∀ r ∈ a, ¬ (vbKey r.item = vbKey w.item ∧ r.member = w.member))

/-- raise and increment of a freshness entry. Rests on R307. -/
def Obligations.FreshnessRaiseAndIncrement : Prop :=
  ∀ (s : State) (f v : Nat), v < 2 ^ 64 →
    (s.rd64 (FRESH f) < v → (s.freshRaise f v).1 = true ∧ (s.freshRaise f v).2.rd64 (FRESH f) = v) ∧
    (v ≤ s.rd64 (FRESH f) → s.freshRaise f v = (false, s)) ∧
    (s.rd64 (FRESH f) < 2 ^ 64 - 1 →
      (s.freshInc f).1 = true ∧ (s.freshInc f).2.rd64 (FRESH f) = s.rd64 (FRESH f) + 1) ∧
    (s.rd64 (FRESH f) = 2 ^ 64 - 1 → s.freshInc f = (false, s)) ∧
    (∀ g, g ≠ f → (s.freshRaise f v).2.rd64 (FRESH g) = s.rd64 (FRESH g) ∧ (s.freshInc f).2.rd64 (FRESH g) = s.rd64 (FRESH g))

/-- A wake of a LIN bus makes schedule entry 0 due 100 ms later. Formalises R200. -/
def Obligations.LinWakeSchedules : Prop :=
  (∀ (s : State) (v cause : Nat) (p : Int) (r : List Word), s.vbProto v = 3 →
    (cause = 2 ∨ cause = 1 ∧ s.flag (VBn_WAKE v) VBn_WAKE_WMODE = false) →
    ((s.vbWake v cause p r).vb v).schedIdx = 0 ∧ ((s.vbWake v cause p r).vb v).schedDue = p + 100 * msTicks ∧
    ((s.vbWake v cause p r).vb v).hdrs = [] ∧ (s.vbWake v cause p r).vbAsleep v = false) ∧
  (∀ (s : State) (i : Iface) (v : Nat) (w : Word), s.hostUp = true → (s.typedWrite i (VBn_SLEEP v) w).vbEn v = true →
    getF w VBn_SLEEP_REQ = 1 → (s.typedWrite i (VBn_SLEEP v) w).vbAsleep v = true → (s.typedWrite i (VBn_SLEEP v) w).vbProto v = 3 →
    ∃ t : State, exec (.vbusSleepRequest i v w) s = .next t ∧ (t.vb v).schedIdx = 0 ∧
      (t.vb v).schedDue = (s.typedWrite i (VBn_SLEEP v) w).vbPos v + 100 * msTicks)

/-- A discard adds 1 to one drop counter and changes nothing else. Rests on R29, R582. -/
def Obligations.DiscardCountsOnceUnderItsReason : Prop :=
  ∀ (s : State) (t r u q : Nat), r < 16 → q < 16 →
    (s.dropFor t r).dropCount u q = (if u = t ∧ q = r then (s.dropCount u q + 1) % 2 ^ 64 else s.dropCount u q) ∧
    s.dropFor t r = { s with drops := (s.dropFor t r).drops } ∧ (∀ a, (s.dropFor t r).rd a = s.rd a) ∧ (s.dropFor t r).out = s.out
end

