-- ==== Sys2Proof/Laws/Engine.lean ====
section
/-! SUPPORT. What the issue of a stitch instruction comes to: the fetched work item keeps its registers, and an engine that
issues an instruction does what its body says. -/

namespace Sys2Proof.Machine

@[simp] theorem fetchedRun_reg (s : State) (e : Nat) (r : Run) (n : Nat) : (s.fetchedRun e r).reg n = r.reg n := (rfl)
@[simp] theorem fetchedRun_fl (s : State) (e : Nat) (r : Run) : (s.fetchedRun e r).fl = r.fl := (rfl)
@[simp] theorem fetchedRun_pc (s : State) (e : Nat) (r : Run) : (s.fetchedRun e r).pc = r.pc := (rfl)
@[simp] theorem fetchedRun_emits (s : State) (e : Nat) (r : Run) : (s.fetchedRun e r).emits = r.emits := (rfl)
@[simp] theorem fetchedRun_work (s : State) (e : Nat) (r : Run) : (s.fetchedRun e r).work = r.work := (rfl)
@[simp] theorem fetchedRun_stall (s : State) (e : Nat) (r : Run) : (s.fetchedRun e r).stall = r.stall := (rfl)
@[simp] theorem fetchedRun_cond (s : State) (e : Nat) (r : Run) (k : Nat) : (s.fetchedRun e r).cond k = r.cond k := (rfl)
@[simp] theorem fetchedRun_target (s : State) (e : Nat) (r : Run) (k : Int) : (s.fetchedRun e r).target k = r.target k := (rfl)
@[simp] theorem fetchedRun_load (s : State) (e : Nat) (r : Run) (w : Word) : (s.fetchedRun e r).loadAddr w = r.loadAddr w := (rfl)

/-- An engine that issues an instruction does what the body of the instruction says. -/
theorem engine_issue_of {s : State} {e c : Nat} {r : Run} {w : Word} {b : Body} (h : s.Issues e c r w) :
    s.issue e c b = (s.fetched e r).settle e (s.fetchedRun e r) (b (s.fetched e r) e (s.fetchedRun e r) w false) := by
  obtain ⟨h1, h2, h3, h4⟩ := h
  simp [State.issue, h1, h2, h3, Nat.not_le.mpr h4]

/-- The answer of a command that is the issue of an instruction with a body. -/
theorem engine_issue_next {s : State} {i : Instr} {e c : Nat} {r : Run} {w : Word} {b : Body} {x : Ex} (h : s.Issues e c r w)
    (hx : exec i s = .next (settle s (s.issue e c b)))
    (hb : b (s.fetched e r) e (s.fetchedRun e r) w false = x) :
    exec i s = .next (settle s ((s.fetched e r).settle e (s.fetchedRun e r) x)) := by
  rw [hx, engine_issue_of h, hb]

end Sys2Proof.Machine
end

