-- ==== Sys2Proof/Laws/Sparse.lean ====
section
/-! SUPPORT. The sparse maps: a read after a write gives the value written at its key and the old one elsewhere, and a
write keeps the canonical form. -/

namespace Sys2Proof.Machine

variable {α : Type}

theorem Sparse.get_insert_same (d : Nat → α) (m : List (Nat × α)) (k : Nat) (v : α)
    (h : ∀ p ∈ m, p.1 ≠ k) : Sparse.get d (Sparse.insert m k v) k = v := by
  induction m with
  | nil => simp [Sparse.insert, Sparse.get]
  | cons p t ih =>
    obtain ⟨j, w⟩ := p
    have hj : j ≠ k := h (j, w) (by simp)
    simp only [Sparse.insert]
    split
    · simp [Sparse.get]
    · simp only [Sparse.get, if_neg hj]
      exact ih (fun p hp => h p (by simp [hp]))

theorem Sparse.get_insert_other (d : Nat → α) (m : List (Nat × α)) (k n : Nat) (v : α) (hn : n ≠ k) :
    Sparse.get d (Sparse.insert m k v) n = Sparse.get d m n := by
  induction m with
  | nil => simp [Sparse.insert, Sparse.get, hn.symm]
  | cons p t ih =>
    obtain ⟨j, w⟩ := p
    simp only [Sparse.insert]
    split
    · simp [Sparse.get, hn.symm]
    · simp only [Sparse.get, ih]

theorem Sparse.erase_ne (m : List (Nat × α)) (k : Nat) : ∀ p ∈ Sparse.erase m k, p.1 ≠ k := by
  intro p hp
  simpa using (List.mem_filter.1 hp).2

theorem Sparse.get_erase_same (d : Nat → α) (m : List (Nat × α)) (k : Nat) :
    Sparse.get d (Sparse.erase m k) k = d k := by
  induction m with
  | nil => rfl
  | cons p t ih =>
    obtain ⟨j, w⟩ := p
    unfold Sparse.erase at ih ⊢
    rw [List.filter_cons]
    split
    · rename_i h
      have hj : j ≠ k := by simpa using h
      simp only [Sparse.get, if_neg hj, ih]
    · exact ih

theorem Sparse.get_erase_other (d : Nat → α) (m : List (Nat × α)) (k n : Nat) (hn : n ≠ k) :
    Sparse.get d (Sparse.erase m k) n = Sparse.get d m n := by
  induction m with
  | nil => rfl
  | cons p t ih =>
    obtain ⟨j, w⟩ := p
    unfold Sparse.erase at ih ⊢
    rw [List.filter_cons]
    split
    · simp only [Sparse.get, ih]
    · rename_i h
      have hj : j = k := by simpa using h
      simp only [Sparse.get, hj, if_neg (Ne.symm hn)]
      exact ih

/-- A read of the written entry gives the value written. -/
@[simp] theorem Sparse.get_set_same [DecidableEq α] (d : Nat → α) (m : List (Nat × α)) (k : Nat) (v : α) :
    Sparse.get d (Sparse.set d m k v) k = v := by
  unfold Sparse.set
  split
  · rename_i h; rw [Sparse.get_erase_same, h]
  · exact Sparse.get_insert_same d _ k v (Sparse.erase_ne m k)

/-- A write leaves every other entry alone. -/
theorem Sparse.get_set_other [DecidableEq α] (d : Nat → α) (m : List (Nat × α)) (k n : Nat) (v : α) (hn : n ≠ k) :
    Sparse.get d (Sparse.set d m k v) n = Sparse.get d m n := by
  unfold Sparse.set
  split
  · exact Sparse.get_erase_other d m k n hn
  · rw [Sparse.get_insert_other d _ k n v hn, Sparse.get_erase_other d m k n hn]

/-- Keeping only some entries keeps the canonical form. -/
theorem Sparse.wf_filter [DecidableEq α] (d : Nat → α) (m : List (Nat × α)) (q : Nat × α → Bool)
    (h : Sparse.wf d m = true) : Sparse.wf d (m.filter q) = true := by
  induction m with
  | nil => rfl
  | cons p t ih =>
    obtain ⟨j, w⟩ := p
    simp only [Sparse.wf, Bool.and_eq_true, List.all_eq_true] at h
    rw [List.filter_cons]
    split
    · simp only [Sparse.wf, Bool.and_eq_true, List.all_eq_true]
      exact ⟨⟨h.1.1, fun p hp => h.1.2 p (List.mem_filter.1 hp).1⟩, ih h.2⟩
    · exact ih h.2

theorem Sparse.insert_all (m : List (Nat × α)) (k j : Nat) (v : α) (hk : j < k)
    (h : ∀ p ∈ m, j < p.1) : ∀ p ∈ Sparse.insert m k v, j < p.1 := by
  induction m with
  | nil => simpa [Sparse.insert] using hk
  | cons p t ih =>
    obtain ⟨i, w⟩ := p
    simp only [Sparse.insert]
    split
    · intro p hp
      rcases List.mem_cons.1 hp with rfl | hp
      · exact hk
      · exact h p hp
    · intro p hp
      rcases List.mem_cons.1 hp with rfl | hp
      · exact h (i, w) (by simp)
      · exact ih (fun p hp => h p (by simp [hp])) p hp

theorem Sparse.wf_insert [DecidableEq α] (d : Nat → α) (m : List (Nat × α)) (k : Nat) (v : α)
    (hv : v ≠ d k) (hm : ∀ p ∈ m, p.1 ≠ k) (h : Sparse.wf d m = true) : Sparse.wf d (Sparse.insert m k v) = true := by
  induction m with
  | nil => simp [Sparse.insert, Sparse.wf, hv]
  | cons p t ih =>
    obtain ⟨j, w⟩ := p
    have hj : j ≠ k := hm (j, w) (by simp)
    have hw := h
    simp only [Sparse.wf, Bool.and_eq_true, List.all_eq_true, decide_eq_true_eq] at h
    simp only [Sparse.insert]
    split
    · rename_i hkj
      simp only [Sparse.wf, Bool.and_eq_true, List.all_eq_true, decide_eq_true_eq]
      refine ⟨⟨by simpa using hv, fun p hp => ?_⟩, h⟩
      rcases List.mem_cons.1 hp with rfl | hp
      · exact hkj
      · exact Nat.lt_trans hkj (h.1.2 p hp)
    · rename_i hkj
      simp only [Sparse.wf, Bool.and_eq_true, List.all_eq_true, decide_eq_true_eq]
      refine ⟨⟨h.1.1, Sparse.insert_all t k j v (by omega) h.1.2⟩, ?_⟩
      exact ih (fun p hp => hm p (by simp [hp])) h.2

/-- A write keeps the canonical form. -/
theorem Sparse.wf_set [DecidableEq α] (d : Nat → α) (m : List (Nat × α)) (k : Nat) (v : α)
    (h : Sparse.wf d m = true) : Sparse.wf d (Sparse.set d m k v) = true := by
  unfold Sparse.set
  have he : Sparse.wf d (Sparse.erase m k) = true := Sparse.wf_filter d m _ h
  split
  · exact he
  · rename_i hv
    exact Sparse.wf_insert d _ k v hv (Sparse.erase_ne m k) he

end Sys2Proof.Machine
end

