-- ==== Sys2Proof/Laws/State.lean ====
section
/-! SUPPORT. One lemma per field per named update of State, true by unfolding, so that no later proof unfolds a record
update: a word write, a field write, something leaving the device, and the settling of the interrupt sources. -/

namespace Sys2Proof.Machine

@[simp] theorem State.wr_mer (s : State) (a : Nat) (w : Word) : (s.wr a w).mer = s.mer := (rfl)
@[simp] theorem State.setFld_mer (s : State) (a : Nat) (f : Fld) (v : Nat) : (s.setFld a f v).mer = s.mer := (rfl)
@[simp] theorem State.emitOut_mer (s : State) (x : Out) : (s.emitOut x).mer = s.mer := (rfl)
@[simp] theorem State.emitOut_regs (s : State) (x : Out) : (s.emitOut x).regs = s.regs := (rfl)
@[simp] theorem State.wr_lat (s : State) (a : Nat) (w : Word) : (s.wr a w).lat = s.lat := (rfl)
@[simp] theorem State.setFld_lat (s : State) (a : Nat) (f : Fld) (v : Nat) : (s.setFld a f v).lat = s.lat := (rfl)
@[simp] theorem State.emitOut_lat (s : State) (x : Out) : (s.emitOut x).lat = s.lat := (rfl)
@[simp] theorem State.wr_stage (s : State) (a : Nat) (w : Word) : (s.wr a w).stage = s.stage := (rfl)
@[simp] theorem State.setFld_stage (s : State) (a : Nat) (f : Fld) (v : Nat) : (s.setFld a f v).stage = s.stage := (rfl)
@[simp] theorem State.emitOut_stage (s : State) (x : Out) : (s.emitOut x).stage = s.stage := (rfl)
@[simp] theorem State.wr_irqPrev (s : State) (a : Nat) (w : Word) : (s.wr a w).irqPrev = s.irqPrev := (rfl)
@[simp] theorem State.setFld_irqPrev (s : State) (a : Nat) (f : Fld) (v : Nat) : (s.setFld a f v).irqPrev = s.irqPrev := (rfl)
@[simp] theorem State.emitOut_irqPrev (s : State) (x : Out) : (s.emitOut x).irqPrev = s.irqPrev := (rfl)
@[simp] theorem State.wr_msixTable (s : State) (a : Nat) (w : Word) : (s.wr a w).msixTable = s.msixTable := (rfl)
@[simp] theorem State.setFld_msixTable (s : State) (a : Nat) (f : Fld) (v : Nat) : (s.setFld a f v).msixTable = s.msixTable := (rfl)
@[simp] theorem State.emitOut_msixTable (s : State) (x : Out) : (s.emitOut x).msixTable = s.msixTable := (rfl)
@[simp] theorem State.wr_msixPend (s : State) (a : Nat) (w : Word) : (s.wr a w).msixPend = s.msixPend := (rfl)
@[simp] theorem State.setFld_msixPend (s : State) (a : Nat) (f : Fld) (v : Nat) : (s.setFld a f v).msixPend = s.msixPend := (rfl)
@[simp] theorem State.emitOut_msixPend (s : State) (x : Out) : (s.emitOut x).msixPend = s.msixPend := (rfl)
@[simp] theorem State.wr_drops (s : State) (a : Nat) (w : Word) : (s.wr a w).drops = s.drops := (rfl)
@[simp] theorem State.setFld_drops (s : State) (a : Nat) (f : Fld) (v : Nat) : (s.setFld a f v).drops = s.drops := (rfl)
@[simp] theorem State.emitOut_drops (s : State) (x : Out) : (s.emitOut x).drops = s.drops := (rfl)
@[simp] theorem State.wr_node (s : State) (a : Nat) (w : Word) : (s.wr a w).node = s.node := (rfl)
@[simp] theorem State.setFld_node (s : State) (a : Nat) (f : Fld) (v : Nat) : (s.setFld a f v).node = s.node := (rfl)
@[simp] theorem State.emitOut_node (s : State) (x : Out) : (s.emitOut x).node = s.node := (rfl)
@[simp] theorem State.wr_nodeUnder (s : State) (a : Nat) (w : Word) : (s.wr a w).nodeUnder = s.nodeUnder := (rfl)
@[simp] theorem State.setFld_nodeUnder (s : State) (a : Nat) (f : Fld) (v : Nat) : (s.setFld a f v).nodeUnder = s.nodeUnder := (rfl)
@[simp] theorem State.emitOut_nodeUnder (s : State) (x : Out) : (s.emitOut x).nodeUnder = s.nodeUnder := (rfl)
@[simp] theorem State.wr_nodeSince (s : State) (a : Nat) (w : Word) : (s.wr a w).nodeSince = s.nodeSince := (rfl)
@[simp] theorem State.setFld_nodeSince (s : State) (a : Nat) (f : Fld) (v : Nat) : (s.setFld a f v).nodeSince = s.nodeSince := (rfl)
@[simp] theorem State.emitOut_nodeSince (s : State) (x : Out) : (s.emitOut x).nodeSince = s.nodeSince := (rfl)
@[simp] theorem State.wr_logQueue (s : State) (a : Nat) (w : Word) : (s.wr a w).logQueue = s.logQueue := (rfl)
@[simp] theorem State.setFld_logQueue (s : State) (a : Nat) (f : Fld) (v : Nat) : (s.setFld a f v).logQueue = s.logQueue := (rfl)
@[simp] theorem State.emitOut_logQueue (s : State) (x : Out) : (s.emitOut x).logQueue = s.logQueue := (rfl)
@[simp] theorem State.wr_logLost (s : State) (a : Nat) (w : Word) : (s.wr a w).logLost = s.logLost := (rfl)
@[simp] theorem State.setFld_logLost (s : State) (a : Nat) (f : Fld) (v : Nat) : (s.setFld a f v).logLost = s.logLost := (rfl)
@[simp] theorem State.emitOut_logLost (s : State) (x : Out) : (s.emitOut x).logLost = s.logLost := (rfl)
@[simp] theorem State.wr_mons (s : State) (a : Nat) (w : Word) : (s.wr a w).mons = s.mons := (rfl)
@[simp] theorem State.setFld_mons (s : State) (a : Nat) (f : Fld) (v : Nat) : (s.setFld a f v).mons = s.mons := (rfl)
@[simp] theorem State.emitOut_mons (s : State) (x : Out) : (s.emitOut x).mons = s.mons := (rfl)
@[simp] theorem State.wr_govs (s : State) (a : Nat) (w : Word) : (s.wr a w).govs = s.govs := (rfl)
@[simp] theorem State.setFld_govs (s : State) (a : Nat) (f : Fld) (v : Nat) : (s.setFld a f v).govs = s.govs := (rfl)
@[simp] theorem State.emitOut_govs (s : State) (x : Out) : (s.emitOut x).govs = s.govs := (rfl)
@[simp] theorem State.wr_admitAt (s : State) (a : Nat) (w : Word) : (s.wr a w).admitAt = s.admitAt := (rfl)
@[simp] theorem State.setFld_admitAt (s : State) (a : Nat) (f : Fld) (v : Nat) : (s.setFld a f v).admitAt = s.admitAt := (rfl)
@[simp] theorem State.emitOut_admitAt (s : State) (x : Out) : (s.emitOut x).admitAt = s.admitAt := (rfl)
@[simp] theorem State.wr_tamperAlarm (s : State) (a : Nat) (w : Word) : (s.wr a w).tamperAlarm = s.tamperAlarm := (rfl)
@[simp] theorem State.setFld_tamperAlarm (s : State) (a : Nat) (f : Fld) (v : Nat) : (s.setFld a f v).tamperAlarm = s.tamperAlarm := (rfl)
@[simp] theorem State.emitOut_tamperAlarm (s : State) (x : Out) : (s.emitOut x).tamperAlarm = s.tamperAlarm := (rfl)
@[simp] theorem State.wr_safeAlarm (s : State) (a : Nat) (w : Word) : (s.wr a w).safeAlarm = s.safeAlarm := (rfl)
@[simp] theorem State.setFld_safeAlarm (s : State) (a : Nat) (f : Fld) (v : Nat) : (s.setFld a f v).safeAlarm = s.safeAlarm := (rfl)
@[simp] theorem State.emitOut_safeAlarm (s : State) (x : Out) : (s.emitOut x).safeAlarm = s.safeAlarm := (rfl)
@[simp] theorem State.wr_hostUp (s : State) (a : Nat) (w : Word) : (s.wr a w).hostUp = s.hostUp := (rfl)
@[simp] theorem State.setFld_hostUp (s : State) (a : Nat) (f : Fld) (v : Nat) : (s.setFld a f v).hostUp = s.hostUp := (rfl)
@[simp] theorem State.emitOut_hostUp (s : State) (x : Out) : (s.emitOut x).hostUp = s.hostUp := (rfl)
@[simp] theorem State.wr_datums (s : State) (a : Nat) (w : Word) : (s.wr a w).datums = s.datums := (rfl)
@[simp] theorem State.setFld_datums (s : State) (a : Nat) (f : Fld) (v : Nat) : (s.setFld a f v).datums = s.datums := (rfl)
@[simp] theorem State.emitOut_datums (s : State) (x : Out) : (s.emitOut x).datums = s.datums := (rfl)
@[simp] theorem State.wr_datumStage (s : State) (a : Nat) (w : Word) : (s.wr a w).datumStage = s.datumStage := (rfl)
@[simp] theorem State.setFld_datumStage (s : State) (a : Nat) (f : Fld) (v : Nat) : (s.setFld a f v).datumStage = s.datumStage := (rfl)
@[simp] theorem State.emitOut_datumStage (s : State) (x : Out) : (s.emitOut x).datumStage = s.datumStage := (rfl)
@[simp] theorem State.wr_servo (s : State) (a : Nat) (w : Word) : (s.wr a w).servo = s.servo := (rfl)
@[simp] theorem State.setFld_servo (s : State) (a : Nat) (f : Fld) (v : Nat) : (s.setFld a f v).servo = s.servo := (rfl)
@[simp] theorem State.emitOut_servo (s : State) (x : Out) : (s.emitOut x).servo = s.servo := (rfl)
@[simp] theorem State.wr_tsqs (s : State) (a : Nat) (w : Word) : (s.wr a w).tsqs = s.tsqs := (rfl)
@[simp] theorem State.setFld_tsqs (s : State) (a : Nat) (f : Fld) (v : Nat) : (s.setFld a f v).tsqs = s.tsqs := (rfl)
@[simp] theorem State.emitOut_tsqs (s : State) (x : Out) : (s.emitOut x).tsqs = s.tsqs := (rfl)
@[simp] theorem State.wr_ppsiLast (s : State) (a : Nat) (w : Word) : (s.wr a w).ppsiLast = s.ppsiLast := (rfl)
@[simp] theorem State.setFld_ppsiLast (s : State) (a : Nat) (f : Fld) (v : Nat) : (s.setFld a f v).ppsiLast = s.ppsiLast := (rfl)
@[simp] theorem State.emitOut_ppsiLast (s : State) (x : Out) : (s.emitOut x).ppsiLast = s.ppsiLast := (rfl)
@[simp] theorem State.wr_ppsoHigh (s : State) (a : Nat) (w : Word) : (s.wr a w).ppsoHigh = s.ppsoHigh := (rfl)
@[simp] theorem State.setFld_ppsoHigh (s : State) (a : Nat) (f : Fld) (v : Nat) : (s.setFld a f v).ppsoHigh = s.ppsoHigh := (rfl)
@[simp] theorem State.emitOut_ppsoHigh (s : State) (x : Out) : (s.emitOut x).ppsoHigh = s.ppsoHigh := (rfl)
@[simp] theorem State.wr_ppsoRise (s : State) (a : Nat) (w : Word) : (s.wr a w).ppsoRise = s.ppsoRise := (rfl)
@[simp] theorem State.setFld_ppsoRise (s : State) (a : Nat) (f : Fld) (v : Nat) : (s.setFld a f v).ppsoRise = s.ppsoRise := (rfl)
@[simp] theorem State.emitOut_ppsoRise (s : State) (x : Out) : (s.emitOut x).ppsoRise = s.ppsoRise := (rfl)
@[simp] theorem State.wr_ppsoNext (s : State) (a : Nat) (w : Word) : (s.wr a w).ppsoNext = s.ppsoNext := (rfl)
@[simp] theorem State.setFld_ppsoNext (s : State) (a : Nat) (f : Fld) (v : Nat) : (s.setFld a f v).ppsoNext = s.ppsoNext := (rfl)
@[simp] theorem State.emitOut_ppsoNext (s : State) (x : Out) : (s.emitOut x).ppsoNext = s.ppsoNext := (rfl)
@[simp] theorem State.wr_gptp (s : State) (a : Nat) (w : Word) : (s.wr a w).gptp = s.gptp := (rfl)
@[simp] theorem State.setFld_gptp (s : State) (a : Nat) (f : Fld) (v : Nat) : (s.setFld a f v).gptp = s.gptp := (rfl)
@[simp] theorem State.emitOut_gptp (s : State) (x : Out) : (s.emitOut x).gptp = s.gptp := (rfl)
@[simp] theorem State.wr_datumAsk (s : State) (a : Nat) (w : Word) : (s.wr a w).datumAsk = s.datumAsk := (rfl)
@[simp] theorem State.setFld_datumAsk (s : State) (a : Nat) (f : Fld) (v : Nat) : (s.setFld a f v).datumAsk = s.datumAsk := (rfl)
@[simp] theorem State.emitOut_datumAsk (s : State) (x : Out) : (s.emitOut x).datumAsk = s.datumAsk := (rfl)
@[simp] theorem State.wr_refBad (s : State) (a : Nat) (w : Word) : (s.wr a w).refBad = s.refBad := (rfl)
@[simp] theorem State.setFld_refBad (s : State) (a : Nat) (f : Fld) (v : Nat) : (s.setFld a f v).refBad = s.refBad := (rfl)
@[simp] theorem State.emitOut_refBad (s : State) (x : Out) : (s.emitOut x).refBad = s.refBad := (rfl)
@[simp] theorem State.wr_lanes (s : State) (a : Nat) (w : Word) : (s.wr a w).lanes = s.lanes := (rfl)
@[simp] theorem State.setFld_lanes (s : State) (a : Nat) (f : Fld) (v : Nat) : (s.setFld a f v).lanes = s.lanes := (rfl)
@[simp] theorem State.emitOut_lanes (s : State) (x : Out) : (s.emitOut x).lanes = s.lanes := (rfl)
@[simp] theorem State.wr_laneAlarms (s : State) (a : Nat) (w : Word) : (s.wr a w).laneAlarms = s.laneAlarms := (rfl)
@[simp] theorem State.setFld_laneAlarms (s : State) (a : Nat) (f : Fld) (v : Nat) : (s.setFld a f v).laneAlarms = s.laneAlarms := (rfl)
@[simp] theorem State.emitOut_laneAlarms (s : State) (x : Out) : (s.emitOut x).laneAlarms = s.laneAlarms := (rfl)
@[simp] theorem State.wr_proofTimes (s : State) (a : Nat) (w : Word) : (s.wr a w).proofTimes = s.proofTimes := (rfl)
@[simp] theorem State.setFld_proofTimes (s : State) (a : Nat) (f : Fld) (v : Nat) : (s.setFld a f v).proofTimes = s.proofTimes := (rfl)
@[simp] theorem State.emitOut_proofTimes (s : State) (x : Out) : (s.emitOut x).proofTimes = s.proofTimes := (rfl)
@[simp] theorem State.wr_keyMat (s : State) (a : Nat) (w : Word) : (s.wr a w).keyMat = s.keyMat := (rfl)
@[simp] theorem State.setFld_keyMat (s : State) (a : Nat) (f : Fld) (v : Nat) : (s.setFld a f v).keyMat = s.keyMat := (rfl)
@[simp] theorem State.emitOut_keyMat (s : State) (x : Out) : (s.emitOut x).keyMat = s.keyMat := (rfl)
@[simp] theorem State.wr_kumQueue (s : State) (a : Nat) (w : Word) : (s.wr a w).kumQueue = s.kumQueue := (rfl)
@[simp] theorem State.setFld_kumQueue (s : State) (a : Nat) (f : Fld) (v : Nat) : (s.setFld a f v).kumQueue = s.kumQueue := (rfl)
@[simp] theorem State.emitOut_kumQueue (s : State) (x : Out) : (s.emitOut x).kumQueue = s.kumQueue := (rfl)
@[simp] theorem State.wr_keyMram (s : State) (a : Nat) (w : Word) : (s.wr a w).keyMram = s.keyMram := (rfl)
@[simp] theorem State.setFld_keyMram (s : State) (a : Nat) (f : Fld) (v : Nat) : (s.setFld a f v).keyMram = s.keyMram := (rfl)
@[simp] theorem State.emitOut_keyMram (s : State) (x : Out) : (s.emitOut x).keyMram = s.keyMram := (rfl)
@[simp] theorem State.wr_otp (s : State) (a : Nat) (w : Word) : (s.wr a w).otp = s.otp := (rfl)
@[simp] theorem State.setFld_otp (s : State) (a : Nat) (f : Fld) (v : Nat) : (s.setFld a f v).otp = s.otp := (rfl)
@[simp] theorem State.emitOut_otp (s : State) (x : Out) : (s.emitOut x).otp = s.otp := (rfl)
@[simp] theorem State.wr_anchor (s : State) (a : Nat) (w : Word) : (s.wr a w).anchor = s.anchor := (rfl)
@[simp] theorem State.setFld_anchor (s : State) (a : Nat) (f : Fld) (v : Nat) : (s.setFld a f v).anchor = s.anchor := (rfl)
@[simp] theorem State.emitOut_anchor (s : State) (x : Out) : (s.emitOut x).anchor = s.anchor := (rfl)
@[simp] theorem State.wr_replies (s : State) (a : Nat) (w : Word) : (s.wr a w).replies = s.replies := (rfl)
@[simp] theorem State.setFld_replies (s : State) (a : Nat) (f : Fld) (v : Nat) : (s.setFld a f v).replies = s.replies := (rfl)
@[simp] theorem State.emitOut_replies (s : State) (x : Out) : (s.emitOut x).replies = s.replies := (rfl)
@[simp] theorem State.wr_queues (s : State) (a : Nat) (w : Word) : (s.wr a w).queues = s.queues := (rfl)
@[simp] theorem State.setFld_queues (s : State) (a : Nat) (f : Fld) (v : Nat) : (s.setFld a f v).queues = s.queues := (rfl)
@[simp] theorem State.emitOut_queues (s : State) (x : Out) : (s.emitOut x).queues = s.queues := (rfl)
@[simp] theorem State.wr_chains (s : State) (a : Nat) (w : Word) : (s.wr a w).chains = s.chains := (rfl)
@[simp] theorem State.setFld_chains (s : State) (a : Nat) (f : Fld) (v : Nat) : (s.setFld a f v).chains = s.chains := (rfl)
@[simp] theorem State.emitOut_chains (s : State) (x : Out) : (s.emitOut x).chains = s.chains := (rfl)
@[simp] theorem State.wr_chainCtr (s : State) (a : Nat) (w : Word) : (s.wr a w).chainCtr = s.chainCtr := (rfl)
@[simp] theorem State.setFld_chainCtr (s : State) (a : Nat) (f : Fld) (v : Nat) : (s.setFld a f v).chainCtr = s.chainCtr := (rfl)
@[simp] theorem State.emitOut_chainCtr (s : State) (x : Out) : (s.emitOut x).chainCtr = s.chainCtr := (rfl)
@[simp] theorem State.wr_offers (s : State) (a : Nat) (w : Word) : (s.wr a w).offers = s.offers := (rfl)
@[simp] theorem State.setFld_offers (s : State) (a : Nat) (f : Fld) (v : Nat) : (s.setFld a f v).offers = s.offers := (rfl)
@[simp] theorem State.emitOut_offers (s : State) (x : Out) : (s.emitOut x).offers = s.offers := (rfl)
@[simp] theorem State.wr_puntIn (s : State) (a : Nat) (w : Word) : (s.wr a w).puntIn = s.puntIn := (rfl)
@[simp] theorem State.setFld_puntIn (s : State) (a : Nat) (f : Fld) (v : Nat) : (s.setFld a f v).puntIn = s.puntIn := (rfl)
@[simp] theorem State.emitOut_puntIn (s : State) (x : Out) : (s.emitOut x).puntIn = s.puntIn := (rfl)
@[simp] theorem State.wr_workIn (s : State) (a : Nat) (w : Word) : (s.wr a w).workIn = s.workIn := (rfl)
@[simp] theorem State.setFld_workIn (s : State) (a : Nat) (f : Fld) (v : Nat) : (s.setFld a f v).workIn = s.workIn := (rfl)
@[simp] theorem State.emitOut_workIn (s : State) (x : Out) : (s.emitOut x).workIn = s.workIn := (rfl)
@[simp] theorem State.wr_deepFreeing (s : State) (a : Nat) (w : Word) : (s.wr a w).deepFreeing = s.deepFreeing := (rfl)
@[simp] theorem State.setFld_deepFreeing (s : State) (a : Nat) (f : Fld) (v : Nat) : (s.setFld a f v).deepFreeing = s.deepFreeing := (rfl)
@[simp] theorem State.emitOut_deepFreeing (s : State) (x : Out) : (s.emitOut x).deepFreeing = s.deepFreeing := (rfl)
@[simp] theorem State.wr_pols (s : State) (a : Nat) (w : Word) : (s.wr a w).pols = s.pols := (rfl)
@[simp] theorem State.setFld_pols (s : State) (a : Nat) (f : Fld) (v : Nat) : (s.setFld a f v).pols = s.pols := (rfl)
@[simp] theorem State.emitOut_pols (s : State) (x : Out) : (s.emitOut x).pols = s.pols := (rfl)
@[simp] theorem State.wr_svFifo (s : State) (a : Nat) (w : Word) : (s.wr a w).svFifo = s.svFifo := (rfl)
@[simp] theorem State.setFld_svFifo (s : State) (a : Nat) (f : Fld) (v : Nat) : (s.setFld a f v).svFifo = s.svFifo := (rfl)
@[simp] theorem State.emitOut_svFifo (s : State) (x : Out) : (s.emitOut x).svFifo = s.svFifo := (rfl)
@[simp] theorem State.wr_svRing (s : State) (a : Nat) (w : Word) : (s.wr a w).svRing = s.svRing := (rfl)
@[simp] theorem State.setFld_svRing (s : State) (a : Nat) (f : Fld) (v : Nat) : (s.setFld a f v).svRing = s.svRing := (rfl)
@[simp] theorem State.emitOut_svRing (s : State) (x : Out) : (s.emitOut x).svRing = s.svRing := (rfl)
@[simp] theorem State.wr_twinPortUp (s : State) (a : Nat) (w : Word) : (s.wr a w).twinPortUp = s.twinPortUp := (rfl)
@[simp] theorem State.setFld_twinPortUp (s : State) (a : Nat) (f : Fld) (v : Nat) : (s.setFld a f v).twinPortUp = s.twinPortUp := (rfl)
@[simp] theorem State.emitOut_twinPortUp (s : State) (x : Out) : (s.emitOut x).twinPortUp = s.twinPortUp := (rfl)
@[simp] theorem State.wr_hist (s : State) (a : Nat) (w : Word) : (s.wr a w).hist = s.hist := (rfl)
@[simp] theorem State.setFld_hist (s : State) (a : Nat) (f : Fld) (v : Nat) : (s.setFld a f v).hist = s.hist := (rfl)
@[simp] theorem State.emitOut_hist (s : State) (x : Out) : (s.emitOut x).hist = s.hist := (rfl)
@[simp] theorem State.wr_ctrInt (s : State) (a : Nat) (w : Word) : (s.wr a w).ctrInt = s.ctrInt := (rfl)
@[simp] theorem State.setFld_ctrInt (s : State) (a : Nat) (f : Fld) (v : Nat) : (s.setFld a f v).ctrInt = s.ctrInt := (rfl)
@[simp] theorem State.emitOut_ctrInt (s : State) (x : Out) : (s.emitOut x).ctrInt = s.ctrInt := (rfl)
@[simp] theorem State.wr_sampleReg (s : State) (a : Nat) (w : Word) : (s.wr a w).sampleReg = s.sampleReg := (rfl)
@[simp] theorem State.setFld_sampleReg (s : State) (a : Nat) (f : Fld) (v : Nat) : (s.setFld a f v).sampleReg = s.sampleReg := (rfl)
@[simp] theorem State.emitOut_sampleReg (s : State) (x : Out) : (s.emitOut x).sampleReg = s.sampleReg := (rfl)
@[simp] theorem State.wr_tagReg (s : State) (a : Nat) (w : Word) : (s.wr a w).tagReg = s.tagReg := (rfl)
@[simp] theorem State.setFld_tagReg (s : State) (a : Nat) (f : Fld) (v : Nat) : (s.setFld a f v).tagReg = s.tagReg := (rfl)
@[simp] theorem State.emitOut_tagReg (s : State) (x : Out) : (s.emitOut x).tagReg = s.tagReg := (rfl)
@[simp] theorem State.wr_itagReg (s : State) (a : Nat) (w : Word) : (s.wr a w).itagReg = s.itagReg := (rfl)
@[simp] theorem State.setFld_itagReg (s : State) (a : Nat) (f : Fld) (v : Nat) : (s.setFld a f v).itagReg = s.itagReg := (rfl)
@[simp] theorem State.emitOut_itagReg (s : State) (x : Out) : (s.emitOut x).itagReg = s.itagReg := (rfl)
@[simp] theorem State.wr_tagLast (s : State) (a : Nat) (w : Word) : (s.wr a w).tagLast = s.tagLast := (rfl)
@[simp] theorem State.setFld_tagLast (s : State) (a : Nat) (f : Fld) (v : Nat) : (s.setFld a f v).tagLast = s.tagLast := (rfl)
@[simp] theorem State.emitOut_tagLast (s : State) (x : Out) : (s.emitOut x).tagLast = s.tagLast := (rfl)
@[simp] theorem State.wr_itagLast (s : State) (a : Nat) (w : Word) : (s.wr a w).itagLast = s.itagLast := (rfl)
@[simp] theorem State.setFld_itagLast (s : State) (a : Nat) (f : Fld) (v : Nat) : (s.setFld a f v).itagLast = s.itagLast := (rfl)
@[simp] theorem State.emitOut_itagLast (s : State) (x : Out) : (s.emitOut x).itagLast = s.itagLast := (rfl)
@[simp] theorem State.wr_tagSeq (s : State) (a : Nat) (w : Word) : (s.wr a w).tagSeq = s.tagSeq := (rfl)
@[simp] theorem State.setFld_tagSeq (s : State) (a : Nat) (f : Fld) (v : Nat) : (s.setFld a f v).tagSeq = s.tagSeq := (rfl)
@[simp] theorem State.emitOut_tagSeq (s : State) (x : Out) : (s.emitOut x).tagSeq = s.tagSeq := (rfl)
@[simp] theorem State.wr_traceSeq (s : State) (a : Nat) (w : Word) : (s.wr a w).traceSeq = s.traceSeq := (rfl)
@[simp] theorem State.setFld_traceSeq (s : State) (a : Nat) (f : Fld) (v : Nat) : (s.setFld a f v).traceSeq = s.traceSeq := (rfl)
@[simp] theorem State.emitOut_traceSeq (s : State) (x : Out) : (s.emitOut x).traceSeq = s.traceSeq := (rfl)
@[simp] theorem State.wr_traceIn (s : State) (a : Nat) (w : Word) : (s.wr a w).traceIn = s.traceIn := (rfl)
@[simp] theorem State.setFld_traceIn (s : State) (a : Nat) (f : Fld) (v : Nat) : (s.setFld a f v).traceIn = s.traceIn := (rfl)
@[simp] theorem State.emitOut_traceIn (s : State) (x : Out) : (s.emitOut x).traceIn = s.traceIn := (rfl)
@[simp] theorem State.wr_mirrorOut (s : State) (a : Nat) (w : Word) : (s.wr a w).mirrorOut = s.mirrorOut := (rfl)
@[simp] theorem State.setFld_mirrorOut (s : State) (a : Nat) (f : Fld) (v : Nat) : (s.setFld a f v).mirrorOut = s.mirrorOut := (rfl)
@[simp] theorem State.emitOut_mirrorOut (s : State) (x : Out) : (s.emitOut x).mirrorOut = s.mirrorOut := (rfl)
@[simp] theorem State.wr_mirrorWait (s : State) (a : Nat) (w : Word) : (s.wr a w).mirrorWait = s.mirrorWait := (rfl)
@[simp] theorem State.setFld_mirrorWait (s : State) (a : Nat) (f : Fld) (v : Nat) : (s.setFld a f v).mirrorWait = s.mirrorWait := (rfl)
@[simp] theorem State.emitOut_mirrorWait (s : State) (x : Out) : (s.emitOut x).mirrorWait = s.mirrorWait := (rfl)
@[simp] theorem State.wr_mseqTx (s : State) (a : Nat) (w : Word) : (s.wr a w).mseqTx = s.mseqTx := (rfl)
@[simp] theorem State.setFld_mseqTx (s : State) (a : Nat) (f : Fld) (v : Nat) : (s.setFld a f v).mseqTx = s.mseqTx := (rfl)
@[simp] theorem State.emitOut_mseqTx (s : State) (x : Out) : (s.emitOut x).mseqTx = s.mseqTx := (rfl)
@[simp] theorem State.wr_mseqRx (s : State) (a : Nat) (w : Word) : (s.wr a w).mseqRx = s.mseqRx := (rfl)
@[simp] theorem State.setFld_mseqRx (s : State) (a : Nat) (f : Fld) (v : Nat) : (s.setFld a f v).mseqRx = s.mseqRx := (rfl)
@[simp] theorem State.emitOut_mseqRx (s : State) (x : Out) : (s.emitOut x).mseqRx = s.mseqRx := (rfl)
@[simp] theorem State.wr_bobs (s : State) (a : Nat) (w : Word) : (s.wr a w).bobs = s.bobs := (rfl)
@[simp] theorem State.setFld_bobs (s : State) (a : Nat) (f : Fld) (v : Nat) : (s.setFld a f v).bobs = s.bobs := (rfl)
@[simp] theorem State.emitOut_bobs (s : State) (x : Out) : (s.emitOut x).bobs = s.bobs := (rfl)
@[simp] theorem State.wr_windIn (s : State) (a : Nat) (w : Word) : (s.wr a w).windIn = s.windIn := (rfl)
@[simp] theorem State.setFld_windIn (s : State) (a : Nat) (f : Fld) (v : Nat) : (s.setFld a f v).windIn = s.windIn := (rfl)
@[simp] theorem State.emitOut_windIn (s : State) (x : Out) : (s.emitOut x).windIn = s.windIn := (rfl)
@[simp] theorem State.wr_winder (s : State) (a : Nat) (w : Word) : (s.wr a w).winder = s.winder := (rfl)
@[simp] theorem State.setFld_winder (s : State) (a : Nat) (f : Fld) (v : Nat) : (s.setFld a f v).winder = s.winder := (rfl)
@[simp] theorem State.emitOut_winder (s : State) (x : Out) : (s.emitOut x).winder = s.winder := (rfl)
@[simp] theorem State.wr_pool (s : State) (a : Nat) (w : Word) : (s.wr a w).pool = s.pool := (rfl)
@[simp] theorem State.setFld_pool (s : State) (a : Nat) (f : Fld) (v : Nat) : (s.setFld a f v).pool = s.pool := (rfl)
@[simp] theorem State.emitOut_pool (s : State) (x : Out) : (s.emitOut x).pool = s.pool := (rfl)
@[simp] theorem State.wr_ports (s : State) (a : Nat) (w : Word) : (s.wr a w).ports = s.ports := (rfl)
@[simp] theorem State.setFld_ports (s : State) (a : Nat) (f : Fld) (v : Nat) : (s.setFld a f v).ports = s.ports := (rfl)
@[simp] theorem State.emitOut_ports (s : State) (x : Out) : (s.emitOut x).ports = s.ports := (rfl)
@[simp] theorem State.wr_refGood (s : State) (a : Nat) (w : Word) : (s.wr a w).refGood = s.refGood := (rfl)
@[simp] theorem State.setFld_refGood (s : State) (a : Nat) (f : Fld) (v : Nat) : (s.setFld a f v).refGood = s.refGood := (rfl)
@[simp] theorem State.emitOut_refGood (s : State) (x : Out) : (s.emitOut x).refGood = s.refGood := (rfl)
@[simp] theorem State.wr_refWin (s : State) (a : Nat) (w : Word) : (s.wr a w).refWin = s.refWin := (rfl)
@[simp] theorem State.setFld_refWin (s : State) (a : Nat) (f : Fld) (v : Nat) : (s.setFld a f v).refWin = s.refWin := (rfl)
@[simp] theorem State.emitOut_refWin (s : State) (x : Out) : (s.emitOut x).refWin = s.refWin := (rfl)
@[simp] theorem State.wr_ctlIn (s : State) (a : Nat) (w : Word) : (s.wr a w).ctlIn = s.ctlIn := (rfl)
@[simp] theorem State.setFld_ctlIn (s : State) (a : Nat) (f : Fld) (v : Nat) : (s.setFld a f v).ctlIn = s.ctlIn := (rfl)
@[simp] theorem State.emitOut_ctlIn (s : State) (x : Out) : (s.emitOut x).ctlIn = s.ctlIn := (rfl)
@[simp] theorem State.wr_parserIn (s : State) (a : Nat) (w : Word) : (s.wr a w).parserIn = s.parserIn := (rfl)
@[simp] theorem State.setFld_parserIn (s : State) (a : Nat) (f : Fld) (v : Nat) : (s.setFld a f v).parserIn = s.parserIn := (rfl)
@[simp] theorem State.emitOut_parserIn (s : State) (x : Out) : (s.emitOut x).parserIn = s.parserIn := (rfl)
@[simp] theorem State.wr_ods (s : State) (a : Nat) (w : Word) : (s.wr a w).ods = s.ods := (rfl)
@[simp] theorem State.setFld_ods (s : State) (a : Nat) (f : Fld) (v : Nat) : (s.setFld a f v).ods = s.ods := (rfl)
@[simp] theorem State.emitOut_ods (s : State) (x : Out) : (s.emitOut x).ods = s.ods := (rfl)
@[simp] theorem State.wr_chans (s : State) (a : Nat) (w : Word) : (s.wr a w).chans = s.chans := (rfl)
@[simp] theorem State.setFld_chans (s : State) (a : Nat) (f : Fld) (v : Nat) : (s.setFld a f v).chans = s.chans := (rfl)
@[simp] theorem State.emitOut_chans (s : State) (x : Out) : (s.emitOut x).chans = s.chans := (rfl)
@[simp] theorem State.wr_plcas (s : State) (a : Nat) (w : Word) : (s.wr a w).plcas = s.plcas := (rfl)
@[simp] theorem State.setFld_plcas (s : State) (a : Nat) (f : Fld) (v : Nat) : (s.setFld a f v).plcas = s.plcas := (rfl)
@[simp] theorem State.emitOut_plcas (s : State) (x : Out) : (s.emitOut x).plcas = s.plcas := (rfl)
@[simp] theorem State.wr_vbs (s : State) (a : Nat) (w : Word) : (s.wr a w).vbs = s.vbs := (rfl)
@[simp] theorem State.setFld_vbs (s : State) (a : Nat) (f : Fld) (v : Nat) : (s.setFld a f v).vbs = s.vbs := (rfl)
@[simp] theorem State.emitOut_vbs (s : State) (x : Out) : (s.emitOut x).vbs = s.vbs := (rfl)
@[simp] theorem State.wr_injs (s : State) (a : Nat) (w : Word) : (s.wr a w).injs = s.injs := (rfl)
@[simp] theorem State.setFld_injs (s : State) (a : Nat) (f : Fld) (v : Nat) : (s.setFld a f v).injs = s.injs := (rfl)
@[simp] theorem State.emitOut_injs (s : State) (x : Out) : (s.emitOut x).injs = s.injs := (rfl)
@[simp] theorem State.wr_attRx (s : State) (a : Nat) (w : Word) : (s.wr a w).attRx = s.attRx := (rfl)
@[simp] theorem State.setFld_attRx (s : State) (a : Nat) (f : Fld) (v : Nat) : (s.setFld a f v).attRx = s.attRx := (rfl)
@[simp] theorem State.emitOut_attRx (s : State) (x : Out) : (s.emitOut x).attRx = s.attRx := (rfl)
@[simp] theorem State.wr_attTx (s : State) (a : Nat) (w : Word) : (s.wr a w).attTx = s.attTx := (rfl)
@[simp] theorem State.setFld_attTx (s : State) (a : Nat) (f : Fld) (v : Nat) : (s.setFld a f v).attTx = s.attTx := (rfl)
@[simp] theorem State.emitOut_attTx (s : State) (x : Out) : (s.emitOut x).attTx = s.attTx := (rfl)
@[simp] theorem State.wr_ntscfIn (s : State) (a : Nat) (w : Word) : (s.wr a w).ntscfIn = s.ntscfIn := (rfl)
@[simp] theorem State.setFld_ntscfIn (s : State) (a : Nat) (f : Fld) (v : Nat) : (s.setFld a f v).ntscfIn = s.ntscfIn := (rfl)
@[simp] theorem State.emitOut_ntscfIn (s : State) (x : Out) : (s.emitOut x).ntscfIn = s.ntscfIn := (rfl)
@[simp] theorem State.wr_sta (s : State) (a : Nat) (w : Word) : (s.wr a w).sta = s.sta := (rfl)
@[simp] theorem State.setFld_sta (s : State) (a : Nat) (f : Fld) (v : Nat) : (s.setFld a f v).sta = s.sta := (rfl)
@[simp] theorem State.emitOut_sta (s : State) (x : Out) : (s.emitOut x).sta = s.sta := (rfl)
@[simp] theorem State.wr_staCmd (s : State) (a : Nat) (w : Word) : (s.wr a w).staCmd = s.staCmd := (rfl)
@[simp] theorem State.setFld_staCmd (s : State) (a : Nat) (f : Fld) (v : Nat) : (s.setFld a f v).staCmd = s.staCmd := (rfl)
@[simp] theorem State.emitOut_staCmd (s : State) (x : Out) : (s.emitOut x).staCmd = s.staCmd := (rfl)
@[simp] theorem State.wr_lpm (s : State) (a : Nat) (w : Word) : (s.wr a w).lpm = s.lpm := (rfl)
@[simp] theorem State.setFld_lpm (s : State) (a : Nat) (f : Fld) (v : Nat) : (s.setFld a f v).lpm = s.lpm := (rfl)
@[simp] theorem State.emitOut_lpm (s : State) (x : Out) : (s.emitOut x).lpm = s.lpm := (rfl)
@[simp] theorem State.wr_lpmCmd (s : State) (a : Nat) (w : Word) : (s.wr a w).lpmCmd = s.lpmCmd := (rfl)
@[simp] theorem State.setFld_lpmCmd (s : State) (a : Nat) (f : Fld) (v : Nat) : (s.setFld a f v).lpmCmd = s.lpmCmd := (rfl)
@[simp] theorem State.emitOut_lpmCmd (s : State) (x : Out) : (s.emitOut x).lpmCmd = s.lpmCmd := (rfl)
@[simp] theorem State.wr_frSeq (s : State) (a : Nat) (w : Word) : (s.wr a w).frSeq = s.frSeq := (rfl)
@[simp] theorem State.setFld_frSeq (s : State) (a : Nat) (f : Fld) (v : Nat) : (s.setFld a f v).frSeq = s.frSeq := (rfl)
@[simp] theorem State.emitOut_frSeq (s : State) (x : Out) : (s.emitOut x).frSeq = s.frSeq := (rfl)
@[simp] theorem State.wr_frers (s : State) (a : Nat) (w : Word) : (s.wr a w).frers = s.frers := (rfl)
@[simp] theorem State.setFld_frers (s : State) (a : Nat) (f : Fld) (v : Nat) : (s.setFld a f v).frers = s.frers := (rfl)
@[simp] theorem State.emitOut_frers (s : State) (x : Out) : (s.emitOut x).frers = s.frers := (rfl)
@[simp] theorem State.wr_frShadow (s : State) (a : Nat) (w : Word) : (s.wr a w).frShadow = s.frShadow := (rfl)
@[simp] theorem State.setFld_frShadow (s : State) (a : Nat) (f : Fld) (v : Nat) : (s.setFld a f v).frShadow = s.frShadow := (rfl)
@[simp] theorem State.emitOut_frShadow (s : State) (x : Out) : (s.emitOut x).frShadow = s.frShadow := (rfl)
@[simp] theorem State.wr_flaws (s : State) (a : Nat) (w : Word) : (s.wr a w).flaws = s.flaws := (rfl)
@[simp] theorem State.setFld_flaws (s : State) (a : Nat) (f : Fld) (v : Nat) : (s.setFld a f v).flaws = s.flaws := (rfl)
@[simp] theorem State.emitOut_flaws (s : State) (x : Out) : (s.emitOut x).flaws = s.flaws := (rfl)
@[simp] theorem State.wr_poison (s : State) (a : Nat) (w : Word) : (s.wr a w).poison = s.poison := (rfl)
@[simp] theorem State.setFld_poison (s : State) (a : Nat) (f : Fld) (v : Nat) : (s.setFld a f v).poison = s.poison := (rfl)
@[simp] theorem State.emitOut_poison (s : State) (x : Out) : (s.emitOut x).poison = s.poison := (rfl)
@[simp] theorem State.wr_merge (s : State) (a : Nat) (w : Word) : (s.wr a w).merge = s.merge := (rfl)
@[simp] theorem State.setFld_merge (s : State) (a : Nat) (f : Fld) (v : Nat) : (s.setFld a f v).merge = s.merge := (rfl)
@[simp] theorem State.emitOut_merge (s : State) (x : Out) : (s.emitOut x).merge = s.merge := (rfl)
@[simp] theorem State.wr_leakAt (s : State) (a : Nat) (w : Word) : (s.wr a w).leakAt = s.leakAt := (rfl)
@[simp] theorem State.setFld_leakAt (s : State) (a : Nat) (f : Fld) (v : Nat) : (s.setFld a f v).leakAt = s.leakAt := (rfl)
@[simp] theorem State.emitOut_leakAt (s : State) (x : Out) : (s.emitOut x).leakAt = s.leakAt := (rfl)
@[simp] theorem State.wr_backPress (s : State) (a : Nat) (w : Word) : (s.wr a w).backPress = s.backPress := (rfl)
@[simp] theorem State.setFld_backPress (s : State) (a : Nat) (f : Fld) (v : Nat) : (s.setFld a f v).backPress = s.backPress := (rfl)
@[simp] theorem State.emitOut_backPress (s : State) (x : Out) : (s.emitOut x).backPress = s.backPress := (rfl)
@[simp] theorem State.wr_scrubAt (s : State) (a : Nat) (w : Word) : (s.wr a w).scrubAt = s.scrubAt := (rfl)
@[simp] theorem State.setFld_scrubAt (s : State) (a : Nat) (f : Fld) (v : Nat) : (s.setFld a f v).scrubAt = s.scrubAt := (rfl)
@[simp] theorem State.emitOut_scrubAt (s : State) (x : Out) : (s.emitOut x).scrubAt = s.scrubAt := (rfl)
@[simp] theorem State.wr_engs (s : State) (a : Nat) (w : Word) : (s.wr a w).engs = s.engs := (rfl)
@[simp] theorem State.setFld_engs (s : State) (a : Nat) (f : Fld) (v : Nat) : (s.setFld a f v).engs = s.engs := (rfl)
@[simp] theorem State.emitOut_engs (s : State) (x : Out) : (s.emitOut x).engs = s.engs := (rfl)
@[simp] theorem State.wr_heap (s : State) (a : Nat) (w : Word) : (s.wr a w).heap = s.heap := (rfl)
@[simp] theorem State.setFld_heap (s : State) (a : Nat) (f : Fld) (v : Nat) : (s.setFld a f v).heap = s.heap := (rfl)
@[simp] theorem State.emitOut_heap (s : State) (x : Out) : (s.emitOut x).heap = s.heap := (rfl)
@[simp] theorem State.wr_cq (s : State) (a : Nat) (w : Word) : (s.wr a w).cq = s.cq := (rfl)
@[simp] theorem State.setFld_cq (s : State) (a : Nat) (f : Fld) (v : Nat) : (s.setFld a f v).cq = s.cq := (rfl)
@[simp] theorem State.emitOut_cq (s : State) (x : Out) : (s.emitOut x).cq = s.cq := (rfl)
@[simp] theorem State.wr_excTimes (s : State) (a : Nat) (w : Word) : (s.wr a w).excTimes = s.excTimes := (rfl)
@[simp] theorem State.setFld_excTimes (s : State) (a : Nat) (f : Fld) (v : Nat) : (s.setFld a f v).excTimes = s.excTimes := (rfl)
@[simp] theorem State.emitOut_excTimes (s : State) (x : Out) : (s.emitOut x).excTimes = s.excTimes := (rfl)
@[simp] theorem State.wr_snapBank0 (s : State) (a : Nat) (w : Word) : (s.wr a w).snapBank0 = s.snapBank0 := (rfl)
@[simp] theorem State.setFld_snapBank0 (s : State) (a : Nat) (f : Fld) (v : Nat) : (s.setFld a f v).snapBank0 = s.snapBank0 := (rfl)
@[simp] theorem State.emitOut_snapBank0 (s : State) (x : Out) : (s.emitOut x).snapBank0 = s.snapBank0 := (rfl)
@[simp] theorem State.wr_snapBank1 (s : State) (a : Nat) (w : Word) : (s.wr a w).snapBank1 = s.snapBank1 := (rfl)
@[simp] theorem State.setFld_snapBank1 (s : State) (a : Nat) (f : Fld) (v : Nat) : (s.setFld a f v).snapBank1 = s.snapBank1 := (rfl)
@[simp] theorem State.emitOut_snapBank1 (s : State) (x : Out) : (s.emitOut x).snapBank1 = s.snapBank1 := (rfl)
@[simp] theorem State.wr_snapCopy (s : State) (a : Nat) (w : Word) : (s.wr a w).snapCopy = s.snapCopy := (rfl)
@[simp] theorem State.setFld_snapCopy (s : State) (a : Nat) (f : Fld) (v : Nat) : (s.setFld a f v).snapCopy = s.snapCopy := (rfl)
@[simp] theorem State.emitOut_snapCopy (s : State) (x : Out) : (s.emitOut x).snapCopy = s.snapCopy := (rfl)
@[simp] theorem State.wr_snapClr (s : State) (a : Nat) (w : Word) : (s.wr a w).snapClr = s.snapClr := (rfl)
@[simp] theorem State.setFld_snapClr (s : State) (a : Nat) (f : Fld) (v : Nat) : (s.setFld a f v).snapClr = s.snapClr := (rfl)
@[simp] theorem State.emitOut_snapClr (s : State) (x : Out) : (s.emitOut x).snapClr = s.snapClr := (rfl)
@[simp] theorem State.wr_snapAgain (s : State) (a : Nat) (w : Word) : (s.wr a w).snapAgain = s.snapAgain := (rfl)
@[simp] theorem State.setFld_snapAgain (s : State) (a : Nat) (f : Fld) (v : Nat) : (s.setFld a f v).snapAgain = s.snapAgain := (rfl)
@[simp] theorem State.emitOut_snapAgain (s : State) (x : Out) : (s.emitOut x).snapAgain = s.snapAgain := (rfl)
@[simp] theorem State.wr_snapLast (s : State) (a : Nat) (w : Word) : (s.wr a w).snapLast = s.snapLast := (rfl)
@[simp] theorem State.setFld_snapLast (s : State) (a : Nat) (f : Fld) (v : Nat) : (s.setFld a f v).snapLast = s.snapLast := (rfl)
@[simp] theorem State.emitOut_snapLast (s : State) (x : Out) : (s.emitOut x).snapLast = s.snapLast := (rfl)
@[simp] theorem State.wr_traceQ (s : State) (a : Nat) (w : Word) : (s.wr a w).traceQ = s.traceQ := (rfl)
@[simp] theorem State.setFld_traceQ (s : State) (a : Nat) (f : Fld) (v : Nat) : (s.setFld a f v).traceQ = s.traceQ := (rfl)
@[simp] theorem State.emitOut_traceQ (s : State) (x : Out) : (s.emitOut x).traceQ = s.traceQ := (rfl)
@[simp] theorem State.wr_traceLoss (s : State) (a : Nat) (w : Word) : (s.wr a w).traceLoss = s.traceLoss := (rfl)
@[simp] theorem State.setFld_traceLoss (s : State) (a : Nat) (f : Fld) (v : Nat) : (s.setFld a f v).traceLoss = s.traceLoss := (rfl)
@[simp] theorem State.emitOut_traceLoss (s : State) (x : Out) : (s.emitOut x).traceLoss = s.traceLoss := (rfl)
@[simp] theorem State.wr_traceFree (s : State) (a : Nat) (w : Word) : (s.wr a w).traceFree = s.traceFree := (rfl)
@[simp] theorem State.setFld_traceFree (s : State) (a : Nat) (f : Fld) (v : Nat) : (s.setFld a f v).traceFree = s.traceFree := (rfl)
@[simp] theorem State.emitOut_traceFree (s : State) (x : Out) : (s.emitOut x).traceFree = s.traceFree := (rfl)
@[simp] theorem State.wr_traceFrame (s : State) (a : Nat) (w : Word) : (s.wr a w).traceFrame = s.traceFrame := (rfl)
@[simp] theorem State.setFld_traceFrame (s : State) (a : Nat) (f : Fld) (v : Nat) : (s.setFld a f v).traceFrame = s.traceFrame := (rfl)
@[simp] theorem State.emitOut_traceFrame (s : State) (x : Out) : (s.emitOut x).traceFrame = s.traceFrame := (rfl)
@[simp] theorem State.wr_coal (s : State) (a : Nat) (w : Word) : (s.wr a w).coal = s.coal := (rfl)
@[simp] theorem State.setFld_coal (s : State) (a : Nat) (f : Fld) (v : Nat) : (s.setFld a f v).coal = s.coal := (rfl)
@[simp] theorem State.emitOut_coal (s : State) (x : Out) : (s.emitOut x).coal = s.coal := (rfl)
@[simp] theorem State.wr_coalIn (s : State) (a : Nat) (w : Word) : (s.wr a w).coalIn = s.coalIn := (rfl)
@[simp] theorem State.setFld_coalIn (s : State) (a : Nat) (f : Fld) (v : Nat) : (s.setFld a f v).coalIn = s.coalIn := (rfl)
@[simp] theorem State.emitOut_coalIn (s : State) (x : Out) : (s.emitOut x).coalIn = s.coalIn := (rfl)
@[simp] theorem State.wr_coalFree (s : State) (a : Nat) (w : Word) : (s.wr a w).coalFree = s.coalFree := (rfl)
@[simp] theorem State.setFld_coalFree (s : State) (a : Nat) (f : Fld) (v : Nat) : (s.setFld a f v).coalFree = s.coalFree := (rfl)
@[simp] theorem State.emitOut_coalFree (s : State) (x : Out) : (s.emitOut x).coalFree = s.coalFree := (rfl)
@[simp] theorem State.wr_runAt (s : State) (a : Nat) (w : Word) : (s.wr a w).runAt = s.runAt := (rfl)
@[simp] theorem State.setFld_runAt (s : State) (a : Nat) (f : Fld) (v : Nat) : (s.setFld a f v).runAt = s.runAt := (rfl)
@[simp] theorem State.emitOut_runAt (s : State) (x : Out) : (s.emitOut x).runAt = s.runAt := (rfl)
@[simp] theorem State.wr_th (s : State) (a : Nat) (w : Word) : (s.wr a w).th = s.th := (rfl)
@[simp] theorem State.setFld_th (s : State) (a : Nat) (f : Fld) (v : Nat) : (s.setFld a f v).th = s.th := (rfl)
@[simp] theorem State.emitOut_th (s : State) (x : Out) : (s.emitOut x).th = s.th := (rfl)
@[simp] theorem State.wr_oap (s : State) (a : Nat) (w : Word) : (s.wr a w).oap = s.oap := (rfl)
@[simp] theorem State.setFld_oap (s : State) (a : Nat) (f : Fld) (v : Nat) : (s.setFld a f v).oap = s.oap := (rfl)
@[simp] theorem State.emitOut_oap (s : State) (x : Out) : (s.emitOut x).oap = s.oap := (rfl)
@[simp] theorem State.wr_sm (s : State) (a : Nat) (w : Word) : (s.wr a w).sm = s.sm := (rfl)
@[simp] theorem State.setFld_sm (s : State) (a : Nat) (f : Fld) (v : Nat) : (s.setFld a f v).sm = s.sm := (rfl)
@[simp] theorem State.emitOut_sm (s : State) (x : Out) : (s.emitOut x).sm = s.sm := (rfl)
@[simp] theorem State.wr_pw (s : State) (a : Nat) (w : Word) : (s.wr a w).pw = s.pw := (rfl)
@[simp] theorem State.setFld_pw (s : State) (a : Nat) (f : Fld) (v : Nat) : (s.setFld a f v).pw = s.pw := (rfl)
@[simp] theorem State.emitOut_pw (s : State) (x : Out) : (s.emitOut x).pw = s.pw := (rfl)
@[simp] theorem State.wr_jn (s : State) (a : Nat) (w : Word) : (s.wr a w).jn = s.jn := (rfl)
@[simp] theorem State.setFld_jn (s : State) (a : Nat) (f : Fld) (v : Nat) : (s.setFld a f v).jn = s.jn := (rfl)
@[simp] theorem State.emitOut_jn (s : State) (x : Out) : (s.emitOut x).jn = s.jn := (rfl)
@[simp] theorem State.wr_hs (s : State) (a : Nat) (w : Word) : (s.wr a w).hs = s.hs := (rfl)
@[simp] theorem State.setFld_hs (s : State) (a : Nat) (f : Fld) (v : Nat) : (s.setFld a f v).hs = s.hs := (rfl)
@[simp] theorem State.emitOut_hs (s : State) (x : Out) : (s.emitOut x).hs = s.hs := (rfl)
@[simp] theorem State.wr_freeCtr (s : State) (a : Nat) (w : Word) : (s.wr a w).freeCtr = s.freeCtr := (rfl)
@[simp] theorem State.setFld_freeCtr (s : State) (a : Nat) (f : Fld) (v : Nat) : (s.setFld a f v).freeCtr = s.freeCtr := (rfl)
@[simp] theorem State.emitOut_freeCtr (s : State) (x : Out) : (s.emitOut x).freeCtr = s.freeCtr := (rfl)
@[simp] theorem State.wr_out (s : State) (a : Nat) (w : Word) : (s.wr a w).out = s.out := (rfl)
@[simp] theorem State.setFld_out (s : State) (a : Nat) (f : Fld) (v : Nat) : (s.setFld a f v).out = s.out := (rfl)
@[simp] theorem State.wr_pending (s : State) (a : Nat) (w : Word) : (s.wr a w).pending = s.pending := (rfl)
@[simp] theorem State.setFld_pending (s : State) (a : Nat) (f : Fld) (v : Nat) : (s.setFld a f v).pending = s.pending := (rfl)
@[simp] theorem State.emitOut_pending (s : State) (x : Out) : (s.emitOut x).pending = s.pending := (rfl)

/-! ### Settling -/

/-- Sending a message touches only what has left the device and the pending bits. -/
theorem State.sendMsix_frame (s : State) (v : Nat) :
    s.sendMsix v = { s with out := (s.sendMsix v).out, msixPend := (s.sendMsix v).msixPend } := by
  unfold State.sendMsix
  split <;> rfl

theorem sendSources_fold (m : Nat) (l : List Nat) (s : State) :
    l.foldl (fun t i => if m.testBit i then t.sendMsix i else t) s =
      { s with out := (l.foldl (fun t i => if m.testBit i then t.sendMsix i else t) s).out
               msixPend := (l.foldl (fun t i => if m.testBit i then t.sendMsix i else t) s).msixPend } := by
  induction l generalizing s with
  | nil => rfl
  | cons i l ih =>
    simp only [List.foldl_cons]
    split
    · rw [ih, State.sendMsix_frame s i]
    · exact ih s

/-- The messages of the risen sources touch only what has left the device and the pending bits. -/
theorem State.sendSources_frame (s : State) (m : Nat) :
    s.sendSources m = { s with out := (s.sendSources m).out, msixPend := (s.sendSources m).msixPend } :=
  sendSources_fold m (List.range 15) s

@[simp] theorem settle_mer (s t : State) : (settle s t).mer = t.mer := by
  simp only [settle]; rw [State.sendSources_frame]
@[simp] theorem settle_regs (s t : State) : (settle s t).regs = t.regs := by
  simp only [settle]; rw [State.sendSources_frame]
@[simp] theorem settle_lat (s t : State) : (settle s t).lat = t.lat := by
  simp only [settle]; rw [State.sendSources_frame]
@[simp] theorem settle_stage (s t : State) : (settle s t).stage = t.stage := by
  simp only [settle]; rw [State.sendSources_frame]
@[simp] theorem settle_msixTable (s t : State) : (settle s t).msixTable = t.msixTable := by
  simp only [settle]; rw [State.sendSources_frame]
@[simp] theorem settle_drops (s t : State) : (settle s t).drops = t.drops := by
  simp only [settle]; rw [State.sendSources_frame]
@[simp] theorem settle_node (s t : State) : (settle s t).node = t.node := by
  simp only [settle]; rw [State.sendSources_frame]
@[simp] theorem settle_nodeUnder (s t : State) : (settle s t).nodeUnder = t.nodeUnder := by
  simp only [settle]; rw [State.sendSources_frame]
@[simp] theorem settle_nodeSince (s t : State) : (settle s t).nodeSince = t.nodeSince := by
  simp only [settle]; rw [State.sendSources_frame]
@[simp] theorem settle_logQueue (s t : State) : (settle s t).logQueue = t.logQueue := by
  simp only [settle]; rw [State.sendSources_frame]
@[simp] theorem settle_logLost (s t : State) : (settle s t).logLost = t.logLost := by
  simp only [settle]; rw [State.sendSources_frame]
@[simp] theorem settle_mons (s t : State) : (settle s t).mons = t.mons := by
  simp only [settle]; rw [State.sendSources_frame]
@[simp] theorem settle_govs (s t : State) : (settle s t).govs = t.govs := by
  simp only [settle]; rw [State.sendSources_frame]
@[simp] theorem settle_admitAt (s t : State) : (settle s t).admitAt = t.admitAt := by
  simp only [settle]; rw [State.sendSources_frame]
@[simp] theorem settle_tamperAlarm (s t : State) : (settle s t).tamperAlarm = t.tamperAlarm := by
  simp only [settle]; rw [State.sendSources_frame]
@[simp] theorem settle_safeAlarm (s t : State) : (settle s t).safeAlarm = t.safeAlarm := by
  simp only [settle]; rw [State.sendSources_frame]
@[simp] theorem settle_hostUp (s t : State) : (settle s t).hostUp = t.hostUp := by
  simp only [settle]; rw [State.sendSources_frame]
@[simp] theorem settle_datums (s t : State) : (settle s t).datums = t.datums := by
  simp only [settle]; rw [State.sendSources_frame]
@[simp] theorem settle_datumStage (s t : State) : (settle s t).datumStage = t.datumStage := by
  simp only [settle]; rw [State.sendSources_frame]
@[simp] theorem settle_servo (s t : State) : (settle s t).servo = t.servo := by
  simp only [settle]; rw [State.sendSources_frame]
@[simp] theorem settle_tsqs (s t : State) : (settle s t).tsqs = t.tsqs := by
  simp only [settle]; rw [State.sendSources_frame]
@[simp] theorem settle_ppsiLast (s t : State) : (settle s t).ppsiLast = t.ppsiLast := by
  simp only [settle]; rw [State.sendSources_frame]
@[simp] theorem settle_ppsoHigh (s t : State) : (settle s t).ppsoHigh = t.ppsoHigh := by
  simp only [settle]; rw [State.sendSources_frame]
@[simp] theorem settle_ppsoRise (s t : State) : (settle s t).ppsoRise = t.ppsoRise := by
  simp only [settle]; rw [State.sendSources_frame]
@[simp] theorem settle_ppsoNext (s t : State) : (settle s t).ppsoNext = t.ppsoNext := by
  simp only [settle]; rw [State.sendSources_frame]
@[simp] theorem settle_gptp (s t : State) : (settle s t).gptp = t.gptp := by
  simp only [settle]; rw [State.sendSources_frame]
@[simp] theorem settle_datumAsk (s t : State) : (settle s t).datumAsk = t.datumAsk := by
  simp only [settle]; rw [State.sendSources_frame]
@[simp] theorem settle_refBad (s t : State) : (settle s t).refBad = t.refBad := by
  simp only [settle]; rw [State.sendSources_frame]
@[simp] theorem settle_lanes (s t : State) : (settle s t).lanes = t.lanes := by
  simp only [settle]; rw [State.sendSources_frame]
@[simp] theorem settle_laneAlarms (s t : State) : (settle s t).laneAlarms = t.laneAlarms := by
  simp only [settle]; rw [State.sendSources_frame]
@[simp] theorem settle_proofTimes (s t : State) : (settle s t).proofTimes = t.proofTimes := by
  simp only [settle]; rw [State.sendSources_frame]
@[simp] theorem settle_keyMat (s t : State) : (settle s t).keyMat = t.keyMat := by
  simp only [settle]; rw [State.sendSources_frame]
@[simp] theorem settle_kumQueue (s t : State) : (settle s t).kumQueue = t.kumQueue := by
  simp only [settle]; rw [State.sendSources_frame]
@[simp] theorem settle_keyMram (s t : State) : (settle s t).keyMram = t.keyMram := by
  simp only [settle]; rw [State.sendSources_frame]
@[simp] theorem settle_otp (s t : State) : (settle s t).otp = t.otp := by
  simp only [settle]; rw [State.sendSources_frame]
@[simp] theorem settle_anchor (s t : State) : (settle s t).anchor = t.anchor := by
  simp only [settle]; rw [State.sendSources_frame]
@[simp] theorem settle_replies (s t : State) : (settle s t).replies = t.replies := by
  simp only [settle]; rw [State.sendSources_frame]
@[simp] theorem settle_queues (s t : State) : (settle s t).queues = t.queues := by
  simp only [settle]; rw [State.sendSources_frame]
@[simp] theorem settle_chains (s t : State) : (settle s t).chains = t.chains := by
  simp only [settle]; rw [State.sendSources_frame]
@[simp] theorem settle_chainCtr (s t : State) : (settle s t).chainCtr = t.chainCtr := by
  simp only [settle]; rw [State.sendSources_frame]
@[simp] theorem settle_offers (s t : State) : (settle s t).offers = t.offers := by
  simp only [settle]; rw [State.sendSources_frame]
@[simp] theorem settle_puntIn (s t : State) : (settle s t).puntIn = t.puntIn := by
  simp only [settle]; rw [State.sendSources_frame]
@[simp] theorem settle_workIn (s t : State) : (settle s t).workIn = t.workIn := by
  simp only [settle]; rw [State.sendSources_frame]
@[simp] theorem settle_deepFreeing (s t : State) : (settle s t).deepFreeing = t.deepFreeing := by
  simp only [settle]; rw [State.sendSources_frame]
@[simp] theorem settle_pols (s t : State) : (settle s t).pols = t.pols := by
  simp only [settle]; rw [State.sendSources_frame]
@[simp] theorem settle_svFifo (s t : State) : (settle s t).svFifo = t.svFifo := by
  simp only [settle]; rw [State.sendSources_frame]
@[simp] theorem settle_svRing (s t : State) : (settle s t).svRing = t.svRing := by
  simp only [settle]; rw [State.sendSources_frame]
@[simp] theorem settle_twinPortUp (s t : State) : (settle s t).twinPortUp = t.twinPortUp := by
  simp only [settle]; rw [State.sendSources_frame]
@[simp] theorem settle_hist (s t : State) : (settle s t).hist = t.hist := by
  simp only [settle]; rw [State.sendSources_frame]
@[simp] theorem settle_ctrInt (s t : State) : (settle s t).ctrInt = t.ctrInt := by
  simp only [settle]; rw [State.sendSources_frame]
@[simp] theorem settle_sampleReg (s t : State) : (settle s t).sampleReg = t.sampleReg := by
  simp only [settle]; rw [State.sendSources_frame]
@[simp] theorem settle_tagReg (s t : State) : (settle s t).tagReg = t.tagReg := by
  simp only [settle]; rw [State.sendSources_frame]
@[simp] theorem settle_itagReg (s t : State) : (settle s t).itagReg = t.itagReg := by
  simp only [settle]; rw [State.sendSources_frame]
@[simp] theorem settle_tagLast (s t : State) : (settle s t).tagLast = t.tagLast := by
  simp only [settle]; rw [State.sendSources_frame]
@[simp] theorem settle_itagLast (s t : State) : (settle s t).itagLast = t.itagLast := by
  simp only [settle]; rw [State.sendSources_frame]
@[simp] theorem settle_tagSeq (s t : State) : (settle s t).tagSeq = t.tagSeq := by
  simp only [settle]; rw [State.sendSources_frame]
@[simp] theorem settle_traceSeq (s t : State) : (settle s t).traceSeq = t.traceSeq := by
  simp only [settle]; rw [State.sendSources_frame]
@[simp] theorem settle_traceIn (s t : State) : (settle s t).traceIn = t.traceIn := by
  simp only [settle]; rw [State.sendSources_frame]
@[simp] theorem settle_mirrorOut (s t : State) : (settle s t).mirrorOut = t.mirrorOut := by
  simp only [settle]; rw [State.sendSources_frame]
@[simp] theorem settle_mirrorWait (s t : State) : (settle s t).mirrorWait = t.mirrorWait := by
  simp only [settle]; rw [State.sendSources_frame]
@[simp] theorem settle_mseqTx (s t : State) : (settle s t).mseqTx = t.mseqTx := by
  simp only [settle]; rw [State.sendSources_frame]
@[simp] theorem settle_mseqRx (s t : State) : (settle s t).mseqRx = t.mseqRx := by
  simp only [settle]; rw [State.sendSources_frame]
@[simp] theorem settle_bobs (s t : State) : (settle s t).bobs = t.bobs := by
  simp only [settle]; rw [State.sendSources_frame]
@[simp] theorem settle_windIn (s t : State) : (settle s t).windIn = t.windIn := by
  simp only [settle]; rw [State.sendSources_frame]
@[simp] theorem settle_winder (s t : State) : (settle s t).winder = t.winder := by
  simp only [settle]; rw [State.sendSources_frame]
@[simp] theorem settle_pool (s t : State) : (settle s t).pool = t.pool := by
  simp only [settle]; rw [State.sendSources_frame]
@[simp] theorem settle_ports (s t : State) : (settle s t).ports = t.ports := by
  simp only [settle]; rw [State.sendSources_frame]
@[simp] theorem settle_refGood (s t : State) : (settle s t).refGood = t.refGood := by
  simp only [settle]; rw [State.sendSources_frame]
@[simp] theorem settle_refWin (s t : State) : (settle s t).refWin = t.refWin := by
  simp only [settle]; rw [State.sendSources_frame]
@[simp] theorem settle_ctlIn (s t : State) : (settle s t).ctlIn = t.ctlIn := by
  simp only [settle]; rw [State.sendSources_frame]
@[simp] theorem settle_parserIn (s t : State) : (settle s t).parserIn = t.parserIn := by
  simp only [settle]; rw [State.sendSources_frame]
@[simp] theorem settle_ods (s t : State) : (settle s t).ods = t.ods := by
  simp only [settle]; rw [State.sendSources_frame]
@[simp] theorem settle_chans (s t : State) : (settle s t).chans = t.chans := by
  simp only [settle]; rw [State.sendSources_frame]
@[simp] theorem settle_plcas (s t : State) : (settle s t).plcas = t.plcas := by
  simp only [settle]; rw [State.sendSources_frame]
@[simp] theorem settle_vbs (s t : State) : (settle s t).vbs = t.vbs := by
  simp only [settle]; rw [State.sendSources_frame]
@[simp] theorem settle_injs (s t : State) : (settle s t).injs = t.injs := by
  simp only [settle]; rw [State.sendSources_frame]
@[simp] theorem settle_attRx (s t : State) : (settle s t).attRx = t.attRx := by
  simp only [settle]; rw [State.sendSources_frame]
@[simp] theorem settle_attTx (s t : State) : (settle s t).attTx = t.attTx := by
  simp only [settle]; rw [State.sendSources_frame]
@[simp] theorem settle_ntscfIn (s t : State) : (settle s t).ntscfIn = t.ntscfIn := by
  simp only [settle]; rw [State.sendSources_frame]
@[simp] theorem settle_sta (s t : State) : (settle s t).sta = t.sta := by
  simp only [settle]; rw [State.sendSources_frame]
@[simp] theorem settle_staCmd (s t : State) : (settle s t).staCmd = t.staCmd := by
  simp only [settle]; rw [State.sendSources_frame]
@[simp] theorem settle_lpm (s t : State) : (settle s t).lpm = t.lpm := by
  simp only [settle]; rw [State.sendSources_frame]
@[simp] theorem settle_lpmCmd (s t : State) : (settle s t).lpmCmd = t.lpmCmd := by
  simp only [settle]; rw [State.sendSources_frame]
@[simp] theorem settle_frSeq (s t : State) : (settle s t).frSeq = t.frSeq := by
  simp only [settle]; rw [State.sendSources_frame]
@[simp] theorem settle_frers (s t : State) : (settle s t).frers = t.frers := by
  simp only [settle]; rw [State.sendSources_frame]
@[simp] theorem settle_frShadow (s t : State) : (settle s t).frShadow = t.frShadow := by
  simp only [settle]; rw [State.sendSources_frame]
@[simp] theorem settle_flaws (s t : State) : (settle s t).flaws = t.flaws := by
  simp only [settle]; rw [State.sendSources_frame]
@[simp] theorem settle_poison (s t : State) : (settle s t).poison = t.poison := by
  simp only [settle]; rw [State.sendSources_frame]
@[simp] theorem settle_merge (s t : State) : (settle s t).merge = t.merge := by
  simp only [settle]; rw [State.sendSources_frame]
@[simp] theorem settle_leakAt (s t : State) : (settle s t).leakAt = t.leakAt := by
  simp only [settle]; rw [State.sendSources_frame]
@[simp] theorem settle_backPress (s t : State) : (settle s t).backPress = t.backPress := by
  simp only [settle]; rw [State.sendSources_frame]
@[simp] theorem settle_scrubAt (s t : State) : (settle s t).scrubAt = t.scrubAt := by
  simp only [settle]; rw [State.sendSources_frame]
@[simp] theorem settle_engs (s t : State) : (settle s t).engs = t.engs := by
  simp only [settle]; rw [State.sendSources_frame]
@[simp] theorem settle_heap (s t : State) : (settle s t).heap = t.heap := by
  simp only [settle]; rw [State.sendSources_frame]
@[simp] theorem settle_cq (s t : State) : (settle s t).cq = t.cq := by
  simp only [settle]; rw [State.sendSources_frame]
@[simp] theorem settle_excTimes (s t : State) : (settle s t).excTimes = t.excTimes := by
  simp only [settle]; rw [State.sendSources_frame]
@[simp] theorem settle_snapBank0 (s t : State) : (settle s t).snapBank0 = t.snapBank0 := by
  simp only [settle]; rw [State.sendSources_frame]
@[simp] theorem settle_snapBank1 (s t : State) : (settle s t).snapBank1 = t.snapBank1 := by
  simp only [settle]; rw [State.sendSources_frame]
@[simp] theorem settle_snapCopy (s t : State) : (settle s t).snapCopy = t.snapCopy := by
  simp only [settle]; rw [State.sendSources_frame]
@[simp] theorem settle_snapClr (s t : State) : (settle s t).snapClr = t.snapClr := by
  simp only [settle]; rw [State.sendSources_frame]
@[simp] theorem settle_snapAgain (s t : State) : (settle s t).snapAgain = t.snapAgain := by
  simp only [settle]; rw [State.sendSources_frame]
@[simp] theorem settle_snapLast (s t : State) : (settle s t).snapLast = t.snapLast := by
  simp only [settle]; rw [State.sendSources_frame]
@[simp] theorem settle_traceQ (s t : State) : (settle s t).traceQ = t.traceQ := by
  simp only [settle]; rw [State.sendSources_frame]
@[simp] theorem settle_traceLoss (s t : State) : (settle s t).traceLoss = t.traceLoss := by
  simp only [settle]; rw [State.sendSources_frame]
@[simp] theorem settle_traceFree (s t : State) : (settle s t).traceFree = t.traceFree := by
  simp only [settle]; rw [State.sendSources_frame]
@[simp] theorem settle_traceFrame (s t : State) : (settle s t).traceFrame = t.traceFrame := by
  simp only [settle]; rw [State.sendSources_frame]
@[simp] theorem settle_coal (s t : State) : (settle s t).coal = t.coal := by
  simp only [settle]; rw [State.sendSources_frame]
@[simp] theorem settle_coalIn (s t : State) : (settle s t).coalIn = t.coalIn := by
  simp only [settle]; rw [State.sendSources_frame]
@[simp] theorem settle_coalFree (s t : State) : (settle s t).coalFree = t.coalFree := by
  simp only [settle]; rw [State.sendSources_frame]
@[simp] theorem settle_runAt (s t : State) : (settle s t).runAt = t.runAt := by
  simp only [settle]; rw [State.sendSources_frame]
@[simp] theorem settle_th (s t : State) : (settle s t).th = t.th := by
  simp only [settle]; rw [State.sendSources_frame]
@[simp] theorem settle_oap (s t : State) : (settle s t).oap = t.oap := by
  simp only [settle]; rw [State.sendSources_frame]
@[simp] theorem settle_sm (s t : State) : (settle s t).sm = t.sm := by
  simp only [settle]; rw [State.sendSources_frame]
@[simp] theorem settle_pw (s t : State) : (settle s t).pw = t.pw := by
  simp only [settle]; rw [State.sendSources_frame]
@[simp] theorem settle_jn (s t : State) : (settle s t).jn = t.jn := by
  simp only [settle]; rw [State.sendSources_frame]
@[simp] theorem settle_hs (s t : State) : (settle s t).hs = t.hs := by
  simp only [settle]; rw [State.sendSources_frame]
@[simp] theorem settle_freeCtr (s t : State) : (settle s t).freeCtr = t.freeCtr := by
  simp only [settle]; rw [State.sendSources_frame]
@[simp] theorem settle_irqPrev (s t : State) : (settle s t).irqPrev = t.irqNow := rfl
@[simp] theorem settle_pending (s t : State) : (settle s t).pending = s.pending := rfl

/-- Settling changes four fields of what the effect leaves. -/
theorem settle_frame (s t : State) :
    settle s t = { t with out := (settle s t).out, msixPend := (settle s t).msixPend, irqPrev := t.irqNow, pending := s.pending } := by
  simp only [settle]; rw [State.sendSources_frame]

@[simp] theorem settle_rd (s t : State) (a : Nat) : (settle s t).rd a = t.rd a := by simp [State.rd]
@[simp] theorem settle_fld (s t : State) (a : Nat) (f : Fld) : (settle s t).fld a f = t.fld a f := by simp [State.fld]
@[simp] theorem settle_flag (s t : State) (a : Nat) (f : Fld) : (settle s t).flag a f = t.flag a f := by simp [State.flag]
@[simp] theorem settle_irqNow (s t : State) : (settle s t).irqNow = t.irqNow := by
  simp [State.irqNow, State.irqLevel]

theorem sendSources_fold_mem (o : Out) (m : Nat) (l : List Nat) (t : State) (h : o ∈ t.out) :
    o ∈ (l.foldl (fun t i => if m.testBit i then t.sendMsix i else t) t).out := by
  induction l generalizing t with
  | nil => exact h
  | cons i l ih =>
    simp only [List.foldl_cons]
    apply ih
    split
    · unfold State.sendMsix
      split
      · exact h
      · simp [State.emitOut, h]
    · exact h

/-- What left the device before the settling is still on record after it. -/
theorem settle_out_mem (s t : State) (o : Out) (h : o ∈ t.out) : o ∈ (settle s t).out :=
  sendSources_fold_mem o _ _ t h

theorem sendSources_fold_filter (q : Out → Bool) (hq : ∀ v, q (.msix v) = false) (m : Nat) (l : List Nat) (t : State) :
    (l.foldl (fun t i => if m.testBit i then t.sendMsix i else t) t).out.filter q = t.out.filter q := by
  induction l generalizing t with
  | nil => rfl
  | cons i l ih =>
    simp only [List.foldl_cons]
    rw [ih]
    split
    · unfold State.sendMsix
      split
      · rfl
      · simp [State.emitOut, hq]
    · rfl

/-- Settling adds only MSI-X messages to what has left the device. -/
theorem settle_out_filter (q : Out → Bool) (hq : ∀ v, q (.msix v) = false) (s t : State) :
    (settle s t).out.filter q = t.out.filter q := sendSources_fold_filter q hq _ _ t

/-- What every command answers. -/
theorem finish_next (s t : State) : finish s t = .next (settle s t) := rfl

end Sys2Proof.Machine
end

