-- ==== Sys2Proof/Laws/Regs.lean ====
section
/-! SUPPORT. Register words and fields: a read after a write, a field after a field, and the canonical form of the memories,
which every operation over them keeps. -/

namespace Sys2Proof.Machine

/-! ### Words -/

@[simp] theorem State.rd_wr_same (s : State) (a : Nat) (w : Word) : (s.wr a w).rd a = w := by
  simp [State.rd, State.wr]

theorem State.rd_wr_other (s : State) (a b : Nat) (w : Word) (h : b ≠ a) : (s.wr a w).rd b = s.rd b := by
  simp [State.rd, State.wr, Sparse.get_set_other _ _ _ _ _ h]

/-- A read after a write, by address. -/
theorem State.rd_wr (s : State) (a b : Nat) (w : Word) : (s.wr a w).rd b = if b = a then w else s.rd b := by
  split
  · rename_i h; rw [h, State.rd_wr_same]
  · rename_i h; exact State.rd_wr_other _ _ _ _ h

/-- A read after a field write, by address. -/
theorem State.rd_setFld (s : State) (a b : Nat) (f : Fld) (v : Nat) :
    (s.setFld a f v).rd b = if b = a then setF (s.rd a) f v else s.rd b := State.rd_wr _ _ _ _

@[simp] theorem State.rd_emitOut (s : State) (o : Out) (a : Nat) : (s.emitOut o).rd a = s.rd a := rfl

/-! ### Fields -/

theorem Fld.width_le (f : Fld) (h : f.lo ≤ f.hi) : f.hi + 1 = f.lo + Fld.width f := by
  unfold Fld.width; omega

/-- The number a field write leaves. -/
theorem toNat_setF (w : Word) (f : Fld) (v : Nat) (h : f.lo ≤ f.hi) (h32 : f.hi < 32) :
    (setF w f v).toNat = w.toNat % 2 ^ f.lo + 2 ^ f.lo * (v % 2 ^ Fld.width f)
      + 2 ^ (f.hi + 1) * (w.toNat / 2 ^ (f.hi + 1)) := by
  unfold setF
  rw [BitVec.toNat_ofNat, Nat.mod_eq_of_lt]
  have hw := Fld.width_le f h
  have hp : (2 : Nat) ^ (f.hi + 1) = 2 ^ f.lo * 2 ^ Fld.width f := by rw [hw, pow_add]
  have h1 : w.toNat % 2 ^ f.lo < 2 ^ f.lo := Nat.mod_lt _ (by positivity)
  have h2 : v % 2 ^ Fld.width f < 2 ^ Fld.width f := Nat.mod_lt _ (by positivity)
  have hq : (2 : Nat) ^ 32 = 2 ^ (f.hi + 1) * 2 ^ (32 - (f.hi + 1)) := by rw [← pow_add]; congr 1; omega
  have h3 : w.toNat / 2 ^ (f.hi + 1) < 2 ^ (32 - (f.hi + 1)) := by
    rw [Nat.div_lt_iff_lt_mul (by positivity), mul_comm, ← hq]; exact w.isLt
  have hA : w.toNat % 2 ^ f.lo + 2 ^ f.lo * (v % 2 ^ Fld.width f) < 2 ^ (f.hi + 1) := by
    have hm := Nat.mul_le_mul_left (2 ^ f.lo) (Nat.succ_le_of_lt h2)
    rw [hp]
    rw [Nat.mul_succ] at hm
    omega
  have hm := Nat.mul_le_mul_left (2 ^ (f.hi + 1)) (Nat.succ_le_of_lt h3)
  rw [Nat.mul_succ] at hm
  rw [hq]
  omega

/-- A field reads as the value written, taken modulo its width. -/
theorem getF_setF_same (w : Word) (f : Fld) (v : Nat) (h : f.lo ≤ f.hi) (h32 : f.hi < 32) :
    getF (setF w f v) f = v % 2 ^ Fld.width f := by
  have hw := Fld.width_le f h
  have hp : (2 : Nat) ^ (f.hi + 1) = 2 ^ f.lo * 2 ^ Fld.width f := by rw [hw, pow_add]
  unfold getF
  rw [toNat_setF w f v h h32, Nat.shiftRight_eq_div_pow, hp]
  have h1 : w.toNat % 2 ^ f.lo < 2 ^ f.lo := Nat.mod_lt _ (by positivity)
  have e : w.toNat % 2 ^ f.lo + 2 ^ f.lo * (v % 2 ^ Fld.width f)
      + 2 ^ f.lo * 2 ^ Fld.width f * (w.toNat / (2 ^ f.lo * 2 ^ Fld.width f))
      = w.toNat % 2 ^ f.lo + 2 ^ f.lo * (v % 2 ^ Fld.width f + 2 ^ Fld.width f * (w.toNat / (2 ^ f.lo * 2 ^ Fld.width f))) := by
    ring
  rw [e, Nat.add_mul_div_left _ _ (by positivity), Nat.div_eq_of_lt h1, Nat.zero_add, Nat.add_mul_mod_self_left]
  exact Nat.mod_mod _ _

/-- The bit k of a word after a field write: the value's bit inside the field, the old one outside. -/
theorem testBit_setF (w : Word) (f : Fld) (v k : Nat) (h : f.lo ≤ f.hi) (h32 : f.hi < 32) :
    (setF w f v).toNat.testBit k =
      if k < f.lo then w.toNat.testBit k else if k ≤ f.hi then v.testBit (k - f.lo) else w.toNat.testBit k := by
  have hw := Fld.width_le f h
  have hp : (2 : Nat) ^ (f.hi + 1) = 2 ^ f.lo * 2 ^ Fld.width f := by rw [hw, pow_add]
  have e : (setF w f v).toNat = 2 ^ f.lo * (2 ^ Fld.width f * (w.toNat / 2 ^ (f.hi + 1)) + v % 2 ^ Fld.width f) +
      w.toNat % 2 ^ f.lo := by
    rw [toNat_setF w f v h h32]; rw [hp]; ring
  have h1 : w.toNat % 2 ^ f.lo < 2 ^ f.lo := Nat.mod_lt _ (by positivity)
  have h2 : v % 2 ^ Fld.width f < 2 ^ Fld.width f := Nat.mod_lt _ (by positivity)
  rw [e, Nat.testBit_two_pow_mul_add _ h1]
  split
  · rename_i hk
    simp [Nat.testBit_mod_two_pow, hk]
  · rename_i hk
    rw [Nat.testBit_two_pow_mul_add _ h2]
    split
    · rename_i hk2
      rw [if_pos (by omega), Nat.testBit_mod_two_pow]
      simp [hk2]
    · rename_i hk2
      rw [if_neg (by omega), Nat.testBit_div_two_pow]
      congr 1; omega

/-- A field write leaves every field apart from it as it was. -/
theorem getF_setF_other (w : Word) (f g : Fld) (v : Nat) (h : f.lo ≤ f.hi) (h32 : f.hi < 32)
    (hg : g.hi < f.lo ∨ f.hi < g.lo) (hg' : g.lo ≤ g.hi) : getF (setF w f v) g = getF w g := by
  apply Nat.eq_of_testBit_eq
  intro k
  have hgw : Fld.width g = g.hi - g.lo + 1 := rfl
  simp only [getF, Nat.testBit_mod_two_pow, Nat.testBit_shiftRight]
  by_cases hk : k < Fld.width g
  · simp only [hk, decide_true, Bool.true_and]
    rw [testBit_setF w f v _ h h32]
    split
    · rfl
    · split
      · omega
      · rfl
  · simp [hk]

/-- A field of a register after it is written. -/
theorem State.fld_setFld_same (s : State) (a : Nat) (f : Fld) (v : Nat) (h : f.lo ≤ f.hi) (h32 : f.hi < 32) :
    (s.setFld a f v).fld a f = v % 2 ^ Fld.width f := by
  simp only [State.fld, State.setFld, State.rd_wr_same]
  exact getF_setF_same _ f v h h32

/-- Another field of a register after a field of it is written. -/
theorem State.fld_setFld_apart (s : State) (a : Nat) (f g : Fld) (v : Nat) (h : f.lo ≤ f.hi) (h32 : f.hi < 32)
    (hg : g.hi < f.lo ∨ f.hi < g.lo) (hg' : g.lo ≤ g.hi) : (s.setFld a f v).fld a g = s.fld a g := by
  simp only [State.fld, State.setFld, State.rd_wr_same]
  exact getF_setF_other _ f g v h h32 hg hg'

/-- A field of another register after a field is written. -/
theorem State.fld_setFld_other (s : State) (a b : Nat) (f g : Fld) (v : Nat) (h : b ≠ a) :
    (s.setFld a f v).fld b g = s.fld b g := by
  simp only [State.fld, State.setFld, State.rd_wr_other _ _ _ _ h]

theorem State.rd_setFld_other (s : State) (a b : Nat) (f : Fld) (v : Nat) (h : b ≠ a) :
    (s.setFld a f v).rd b = s.rd b := State.rd_wr_other _ _ _ _ h

/-- A one-bit field after 1, or any odd value, is written to it. -/
theorem State.flag_setFld_same (s : State) (a : Nat) (f : Fld) (v : Nat) (h : f.lo ≤ f.hi) (h32 : f.hi < 32) :
    (s.setFld a f v).flag a f = (v % 2 ^ Fld.width f != 0) := by
  rw [State.flag, getB, show getF ((s.setFld a f v).rd a) f = (s.setFld a f v).fld a f from rfl, State.fld_setFld_same s a f v h h32]

theorem State.flag_setFld_apart (s : State) (a : Nat) (f g : Fld) (v : Nat) (h : f.lo ≤ f.hi) (h32 : f.hi < 32)
    (hg : g.hi < f.lo ∨ f.hi < g.lo) (hg' : g.lo ≤ g.hi) : (s.setFld a f v).flag a g = s.flag a g := by
  rw [State.flag, getB, show getF ((s.setFld a f v).rd a) g = (s.setFld a f v).fld a g from rfl,
    State.fld_setFld_apart s a f g v h h32 hg hg']
  rfl

theorem State.flag_setFld_other (s : State) (a b : Nat) (f g : Fld) (v : Nat) (h : b ≠ a) :
    (s.setFld a f v).flag b g = s.flag b g := by
  simp only [State.flag, State.setFld, State.rd_wr_other _ _ _ _ h]

/-! ### The canonical form (Memory.wf) -/

theorem State.wr_memWf (s : State) (a : Nat) (w : Word) (h : Memory.wf s = true) : Memory.wf (s.wr a w) = true := by
  simp only [Memory.wf, Bool.and_eq_true] at h ⊢
  exact ⟨⟨Sparse.wf_set _ _ _ _ h.1.1, h.1.2⟩, h.2⟩

theorem State.setFld_memWf (s : State) (a : Nat) (f : Fld) (v : Nat) (h : Memory.wf s = true) :
    Memory.wf (s.setFld a f v) = true := State.wr_memWf s a _ h

theorem State.heapWrite_memWf (s : State) (k : Nat) (w : Word) (h : Memory.wf s = true) :
    Memory.wf (s.heapWrite k w) = true := by
  simp only [Memory.wf, Bool.and_eq_true] at h ⊢
  exact ⟨⟨h.1.1, Sparse.wf_set _ _ _ _ h.1.2⟩, h.2⟩

theorem State.eraseSlots_memWf (s : State) (keep : Nat → Bool) (h : Memory.wf s = true) :
    Memory.wf (s.eraseSlots keep) = true := by
  simp only [Memory.wf, Bool.and_eq_true] at h ⊢
  exact ⟨⟨Sparse.wf_filter _ _ _ h.1.1, h.1.2⟩, h.2⟩

theorem pool_fold_memWf (key : Nat → Nat) (val : Nat → List Byte) (l : List Nat) (s : State) (h : Memory.wf s = true) :
    Memory.wf (l.foldl (fun t k =>
      { t with pool := Sparse.set (fun _ => List.replicate 16 (0 : Byte)) t.pool (key k) (val k) }) s) = true := by
  induction l generalizing s with
  | nil => exact h
  | cons k l ih =>
    apply ih
    simp only [Memory.wf, Bool.and_eq_true] at h ⊢
    exact ⟨h.1, Sparse.wf_set _ _ _ _ h.2⟩

theorem State.poolWrite_memWf (s : State) (b : Nat) (r : RingRec) (h : Memory.wf s = true) :
    Memory.wf (s.poolWrite b r) = true :=
  pool_fold_memWf (fun k => 2 ^ 31 * s.bobStack b + 65536 * s.fld (bobWord b 2) BOBBIN_BASE + (r.off + k) % max 1 (s.bobCap b))
    (fun k => slice r.octets (16 * k) 16) _ s h

/-- Settling the interrupt sources keeps it. -/
theorem settle_memWf (s t : State) (h : Memory.wf t = true) : Memory.wf (settle s t) = true := by
  simpa [Memory.wf] using h

/-- Nothing is listed after reset. -/
theorem reset_memWf : Memory.wf State.reset = true := by rfl

end Sys2Proof.Machine
end

