-- ==== Sys2Proof/Laws/Ops.lean ====
section
/-! SUPPORT. What the shared operations can touch, said once each: an operation equals the state before it with only the named
fields taken from its result. A reader of any other field cites these and never unfolds the operation. -/

namespace Sys2Proof.Machine

/-! ### Operations over register words alone -/

theorem State.setFlag_frame (s : State) (a : Nat) (f : Fld) (b : Bool) :
    s.setFlag a f b = { s with regs := (s.setFlag a f b).regs } := (rfl)
theorem State.bump_frame (s : State) (a : Nat) (f : Fld) (n : Nat) :
    s.bump a f n = { s with regs := (s.bump a f n).regs } := (rfl)
theorem State.bumpSat_frame (s : State) (a : Nat) (f : Fld) (n : Nat) :
    s.bumpSat a f n = { s with regs := (s.bumpSat a f n).regs } := (rfl)
theorem State.count_frame (s : State) (a n : Nat) : s.count a n = { s with regs := (s.count a n).regs } := (rfl)
theorem State.wr64_frame (s : State) (a v : Nat) : s.wr64 a v = { s with regs := (s.wr64 a v).regs } := (rfl)
theorem State.count64_frame (s : State) (a n : Nat) : s.count64 a n = { s with regs := (s.count64 a n).regs } := (rfl)

theorem State.hostErr_frame (s : State) (f : Fld) (i : Iface) (a : Nat) :
    s.hostErr f i a = { s with regs := (s.hostErr f i a).regs } := by
  unfold State.hostErr
  split <;> rfl

theorem State.typedWrite_frame (s : State) (i : Iface) (a : Nat) (w : Word) :
    s.typedWrite i a w = { s with regs := (s.typedWrite i a w).regs } := by
  unfold State.typedWrite
  split
  · exact State.hostErr_frame _ _ _ _
  · simp only []
    split
    · rw [State.hostErr_frame]; rfl
    · rfl

/-! ### Log, drops, free values, node state -/

theorem State.log_frame (s : State) (rule inst : Nat) (p : List Nat) :
    s.log rule inst p = { s with logQueue := (s.log rule inst p).logQueue, logLost := (s.log rule inst p).logLost,
                                 regs := (s.log rule inst p).regs } := by
  unfold State.log
  split <;> rfl

/-- A log record changes no register but the two of the Thimble that count what its full queue drops. -/
theorem State.log_rd (s : State) (rule inst : Nat) (p : List Nat) (a : Nat) (h1 : a ≠ THIM_LOGLOST) (h2 : a ≠ THIM_EVT) :
    (s.log rule inst p).rd a = s.rd a := by
  unfold State.log
  split
  · rfl
  · rw [State.rd_setFld_other _ _ _ _ _ h2]
    unfold State.count
    rw [State.rd_wr_other _ _ _ _ h1]
    rfl

theorem State.dropFor_frame (s : State) (t r : Nat) : s.dropFor t r = { s with drops := (s.dropFor t r).drops } := (rfl)

/-- A discard counts 1 under its tenant and reason. -/
theorem State.dropFor_count (s : State) (t r : Nat) : (s.dropFor t r).dropCount t r = (s.dropCount t r + 1) % 2 ^ 64 := by
  simp [State.dropFor, State.dropCount]

/-- A discard leaves every other drop counter alone. -/
theorem State.dropFor_count_other (s : State) (t r u q : Nat) (h : dropKey u q ≠ dropKey t r) :
    (s.dropFor t r).dropCount u q = s.dropCount u q := by
  simp [State.dropFor, State.dropCount, Sparse.get_set_other _ _ _ _ _ h]

theorem State.setNode_frame (s : State) (n : NodeState) :
    s.setNode n = { s with node := n, nodeSince := (s.setNode n).nodeSince, runAt := (s.setNode n).runAt,
                           logQueue := (s.setNode n).logQueue, logLost := (s.setNode n).logLost, regs := (s.setNode n).regs } := by
  unfold State.setNode
  split
  · rename_i h; rw [← h]
  · rw [State.log_frame]

/-- The node state after a change to n is n. -/
@[simp] theorem State.setNode_node (s : State) (n : NodeState) : (s.setNode n).node = n := by
  rw [State.setNode_frame]

/-! ### Units by number -/

@[simp] theorem State.gov_setGov_same (s : State) (d : Nat) (g : GovSt) : (s.setGov d g).gov d = g := by
  simp [State.gov, State.setGov]
theorem State.gov_setGov_other (s : State) (d e : Nat) (g : GovSt) (h : e ≠ d) : (s.setGov d g).gov e = s.gov e := by
  simp [State.gov, State.setGov, Sparse.get_set_other _ _ _ _ _ h]
@[simp] theorem State.mon_setMon_same (s : State) (d : Nat) (g : MonSt) : (s.setMon d g).mon d = g := by
  simp [State.mon, State.setMon]
theorem State.mon_setMon_other (s : State) (d e : Nat) (g : MonSt) (h : e ≠ d) : (s.setMon d g).mon e = s.mon e := by
  simp [State.mon, State.setMon, Sparse.get_set_other _ _ _ _ _ h]
@[simp] theorem State.lane_setLane_same (s : State) (d : Nat) (g : LaneSt) : (s.setLane d g).lane d = g := by
  simp [State.lane, State.setLane]
theorem State.lane_setLane_other (s : State) (d e : Nat) (g : LaneSt) (h : e ≠ d) : (s.setLane d g).lane e = s.lane e := by
  simp [State.lane, State.setLane, Sparse.get_set_other _ _ _ _ _ h]

/-! ### Register writes by type -/

/-- A write of a known register none of whose locked fields would change is the write under the field types, with no error. -/
theorem State.typedWrite_eq (s : State) (i : Iface) (a : Nat) (w : Word) (d : RegDesc) (hd : regDesc? a = some d)
    (hl : (s.locked a && lockRefuses d (s.rd a) w) = false) :
    s.typedWrite i a w = s.wr a (writeWord (s.locked a) d (s.rd a) w) := by
  unfold State.typedWrite
  simp only [hd, hl]
  rfl

/-- A command's answer follows its effect. -/
theorem next_settle_congr (s a b : State) (h : a = b) :
    (Host.Outcome.next (settle s a) : Host.Outcome State Fault Refusal) = .next (settle s b) := by rw [h]

end Sys2Proof.Machine
end

