-- ==== Sys2Proof/Laws/Units.lean ====
section
/-! SUPPORT. The units of a kind, by number: what was put for one is what is read for it, and the others keep what they had. -/

namespace Sys2Proof.Machine

@[simp] theorem State.chan_setChan_same (s : State) (n : Nat) (x : ChanSt) : (s.setChan n x).chan n = x := by simp [State.chan, State.setChan]
theorem State.chan_setChan_other (s : State) (n m : Nat) (x : ChanSt) (h : m ≠ n) : (s.setChan n x).chan m = s.chan m := by
  simp [State.chan, State.setChan, Sparse.get_set_other _ _ _ _ _ h]
@[simp] theorem State.plca_setPlca_same (s : State) (n : Nat) (x : PlcaSt) : (s.setPlca n x).plca n = x := by simp [State.plca, State.setPlca]
theorem State.plca_setPlca_other (s : State) (n m : Nat) (x : PlcaSt) (h : m ≠ n) : (s.setPlca n x).plca m = s.plca m := by
  simp [State.plca, State.setPlca, Sparse.get_set_other _ _ _ _ _ h]
@[simp] theorem State.eng_setEng_same (s : State) (n : Nat) (x : EngSt) : (s.setEng n x).eng n = x := by simp [State.eng, State.setEng]
theorem State.eng_setEng_other (s : State) (n m : Nat) (x : EngSt) (h : m ≠ n) : (s.setEng n x).eng m = s.eng m := by
  simp [State.eng, State.setEng, Sparse.get_set_other _ _ _ _ _ h]
@[simp] theorem State.port_setPort_same (s : State) (n : Nat) (x : PortSt) : (s.setPort n x).port n = x := by simp [State.port, State.setPort]
theorem State.port_setPort_other (s : State) (n m : Nat) (x : PortSt) (h : m ≠ n) : (s.setPort n x).port m = s.port m := by
  simp [State.port, State.setPort, Sparse.get_set_other _ _ _ _ _ h]
@[simp] theorem State.recov_setRecov_same (s : State) (n : Nat) (x : RecovSt) : (s.setRecov n x).recov n = x := by simp [State.recov, State.setRecov]
theorem State.recov_setRecov_other (s : State) (n m : Nat) (x : RecovSt) (h : m ≠ n) : (s.setRecov n x).recov m = s.recov m := by
  simp [State.recov, State.setRecov, Sparse.get_set_other _ _ _ _ _ h]
@[simp] theorem State.datum_setDatum_same (s : State) (n : Nat) (x : DatumSt) : (s.setDatum n x).datum n = x := by simp [State.datum, State.setDatum]
theorem State.datum_setDatum_other (s : State) (n m : Nat) (x : DatumSt) (h : m ≠ n) : (s.setDatum n x).datum m = s.datum m := by
  simp [State.datum, State.setDatum, Sparse.get_set_other _ _ _ _ _ h]
@[simp] theorem State.gp_setGp_same (s : State) (n : Nat) (x : GptpSt) : (s.setGp n x).gp n = x := by simp [State.gp, State.setGp]
theorem State.gp_setGp_other (s : State) (n m : Nat) (x : GptpSt) (h : m ≠ n) : (s.setGp n x).gp m = s.gp m := by
  simp [State.gp, State.setGp, Sparse.get_set_other _ _ _ _ _ h]
@[simp] theorem State.vb_setVb_same (s : State) (n : Nat) (x : VbSt) : (s.setVb n x).vb n = x := by simp [State.vb, State.setVb]
theorem State.vb_setVb_other (s : State) (n m : Nat) (x : VbSt) (h : m ≠ n) : (s.setVb n x).vb m = s.vb m := by
  simp [State.vb, State.setVb, Sparse.get_set_other _ _ _ _ _ h]
@[simp] theorem State.bob_setBob_same (s : State) (n : Nat) (x : BobSt) : (s.setBob n x).bob n = x := by simp [State.bob, State.setBob]
theorem State.bob_setBob_other (s : State) (n m : Nat) (x : BobSt) (h : m ≠ n) : (s.setBob n x).bob m = s.bob m := by
  simp [State.bob, State.setBob, Sparse.get_set_other _ _ _ _ _ h]
@[simp] theorem State.jlink_setJlink_same (s : State) (n : Nat) (x : JoinLink) : (s.setJlink n x).jlink n = x := by simp [State.jlink, State.setJlink]
theorem State.jlink_setJlink_other (s : State) (n m : Nat) (x : JoinLink) (h : m ≠ n) : (s.setJlink n x).jlink m = s.jlink m := by
  simp [State.jlink, State.setJlink, Sparse.get_set_other _ _ _ _ _ h]

end Sys2Proof.Machine
end

