-- ==== Sys2Proof/WellFormed.lean ====
section
/-! DEFINITION. Well-formed commands: every number of a unit lies in the range R16 and the
chapter of the unit give it, and every octet string within its length limit. -/

namespace Sys2Proof

/-- The operands are in range. -/
def Instr.wellFormed (c : Instr) : Bool :=
  match c with
  | .powerOnReset => true
  | .deviceReset => true
  | .brownOut => true
  | .resetRelease nid => decide (nid < 1024)
  | .pllLock => true
  | .bootRomVerify _ _ => true
  | .thimbleBootComplete => true
  | .initClassDone k => decide (k < 7)
  | .keyStoreRestore => true
  | .settingsRestore => true
  | .monitorWindowEnd n count => decide (n < 32) && decide (count < 65536)
  | .controlPeriodEnd d => decide (d < 2)
  | .degradedLevelRaise d => decide (d < 2)
  | .degradedLevelExit d => decide (d < 2)
  | .avsTransactionEnd rail res => decide (rail < 2) && decide (res < 3)
  | .railDeviation rail mv => decide (rail < 2) && decide (mv < 2048)
  | .paceVcmdWrite _ _ => true
  | .paceLimitWrite _ _ _ => true
  | .paceEvtWrite _ _ => true
  | .referenceLoss => true
  | .referenceRelock => true
  | .twinDiffRemeasure _ => true
  | .datumCommit _ => true
  | .datumCancel _ => true
  | .datumFetch _ => true
  | .datumChangeComplete _ result => decide (result < 4)
  | .pendingRecordEffect d => decide (d < 1032)
  | .gptpMessageReceive n _ => decide (n < 1024)
  | .ppsInEdge _ => true
  | .ppsOutRise => true
  | .ppsOutFall => true
  | .txTimestampEntry n => decide (n < 1024)
  | .tsqHeadRead _ u => decide (u < 1104)
  | .meridianRead _ => true
  | .viewRead _ => true
  | .datumSnapshotRead _ d => decide (d < 1032)
  | .ppsiStampRead _ => true
  | .portEnable _ n _ => decide (n < 1024)
  | .portStop _ n _ => decide (n < 1024)
  | .portDrained n => decide (n < 1024)
  | .portConfigWrite _ n _ => decide (n < 1024)
  | .laneEqWrite _ lane _ => decide (lane < 1042)
  | .refWindowEnd p _ => decide (p < 16)
  | .trainingComplete n => decide (n < 1024)
  | .trainingTimeout n => decide (n < 1024)
  | .linkDown n _ => decide (n < 1024)
  | .linkUp n => decide (n < 1024)
  | .remoteFault n => decide (n < 1024)
  | .frameReceive n octets found _ => decide (n < 1024) && decide (octets.length < 16385) && decide (found < 5)
  | .itemLookup p full _ => decide (p < 16) && decide (full.length < 17)
  | .itemEnqueue p => decide (p < 16)
  | .transmitStart n _ => decide (n < 1024)
  | .transmitComplete u => decide (u < 1026)
  | .gateChange _ n _ => decide (n < 1024)
  | .gateConfigEffect n => decide (n < 1024)
  | .gateEvent n => decide (n < 1024)
  | .verifySend n => decide (n < 1024)
  | .verifyResponse n => decide (n < 1024)
  | .lpiEntry n => decide (n < 1024)
  | .lpiExit n => decide (n < 1024)
  | .groupHashWrite _ n k _ => decide (n < 1024) && decide (k < 128)
  | .statsRead _ n c => decide (n < 1024) && decide (c < 16)
  | .channelEnable _ u _ => decide (u < 80)
  | .channelStop _ u _ => decide (u < 80)
  | .canFrameReceive c _ found rec _ => decide (c < 66) && decide (found < 9) && decide (rec < 256)
  | .channelItemArrival n => decide (n < 64)
  | .canTxAttemptEnd c how lec eights _ _ => decide (c < 66) && decide (how < 3) && decide (lec < 7) && decide (eights < 32)
  | .loomRecover _ n _ => decide (n < 64)
  | .busOffRecoveryComplete c => decide (c < 66)
  | .linHeaderReceive n ident _ _ => decide (n < 64) && decide (ident < 64)
  | .linNoResponse n => decide (n < 64)
  | .linScheduleEntry n => decide (n.1 < 64)
  | .linIdleTimeout n => decide (n < 64)
  | .linLocalWakeStart n => decide (n < 64)
  | .rxRelease _ n _ => decide (n < 64)
  | .hostBufferRead _ n k => decide (n < 64) && decide (k < 1024)
  | .trxRequest _ n _ => decide (n < 66)
  | .trxModeSettled c => decide (c < 66)
  | .inhOffDelay n => decide (n < 64)
  | .inhOnSettled n => decide (n < 64)
  | .channelWake c _ => decide (c < 66)
  | .wakeFrameDecode c _ _ _ => decide (c < 66)
  | .falseWakeWindowEnd n => decide (n < 64)
  | .loomSuppClear _ n _ => decide (n < 64)
  | .maxawake n => decide (n < 64)
  | .plcaFrameReceive m octets found _ => decide (m < 16) && decide (octets.length < 16385) && decide (found < 5)
  | .plcaTxAttemptEnd m _ _ => decide (m < 16)
  | .plcaBeacon m seen => decide (m < 16) && decide (seen < 256)
  | .plcaBeaconLoss m => decide (m < 16)
  | .mdioAccess _ _ => true
  | .mdioComplete v => decide (v < 65536)
  | .phyLinkPoll m _ => decide (m < 16)
  | .mbConfigApply b => decide (b < 2)
  | .vbusEnable _ v _ => decide (v < 4096)
  | .vbusStop _ v _ => decide (v < 4096)
  | .vbusStopped v => decide (v < 4096)
  | .vbusRequest v => decide (v < 4096)
  | .slotClose v => decide (v < 4096)
  | .vbusDelivery v => decide (v < 4096)
  | .memberRecover _ v m _ => decide (v < 4096) && decide (m < 16)
  | .memberRecoveryComplete v m => decide (v < 4096) && decide (m < 16)
  | .injectorWrite _ f _ => decide (f < 64)
  | .vbusLinScheduleEntry v => decide (v < 4096)
  | .vbusLinNoResponse v => decide (v < 4096)
  | .vbusFalseWakeWindowEnd v => decide (v < 4096)
  | .vbusSleepRequest _ v _ => decide (v < 4096)
  | .vbusIdleSleep v => decide (v < 4096)
  | .vbusMaxawake v => decide (v < 4096)
  | .vbusSuppClear _ v _ => decide (v < 4096)
  | .loadWindowEnd v => decide (v < 4096)
  | .ntscfReceive p => decide (p < 16)
  | .abortReq v => decide (v < 4096)
  | .wakeReq v => decide (v < 4096)
  | .tableStageWrite _ a _ => decide (a < 268435456)
  | .tableCommit _ a _ => decide (a < 268435456)
  | .ownershipWrite _ a _ => decide (a < 268435456)
  | .walkerVisit b => decide (b < 524288)
  | .staRead _ _ => true
  | .staInsert _ _ => true
  | .staDelete _ _ => true
  | .staFlushTenant _ _ => true
  | .staFlushTenantDest _ _ => true
  | .staCmdComplete => true
  | .lpmAdd _ _ => true
  | .lpmDelete _ _ => true
  | .lpmLookup _ _ => true
  | .lpmExactRead _ _ => true
  | .lpmCmdComplete => true
  | .fenceRequest _ _ => true
  | .fenceDone => true
  | .spillFrame p => decide (p < 16)
  | .spillWriteComplete p => decide (p < 16)
  | .recallFrame p => decide (p < 16)
  | .recallComplete p _ => decide (p < 16)
  | .spillCellsFreed => true
  | .lagMemberLeave a i => decide (a < 256) && decide (i < 64)
  | .lagSlotMove a => decide (a < 256)
  | .surveyRecord p => decide (p < 16)
  | .workItemDispatch => true
  | .workItemStart e => decide (e < 128)
  | .programCommit _ p _ => decide (p < 4096)
  | .imemWrite _ e k _ => decide (e < 128) && decide (k < 16384)
  | .stitchQueueCommit _ q _ => decide (q < 1024)
  | .add e => decide (e < 128)
  | .sub e => decide (e < 128)
  | .andW e => decide (e < 128)
  | .orW e => decide (e < 128)
  | .xorW e => decide (e < 128)
  | .sll e => decide (e < 128)
  | .srl e => decide (e < 128)
  | .sra e => decide (e < 128)
  | .slli e => decide (e < 128)
  | .srli e => decide (e < 128)
  | .srai e => decide (e < 128)
  | .mul e => decide (e < 128)
  | .mulhu e => decide (e < 128)
  | .mulhs e => decide (e < 128)
  | .divu e => decide (e < 128)
  | .remu e => decide (e < 128)
  | .minW e => decide (e < 128)
  | .maxW e => decide (e < 128)
  | .minu e => decide (e < 128)
  | .maxu e => decide (e < 128)
  | .cmp e => decide (e < 128)
  | .tst e => decide (e < 128)
  | .bswap e => decide (e < 128)
  | .clz e => decide (e < 128)
  | .movf e => decide (e < 128)
  | .setf e => decide (e < 128)
  | .adds e => decide (e < 128)
  | .subs e => decide (e < 128)
  | .addi e => decide (e < 128)
  | .andi e => decide (e < 128)
  | .ori e => decide (e < 128)
  | .xori e => decide (e < 128)
  | .lui e => decide (e < 128)
  | .cmpi e => decide (e < 128)
  | .ldw e => decide (e < 128)
  | .ldh e => decide (e < 128)
  | .ldhs e => decide (e < 128)
  | .ldb e => decide (e < 128)
  | .ldbs e => decide (e < 128)
  | .stw e => decide (e < 128)
  | .sth e => decide (e < 128)
  | .stb e => decide (e < 128)
  | .bc e => decide (e < 128)
  | .jal e => decide (e < 128)
  | .jalr e => decide (e < 128)
  | .sigx e => decide (e < 128)
  | .sigi e => decide (e < 128)
  | .scale e => decide (e < 128)
  | .ctrIncrement e => decide (e < 128)
  | .ctrDelta e => decide (e < 128)
  | .crc e => decide (e < 128)
  | .amoadd e => decide (e < 128)
  | .amoswap e => decide (e < 128)
  | .amomaxu e => decide (e < 128)
  | .timeRead e => decide (e < 128)
  | .qopGet e => decide (e < 128)
  | .qopPut e => decide (e < 128)
  | .qopMark e => decide (e < 128)
  | .qopRewind e => decide (e < 128)
  | .qopRelease e => decide (e < 128)
  | .qopFill e => decide (e < 128)
  | .rlkp e => decide (e < 128)
  | .slkp e => decide (e < 128)
  | .frshRead e => decide (e < 128)
  | .frshRaise e => decide (e < 128)
  | .frshIncrement e => decide (e < 128)
  | .ciph e => decide (e < 128)
  | .emit e => decide (e < 128)
  | .endItem e => decide (e < 128)
  | .dropItem e => decide (e < 128)
  | .notify e => decide (e < 128)
  | .stallEnd e => decide (e < 128)
  | .stallLimitExpiry e _ => decide (e < 128)
  | .hostQueueGet _ q => decide (q < 1024)
  | .hostQueuePut _ q _ => decide (q < 1024)
  | .hostQueueMark _ q => decide (q < 1024)
  | .hostQueueRewind _ q => decide (q < 1024)
  | .hostQueueRelease _ q => decide (q < 1024)
  | .completionRead _ => true
  | .freshnessHostWrite _ f _ => decide (f < 65536)
  | .bobbinCommit _ b _ => decide (b < 4096)
  | .windFrame => true
  | .windWriteComplete die => decide (die < 2)
  | .bobbinStart b => decide (b < 4096)
  | .bobbinStartAt b => decide (b < 4096)
  | .bobbinPause b => decide (b < 4096)
  | .bobbinResume b => decide (b < 4096)
  | .bobbinStop b => decide (b < 4096)
  | .bobbinFlush b => decide (b < 4096)
  | .stageRecord b => decide (b < 4096)
  | .bobbinRelease b => decide (b < 4096)
  | .unwindFrame b => decide (b < 4096)
  | .cipherResult n => decide (n < 32)
  | .laneAlarm n cause => decide (n < 32) && decide (cause < 4)
  | .laneResetComplete n => decide (n < 32)
  | .laneEnableWrite _ n _ => decide (n < 32)
  | .globalTamper cause => decide (cause < 5)
  | .proofMismatch u => decide (u < 4)
  | .keyUpdateSubmit _ _ octets => decide (octets.length < 65537)
  | .keyUpdateProcess _ => true
  | .seamEnable _ _ => true
  | .seamRestart _ => true
  | .seamTrained => true
  | .alignmentMarker k octets _ => decide (k < 16) && decide (octets.length < 9)
  | .groupAligned g _ => decide (g < 2)
  | .alignTimeout => true
  | .seamBlock g octets _ => decide (g < 2) && decide (octets.length < 33)
  | .seamHello uid node ident _ => decide (uid.length < 17) && decide (node < 1024) && decide (ident.length < 97)
  | .measureComplete probes => decide (probes.length < 17)
  | .heartbeatSend => true
  | .heartbeatReceive g body _ => decide (g < 2) && decide (body.length < 161)
  | .seamLoss => true
  | .mirrorPacket octets _ => decide (octets.length < 65553)
  | .mirrorRetransmit => true
  | .epochDiffCheck x => decide (x < 4096)
  | .txnRequest pdu => decide (pdu.length < 1057)
  | .txnPrepare num pdu => decide (num < 4294967296) && decide (pdu.length < 1057)
  | .txnVote num status => decide (num < 4294967296) && decide (status < 256)
  | .txnCommit num => decide (num < 4294967296)
  | .txnAbort num => decide (num < 4294967296)
  | .txnTimeout => true
  | .seamDataPacket => true
  | .twinStatusSend => true
  | .twinStatus node body _ => decide (node < 1024) && decide (body.length < 25)
  | .twinSilence => true
  | .takeover _ => true
  | .autoTakeover => true
  | .reconcileComplete _ _ _ => true
  | .openSession => true
  | .proveSession => true
  | .proveTimeout => true
  | .closeSession => true
  | .oapRead => true
  | .oapWrite _ => true
  | .oapRequestReceive _ => true
  | .heldRequestTimeout => true
  | .sessionIdleTimeout => true
  | .snapshotTimeout => true
  | .assemblyTimeout => true
  | .oapRelay n addr tag octets => decide (n < 1024) && decide (addr.length < 7) && decide (tag.length < 5) && decide (octets.length < 1501)
  | .relayEntryExpiry => true
  | .broadcastExecute => true
  | .stateReq v => decide (v < 256)
  | .dataStop => true
  | .tenantStop t => decide (t < 1024)
  | .mailboxSubmit _ _ => true
  | .mailboxResponse k => decide (k < 2)
  | .mailboxRelease _ _ => true
  | .registerWrite _ a be flaw _ => decide (a < 8589934592) && decide (be < 16) && decide (flaw < 4)
  | .aliasWrite _ b a _ => decide (b < 32) && decide (a < 8388608)
  | .lockall _ _ => true
  | .irqRearm _ _ => true
  | .spiTransactionEnd n cmd _ => decide (n < 4294967296) && decide (cmd < 1099511627776)
  | .spiReadWord _ a _ => decide (a < 4295032832)
  | .functionLevelReset => true
  | .pciePerst _ => true
  | .puntItem q => decide (q < 256)
  | .puntSlotWrite q => decide (q < 256)
  | .puntTimeout q => decide (q < 256)
  | .puntConfigWrite _ q _ => decide (q < 256)
  | .upRdWrite _ q _ => decide (q < 256)
  | .dnWrWrite _ q _ => decide (q < 256)
  | .injectSlot q slot _ => decide (q < 256) && decide (slot.length < 16385)
  | .bridgeOperation _ _ a ws n => decide (a < 4294967296) && decide (ws.length < 65) && decide (n < 65)
  | .bridgeResponse _ => true
  | .bridgeTimeout k => decide (k < 3)
  | .bridgeRequestReceive octets => decide (octets.length < 273)
  | .prefetchExpiry k => decide (k < 3)
  | .lockstepFailure => true
  | .thermalSample n temp => decide (n < 64) && decide (temp < 65536)
  | .thermalCritical n => decide (n < 64)
  | .pmbusPoll r _ => decide (r < 8)
  | .logWrite => true
  | .anchorUpdate octets => decide (octets.length < 65537)
  | .saveStart => true
  | .saveDelayExpiry => true
  | .saveComplete => true
  | .blockHeader session octets => decide (session < 65536) && decide (octets.length < 1025)
  | .submitBlock session octets => decide (session < 65536) && decide (octets.length < 65537)
  | .imgStoreBlock _ _ => true
  | .activateImage v _ _ => decide (v < 4)
  | .activateSkipTwin _ => true
  | .activationReset => true
  | .confirmImage => true
  | .autoConfirm => true
  | .discardImage _ => true
  | .revokeKeys k => decide (k < 256)
  | .threadForward _ => true
  | .threadReopen next _ => decide (next < 1024)
  | .expanderPush => true
  | .powerReqActive _ => true
  | .powerReqDrowsy _ => true
  | .powerReqStandby _ _ => true
  | .powerReqSleep _ _ => true
  | .standbyEntryComplete => true
  | .networkWake c => decide (c < 66)
  | .pinWake _ => true
  | .twinSidebandWake => true
  | .wakeTimerExpiry => true
  | .standbyExitReady => true
  | .deviceFalseWake => true
  | .suppClr _ => true
  | .wakeClear => true
  | .lifecycleReq octets => decide (octets.length < 65537)
  | .obsReq level role => decide (level < 256) && decide (role < 4)
  | .jtagInstruction code => decide (code < 8)
  | .leakTick c => decide (c < 8)
  | .scrubAccess c a upset => decide (c < 8) && decide (a < 4294967296) && decide (upset.length < 138)
  | .mergeFlush c => decide (c < 8)
  | .eccFlipArm _ _ => true
  | .fifoParityError island => decide (island < 65536)
  | .snapshotRequest _ _ => true
  | .snapshotPeriod => true
  | .snapshotComplete => true
  | .traceRecord d => decide (d < 2)
  | .traceFrame d => decide (d < 2)
  | .olLockChange d st => decide (d < 2) && decide (st < 3)
  | .faultReport suspect reporter sev code => decide (suspect < 4294967296) && decide (reporter < 1024) && decide (sev < 4) && decide (code < 65536)
  | .coalescerClose k => decide (k < 257)
  | .joinHelloSend n => decide (n < 1024)
  | .joinHello n octets => decide (n < 1024) && decide (octets.length < 1501)
  | .neighbourLoss n => decide (n < 1024)
  | .joinRecordCreate => true
  | .joinRecords n octets => decide (n < 1024) && decide (octets.length < 1501)
  | .joinAck n octets => decide (n < 1024) && decide (octets.length < 1501)
  | .joinResend n => decide (n < 1024)
  | .joinComplete n octets => decide (n < 1024) && decide (octets.length < 1501)
  | .rootCompletion => true
  | .joinLeave => true
  | .joinReport n octets => decide (n < 1024) && decide (octets.length < 1501)
  | .remoteFaultEnd n => decide (n < 1024)
  | .lpiReceiveChange n _ => decide (n < 1024)
  | .recoveryResetTimeout h => decide (h < 65536)
  | .gptpMessageSend n kind => decide (n < 1024) && decide (kind < 16)
  | .bobbinMirrorReport b => decide (b < 4096)

end Sys2Proof
end

