-- ==== Sys2Proof/Tests/Slice0.lean ====
section
/-! SUPPORT. The model's own tests: ill-formed commands that the check refuses, one step each on small states, and for every
statement with hypotheses a witness that they can be met together. -/

namespace Sys2Proof.Machine

/-- A state after Thimble boot, otherwise as at reset, with fields set: address, field, value. -/
def st (l : List (Nat × Fld × Nat)) : State :=
  l.foldl (fun s p => s.setFld p.1 p.2.1 p.2.2) { State.reset with hostUp := true }

/-- A queue entry, a CAN item and frame, a request and a due frame of a bus. -/
def qe (d : Dest) : QEnt := { item := Item.blank, dest := d, chain := 0, cells := 1, place := 1 }
def canIt : Item := { Item.blank with eth := false }
def canFr : CanFrame :=
  { fmt := 0, ide := false, rtr := false, brs := false, esi := false, sec := false, ident := 0, sdt := 0, vcid := 0, af := 0, data := [] }
def vbRq : VbReq := { item := canIt, member := 0, arrival := 0, rho := 0 }
def vbDu : VbDue := { time := 0, kind := 0, item := canIt, member := 0, sof := 0, op := 0, pars := [], ident := 0 }


theorem sqPut_some {s : State} {q : Nat} {l : List Word} (h : ¬ s.sqDepth q ≤ s.sqHeld q) : ∃ t, s.sqPut q l = some t :=
  ⟨_, if_neg h⟩

/-- A run of engine 0 at its first instruction, with 256 octets of data window and of shared window. -/
def isaRun (regs : List (Nat × Word)) : Run :=
  { work := { item := Item.blank, prog := 0, desc := none, kind := 0
              entry := [0, setF 0 PROGRAM_CODE_LEN 1, setF 0 PROGRAM_DLEN 4, setF 0 PROGRAM_SLEN 1] }
    regs := regs, pc := 0, fl := 0, steps := 0, emits := [], mem := [], began := 0, stall := none, itag := none, lane := 0 }

/-- Engine 0 about to issue the instruction of a word. -/
def isaSt (l : List (Nat × Fld × Nat)) (w : Nat) (r : Run) : State :=
  { (st l).wr (IMEM 0 0) (BitVec.ofNat 32 w) with engs := [(0, { EngSt.reset with run := some r })] }

theorem sqGet_some {s : State} {q : Nat} (h : ¬ s.sqUnread q = 0) : ∃ l t, s.sqGet q = some (l, t) := ⟨_, _, if_neg h⟩

theorem sqGet_none {s : State} {q : Nat} (h : s.sqUnread q = 0) : s.sqGet q = none := if_pos h

theorem getLook_some {s : State} {q n : Nat} {b : Bool} (h : ¬ s.sqUnread q = 0)
    (hb : (s.memPoison 0 (s.sqSlot q (s.sqRd q) 0) n).isSome = b) : ∃ l, s.getLook q n = some (b, l) := ⟨_, by rw [State.getLook, if_neg h, hb]⟩

/-- A request PDU, the body of a WRITE of a whole value, a request at mailbox 0, and a session of it. -/
def tPdu (op ses : Nat) (body : List Byte) : List Byte :=
  [0x10, BitVec.ofNat 8 op, 0, 0] ++ natBe 2 ses ++ [0, 0, 0, 0] ++ natBe 2 body.length ++ [0, 0, 0, 0] ++ body
def tWr (idx sub : Nat) (v : List Byte) : List Byte := natBe 2 idx ++ [BitVec.ofNat 8 sub, 1, 0, 0, 0, 0] ++ v
def tReq (pdu : List Byte) : OapReq := { src := .mailbox 0, pdu := pdu, at_ := 0 }
def tSes : Session :=
  { num := 1, role := 3, proved := true, src := .mailbox 0, opened := 0, used := 0, next := 1, done := [], held := [], keyIn := []
    keyOut := [], opening := [], snap := none, asm_ := none, aborted := false, hdr := [] }
def tTxn : Txn := { num := 1, body := tPdu 0x11 1 (tWr 0x80 2 [0, 1]), req := none, at_ := 0 }

/-- A register with a field of each kind. -/
def tDesc : RegDesc :=
  ⟨0, 4, 1, 1, 1, [⟨⟨31, 28⟩, .rw, 0⟩, ⟨⟨27, 24⟩, .rwl, 0⟩, ⟨⟨23, 20⟩, .ro, 0⟩, ⟨⟨19, 16⟩, .w1c, 0⟩, ⟨⟨15, 12⟩, .w1s, 0⟩]⟩

/-! ### Witnesses of the statements of fragment 00 -/

theorem witness_EmptyQueueTicks :
  (∃ (s : State), s.pending = [] ∧ s.flag TIME_STAT TIME_STAT_RUN = false) ∧
  (∃ (s : State), s.pending = [] ∧ s.flag TIME_STAT TIME_STAT_RUN = true ∧ s.hs.spiQ = [] ∧ s.sm.lone = []) :=
  ⟨⟨st [], by decide, by decide⟩,
   ⟨st [(TIME_STAT, TIME_STAT_RUN, 1)], by decide, by decide, by decide, by decide⟩⟩

theorem witness_InterruptEdgesAreKept :
  ∃ (s : State) (t : State), IrqSettled s ∧ step s = .next t :=
  ⟨State.reset, settle State.reset State.reset.tick, by unfold IrqSettled; decide, (rfl)⟩

set_option maxRecDepth 100000 in
theorem witness_EveryRiseIsSignalled :
  ∃ (s : State) (t : State) (i : Nat), IrqSettled s ∧ step s = .next t ∧ i < 15 ∧ t.irqNow.testBit i = true ∧ s.irqNow.testBit i = false :=
  ⟨{ st [(CIPH_EVT, CIPH_EVT_PROOF_MISMATCH, 1)] with pending := [.registerWrite .pcie SYS_IRQ_EN 15 0 256] }, _, 8, by unfold IrqSettled; decide, rfl, by decide, by decide, by decide⟩

theorem witness_SettleChangesFourFields :
  ∃ (s : State) (t : State), (∀ i : Nat, i < 15 → t.irqNow.testBit i = true → s.irqPrev.testBit i = true) :=
  ⟨State.reset, State.reset, fun i _ h => absurd (show State.reset.irqNow.testBit i = true from h) (by rw [show State.reset.irqNow = 0 by decide]; simp)⟩

theorem witness_MemoryKeepsCanonicalForm :
  Memory.wf State.reset = true :=
  reset_memWf

/-! ### Witnesses of the statements of fragment 02 -/

theorem witness_PaceWindowPublishesCountAndMargin :
  ∃ (s : State) (n : Nat) (count : Nat), n < 32 ∧ count < 65536 ∧ s.fld (PACE_FLOORn n) PACE_FLOORn_FLOOR ≠ 0 :=
  ⟨st [(PACE_FLOORn 31, PACE_FLOORn_FLOOR, 65535)], 31, 65535, by decide, by decide, by decide⟩

set_option maxRecDepth 100000 in
theorem witness_PaceGovernorCommandsComplete :
  (∃ (s : State) (n : Nat) (count : Nat), s.fld (PACE_FLOORn n) PACE_FLOORn_FLOOR ≠ 0 ∧ s.monFaulty n = false ∧ 1 ≤ count ∧ count ≤ 65534 ∧ s.fld (PACE_FLOORn n) PACE_FLOORn_FLOOR ≤ count ∧ countJump (s.mon n).prev count = false) ∧
  (∃ (s : State) (d : Nat) (v : Nat), (s.gov d).periodAt + s.paceTicks ≤ s.mer ∧ s.paceEn = true ∧ (s.gov d).started = true ∧ (s.gov d).tx = none ∧ 4 ≤ s.pw.boot ∧ s.flag PACE_STAT (mfaultFld d) = false ∧ s.clampMv (s.gov d).target = (s.gov d).target ∧ v = s.clampMv ((s.gov d).target + orElse (s.fld PACE_CTRL PACE_CTRL_STEP_UP) 1) ∧ (s.gov d).target < v ∧ (∃ n ∈ s.goodMons d, sext 12 (s.fld (PACE_MONn n) PACE_MONn_MARGIN) < (s.fld PACE_THRESH PACE_THRESH_RAISE : Int))) ∧
  (∃ (s : State) (d : Nat) (v : Nat), (s.gov d).periodAt + s.paceTicks ≤ s.mer ∧ s.paceEn = true ∧ (s.gov d).started = true ∧ (s.gov d).tx = none ∧ 4 ≤ s.pw.boot ∧ s.flag PACE_STAT (mfaultFld d) = false ∧ s.clampMv (s.gov d).target = (s.gov d).target ∧ (s.gov d).avsErr = false ∧ s.goodMons d ≠ [] ∧ s.periodCalm d = true ∧ orElse (s.fld PACE_CTRL PACE_CTRL_HOLD) 1 ≤ (s.gov d).calm + 1 ∧ s.fld PACE_THRESH PACE_THRESH_RAISE < s.fld PACE_THRESH PACE_THRESH_LOWER ∧ v = s.clampMv ((s.gov d).target - orElse (s.fld PACE_CTRL PACE_CTRL_STEP_DN) 1) ∧ v ≠ (s.gov d).target ∧ (∀ n ∈ s.goodMons d, (s.fld PACE_THRESH PACE_THRESH_RAISE : Int) ≤ sext 12 (s.fld (PACE_MONn n) PACE_MONn_MARGIN))) ∧
  (∃ (s : State) (d : Nat), (s.gov d).periodAt + s.paceTicks ≤ s.mer ∧ s.paceEn = true ∧ (s.gov d).started = true ∧ s.flag PACE_STAT (mfaultFld d) = false ∧ s.clampMv (s.gov d).target = (s.gov d).target ∧ s.periodCalm d = false ∧ (∀ n ∈ s.goodMons d, (s.fld PACE_THRESH PACE_THRESH_RAISE : Int) ≤ sext 12 (s.fld (PACE_MONn n) PACE_MONn_MARGIN))) ∧
  (∃ (s : State), s.paceEn = false) ∧
  (∃ (s : State) (rail : Nat) (mv : Nat) (n : Nat) (h : Option Nat), (s.gov rail).tx = some { mv := mv, attempts := n, held := h }) ∧
  (∃ (s : State) (rail : Nat) (res : Nat) (mv : Nat) (n : Nat) (h : Option Nat), (s.gov rail).tx = some { mv := mv, attempts := n, held := h } ∧ 1 ≤ res ∧ res ≤ 2 ∧ n < 4) ∧
  (∃ (s : State) (rail : Nat) (mv : Nat), (s.gov rail).tx = some { mv := mv, attempts := 4, held := none }) ∧
  (∃ (s : State) (d : Nat) (a : Nat), (s.gov d).level ≠ 0 ∧ (s.gov d).level < 3 ∧ s.inBreach d = true ∧ (s.gov d).breachAt = some a ∧ a + 20000000 ≤ s.mer ∧ (s.gov d).levelAt + 20000000 ≤ s.mer) ∧
  (∃ (s : State) (d : Nat) (a : Nat), (s.gov d).level ≠ 0 ∧ (s.gov d).okSince = some a ∧ a + 20000000 ≤ s.mer ∧ (s.gov d).levelAt + 20000000 ≤ s.mer) :=
  ⟨⟨st [(PACE_FLOORn 5, PACE_FLOORn_FLOOR, 100)], 5, 100, by decide, by decide, by decide, by decide, by decide, by decide⟩,
   ⟨{ (st [(PACE_THRESH, PACE_THRESH_RAISE, 20)]) with mer := 2000000, pw := { (st []).pw with boot := 4 } }.setGov 1 { GovSt.reset with target := 700, started := true }, 1, _, by decide, by decide, by decide, by decide, by decide, by decide, by decide, rfl, by decide, ⟨31, by decide, by decide⟩⟩,
   ⟨{ (st [(PACE_CTRL, PACE_CTRL_HOLD, 1), (PACE_THRESH, PACE_THRESH_RAISE, 0), (PACE_THRESH, PACE_THRESH_LOWER, 5)]) with mer := 2000000, pw := { (st []).pw with boot := 4 } }.setGov 1 { GovSt.reset with target := 700, started := true } |> fun s => { s with mons := (dieMons 1).map (fun n => (n, { MonSt.reset with minMargin := some 100 })) }, 1, _, by decide, by decide, by decide, by decide, by decide, by decide, by decide, by decide, by decide, by decide, by decide, by decide, rfl, by decide, by decide⟩,
   ⟨{ (st [(PACE_THRESH, PACE_THRESH_RAISE, 0)]) with mer := 2000000, pw := { (st []).pw with boot := 4 } }.setGov 1 { GovSt.reset with target := 700, started := true, raised := true }, 1, by decide, by decide, by decide, by decide, by decide, by decide, by decide⟩,
   ⟨st [(PACE_CTRL, PACE_CTRL_EN, 0)], by decide⟩,
   ⟨(st []).setGov 1 { GovSt.reset with tx := some { mv := 800, attempts := 2, held := none } }, 1, 800, 2, none, by decide⟩,
   ⟨(st []).setGov 1 { GovSt.reset with tx := some { mv := 800, attempts := 3, held := some 810 } }, 1, 2, 800, 3, some 810, by decide, by decide, by decide, by decide⟩,
   ⟨(st []).setGov 1 { GovSt.reset with tx := some { mv := 800, attempts := 4, held := none } }, 1, 800, by decide⟩,
   ⟨{ ((st []).setGov 1 { GovSt.reset with level := 2, breachAt := some 0 }).setMon 31 { MonSt.reset with breach := 16 } with mer := 20000000 }, 1, 0, by decide, by decide, by decide, by decide, by decide, by decide⟩,
   ⟨{ (st []).setGov 1 { GovSt.reset with level := 1, okSince := some 5 } with mer := 20000005 }, 1, 5, by decide, by decide, by decide, by decide⟩⟩

theorem witness_PaceRegisterCommandsComplete :
  (∃ (s : State) (rail : Nat) (mv : Nat), ((s.gov rail).accepted + 30 < mv ∨ mv + 30 < (s.gov rail).accepted) ∧ s.flag PACE_STAT (railErrFld rail) = false) ∧
  (∃ (s : State) (rail : Nat) (mv : Nat), (s.flag PACE_STAT (railErrFld rail) = true ∨ (mv ≤ (s.gov rail).accepted + 30 ∧ (s.gov rail).accepted ≤ mv + 30))) ∧
  (∃ (s : State), s.paceEn = true) ∧
  (∃ (s : State), s.hostUp = true ∧ s.paceEn = false) ∧
  (∃ (s : State) (d : Nat) (v : Nat), 4 ≤ s.pw.boot ∧ (s.gov d).tx = none ∧ s.clampMv v ≠ (s.gov d).target) :=
  ⟨⟨st [], 1, 2000, by decide, by decide⟩,
   ⟨st [], 1, 800, .inr ⟨by decide, by decide⟩⟩,
   ⟨st [(PACE_CTRL, PACE_CTRL_EN, 1)], by decide⟩,
   ⟨st [(PACE_CTRL, PACE_CTRL_EN, 0)], by decide, by decide⟩,
   ⟨{ (st []) with pw := { (st []).pw with boot := 4 } }, 1, 700, by decide, by decide, by decide⟩⟩

/-! ### Witnesses of the statements of fragment 03 -/

theorem witness_DatumsAtReset :
  ∃ (d : Nat), d < 1032 :=
  ⟨1031, by decide⟩

theorem witness_TimeReadsComplete :
  (∃ (s : State), s.hostUp = true ∧ 1031 < s.fld TIME_VSEL TIME_VSEL_DATUM) ∧
  (∃ (s : State), s.hostUp = true ∧ s.fld TIME_VSEL TIME_VSEL_DATUM ≤ 1031) ∧
  (∃ (s : State) (u : Nat) (e : TsqEntry) (rest : List TsqEntry), s.hostUp = true ∧ s.tsqHidden u = false ∧ s.tsq u = e :: rest) ∧
  (∃ (s : State) (u : Nat), s.hostUp = true ∧ s.tsqHidden u = true) ∧
  (∃ (s : State) (u : Nat), s.hostUp = true ∧ s.tsqHidden u = false ∧ s.tsq u = []) :=
  ⟨⟨st [(TIME_VSEL, TIME_VSEL_DATUM, 1032)], by decide, by decide⟩,
   ⟨st [(TIME_VSEL, TIME_VSEL_DATUM, 1031)], by decide, by decide⟩,
   ⟨(st []).setTsq 1103 [{ disc := true, src := 1, ident := 2, mer := 3, ten := 4 }], 1103, { disc := true, src := 1, ident := 2, mer := 3, ten := 4 }, [], by decide, by decide, by decide⟩,
   ⟨st [(PORT_CFGn 1016, PORT_CFGn_EN, 1), (PORT_CFGn 1016, PORT_CFGn_LANES, 3)], 1023, by decide, by decide⟩,
   ⟨st [], 7, by decide, by decide, by decide⟩⟩

theorem witness_DatumChangeBecomesPending :
  (∃ (s : State) (d : Nat) (eff : Nat) (rate : Nat), s.hostUp = true ∧ s.flag TIME_DCMD TIME_DCMD_BUSY = false ∧ s.viaTwin = false ∧ s.refusesConfig = false ∧ s.fld TIME_DSEL TIME_DSEL_DATUM = d ∧ d ≤ 1031 ∧ d ≠ 1024 ∧ (d < 1024 → (s.datum d).follow = false) ∧ (s.datum d).pend = none ∧ s.rd64 TIME_DEFF_LO = eff ∧ (s.rd TIME_DRATE_LO).toNat + 2 ^ 32 * s.fld TIME_DRATE_HI TIME_DRATE_HI_RATE = rate ∧ rate ≠ 0 ∧ s.mer + s.datumLead ≤ eff ∧ eff ≤ s.mer + 2 ^ 44) ∧
  (∃ (s : State) (d : Nat) (p : DatumPend), s.hostUp = true ∧ s.flag TIME_DCMD TIME_DCMD_BUSY = false ∧ s.viaTwin = false ∧ s.refusesConfig = false ∧ s.fld TIME_DSEL TIME_DSEL_DATUM = d ∧ d ≤ 1031 ∧ d ≠ 1024 ∧ (d < 1024 → (s.datum d).follow = false) ∧ (s.datum d).pend = some p ∧ s.mer + s.datumLead ≤ p.eff) ∧
  (∃ (s : State), s.hostUp = true ∧ s.flag TIME_DCMD TIME_DCMD_BUSY = false ∧ s.fld TIME_DSEL TIME_DSEL_DATUM ≤ 1031 ∧ (s.datum (s.fld TIME_DSEL TIME_DSEL_DATUM)).pend = none) ∧
  (∃ (s : State) (p : DatumPend), s.hostUp = true ∧ s.flag TIME_DCMD TIME_DCMD_BUSY = false ∧ s.fld TIME_DSEL TIME_DSEL_DATUM ≤ 1031 ∧ (s.datum (s.fld TIME_DSEL TIME_DSEL_DATUM)).pend = some p ∧ p.eff < 2 ^ 64) :=
  ⟨⟨(st [(TIME_DSEL, TIME_DSEL_DATUM, 1023), (TIME_DRATE_HI, TIME_DRATE_HI_RATE, 256)]).wr64 TIME_DEFF_LO (2 ^ 44), 1023, 2 ^ 44, 2 ^ 40, by decide, by decide, by decide, by decide, by decide, by decide, by decide, by decide, by decide, by decide, by decide, by decide, by decide, by decide⟩,
   ⟨(st [(TIME_DSEL, TIME_DSEL_DATUM, 7)]).setDatum 7 { DatumSt.reset with pend := some { eff := 2 ^ 40, step := true, rate := 5, offset := 1 } }, 7, { eff := 2 ^ 40, step := true, rate := 5, offset := 1 }, by decide, by decide, by decide, by decide, by decide, by decide, by decide, by decide, by decide, by decide⟩,
   ⟨st [(TIME_DSEL, TIME_DSEL_DATUM, 1031)], by decide, by decide, by decide, by decide⟩,
   ⟨(st [(TIME_DSEL, TIME_DSEL_DATUM, 1031)]).setDatum 1031 { DatumSt.reset with pend := some { eff := 2 ^ 64 - 1, step := true, rate := 5, offset := 1 } }, { eff := 2 ^ 64 - 1, step := true, rate := 5, offset := 1 }, by decide, by decide, by decide, by decide, by decide⟩⟩

theorem witness_PendingRecordTakesEffect :
  ∃ (s : State) (d : Nat) (p : DatumPend), (s.datum d).pend = some p ∧ p.eff ≤ s.mer :=
  ⟨(st []).setDatum 1031 { DatumSt.reset with pend := some { eff := 0, step := false, rate := 5, offset := 1 } }, 1031, { eff := 0, step := false, rate := 5, offset := 1 }, by decide, by decide⟩

set_option maxRecDepth 100000 in
theorem witness_ReferenceAndPulseCommandsComplete :
  (∃ (s : State), s.flag TIME_STAT TIME_STAT_HOLDOVER = false ∧ s.flag TIME_STAT TIME_STAT_PLL_LOCK = true) ∧
  (∃ (s : State), s.flag TIME_STAT TIME_STAT_HOLDOVER = true) ∧
  (∃ (s : State), s.flag SEAM_CTRL SEAM_CTRL_EN = true ∧ s.flag SEAM_STAT SEAM_STAT_UP = true) ∧
  (∃ (s : State) (rising : Bool), s.flag TIME_CTRL TIME_CTRL_PPSI_EN = true ∧ s.flag TIME_CTRL TIME_CTRL_PPSI_EDGE = !rising ∧ (s.ppsiLast.all (fun l => decide (l + 200000000 ≤ s.mer)) = true) ∧ s.servo.mode ≠ 3) ∧
  (∃ (s : State), s.flag TIME_CTRL TIME_CTRL_PPSO_EN = true ∧ s.ppsoHigh = false ∧ 0 < s.mer ∧ ((s.viewAt s.ppsoDatum (s.mer - 1) / 2000000000 < s.viewNow s.ppsoDatum / 2000000000 ∨ (s.viewNow s.ppsoDatum % 2000000000 = 0 ∧ s.viewAt s.ppsoDatum (s.mer - 1) ≠ s.viewNow s.ppsoDatum)))) ∧
  (∃ (s : State), s.ppsoHigh = true ∧ s.ppsoRise + min (max 1 (s.fld TIME_PPSO TIME_PPSO_WIDTH) * 2000) ((s.dueTick s.ppsoDatum s.ppsoNext - s.ppsoRise) / 2) ≤ s.mer) ∧
  (∃ (s : State) (n : Nat), s.gptpPort n = true ∧ s.flag (PORT_CFGn n) PORT_CFGn_EN = true ∧ s.gptpLive n = true) ∧
  (∃ (s : State) (n : Nat) (a : Int) (b : Int) (c : Int), s.gptpPort n = true ∧ s.flag (PORT_CFGn n) PORT_CFGn_EN = true ∧ -7 ≤ a ∧ a ≤ 0 ∧ -3 ≤ b ∧ b ≤ 3 ∧ -3 ≤ c ∧ c ≤ 3) ∧
  (∃ (s : State) (sent : State) (n : Nat) (k : Nat), s.gptpPort n = true ∧ s.flag (PORT_CFGn n) PORT_CFGn_EN = true ∧ s.flag (PORT_STATn n) PORT_STATn_LINK = true ∧ s.flag (PORT_STATn n) PORT_STATn_RFAULT = false ∧ (sent = s.setGp n { s.gp n with last := (k, s.mer) :: (s.gp n).last.filter (fun e => e.1 != k) }) ∧ k = 2 ∧ s.gptpDue n 2 = true) ∧
  (∃ (s : State) (n : Nat), s.gptpPort n = true ∧ s.flag (PORT_CFGn n) PORT_CFGn_EN = true ∧ s.flag (PORT_STATn n) PORT_STATn_LINK = true ∧ s.flag (PORT_STATn n) PORT_STATn_RFAULT = false ∧ s.gptpMaster n = true ∧ s.gptpDue n 0 = true) ∧
  (∃ (s : State) (n : Nat), s.gptpPort n = true ∧ s.flag (PORT_CFGn n) PORT_CFGn_EN = true ∧ s.flag (PORT_STATn n) PORT_STATn_LINK = true ∧ s.flag (PORT_STATn n) PORT_STATn_RFAULT = false ∧ s.gptpMaster n = true ∧ s.gptpDue n 11 = true) ∧
  (∃ (s : State) (sent : State) (n : Nat) (k : Nat) (t : State), s.gptpPort n = true ∧ s.flag (PORT_CFGn n) PORT_CFGn_EN = true ∧ s.flag (PORT_STATn n) PORT_STATn_LINK = true ∧ s.flag (PORT_STATn n) PORT_STATn_RFAULT = false ∧ (sent = s.setGp n { s.gp n with last := (k, s.mer) :: (s.gp n).last.filter (fun e => e.1 != k) }) ∧ k = 8 ∧ s.gptpStamp n 0 = some t) ∧
  (∃ (s : State) (sent : State) (n : Nat) (k : Nat) (t : State), s.gptpPort n = true ∧ s.flag (PORT_CFGn n) PORT_CFGn_EN = true ∧ s.flag (PORT_STATn n) PORT_STATn_LINK = true ∧ s.flag (PORT_STATn n) PORT_STATn_RFAULT = false ∧ (sent = s.setGp n { s.gp n with last := (k, s.mer) :: (s.gp n).last.filter (fun e => e.1 != k) }) ∧ k = 10 ∧ s.gptpStamp n 3 = some t) :=
  ⟨⟨st [(TIME_STAT, TIME_STAT_PLL_LOCK, 1)], by decide, by decide⟩,
   ⟨st [(TIME_STAT, TIME_STAT_HOLDOVER, 1)], by decide⟩,
   ⟨st [(SEAM_CTRL, SEAM_CTRL_EN, 1), (SEAM_STAT, SEAM_STAT_UP, 1)], by decide, by decide⟩,
   ⟨st [(TIME_CTRL, TIME_CTRL_PPSI_EN, 1)], true, by decide, by decide, by decide, by decide⟩,
   ⟨{ st [(TIME_CTRL, TIME_CTRL_PPSO_EN, 1)] with mer := 2000000000 }, by decide, by decide, by decide, Or.inl (by decide)⟩,
   ⟨{ st [] with ppsoHigh := true, mer := 4000000000 }, by decide, by decide⟩,
   ⟨st [(PORT_CFGn 1023, PORT_CFGn_EN, 1), (PORT_CFGn 1023, PORT_CFGn_GPTP, 1), (PORT_STATn 1023, PORT_STATn_LINK, 1)], 1023, by decide, by decide, by decide⟩,
   ⟨st [(PORT_CFGn 1023, PORT_CFGn_EN, 1), (PORT_CFGn 1023, PORT_CFGn_GPTP, 1), (PORT_STATn 1023, PORT_STATn_LINK, 1)], 1023, -7, 3, 0, by decide, by decide, by decide, by decide, by decide, by decide, by decide, by decide⟩,
   ⟨st [(PORT_CFGn 1023, PORT_CFGn_EN, 1), (PORT_CFGn 1023, PORT_CFGn_GPTP, 1), (PORT_STATn 1023, PORT_STATn_LINK, 1)], _, 1023, 2, by decide, by decide, by decide, by decide, rfl, by decide, by decide⟩,
   by
     let s : State := { st [(PORT_CFGn 0, PORT_CFGn_EN, 1), (PORT_CFGn 0, PORT_CFGn_GPTP, 1), (PORT_STATn 0, PORT_STATn_LINK, 1), (PORT_CFGn 1, PORT_CFGn_EN, 1), (PORT_CFGn 1, PORT_CFGn_GPTP, 1), (PORT_STATn 1, PORT_STATn_LINK, 1)] with servo := { mode := 2, measured := false, good := 0, bad := 0, realign := none } }
     by_cases h : s.gptpSlave = some 0
     · refine ⟨s, 1, by decide, by decide, by decide, by decide, ?_, by decide⟩
       unfold State.gptpMaster; rw [h]; decide
     · refine ⟨s, 0, by decide, by decide, by decide, by decide, ?_, by decide⟩
       have h2 : (s.gptpSlave != some 0) = true := by simpa using h
       unfold State.gptpMaster; rw [h2]; decide,
   by
     let s : State := { st [(PORT_CFGn 0, PORT_CFGn_EN, 1), (PORT_CFGn 0, PORT_CFGn_GPTP, 1), (PORT_STATn 0, PORT_STATn_LINK, 1), (PORT_CFGn 1, PORT_CFGn_EN, 1), (PORT_CFGn 1, PORT_CFGn_GPTP, 1), (PORT_STATn 1, PORT_STATn_LINK, 1)] with servo := { mode := 2, measured := false, good := 0, bad := 0, realign := none } }
     by_cases h : s.gptpSlave = some 0
     · refine ⟨s, 1, by decide, by decide, by decide, by decide, ?_, by decide⟩
       unfold State.gptpMaster; rw [h]; decide
     · refine ⟨s, 0, by decide, by decide, by decide, by decide, ?_, by decide⟩
       have h2 : (s.gptpSlave != some 0) = true := by simpa using h
       unfold State.gptpMaster; rw [h2]; decide,
   ⟨(st [(PORT_CFGn 1023, PORT_CFGn_EN, 1), (PORT_CFGn 1023, PORT_CFGn_GPTP, 1), (PORT_STATn 1023, PORT_STATn_LINK, 1)]).setGp 1023 { GptpSt.reset with stamps := [(0, 5)] }, _, 1023, 8, _, by decide, by decide, by decide, by decide, rfl, rfl, rfl⟩,
   ⟨(st [(PORT_CFGn 1023, PORT_CFGn_EN, 1), (PORT_CFGn 1023, PORT_CFGn_GPTP, 1), (PORT_STATn 1023, PORT_STATn_LINK, 1)]).setGp 1023 { GptpSt.reset with stamps := [(3, 5)] }, _, 1023, 10, _, by decide, by decide, by decide, by decide, rfl, rfl, rfl⟩⟩

/-! ### Witnesses of the statements of fragment 04 -/

set_option maxRecDepth 100000 in
theorem witness_PortLinkCommandsComplete :
  (∃ (s : State) (t : State) (i : Iface) (n : Nat) (w : Word), s.hostUp = true ∧ s.portShadowed n = false ∧ s.portEn n = false ∧ s.portStopped n = true ∧ t = s.typedWrite i (PORT_CFGn n) w ∧ getB w PORT_CFGn_EN = true) ∧
  (∃ (s : State) (t : State) (i : Iface) (n : Nat) (w : Word), s.hostUp = true ∧ s.portShadowed n = false ∧ s.portEn n = false ∧ s.portStopped n = true ∧ t = s.typedWrite i (PORT_CFGn n) w ∧ getB w PORT_CFGn_EN = false) ∧
  (∃ (s : State) (n : Nat) (w : Word), s.hostUp = true ∧ s.portShadowed n = false ∧ s.portEn n = true ∧ getB w PORT_CFGn_EN = false) ∧
  (∃ (s : State) (n : Nat) (w : Word), s.hostUp = true ∧ s.portShadowed n = false ∧ s.portEn n = true ∧ getB w PORT_CFGn_EN = true) ∧
  (∃ (s : State) (t : State) (u : State) (n : Nat), s.portEn n = false ∧ s.portStopped n = false ∧ (s.port n).tx = none ∧ (s.port n).rem = none ∧ t = (if s.portLink n then s.linkFall n else s).setFld (PORT_STATn n) PORT_STATn_STOPPED 1 ∧ (u = [PORT_STATn_RFAULT, PORT_STATn_LFAULT, PORT_STATn_LPI_TX, PORT_STATn_LPI_RX, PORT_STATn_TRAIN, PORT_STATn_PVS].foldl (fun v f => v.setFld (PORT_STATn n) f 0) t)) ∧
  (∃ (s : State) (w : Word), s.hostUp = true ∧ tapsOk w = true) ∧
  (∃ (s : State) (t : State) (p : Nat) (edges : Nat), s.flag TIME_STAT TIME_STAT_PLL_LOCK = true ∧ 155 ≤ edges ∧ edges ≤ 158 ∧ (Sparse.get (fun _ => 0) s.refWin p < s.mer / 2000) ∧ (t = { s with refWin := Sparse.set (fun _ => 0) s.refWin p (s.mer / 2000), refGood := Sparse.set (fun _ => 0) s.refGood p (min 10 (Sparse.get (fun _ => 0) s.refGood p + 1)) }) ∧ (Sparse.get (fun _ => 0) s.refGood p < 9 ∨ s.refPresent p = true)) ∧
  (∃ (s : State) (t : State) (p : Nat) (edges : Nat), s.flag TIME_STAT TIME_STAT_PLL_LOCK = true ∧ 155 ≤ edges ∧ edges ≤ 158 ∧ (Sparse.get (fun _ => 0) s.refWin p < s.mer / 2000) ∧ (t = { s with refWin := Sparse.set (fun _ => 0) s.refWin p (s.mer / 2000), refGood := Sparse.set (fun _ => 0) s.refGood p (min 10 (Sparse.get (fun _ => 0) s.refGood p + 1)) }) ∧ (9 ≤ Sparse.get (fun _ => 0) s.refGood p) ∧ s.refPresent p = false) ∧
  (∃ (s : State) (t : State) (p : Nat) (edges : Nat), (s.flag TIME_STAT TIME_STAT_PLL_LOCK = false ∨ Sparse.get (fun _ => 0) s.refWin p < s.mer / 2000 ∧ (edges < 155 ∨ 158 < edges)) ∧ (t = { s with refWin := Sparse.set (fun _ => 0) s.refWin p (s.mer / 2000), refGood := Sparse.set (fun _ => 0) s.refGood p 0 }) ∧ s.refPresent p = false) ∧
  (∃ (s : State) (t : State) (p : Nat) (edges : Nat), (s.flag TIME_STAT TIME_STAT_PLL_LOCK = false ∨ Sparse.get (fun _ => 0) s.refWin p < s.mer / 2000 ∧ (edges < 155 ∨ 158 < edges)) ∧ (t = { s with refWin := Sparse.set (fun _ => 0) s.refWin p (s.mer / 2000), refGood := Sparse.set (fun _ => 0) s.refGood p 0 }) ∧ s.refPresent p = true) ∧
  (∃ (s : State) (n : Nat), s.portEn n = true ∧ s.portTrains n = true ∧ s.refPresent (n / 64) = true ∧ (s.fld (PORT_STATn n) PORT_STATn_TRAIN = 1 ∨ s.fld (PORT_STATn n) PORT_STATn_TRAIN = 3)) ∧
  (∃ (s : State) (r : State) (n : Nat), s.portRuns n = true ∧ s.refPresent (n / 64) = true ∧ (s.portTrains n = false ∨ s.fld (PORT_STATn n) PORT_STATn_TRAIN = 2) ∧ r = (s.setFld (PORT_STATn n) PORT_STATn_LFAULT 0).setPort n { s.port n with noLock := false, downAt := none, upAt := some ((s.port n).upAt.getD s.mer) } ∧ (r.portLink n = true ∨ r.mer < (r.port n).upAt.getD r.mer + r.upHold n)) ∧
  (∃ (s : State) (r : State) (t : State) (u : State) (v : State) (n : Nat), s.portRuns n = true ∧ s.refPresent (n / 64) = true ∧ (s.portTrains n = false ∨ s.fld (PORT_STATn n) PORT_STATn_TRAIN = 2) ∧ r = (s.setFld (PORT_STATn n) PORT_STATn_LFAULT 0).setPort n { s.port n with noLock := false, downAt := none, upAt := some ((s.port n).upAt.getD s.mer) } ∧ r.portLink n = false ∧ (r.port n).upAt.getD r.mer + r.upHold n ≤ r.mer ∧ t = ((r.setFld (PORT_STATn n) PORT_STATn_LINK 1).portEvent n PORT_EVTn_LINK_UP).log 117 n [1] ∧ u = (t.setPort n { t.port n with idleAt := r.mer }).startVerify n ∧ (v = (if r.jn.ports.testBit n ∧ r.jn.upAt.isNone then State.wr { u with jn := { u.jn with upAt := some r.mer } } (SYS_BOOTTk 2) (BitVec.ofNat 32 (r.mer / usTicks)) else u))) ∧
  (∃ (s : State) (r : State) (n : Nat) (fault : Bool), s.portRuns n = true ∧ r = s.linkFaulty n fault ∧ (r.portLink n = false ∨ r.mer < (r.port n).downAt.getD r.mer + r.dnHold n)) ∧
  (∃ (s : State) (r : State) (t : State) (n : Nat) (fault : Bool), s.portRuns n = true ∧ r = s.linkFaulty n fault ∧ r.portLink n = true ∧ (r.port n).downAt.getD r.mer + r.dnHold n ≤ r.mer ∧ t = (if (r.port n).noLock then (r.linkFall n).retrain n else r.linkFall n).dropRem n) ∧
  (∃ (s : State) (n : Nat), s.portRuns n = true ∧ s.flag (PORT_STATn n) PORT_STATn_RFAULT = false) ∧
  (∃ (s : State) (n : Nat), s.fld (PORT_STATn n) PORT_STATn_PVS = 1 ∧ (s.port n).vAt ≤ s.mer ∧ s.flag (PORT_STATn n) PORT_STATn_RFAULT = false ∧ (s.port n).vTries < 3) ∧
  (∃ (s : State) (n : Nat), s.fld (PORT_STATn n) PORT_STATn_PVS = 1 ∧ (s.port n).vAt ≤ s.mer ∧ s.flag (PORT_STATn n) PORT_STATn_RFAULT = false ∧ 3 ≤ (s.port n).vTries) ∧
  (∃ (s : State) (n : Nat), s.fld (PORT_STATn n) PORT_STATn_PVS = 1 ∧ (s.port n).vTries ≠ 0) :=
  ⟨⟨st [(PORT_REFSTAT, PORT_REFSTAT_PRESENT, 2 ^ 15)], _, .pcie, 1023, 0x80000000, by decide, by decide, by decide, by decide, rfl, by decide⟩,
   ⟨st [], _, .pcie, 1023, 0, by decide, by decide, by decide, by decide, rfl, by decide⟩,
   ⟨st [(PORT_CFGn 0, PORT_CFGn_EN, 1), (PORT_STATn 0, PORT_STATn_STOPPED, 0)], 0, (st []).rd (PORT_CFGn 0), by decide, by decide, by decide, by decide⟩,
   ⟨st [(PORT_CFGn 0, PORT_CFGn_EN, 1), (PORT_STATn 0, PORT_STATn_STOPPED, 0)], 0, 0x80000003, by decide, by decide, by decide, by decide⟩,
   ⟨st [(PORT_STATn 9, PORT_STATn_STOPPED, 0), (PORT_STATn 9, PORT_STATn_LINK, 1)], _, _, 9, by decide, by decide, by decide, by decide, rfl, rfl⟩,
   ⟨st [], 64, by decide, by decide⟩,
   ⟨{ st [(TIME_STAT, TIME_STAT_PLL_LOCK, 1)] with mer := 4000, refGood := [(3, 8)] }, _, 3, 155, by decide, by decide, by decide, by decide, rfl, by decide⟩,
   ⟨{ st [(TIME_STAT, TIME_STAT_PLL_LOCK, 1)] with mer := 4000, refGood := [(15, 9)] }, _, 15, 158, by decide, by decide, by decide, by decide, rfl, by decide, by decide⟩,
   ⟨{ st [(TIME_STAT, TIME_STAT_PLL_LOCK, 1)] with mer := 2000 }, _, 2, 154, by decide, rfl, by decide⟩,
   ⟨st [(PORT_REFSTAT, PORT_REFSTAT_PRESENT, 4)], _, 2, 156, by decide, rfl, by decide⟩,
   ⟨st [(PORT_CFGn 64, PORT_CFGn_EN, 1), (PORT_REFSTAT, PORT_REFSTAT_PRESENT, 2), (PORT_STATn 64, PORT_STATn_TRAIN, 3)], 64, by decide, by decide, by decide, by decide⟩,
   ⟨st [(PORT_CFGn 64, PORT_CFGn_EN, 1), (PORT_CFGn 64, PORT_CFGn_MEDIA, 2), (PORT_REFSTAT, PORT_REFSTAT_PRESENT, 2)], _, 64, by decide, by decide, by decide, rfl, by decide⟩,
   ⟨({ st [(PORT_CFGn 64, PORT_CFGn_EN, 1), (PORT_CFGn 64, PORT_CFGn_MEDIA, 2), (PORT_REFSTAT, PORT_REFSTAT_PRESENT, 2)] with mer := 2000000000000 }).setPort 64 { PortSt.reset with upAt := some 0 }, _, _, _, _, 64, by decide, by decide, by decide, rfl, by decide, by decide, rfl, rfl, rfl⟩,
   ⟨st [(PORT_CFGn 64, PORT_CFGn_EN, 1), (PORT_STATn 64, PORT_STATn_LINK, 1), (PORT_LINKTn 64, PORT_LINKTn_DN_HOLD, 5)], _, 64, true, by decide, rfl, by decide⟩,
   ⟨st [(PORT_CFGn 64, PORT_CFGn_EN, 1), (PORT_STATn 64, PORT_STATn_LINK, 1), (PORT_LINKTn 64, PORT_LINKTn_DN_HOLD, 0)], _, _, 64, false, by decide, rfl, by decide, by decide, rfl⟩,
   ⟨st [(PORT_CFGn 64, PORT_CFGn_EN, 1)], 64, by decide, by decide⟩,
   ⟨(st [(PORT_STATn 6, PORT_STATn_PVS, 1)]).setPort 6 { PortSt.reset with vTries := 2 }, 6, by decide, by decide, by decide, by decide⟩,
   ⟨(st [(PORT_STATn 6, PORT_STATn_PVS, 1)]).setPort 6 { PortSt.reset with vTries := 3 }, 6, by decide, by decide, by decide, by decide⟩,
   ⟨(st [(PORT_STATn 6, PORT_STATn_PVS, 1)]).setPort 6 { PortSt.reset with vTries := 1 }, 6, by decide, by decide⟩⟩

set_option maxRecDepth 100000 in
theorem witness_PortTrafficCommandsComplete :
  (∃ (s : State) (a : State) (u : State) (v : State) (n : Nat) (raw : Nat) (d : List Byte) (hit : Bool) (it : Item), s.portEn n = true ∧ s.portShadowed n = false ∧ s.refPresent (n / 64) = true ∧ (s.port n).noLock = false ∧ 60 ≤ d.length ∧ d.length + 4 ≤ s.portMaxlen n ∧ isMacCtl d = false ∧ s.isCtl n d = false ∧ s.rxWords n < 64 ∧ s.isGptp n d = false ∧ s.admitData (n / 64) = (true, a) ∧ (a.rxCount n d).sampleStep n = (hit, u) ∧ it = { a.rxItem n d raw with mirror := if hit then some 0 else none } ∧ v = u.capture n it (a.tenantStamp (a.portTenant n) it.stamp) ∧ ((oct d 0 % 2 = 0 ∨ s.groupPass n d = true))) ∧
  (∃ (s : State) (u : State) (v : State) (n : Nat) (raw : Nat) (d : List Byte) (hit : Bool) (it : Item), s.portEn n = true ∧ s.portShadowed n = false ∧ s.refPresent (n / 64) = true ∧ (s.port n).noLock = false ∧ 60 ≤ d.length ∧ d.length + 4 ≤ s.portMaxlen n ∧ isMacCtl d = false ∧ s.isCtl n d = false ∧ s.rxWords n < 64 ∧ oct d 0 % 2 = 1 ∧ s.groupPass n d = false ∧ (s.rxCount n d).sampleStep n = (hit, u) ∧ it = { s.rxItem n d raw with mirror := if hit then some 0 else none } ∧ v = u.capture n it (s.tenantStamp (s.portTenant n) it.stamp)) ∧
  (∃ (s : State) (u : State) (n : Nat) (d : List Byte) (hit : Bool), s.portEn n = true ∧ s.portShadowed n = false ∧ s.refPresent (n / 64) = true ∧ (s.port n).noLock = false ∧ 60 ≤ d.length ∧ d.length + 4 ≤ s.portMaxlen n ∧ isMacCtl d = false ∧ s.isCtl n d = true ∧ (s.rxCount n d).sampleStep n = (hit, u)) ∧
  (∃ (s : State) (n : Nat) (d : List Byte), s.portEn n = true ∧ s.portShadowed n = false ∧ s.refPresent (n / 64) = true ∧ (s.port n).noLock = false ∧ s.isCtl n d = false ∧ s.rxWords n < 64) ∧
  (∃ (s : State) (n : Nat) (d : List Byte), s.portEn n = true ∧ s.portShadowed n = false ∧ s.refPresent (n / 64) = true ∧ (s.port n).noLock = false ∧ s.isCtl n d = false ∧ s.rxWords n < 64 ∧ isMacCtl d = false) ∧
  (∃ (s : State) (n : Nat) (d : List Byte), s.portEn n = true ∧ s.portShadowed n = false ∧ s.refPresent (n / 64) = true ∧ (s.port n).noLock = false ∧ s.isCtl n d = false ∧ s.rxWords n < 64 ∧ d.length < 60) ∧
  (∃ (s : State) (n : Nat) (d : List Byte), s.portEn n = true ∧ s.portShadowed n = false ∧ s.refPresent (n / 64) = true ∧ (s.port n).noLock = false ∧ s.isCtl n d = false ∧ s.rxWords n < 64 ∧ 60 ≤ d.length ∧ d.length + 4 ≤ s.portMaxlen n ∧ isMacCtl d = true) ∧
  (∃ (s : State) (t : State) (p : Nat) (n : Nat) (q : Nat) (o : Offer) (rest : List Offer), (Sparse.get (fun _ => []) s.offers p = o :: rest) ∧ o.copies = [.port n q] ∧ o.own = [t.destOwner (.port n q)] ∧ (t = State.portSync { s with offers := Sparse.set (fun _ => []) s.offers p rest } n) ∧ t.destLive (.port n q) = true ∧ (t.cutThrough o = true ∧ (t.queueIn p o).chainCtr ≠ t.chainCtr)) ∧
  (∃ (s : State) (t : State) (p : Nat) (n : Nat) (q : Nat) (o : Offer) (rest : List Offer), (Sparse.get (fun _ => []) s.offers p = o :: rest) ∧ o.copies = [.port n q] ∧ o.own = [t.destOwner (.port n q)] ∧ (t = State.portSync { s with offers := Sparse.set (fun _ => []) s.offers p rest } n) ∧ t.destLive (.port n q) = true ∧ t.cutThrough o = false ∧ o.item.bad = false) ∧
  (∃ (s : State) (t : State) (n : Nat) (q : Nat), s.portEn n = true ∧ s.portLink n = true ∧ s.flag (PORT_STATn n) PORT_STATn_RFAULT = false ∧ s.flag (PORT_STATn n) PORT_STATn_LPI_TX = false ∧ (s.portSync n).portEn n = true ∧ (t = (List.range 17).foldl (fun u r => u.purgeQueue n r) (s.portSync n)) ∧ (t.port n).tx = none ∧ t.pickQueue n false = some q) ∧
  (∃ (s : State) (t : State) (n : Nat) (q : Nat) (x : TxFrame), s.portEn n = true ∧ s.portLink n = true ∧ s.flag (PORT_STATn n) PORT_STATn_RFAULT = false ∧ s.flag (PORT_STATn n) PORT_STATn_LPI_TX = false ∧ (s.portSync n).portEn n = true ∧ (t = (List.range 17).foldl (fun u r => u.purgeQueue n r) (s.portSync n)) ∧ (t.port n).tx = some x ∧ t.pickQueue n true = some q ∧ ((t.preempt n).port n).tx = none) ∧
  (∃ (s : State) (n : Nat) (x : TxFrame), (s.port n).rem = none ∧ (s.port n).tx = some x ∧ x.raw ≤ s.mer) ∧
  (∃ (s : State) (n : Nat) (x : TxFrame), (s.port n).rem = some x ∧ x.stamped = false ∧ x.item.tsreq.isSome = true) ∧
  (∃ (s : State) (n : Nat) (x : TxFrame), n < 1024 ∧ (s.port n).tx = some x) ∧
  (∃ (s : State) (t : State) (g : Nat) (q : Nat) (m : Nat) (e : QEnt) (rest : List QEnt), s.flag SEAM_STAT SEAM_STAT_UP = true ∧ (List.range 16).reverse.find? (fun r => !(s.queue (Dest.seam g 0 r).key).isEmpty) = some q ∧ s.queue (Dest.seam g 0 q).key = e :: rest ∧ e.item.poison = false ∧ e.dest = .seam g m q ∧ t = s.obs e.dest.panel 0x021 e.cells (tenant := some e.item.tenant) (cls := some e.dest.cls)) ∧
  (∃ (s : State) (t : State) (i : Iface) (n : Nat) (w : Word) (g : GateCfg), s.hostUp = true ∧ s.portShadowed n = false ∧ getB w PORT_GCTLn_CHANGE = true ∧ t = (State.typedWrite (s.portSync n) i (PORT_GCTLn n) w).portSync n ∧ t.gateChange n = some g) ∧
  (∃ (s : State) (t : State) (n : Nat) (g : GateCfg), (s.port n).gatePend = some g ∧ reached (s.viewNow g.ten) g.base = true ∧ t = State.setFld (State.setFld (s.setPort n { s.port n with gateOper := some g, gatePend := none }) (PORT_STATn n) PORT_STATn_GATE_PEND 0) (PORT_STATn n) PORT_STATn_GATE_OPER 1) ∧
  (∃ (s : State) (n : Nat), s.portRuns n = true) ∧
  (∃ (s : State) (n : Nat), s.portEn n = true ∧ s.portLink n = true ∧ s.flag (PORT_STATn n) PORT_STATn_RFAULT = false ∧ s.portEmpty n = true ∧ s.lpiBarred n = false ∧ (s.port n).idleAt + s.lpiIdle n * usTicks ≤ s.mer) ∧
  (∃ (s : State) (n : Nat), s.flag (PORT_STATn n) PORT_STATn_LPI_TX = true ∧ ((s.portEmpty n = false ∨ s.lpiBarred n = true))) :=
  ⟨⟨(st [(PORT_CFGn 0, PORT_CFGn_EN, 1), (PORT_STATn 0, PORT_STATn_STOPPED, 0), (PORT_STATn 0, PORT_STATn_LINK, 1), (PORT_REFSTAT, PORT_REFSTAT_PRESENT, 1)]).setPort 0 { PortSt.reset with noLock := false }, _, _, _, 0, 0, List.replicate 60 0, _, _, by decide, by decide, by decide, by decide, by decide, by decide, by decide, by decide, by decide, by decide, rfl, rfl, rfl, rfl, by decide⟩,
   ⟨(st [(PORT_CFGn 0, PORT_CFGn_EN, 1), (PORT_STATn 0, PORT_STATn_STOPPED, 0), (PORT_STATn 0, PORT_STATn_LINK, 1), (PORT_REFSTAT, PORT_REFSTAT_PRESENT, 1), (PORT_FILTn 0, PORT_FILTn_GALL, 0)]).setPort 0 { PortSt.reset with noLock := false }, _, _, 0, 0, List.replicate 1514 1, _, _, by decide, by decide, by decide, by decide, by decide, by decide, by decide, by decide, by decide, by decide, by decide, rfl, rfl, rfl⟩,
   ⟨(st [(PORT_CFGn 0, PORT_CFGn_EN, 1), (PORT_STATn 0, PORT_STATn_STOPPED, 0), (PORT_STATn 0, PORT_STATn_LINK, 1), (PORT_REFSTAT, PORT_REFSTAT_PRESENT, 1)]).setPort 0 { PortSt.reset with noLock := false }, _, 0, List.replicate 12 0 ++ natBe 2 ((st []).od 0x000301) ++ List.replicate 46 0, _, by decide, by decide, by decide, by decide, by decide, by decide, by decide, by decide, rfl⟩,
   ⟨(st [(PORT_CFGn 0, PORT_CFGn_EN, 1), (PORT_STATn 0, PORT_STATn_STOPPED, 0), (PORT_STATn 0, PORT_STATn_LINK, 1), (PORT_REFSTAT, PORT_REFSTAT_PRESENT, 1)]).setPort 0 { PortSt.reset with noLock := false }, 0, [0], by decide, by decide, by decide, by decide, by decide, by decide⟩,
   ⟨(st [(PORT_CFGn 0, PORT_CFGn_EN, 1), (PORT_STATn 0, PORT_STATn_STOPPED, 0), (PORT_STATn 0, PORT_STATn_LINK, 1), (PORT_REFSTAT, PORT_REFSTAT_PRESENT, 1)]).setPort 0 { PortSt.reset with noLock := false }, 0, List.replicate 60 0, by decide, by decide, by decide, by decide, by decide, by decide, by decide⟩,
   ⟨(st [(PORT_CFGn 0, PORT_CFGn_EN, 1), (PORT_STATn 0, PORT_STATn_STOPPED, 0), (PORT_STATn 0, PORT_STATn_LINK, 1), (PORT_REFSTAT, PORT_REFSTAT_PRESENT, 1)]).setPort 0 { PortSt.reset with noLock := false }, 0, [1], by decide, by decide, by decide, by decide, by decide, by decide, by decide⟩,
   ⟨(st [(PORT_CFGn 0, PORT_CFGn_EN, 1), (PORT_STATn 0, PORT_STATn_STOPPED, 0), (PORT_STATn 0, PORT_STATn_LINK, 1), (PORT_REFSTAT, PORT_REFSTAT_PRESENT, 1)]).setPort 0 { PortSt.reset with noLock := false }, 0, List.replicate 12 0 ++ [0x88, 0x08] ++ List.replicate 46 0, by decide, by decide, by decide, by decide, by decide, by decide, by decide, by decide, by decide⟩,
   ⟨{ st [(PORT_CFGn 0, PORT_CFGn_EN, 1), (PORT_STATn 0, PORT_STATn_STOPPED, 0), (PORT_STATn 0, PORT_STATn_LINK, 1), (PORT_REFSTAT, PORT_REFSTAT_PRESENT, 1), (PORTWORD 0, PORTWORD_CT_EN, 1)] with offers := [(0, [{ item := Item.blank, copies := [.port 0 16], held := false, own := [none], single := true }])] }, _, 0, 0, 16, { item := Item.blank, copies := [.port 0 16], held := false, own := [none], single := true }, [], by decide, by decide, by decide, rfl, by decide, by decide⟩,
   ⟨{ st [(PORT_CFGn 0, PORT_CFGn_EN, 1), (PORT_STATn 0, PORT_STATn_STOPPED, 0), (PORT_STATn 0, PORT_STATn_LINK, 1), (PORT_REFSTAT, PORT_REFSTAT_PRESENT, 1)] with offers := [(0, [{ item := Item.blank, copies := [.port 0 16], held := false, own := [none], single := true }, { item := Item.blank, copies := [.port 0 16], held := false, own := [none], single := true }])] }, _, 0, 0, 16, { item := Item.blank, copies := [.port 0 16], held := false, own := [none], single := true }, [{ item := Item.blank, copies := [.port 0 16], held := false, own := [none], single := true }], by decide, by decide, by decide, rfl, by decide, by decide, by decide⟩,
   ⟨(st [(PORT_CFGn 0, PORT_CFGn_EN, 1), (PORT_STATn 0, PORT_STATn_STOPPED, 0), (PORT_STATn 0, PORT_STATn_LINK, 1), (PORT_REFSTAT, PORT_REFSTAT_PRESENT, 1)]).setQueue (.port 0 16) [{ item := Item.blank, dest := .port 0 16, chain := 0, cells := 1, place := 1 }], _, 0, 16, by decide, by decide, by decide, by decide, by decide, rfl, by decide, by decide⟩,
   ⟨State.setPort ((st [(PORT_CFGn 0, PORT_CFGn_EN, 1), (PORT_STATn 0, PORT_STATn_STOPPED, 0), (PORT_STATn 0, PORT_STATn_LINK, 1), (PORT_REFSTAT, PORT_REFSTAT_PRESENT, 1)]).setQueue (.port 0 16) [{ item := Item.blank, dest := .port 0 16, chain := 0, cells := 1, place := 1 }]) 0 { PortSt.reset with tx := some { q := 1, item := Item.blank, len := 1522, raw := 0, began := 0, sent := 0, pre := true, stamped := false } }, _, 0, 16, { q := 1, item := Item.blank, len := 1522, raw := 0, began := 0, sent := 0, pre := true, stamped := false }, by decide, by decide, by decide, by decide, by decide, rfl, by decide, by decide, by decide⟩,
   ⟨(st []).setPort 3 { PortSt.reset with tx := some { q := 1, item := Item.blank, len := 1522, raw := 0, began := 0, sent := 0, pre := true, stamped := false } }, 3, { q := 1, item := Item.blank, len := 1522, raw := 0, began := 0, sent := 0, pre := true, stamped := false }, by decide, by decide, by decide⟩,
   ⟨(st []).setPort 3 { PortSt.reset with rem := some { q := 1, item := { Item.blank with tsreq := some (0, 7) }, len := 1522, raw := 0, began := 0, sent := 64, pre := true, stamped := false } }, 3, { q := 1, item := { Item.blank with tsreq := some (0, 7) }, len := 1522, raw := 0, began := 0, sent := 64, pre := true, stamped := false }, by decide, by decide, by decide⟩,
   ⟨(st []).setPort 1023 { PortSt.reset with tx := some { q := 1, item := Item.blank, len := 1522, raw := 0, began := 0, sent := 0, pre := true, stamped := false } }, 1023, { q := 1, item := Item.blank, len := 1522, raw := 0, began := 0, sent := 0, pre := true, stamped := false }, by decide, by decide⟩,
   ⟨(st [(SEAM_STAT, SEAM_STAT_UP, 1)]).setQueue (.seam 1 5 15) [{ item := Item.blank, dest := .seam 1 5 15, chain := 0, cells := 1, place := 1 }], _, 1, 15, 5, { item := Item.blank, dest := .seam 1 5 15, chain := 0, cells := 1, place := 1 }, [], by decide, by decide, by decide, by decide, by decide, rfl⟩,
   by obtain ⟨g0, h0⟩ := Option.isSome_iff_exists.mp (show (State.gateChange (State.portSync (State.typedWrite (State.portSync (st [(PORT_CFGn 1023, PORT_CFGn_BOUND, 1), (PORT_CFGn 1023, PORT_CFGn_TENANT, 3), (PORT_GCTLn 1023, PORT_GCTLn_ADMIN_LEN, 1), (PORT_GCYCLEn 1023, ⟨31, 0⟩, 1000), (GATE_ADMIN 1023 0 + 4, ⟨31, 0⟩, 1000)]) 1023) .pcie (PORT_GCTLn 1023) (setF (setF 0 PORT_GCTLn_CHANGE 1) PORT_GCTLn_ADMIN_LEN 1)) 1023) 1023).isSome = true by decide); exact ⟨((st [(PORT_CFGn 1023, PORT_CFGn_BOUND, 1), (PORT_CFGn 1023, PORT_CFGn_TENANT, 3), (PORT_GCTLn 1023, PORT_GCTLn_ADMIN_LEN, 1), (PORT_GCYCLEn 1023, ⟨31, 0⟩, 1000), (GATE_ADMIN 1023 0 + 4, ⟨31, 0⟩, 1000)])), _, .pcie, 1023, (setF (setF 0 PORT_GCTLn_CHANGE 1) PORT_GCTLn_ADMIN_LEN 1), g0, by decide, by decide, by decide, rfl, h0⟩,
   ⟨(st []).setPort 3 { PortSt.reset with gatePend := some { ten := 5, base := 0, cycle := 1000, ext := 0, list := [(0, 1, 1000)] } }, _, 3, { ten := 5, base := 0, cycle := 1000, ext := 0, list := [(0, 1, 1000)] }, by decide, by decide, rfl⟩,
   ⟨st [(PORT_CFGn 0, PORT_CFGn_EN, 1)], 0, by decide⟩,
   ⟨{ st [(PORT_CFGn 0, PORT_CFGn_EN, 1), (PORT_STATn 0, PORT_STATn_STOPPED, 0), (PORT_STATn 0, PORT_STATn_LINK, 1), (PORT_REFSTAT, PORT_REFSTAT_PRESENT, 1), (PORT_LPIn 0, PORT_LPIn_EN, 1)] with mer := 2000000000 }, 0, by decide, by decide, by decide, by decide, by decide, by decide⟩,
   ⟨st [(PORT_STATn 0, PORT_STATn_LPI_TX, 1)], 0, by decide, by decide⟩⟩

/-! ### Witnesses of the statements of fragment 05 -/

set_option maxRecDepth 100000 in
theorem witness_CanChannelCommandsComplete :
  (∃ (s : State) (r : State) (t : State) (i : Iface) (c : Nat) (w : Word), s.hostUp = true ∧ c < 64 ∧ s.chRuns c = false ∧ getB w LCn_CFG_EN = true ∧ r = s.typedWrite i (LCn_CFG c) w ∧ t = (if s.loomTenant c = r.loomTenant c then r else r.linRebind c (s.chTime c))) ∧
  (∃ (s : State) (t : State) (i : Iface) (m : Nat) (w : Word), s.hostUp = true ∧ s.pcEn m = false ∧ (s.plca m).txq = none ∧ s.mayRun = true ∧ getB w PCm_CFG_EN = true ∧ t = s.typedWrite i (PCm_CFG m) w) ∧
  (∃ (s : State) (c : Nat) (w : Word), s.hostUp = true ∧ c < 64 ∧ s.chEn c = true ∧ getB w LCn_CFG_EN = false) ∧
  (∃ (s : State) (m : Nat) (w : Word), s.hostUp = true ∧ s.pcEn m = true ∧ getB w PCm_CFG_EN = false) ∧
  (∃ (s : State) (t : State) (u : State) (c : Nat) (e : QEnt) (rest : List QEnt), s.queue (Dest.loom c).key = e :: rest ∧ (s.chan c).tset.length < 8 ∧ t = ((s.setQueue (.loom c) rest).freeEntry e).obs (Dest.loom c).panel 0x021 e.cells (tenant := some e.item.tenant) (cls := some 0) ∧ u = (t.dropAt e.item (.loom c) (dequeueReason e.item)).tsqDiscard (1024 + c) e.item ∧ e.item.poison = true) ∧
  (∃ (s : State) (t : State) (u : State) (c : Nat) (e : QEnt) (rest : List QEnt), s.queue (Dest.loom c).key = e :: rest ∧ (s.chan c).tset.length < 8 ∧ t = ((s.setQueue (.loom c) rest).freeEntry e).obs (Dest.loom c).panel 0x021 e.cells (tenant := some e.item.tenant) (cls := some 0) ∧ u = (t.dropAt e.item (.loom c) (dequeueReason e.item)).tsqDiscard (1024 + c) e.item ∧ e.item.poison = false ∧ (s.chRefuses c = true ∨ s.chTakes c e.item = false)) ∧
  (∃ (s : State) (t : State) (u : State) (c : Nat) (e : QEnt) (rest : List QEnt), s.queue (Dest.loom c).key = e :: rest ∧ (s.chan c).tset.length < 8 ∧ t = ((s.setQueue (.loom c) rest).freeEntry e).obs (Dest.loom c).panel 0x021 e.cells (tenant := some e.item.tenant) (cls := some 0) ∧ u = (t.dropAt e.item (.loom c) (dequeueReason e.item)).tsqDiscard (1024 + c) e.item ∧ s.chRefuses c = false ∧ e.item.poison = false ∧ s.chTakes c e.item = true) ∧
  (∃ (s : State) (r : State) (t : State) (c : Nat) (f : CanFrame), s.chReceives c = true ∧ s.chProto c ≠ 3 ∧ canFormed f (s.chProto c) = true ∧ r = s.setChan c { s.chan c with rxBusy := false } ∧ t = ((((r.chRecDown c).setFld (chErr c) LCn_ERR_LEC 0).chErrState c).chCount c 0).chValid c ∧ c < 64) ∧
  (∃ (s : State) (r : State) (t : State) (c : Nat) (f : CanFrame), s.chReceives c = true ∧ s.chProto c ≠ 3 ∧ canFormed f (s.chProto c) = true ∧ r = s.setChan c { s.chan c with rxBusy := false } ∧ t = ((((r.chRecDown c).setFld (chErr c) LCn_ERR_LEC 0).chErrState c).chCount c 0).chValid c ∧ 64 ≤ c) ∧
  (∃ (s : State) (r : State) (t : State) (c : Nat) (found : Nat), s.chReceives c = true ∧ s.chProto c ≠ 3 ∧ 1 ≤ found ∧ found ≤ 6 ∧ r = s.setChan c { s.chan c with rxBusy := false } ∧ t = (r.chCount c 2).setFld (chErr c) LCn_ERR_LEC found) ∧
  (∃ (s : State) (c : Nat), s.chReceives c = true ∧ s.chProto c ≠ 3 ∧ s.chEn c = true ∧ (s.chan c).trans = none) ∧
  (∃ (s : State) (t : State) (c : Nat) (tdcv : Option Nat) (meas : Option Nat) (it : Item) (jt : Item), (s.chan c).frame = some it ∧ s.chTrxSt c = 0 ∧ (meas = (if it.fmt ≠ 0 ∧ s.flag (chTdc c) LCn_TDC_EN then tdcv else none)) ∧ t = (match meas with | some v => s.setFld (chTdc c) LCn_TDC_TDCV (min 127 v) | none => s) ∧ jt = (if it.fmt = 0 then it else { it with esi := s.chState c == 1 }) ∧ meas.getD 0 ≤ 127) ∧
  (∃ (s : State) (t : State) (c : Nat) (tdcv : Option Nat) (meas : Option Nat) (it : Item) (jt : Item) (u : State), (s.chan c).frame = some it ∧ s.chTrxSt c = 0 ∧ (meas = (if it.fmt ≠ 0 ∧ s.flag (chTdc c) LCn_TDC_EN then tdcv else none)) ∧ t = (match meas with | some v => s.setFld (chTdc c) LCn_TDC_TDCV (min 127 v) | none => s) ∧ jt = (if it.fmt = 0 then it else { it with esi := s.chState c == 1 }) ∧ u = s.chCount c 4) ∧
  (∃ (s : State) (t : State) (c : Nat) (lec : Nat) (eights : Nat) (tdcv : Option Nat) (meas : Option Nat) (it : Item) (jt : Item) (u : State), (s.chan c).frame = some it ∧ s.chTrxSt c = 0 ∧ (meas = (if it.fmt ≠ 0 ∧ s.flag (chTdc c) LCn_TDC_EN then tdcv else none)) ∧ t = (match meas with | some v => s.setFld (chTdc c) LCn_TDC_TDCV (min 127 v) | none => s) ∧ jt = (if it.fmt = 0 then it else { it with esi := s.chState c == 1 }) ∧ meas.getD 0 ≤ 127 ∧ u = (t.takeFree.2.chCount c 3).setFld (chErr c) LCn_ERR_LEC lec ∧ 255 < t.fld (chErr c) LCn_ERR_TEC + 8 * eights) ∧
  (∃ (s : State) (t : State) (c : Nat) (lec : Nat) (eights : Nat) (tdcv : Option Nat) (meas : Option Nat) (it : Item) (jt : Item) (u : State) (v : State), (s.chan c).frame = some it ∧ s.chTrxSt c = 0 ∧ (meas = (if it.fmt ≠ 0 ∧ s.flag (chTdc c) LCn_TDC_EN then tdcv else none)) ∧ t = (match meas with | some v => s.setFld (chTdc c) LCn_TDC_TDCV (min 127 v) | none => s) ∧ jt = (if it.fmt = 0 then it else { it with esi := s.chState c == 1 }) ∧ meas.getD 0 ≤ 127 ∧ u = (t.takeFree.2.chCount c 3).setFld (chErr c) LCn_ERR_LEC lec ∧ t.fld (chErr c) LCn_ERR_TEC + 8 * eights ≤ 255 ∧ v = (u.setFld (chErr c) LCn_ERR_TEC (t.fld (chErr c) LCn_ERR_TEC + 8 * eights)).chErrState c) ∧
  (∃ (s : State) (c : Nat) (w : Word), s.hostUp = true ∧ c < 64 ∧ s.chState c = 2 ∧ getB w LCn_ERR_RECOVER = true) ∧
  (∃ (s : State) (c : Nat), s.chState c = 3) ∧
  (∃ (s : State) (c : Nat) (w : Word), s.hostUp = true ∧ getB w LCn_RXCTL_RELEASE = true ∧ (s.chan c).cur.isSome = true) ∧
  (∃ (s : State) (c : Nat) (b : RxBuf), s.hostUp = true ∧ (s.chan c).cur = some b) ∧
  (∃ (s : State) (c : Nat), s.hostUp = true ∧ (s.chan c).cur = none) :=
  ⟨⟨st [], _, _, .pcie, 63, 0x80000000, by decide, by decide, by decide, by decide, rfl, rfl⟩,
   ⟨st [], _, .pcie, 15, 0x80000000, by decide, by decide, by decide, by decide, by decide, rfl⟩,
   ⟨st [(LCn_CFG 63, LCn_CFG_EN, 1)], 63, (st []).rd (LCn_CFG 63), by decide, by decide, by decide, by decide⟩,
   ⟨st [(PCm_CFG 15, PCm_CFG_EN, 1)], 15, 0, by decide, by decide, by decide⟩,
   ⟨(st []).setQueue (.loom 63) [{ qe (.loom 63) with item := { canIt with poison := true } }], _, _, 63, { qe (.loom 63) with item := { canIt with poison := true } }, [], by decide, by decide, rfl, rfl, by decide⟩,
   ⟨(st []).setQueue (.loom 63) [qe (.loom 63)], _, _, 63, qe (.loom 63), [], by decide, by decide, rfl, rfl, by decide, by decide⟩,
   ⟨(st [(LCn_CFG 63, LCn_CFG_EN, 1), (LCn_STAT 63, LCn_STAT_TRX, 0)]).setQueue (.loom 63) [{ qe (.loom 63) with item := canIt }], _, _, 63, { qe (.loom 63) with item := canIt }, [], by decide, by decide, rfl, rfl, by decide, by decide, by decide⟩,
   ⟨st [(LCn_CFG 63, LCn_CFG_EN, 1), (LCn_STAT 63, LCn_STAT_TRX, 0)], _, _, 63, canFr, by decide, by decide, by decide, rfl, rfl, by decide⟩,
   ⟨st [(MBb_CFG 0, LCn_CFG_EN, 1), (MBb_STAT 0, LCn_STAT_TRX, 0)], _, _, 64, canFr, by decide, by decide, by decide, rfl, rfl, by decide⟩,
   ⟨st [(LCn_CFG 63, LCn_CFG_EN, 1), (LCn_STAT 63, LCn_STAT_TRX, 1)], _, _, 63, 6, by decide, by decide, by decide, by decide, rfl, rfl⟩,
   ⟨st [(LCn_CFG 63, LCn_CFG_EN, 1), (LCn_STAT 63, LCn_STAT_TRX, 0)], 63, by decide, by decide, by decide, by decide⟩,
   ⟨(st [(LCn_STAT 63, LCn_STAT_TRX, 0), (LCn_TDC 63, LCn_TDC_EN, 1)]).setChan 63 { ChanSt.reset with tset := [(4, canIt)], txNow := some 4 }, _, 63, none, _, canIt, _, by decide, by decide, rfl, rfl, rfl, by decide⟩,
   ⟨(st [(LCn_STAT 63, LCn_STAT_TRX, 0)]).setChan 63 { ChanSt.reset with tset := [(4, canIt)], txNow := some 4 }, _, 63, none, _, canIt, _, _, by decide, by decide, rfl, rfl, rfl, rfl⟩,
   ⟨(st [(LCn_STAT 63, LCn_STAT_TRX, 0), (LCn_ERR 63, LCn_ERR_TEC, 248)]).setChan 63 { ChanSt.reset with tset := [(4, canIt)], txNow := some 4 }, _, 63, 0, 1, none, _, canIt, _, _, by decide, by decide, rfl, rfl, rfl, by decide, rfl, by decide⟩,
   ⟨(st [(LCn_STAT 63, LCn_STAT_TRX, 0), (LCn_ERR 63, LCn_ERR_TEC, 247)]).setChan 63 { ChanSt.reset with tset := [(4, canIt)], txNow := some 4 }, _, 63, 0, 1, none, _, canIt, _, _, _, by decide, by decide, rfl, rfl, rfl, by decide, rfl, by decide, rfl⟩,
   ⟨st [(LCn_ERR 63, LCn_ERR_STATE, 2)], 63, 1, by decide, by decide, by decide, by decide⟩,
   ⟨st [(LCn_ERR 63, LCn_ERR_STATE, 3)], 63, by decide⟩,
   ⟨(st []).setChan 63 { ChanSt.reset with cur := some { item := canIt, mer := 0, ten := 0 } }, 63, 1, by decide, by decide, by decide⟩,
   ⟨(st []).setChan 63 { ChanSt.reset with cur := some { item := canIt, mer := 0, ten := 0 } }, 63, { item := canIt, mer := 0, ten := 0 }, by decide, by decide⟩,
   ⟨st [], 63, by decide, by decide⟩⟩

set_option maxRecDepth 100000 in
theorem witness_LinChannelCommandsComplete :
  (∃ (s : State) (t : State) (c : Nat) (err : Nat), s.chReceives c = true ∧ s.chEn c = true ∧ s.chProto c = 3 ∧ s.flag (LCn_CFG c) LCn_CFG_LIN_ROLE = false ∧ (s.chan c).linWait = none ∧ (s.chan c).trans = none ∧ t = s.setChan c { s.chan c with linAct := s.mer } ∧ (err = 5 ∨ err = 6)) ∧
  (∃ (s : State) (t : State) (c : Nat) (id : Nat) (err : Nat) (p : Nat × Item), s.chReceives c = true ∧ s.chEn c = true ∧ s.chProto c = 3 ∧ s.flag (LCn_CFG c) LCn_CFG_LIN_ROLE = false ∧ (s.chan c).linWait = none ∧ (s.chan c).trans = none ∧ t = s.setChan c { s.chan c with linAct := s.mer } ∧ err ≠ 5 ∧ err ≠ 6 ∧ s.linLen c id ≠ 0 ∧ (t.chan c).lin.find? (fun p => p.1 == id) = some p ∧ t.chTrxSt c = 0) ∧
  (∃ (s : State) (t : State) (c : Nat) (id : Nat) (err : Nat) (resp : Option (List Byte)) (d : List Byte), s.chReceives c = true ∧ s.chEn c = true ∧ s.chProto c = 3 ∧ s.flag (LCn_CFG c) LCn_CFG_LIN_ROLE = false ∧ (s.chan c).linWait = none ∧ (s.chan c).trans = none ∧ t = s.setChan c { s.chan c with linAct := s.mer } ∧ err ≠ 5 ∧ err ≠ 6 ∧ s.linLen c id ≠ 0 ∧ ((t.chan c).lin.find? (fun p => p.1 == id) = none ∨ t.chTrxSt c ≠ 0) ∧ resp = some d) ∧
  (∃ (s : State) (t : State) (c : Nat) (id : Nat) (err : Nat) (resp : Option (List Byte)), s.chReceives c = true ∧ s.chEn c = true ∧ s.chProto c = 3 ∧ s.flag (LCn_CFG c) LCn_CFG_LIN_ROLE = false ∧ (s.chan c).linWait = none ∧ (s.chan c).trans = none ∧ t = s.setChan c { s.chan c with linAct := s.mer } ∧ err ≠ 5 ∧ err ≠ 6 ∧ s.linLen c id ≠ 0 ∧ ((t.chan c).lin.find? (fun p => p.1 == id) = none ∨ t.chTrxSt c ≠ 0) ∧ resp = none) ∧
  (∃ (s : State) (t : State) (c : Nat) (id : Nat) (due : Nat), s.chReceives c = true ∧ s.chProto c = 3 ∧ t = s.setChan c { s.chan c with linAct := s.mer } ∧ (s.chan c).linWait = some (id, due)) ∧
  (∃ (s : State) (c : Nat) (id : Nat) (due : Nat), (s.chan c).linWait = some (id, due) ∧ due ≤ s.mer) ∧
  (∃ (s : State) (c : Nat) (k : Nat) (l : List Nat), s.chEn c = true ∧ s.chProto c = 3 ∧ s.linScheduled c = true ∧ s.chTrxSt c = 0 ∧ (s.chan c).trans = none ∧ (s.chan c).wakeAt = none ∧ (s.chan c).late = k :: l ∧ (s.chan c).linWait = none ∧ (s.chan c).busyTill ≤ s.mer) ∧
  (∃ (s : State) (c : Nat) (k : Nat) (y : ChanSt), s.chEn c = true ∧ s.chProto c = 3 ∧ s.linScheduled c = true ∧ s.chTrxSt c = 0 ∧ (s.chan c).trans = none ∧ (s.chan c).wakeAt = none ∧ (s.chan c).schedIdx = k ∧ k < s.schedLen c ∧ reached (s.chTime c) (s.chan c).schedDue = true ∧ y = { s.chan c with schedIdx := (k + 1) % s.schedLen c, schedDue := ((s.chan c).schedDue + (s.rd (LIN_SCHED c k + 4)).toNat) % 2 ^ 64 } ∧ (s.chan c).late = [] ∧ (s.chan c).linWait = none ∧ (s.chan c).busyTill ≤ s.mer) ∧
  (∃ (s : State) (c : Nat) (k : Nat) (y : ChanSt), s.chEn c = true ∧ s.chProto c = 3 ∧ s.linScheduled c = true ∧ s.chTrxSt c = 0 ∧ (s.chan c).trans = none ∧ (s.chan c).wakeAt = none ∧ (s.chan c).schedIdx = k ∧ k < s.schedLen c ∧ reached (s.chTime c) (s.chan c).schedDue = true ∧ y = { s.chan c with schedIdx := (k + 1) % s.schedLen c, schedDue := ((s.chan c).schedDue + (s.rd (LIN_SCHED c k + 4)).toNat) % 2 ^ 64 } ∧ (s.mer < (s.chan c).busyTill ∨ (s.chan c).linWait.isSome = true)) ∧
  (∃ (s : State) (c : Nat), s.chProto c = 3 ∧ s.chEn c = true ∧ s.flag (LCn_CFG c) LCn_CFG_LIN_ROLE = false ∧ s.chTrxSt c < 2 ∧ (s.chan c).trans = none ∧ (s.chan c).linAct + 4000 * msTicks ≤ s.mer) ∧
  (∃ (s : State) (c : Nat) (a : Nat), (s.chan c).wakeAt = some a ∧ a ≤ s.mer) :=
  ⟨⟨st [(LCn_CFG 5, LCn_CFG_EN, 1), (LCn_CFG 5, LCn_CFG_PROTO, 3), (LCn_STAT 5, LCn_STAT_TRX, 0), (LIN_LEN 5 7, ⟨31, 0⟩, 0x88888888)], _, 5, 6, by decide, by decide, by decide, by decide, by decide, by decide, rfl, by decide⟩,
   ⟨(st [(LCn_CFG 5, LCn_CFG_EN, 1), (LCn_CFG 5, LCn_CFG_PROTO, 3), (LCn_STAT 5, LCn_STAT_TRX, 0), (LIN_LEN 5 7, ⟨31, 0⟩, 0x88888888)]).setChan 5 { ChanSt.reset with lin := [(63, canIt)] }, _, 5, 63, 0, (63, canIt), by decide, by decide, by decide, by decide, by decide, by decide, rfl, by decide, by decide, by decide, by decide, by decide⟩,
   ⟨st [(LCn_CFG 5, LCn_CFG_EN, 1), (LCn_CFG 5, LCn_CFG_PROTO, 3), (LCn_STAT 5, LCn_STAT_TRX, 0), (LIN_LEN 5 7, ⟨31, 0⟩, 0x88888888)], _, 5, 63, 0, some [1], [1], by decide, by decide, by decide, by decide, by decide, by decide, rfl, by decide, by decide, by decide, by decide, by decide⟩,
   ⟨st [(LCn_CFG 5, LCn_CFG_EN, 1), (LCn_CFG 5, LCn_CFG_PROTO, 3), (LCn_STAT 5, LCn_STAT_TRX, 0), (LIN_LEN 5 7, ⟨31, 0⟩, 0x88888888)], _, 5, 63, 0, _, by decide, by decide, by decide, by decide, by decide, by decide, rfl, by decide, by decide, by decide, by decide, rfl⟩,
   ⟨(st [(LCn_CFG 5, LCn_CFG_EN, 1), (LCn_CFG 5, LCn_CFG_PROTO, 3), (LCn_STAT 5, LCn_STAT_TRX, 0), (LCn_CFG 5, LCn_CFG_LIN_ROLE, 1)]).setChan 5 { ChanSt.reset with linWait := some (63, 9) }, _, 5, 63, 9, by decide, by decide, rfl, by decide⟩,
   ⟨(st [(LCn_CFG 5, LCn_CFG_EN, 1), (LCn_CFG 5, LCn_CFG_PROTO, 3), (LCn_STAT 5, LCn_STAT_TRX, 0)]).setChan 5 { ChanSt.reset with linWait := some (63, 0) }, 5, 63, 0, by decide, by decide⟩,
   ⟨(st [(LCn_CFG 5, LCn_CFG_EN, 1), (LCn_CFG 5, LCn_CFG_PROTO, 3), (LCn_STAT 5, LCn_STAT_TRX, 0), (LCn_CFG 5, LCn_CFG_LIN_ROLE, 1), (LCn_LIN 5, LCn_LIN_SCHED_EN, 1), (LCn_LIN 5, LCn_LIN_SCHED_LEN, 64)]).setChan 5 { ChanSt.reset with late := [63] }, 5, 63, [], by decide, by decide, by decide, by decide, by decide, by decide, by decide, by decide, by decide⟩,
   ⟨(st [(LCn_CFG 5, LCn_CFG_EN, 1), (LCn_CFG 5, LCn_CFG_PROTO, 3), (LCn_STAT 5, LCn_STAT_TRX, 0), (LCn_CFG 5, LCn_CFG_LIN_ROLE, 1), (LCn_LIN 5, LCn_LIN_SCHED_EN, 1), (LCn_LIN 5, LCn_LIN_SCHED_LEN, 64)]).setChan 5 { ChanSt.reset with schedIdx := 63 }, 5, 63, _, by decide, by decide, by decide, by decide, by decide, by decide, by decide, by decide, by decide, rfl, by decide, by decide, by decide⟩,
   ⟨(st [(LCn_CFG 5, LCn_CFG_EN, 1), (LCn_CFG 5, LCn_CFG_PROTO, 3), (LCn_STAT 5, LCn_STAT_TRX, 0), (LCn_CFG 5, LCn_CFG_LIN_ROLE, 1), (LCn_LIN 5, LCn_LIN_SCHED_EN, 1), (LCn_LIN 5, LCn_LIN_SCHED_LEN, 64)]).setChan 5 { ChanSt.reset with schedIdx := 63, busyTill := 1 }, 5, 63, _, by decide, by decide, by decide, by decide, by decide, by decide, by decide, by decide, by decide, rfl, by decide⟩,
   ⟨{ st [(LCn_CFG 5, LCn_CFG_EN, 1), (LCn_CFG 5, LCn_CFG_PROTO, 3), (LCn_STAT 5, LCn_STAT_TRX, 0)] with mer := 8000000000 }, 5, by decide, by decide, by decide, by decide, by decide, by decide⟩,
   ⟨(st []).setChan 5 { ChanSt.reset with wakeAt := some 0 }, 5, 0, by decide, by decide⟩⟩

set_option maxRecDepth 100000 in
theorem witness_TransceiverCommandsComplete :
  (∃ (s : State) (r : State) (t : State) (i : Iface) (c : Nat) (w : Word), s.hostUp = true ∧ c < 64 ∧ r = s.typedWrite i (chTrx c) w ∧ t = r.setChan c { r.chan c with code := r.chCode c (r.chTrxSt c) } ∧ getB w LCn_TRX_REQ_V = false) ∧
  (∃ (s : State) (r : State) (t : State) (i : Iface) (c : Nat) (w : Word), s.hostUp = true ∧ c < 64 ∧ r = s.typedWrite i (chTrx c) w ∧ t = r.setChan c { r.chan c with code := r.chCode c (r.chTrxSt c) } ∧ getB w LCn_TRX_REQ_V = true ∧ (t.chan c).trans = none) ∧
  (∃ (s : State) (r : State) (t : State) (i : Iface) (c : Nat) (w : Word) (tr : LoomTrans), s.hostUp = true ∧ c < 64 ∧ r = s.typedWrite i (chTrx c) w ∧ t = r.setChan c { r.chan c with code := r.chCode c (r.chTrxSt c) } ∧ getB w LCn_TRX_REQ_V = true ∧ (t.chan c).trans = some tr) ∧
  (∃ (s : State) (c : Nat), s.hostUp = true ∧ 64 ≤ c) ∧
  (∃ (s : State) (c : Nat) (tr : LoomTrans), (s.chan c).trans = some tr ∧ tr.phase = 0) ∧
  (∃ (s : State) (c : Nat) (tr : LoomTrans), (s.chan c).trans = some tr ∧ tr.phase = 1 ∧ tr.due ≤ s.mer) ∧
  (∃ (s : State) (c : Nat) (tr : LoomTrans), (s.chan c).trans = some tr ∧ tr.phase = 2 ∧ tr.due ≤ s.mer) ∧
  (∃ (s : State) (c : Nat) (tr : LoomTrans), (s.chan c).trans = some tr ∧ tr.phase = 3 ∧ tr.due ≤ s.mer) ∧
  (∃ (s : State) (c : Nat) (low : Nat), s.chArmed c = true ∧ s.flag (chWake c) LCn_WAKE_WMODE = false ∧ s.chFilter c ≤ low) ∧
  (∃ (s : State) (t : State) (c : Nat) (f : CanFrame), s.chArmed c = true ∧ s.flag (chWake c) LCn_WAKE_WMODE = true ∧ f.fmt = 0 ∧ t = s.setChan c { s.chan c with wufErr := (s.chan c).wufErr - 1 } ∧ t.wufMatch c f = true ∧ t.filterRegime c = false) ∧
  (∃ (s : State) (t : State) (c : Nat) (f : CanFrame), s.chArmed c = true ∧ s.flag (chWake c) LCn_WAKE_WMODE = true ∧ f.fmt = 0 ∧ t = s.setChan c { s.chan c with wufErr := (s.chan c).wufErr - 1 } ∧ t.wufMatch c f = true ∧ t.filterRegime c = true ∧ (s.chan c).wufPrev = none) ∧
  (∃ (s : State) (t : State) (c : Nat) (f : CanFrame) (p : Nat), s.chArmed c = true ∧ s.flag (chWake c) LCn_WAKE_WMODE = true ∧ f.fmt = 0 ∧ t = s.setChan c { s.chan c with wufErr := (s.chan c).wufErr - 1 } ∧ t.wufMatch c f = true ∧ t.filterRegime c = true ∧ (s.chan c).wufPrev = some p) ∧
  (∃ (s : State) (t : State) (c : Nat) (f : CanFrame), s.chArmed c = true ∧ s.flag (chWake c) LCn_WAKE_WMODE = true ∧ f.fmt = 0 ∧ t = s.setChan c { s.chan c with wufErr := (s.chan c).wufErr - 1 } ∧ t.wufMatch c f = false) ∧
  (∃ (s : State) (t : State) (c : Nat) (f : CanFrame), s.chArmed c = true ∧ s.flag (chWake c) LCn_WAKE_WMODE = true ∧ f.fmt = 0 ∧ t = s.setChan c { s.chan c with wufErr := (s.chan c).wufErr - 1 } ∧ 31 ≤ (s.chan c).wufErr) ∧
  (∃ (s : State) (t : State) (c : Nat) (f : CanFrame), s.chArmed c = true ∧ s.flag (chWake c) LCn_WAKE_WMODE = true ∧ f.fmt = 0 ∧ t = s.setChan c { s.chan c with wufErr := (s.chan c).wufErr - 1 } ∧ (s.chan c).wufErr < 31) ∧
  (∃ (s : State) (t : State) (u : State) (c : Nat) (t0 : Nat), (s.chan c).fw = some t0 ∧ reached (s.chTime c) (t0 + s.fld (chWake c) LCn_WAKE_FW_WIN * msTicks) = true ∧ t = ((State.chCount (s.setChan c { s.chan c with fw := none }) c 10).bumpSat (chStat c) LCn_STAT_FW_CNT).chEvent c LCn_EVT_FALSE_WAKE ∧ (u = (if t.fld (chWake c) LCn_WAKE_FW_THR ≠ 0 ∧ t.fld (chStat c) LCn_STAT_FW_CNT = t.fld (chWake c) LCn_WAKE_FW_THR then ((t.setFld (chStat c) LCn_STAT_WAKE_SUPP 1).chEvent c LCn_EVT_SUPP).log 161 c else t)) ∧ (u.chan c).trans = none) ∧
  (∃ (s : State) (t : State) (u : State) (c : Nat) (t0 : Nat) (m : LoomTrans), (s.chan c).fw = some t0 ∧ reached (s.chTime c) (t0 + s.fld (chWake c) LCn_WAKE_FW_WIN * msTicks) = true ∧ t = ((State.chCount (s.setChan c { s.chan c with fw := none }) c 10).bumpSat (chStat c) LCn_STAT_FW_CNT).chEvent c LCn_EVT_FALSE_WAKE ∧ (u = (if t.fld (chWake c) LCn_WAKE_FW_THR ≠ 0 ∧ t.fld (chStat c) LCn_STAT_FW_CNT = t.fld (chWake c) LCn_WAKE_FW_THR then ((t.setFld (chStat c) LCn_STAT_WAKE_SUPP 1).chEvent c LCn_EVT_SUPP).log 161 c else t)) ∧ (u.chan c).trans = some m) ∧
  (∃ (s : State) (c : Nat) (w : Word), s.hostUp = true ∧ c < 64 ∧ getB w LCn_EVT_SUPP = true) ∧
  (∃ (s : State) (t : State) (u : State) (c : Nat) (t0 : Nat), (s.chan c).awake = some t0 ∧ c < 64 ∧ s.fld (chWtime c) LCn_WTIME_MAXAWAKE ≠ 0 ∧ reached (s.chTime c) (t0 + s.fld (chWtime c) LCn_WTIME_MAXAWAKE * 100 * msTicks) = true ∧ t = s.setChan c { s.chan c with awake := none, held := none } ∧ u = (match (t.chan c).trans with | some x => if x.target = 3 then t.chSetTrans c (some { x with deaf := true }) else t.chMove c 3 true | none => t.chMove c 3 true)) :=
  ⟨⟨st [], _, _, .pcie, 63, 0, by decide, by decide, rfl, rfl, by decide⟩,
   ⟨st [], _, _, .pcie, 63, 0x20000000, by decide, by decide, rfl, rfl, by decide, by decide⟩,
   ⟨(st []).setChan 63 { ChanSt.reset with trans := some { target := 0, phase := 1, due := 0, deaf := true } }, _, _, .pcie, 63, 0x20000000, { target := 0, phase := 1, due := 0, deaf := true }, by decide, by decide, rfl, rfl, by decide, by decide⟩,
   ⟨st [], 65, by decide, by decide⟩,
   ⟨(st []).setChan 7 { ChanSt.reset with trans := some { target := 0, phase := 0, due := 0, deaf := false } }, 7, { target := 0, phase := 0, due := 0, deaf := false }, by decide, by decide⟩,
   ⟨(st []).setChan 7 { ChanSt.reset with trans := some { target := 0, phase := 1, due := 0, deaf := false } }, 7, { target := 0, phase := 1, due := 0, deaf := false }, by decide, by decide, by decide⟩,
   ⟨(st []).setChan 7 { ChanSt.reset with trans := some { target := 0, phase := 2, due := 0, deaf := false } }, 7, { target := 0, phase := 2, due := 0, deaf := false }, by decide, by decide, by decide⟩,
   ⟨(st []).setChan 7 { ChanSt.reset with trans := some { target := 0, phase := 3, due := 0, deaf := false } }, 7, { target := 0, phase := 3, due := 0, deaf := false }, by decide, by decide, by decide⟩,
   ⟨st [(LCn_WAKE 7, LCn_WAKE_EN, 1), (LCn_WAKE 7, LCn_WAKE_WFILT, 5)], 7, 10000, by decide, by decide, by decide⟩,
   ⟨{ st [(LCn_WAKE 7, LCn_WAKE_EN, 1), (LCn_WAKE 7, LCn_WAKE_WMODE, 1)] with node := .run }, _, 7, canFr, by decide, by decide, by decide, rfl, by decide, by decide⟩,
   ⟨st [(LCn_WAKE 7, LCn_WAKE_EN, 1), (LCn_WAKE 7, LCn_WAKE_WMODE, 1)], _, 7, canFr, by decide, by decide, by decide, rfl, by decide, by decide, by decide⟩,
   ⟨(st [(LCn_WAKE 7, LCn_WAKE_EN, 1), (LCn_WAKE 7, LCn_WAKE_WMODE, 1)]).setChan 7 { ChanSt.reset with wufPrev := some 3 }, _, 7, canFr, 3, by decide, by decide, by decide, rfl, by decide, by decide, by decide⟩,
   ⟨st [(LCn_WAKE 7, LCn_WAKE_EN, 1), (LCn_WAKE 7, LCn_WAKE_WMODE, 1), (LCn_WUF_ID 7, LCn_WUF_ID_IDE, 1)], _, 7, canFr, by decide, by decide, by decide, rfl, by decide⟩,
   ⟨(st [(LCn_WAKE 7, LCn_WAKE_EN, 1), (LCn_WAKE 7, LCn_WAKE_WMODE, 1)]).setChan 7 { ChanSt.reset with wufErr := 31 }, _, 7, canFr, by decide, by decide, by decide, rfl, by decide⟩,
   ⟨(st [(LCn_WAKE 7, LCn_WAKE_EN, 1), (LCn_WAKE 7, LCn_WAKE_WMODE, 1)]).setChan 7 { ChanSt.reset with wufErr := 30 }, _, 7, canFr, by decide, by decide, by decide, rfl, by decide⟩,
   ⟨(st []).setChan 7 { ChanSt.reset with fw := some 0 }, _, _, 7, 0, by decide, by decide, rfl, rfl, by decide⟩,
   ⟨(st []).setChan 7 { ChanSt.reset with fw := some 0, trans := some { target := 3, phase := 2, due := 9, deaf := false } }, _, _, 7, 0, { target := 3, phase := 2, due := 9, deaf := false }, by decide, by decide, rfl, rfl, by decide⟩,
   ⟨st [], 63, 0x200, by decide, by decide, by decide⟩,
   ⟨{ (st [(LCn_WTIME 63, LCn_WTIME_MAXAWAKE, 1)]).setChan 63 { ChanSt.reset with awake := some 0 } with mer := 200000000 }, _, _, 63, 0, by decide, by decide, by decide, by decide, rfl, rfl⟩⟩

set_option maxRecDepth 100000 in
theorem witness_PlcaAndManagementCommandsComplete :
  (∃ (s : State) (a : State) (t : State) (u : State) (m : Nat) (raw : Nat) (d : List Byte) (it : Item), s.pcEn m = true ∧ 60 ≤ d.length ∧ d.length ≤ 1518 ∧ (beAt d 12 2 == 0x8808) = false ∧ s.waitsOf (12288 + m) < 8 ∧ ((oct d 0 % 2 = 0 ∨ s.pcPass m d = true)) ∧ s.admitData (srcPanel (12288 + m)) = (true, a) ∧ t = (a.pcCount m 0).pcCount m 1 (d.length + 4) ∧ u = (if beAt d 0 6 = 2 ^ 48 - 1 then t.pcCount m 3 else if oct d 0 % 2 == 1 then t.pcCount m 2 else t) ∧ it = { Item.blank with data := d, src := 12288 + m, stamp := raw, tenant := 1024 }) ∧
  (∃ (s : State) (m : Nat) (d : List Byte), s.pcEn m = true ∧ (beAt d 12 2 == 0x8808) = false ∧ s.waitsOf (12288 + m) < 8 ∧ 60 ≤ d.length ∧ d.length ≤ 1518) ∧
  (∃ (s : State) (m : Nat) (d : List Byte), s.pcEn m = true ∧ (beAt d 12 2 == 0x8808) = false ∧ s.waitsOf (12288 + m) < 8 ∧ (d.length < 60 ∨ 1518 < d.length)) ∧
  (∃ (s : State) (t : State) (m : Nat) (q : Nat) (raw : Nat) (e : QEnt) (rest : List QEnt) (it : Item) (u : State) (v : State) (w : State), s.flag (PCm_STAT m) PCm_STAT_LINK = true ∧ s.pcEn m = true ∧ s.plcaMay m raw = true ∧ s.pcQueue m = some q ∧ s.queue (Dest.plca m q).key = e :: rest ∧ e.item.poison = false ∧ max ((s.pcSent m e.item).length + 4) e.item.stored ≤ 1526 ∧ t = (s.setQueue (.plca m q) rest).setPlca m { s.plca m with txq := none, coll := 0 } ∧ e.item.tsreq = none ∧ it = { e.item.mark 8 s.mer with data := s.pcSent m e.item } ∧ u = (t.freeEntry e).obs (Dest.plca m q).panel 0x021 e.cells (tenant := some it.tenant) (cls := some q) ∧ v = (u.setPlca m { u.plca m with sent := (s.plca m).sent + 1, sentAt := s.mer }).emitOut (.frame (1024 + m) it false) ∧ w = (v.pcCount m 9).pcCount m 10 ((s.pcSent m e.item).length + 4)) ∧
  (∃ (s : State) (t : State) (m : Nat) (q : Nat) (raw : Nat) (e : QEnt) (rest : List QEnt), s.flag (PCm_STAT m) PCm_STAT_LINK = true ∧ s.pcEn m = true ∧ s.plcaMay m raw = true ∧ s.pcQueue m = some q ∧ s.queue (Dest.plca m q).key = e :: rest ∧ e.item.poison = false ∧ max ((s.pcSent m e.item).length + 4) e.item.stored ≤ 1526 ∧ t = (s.setQueue (.plca m q) rest).setPlca m { s.plca m with txq := none, coll := 0 } ∧ (s.plca m).coll < 15) ∧
  (∃ (s : State) (t : State) (m : Nat) (q : Nat) (raw : Nat) (e : QEnt) (rest : List QEnt) (u : State), s.flag (PCm_STAT m) PCm_STAT_LINK = true ∧ s.pcEn m = true ∧ s.plcaMay m raw = true ∧ s.pcQueue m = some q ∧ s.queue (Dest.plca m q).key = e :: rest ∧ e.item.poison = false ∧ max ((s.pcSent m e.item).length + 4) e.item.stored ≤ 1526 ∧ t = (s.setQueue (.plca m q) rest).setPlca m { s.plca m with txq := none, coll := 0 } ∧ 15 ≤ (s.plca m).coll ∧ u = ((s.pcCount m 12).setQueue (.plca m q) rest).setPlca m { s.plca m with txq := none, coll := 0 }) ∧
  (∃ (s : State) (m : Nat), s.plcaOn m = true ∧ s.fld (PCm_PLCA m) PCm_PLCA_NODE_ID ≠ 0) ∧
  (∃ (s : State) (m : Nat) (nodes : Nat), s.plcaOn m = true ∧ s.fld (PCm_PLCA m) PCm_PLCA_NODE_ID = 0 ∧ nodes = max 1 (s.fld (PCm_PLCA m) PCm_PLCA_NODE_CNT) ∧ (s.flag (PCm_STAT m) PCm_STAT_PLCA_ST = false ∨ (s.plca m).beaconAt + (20 + nodes * s.plcaTo m) * plcaBit ≤ s.mer)) ∧
  (∃ (s : State) (m : Nat), s.flag (PCm_STAT m) PCm_STAT_PLCA_ST = true ∧ s.fld (PCm_PLCA m) PCm_PLCA_NODE_ID ≠ 0 ∧ (s.plca m).beaconAt + 4 * max 1 (s.plca m).seen * (s.plcaTo m + 20) * plcaBit ≤ s.mer) ∧
  (∃ (s : State) (w : Word), s.hostUp = true ∧ s.flag LOOM_MDIO LOOM_MDIO_BUSY = false ∧ getB w LOOM_MDIO_BUSY = true) ∧
  (∃ (s : State), s.flag LOOM_MDIO LOOM_MDIO_BUSY = true ∧ s.flag LOOM_MDIO LOOM_MDIO_OP = true) ∧
  (∃ (s : State), s.flag LOOM_MDIO LOOM_MDIO_BUSY = true ∧ s.flag LOOM_MDIO LOOM_MDIO_OP = false) ∧
  (∃ (s : State) (m : Nat), s.pcEn m = true ∧ s.flag (PCm_STAT m) PCm_STAT_LINK = false) ∧
  (∃ (s : State) (t : State) (m : Nat), s.pcEn m = true ∧ s.flag (PCm_STAT m) PCm_STAT_LINK = true ∧ t = (s.setFlag (PCm_STAT m) PCm_STAT_LINK false).pcEvent m PCm_EVT_LINK_DOWN) ∧
  (∃ (s : State) (t : State) (b : Nat), s.chInFrame (64 + b) = false ∧ (t = (s.chan (64 + b)).pend.foldl (fun t p => t.mbTake (64 + b) p) (s.setChan (64 + b) { s.chan (64 + b) with pend := [] }))) :=
  ⟨⟨st [(PCm_CFG 15, PCm_CFG_EN, 1)], _, _, _, 15, 0, List.replicate 60 0, _, by decide, by decide, by decide, by decide, by decide, by decide, rfl, rfl, rfl, rfl⟩,
   ⟨st [(PCm_CFG 15, PCm_CFG_EN, 1)], 15, List.replicate 1518 0, by decide, by decide, by decide, by decide, by decide⟩,
   ⟨st [(PCm_CFG 15, PCm_CFG_EN, 1)], 15, List.replicate 59 0, by decide, by decide, by decide, by decide⟩,
   ⟨State.setPlca ((st [(PCm_CFG 15, PCm_CFG_EN, 1), (PCm_STAT 15, PCm_STAT_LINK, 1)]).setQueue (.plca 15 7) [qe (.plca 15 7)]) 15 { PlcaSt.reset with coll := 0 }, _, 15, 7, 0, qe (.plca 15 7), [], _, _, _, _, by decide, by decide, by decide, by decide, by decide, by decide, by decide, rfl, by decide, rfl, rfl, rfl, rfl⟩,
   ⟨State.setPlca ((st [(PCm_CFG 15, PCm_CFG_EN, 1), (PCm_STAT 15, PCm_STAT_LINK, 1)]).setQueue (.plca 15 7) [qe (.plca 15 7)]) 15 { PlcaSt.reset with coll := 14 }, _, 15, 7, 0, qe (.plca 15 7), [], by decide, by decide, by decide, by decide, by decide, by decide, by decide, rfl, by decide⟩,
   ⟨State.setPlca ((st [(PCm_CFG 15, PCm_CFG_EN, 1), (PCm_STAT 15, PCm_STAT_LINK, 1)]).setQueue (.plca 15 7) [qe (.plca 15 7)]) 15 { PlcaSt.reset with coll := 15 }, _, 15, 7, 0, qe (.plca 15 7), [], _, by decide, by decide, by decide, by decide, by decide, by decide, by decide, rfl, by decide, rfl⟩,
   ⟨st [(PCm_CFG 15, PCm_CFG_EN, 1), (PCm_PLCA 15, PCm_PLCA_EN, 1), (PCm_PLCA 15, PCm_PLCA_NODE_ID, 254)], 15, by decide, by decide⟩,
   ⟨st [(PCm_CFG 15, PCm_CFG_EN, 1), (PCm_PLCA 15, PCm_PLCA_EN, 1), (PCm_PLCA 15, PCm_PLCA_NODE_ID, 0)], 15, _, by decide, by decide, rfl, by decide⟩,
   ⟨{ st [(PCm_STAT 15, PCm_STAT_PLCA_ST, 1), (PCm_PLCA 15, PCm_PLCA_NODE_ID, 7)] with mer := 1000000 }, 15, by decide, by decide, by decide⟩,
   ⟨st [], 0x80000000, by decide, by decide, by decide⟩,
   ⟨st [(LOOM_MDIO, LOOM_MDIO_BUSY, 1), (LOOM_MDIO, LOOM_MDIO_OP, 1)], by decide, by decide⟩,
   ⟨st [(LOOM_MDIO, LOOM_MDIO_BUSY, 1), (LOOM_MDIO, LOOM_MDIO_OP, 0)], by decide, by decide⟩,
   ⟨st [(PCm_CFG 15, PCm_CFG_EN, 1)], 15, by decide, by decide⟩,
   ⟨st [(PCm_CFG 15, PCm_CFG_EN, 1), (PCm_STAT 15, PCm_STAT_LINK, 1)], _, 15, by decide, by decide, rfl⟩,
   ⟨st [], _, 1, by decide, rfl⟩⟩

/-! ### Witnesses of the statements of fragment 06 -/

set_option maxRecDepth 100000 in
theorem witness_VBusTrafficCommandsComplete :
  (∃ (s : State) (t : State) (i : Iface) (v : Nat) (w : Word), s.hostUp = true ∧ s.vbRuns v = false ∧ s.vbEn v = false ∧ getB w VBn_CFG_EN = true ∧ t = s.typedWrite i (VBn_CFG v) w) ∧
  (∃ (s : State) (v : Nat) (w : Word), s.hostUp = true ∧ s.vbEn v = true ∧ getB w VBn_CFG_EN = false) ∧
  (∃ (s : State) (v : Nat), s.vbEn v = false) ∧
  (∃ (s : State) (t : State) (u : State) (x : State) (v : Nat) (m : Nat) (e : QEnt) (rest : List QEnt) (it : Item) (data : List Byte) (r : VbReq), s.queue (Dest.vbus v).key = e :: rest ∧ it = e.item.mark 8 t.mer ∧ t = ((s.setQueue (.vbus v) rest).freeEntry e).obs (Dest.vbus v).panel 0x021 e.cells (tenant := some e.item.tenant) (cls := some 0) ∧ it.poison = false ∧ it.member = m ∧ t.vbEn v = true ∧ t.memFits v it = true ∧ fmtOk (t.vbProto v) it = true ∧ t.memListen v m = false ∧ t.memState v m < 2 ∧ x = t.pathEnd it { kind := 1, num := v, queue := 0, verdict := 0, panel := (Dest.vbus v).panel, tsOut := t.mer } ∧ u = (if t.vbTau v it < t.vbPos v then (x.vbCount v 1).vbEvent v VBn_EVT_LATE else x) ∧ r = { item := { it with data := data, tsreq := none }, member := m, arrival := t.mer, rho := max (t.vbTau v it) (t.vbPos v) } ∧ it.fmt ≠ 3 ∧ (t.vb v).reqs.length < 64 ∧ data = (if it.fmt = 1 then padTo (fdLen it.data.length) (t.fld (VBn_CFG v) VBn_CFG_PAD) it.data else it.data)) ∧
  (∃ (s : State) (t : State) (u : State) (x : State) (v : Nat) (m : Nat) (e : QEnt) (rest : List QEnt) (it : Item) (data : List Byte) (r : VbReq), s.queue (Dest.vbus v).key = e :: rest ∧ it = e.item.mark 8 t.mer ∧ t = ((s.setQueue (.vbus v) rest).freeEntry e).obs (Dest.vbus v).panel 0x021 e.cells (tenant := some e.item.tenant) (cls := some 0) ∧ it.poison = false ∧ it.member = m ∧ t.vbEn v = true ∧ t.memFits v it = true ∧ fmtOk (t.vbProto v) it = true ∧ t.memListen v m = false ∧ t.memState v m < 2 ∧ x = t.pathEnd it { kind := 1, num := v, queue := 0, verdict := 0, panel := (Dest.vbus v).panel, tsOut := t.mer } ∧ u = (if t.vbTau v it < t.vbPos v then (x.vbCount v 1).vbEvent v VBn_EVT_LATE else x) ∧ r = { item := { it with data := data, tsreq := none }, member := m, arrival := t.mer, rho := max (t.vbTau v it) (t.vbPos v) } ∧ it.fmt = 3 ∧ it.data.isEmpty = true ∧ t.flag (VBn_CFG v) VBn_CFG_LIN_CMDR = true ∧ t.fld (VBn_CFG v) VBn_CFG_CMDR_MEMBER = m ∧ (t.vb v).reqs.length < 64 ∧ data = it.data) ∧
  (∃ (s : State) (t : State) (u : State) (x : State) (v : Nat) (m : Nat) (e : QEnt) (rest : List QEnt) (it : Item) (data : List Byte) (r : VbReq), s.queue (Dest.vbus v).key = e :: rest ∧ it = e.item.mark 8 t.mer ∧ t = ((s.setQueue (.vbus v) rest).freeEntry e).obs (Dest.vbus v).panel 0x021 e.cells (tenant := some e.item.tenant) (cls := some 0) ∧ it.poison = false ∧ it.member = m ∧ t.vbEn v = true ∧ t.memFits v it = true ∧ fmtOk (t.vbProto v) it = true ∧ t.memListen v m = false ∧ t.memState v m < 2 ∧ x = t.pathEnd it { kind := 1, num := v, queue := 0, verdict := 0, panel := (Dest.vbus v).panel, tsOut := t.mer } ∧ u = (if t.vbTau v it < t.vbPos v then (x.vbCount v 1).vbEvent v VBn_EVT_LATE else x) ∧ r = { item := { it with data := data, tsreq := none }, member := m, arrival := t.mer, rho := max (t.vbTau v it) (t.vbPos v) } ∧ it.fmt = 3 ∧ it.data.isEmpty = false ∧ it.data.length ≤ t.vlinLen v it.ident ∧ data = padTo (t.vlinLen v it.ident) (t.fld (VBn_CFG v) VBn_CFG_PAD) it.data) ∧
  (∃ (s : State) (v : Nat) (st : Int) (w : VbReq) (e : List VbReq) (u : State), s.vbEn v = true ∧ s.vbProto v ≠ 3 ∧ (s.vb v).start (s.vbParts v) = some st ∧ s.vbReached v st = true ∧ (e = (s.vbParts v).filter (fun r => decide ((s.vb v).ready r ≤ st) && decide (r.arrival ≤ s.vbTick v (st + s.vbLead v)))) ∧ slotWinner e = some w ∧ u = s.vbDecided v (s.vbTick v (st + s.vbLead v))) ∧
  (∃ (s : State) (u : State) (v : Nat) (r : VbReq) (r0 : VbReq) (l : List VbReq) (st : Int), s.vbEn v = true ∧ s.vbProto v = 3 ∧ s.flag (VBn_CFG v) VBn_CFG_LIN_CMDR = true ∧ (s.vb v).reqs = r0 :: l ∧ (r = l.foldl (fun b q => if q.rho < b.rho then q else b) r0) ∧ st = max (s.vb v).free r.rho ∧ s.vbReached v st = true ∧ u = (s.setVb v { s.vb v with reqs := (s.vb v).reqs.erase r }).vbShow v r.member) ∧
  (∃ (s : State) (v : Nat) (id : Nat) (sl : Bool) (l : List (Nat × Bool)), s.vbEn v = true ∧ s.vbProto v = 3 ∧ s.flag (VBn_CFG v) VBn_CFG_LIN_CMDR = false ∧ (s.vb v).hdrs = (id, sl) :: l ∧ s.vbReached v (s.vb v).free = true ∧ s.vbAsleep v = false) ∧
  (∃ (s : State) (t : State) (v : Nat) (d : VbDue) (l : List VbDue) (ms : List Msg), (s.vb v).due = d :: l ∧ s.vbEn v = true ∧ s.vbReached v d.time = true ∧ (s.liveBuses.foldl (fun (p : State × List Msg) u => ((p.1.vbRun u (s.dueAt v d)).1, p.2 ++ (p.1.vbRun u (s.dueAt v d)).2)) (s, []) = (t, ms))) ∧
  (∃ (s : State) (v : Nat) (m : Nat) (w : Word), s.hostUp = true ∧ getB w MEMBER_RECOVER = true ∧ s.memState v m = 2 ∧ s.vbEn v = true) ∧
  (∃ (s : State) (v : Nat) (m : Nat) (n : Nat) (p : Int), (s.vb v).recov.find? (fun r => r.1 == m) = some (m, n, p) ∧ p ≤ s.vbPos v ∧ 128 ≤ (n : Int) + (s.vbPos v - p) / (11 * s.vbNbt v) ∧ s.vbEn v = true) ∧
  (∃ (s : State) (t : State) (f : Nat) (w : Word), s.hostUp = true ∧ t = State.vbCatchUp (getF w INJECTOR_BUS) 4096 (State.vbCatchUp (s.fld (INJECTOR f) INJECTOR_BUS) 4096 s)) ∧
  (∃ (s : State) (v : Nat) (k : Nat) (a : Nat) (y : VbSt), s.vbEn v = true ∧ s.vbProto v = 3 ∧ s.flag (VBn_CFG v) VBn_CFG_LIN_CMDR = false ∧ s.flag (VBn_LIN v) VBn_LIN_SCHED_EN = true ∧ s.vbAsleep v = false ∧ s.vbReached v (s.vb v).schedDue = true ∧ (s.vb v).schedIdx = k ∧ k < s.vlinCount v ∧ a = VLIN_SCHED (s.fld (VBn_LIN v) VBn_LIN_SCHED_BASE + k) ∧ y = { s.vb v with schedIdx := (k + 1) % s.vlinCount v, schedDue := (s.vb v).schedDue + (s.rd (a + 4)).toNat } ∧ (s.vb v).free ≤ (s.vb v).schedDue ∧ (s.vb v).hdrs = []) ∧
  (∃ (s : State) (v : Nat) (k : Nat) (a : Nat) (y : VbSt), s.vbEn v = true ∧ s.vbProto v = 3 ∧ s.flag (VBn_CFG v) VBn_CFG_LIN_CMDR = false ∧ s.flag (VBn_LIN v) VBn_LIN_SCHED_EN = true ∧ s.vbAsleep v = false ∧ s.vbReached v (s.vb v).schedDue = true ∧ (s.vb v).schedIdx = k ∧ k < s.vlinCount v ∧ a = VLIN_SCHED (s.fld (VBn_LIN v) VBn_LIN_SCHED_BASE + k) ∧ y = { s.vb v with schedIdx := (k + 1) % s.vlinCount v, schedDue := (s.vb v).schedDue + (s.rd (a + 4)).toNat } ∧ (s.vb v).schedDue < (s.vb v).free) ∧
  (∃ (s : State) (v : Nat) (p : Int) (l : List Int), (s.vb v).noResp = p :: l ∧ s.vbReached v p = true) ∧
  (∃ (s : State) (v : Nat) (e : Int) (used : Int), s.vbEn v = true ∧ e = (s.vb v).winStart + (s.vb v).winLen ∧ s.vbReached v e = true ∧ (used = (s.vb v).busy.foldl (fun (a : Int) p => a + max 0 (min p.2 e - max p.1 (s.vb v).winStart)) 0)) :=
  ⟨⟨st [], _, .pcie, 4095, 0x80000400, by decide, by decide, by decide, by decide, rfl⟩,
   ⟨st [(VBn_CFG 4095, VBn_CFG_EN, 1)], 4095, (st []).rd (VBn_CFG 4095), by decide, by decide, by decide⟩,
   ⟨st [], 7, by decide⟩,
   ⟨State.setQueue { st [(VBn_CFG 0, VBn_CFG_EN, 1)] with mer := 0 } (.vbus 0) [{ qe (.vbus 0) with item := { canIt with src := 8192, tau := some (2 ^ 63) } }], _, _, _, 0, 0, { qe (.vbus 0) with item := { canIt with src := 8192, tau := some (2 ^ 63) } }, [], _, _, _, by decide, rfl, rfl, by decide, by decide, by decide, by decide, by decide, by decide, by decide, rfl, rfl, rfl, by decide, by decide, rfl⟩,
   ⟨State.setQueue { st [(VBn_CFG 0, VBn_CFG_EN, 1), (VBn_CFG 0, VBn_CFG_PROTO, 3), (VBn_CFG 0, VBn_CFG_LIN_CMDR, 1)] with mer := 0 } (.vbus 0) [{ qe (.vbus 0) with item := { { canIt with fmt := 3 } with src := 8192, tau := some (2 ^ 63) } }], _, _, _, 0, 0, { qe (.vbus 0) with item := { { canIt with fmt := 3 } with src := 8192, tau := some (2 ^ 63) } }, [], _, _, _, by decide, rfl, rfl, by decide, by decide, by decide, by decide, by decide, by decide, by decide, rfl, rfl, rfl, by decide, by decide, by decide, by decide, by decide, rfl⟩,
   ⟨State.setQueue { st [(VBn_CFG 0, VBn_CFG_EN, 1), (VBn_CFG 0, VBn_CFG_PROTO, 3), (VLIN_LEN 0 0, ⟨31, 0⟩, 8)] with mer := 0 } (.vbus 0) [{ qe (.vbus 0) with item := { { canIt with fmt := 3, data := [1] } with src := 8192, tau := some (2 ^ 63) } }], _, _, _, 0, 0, { qe (.vbus 0) with item := { { canIt with fmt := 3, data := [1] } with src := 8192, tau := some (2 ^ 63) } }, [], _, _, _, by decide, rfl, rfl, by decide, by decide, by decide, by decide, by decide, by decide, by decide, rfl, rfl, rfl, by decide, by decide, by decide, rfl⟩,
   ⟨State.setVb { st [(VBn_CFG 3, VBn_CFG_EN, 1)] with mer := 400000 } 3 { VbSt.reset with reqs := [vbRq] }, 3, 0, vbRq, _, _, by decide, by decide, by decide, by decide, rfl, by decide, rfl⟩,
   ⟨State.setVb { st [(VBn_CFG 3, VBn_CFG_EN, 1), (VBn_CFG 3, VBn_CFG_PROTO, 3), (VBn_CFG 3, VBn_CFG_LIN_CMDR, 1)] with mer := 400000 } 3 { VbSt.reset with reqs := [vbRq] }, _, 3, _, vbRq, [], _, by decide, by decide, by decide, by decide, rfl, rfl, by decide, rfl⟩,
   ⟨State.setVb { st [(VBn_CFG 3, VBn_CFG_EN, 1), (VBn_CFG 3, VBn_CFG_PROTO, 3)] with mer := 400000 } 3 { VbSt.reset with hdrs := [(63, true)] }, 3, 63, true, [], by decide, by decide, by decide, by decide, by decide, by decide⟩,
   ⟨State.setVb { st [(VBn_CFG 3, VBn_CFG_EN, 1)] with mer := 400000 } 3 { VbSt.reset with due := [vbDu] }, _, 3, vbDu, [], _, by decide, by decide, by decide, rfl⟩,
   ⟨st [(VBn_CFG 3, VBn_CFG_EN, 1), (memErr 3 15, MEMBER_STATE, 2)], 3, 15, 1, by decide, by decide, by decide, by decide⟩,
   ⟨State.setVb { st [(VBn_CFG 3, VBn_CFG_EN, 1)] with mer := 400000 } 3 { VbSt.reset with recov := [(15, 128, 0)] }, 3, 15, 128, 0, by decide, by decide, by decide, by decide⟩,
   ⟨st [], _, 63, 0, by decide, rfl⟩,
   ⟨State.setVb { st [(VBn_CFG 3, VBn_CFG_EN, 1), (VBn_CFG 3, VBn_CFG_PROTO, 3), (VBn_LIN 3, VBn_LIN_SCHED_EN, 1), (VBn_LIN 3, VBn_LIN_SCHED_LEN, 1)] with mer := 400000 } 3 { VbSt.reset with schedIdx := 0 }, 3, 0, _, _, by decide, by decide, by decide, by decide, by decide, by decide, by decide, by decide, rfl, rfl, by decide, by decide⟩,
   ⟨State.setVb { st [(VBn_CFG 3, VBn_CFG_EN, 1), (VBn_CFG 3, VBn_CFG_PROTO, 3), (VBn_LIN 3, VBn_LIN_SCHED_EN, 1), (VBn_LIN 3, VBn_LIN_SCHED_LEN, 1)] with mer := 400000 } 3 { VbSt.reset with schedIdx := 0, free := 5 }, 3, 0, _, _, by decide, by decide, by decide, by decide, by decide, by decide, by decide, by decide, rfl, rfl, by decide⟩,
   ⟨State.setVb { st [(VBn_CFG 3, VBn_CFG_EN, 1)] with mer := 400000 } 3 { VbSt.reset with noResp := [0] }, 3, 0, [], by decide, by decide⟩,
   ⟨State.setVb { st [(VBn_CFG 3, VBn_CFG_EN, 1)] with mer := 400000 } 3 { VbSt.reset with winLen := 1 }, 3, _, _, by decide, rfl, by decide, rfl⟩⟩

set_option maxRecDepth 100000 in
theorem witness_VBusSleepAndExpanderCommandsComplete :
  (∃ (s : State) (t : State) (u : State) (v : Nat) (a : Int) (e : Int), (s.vb v).fw = some a ∧ s.vbEn v = true ∧ e = a + s.fld (VBn_WAKE v) VBn_WAKE_FW_WIN * msTicks ∧ s.vbReached v e = true ∧ (s.vb v).due.any (fun d => d.kind == 0 && decide (d.time ≤ e)) = false ∧ t = ((s.vbCount v 7).bumpSat (VBn_STAT v) VBn_STAT_FW_CNT).vbEvent v VBn_EVT_FALSE_WAKE ∧ (u = (if t.fld (VBn_WAKE v) VBn_WAKE_FW_THR ≠ 0 ∧ t.fld (VBn_STAT v) VBn_STAT_FW_CNT = t.fld (VBn_WAKE v) VBn_WAKE_FW_THR then (t.setFld (VBn_STAT v) VBn_STAT_WAKE_SUPP 1).vbEvent v VBn_EVT_SUPP else t))) ∧
  (∃ (s : State) (t : State) (i : Iface) (v : Nat) (w : Word), s.hostUp = true ∧ t = s.typedWrite i (VBn_SLEEP v) w ∧ t.vbEn v = true ∧ getF w VBn_SLEEP_REQ = 1 ∧ t.vbAsleep v = true) ∧
  (∃ (s : State) (t : State) (i : Iface) (v : Nat) (w : Word), s.hostUp = true ∧ t = s.typedWrite i (VBn_SLEEP v) w ∧ t.vbEn v = true ∧ getF w VBn_SLEEP_REQ = 2) ∧
  (∃ (s : State) (t : State) (i : Iface) (v : Nat) (w : Word), s.hostUp = true ∧ t = s.typedWrite i (VBn_SLEEP v) w ∧ t.vbEn v = true ∧ getF w VBn_SLEEP_REQ = 0) ∧
  (∃ (s : State) (v : Nat), s.vbEn v = true ∧ s.vbAsleep v = false ∧ s.fld (VBn_SLEEP v) VBn_SLEEP_IDLE_SLEEP ≠ 0 ∧ s.vbReached v ((s.vb v).last + s.fld (VBn_SLEEP v) VBn_SLEEP_IDLE_SLEEP * msTicks) = true ∧ (s.vb v).due.all (fun d => d.kind != 0 || decide ((s.vb v).last + s.fld (VBn_SLEEP v) VBn_SLEEP_IDLE_SLEEP * msTicks < d.time)) = true) ∧
  (∃ (s : State) (v : Nat), s.vbEn v = true ∧ s.vbAsleep v = false ∧ s.fld (VBn_SLEEP v) VBn_SLEEP_IDLE_SLEEP = 0 ∧ s.vbProto v = 3 ∧ s.vbReached v ((s.vb v).lastHdr + 4000 * msTicks) = true) ∧
  (∃ (s : State) (v : Nat) (m : Nat) (a : Int), (s.vb v).awake = some a ∧ s.fld (VBn_WTIME v) VBn_WTIME_MAXAWAKE = m ∧ m ≠ 0 ∧ s.vbEn v = true ∧ s.vbReached v (a + m * 100 * msTicks) = true) ∧
  (∃ (s : State) (w : Word), s.hostUp = true ∧ getB w VBn_EVT_SUPP = true) ∧
  (∃ (s : State) (t : State) (u : State) (p : Nat) (a : Nat) (b : Nat) (o : Nat) (len : Nat) (q : Nat) (it : Item), (s.ntscfIn.find? (fun x => x.1 == p) = some (b, a, it)) ∧ o = it.etherOff + 2 ∧ len = beAt it.data (o + 1) 2 % 2048 ∧ q = oct it.data (o + 3) ∧ t = { s with ntscfIn := s.ntscfIn.erase (p, a, it) } ∧ (u = { t with attRx := Sparse.set (fun _ => none) t.attRx a (some ((q + 1) % 256)) }) ∧ (oct it.data (o + 1) / 16 % 8 ≠ 0 ∨ it.data.length < o + 12 + len)) ∧
  (∃ (s : State) (t : State) (u : State) (p : Nat) (a : Nat) (b : Nat) (o : Nat) (len : Nat) (q : Nat) (it : Item) (e : Option Nat), (s.ntscfIn.find? (fun x => x.1 == p) = some (b, a, it)) ∧ o = it.etherOff + 2 ∧ len = beAt it.data (o + 1) 2 % 2048 ∧ q = oct it.data (o + 3) ∧ t = { s with ntscfIn := s.ntscfIn.erase (p, a, it) } ∧ (u = { t with attRx := Sparse.set (fun _ => none) t.attRx a (some ((q + 1) % 256)) }) ∧ oct it.data (o + 1) / 16 % 8 = 0 ∧ o + 12 + len ≤ it.data.length ∧ (Sparse.get (fun _ => none) s.attRx a = e)) ∧
  (∃ (s : State) (t : State) (v : Nat) (c : VbCtl) (hit : VbReq → Bool), (s.vb v).ctl.find? (fun c => c.op == 2) = some c ∧ t = s.setVb v { s.vb v with ctl := (s.vb v).ctl.erase c } ∧ t.vbEn v = true ∧ (hit = (fun r => r.member == c.member && (c.all || identWord r.item == c.ident)))) ∧
  (∃ (s : State) (t : State) (u : State) (v : Nat) (c : VbCtl) (wakes : Bool), (s.vb v).ctl.find? (fun c => c.op == 8) = some c ∧ t = s.setVb v { s.vb v with ctl := (s.vb v).ctl.erase c } ∧ s.vbEn v = true ∧ s.vbReached v c.rho = true ∧ t.vbAsleep v = true ∧ t.flag (VBn_WAKE v) VBn_WAKE_EN = true ∧ t.flag (VBn_WAKE v) VBn_WAKE_WMODE = false ∧ t.flag (VBn_STAT v) VBn_STAT_WAKE_SUPP = false ∧ (t.vb v).slp ≤ c.rho ∧ t.vbPair v c.rho (t.vbRule v) = (wakes, u)) :=
  ⟨⟨State.setVb { st [(VBn_CFG 3, VBn_CFG_EN, 1)] with mer := 400000 } 3 { VbSt.reset with fw := some 0 }, _, _, 3, 0, _, by decide, by decide, rfl, by decide, by decide, rfl, rfl⟩,
   ⟨st [(VBn_CFG 3, VBn_CFG_EN, 1), (VBn_STAT 3, VBn_STAT_ASLEEP, 1)], _, .pcie, 3, 0x40000000, by decide, rfl, by decide, by decide, by decide⟩,
   ⟨st [(VBn_CFG 3, VBn_CFG_EN, 1)], _, .pcie, 3, 0x80000000, by decide, rfl, by decide, by decide⟩,
   ⟨st [(VBn_CFG 3, VBn_CFG_EN, 1)], _, .pcie, 3, 0, by decide, rfl, by decide, by decide⟩,
   ⟨{ st [(VBn_CFG 3, VBn_CFG_EN, 1), (VBn_SLEEP 3, VBn_SLEEP_IDLE_SLEEP, 1)] with mer := 4000000 }, 3, by decide, by decide, by decide, by decide, by decide⟩,
   ⟨{ st [(VBn_CFG 3, VBn_CFG_EN, 1), (VBn_CFG 3, VBn_CFG_PROTO, 3)] with mer := 9000000000 }, 3, by decide, by decide, by decide, by decide, by decide⟩,
   ⟨State.setVb { st [(VBn_CFG 3, VBn_CFG_EN, 1), (VBn_WTIME 3, VBn_WTIME_MAXAWAKE, 1)] with mer := 300000000 } 3 { VbSt.reset with awake := some 0 }, 3, 1, 0, by decide, by decide, by decide, by decide, by decide⟩,
   ⟨st [], 0x40, by decide, by decide⟩,
   ⟨{ st [] with ntscfIn := [(2, 1023, { Item.blank with data := [] })] }, _, _, 2, 1023, 2, _, _, _, { Item.blank with data := [] }, by decide, rfl, rfl, rfl, rfl, rfl, by decide⟩,
   ⟨{ st [] with ntscfIn := [(2, 1023, { Item.blank with data := List.replicate 14 0 ++ [130, 128, 0, 5] ++ List.replicate 42 0 })], attRx := [(1023, some 5)] }, _, _, 2, 1023, 2, _, _, 5, { Item.blank with data := List.replicate 14 0 ++ [130, 128, 0, 5] ++ List.replicate 42 0 }, some 5, by decide, rfl, rfl, by decide, rfl, rfl, by decide, by decide, by decide⟩,
   ⟨State.setVb { st [(VBn_CFG 3, VBn_CFG_EN, 1)] with mer := 400000 } 3 { VbSt.reset with ctl := [{ op := 2, member := 1, ident := 0, all := true, rho := 0 }] }, _, 3, { op := 2, member := 1, ident := 0, all := true, rho := 0 }, _, by decide, rfl, by decide, rfl⟩,
   ⟨{ State.setVb { st [(VBn_CFG 3, VBn_CFG_EN, 1), (VBn_STAT 3, VBn_STAT_ASLEEP, 1), (VBn_WAKE 3, VBn_WAKE_EN, 1)] with mer := 400000 } 3 { VbSt.reset with ctl := [{ op := 8, member := 1, ident := 0, all := true, rho := 0 }] } with node := .run }, _, _, 3, { op := 8, member := 1, ident := 0, all := true, rho := 0 }, _, by decide, rfl, by decide, by decide, by decide, by decide, by decide, by decide, by decide, rfl⟩⟩

/-! ### Witnesses of the statements of fragment 07 -/

set_option maxRecDepth 100000 in
theorem witness_TableCommandsComplete :
  (∃ (s : State) (t : State) (p : Nat) (full : List Nat) (it : Item) (jt : Item) (rest : List Item), (Sparse.get (fun _ => []) s.parserIn p = it :: rest) ∧ (t = State.pressed { s with parserIn := Sparse.set (fun _ => []) s.parserIn p rest } p full) ∧ (jt = (if it.eth = true ∧ it.member ≠ 0 then { it with stamp := t.mer } else it)) ∧ t.parsedTenant it = none) ∧
  (∃ (s : State) (t : State) (p : Nat) (ten : Nat) (full : List Nat) (it : Item) (jt : Item) (rest : List Item), (Sparse.get (fun _ => []) s.parserIn p = it :: rest) ∧ (t = State.pressed { s with parserIn := Sparse.set (fun _ => []) s.parserIn p rest } p full) ∧ (jt = (if it.eth = true ∧ it.member ≠ 0 then { it with stamp := t.mer } else it)) ∧ t.parsedTenant it = some ten ∧ it.bad = false) ∧
  (∃ (s : State) (t : State) (p : Nat) (ten : Nat) (full : List Nat) (it : Item) (jt : Item) (rest : List Item), (Sparse.get (fun _ => []) s.parserIn p = it :: rest) ∧ (t = State.pressed { s with parserIn := Sparse.set (fun _ => []) s.parserIn p rest } p full) ∧ (jt = (if it.eth = true ∧ it.member ≠ 0 then { it with stamp := t.mer } else it)) ∧ t.parsedTenant it = some ten ∧ it.bad = true) ∧
  (∃ (s : State) (a : Nat) (base : Nat) (k : Nat) (d : TableDesc), s.hostUp = true ∧ stagedEntry? a = some (d, base, k) ∧ k ≠ d.commit) ∧
  (∃ (s : State) (a : Nat) (base : Nat) (d : TableDesc), s.hostUp = true ∧ stagedEntry? a = some (d, base, d.commit) ∧ d.base ∉ [0x00B80000, 0x00B82000, 0x00B82080, 0x00E00000, 0x00E08000, 0x05100000, 0x07000000, 0x0A000000, 0x0A100000, 0x0A200000]) ∧
  (∃ (s : State) (a : Nat) (base : Nat) (d : TableDesc), s.hostUp = true ∧ stagedEntry? a = some (d, base, d.commit) ∧ d.base = 0x00B80000) ∧
  (∃ (s : State) (a : Nat) (base : Nat) (d : TableDesc), s.hostUp = true ∧ stagedEntry? a = some (d, base, d.commit) ∧ d.base = 0x00E00000) ∧
  (∃ (s : State) (a : Nat) (base : Nat) (d : TableDesc), s.hostUp = true ∧ stagedEntry? a = some (d, base, d.commit) ∧ d.base = 0x00E08000) ∧
  (∃ (s : State) (a : Nat) (base : Nat) (d : TableDesc), s.hostUp = true ∧ stagedEntry? a = some (d, base, d.commit) ∧ d.base = 0x05100000) ∧
  (∃ (s : State) (a : Nat) (base : Nat) (d : TableDesc), s.hostUp = true ∧ stagedEntry? a = some (d, base, d.commit) ∧ d.base = 0x07000000) ∧
  (∃ (s : State) (a : Nat), s.hostUp = true ∧ ownerTable a ≠ 0 ∧ s.flag CORE_TBLCTRL CORE_TBLCTRL_LOCK = false ∧ s.ownerBusy a = false) ∧
  (∃ (s : State) (a : Nat), s.hostUp = true ∧ ownerTable a ≠ 0 ∧ s.flag CORE_TBLCTRL CORE_TBLCTRL_LOCK = false ∧ s.ownerBusy a = true) ∧
  (∃ (s : State), s.flag CORE_TBLCTRL CORE_TBLCTRL_WALK_EN = true) ∧
  (∃ (s : State) (w : Word), s.hostUp = true ∧ s.flag CORE_STACMD CORE_STACMD_BUSY = false ∧ getF w CORE_STACMD_OP = 1) ∧
  (∃ (s : State) (w : Word), s.hostUp = true ∧ s.flag CORE_STACMD CORE_STACMD_BUSY = false ∧ getF w CORE_STACMD_OP = 2) ∧
  (∃ (s : State) (w : Word), s.hostUp = true ∧ s.flag CORE_STACMD CORE_STACMD_BUSY = false ∧ getF w CORE_STACMD_OP = 3) ∧
  (∃ (s : State) (w : Word), s.hostUp = true ∧ s.flag CORE_STACMD CORE_STACMD_BUSY = false ∧ getF w CORE_STACMD_OP = 4) ∧
  (∃ (s : State) (w : Word), s.hostUp = true ∧ s.flag CORE_STACMD CORE_STACMD_BUSY = false ∧ getF w CORE_STACMD_OP = 5) ∧
  (∃ (s : State) (t : State) (w : Word) (data : List Word) (l : Option (List Word)) (r : Nat), s.staCmd = some (w, data) ∧ State.staRun { s with staCmd := none } (getF w CORE_STACMD_OP) (getB w CORE_STACMD_STATIC_ONLY) data = (r, l, t)) ∧
  (∃ (s : State) (t : State) (i : Iface) (w : Word), s.hostUp = true ∧ s.flag CORE_LPMCMD CORE_LPMCMD_BUSY = false ∧ t = s.typedWrite i CORE_LPMCMD w ∧ getF w CORE_LPMCMD_OP = 1) ∧
  (∃ (s : State) (t : State) (i : Iface) (w : Word), s.hostUp = true ∧ s.flag CORE_LPMCMD CORE_LPMCMD_BUSY = false ∧ t = s.typedWrite i CORE_LPMCMD w ∧ getF w CORE_LPMCMD_OP = 2) ∧
  (∃ (s : State) (t : State) (i : Iface) (w : Word), s.hostUp = true ∧ s.flag CORE_LPMCMD CORE_LPMCMD_BUSY = false ∧ t = s.typedWrite i CORE_LPMCMD w ∧ getF w CORE_LPMCMD_OP = 3) ∧
  (∃ (s : State) (t : State) (i : Iface) (w : Word), s.hostUp = true ∧ s.flag CORE_LPMCMD CORE_LPMCMD_BUSY = false ∧ t = s.typedWrite i CORE_LPMCMD w ∧ getF w CORE_LPMCMD_OP = 4) ∧
  (∃ (s : State) (t : State) (w : Word) (l : List Word) (e : Option LpmEnt) (r : Nat) (op : Nat) (fam : Nat), s.lpmCmd = some (w, l) ∧ op = getF w CORE_LPMCMD_OP ∧ fam = getF w CORE_LPMCMD_FAMILY ∧ State.lpmRun { s with lpmCmd := none } op fam (getF w CORE_LPMCMD_OWNER) (if op = 3 then 0 else getF w CORE_LPMCMD_LEN) (lpmKeyOf fam (l.getD 0 0) (l.getD 1 0)) (getB (l.getD 2 0) CORE_LPMLEAF_INTER) (getF (l.getD 2 0) CORE_LPMLEAF_LEAF) = (r, e, t)) ∧
  (∃ (s : State) (w : Word), s.hostUp = true ∧ getB w CORE_TBLFENCE_REQ = true) ∧
  (∃ (s : State) (h : Nat) (due : Nat), (s.recov h).due = some due ∧ due ≤ s.mer) :=
  ⟨⟨{ (st [(PORT_CFGn 3, PORT_CFGn_EN, 1)]) with parserIn := [(0, [{ Item.blank with src := 3 }])] }, _, 0, [], { Item.blank with src := 3 }, _, [], by decide, rfl, rfl, by decide⟩,
   ⟨{ (st [(PORT_CFGn 3, PORT_CFGn_BOUND, 1), (PORT_CFGn 3, PORT_CFGn_TENANT, 1023)]) with parserIn := [(0, [{ Item.blank with src := 3 }])] }, _, 0, 1023, [], { Item.blank with src := 3 }, _, [], by decide, rfl, rfl, by decide, by decide⟩,
   ⟨{ (st [(PORT_CFGn 3, PORT_CFGn_BOUND, 1), (PORT_CFGn 3, PORT_CFGn_TENANT, 1023)]) with parserIn := [(0, [{ Item.blank with src := 3, bad := true }])] }, _, 0, 1023, [], { Item.blank with src := 3, bad := true }, _, [], by decide, rfl, rfl, by decide, by decide⟩,
   ⟨st [], 0x0A00002C, 0x0A000000, 11, ⟨0x0A000000, 64, 4096, 1, 1, 12, 0, false⟩, by decide, by decide, by decide⟩,
   ⟨st [], 0x02000040, 0x02000000, ⟨0x02000000, 128, 65536, 1, 1, 19, 16, true⟩, by decide, by decide, by decide⟩,
   ⟨st [], 12058624, 12058624, ⟨12058624, 8, 1024, 1, 1, 2, 0, false⟩, by decide, by decide, by decide⟩,
   ⟨st [], 14680064, 14680064, ⟨14680064, 32, 1024, 1, 1, 8, 0, false⟩, by decide, by decide, by decide⟩,
   ⟨st [], 14712832, 14712832, ⟨14712832, 16, 64, 1, 1, 4, 0, false⟩, by decide, by decide, by decide⟩,
   ⟨st [], 84934656, 84934656, ⟨84934656, 512, 256, 1, 1, 40, 0, false⟩, by decide, by decide, by decide⟩,
   ⟨st [], 117440512, 117440512, ⟨117440512, 128, 4096, 1, 1, 12, 0, false⟩, by decide, by decide, by decide⟩,
   ⟨st [], 0x1810000, by decide, by decide, by decide, by decide⟩,
   ⟨st [(FRESH 0 + 8, FRESH_VALID, 1)], 0xA300000, by decide, by decide, by decide, by decide⟩,
   ⟨st [(CORE_TBLCTRL, CORE_TBLCTRL_WALK_EN, 1)], by decide⟩,
   ⟨st [], setF 0 CORE_STACMD_OP 1, by decide, by decide, by decide⟩,
   ⟨st [], setF 0 CORE_STACMD_OP 2, by decide, by decide, by decide⟩,
   ⟨st [], setF 0 CORE_STACMD_OP 3, by decide, by decide, by decide⟩,
   ⟨st [], setF 0 CORE_STACMD_OP 4, by decide, by decide, by decide⟩,
   ⟨st [], setF 0 CORE_STACMD_OP 5, by decide, by decide, by decide⟩,
   ⟨{ st [] with staCmd := some (setF 0 CORE_STACMD_OP 3, []) }, _, setF 0 CORE_STACMD_OP 3, [], none, 1, by decide, rfl⟩,
   ⟨st [], _, .pcie, setF 0 CORE_LPMCMD_OP 1, by decide, by decide, rfl, by decide⟩,
   ⟨st [], _, .pcie, setF 0 CORE_LPMCMD_OP 2, by decide, by decide, rfl, by decide⟩,
   ⟨st [], _, .pcie, setF 0 CORE_LPMCMD_OP 3, by decide, by decide, rfl, by decide⟩,
   ⟨st [], _, .pcie, setF 0 CORE_LPMCMD_OP 4, by decide, by decide, rfl, by decide⟩,
   ⟨{ st [] with lpmCmd := some (setF 0 CORE_LPMCMD_OP 2, []) }, _, setF 0 CORE_LPMCMD_OP 2, [], none, _, 2, _, by decide, by decide, rfl, rfl⟩,
   ⟨st [], setF 0 CORE_TBLFENCE_REQ 1, by decide, by decide⟩,
   ⟨(st []).setRecov 7 { RecovSt.reset with due := some 0 }, 7, 0, by decide, by decide⟩⟩

set_option maxRecDepth 100000 in
theorem witness_PuntAndStopCommandsComplete :
  (∃ (s : State) (t : State) (u : State) (q : Nat) (why : Nat) (it : Item) (rest : List (Item × Nat)), (Sparse.get (fun _ => []) s.puntIn q = (it, why) :: rest) ∧ (t = { s with puntIn := Sparse.set (fun _ => []) s.puntIn q rest }) ∧ t.pqValid q = true ∧ ((t.flag (PUNTq q) PUNTq_ANY = true ∨ t.fld (PUNTq q) PUNTq_TENANT = it.tenant ∨ why.testBit 20 = true)) ∧ u = t.queueIn 0 { item := it, copies := [.punt q], held := false } ∧ (u.queue (Dest.punt q).key).length ≠ (t.queue (Dest.punt q).key).length) ∧
  (∃ (s : State) (t : State) (u : State) (q : Nat) (x : QEnt) (rest : List QEnt), s.queue (Dest.punt q).key = x :: rest ∧ s.pqValid q = true ∧ s.upUsed q ≠ s.pqDepth q ∧ s.wakeable = false ∧ x.item.poison = false ∧ t = ((((s.setQueue (.punt q) rest).setPuntWhy q (s.puntWhy q).tail).obs 0 0x021 x.cells (tenant := some x.item.tenant) (cls := some x.dest.cls)).releaseChain x.chain).pathEnd x.item { kind := 5, num := q, queue := 31, verdict := 14, panel := 0, tsOut := s.mer } ∧ u = (((t.emitOut (.puntSlot q (s.upWr q % s.pqDepth q) ((s.slotWords q x.item ((s.puntWhy q).headD 0)).flatMap (natLe 4) ++ x.item.data.take (s.pqSlot q - 48)))).bump (pqWord q 3) PUNTq_UP_WR).count (pqWord q 10)).setSlotTicks q (s.slotTicks q ++ [s.mer])) ∧
  (∃ (s : State) (q : Nat) (a : Nat) (rest : List Nat), s.slotTicks q = a :: rest ∧ s.fld (pqWord q 7) PUNTq_IRQ_TMO ≠ 0 ∧ s.upUsed q ≠ 0 ∧ a + s.fld (pqWord q 7) PUNTq_IRQ_TMO * usTicks ≤ s.mer) ∧
  (∃ (s : State) (t : State) (i : Iface) (q : Nat) (w : Word), s.hostUp = true ∧ s.pqValid q = false ∧ ((i = .pcie ∨ i = .spi ∨ s.flag (PUNTq q) PUNTq_ANY = false ∧ getB w PUNTq_ANY = false)) ∧ t = s.typedWrite i (PUNTq q) w ∧ t.pqValid q = true) ∧
  (∃ (s : State) (q : Nat) (left : Nat) (w : Word), s.hostUp = true ∧ left = (s.upWr q + 65536 - getF w PUNTq_UP_RD) % 65536 ∧ left ≤ s.upUsed q) ∧
  (∃ (s : State) (q : Nat) (w : Word), s.hostUp = true ∧ (getF w PUNTq_DN_WR + 65536 - s.dnRd q) % 65536 ≤ s.pqDepth q) ∧
  (∃ (s : State) (q : Nat) (ten : Nat) (n : Nat) (o : List Byte), s.pqValid q = true ∧ s.flag (PUNTq q) PUNTq_INJ_EN = true ∧ s.dnWr q ≠ s.dnRd q ∧ s.wakeable = false ∧ s.hostUp = true ∧ slotFormed o (s.pqSlot q) = true ∧ ten = bits (slotWord o 0) 23 14 ∧ n = bits (slotWord o 1) 25 16 ∧ ((s.flag (PUNTq q) PUNTq_ANY = true ∨ s.fld (PUNTq q) PUNTq_TENANT = ten)) ∧ s.portEn n = true ∧ ((s.portTenant n = some ten ∨ s.portTenant n = none))) ∧
  (∃ (s : State), s.acceptsWrites = true ∧ s.refusesConfig = false) ∧
  (∃ (s : State), s.acceptsStops = true) ∧
  (∃ (s : State), s.acceptsStops = true) :=
  ⟨⟨{ st [(PUNTq 255, PUNTq_VALID, 1), (PUNTq 255, PUNTq_ANY, 1)] with puntIn := [(255, [(Item.blank, 6)])] }, _, _, 255, 6, Item.blank, [], by decide, rfl, by decide, by decide, rfl, by decide⟩,
   ⟨(st [(PUNTq 255, PUNTq_VALID, 1)]).setQueue (.punt 255) [qe (.punt 255)], _, _, 255, qe (.punt 255), [], by decide, by decide, by decide, by decide, by decide, rfl, rfl⟩,
   ⟨State.setSlotTicks { st [(pqWord 255 7, PUNTq_IRQ_TMO, 1), (pqWord 255 3, PUNTq_UP_WR, 1)] with mer := 2000 } 255 [0], 255, 0, [], by decide, by decide, by decide, by decide⟩,
   ⟨st [], _, .pcie, 255, setF 0 PUNTq_VALID 1, by decide, by decide, by decide, rfl, by decide⟩,
   ⟨st [(pqWord 255 3, PUNTq_UP_WR, 5)], 255, _, setF 0 PUNTq_UP_RD 5, by decide, rfl, by decide⟩,
   ⟨st [], 255, setF 0 PUNTq_DN_WR 16, by decide, by decide⟩,
   ⟨st [(PUNTq 255, PUNTq_VALID, 1), (PUNTq 255, PUNTq_INJ_EN, 1), (pqWord 255 6, PUNTq_DN_WR, 1), (PORT_CFGn 3, PORT_CFGn_EN, 1)], 255, 0, 3, natLe 4 (2 ^ 31 + 14) ++ natLe 4 (3 * 65536) ++ List.replicate 60 0, by decide, by decide, by decide, by decide, by decide, by decide, by decide, by decide, by decide, by decide, by decide⟩,
   ⟨{ st [] with node := .config }, by decide, by decide⟩,
   ⟨{ st [] with node := .safe }, by decide⟩,
   ⟨{ st [] with node := .safe }, by decide⟩⟩

/-! ### Witnesses of the statements of fragment 08 -/

set_option maxRecDepth 100000 in
theorem witness_SpillAndRecallCommandsComplete :
  (∃ (s : State) (p : Nat) (k : Nat) (i : Nat) (o : Nat) (x : QEnt), s.flag (CORE_PNLp_STAT p) CORE_PNLp_STAT_SPILLING = true ∧ s.fld (CORE_PNLp_SPILLCFG p) CORE_PNLp_SPILLCFG_SPILL_MARK ≠ 0 ∧ s.recallDue p = false ∧ s.spillVictim p (s.fld (CORE_PNLp_RECALL p) CORE_PNLp_RECALL_RECALL_MARK) = some k ∧ s.spillPick p k = some (i, o, x)) ∧
  (∃ (s : State) (p : Nat) (k : Nat) (i : Nat) (x : QEnt), s.firstAt p 1 = some (k, i, x)) ∧
  (∃ (s : State) (p : Nat) (k : Nat) (i : Nat) (o : Nat) (x : QEnt), s.recallPick p = some (k, i, o, x) ∧ x.cells ≤ s.sharedFree p) ∧
  (∃ (s : State) (t : State) (u : State) (v : State) (p : Nat) (k : Nat) (i : Nat) (x : QEnt), s.firstAt p 3 = some (k, i, x) ∧ t = (s.deepFree (panelDie p) x.item.tenant x.cells).obsDie (panelDie p) 0x070 (256 * x.cells) ∧ u = (t.setQueue (.port (k / 32) (k % 32)) ((s.queue k).eraseIdx i)).setShared p ((t.setQueue (.port (k / 32) (k % 32)) ((s.queue k).eraseIdx i)).sharedFree p + x.cells) ∧ v = u.dropAt x.item (.port (k / 32) (k % 32)) rMalformed) ∧
  (∃ (s : State) (die : Nat) (tenant : Nat) (c : Nat) (rest : List (Nat × Nat × Nat)), s.deepFreeing = (die, tenant, c) :: rest) ∧
  (∃ (s : State) (a : Nat) (most : Nat) (least : Nat) (k : Nat), s.lagValid a = true ∧ s.lagEnds a = some (most, least) ∧ s.lagHeld a least + 1 < s.lagHeld a most ∧ ((List.range 256).filter (fun k => s.lagSlot a k == most)).getLast? = some k ∧ s.lagQuiet a k = true) ∧
  (∃ (s : State) (a : Nat) (i : Nat), i < 64 ∧ s.lagValid a = true ∧ (s.lagMask a 4).testBit i = true ∧ s.lagFit a i = false) ∧
  (∃ (s : State) (t : State) (p : Nat) (w : Nat) (wp : Nat) (rp : Nat) (rcd : List Byte) (rest : List (List Byte)), ((p < 8 ∧ wp = CORE_SVWPTR0 ∧ rp = CORE_SVRPTR0 ∨ 8 ≤ p ∧ p < 16 ∧ wp = CORE_SVWPTR1 ∧ rp = CORE_SVRPTR1)) ∧ (Sparse.get (fun _ => []) s.svFifo p = rcd :: rest) ∧ s.flag CORE_CTRL CORE_CTRL_SV_EN = true ∧ w = s.fld wp CORE_SVWPTR0_WPTR ∧ ((s.flag CORE_CTRL CORE_CTRL_SV_WRAP = true ∨ (w + 1) % 2 ^ 22 ≠ s.fld rp CORE_SVRPTR0_RPTR)) ∧ (t = (State.setFld { s with svFifo := Sparse.set (fun _ => []) s.svFifo p rest, svRing := Sparse.set (fun _ => []) s.svRing (2 ^ 22 * (p / 8) + w) rcd } wp CORE_SVWPTR0_WPTR (w + 1)).memWrote 4 (surveyOctet (2 ^ 22 * (p / 8) + w)) 128)) :=
  ⟨⟨{ (st [(CORE_PNLp_STAT 0, CORE_PNLp_STAT_SPILLING, 1), (CORE_CTRL, CORE_CTRL_SPILL_EN, 1), (CORE_PNLp_SPILLCFG 0, CORE_PNLp_SPILLCFG_SPILL_MARK, 1), (QUEUE 5 3, QUEUE_SPILL_EN, 1), (CORE_PNLp_RECALL 0, CORE_PNLp_RECALL_RECALL_MARK, 1)]).setQueue (.port 5 3) [{ qe (.port 5 3) with place := 0, chain := 1 }, { qe (.port 5 3) with place := 0, chain := 1 }] with chains := [(1, { refs := 1, panel := 0, shared := 1, ctl := 0 })] }, 0, 163, 1, 1, { qe (.port 5 3) with place := 0, chain := 1 }, by decide, by decide, by decide, by decide, by decide⟩,
   ⟨(st []).setQueue (.port 5 3) [qe (.port 5 3)], 0, 163, 0, qe (.port 5 3), by decide⟩,
   ⟨(st [(CORE_PNLp_STAT 0, CORE_PNLp_STAT_SPILLING, 1), (CORE_CTRL, CORE_CTRL_SPILL_EN, 1), (CORE_PNLp_SPILLCFG 0, CORE_PNLp_SPILLCFG_SPILL_MARK, 1), (QUEUE 5 3, QUEUE_SPILL_EN, 1), (CORE_PNLp_RECALL 0, CORE_PNLp_RECALL_RECALL_MARK, 1)]).setQueue (.port 5 3) [{ qe (.port 5 3) with place := 2 }], 0, 163, 0, 0, { qe (.port 5 3) with place := 2 }, by decide, by decide⟩,
   ⟨(st [(CORE_PNLp_STAT 0, CORE_PNLp_STAT_SPILLING, 1), (CORE_CTRL, CORE_CTRL_SPILL_EN, 1), (CORE_PNLp_SPILLCFG 0, CORE_PNLp_SPILLCFG_SPILL_MARK, 1), (QUEUE 5 3, QUEUE_SPILL_EN, 1), (CORE_PNLp_RECALL 0, CORE_PNLp_RECALL_RECALL_MARK, 1)]).setQueue (.port 5 3) [{ qe (.port 5 3) with place := 3 }], _, _, _, 0, 163, 0, { qe (.port 5 3) with place := 3 }, by decide, rfl, rfl, rfl⟩,
   ⟨{ st [] with deepFreeing := [(1, 3, 4)] }, 1, 3, 4, [], by decide⟩,
   ⟨st [(LAG 255, LAG_VALID, 1), (LAG 255, LAG_NMEM, 2), (LAG 255 + 20, ⟨31, 0⟩, 3)], 255, 0, 1, 255, by decide, by decide, by decide, by decide, by decide⟩,
   ⟨st [(LAG 255, LAG_VALID, 1), (LAG 255, LAG_NMEM, 2), (LAG 255 + 20, ⟨31, 0⟩, 3)], 255, 1, by decide, by decide, by decide, by decide⟩,
   ⟨{ st [(CORE_CTRL, CORE_CTRL_SV_EN, 1)] with svFifo := [(15, [[]])] }, _, 15, 0, CORE_SVWPTR1, CORE_SVRPTR1, [], [], by decide, by decide, by decide, by decide, by decide, rfl⟩⟩

/-! ### Witnesses of the statements of fragment 09 -/

set_option maxRecDepth 100000 in
theorem witness_StitchCommandsComplete :
  (∃ (s : State) (t : State) (r : WorkReq) (rest : List WorkReq) (l : List Word) (e : Nat), s.workIn = r :: rest ∧ t = State.freeHeld { s with workIn := rest } r.held ∧ l = t.progEntry r.prog ∧ getB (entWord l 0) PROGRAM_VALID = true ∧ getB (entWord l 0) PROGRAM_SUSPENDED = false ∧ pickEngine (entMask l) r.item.hash r.item.here = some e) ∧
  (∃ (s : State) (t : State) (u : State) (e : Nat) (w : StWork) (x : StWork) (rest : List StWork), (s.eng e).run = none ∧ (s.eng e).inq = w :: rest ∧ t = (s.setEng e { s.eng e with inq := rest }).engShow e ∧ t.flag (PROGRAM w.prog) PROGRAM_SUSPENDED = false ∧ x = { w with item := w.item.mark 4 t.mer } ∧ u = (((t.setEng e { s.eng e with inq := rest, run := some (x.start t.mer) }).engShow e).engCount e 0).count (PROGRAM x.prog + 48)) ∧
  (∃ (s : State) (i : Iface) (p : Nat) (w : Word) (l : List Word), s.hostUp = true ∧ (l = (List.range 12).map (fun k => s.newWord (ifaceNum i) (PROGRAM p) 0 k w))) ∧
  (∃ (s : State) (e : Nat) (k : Nat), s.hostUp = true ∧ (∀ p ∈ s.validProgs, (entMask (s.progEntry p)).testBit e = true → entCodeBase (s.progEntry p) ≤ k → entCodeBase (s.progEntry p) + entCodeLen (s.progEntry p) ≤ k)) ∧
  (∃ (s : State) (e : Nat) (k : Nat) (p : Nat), s.hostUp = true ∧ p ∈ s.validProgs ∧ (entMask (s.progEntry p)).testBit e = true ∧ entCodeBase (s.progEntry p) ≤ k ∧ k < entCodeBase (s.progEntry p) + entCodeLen (s.progEntry p)) ∧
  (∃ (s : State) (t : State) (i : Iface) (q : Nat) (w : Word) (w1 : Word), s.hostUp = true ∧ w1 = s.newWord (ifaceNum i) (SQUEUE q) 0 1 w ∧ (ringOf w w1).1 + (ringOf w w1).2 ≤ 4194304 ∧ 4 ≤ getF w SQUEUE_DEPTH ∧ getF w SQUEUE_HOST ≠ 3 ∧ (∀ p ∈ s.validProgs, (maskPanels (entMask (s.progEntry p))).testBit (q / 64) = true → rangesMeet (entShared (s.progEntry p)) (ringOf w w1) = false) ∧ (∀ k ∈ s.validQueues, k ≠ q → k / 64 = q / 64 → rangesMeet (s.sqRing k) (ringOf w w1) = false) ∧ t = s.commitEntry (ifaceNum i) ⟨0x0A100000, 32, 1024, 1, 1, 2, 0, false⟩ (SQUEUE q) w) ∧
  (∃ (s : State) (t : State) (q : Nat) (l : List Word), s.hostUp = true ∧ s.hostEnd q 2 = true ∧ ((s.sqGet q = some (l, t) ∨ s.sqGet q = none ∧ l = [] ∧ t = s))) ∧
  (∃ (s : State) (i : Iface) (q : Nat) (l : List Word) (t : State), s.hostUp = true ∧ s.hostEnd q 1 = true ∧ (l = (List.range 32).map (fun k => s.stagedWord (ifaceNum i) (SQ_ITEM q k))) ∧ s.sqPut q l = some t) ∧
  (∃ (s : State) (i : Iface) (q : Nat) (l : List Word), s.hostUp = true ∧ s.hostEnd q 1 = true ∧ (l = (List.range 32).map (fun k => s.stagedWord (ifaceNum i) (SQ_ITEM q k))) ∧ s.sqPut q l = none) ∧
  (∃ (s : State) (q : Nat), s.hostUp = true ∧ s.hostEnd q 2 = true) ∧
  (∃ (s : State) (t : State) (c : CqRec) (rest : List CqRec), s.hostUp = true ∧ s.cq = c :: rest ∧ t = { s with cq := rest }) :=
  ⟨⟨{ (st [(PROGRAM 4095, PROGRAM_VALID, 1), (PROGRAM 4095 + 32, ⟨31, 0⟩, 1)]) with workIn := [{ item := Item.blank, prog := 4095, desc := none, kind := 0, held := none }] }, _, { item := Item.blank, prog := 4095, desc := none, kind := 0, held := none }, [], _, 0, by decide, rfl, rfl, by decide, by decide, by decide⟩,
   ⟨(st []).setEng 127 { EngSt.reset with inq := [{ item := Item.blank, prog := 4095, desc := none, kind := 0, entry := [] }] }, _, _, 127, { item := Item.blank, prog := 4095, desc := none, kind := 0, entry := [] }, _, [], by decide, by decide, rfl, by decide, rfl, rfl⟩,
   ⟨(st []).stageWord 0 (PROGRAM 4095 + 4) (setF 0 PROGRAM_CODE_LEN 1), .pcie, 4095, 0, _, by decide, rfl⟩,
   ⟨st [], 127, 8191, by decide, by decide⟩,
   ⟨(st [(PROGRAM 4095, PROGRAM_VALID, 1), (PROGRAM 4095 + 4, PROGRAM_CODE_LEN, 1), (PROGRAM 4095 + 32, ⟨31, 0⟩, 1)]), 0, 0, 4095, by decide, by decide, by decide, by decide, by decide⟩,
   ⟨st [], _, .pcie, 1023, setF 0 SQUEUE_DEPTH 4, _, by decide, rfl, by decide, by decide, by decide, by decide, by decide, rfl⟩,
   ⟨st [(SQUEUE 1023, SQUEUE_VALID, 1), (SQUEUE 1023, SQUEUE_HOST, 2)], _, 1023, [], by decide, by decide, Or.inr ⟨sqGet_none (by decide), rfl, rfl⟩⟩,
   by obtain ⟨t0, h0⟩ := sqPut_some (s := st [(SQUEUE 1023, SQUEUE_VALID, 1), (SQUEUE 1023, SQUEUE_HOST, 1), (SQUEUE 1023, SQUEUE_DEPTH, 4)]) (q := 1023) (l := (List.range 32).map (fun k => (st [(SQUEUE 1023, SQUEUE_VALID, 1), (SQUEUE 1023, SQUEUE_HOST, 1), (SQUEUE 1023, SQUEUE_DEPTH, 4)]).stagedWord 0 (SQ_ITEM 1023 k))) (by decide); exact ⟨st [(SQUEUE 1023, SQUEUE_VALID, 1), (SQUEUE 1023, SQUEUE_HOST, 1), (SQUEUE 1023, SQUEUE_DEPTH, 4)], .pcie, 1023, (List.range 32).map (fun k => (st [(SQUEUE 1023, SQUEUE_VALID, 1), (SQUEUE 1023, SQUEUE_HOST, 1), (SQUEUE 1023, SQUEUE_DEPTH, 4)]).stagedWord 0 (SQ_ITEM 1023 k)), t0, by decide, by decide, rfl, h0⟩,
   ⟨st [(SQUEUE 1023, SQUEUE_VALID, 1), (SQUEUE 1023, SQUEUE_HOST, 1), (SQUEUE 1023 + 8, SQUEUE_WR, 1)], .pcie, 1023, _, by decide, by decide, rfl, if_pos (by decide)⟩,
   ⟨st [(SQUEUE 1023, SQUEUE_VALID, 1), (SQUEUE 1023, SQUEUE_HOST, 2)], 1023, by decide, by decide⟩,
   ⟨{ st [] with cq := [{ engine := 127, words := [1, 2, 3, 4] }] }, _, { engine := 127, words := [1, 2, 3, 4] }, [], by decide, by decide, rfl⟩⟩

/-! ### Witnesses of the statements of fragment 10 -/

theorem witness_RegisterArithmeticCompletes :
  (∃ (s : State) (e : Nat) (r : Run) (w : Word), s.Issues e 0 r w) ∧
  (∃ (s : State) (e : Nat) (r : Run) (w : Word), s.Issues e 1 r w) ∧
  (∃ (s : State) (e : Nat) (r : Run) (w : Word), s.Issues e 2 r w) ∧
  (∃ (s : State) (e : Nat) (r : Run) (w : Word), s.Issues e 3 r w) ∧
  (∃ (s : State) (e : Nat) (r : Run) (w : Word), s.Issues e 4 r w) ∧
  (∃ (s : State) (e : Nat) (r : Run) (w : Word), s.Issues e 5 r w) ∧
  (∃ (s : State) (e : Nat) (r : Run) (w : Word), s.Issues e 6 r w) ∧
  (∃ (s : State) (e : Nat) (r : Run) (w : Word), s.Issues e 7 r w) ∧
  (∃ (s : State) (e : Nat) (r : Run) (w : Word), s.Issues e 8 r w) ∧
  (∃ (s : State) (e : Nat) (r : Run) (w : Word), s.Issues e 9 r w) ∧
  (∃ (s : State) (e : Nat) (r : Run) (w : Word), s.Issues e 10 r w) ∧
  (∃ (s : State) (e : Nat) (r : Run) (w : Word), s.Issues e 11 r w) ∧
  (∃ (s : State) (e : Nat) (r : Run) (w : Word), s.Issues e 12 r w) ∧
  (∃ (s : State) (e : Nat) (r : Run) (w : Word), s.Issues e 13 r w) ∧
  (∃ (s : State) (e : Nat) (r : Run) (w : Word), s.Issues e 16 r w) ∧
  (∃ (s : State) (e : Nat) (r : Run) (w : Word), s.Issues e 17 r w) ∧
  (∃ (s : State) (e : Nat) (r : Run) (w : Word), s.Issues e 18 r w) ∧
  (∃ (s : State) (e : Nat) (r : Run) (w : Word), s.Issues e 19 r w) ∧
  (∃ (s : State) (e : Nat) (r : Run) (w : Word), s.Issues e 22 r w) ∧
  (∃ (s : State) (e : Nat) (r : Run) (w : Word), s.Issues e 23 r w) ∧
  (∃ (s : State) (e : Nat) (r : Run) (w : Word), s.Issues e 14 r w ∧ (r.reg (iRb w)).toNat ≠ 0) ∧
  (∃ (s : State) (e : Nat) (r : Run) (w : Word), s.Issues e 15 r w ∧ (r.reg (iRb w)).toNat ≠ 0) ∧
  (∃ (s : State) (e : Nat) (r : Run) (w : Word), s.Issues e 14 r w ∧ (r.reg (iRb w)).toNat = 0) ∧
  (∃ (s : State) (e : Nat) (r : Run) (w : Word), s.Issues e 15 r w ∧ (r.reg (iRb w)).toNat = 0) ∧
  (∃ (s : State) (e : Nat) (r : Run) (w : Word), s.Issues e 20 r w) ∧
  (∃ (s : State) (e : Nat) (r : Run) (w : Word), s.Issues e 21 r w) ∧
  (∃ (s : State) (e : Nat) (r : Run) (w : Word), s.Issues e 24 r w) ∧
  (∃ (s : State) (e : Nat) (r : Run) (w : Word), s.Issues e 25 r w) ∧
  (∃ (s : State) (e : Nat) (r : Run) (w : Word), s.Issues e 28 r w) ∧
  (∃ (s : State) (e : Nat) (r : Run) (w : Word), s.Issues e 29 r w) :=
  ⟨⟨isaSt [] 0x3e11000 (isaRun [(1, 5), (2, 0x80000003)]), 0, isaRun [(1, 5), (2, 0x80000003)], 0x3e11000, ⟨by rfl, by rfl, by rfl, by decide⟩⟩,
   ⟨isaSt [] 0x3e11001 (isaRun [(1, 5), (2, 0x80000003)]), 0, isaRun [(1, 5), (2, 0x80000003)], 0x3e11001, ⟨by rfl, by rfl, by rfl, by decide⟩⟩,
   ⟨isaSt [] 0x3e11002 (isaRun [(1, 5), (2, 0x80000003)]), 0, isaRun [(1, 5), (2, 0x80000003)], 0x3e11002, ⟨by rfl, by rfl, by rfl, by decide⟩⟩,
   ⟨isaSt [] 0x3e11003 (isaRun [(1, 5), (2, 0x80000003)]), 0, isaRun [(1, 5), (2, 0x80000003)], 0x3e11003, ⟨by rfl, by rfl, by rfl, by decide⟩⟩,
   ⟨isaSt [] 0x3e11004 (isaRun [(1, 5), (2, 0x80000003)]), 0, isaRun [(1, 5), (2, 0x80000003)], 0x3e11004, ⟨by rfl, by rfl, by rfl, by decide⟩⟩,
   ⟨isaSt [] 0x3e11005 (isaRun [(1, 5), (2, 0x80000003)]), 0, isaRun [(1, 5), (2, 0x80000003)], 0x3e11005, ⟨by rfl, by rfl, by rfl, by decide⟩⟩,
   ⟨isaSt [] 0x3e11006 (isaRun [(1, 5), (2, 0x80000003)]), 0, isaRun [(1, 5), (2, 0x80000003)], 0x3e11006, ⟨by rfl, by rfl, by rfl, by decide⟩⟩,
   ⟨isaSt [] 0x3e11007 (isaRun [(1, 5), (2, 0x80000003)]), 0, isaRun [(1, 5), (2, 0x80000003)], 0x3e11007, ⟨by rfl, by rfl, by rfl, by decide⟩⟩,
   ⟨isaSt [] 0x3e11008 (isaRun [(1, 5), (2, 0x80000003)]), 0, isaRun [(1, 5), (2, 0x80000003)], 0x3e11008, ⟨by rfl, by rfl, by rfl, by decide⟩⟩,
   ⟨isaSt [] 0x3e11009 (isaRun [(1, 5), (2, 0x80000003)]), 0, isaRun [(1, 5), (2, 0x80000003)], 0x3e11009, ⟨by rfl, by rfl, by rfl, by decide⟩⟩,
   ⟨isaSt [] 0x3e1100a (isaRun [(1, 5), (2, 0x80000003)]), 0, isaRun [(1, 5), (2, 0x80000003)], 0x3e1100a, ⟨by rfl, by rfl, by rfl, by decide⟩⟩,
   ⟨isaSt [] 0x3e1100b (isaRun [(1, 5), (2, 0x80000003)]), 0, isaRun [(1, 5), (2, 0x80000003)], 0x3e1100b, ⟨by rfl, by rfl, by rfl, by decide⟩⟩,
   ⟨isaSt [] 0x3e1100c (isaRun [(1, 5), (2, 0x80000003)]), 0, isaRun [(1, 5), (2, 0x80000003)], 0x3e1100c, ⟨by rfl, by rfl, by rfl, by decide⟩⟩,
   ⟨isaSt [] 0x3e1100d (isaRun [(1, 5), (2, 0x80000003)]), 0, isaRun [(1, 5), (2, 0x80000003)], 0x3e1100d, ⟨by rfl, by rfl, by rfl, by decide⟩⟩,
   ⟨isaSt [] 0x3e11010 (isaRun [(1, 5), (2, 0x80000003)]), 0, isaRun [(1, 5), (2, 0x80000003)], 0x3e11010, ⟨by rfl, by rfl, by rfl, by decide⟩⟩,
   ⟨isaSt [] 0x3e11011 (isaRun [(1, 5), (2, 0x80000003)]), 0, isaRun [(1, 5), (2, 0x80000003)], 0x3e11011, ⟨by rfl, by rfl, by rfl, by decide⟩⟩,
   ⟨isaSt [] 0x3e11012 (isaRun [(1, 5), (2, 0x80000003)]), 0, isaRun [(1, 5), (2, 0x80000003)], 0x3e11012, ⟨by rfl, by rfl, by rfl, by decide⟩⟩,
   ⟨isaSt [] 0x3e11013 (isaRun [(1, 5), (2, 0x80000003)]), 0, isaRun [(1, 5), (2, 0x80000003)], 0x3e11013, ⟨by rfl, by rfl, by rfl, by decide⟩⟩,
   ⟨isaSt [] 0x3e10016 (isaRun [(1, 5), (2, 0x80000003)]), 0, isaRun [(1, 5), (2, 0x80000003)], 0x3e10016, ⟨by rfl, by rfl, by rfl, by decide⟩⟩,
   ⟨isaSt [] 0x3e10017 (isaRun [(1, 5), (2, 0x80000003)]), 0, isaRun [(1, 5), (2, 0x80000003)], 0x3e10017, ⟨by rfl, by rfl, by rfl, by decide⟩⟩,
   ⟨isaSt [] 0x3e1100e (isaRun [(1, 5), (2, 0x80000003)]), 0, isaRun [(1, 5), (2, 0x80000003)], 0x3e1100e, ⟨by rfl, by rfl, by rfl, by decide⟩, by decide⟩,
   ⟨isaSt [] 0x3e1100f (isaRun [(1, 5), (2, 0x80000003)]), 0, isaRun [(1, 5), (2, 0x80000003)], 0x3e1100f, ⟨by rfl, by rfl, by rfl, by decide⟩, by decide⟩,
   ⟨isaSt [] 0x3e1000e (isaRun [(1, 5), (2, 0x80000003)]), 0, isaRun [(1, 5), (2, 0x80000003)], 0x3e1000e, ⟨by rfl, by rfl, by rfl, by decide⟩, by decide⟩,
   ⟨isaSt [] 0x3e1000f (isaRun [(1, 5), (2, 0x80000003)]), 0, isaRun [(1, 5), (2, 0x80000003)], 0x3e1000f, ⟨by rfl, by rfl, by rfl, by decide⟩, by decide⟩,
   ⟨isaSt [] 0x11014 (isaRun [(1, 5), (2, 0x80000003)]), 0, isaRun [(1, 5), (2, 0x80000003)], 0x11014, ⟨by rfl, by rfl, by rfl, by decide⟩⟩,
   ⟨isaSt [] 0x11015 (isaRun [(1, 5), (2, 0x80000003)]), 0, isaRun [(1, 5), (2, 0x80000003)], 0x11015, ⟨by rfl, by rfl, by rfl, by decide⟩⟩,
   ⟨isaSt [] 0x3e00018 (isaRun [(1, 5), (2, 0x80000003)]), 0, isaRun [(1, 5), (2, 0x80000003)], 0x3e00018, ⟨by rfl, by rfl, by rfl, by decide⟩⟩,
   ⟨isaSt [] 0x10019 (isaRun [(1, 5), (2, 0x80000003)]), 0, isaRun [(1, 5), (2, 0x80000003)], 0x10019, ⟨by rfl, by rfl, by rfl, by decide⟩⟩,
   ⟨isaSt [] 0x3e1101c (isaRun [(1, 5), (2, 0x80000003)]), 0, isaRun [(1, 5), (2, 0x80000003)], 0x3e1101c, ⟨by rfl, by rfl, by rfl, by decide⟩⟩,
   ⟨isaSt [] 0x3e1101d (isaRun [(1, 5), (2, 0x80000003)]), 0, isaRun [(1, 5), (2, 0x80000003)], 0x3e1101d, ⟨by rfl, by rfl, by rfl, by decide⟩⟩⟩

theorem witness_ImmediateAndBranchInstructionsComplete :
  (∃ (s : State) (e : Nat) (r : Run) (w : Word), s.Issues e 256 r w) ∧
  (∃ (s : State) (e : Nat) (r : Run) (w : Word), s.Issues e 512 r w) ∧
  (∃ (s : State) (e : Nat) (r : Run) (w : Word), s.Issues e 768 r w) ∧
  (∃ (s : State) (e : Nat) (r : Run) (w : Word), s.Issues e 1024 r w) ∧
  (∃ (s : State) (e : Nat) (r : Run) (w : Word), s.Issues e 1280 r w) ∧
  (∃ (s : State) (e : Nat) (r : Run) (w : Word), s.Issues e 1536 r w) ∧
  (∃ (s : State) (e : Nat) (r : Run) (w : Word), s.Issues e 6144 r w ∧ r.cond (iRd w) = true) ∧
  (∃ (s : State) (e : Nat) (r : Run) (w : Word), s.Issues e 6144 r w ∧ r.cond (iRd w) = false) ∧
  (∃ (s : State) (e : Nat) (r : Run) (w : Word), s.Issues e 6400 r w) ∧
  (∃ (s : State) (e : Nat) (r : Run) (w : Word), s.Issues e 6656 r w ∧ (r.reg (iRa w) + iSext w).toNat < 16384) ∧
  (∃ (s : State) (e : Nat) (r : Run) (w : Word), s.Issues e 6656 r w ∧ 16384 ≤ (r.reg (iRa w) + iSext w).toNat) ∧
  (∃ (s : State) (e : Nat) (r : Run) (w : Word) (sg : Bool) (v : Int) (lo : Int) (hi : Int), s.Issues e 4608 r w ∧ sg = (iFn w).testBit 10 ∧ v = (if sg = true then (r.reg (iRa w)).toInt * (r.reg (iRb w)).toInt else (((r.reg (iRa w)).toNat * (r.reg (iRb w)).toNat : Nat) : Int)) / 2 ^ bits (iFn w) 9 5 ∧ lo = (if sg = true then -2 ^ (iFn w % 32) else 0) ∧ hi = (if sg = true then 2 ^ (iFn w % 32) - 1 else 2 ^ (iFn w % 32 + 1) - 1)) ∧
  (∃ (s : State) (e : Nat) (r : Run) (w : Word), s.Issues e 5120 r w) ∧
  (∃ (s : State) (e : Nat) (r : Run) (w : Word), s.Issues e 5121 r w ∧ (r.reg (iRa w)).toNat ≤ (r.reg (iRb w)).toNat ∧ (r.reg (iRd w)).toNat ≤ (r.reg (iRb w)).toNat) ∧
  (∃ (s : State) (e : Nat) (r : Run) (w : Word), s.Issues e 5121 r w ∧ (((r.reg (iRb w)).toNat < (r.reg (iRa w)).toNat ∨ (r.reg (iRb w)).toNat < (r.reg (iRd w)).toNat))) ∧
  (∃ (s : State) (e : Nat) (r : Run) (w : Word) (m : Nat), s.Issues e 7168 r w ∧ m = (if (iFn w).testBit 2 = true then r.work.item.stamp else s.mer)) :=
  ⟨⟨isaSt [] 0x7e18001 (isaRun [(1, 5), (2, 0x80000003)]), 0, isaRun [(1, 5), (2, 0x80000003)], 0x7e18001, ⟨by rfl, by rfl, by rfl, by decide⟩⟩,
   ⟨isaSt [] 0xbe18001 (isaRun [(1, 5), (2, 0x80000003)]), 0, isaRun [(1, 5), (2, 0x80000003)], 0xbe18001, ⟨by rfl, by rfl, by rfl, by decide⟩⟩,
   ⟨isaSt [] 0xfe18001 (isaRun [(1, 5), (2, 0x80000003)]), 0, isaRun [(1, 5), (2, 0x80000003)], 0xfe18001, ⟨by rfl, by rfl, by rfl, by decide⟩⟩,
   ⟨isaSt [] 0x13e18001 (isaRun [(1, 5), (2, 0x80000003)]), 0, isaRun [(1, 5), (2, 0x80000003)], 0x13e18001, ⟨by rfl, by rfl, by rfl, by decide⟩⟩,
   ⟨isaSt [] 0x17e0ffff (isaRun [(1, 5), (2, 0x80000003)]), 0, isaRun [(1, 5), (2, 0x80000003)], 0x17e0ffff, ⟨by rfl, by rfl, by rfl, by decide⟩⟩,
   ⟨isaSt [] 0x18018001 (isaRun [(1, 5), (2, 0x80000003)]), 0, isaRun [(1, 5), (2, 0x80000003)], 0x18018001, ⟨by rfl, by rfl, by rfl, by decide⟩⟩,
   ⟨isaSt [] 0x62008000 (isaRun [(1, 5), (2, 0x80000003)]), 0, isaRun [(1, 5), (2, 0x80000003)], 0x62008000, ⟨by rfl, by rfl, by rfl, by decide⟩, by decide⟩,
   ⟨isaSt [] 0x60008000 (isaRun [(1, 5), (2, 0x80000003)]), 0, isaRun [(1, 5), (2, 0x80000003)], 0x60008000, ⟨by rfl, by rfl, by rfl, by decide⟩, by decide⟩,
   ⟨isaSt [] 0x67ffffff (isaRun [(1, 5), (2, 0x80000003)]), 0, isaRun [(1, 5), (2, 0x80000003)], 0x67ffffff, ⟨by rfl, by rfl, by rfl, by decide⟩⟩,
   ⟨isaSt [] 0x6be13ffa (isaRun [(1, 5), (2, 0x80000003)]), 0, isaRun [(1, 5), (2, 0x80000003)], 0x6be13ffa, ⟨by rfl, by rfl, by rfl, by decide⟩, by decide⟩,
   ⟨isaSt [] 0x6be13ffb (isaRun [(1, 5), (2, 0x80000003)]), 0, isaRun [(1, 5), (2, 0x80000003)], 0x6be13ffb, ⟨by rfl, by rfl, by rfl, by decide⟩, by decide⟩,
   ⟨isaSt [] 0x4be117ff (isaRun [(1, 5), (2, 0x80000003)]), 0, isaRun [(1, 5), (2, 0x80000003)], 0x4be117ff, _, _, _, _, ⟨by rfl, by rfl, by rfl, by decide⟩, rfl, rfl, rfl, rfl⟩,
   ⟨isaSt [] 0x53e11000 (isaRun [(1, 5), (2, 0x80000003)]), 0, isaRun [(1, 5), (2, 0x80000003)], 0x53e11000, ⟨by rfl, by rfl, by rfl, by decide⟩⟩,
   ⟨isaSt [] 0x53e11001 (isaRun [(1, 5), (2, 0x80000003)]), 0, isaRun [(1, 5), (2, 0x80000003)], 0x53e11001, ⟨by rfl, by rfl, by rfl, by decide⟩, by decide, by decide⟩,
   ⟨isaSt [] 0x53e20801 (isaRun [(1, 5), (2, 0x80000003)]), 0, isaRun [(1, 5), (2, 0x80000003)], 0x53e20801, ⟨by rfl, by rfl, by rfl, by decide⟩, by decide⟩,
   ⟨isaSt [] 0x73c00006 (isaRun [(1, 5), (2, 0x80000003)]), 0, isaRun [(1, 5), (2, 0x80000003)], 0x73c00006, _, ⟨by rfl, by rfl, by rfl, by decide⟩, rfl⟩⟩

set_option maxRecDepth 100000 in
theorem witness_MemoryInstructionsComplete :
  (∃ (s : State) (f : State) (e : Nat) (r : Run) (q : Run) (w : Word), f = s.fetched e r ∧ q = s.fetchedRun e r ∧ s.Issues e 2048 r w ∧ q.accessFault (r.loadAddr w) 4 4 = none ∧ inHeap (r.loadAddr w) = false ∧ f.engPoison e q (r.loadAddr w) 4 = none) ∧
  (∃ (s : State) (f : State) (e : Nat) (r : Run) (q : Run) (w : Word), f = s.fetched e r ∧ q = s.fetchedRun e r ∧ s.Issues e 2304 r w ∧ q.accessFault (r.loadAddr w) 2 2 = none ∧ inHeap (r.loadAddr w) = false ∧ f.engPoison e q (r.loadAddr w) 2 = none) ∧
  (∃ (s : State) (f : State) (e : Nat) (r : Run) (q : Run) (w : Word), f = s.fetched e r ∧ q = s.fetchedRun e r ∧ s.Issues e 2560 r w ∧ q.accessFault (r.loadAddr w) 2 2 = none ∧ inHeap (r.loadAddr w) = false ∧ f.engPoison e q (r.loadAddr w) 2 = none) ∧
  (∃ (s : State) (f : State) (e : Nat) (r : Run) (q : Run) (w : Word), f = s.fetched e r ∧ q = s.fetchedRun e r ∧ s.Issues e 2816 r w ∧ q.accessFault (r.loadAddr w) 1 1 = none ∧ inHeap (r.loadAddr w) = false ∧ f.engPoison e q (r.loadAddr w) 1 = none) ∧
  (∃ (s : State) (f : State) (e : Nat) (r : Run) (q : Run) (w : Word), f = s.fetched e r ∧ q = s.fetchedRun e r ∧ s.Issues e 3072 r w ∧ q.accessFault (r.loadAddr w) 1 1 = none ∧ inHeap (r.loadAddr w) = false ∧ f.engPoison e q (r.loadAddr w) 1 = none) ∧
  (∃ (s : State) (f : State) (e : Nat) (r : Run) (q : Run) (w : Word), f = s.fetched e r ∧ q = s.fetchedRun e r ∧ s.Issues e 3328 r w ∧ q.accessFault (r.loadAddr w) 4 4 = none ∧ inHeap (r.loadAddr w) = false) ∧
  (∃ (s : State) (f : State) (e : Nat) (r : Run) (q : Run) (w : Word), f = s.fetched e r ∧ q = s.fetchedRun e r ∧ s.Issues e 3584 r w ∧ q.accessFault (r.loadAddr w) 2 2 = none ∧ inHeap (r.loadAddr w) = false) ∧
  (∃ (s : State) (f : State) (e : Nat) (r : Run) (q : Run) (w : Word), f = s.fetched e r ∧ q = s.fetchedRun e r ∧ s.Issues e 3840 r w ∧ q.accessFault (r.loadAddr w) 1 1 = none ∧ inHeap (r.loadAddr w) = false) ∧
  (∃ (s : State) (f : State) (e : Nat) (r : Run) (q : Run) (w : Word) (a : Nat) (n : Nat) (off : Nat) (width : Nat) (v : Nat) (be : Bool), f = s.fetched e r ∧ q = s.fetchedRun e r ∧ off = (r.reg (iRb w)).toNat ∧ width = iFn w % 32 + 1 ∧ be = (iFn w).testBit 10 ∧ (a, n) = sigSpan (r.reg (iRa w)).toNat off width ∧ v = sigGet be off width (f.engBytes e q a n) ∧ q.outside a n = none ∧ inHeap a = false ∧ f.engPoison e q a n = none ∧ s.Issues e 4096 r w) ∧
  (∃ (s : State) (f : State) (e : Nat) (r : Run) (q : Run) (w : Word) (a : Nat) (n : Nat) (off : Nat) (width : Nat) (v : Nat) (be : Bool), f = s.fetched e r ∧ q = s.fetchedRun e r ∧ off = (r.reg (iRb w)).toNat ∧ width = iFn w % 32 + 1 ∧ be = (iFn w).testBit 10 ∧ (a, n) = sigSpan (r.reg (iRa w)).toNat off width ∧ v = sigGet be off width (f.engBytes e q a n) ∧ q.outside a n = none ∧ inHeap a = false ∧ f.engPoison e q a n = none ∧ s.Issues e 4352 r w) ∧
  (∃ (s : State) (f : State) (e : Nat) (r : Run) (q : Run) (w : Word), f = s.fetched e r ∧ q = s.fetchedRun e r ∧ s.Issues e 4864 r w ∧ (r.reg (iRb w)).toNat = 0) ∧
  (∃ (s : State) (f : State) (e : Nat) (r : Run) (q : Run) (w : Word) (a : Nat) (n : Nat), f = s.fetched e r ∧ q = s.fetchedRun e r ∧ a = (r.reg (iRa w)).toNat ∧ n = (r.reg (iRb w)).toNat ∧ n ≠ 0 ∧ n ≤ 16384 ∧ q.outside a n = none ∧ inHeap a = false ∧ f.engPoison e q a n = none ∧ s.Issues e 4864 r w) ∧
  (∃ (s : State) (f : State) (e : Nat) (r : Run) (q : Run) (w : Word) (a : Nat) (c : Nat) (o : Nat) (g : State), f = s.fetched e r ∧ q = s.fetchedRun e r ∧ a = (r.reg (iRa w)).toNat ∧ q.accessFault a 4 4 = none ∧ inHeap a = false ∧ placeClass (q.place e a) = some (c, o) ∧ g = f.flushKey (codeKey c (codeAddr c o)) ∧ g.engPoison e q a 4 = none ∧ s.Issues e 5376 r w) ∧
  (∃ (s : State) (f : State) (e : Nat) (r : Run) (q : Run) (w : Word) (a : Nat) (c : Nat) (o : Nat) (g : State), f = s.fetched e r ∧ q = s.fetchedRun e r ∧ a = (r.reg (iRa w)).toNat ∧ q.accessFault a 4 4 = none ∧ inHeap a = false ∧ placeClass (q.place e a) = some (c, o) ∧ g = f.flushKey (codeKey c (codeAddr c o)) ∧ g.engPoison e q a 4 = none ∧ s.Issues e 5377 r w) ∧
  (∃ (s : State) (f : State) (e : Nat) (r : Run) (q : Run) (w : Word) (a : Nat) (c : Nat) (o : Nat) (g : State), f = s.fetched e r ∧ q = s.fetchedRun e r ∧ a = (r.reg (iRa w)).toNat ∧ q.accessFault a 4 4 = none ∧ inHeap a = false ∧ placeClass (q.place e a) = some (c, o) ∧ g = f.flushKey (codeKey c (codeAddr c o)) ∧ g.engPoison e q a 4 = none ∧ s.Issues e 5378 r w) ∧
  (∃ (s : State) (f : State) (e : Nat) (r : Run) (q : Run) (w : Word), f = s.fetched e r ∧ q = s.fetchedRun e r ∧ s.Issues e 2048 r w ∧ q.accessFault (r.loadAddr w) 4 4 = none ∧ inHeap (r.loadAddr w) = true) ∧
  (∃ (s : State) (f : State) (e : Nat) (r : Run) (q : Run) (w : Word), f = s.fetched e r ∧ q = s.fetchedRun e r ∧ s.Issues e 2304 r w ∧ q.accessFault (r.loadAddr w) 2 2 = none ∧ inHeap (r.loadAddr w) = true) ∧
  (∃ (s : State) (f : State) (e : Nat) (r : Run) (q : Run) (w : Word), f = s.fetched e r ∧ q = s.fetchedRun e r ∧ s.Issues e 2560 r w ∧ q.accessFault (r.loadAddr w) 2 2 = none ∧ inHeap (r.loadAddr w) = true) ∧
  (∃ (s : State) (f : State) (e : Nat) (r : Run) (q : Run) (w : Word), f = s.fetched e r ∧ q = s.fetchedRun e r ∧ s.Issues e 2816 r w ∧ q.accessFault (r.loadAddr w) 1 1 = none ∧ inHeap (r.loadAddr w) = true) ∧
  (∃ (s : State) (f : State) (e : Nat) (r : Run) (q : Run) (w : Word), f = s.fetched e r ∧ q = s.fetchedRun e r ∧ s.Issues e 3072 r w ∧ q.accessFault (r.loadAddr w) 1 1 = none ∧ inHeap (r.loadAddr w) = true) ∧
  (∃ (s : State) (f : State) (e : Nat) (r : Run) (q : Run) (w : Word), f = s.fetched e r ∧ q = s.fetchedRun e r ∧ s.Issues e 3328 r w ∧ q.accessFault (r.loadAddr w) 4 4 = none ∧ inHeap (r.loadAddr w) = true) ∧
  (∃ (s : State) (f : State) (e : Nat) (r : Run) (q : Run) (w : Word), f = s.fetched e r ∧ q = s.fetchedRun e r ∧ s.Issues e 3584 r w ∧ q.accessFault (r.loadAddr w) 2 2 = none ∧ inHeap (r.loadAddr w) = true) ∧
  (∃ (s : State) (f : State) (e : Nat) (r : Run) (q : Run) (w : Word), f = s.fetched e r ∧ q = s.fetchedRun e r ∧ s.Issues e 3840 r w ∧ q.accessFault (r.loadAddr w) 1 1 = none ∧ inHeap (r.loadAddr w) = true) ∧
  (∃ (s : State) (f : State) (e : Nat) (r : Run) (q : Run) (w : Word), f = s.fetched e r ∧ q = s.fetchedRun e r ∧ s.Issues e 5376 r w ∧ q.accessFault (r.reg (iRa w)).toNat 4 4 = none ∧ inHeap (r.reg (iRa w)).toNat = true) ∧
  (∃ (s : State) (f : State) (e : Nat) (r : Run) (q : Run) (w : Word), f = s.fetched e r ∧ q = s.fetchedRun e r ∧ s.Issues e 5377 r w ∧ q.accessFault (r.reg (iRa w)).toNat 4 4 = none ∧ inHeap (r.reg (iRa w)).toNat = true) ∧
  (∃ (s : State) (f : State) (e : Nat) (r : Run) (q : Run) (w : Word), f = s.fetched e r ∧ q = s.fetchedRun e r ∧ s.Issues e 5378 r w ∧ q.accessFault (r.reg (iRa w)).toNat 4 4 = none ∧ inHeap (r.reg (iRa w)).toNat = true) ∧
  (∃ (s : State) (f : State) (e : Nat) (r : Run) (q : Run) (w : Word) (a : Nat) (n : Nat), f = s.fetched e r ∧ q = s.fetchedRun e r ∧ (a, n) = sigSpan (r.reg (iRa w)).toNat (r.reg (iRb w)).toNat (iFn w % 32 + 1) ∧ q.outside a n = none ∧ inHeap a = true ∧ s.Issues e 4096 r w) ∧
  (∃ (s : State) (f : State) (e : Nat) (r : Run) (q : Run) (w : Word) (a : Nat) (n : Nat), f = s.fetched e r ∧ q = s.fetchedRun e r ∧ (a, n) = sigSpan (r.reg (iRa w)).toNat (r.reg (iRb w)).toNat (iFn w % 32 + 1) ∧ q.outside a n = none ∧ inHeap a = true ∧ s.Issues e 4352 r w) ∧
  (∃ (s : State) (f : State) (e : Nat) (r : Run) (q : Run) (w : Word), f = s.fetched e r ∧ q = s.fetchedRun e r ∧ s.Issues e 4864 r w ∧ (r.reg (iRb w)).toNat ≠ 0 ∧ q.outside (r.reg (iRa w)).toNat (r.reg (iRb w)).toNat = none ∧ inHeap (r.reg (iRa w)).toNat = true) ∧
  (∃ (s : State) (f : State) (e : Nat) (r : Run) (q : Run) (w : Word) (c : Nat) (b : Nat), f = s.fetched e r ∧ q = s.fetchedRun e r ∧ s.Issues e 2048 r w ∧ q.accessFault (r.loadAddr w) 4 4 = some (c, b)) ∧
  (∃ (s : State) (f : State) (e : Nat) (r : Run) (q : Run) (w : Word) (c : Nat) (b : Nat), f = s.fetched e r ∧ q = s.fetchedRun e r ∧ s.Issues e 2304 r w ∧ q.accessFault (r.loadAddr w) 2 2 = some (c, b)) ∧
  (∃ (s : State) (f : State) (e : Nat) (r : Run) (q : Run) (w : Word) (c : Nat) (b : Nat), f = s.fetched e r ∧ q = s.fetchedRun e r ∧ s.Issues e 2560 r w ∧ q.accessFault (r.loadAddr w) 2 2 = some (c, b)) ∧
  (∃ (s : State) (f : State) (e : Nat) (r : Run) (q : Run) (w : Word) (c : Nat) (b : Nat), f = s.fetched e r ∧ q = s.fetchedRun e r ∧ s.Issues e 2816 r w ∧ q.accessFault (r.loadAddr w) 1 1 = some (c, b)) ∧
  (∃ (s : State) (f : State) (e : Nat) (r : Run) (q : Run) (w : Word) (c : Nat) (b : Nat), f = s.fetched e r ∧ q = s.fetchedRun e r ∧ s.Issues e 3072 r w ∧ q.accessFault (r.loadAddr w) 1 1 = some (c, b)) ∧
  (∃ (s : State) (f : State) (e : Nat) (r : Run) (q : Run) (w : Word) (c : Nat) (b : Nat), f = s.fetched e r ∧ q = s.fetchedRun e r ∧ s.Issues e 3328 r w ∧ q.accessFault (r.loadAddr w) 4 4 = some (c, b)) ∧
  (∃ (s : State) (f : State) (e : Nat) (r : Run) (q : Run) (w : Word) (c : Nat) (b : Nat), f = s.fetched e r ∧ q = s.fetchedRun e r ∧ s.Issues e 3584 r w ∧ q.accessFault (r.loadAddr w) 2 2 = some (c, b)) ∧
  (∃ (s : State) (f : State) (e : Nat) (r : Run) (q : Run) (w : Word) (c : Nat) (b : Nat), f = s.fetched e r ∧ q = s.fetchedRun e r ∧ s.Issues e 3840 r w ∧ q.accessFault (r.loadAddr w) 1 1 = some (c, b)) ∧
  (∃ (s : State) (f : State) (e : Nat) (r : Run) (q : Run) (w : Word) (c : Nat) (b : Nat), f = s.fetched e r ∧ q = s.fetchedRun e r ∧ s.Issues e 5376 r w ∧ q.accessFault (r.reg (iRa w)).toNat 4 4 = some (c, b)) ∧
  (∃ (s : State) (f : State) (e : Nat) (r : Run) (q : Run) (w : Word) (c : Nat) (b : Nat), f = s.fetched e r ∧ q = s.fetchedRun e r ∧ s.Issues e 5377 r w ∧ q.accessFault (r.reg (iRa w)).toNat 4 4 = some (c, b)) ∧
  (∃ (s : State) (f : State) (e : Nat) (r : Run) (q : Run) (w : Word) (c : Nat) (b : Nat), f = s.fetched e r ∧ q = s.fetchedRun e r ∧ s.Issues e 5378 r w ∧ q.accessFault (r.reg (iRa w)).toNat 4 4 = some (c, b)) :=
  ⟨⟨isaSt [] 0x23e10000 (isaRun [(1, 0x100000FC), (2, 4)]), _, 0, isaRun [(1, 0x100000FC), (2, 4)], _, 0x23e10000, rfl, rfl, ⟨by rfl, by rfl, by rfl, by decide⟩, by decide, by decide, by decide⟩,
   ⟨isaSt [] 0x27e10000 (isaRun [(1, 0x100000FC), (2, 4)]), _, 0, isaRun [(1, 0x100000FC), (2, 4)], _, 0x27e10000, rfl, rfl, ⟨by rfl, by rfl, by rfl, by decide⟩, by decide, by decide, by decide⟩,
   ⟨isaSt [] 0x2be10000 (isaRun [(1, 0x100000FC), (2, 4)]), _, 0, isaRun [(1, 0x100000FC), (2, 4)], _, 0x2be10000, rfl, rfl, ⟨by rfl, by rfl, by rfl, by decide⟩, by decide, by decide, by decide⟩,
   ⟨isaSt [] 0x2fe10000 (isaRun [(1, 0x100000FC), (2, 4)]), _, 0, isaRun [(1, 0x100000FC), (2, 4)], _, 0x2fe10000, rfl, rfl, ⟨by rfl, by rfl, by rfl, by decide⟩, by decide, by decide, by decide⟩,
   ⟨isaSt [] 0x33e10000 (isaRun [(1, 0x100000FC), (2, 4)]), _, 0, isaRun [(1, 0x100000FC), (2, 4)], _, 0x33e10000, rfl, rfl, ⟨by rfl, by rfl, by rfl, by decide⟩, by decide, by decide, by decide⟩,
   ⟨isaSt [] 0x37e10000 (isaRun [(1, 0x100000FC), (2, 4)]), _, 0, isaRun [(1, 0x100000FC), (2, 4)], _, 0x37e10000, rfl, rfl, ⟨by rfl, by rfl, by rfl, by decide⟩, by decide, by decide⟩,
   ⟨isaSt [] 0x3be10000 (isaRun [(1, 0x100000FC), (2, 4)]), _, 0, isaRun [(1, 0x100000FC), (2, 4)], _, 0x3be10000, rfl, rfl, ⟨by rfl, by rfl, by rfl, by decide⟩, by decide, by decide⟩,
   ⟨isaSt [] 0x3fe10000 (isaRun [(1, 0x100000FC), (2, 4)]), _, 0, isaRun [(1, 0x100000FC), (2, 4)], _, 0x3fe10000, rfl, rfl, ⟨by rfl, by rfl, by rfl, by decide⟩, by decide, by decide⟩,
   ⟨isaSt [] 0x43e1121f (isaRun [(1, 0x100000F8), (2, 32)]), _, 0, isaRun [(1, 0x100000F8), (2, 32)], _, 0x43e1121f, _, _, 32, 32, _, false, rfl, rfl, by rfl, by rfl, by rfl, rfl, rfl, by decide, by decide, by decide, ⟨by rfl, by rfl, by rfl, by decide⟩⟩,
   ⟨isaSt [] 0x47e1101f (isaRun [(1, 0x100000F8), (2, 32)]), _, 0, isaRun [(1, 0x100000F8), (2, 32)], _, 0x47e1101f, _, _, 32, 32, _, false, rfl, rfl, by rfl, by rfl, by rfl, rfl, rfl, by decide, by decide, by decide, ⟨by rfl, by rfl, by rfl, by decide⟩⟩,
   ⟨isaSt [] 0x4fe10000 (isaRun [(1, 0x100000FC), (2, 4)]), _, 0, isaRun [(1, 0x100000FC), (2, 4)], _, 0x4fe10000, rfl, rfl, ⟨by rfl, by rfl, by rfl, by decide⟩, by decide⟩,
   ⟨isaSt [] 0x4fe11000 (isaRun [(1, 0x100000FC), (2, 4)]), _, 0, isaRun [(1, 0x100000FC), (2, 4)], _, 0x4fe11000, _, _, rfl, rfl, rfl, rfl, by decide, by decide, by decide, by decide, by decide, ⟨by rfl, by rfl, by rfl, by decide⟩⟩,
   ⟨isaSt [] 0x57e11000 (isaRun [(1, 0x100000FC), (2, 4)]), _, 0, isaRun [(1, 0x100000FC), (2, 4)], _, 0x57e11000, _, _, _, _, rfl, rfl, rfl, by decide, by decide, rfl, rfl, by decide, ⟨by rfl, by rfl, by rfl, by decide⟩⟩,
   ⟨isaSt [] 0x57e11001 (isaRun [(1, 0x100000FC), (2, 4)]), _, 0, isaRun [(1, 0x100000FC), (2, 4)], _, 0x57e11001, _, _, _, _, rfl, rfl, rfl, by decide, by decide, rfl, rfl, by decide, ⟨by rfl, by rfl, by rfl, by decide⟩⟩,
   ⟨isaSt [] 0x57e11002 (isaRun [(1, 0x100000FC), (2, 4)]), _, 0, isaRun [(1, 0x100000FC), (2, 4)], _, 0x57e11002, _, _, _, _, rfl, rfl, rfl, by decide, by decide, rfl, rfl, by decide, ⟨by rfl, by rfl, by rfl, by decide⟩⟩,
   ⟨isaSt [] 0x23e10000 ({ isaRun [(1, 0x40000000), (2, 8)] with work := { (isaRun []).work with entry := [0, setF 0 PROGRAM_CODE_LEN 1, 0, 0, setF 0 PROGRAM_HLEN 1] } }), _, 0, { isaRun [(1, 0x40000000), (2, 8)] with work := { (isaRun []).work with entry := [0, setF 0 PROGRAM_CODE_LEN 1, 0, 0, setF 0 PROGRAM_HLEN 1] } }, _, 0x23e10000, rfl, rfl, ⟨by rfl, by rfl, by rfl, by decide⟩, by decide, by decide⟩,
   ⟨isaSt [] 0x27e10000 ({ isaRun [(1, 0x40000000), (2, 8)] with work := { (isaRun []).work with entry := [0, setF 0 PROGRAM_CODE_LEN 1, 0, 0, setF 0 PROGRAM_HLEN 1] } }), _, 0, { isaRun [(1, 0x40000000), (2, 8)] with work := { (isaRun []).work with entry := [0, setF 0 PROGRAM_CODE_LEN 1, 0, 0, setF 0 PROGRAM_HLEN 1] } }, _, 0x27e10000, rfl, rfl, ⟨by rfl, by rfl, by rfl, by decide⟩, by decide, by decide⟩,
   ⟨isaSt [] 0x2be10000 ({ isaRun [(1, 0x40000000), (2, 8)] with work := { (isaRun []).work with entry := [0, setF 0 PROGRAM_CODE_LEN 1, 0, 0, setF 0 PROGRAM_HLEN 1] } }), _, 0, { isaRun [(1, 0x40000000), (2, 8)] with work := { (isaRun []).work with entry := [0, setF 0 PROGRAM_CODE_LEN 1, 0, 0, setF 0 PROGRAM_HLEN 1] } }, _, 0x2be10000, rfl, rfl, ⟨by rfl, by rfl, by rfl, by decide⟩, by decide, by decide⟩,
   ⟨isaSt [] 0x2fe10000 ({ isaRun [(1, 0x40000000), (2, 8)] with work := { (isaRun []).work with entry := [0, setF 0 PROGRAM_CODE_LEN 1, 0, 0, setF 0 PROGRAM_HLEN 1] } }), _, 0, { isaRun [(1, 0x40000000), (2, 8)] with work := { (isaRun []).work with entry := [0, setF 0 PROGRAM_CODE_LEN 1, 0, 0, setF 0 PROGRAM_HLEN 1] } }, _, 0x2fe10000, rfl, rfl, ⟨by rfl, by rfl, by rfl, by decide⟩, by decide, by decide⟩,
   ⟨isaSt [] 0x33e10000 ({ isaRun [(1, 0x40000000), (2, 8)] with work := { (isaRun []).work with entry := [0, setF 0 PROGRAM_CODE_LEN 1, 0, 0, setF 0 PROGRAM_HLEN 1] } }), _, 0, { isaRun [(1, 0x40000000), (2, 8)] with work := { (isaRun []).work with entry := [0, setF 0 PROGRAM_CODE_LEN 1, 0, 0, setF 0 PROGRAM_HLEN 1] } }, _, 0x33e10000, rfl, rfl, ⟨by rfl, by rfl, by rfl, by decide⟩, by decide, by decide⟩,
   ⟨isaSt [] 0x37e10000 ({ isaRun [(1, 0x40000000), (2, 8)] with work := { (isaRun []).work with entry := [0, setF 0 PROGRAM_CODE_LEN 1, 0, 0, setF 0 PROGRAM_HLEN 1] } }), _, 0, { isaRun [(1, 0x40000000), (2, 8)] with work := { (isaRun []).work with entry := [0, setF 0 PROGRAM_CODE_LEN 1, 0, 0, setF 0 PROGRAM_HLEN 1] } }, _, 0x37e10000, rfl, rfl, ⟨by rfl, by rfl, by rfl, by decide⟩, by decide, by decide⟩,
   ⟨isaSt [] 0x3be10000 ({ isaRun [(1, 0x40000000), (2, 8)] with work := { (isaRun []).work with entry := [0, setF 0 PROGRAM_CODE_LEN 1, 0, 0, setF 0 PROGRAM_HLEN 1] } }), _, 0, { isaRun [(1, 0x40000000), (2, 8)] with work := { (isaRun []).work with entry := [0, setF 0 PROGRAM_CODE_LEN 1, 0, 0, setF 0 PROGRAM_HLEN 1] } }, _, 0x3be10000, rfl, rfl, ⟨by rfl, by rfl, by rfl, by decide⟩, by decide, by decide⟩,
   ⟨isaSt [] 0x3fe10000 ({ isaRun [(1, 0x40000000), (2, 8)] with work := { (isaRun []).work with entry := [0, setF 0 PROGRAM_CODE_LEN 1, 0, 0, setF 0 PROGRAM_HLEN 1] } }), _, 0, { isaRun [(1, 0x40000000), (2, 8)] with work := { (isaRun []).work with entry := [0, setF 0 PROGRAM_CODE_LEN 1, 0, 0, setF 0 PROGRAM_HLEN 1] } }, _, 0x3fe10000, rfl, rfl, ⟨by rfl, by rfl, by rfl, by decide⟩, by decide, by decide⟩,
   ⟨isaSt [] 0x57e11000 ({ isaRun [(1, 0x40000000), (2, 8)] with work := { (isaRun []).work with entry := [0, setF 0 PROGRAM_CODE_LEN 1, 0, 0, setF 0 PROGRAM_HLEN 1] } }), _, 0, { isaRun [(1, 0x40000000), (2, 8)] with work := { (isaRun []).work with entry := [0, setF 0 PROGRAM_CODE_LEN 1, 0, 0, setF 0 PROGRAM_HLEN 1] } }, _, 0x57e11000, rfl, rfl, ⟨by rfl, by rfl, by rfl, by decide⟩, by decide, by decide⟩,
   ⟨isaSt [] 0x57e11001 ({ isaRun [(1, 0x40000000), (2, 8)] with work := { (isaRun []).work with entry := [0, setF 0 PROGRAM_CODE_LEN 1, 0, 0, setF 0 PROGRAM_HLEN 1] } }), _, 0, { isaRun [(1, 0x40000000), (2, 8)] with work := { (isaRun []).work with entry := [0, setF 0 PROGRAM_CODE_LEN 1, 0, 0, setF 0 PROGRAM_HLEN 1] } }, _, 0x57e11001, rfl, rfl, ⟨by rfl, by rfl, by rfl, by decide⟩, by decide, by decide⟩,
   ⟨isaSt [] 0x57e11002 ({ isaRun [(1, 0x40000000), (2, 8)] with work := { (isaRun []).work with entry := [0, setF 0 PROGRAM_CODE_LEN 1, 0, 0, setF 0 PROGRAM_HLEN 1] } }), _, 0, { isaRun [(1, 0x40000000), (2, 8)] with work := { (isaRun []).work with entry := [0, setF 0 PROGRAM_CODE_LEN 1, 0, 0, setF 0 PROGRAM_HLEN 1] } }, _, 0x57e11002, rfl, rfl, ⟨by rfl, by rfl, by rfl, by decide⟩, by decide, by decide⟩,
   ⟨isaSt [] 0x43e1001f ({ isaRun [(1, 0x40000000), (2, 8)] with work := { (isaRun []).work with entry := [0, setF 0 PROGRAM_CODE_LEN 1, 0, 0, setF 0 PROGRAM_HLEN 1] } }), _, 0, { isaRun [(1, 0x40000000), (2, 8)] with work := { (isaRun []).work with entry := [0, setF 0 PROGRAM_CODE_LEN 1, 0, 0, setF 0 PROGRAM_HLEN 1] } }, _, 0x43e1001f, 0x40000000, 4, rfl, rfl, by decide, by decide, by decide, ⟨by rfl, by rfl, by rfl, by decide⟩⟩,
   ⟨isaSt [] 0x47e1001f ({ isaRun [(1, 0x40000000), (2, 8)] with work := { (isaRun []).work with entry := [0, setF 0 PROGRAM_CODE_LEN 1, 0, 0, setF 0 PROGRAM_HLEN 1] } }), _, 0, { isaRun [(1, 0x40000000), (2, 8)] with work := { (isaRun []).work with entry := [0, setF 0 PROGRAM_CODE_LEN 1, 0, 0, setF 0 PROGRAM_HLEN 1] } }, _, 0x47e1001f, 0x40000000, 4, rfl, rfl, by decide, by decide, by decide, ⟨by rfl, by rfl, by rfl, by decide⟩⟩,
   ⟨isaSt [] 0x4fe11000 ({ isaRun [(1, 0x40000000), (2, 8)] with work := { (isaRun []).work with entry := [0, setF 0 PROGRAM_CODE_LEN 1, 0, 0, setF 0 PROGRAM_HLEN 1] } }), _, 0, { isaRun [(1, 0x40000000), (2, 8)] with work := { (isaRun []).work with entry := [0, setF 0 PROGRAM_CODE_LEN 1, 0, 0, setF 0 PROGRAM_HLEN 1] } }, _, 0x4fe11000, rfl, rfl, ⟨by rfl, by rfl, by rfl, by decide⟩, by decide, by decide, by decide⟩,
   ⟨isaSt [] 0x23e10004 (isaRun [(1, 0x100000FC), (2, 4)]), _, 0, isaRun [(1, 0x100000FC), (2, 4)], _, 0x23e10004, 3, 0x10000100, rfl, rfl, ⟨by rfl, by rfl, by rfl, by decide⟩, by decide⟩,
   ⟨isaSt [] 0x27e10004 (isaRun [(1, 0x100000FC), (2, 4)]), _, 0, isaRun [(1, 0x100000FC), (2, 4)], _, 0x27e10004, 3, 0x10000100, rfl, rfl, ⟨by rfl, by rfl, by rfl, by decide⟩, by decide⟩,
   ⟨isaSt [] 0x2be10004 (isaRun [(1, 0x100000FC), (2, 4)]), _, 0, isaRun [(1, 0x100000FC), (2, 4)], _, 0x2be10004, 3, 0x10000100, rfl, rfl, ⟨by rfl, by rfl, by rfl, by decide⟩, by decide⟩,
   ⟨isaSt [] 0x2fe10004 (isaRun [(1, 0x100000FC), (2, 4)]), _, 0, isaRun [(1, 0x100000FC), (2, 4)], _, 0x2fe10004, 3, 0x10000100, rfl, rfl, ⟨by rfl, by rfl, by rfl, by decide⟩, by decide⟩,
   ⟨isaSt [] 0x33e10004 (isaRun [(1, 0x100000FC), (2, 4)]), _, 0, isaRun [(1, 0x100000FC), (2, 4)], _, 0x33e10004, 3, 0x10000100, rfl, rfl, ⟨by rfl, by rfl, by rfl, by decide⟩, by decide⟩,
   ⟨isaSt [] 0x37e10004 (isaRun [(1, 0x100000FC), (2, 4)]), _, 0, isaRun [(1, 0x100000FC), (2, 4)], _, 0x37e10004, 3, 0x10000100, rfl, rfl, ⟨by rfl, by rfl, by rfl, by decide⟩, by decide⟩,
   ⟨isaSt [] 0x3be10004 (isaRun [(1, 0x100000FC), (2, 4)]), _, 0, isaRun [(1, 0x100000FC), (2, 4)], _, 0x3be10004, 3, 0x10000100, rfl, rfl, ⟨by rfl, by rfl, by rfl, by decide⟩, by decide⟩,
   ⟨isaSt [] 0x3fe10004 (isaRun [(1, 0x100000FC), (2, 4)]), _, 0, isaRun [(1, 0x100000FC), (2, 4)], _, 0x3fe10004, 3, 0x10000100, rfl, rfl, ⟨by rfl, by rfl, by rfl, by decide⟩, by decide⟩,
   ⟨isaSt [] 0x57e11000 (isaRun [(1, 0x10000001)]), _, 0, isaRun [(1, 0x10000001)], _, 0x57e11000, 4, 0x10000001, rfl, rfl, ⟨by rfl, by rfl, by rfl, by decide⟩, by decide⟩,
   ⟨isaSt [] 0x57e11001 (isaRun [(1, 0x10000001)]), _, 0, isaRun [(1, 0x10000001)], _, 0x57e11001, 4, 0x10000001, rfl, rfl, ⟨by rfl, by rfl, by rfl, by decide⟩, by decide⟩,
   ⟨isaSt [] 0x57e11002 (isaRun [(1, 0x10000001)]), _, 0, isaRun [(1, 0x10000001)], _, 0x57e11002, 4, 0x10000001, rfl, rfl, ⟨by rfl, by rfl, by rfl, by decide⟩, by decide⟩⟩

set_option maxRecDepth 100000 in
theorem witness_QueueAndLookupInstructionsComplete :
  (∃ (s : State) (f : State) (e : Nat) (r : Run) (q : Run) (w : Word) (k : Nat) (a : Nat), f = s.fetched e r ∧ q = s.fetchedRun e r ∧ k = (r.reg (iRa w)).toNat ∧ a = (r.reg (iRb w)).toNat ∧ s.Issues e 0x2002 r w ∧ f.sqFault e q k 0 = none) ∧
  (∃ (s : State) (f : State) (e : Nat) (r : Run) (q : Run) (w : Word) (k : Nat) (a : Nat), f = s.fetched e r ∧ q = s.fetchedRun e r ∧ k = (r.reg (iRa w)).toNat ∧ a = (r.reg (iRb w)).toNat ∧ s.Issues e 0x2003 r w ∧ f.sqFault e q k 0 = none) ∧
  (∃ (s : State) (f : State) (e : Nat) (r : Run) (q : Run) (w : Word) (k : Nat) (a : Nat), f = s.fetched e r ∧ q = s.fetchedRun e r ∧ k = (r.reg (iRa w)).toNat ∧ a = (r.reg (iRb w)).toNat ∧ s.Issues e 0x2004 r w ∧ f.sqFault e q k 0 = none) ∧
  (∃ (s : State) (f : State) (e : Nat) (r : Run) (q : Run) (w : Word) (k : Nat) (a : Nat), f = s.fetched e r ∧ q = s.fetchedRun e r ∧ k = (r.reg (iRa w)).toNat ∧ a = (r.reg (iRb w)).toNat ∧ s.Issues e 0x2005 r w ∧ f.sqFault e q k 2 = none) ∧
  (∃ (s : State) (f : State) (e : Nat) (r : Run) (q : Run) (w : Word) (k : Nat) (a : Nat) (n : Nat) (l : List Byte), f = s.fetched e r ∧ q = s.fetchedRun e r ∧ k = (r.reg (iRa w)).toNat ∧ a = (r.reg (iRb w)).toNat ∧ s.Issues e 0x2000 r w ∧ n = f.sqSize k ∧ f.sqBuffer q k a = none ∧ f.sqFault e q k 0 = none ∧ f.getLook k n = some (false, l) ∧ inHeap a = false) ∧
  (∃ (s : State) (f : State) (e : Nat) (r : Run) (q : Run) (w : Word) (k : Nat) (a : Nat) (n : Nat) (l : List Byte), f = s.fetched e r ∧ q = s.fetchedRun e r ∧ k = (r.reg (iRa w)).toNat ∧ a = (r.reg (iRb w)).toNat ∧ s.Issues e 0x2000 r w ∧ n = f.sqSize k ∧ f.sqBuffer q k a = none ∧ f.sqFault e q k 0 = none ∧ f.getLook k n = some (false, l) ∧ inHeap a = true) ∧
  (∃ (s : State) (f : State) (e : Nat) (r : Run) (q : Run) (w : Word) (k : Nat) (a : Nat) (n : Nat) (l : List Byte), f = s.fetched e r ∧ q = s.fetchedRun e r ∧ k = (r.reg (iRa w)).toNat ∧ a = (r.reg (iRb w)).toNat ∧ s.Issues e 0x2000 r w ∧ n = f.sqSize k ∧ f.sqBuffer q k a = none ∧ f.sqFault e q k 0 = none ∧ f.getLook k n = some (true, l)) ∧
  (∃ (s : State) (f : State) (e : Nat) (r : Run) (q : Run) (w : Word) (k : Nat) (a : Nat) (n : Nat), f = s.fetched e r ∧ q = s.fetchedRun e r ∧ k = (r.reg (iRa w)).toNat ∧ a = (r.reg (iRb w)).toNat ∧ s.Issues e 0x2000 r w ∧ n = f.sqSize k ∧ f.sqBuffer q k a = none ∧ f.sqFault e q k 0 = none ∧ f.getLook k n = none ∧ f.sqHost k = 0) ∧
  (∃ (s : State) (f : State) (e : Nat) (r : Run) (q : Run) (w : Word) (k : Nat) (a : Nat) (n : Nat), f = s.fetched e r ∧ q = s.fetchedRun e r ∧ k = (r.reg (iRa w)).toNat ∧ a = (r.reg (iRb w)).toNat ∧ s.Issues e 0x2000 r w ∧ n = f.sqSize k ∧ f.sqBuffer q k a = none ∧ f.sqFault e q k 0 = none ∧ f.getLook k n = none ∧ f.sqHost k ≠ 0 ∧ inHeap a = false) ∧
  (∃ (s : State) (f : State) (e : Nat) (r : Run) (q : Run) (w : Word) (k : Nat) (a : Nat) (n : Nat) (l : List Byte) (o : Option State) (t : State), f = s.fetched e r ∧ q = s.fetchedRun e r ∧ k = (r.reg (iRa w)).toNat ∧ a = (r.reg (iRb w)).toNat ∧ s.Issues e 0x2001 r w ∧ n = f.sqSize k ∧ f.sqBuffer q k a = none ∧ inHeap a = false ∧ f.engPoison e q a n = none ∧ f.sqFault e q k 1 = none ∧ l = f.engBytes e q a n ∧ (o = (f.engRead e q a n).sqPut k ((List.range (n / 4)).map (fun j => BitVec.ofNat 32 (leNat (slice l (4 * j) 4))))) ∧ o = some t) ∧
  (∃ (s : State) (f : State) (e : Nat) (r : Run) (q : Run) (w : Word) (k : Nat) (a : Nat) (n : Nat) (l : List Byte) (o : Option State), f = s.fetched e r ∧ q = s.fetchedRun e r ∧ k = (r.reg (iRa w)).toNat ∧ a = (r.reg (iRb w)).toNat ∧ s.Issues e 0x2001 r w ∧ n = f.sqSize k ∧ f.sqBuffer q k a = none ∧ inHeap a = false ∧ f.engPoison e q a n = none ∧ f.sqFault e q k 1 = none ∧ l = f.engBytes e q a n ∧ (o = (f.engRead e q a n).sqPut k ((List.range (n / 4)).map (fun j => BitVec.ofNat 32 (leNat (slice l (4 * j) 4))))) ∧ o = none ∧ (f.engRead e q a n).sqHost k = 0) ∧
  (∃ (s : State) (f : State) (e : Nat) (r : Run) (q : Run) (w : Word) (k : Nat) (a : Nat) (n : Nat) (l : List Byte) (o : Option State), f = s.fetched e r ∧ q = s.fetchedRun e r ∧ k = (r.reg (iRa w)).toNat ∧ a = (r.reg (iRb w)).toNat ∧ s.Issues e 0x2001 r w ∧ n = f.sqSize k ∧ f.sqBuffer q k a = none ∧ inHeap a = false ∧ f.engPoison e q a n = none ∧ f.sqFault e q k 1 = none ∧ l = f.engBytes e q a n ∧ (o = (f.engRead e q a n).sqPut k ((List.range (n / 4)).map (fun j => BitVec.ofNat 32 (leNat (slice l (4 * j) 4))))) ∧ o = none ∧ (f.engRead e q a n).sqHost k ≠ 0) ∧
  (∃ (s : State) (f : State) (e : Nat) (r : Run) (q : Run) (w : Word) (k : Nat) (a : Nat), f = s.fetched e r ∧ q = s.fetchedRun e r ∧ k = (r.reg (iRa w)).toNat ∧ a = (r.reg (iRb w)).toNat ∧ s.Issues e 0x2001 r w ∧ f.sqBuffer q k a = none ∧ inHeap a = true) ∧
  (∃ (s : State) (f : State) (e : Nat) (r : Run) (q : Run) (w : Word) (k : Nat) (a : Nat), f = s.fetched e r ∧ q = s.fetchedRun e r ∧ k = (r.reg (iRa w)).toNat ∧ a = (r.reg (iRb w)).toNat ∧ s.Issues e 0x2100 r w ∧ k ≤ 5183) ∧
  (∃ (s : State) (f : State) (e : Nat) (r : Run) (q : Run) (w : Word) (k : Nat) (a : Nat), f = s.fetched e r ∧ q = s.fetchedRun e r ∧ k = (r.reg (iRa w)).toNat ∧ a = (r.reg (iRb w)).toNat ∧ s.Issues e 0x2200 r w ∧ q.outside a 6 = none ∧ inHeap a = false ∧ f.engPoison e q a 6 = none) ∧
  (∃ (s : State) (f : State) (e : Nat) (r : Run) (q : Run) (w : Word) (k : Nat) (a : Nat), f = s.fetched e r ∧ q = s.fetchedRun e r ∧ k = (r.reg (iRa w)).toNat ∧ a = (r.reg (iRb w)).toNat ∧ s.Issues e 0x2200 r w ∧ q.outside a 6 = none ∧ inHeap a = true) ∧
  (∃ (s : State) (f : State) (e : Nat) (r : Run) (q : Run) (w : Word) (k : Nat) (a : Nat), f = s.fetched e r ∧ q = s.fetchedRun e r ∧ k = (r.reg (iRa w)).toNat ∧ a = (r.reg (iRb w)).toNat ∧ s.Issues e 0x2300 r w ∧ k ≤ 65535) ∧
  (∃ (s : State) (f : State) (e : Nat) (r : Run) (q : Run) (w : Word) (k : Nat) (a : Nat), f = s.fetched e r ∧ q = s.fetchedRun e r ∧ k = (r.reg (iRa w)).toNat ∧ a = (r.reg (iRb w)).toNat ∧ s.Issues e 0x2301 r w ∧ k ≤ 65535) ∧
  (∃ (s : State) (f : State) (e : Nat) (r : Run) (q : Run) (w : Word) (k : Nat) (a : Nat), f = s.fetched e r ∧ q = s.fetchedRun e r ∧ k = (r.reg (iRa w)).toNat ∧ a = (r.reg (iRb w)).toNat ∧ s.Issues e 0x2302 r w ∧ k ≤ 65535) :=
  ⟨⟨isaSt [(SQUEUE 63, SQUEUE_VALID, 1), (SQUEUE 63, SQUEUE_DEPTH, 4)] 0x83e11002 (isaRun [(1, 63), (2, 0x100000F0)]), _, 0, isaRun [(1, 63), (2, 0x100000F0)], _, 0x83e11002, _, _, rfl, rfl, rfl, rfl, ⟨by rfl, by rfl, by rfl, by decide⟩, by decide⟩,
   ⟨isaSt [(SQUEUE 63, SQUEUE_VALID, 1), (SQUEUE 63, SQUEUE_DEPTH, 4)] 0x83e11003 (isaRun [(1, 63), (2, 0x100000F0)]), _, 0, isaRun [(1, 63), (2, 0x100000F0)], _, 0x83e11003, _, _, rfl, rfl, rfl, rfl, ⟨by rfl, by rfl, by rfl, by decide⟩, by decide⟩,
   ⟨isaSt [(SQUEUE 63, SQUEUE_VALID, 1), (SQUEUE 63, SQUEUE_DEPTH, 4)] 0x83e11004 (isaRun [(1, 63), (2, 0x100000F0)]), _, 0, isaRun [(1, 63), (2, 0x100000F0)], _, 0x83e11004, _, _, rfl, rfl, rfl, rfl, ⟨by rfl, by rfl, by rfl, by decide⟩, by decide⟩,
   ⟨isaSt [(SQUEUE 63, SQUEUE_VALID, 1), (SQUEUE 63, SQUEUE_DEPTH, 4)] 0x83e11005 (isaRun [(1, 63), (2, 0x100000F0)]), _, 0, isaRun [(1, 63), (2, 0x100000F0)], _, 0x83e11005, _, _, rfl, rfl, rfl, rfl, ⟨by rfl, by rfl, by rfl, by decide⟩, by decide⟩,
   by obtain ⟨l0, h0⟩ := getLook_some (s := (isaSt [(SQUEUE 63, SQUEUE_VALID, 1), (SQUEUE 63, SQUEUE_DEPTH, 4), (SQUEUE 63 + 8, SQUEUE_WR, 1)] 0x83e11000 (isaRun [(1, 63), (2, 0x100000F0)])).fetched 0 (isaRun [(1, 63), (2, 0x100000F0)])) (q := 63) (n := 16) (b := false) (by decide) (by decide); exact ⟨isaSt [(SQUEUE 63, SQUEUE_VALID, 1), (SQUEUE 63, SQUEUE_DEPTH, 4), (SQUEUE 63 + 8, SQUEUE_WR, 1)] 0x83e11000 (isaRun [(1, 63), (2, 0x100000F0)]), _, 0, isaRun [(1, 63), (2, 0x100000F0)], _, 0x83e11000, _, _, 16, l0, rfl, rfl, rfl, rfl, ⟨by rfl, by rfl, by rfl, by decide⟩, by decide, by decide, by decide, h0, by decide⟩,
   by obtain ⟨l0, h0⟩ := getLook_some (s := (isaSt [(SQUEUE 63, SQUEUE_VALID, 1), (SQUEUE 63, SQUEUE_DEPTH, 4), (SQUEUE 63 + 8, SQUEUE_WR, 1)] 0x83e11000 ({ isaRun [(1, 63), (2, 0x40000000)] with work := { (isaRun []).work with entry := [0, setF 0 PROGRAM_CODE_LEN 1, 0, 0, setF 0 PROGRAM_HLEN 1] } })).fetched 0 ({ isaRun [(1, 63), (2, 0x40000000)] with work := { (isaRun []).work with entry := [0, setF 0 PROGRAM_CODE_LEN 1, 0, 0, setF 0 PROGRAM_HLEN 1] } })) (q := 63) (n := 16) (b := false) (by decide) (by decide); exact ⟨isaSt [(SQUEUE 63, SQUEUE_VALID, 1), (SQUEUE 63, SQUEUE_DEPTH, 4), (SQUEUE 63 + 8, SQUEUE_WR, 1)] 0x83e11000 ({ isaRun [(1, 63), (2, 0x40000000)] with work := { (isaRun []).work with entry := [0, setF 0 PROGRAM_CODE_LEN 1, 0, 0, setF 0 PROGRAM_HLEN 1] } }), _, 0, { isaRun [(1, 63), (2, 0x40000000)] with work := { (isaRun []).work with entry := [0, setF 0 PROGRAM_CODE_LEN 1, 0, 0, setF 0 PROGRAM_HLEN 1] } }, _, 0x83e11000, _, _, 16, l0, rfl, rfl, rfl, rfl, ⟨by rfl, by rfl, by rfl, by decide⟩, by decide, by decide, by decide, h0, by decide⟩,
   by obtain ⟨l0, h0⟩ := getLook_some (s := ({ isaSt [(SQUEUE 63, SQUEUE_VALID, 1), (SQUEUE 63, SQUEUE_DEPTH, 4), (SQUEUE 63 + 8, SQUEUE_WR, 1)] 0x83e11000 (isaRun [(1, 63), (2, 0x100000F0)]) with poison := [(codeKey 0 (codeAddr 0 (SHARED 0 0)), true)] }).fetched 0 (isaRun [(1, 63), (2, 0x100000F0)])) (q := 63) (n := 16) (b := true) (by decide) (by decide); exact ⟨{ isaSt [(SQUEUE 63, SQUEUE_VALID, 1), (SQUEUE 63, SQUEUE_DEPTH, 4), (SQUEUE 63 + 8, SQUEUE_WR, 1)] 0x83e11000 (isaRun [(1, 63), (2, 0x100000F0)]) with poison := [(codeKey 0 (codeAddr 0 (SHARED 0 0)), true)] }, _, 0, isaRun [(1, 63), (2, 0x100000F0)], _, 0x83e11000, _, _, 16, l0, rfl, rfl, rfl, rfl, ⟨by rfl, by rfl, by rfl, by decide⟩, by decide, by decide, by decide, h0⟩,
   ⟨isaSt [(SQUEUE 63, SQUEUE_VALID, 1), (SQUEUE 63, SQUEUE_DEPTH, 4)] 0x83e11000 (isaRun [(1, 63), (2, 0x100000F0)]), _, 0, isaRun [(1, 63), (2, 0x100000F0)], _, 0x83e11000, _, _, 16, rfl, rfl, rfl, rfl, ⟨by rfl, by rfl, by rfl, by decide⟩, by decide, by decide, by decide, by decide, by decide⟩,
   ⟨isaSt [(SQUEUE 63, SQUEUE_VALID, 1), (SQUEUE 63, SQUEUE_DEPTH, 4), (SQUEUE 63, SQUEUE_HOST, 1)] 0x83e11000 (isaRun [(1, 63), (2, 0x100000F0)]), _, 0, isaRun [(1, 63), (2, 0x100000F0)], _, 0x83e11000, _, _, 16, rfl, rfl, rfl, rfl, ⟨by rfl, by rfl, by rfl, by decide⟩, by decide, by decide, by decide, by decide, by decide, by decide⟩,
   ⟨isaSt [(SQUEUE 63, SQUEUE_VALID, 1), (SQUEUE 63, SQUEUE_DEPTH, 4)] 0x83e11001 (isaRun [(1, 63), (2, 0x100000F0)]), _, 0, isaRun [(1, 63), (2, 0x100000F0)], _, 0x83e11001, _, _, 16, _, _, _, rfl, rfl, rfl, rfl, ⟨by rfl, by rfl, by rfl, by decide⟩, by decide, by decide, by decide, by decide, by decide, rfl, rfl, rfl⟩,
   ⟨isaSt [(SQUEUE 63, SQUEUE_VALID, 1), (SQUEUE 63 + 8, SQUEUE_WR, 1)] 0x83e11001 (isaRun [(1, 63), (2, 0x100000F0)]), _, 0, isaRun [(1, 63), (2, 0x100000F0)], _, 0x83e11001, _, _, 16, _, _, rfl, rfl, rfl, rfl, ⟨by rfl, by rfl, by rfl, by decide⟩, by decide, by decide, by decide, by decide, by decide, rfl, rfl, rfl, by decide⟩,
   ⟨isaSt [(SQUEUE 63, SQUEUE_VALID, 1), (SQUEUE 63 + 8, SQUEUE_WR, 1), (SQUEUE 63, SQUEUE_HOST, 2)] 0x83e11001 (isaRun [(1, 63), (2, 0x100000F0)]), _, 0, isaRun [(1, 63), (2, 0x100000F0)], _, 0x83e11001, _, _, 16, _, _, rfl, rfl, rfl, rfl, ⟨by rfl, by rfl, by rfl, by decide⟩, by decide, by decide, by decide, by decide, by decide, rfl, rfl, rfl, by decide⟩,
   ⟨isaSt [(SQUEUE 63, SQUEUE_VALID, 1), (SQUEUE 63, SQUEUE_DEPTH, 4)] 0x83e11001 ({ isaRun [(1, 63), (2, 0x40000000)] with work := { (isaRun []).work with entry := [0, setF 0 PROGRAM_CODE_LEN 1, 0, 0, setF 0 PROGRAM_HLEN 1] } }), _, 0, { isaRun [(1, 63), (2, 0x40000000)] with work := { (isaRun []).work with entry := [0, setF 0 PROGRAM_CODE_LEN 1, 0, 0, setF 0 PROGRAM_HLEN 1] } }, _, 0x83e11001, _, _, rfl, rfl, rfl, rfl, ⟨by rfl, by rfl, by rfl, by decide⟩, by decide, by decide⟩,
   ⟨isaSt [] 0x87e11000 (isaRun [(1, 5183)]), _, 0, isaRun [(1, 5183)], _, 0x87e11000, _, _, rfl, rfl, rfl, rfl, ⟨by rfl, by rfl, by rfl, by decide⟩, by decide⟩,
   ⟨isaSt [] 0x8be11000 (isaRun [(2, 0x100000FA)]), _, 0, isaRun [(2, 0x100000FA)], _, 0x8be11000, _, _, rfl, rfl, rfl, rfl, ⟨by rfl, by rfl, by rfl, by decide⟩, by decide, by decide, by decide⟩,
   ⟨isaSt [] 0x8be11000 ({ isaRun [(1, 63), (2, 0x40000000)] with work := { (isaRun []).work with entry := [0, setF 0 PROGRAM_CODE_LEN 1, 0, 0, setF 0 PROGRAM_HLEN 1] } }), _, 0, { isaRun [(1, 63), (2, 0x40000000)] with work := { (isaRun []).work with entry := [0, setF 0 PROGRAM_CODE_LEN 1, 0, 0, setF 0 PROGRAM_HLEN 1] } }, _, 0x8be11000, _, _, rfl, rfl, rfl, rfl, ⟨by rfl, by rfl, by rfl, by decide⟩, by decide, by decide⟩,
   ⟨isaSt [] 0x8fc10000 (isaRun [(1, 65535)]), _, 0, isaRun [(1, 65535)], _, 0x8fc10000, _, _, rfl, rfl, rfl, rfl, ⟨by rfl, by rfl, by rfl, by decide⟩, by decide⟩,
   ⟨isaSt [] 0x8fc10001 (isaRun [(1, 65535)]), _, 0, isaRun [(1, 65535)], _, 0x8fc10001, _, _, rfl, rfl, rfl, rfl, ⟨by rfl, by rfl, by rfl, by decide⟩, by decide⟩,
   ⟨isaSt [] 0x8fc10002 (isaRun [(1, 65535)]), _, 0, isaRun [(1, 65535)], _, 0x8fc10002, _, _, rfl, rfl, rfl, rfl, ⟨by rfl, by rfl, by rfl, by decide⟩, by decide⟩⟩

set_option maxRecDepth 100000 in
theorem witness_RequestAndEndInstructionsComplete :
  (∃ (s : State) (f : State) (e : Nat) (r : Run) (q : Run) (w : Word) (a : Nat) (d : Nat), f = s.fetched e r ∧ q = s.fetchedRun e r ∧ a = (r.reg (iRa w)).toNat ∧ d = (r.reg (iRb w)).toNat ∧ s.Issues e 0x2400 r w ∧ q.accessFault a 32 4 = none ∧ inHeap a = true) ∧
  (∃ (s : State) (f : State) (e : Nat) (r : Run) (q : Run) (w : Word) (a : Nat) (d : Nat) (g : State) (t : State) (b : CiphBlk) (l : List Byte) (n : Nat) (moved : Bool), f = s.fetched e r ∧ q = s.fetchedRun e r ∧ a = (r.reg (iRa w)).toNat ∧ d = (r.reg (iRb w)).toNat ∧ s.Issues e 0x2400 r w ∧ q.accessFault a 32 4 = none ∧ inHeap a = false ∧ f.engPoison e q a 32 = none ∧ b = CiphBlk.ofOctets (f.engBytes e q a 32) ∧ b.pair = true ∧ b.malformed = false ∧ (b.inputs ++ [(b.oaddr, b.outLen)]).findSome? (fun x => if x.2 = 0 then none else q.outside x.1 x.2) = none ∧ g = f.engRead e q a 32 ∧ (b.inputs.findSome? (fun x => g.engPoison e q x.1 x.2) = none) ∧ (b.inputs.any (fun x => inHeap x.1 && decide (0 < x.2)) = false) ∧ (t = b.inputs.foldl (fun u x => u.engRead e q x.1 x.2) g) ∧ (l = f.engBytes e q a 32 ++ b.inputs.flatMap (fun x => g.engBytes e q x.1 x.2)) ∧ t.pickLane e r.work.item.hash = .lane n moved) ∧
  (∃ (s : State) (f : State) (e : Nat) (r : Run) (q : Run) (w : Word) (a : Nat) (d : Nat) (g : State) (t : State) (b : CiphBlk) (l : List Byte), f = s.fetched e r ∧ q = s.fetchedRun e r ∧ a = (r.reg (iRa w)).toNat ∧ d = (r.reg (iRb w)).toNat ∧ s.Issues e 0x2400 r w ∧ q.accessFault a 32 4 = none ∧ inHeap a = false ∧ f.engPoison e q a 32 = none ∧ b = CiphBlk.ofOctets (f.engBytes e q a 32) ∧ b.pair = true ∧ b.malformed = false ∧ (b.inputs ++ [(b.oaddr, b.outLen)]).findSome? (fun x => if x.2 = 0 then none else q.outside x.1 x.2) = none ∧ g = f.engRead e q a 32 ∧ (b.inputs.findSome? (fun x => g.engPoison e q x.1 x.2) = none) ∧ (b.inputs.any (fun x => inHeap x.1 && decide (0 < x.2)) = false) ∧ (t = b.inputs.foldl (fun u x => u.engRead e q x.1 x.2) g) ∧ (l = f.engBytes e q a 32 ++ b.inputs.flatMap (fun x => g.engBytes e q x.1 x.2)) ∧ t.pickLane e r.work.item.hash = .wait) ∧
  (∃ (s : State) (f : State) (e : Nat) (r : Run) (q : Run) (w : Word) (a : Nat) (d : Nat) (g : State) (t : State) (b : CiphBlk) (l : List Byte), f = s.fetched e r ∧ q = s.fetchedRun e r ∧ a = (r.reg (iRa w)).toNat ∧ d = (r.reg (iRb w)).toNat ∧ s.Issues e 0x2400 r w ∧ q.accessFault a 32 4 = none ∧ inHeap a = false ∧ f.engPoison e q a 32 = none ∧ b = CiphBlk.ofOctets (f.engBytes e q a 32) ∧ b.pair = true ∧ b.malformed = false ∧ (b.inputs ++ [(b.oaddr, b.outLen)]).findSome? (fun x => if x.2 = 0 then none else q.outside x.1 x.2) = none ∧ g = f.engRead e q a 32 ∧ (b.inputs.findSome? (fun x => g.engPoison e q x.1 x.2) = none) ∧ (b.inputs.any (fun x => inHeap x.1 && decide (0 < x.2)) = false) ∧ (t = b.inputs.foldl (fun u x => u.engRead e q x.1 x.2) g) ∧ (l = f.engBytes e q a 32 ++ b.inputs.flatMap (fun x => g.engBytes e q x.1 x.2)) ∧ t.pickLane e r.work.item.hash = .off) ∧
  (∃ (s : State) (f : State) (e : Nat) (r : Run) (q : Run) (w : Word) (a : Nat) (d : Nat), f = s.fetched e r ∧ q = s.fetchedRun e r ∧ a = (r.reg (iRa w)).toNat ∧ d = (r.reg (iRb w)).toNat ∧ s.Issues e 0x2800 r w ∧ q.accessFault a 32 4 = none ∧ inHeap a = true) ∧
  (∃ (s : State) (f : State) (e : Nat) (r : Run) (q : Run) (w : Word) (a : Nat) (d : Nat) (h : Nat) (len : Nat) (n : Nat) (g : State), f = s.fetched e r ∧ q = s.fetchedRun e r ∧ a = (r.reg (iRa w)).toNat ∧ d = (r.reg (iRb w)).toNat ∧ s.Issues e 0x2800 r w ∧ q.accessFault a 32 4 = none ∧ inHeap a = false ∧ h = leNat (slice (f.engBytes e q a 32) 0 4) ∧ len = bits h 13 0 ∧ n = (if emitRemote h = true then 0 else len) ∧ ((n = 0 ∨ q.outside d n = none ∧ inHeap d = false ∧ g.engPoison e q d n = none)) ∧ f.engPoison e q a 32 = none ∧ g = f.engRead e q a 32 ∧ r.emits.length < 16 ∧ (r.emits.foldl (fun x m => x + m.held) n ≤ 16384) ∧ emitLenBad h = false) ∧
  (∃ (s : State) (f : State) (e : Nat) (r : Run) (q : Run) (w : Word) (a : Nat) (d : Nat), f = s.fetched e r ∧ q = s.fetchedRun e r ∧ a = (r.reg (iRa w)).toNat ∧ d = (r.reg (iRb w)).toNat ∧ s.Issues e 0x2900 r w) ∧
  (∃ (s : State) (f : State) (e : Nat) (r : Run) (q : Run) (w : Word) (a : Nat) (d : Nat), f = s.fetched e r ∧ q = s.fetchedRun e r ∧ a = (r.reg (iRa w)).toNat ∧ d = (r.reg (iRb w)).toNat ∧ s.Issues e 0x2A00 r w) ∧
  (∃ (s : State) (f : State) (e : Nat) (r : Run) (q : Run) (w : Word) (a : Nat) (d : Nat) (ok : Bool) (t : State), f = s.fetched e r ∧ q = s.fetchedRun e r ∧ a = (r.reg (iRa w)).toNat ∧ d = (r.reg (iRb w)).toNat ∧ s.Issues e 0x2B00 r w ∧ f.complete e q 0 0 (r.reg (iRa w)) = (ok, t)) ∧
  (∃ (s : State) (f : State) (e : Nat) (r : Run) (q : Run) (w : Word) (a : Nat) (d : Nat) (st : Stall) (body : Body), f = s.fetched e r ∧ q = s.fetchedRun e r ∧ a = (r.reg (iRa w)).toNat ∧ d = (r.reg (iRb w)).toNat ∧ (s.eng e).run = some r ∧ r.stall = some st ∧ (st.kind < 3 → s.mer - st.since ≤ s.stallLimit) ∧ (instrCode r.word).bind stallBody = some body) ∧
  (∃ (s : State) (f : State) (e : Nat) (r : Run) (q : Run) (w : Word) (a : Nat) (d : Nat) (st : Stall), f = s.fetched e r ∧ q = s.fetchedRun e r ∧ a = (r.reg (iRa w)).toNat ∧ d = (r.reg (iRb w)).toNat ∧ (s.eng e).run = some r ∧ r.stall = some st ∧ s.stallLimit < s.mer - st.since ∧ s.eventCome e r st = false ∧ st.kind ≠ 2 ∧ st.kind ≠ 4) ∧
  (∃ (s : State) (f : State) (e : Nat) (r : Run) (q : Run) (w : Word) (a : Nat) (d : Nat) (st : Stall), f = s.fetched e r ∧ q = s.fetchedRun e r ∧ a = (r.reg (iRa w)).toNat ∧ d = (r.reg (iRb w)).toNat ∧ (s.eng e).run = some r ∧ r.stall = some st ∧ s.stallLimit < s.mer - st.since ∧ s.eventCome e r st = false ∧ st.kind = 4) ∧
  (∃ (s : State) (f : State) (e : Nat) (r : Run) (q : Run) (w : Word) (a : Nat) (d : Nat) (st : Stall) (reached : Bool), f = s.fetched e r ∧ q = s.fetchedRun e r ∧ a = (r.reg (iRa w)).toNat ∧ d = (r.reg (iRb w)).toNat ∧ (s.eng e).run = some r ∧ r.stall = some st ∧ s.stallLimit < s.mer - st.since ∧ s.eventCome e r st = false ∧ st.kind = 2 ∧ reached = false) ∧
  (∃ (s : State) (f : State) (e : Nat) (r : Run) (q : Run) (w : Word) (a : Nat) (d : Nat) (st : Stall) (reached : Bool), f = s.fetched e r ∧ q = s.fetchedRun e r ∧ a = (r.reg (iRa w)).toNat ∧ d = (r.reg (iRb w)).toNat ∧ (s.eng e).run = some r ∧ r.stall = some st ∧ s.stallLimit < s.mer - st.since ∧ s.eventCome e r st = false ∧ st.kind = 2 ∧ reached = true ∧ s.freshMay (r.reg (iRa r.word)).toNat r.work.item.tenant = true ∧ instrCode r.word = some 0x2301) ∧
  (∃ (s : State) (f : State) (e : Nat) (r : Run) (q : Run) (w : Word) (a : Nat) (d : Nat) (st : Stall) (reached : Bool), f = s.fetched e r ∧ q = s.fetchedRun e r ∧ a = (r.reg (iRa w)).toNat ∧ d = (r.reg (iRb w)).toNat ∧ (s.eng e).run = some r ∧ r.stall = some st ∧ s.stallLimit < s.mer - st.since ∧ s.eventCome e r st = false ∧ st.kind = 2 ∧ reached = true ∧ s.freshMay (r.reg (iRa r.word)).toNat r.work.item.tenant = true ∧ instrCode r.word = some 0x2302) :=
  ⟨⟨isaSt [] 0x93e10000 ({ isaRun [(1, 0x40000000), (2, 8)] with work := { (isaRun []).work with entry := [0, setF 0 PROGRAM_CODE_LEN 1, 0, 0, setF 0 PROGRAM_HLEN 1] } }), _, 0, { isaRun [(1, 0x40000000), (2, 8)] with work := { (isaRun []).work with entry := [0, setF 0 PROGRAM_CODE_LEN 1, 0, 0, setF 0 PROGRAM_HLEN 1] } }, _, 0x93e10000, _, _, rfl, rfl, rfl, rfl, ⟨by rfl, by rfl, by rfl, by decide⟩, by decide, by decide⟩,
   ⟨isaSt [(CIPH_LANEn 0, CIPH_LANEn_EN, 1), (DMEM 0 32, DMEM_WORD, 0x800000), (DMEM 0 37, DMEM_WORD, 0x10000000)] 0x93e10000 (isaRun [(1, 0x10000080)]), _, 0, isaRun [(1, 0x10000080)], _, 0x93e10000, _, _, _, _, _, _, _, _, rfl, rfl, rfl, rfl, ⟨by rfl, by rfl, by rfl, by decide⟩, by decide, by decide, by decide, rfl, by decide, by decide, by decide, rfl, by decide, by decide, rfl, rfl, rfl⟩,
   ⟨isaSt [(CIPH_LANEn 0, CIPH_LANEn_RESET, 1), (CIPH_LANEn 1, CIPH_LANEn_RESET, 1), (DMEM 0 32, DMEM_WORD, 0x800000), (DMEM 0 37, DMEM_WORD, 0x10000000)] 0x93e10000 (isaRun [(1, 0x10000080)]), _, 0, isaRun [(1, 0x10000080)], _, 0x93e10000, _, _, _, _, _, _, rfl, rfl, rfl, rfl, ⟨by rfl, by rfl, by rfl, by decide⟩, by decide, by decide, by decide, rfl, by decide, by decide, by decide, rfl, by decide, by decide, rfl, rfl, by decide⟩,
   ⟨isaSt [(CIPH_LANEn 0, CIPH_LANEn_EN, 0), (CIPH_LANEn 1, CIPH_LANEn_EN, 0), (DMEM 0 32, DMEM_WORD, 0x800000), (DMEM 0 37, DMEM_WORD, 0x10000000)] 0x93e10000 (isaRun [(1, 0x10000080)]), _, 0, isaRun [(1, 0x10000080)], _, 0x93e10000, _, _, _, _, _, _, rfl, rfl, rfl, rfl, ⟨by rfl, by rfl, by rfl, by decide⟩, by decide, by decide, by decide, rfl, by decide, by decide, by decide, rfl, by decide, by decide, rfl, rfl, by decide⟩,
   ⟨isaSt [] 0xa0011000 ({ isaRun [(1, 0x40000000), (2, 8)] with work := { (isaRun []).work with entry := [0, setF 0 PROGRAM_CODE_LEN 1, 0, 0, setF 0 PROGRAM_HLEN 1] } }), _, 0, { isaRun [(1, 0x40000000), (2, 8)] with work := { (isaRun []).work with entry := [0, setF 0 PROGRAM_CODE_LEN 1, 0, 0, setF 0 PROGRAM_HLEN 1] } }, _, 0xa0011000, _, _, rfl, rfl, rfl, rfl, ⟨by rfl, by rfl, by rfl, by decide⟩, by decide, by decide⟩,
   ⟨isaSt [(DMEM 0 56, DMEM_WORD, 2 ^ 27 + 64)] 0xa0011000 (isaRun [(1, 0x100000E0), (2, 0x10000000)]), _, 0, isaRun [(1, 0x100000E0), (2, 0x10000000)], _, 0xa0011000, _, _, 2^27+64, 64, 64, _, rfl, rfl, rfl, rfl, ⟨by rfl, by rfl, by rfl, by decide⟩, by decide, by decide, by decide, by decide, by decide, Or.inr (by decide), by decide, rfl, by decide, by decide, by decide⟩,
   ⟨isaSt [] 0xa4000000 (isaRun []), _, 0, isaRun [], _, 0xa4000000, _, _, rfl, rfl, rfl, rfl, ⟨by rfl, by rfl, by rfl, by decide⟩⟩,
   ⟨isaSt [] 0xa8000001 (isaRun []), _, 0, isaRun [], _, 0xa8000001, _, _, rfl, rfl, rfl, rfl, ⟨by rfl, by rfl, by rfl, by decide⟩⟩,
   ⟨isaSt [(PANEL_ENGe_STAT 0, PANEL_ENGe_STAT_CREDITS, 1)] 0xac010000 (isaRun [(1, 5), (2, 0x80000003)]), _, 0, isaRun [(1, 5), (2, 0x80000003)], _, 0xac010000, _, _, _, _, rfl, rfl, rfl, rfl, ⟨by rfl, by rfl, by rfl, by decide⟩, rfl⟩,
   ⟨isaSt [] 0x23e10000 ({ isaRun [(1, 0x40000000)] with stall := some { kind := 0, since := 0, step := 0 }, word := 0x23e10000 }), _, 0, { isaRun [(1, 0x40000000)] with stall := some { kind := 0, since := 0, step := 0 }, word := 0x23e10000 }, _, 0x23e10000, _, _, { kind := 0, since := 0 }, _, rfl, rfl, rfl, rfl, by decide, by decide, by decide, rfl⟩,
   ⟨{ isaSt [] 0x23e10000 ({ isaRun [(1, 0x40000000)] with stall := some { kind := 0, since := 0, step := 0 }, word := 0x23e10000 }) with mer := 250001 }, _, 0, { isaRun [(1, 0x40000000)] with stall := some { kind := 0, since := 0, step := 0 }, word := 0x23e10000 }, _, 0, _, _, { kind := 0, since := 0, step := 0 }, rfl, rfl, rfl, rfl, by decide, by decide, by decide, by decide, by decide, by decide⟩,
   ⟨{ isaSt [] 0x93e10000 ({ isaRun [(1, 0x40000000)] with stall := some { kind := 4, since := 0, step := 4 }, word := 0x93e10000 }) with mer := 250001 }, _, 0, { isaRun [(1, 0x40000000)] with stall := some { kind := 4, since := 0, step := 4 }, word := 0x93e10000 }, _, 0, _, _, { kind := 4, since := 0, step := 4 }, rfl, rfl, rfl, rfl, by decide, by decide, by decide, by decide, by decide⟩,
   ⟨{ isaSt [] 0x8fc00001 ({ isaRun [(1, 0x40000000)] with stall := some { kind := 2, since := 0, step := 0 }, word := 0x8fc00001 }) with mer := 250001 }, _, 0, { isaRun [(1, 0x40000000)] with stall := some { kind := 2, since := 0, step := 0 }, word := 0x8fc00001 }, _, 0, _, _, { kind := 2, since := 0, step := 0 }, false, rfl, rfl, rfl, rfl, by decide, by decide, by decide, by decide, by decide, by decide⟩,
   ⟨{ isaSt [(FRESH_OWNER 1023, FRESH_OWNER_ASSIGNED, 1), (FRESH 65535 + 8, FRESH_VALID, 1)] 0x8fc10001 ({ isaRun [(1, 65535)] with stall := some { kind := 2, since := 0 }, word := 0x8fc10001 }) with mer := 250001 }, _, 0, { isaRun [(1, 65535)] with stall := some { kind := 2, since := 0 }, word := 0x8fc10001 }, _, 0, _, _, { kind := 2, since := 0 }, true, rfl, rfl, rfl, rfl, by decide, by decide, by decide, by decide, by decide, by decide, by decide, by decide⟩,
   ⟨{ isaSt [(FRESH_OWNER 1023, FRESH_OWNER_ASSIGNED, 1), (FRESH 65535 + 8, FRESH_VALID, 1)] 0x8fc10002 ({ isaRun [(1, 65535)] with stall := some { kind := 2, since := 0 }, word := 0x8fc10002 }) with mer := 250001 }, _, 0, { isaRun [(1, 65535)] with stall := some { kind := 2, since := 0 }, word := 0x8fc10002 }, _, 0, _, _, { kind := 2, since := 0 }, true, rfl, rfl, rfl, rfl, by decide, by decide, by decide, by decide, by decide, by decide, by decide, by decide⟩⟩

/-! ### Witnesses of the statements of fragment 11 -/

set_option maxRecDepth 100000 in
theorem witness_BobbinCommandRegisterCommandsComplete :
  (∃ (s : State) (t : State) (u : State) (i : Iface) (b : Nat) (w : Word) (nw : Nat → Word), s.hostUp = true ∧ (nw = (fun k => s.newWord (ifaceNum i) (BOBBIN b) 0 k w)) ∧ t = (s.commitEntry (ifaceNum i) ⟨0x07000000, 128, 4096, 1, 1, 12, 0, false⟩ (BOBBIN b) w).setFld (bobWord b 2) BOBBIN_STACK (s.bobNewStack (nw 0) (nw 1)) ∧ u = t.setBobLoops b (t.fld (bobWord b 5) BOBBIN_LOOPS) ∧ s.bobRefuses b nw = false) ∧
  (∃ (s : State) (t : State) (u : State) (i : Iface) (b : Nat) (w : Word) (nw : Nat → Word), s.hostUp = true ∧ (nw = (fun k => s.newWord (ifaceNum i) (BOBBIN b) 0 k w)) ∧ t = (s.commitEntry (ifaceNum i) ⟨0x07000000, 128, 4096, 1, 1, 12, 0, false⟩ (BOBBIN b) w).setFld (bobWord b 2) BOBBIN_STACK (s.bobNewStack (nw 0) (nw 1)) ∧ u = t.setBobLoops b (t.fld (bobWord b 5) BOBBIN_LOOPS) ∧ s.bobRefuses b nw = true) ∧
  (∃ (s : State) (u : State) (v : State) (b : Nat), s.hostUp = true ∧ s.bobValid b = true ∧ s.powerState ≠ 2 ∧ (u = (if s.bobCapture b = true ∧ (s.bob b).ring = [] then s.setBob b { s.bob b with capSeq := 0 } else s)) ∧ v = s.releaseDue b ∧ s.bobState b = 0 ∧ s.lifecycle ≠ 4) ∧
  (∃ (s : State) (u : State) (v : State) (b : Nat), s.hostUp = true ∧ s.bobValid b = true ∧ s.powerState ≠ 2 ∧ (u = (if s.bobCapture b = true ∧ (s.bob b).ring = [] then s.setBob b { s.bob b with capSeq := 0 } else s)) ∧ v = s.releaseDue b ∧ s.bobState b = 0 ∧ s.lifecycle ≠ 4 ∧ s.bobCapture b = true) ∧
  (∃ (s : State) (u : State) (v : State) (b : Nat) (o : Option RingRec), s.hostUp = true ∧ s.bobValid b = true ∧ s.powerState ≠ 2 ∧ (u = (if s.bobCapture b = true ∧ (s.bob b).ring = [] then s.setBob b { s.bob b with capSeq := 0 } else s)) ∧ v = s.releaseDue b ∧ s.bobState b = 0 ∧ s.lifecycle ≠ 4 ∧ s.bobCapture b = false ∧ (o = ((s.bob b).ring.filter (fun r => r.isSeg && decide (r.id ≤ (s.bob b).pos))).getLast?)) ∧
  (∃ (s : State) (u : State) (v : State) (b : Nat), s.hostUp = true ∧ s.bobValid b = true ∧ s.powerState ≠ 2 ∧ (u = (if s.bobCapture b = true ∧ (s.bob b).ring = [] then s.setBob b { s.bob b with capSeq := 0 } else s)) ∧ v = s.releaseDue b ∧ s.bobState b = 1 ∧ v.bobState b = 1) ∧
  (∃ (s : State) (u : State) (v : State) (b : Nat), s.hostUp = true ∧ s.bobValid b = true ∧ s.powerState ≠ 2 ∧ (u = (if s.bobCapture b = true ∧ (s.bob b).ring = [] then s.setBob b { s.bob b with capSeq := 0 } else s)) ∧ v = s.releaseDue b ∧ s.bobState b = 2 ∧ s.bobCapture b = true) ∧
  (∃ (s : State) (u : State) (v : State) (b : Nat) (d : Nat), s.hostUp = true ∧ s.bobValid b = true ∧ s.powerState ≠ 2 ∧ (u = (if s.bobCapture b = true ∧ (s.bob b).ring = [] then s.setBob b { s.bob b with capSeq := 0 } else s)) ∧ v = s.releaseDue b ∧ s.bobState b = 2 ∧ s.bobCapture b = false ∧ d = (s.viewNow (s.bobTenant b) + 2 ^ 64 - (s.bob b).vp) % 2 ^ 64) ∧
  (∃ (s : State) (u : State) (v : State) (b : Nat), s.hostUp = true ∧ s.bobValid b = true ∧ s.powerState ≠ 2 ∧ (u = (if s.bobCapture b = true ∧ (s.bob b).ring = [] then s.setBob b { s.bob b with capSeq := 0 } else s)) ∧ v = s.releaseDue b ∧ s.bobState b ≠ 0) ∧
  (∃ (s : State) (u : State) (v : State) (b : Nat), s.hostUp = true ∧ s.bobValid b = true ∧ s.powerState ≠ 2 ∧ (u = (if s.bobCapture b = true ∧ (s.bob b).ring = [] then s.setBob b { s.bob b with capSeq := 0 } else s)) ∧ v = s.releaseDue b ∧ (s.bobState b = 0 ∨ s.bobState b = 3)) ∧
  (∃ (s : State) (b : Nat), s.hostUp = true ∧ s.bobState b ≠ 0) ∧
  (∃ (s : State) (b : Nat), s.hostUp = true ∧ s.bobState b ≠ 1) ∧
  (∃ (s : State) (b : Nat), s.hostUp = true ∧ s.bobState b ≠ 2) ∧
  (∃ (s : State) (b : Nat), s.hostUp = true ∧ s.bobState b = 0) ∧
  (∃ (s : State) (b : Nat), s.hostUp = true ∧ s.bobState b ≠ 0 ∧ s.bobState b ≠ 3) ∧
  (∃ (s : State) (b : Nat), s.bobState b = 1) :=
  ⟨⟨(((st [(PORT_CFGn 3, PORT_CFGn_BOUND, 1)]).stageWord 0 (bobWord 4095 3) (setF 0 BOBBIN_SIZE 1)).stageWord 0 (bobWord 4095 7) (setF 0 BOBBIN_CAP_SRC 3)).stageWord 0 (bobWord 4095 1) (setF 0 BOBBIN_TARGET 3), _, _, .pcie, 4095, setF 0 BOBBIN_KIND 1, _, by decide, rfl, rfl, rfl, by decide⟩,
   ⟨st [], _, _, .pcie, 4095, 0, _, by decide, rfl, rfl, rfl, by decide⟩,
   ⟨st [(BOBBIN 4095, BOBBIN_VALID, 1)], _, _, 4095, by decide, by decide, by decide, rfl, rfl, by decide, by decide⟩,
   ⟨st [(BOBBIN 4095, BOBBIN_VALID, 1), (BOBBIN 4095, BOBBIN_KIND, 1)], _, _, 4095, by decide, by decide, by decide, rfl, rfl, by decide, by decide, by decide⟩,
   ⟨(st [(BOBBIN 4095, BOBBIN_VALID, 1)]).setBob 4095 { BobSt.reset with ring := [{ id := 0, off := 0, units := 2, hdr := [0xC0], data := [], written := true, gone := false, at_ := 0 }] }, _, _, 4095, _, by decide, by decide, by decide, rfl, rfl, by decide, by decide, by decide, rfl⟩,
   ⟨st [(BOBBIN 4095, BOBBIN_VALID, 1), (bobWord 4095 16, BOBBIN_STATE, 1)], _, _, 4095, by decide, by decide, by decide, rfl, rfl, by decide, by decide⟩,
   ⟨st [(BOBBIN 4095, BOBBIN_VALID, 1), (BOBBIN 4095, BOBBIN_KIND, 1), (bobWord 4095 16, BOBBIN_STATE, 2)], _, _, 4095, by decide, by decide, by decide, rfl, rfl, by decide, by decide⟩,
   ⟨st [(BOBBIN 4095, BOBBIN_VALID, 1), (bobWord 4095 16, BOBBIN_STATE, 2)], _, _, 4095, _, by decide, by decide, by decide, rfl, rfl, by decide, by decide, rfl⟩,
   ⟨st [(BOBBIN 4095, BOBBIN_VALID, 1), (bobWord 4095 16, BOBBIN_STATE, 3)], _, _, 4095, by decide, by decide, by decide, rfl, rfl, by decide⟩,
   ⟨st [(BOBBIN 4095, BOBBIN_VALID, 1), (bobWord 4095 16, BOBBIN_STATE, 3)], _, _, 4095, by decide, by decide, by decide, rfl, rfl, Or.inr (by decide)⟩,
   ⟨st [(BOBBIN 4095, BOBBIN_VALID, 1), (bobWord 4095 16, BOBBIN_STATE, 1)], 4095, by decide, by decide⟩,
   ⟨st [(BOBBIN 4095, BOBBIN_VALID, 1), (bobWord 4095 16, BOBBIN_STATE, 2)], 4095, by decide, by decide⟩,
   ⟨st [(BOBBIN 4095, BOBBIN_VALID, 1), (bobWord 4095 16, BOBBIN_STATE, 1)], 4095, by decide, by decide⟩,
   ⟨st [(BOBBIN 4095, BOBBIN_VALID, 1), (bobWord 4095 16, BOBBIN_STATE, 0)], 4095, by decide, by decide⟩,
   ⟨st [(BOBBIN 4095, BOBBIN_VALID, 1), (bobWord 4095 16, BOBBIN_STATE, 2)], 4095, by decide, by decide, by decide⟩,
   ⟨st [(BOBBIN 4095, BOBBIN_VALID, 1), (bobWord 4095 16, BOBBIN_STATE, 1)], 4095, by decide⟩⟩

set_option maxRecDepth 100000 in
theorem witness_BobbinDataCommandsComplete :
  (∃ (s : State) (t : State) (it : Item) (rest : List Item) (h : List Byte) (recs : List (List Byte × List Byte)) (b : Nat) (wseq : Nat) (d : Nat), s.windIn = it :: rest ∧ t = { s with windIn := rest } ∧ windParse it = some (h, recs) ∧ b = beAt h 2 2 % 4096 ∧ wseq = beAt h 4 2 ∧ t.bobValid b = true ∧ t.bobCapture b = false ∧ t.bobTenant b = it.tenant ∧ d = (t.fld (bobWord b 18) BOBBIN_WNEXT + 65536 - wseq) % 65536 ∧ ((oct h 1).testBit 7 = true ∧ (t.bob b).ring = [] ∨ wseq = t.fld (bobWord b 18) BOBBIN_WNEXT ∧ (t.bob b).needRst = false) ∧ windFilter (t.bob b).ctx recs = none) ∧
  (∃ (s : State) (t : State) (u : State) (v : State) (it : Item) (rest : List Item) (h : List Byte) (recs : List (List Byte × List Byte)) (b : Nat) (wseq : Nat) (n : Nat) (d : Nat) (keep : List (List Byte × List Byte)) (bad : Nat), s.windIn = it :: rest ∧ t = { s with windIn := rest } ∧ windParse it = some (h, recs) ∧ b = beAt h 2 2 % 4096 ∧ wseq = beAt h 4 2 ∧ t.bobValid b = true ∧ t.bobCapture b = false ∧ t.bobTenant b = it.tenant ∧ d = (t.fld (bobWord b 18) BOBBIN_WNEXT + 65536 - wseq) % 65536 ∧ ((oct h 1).testBit 7 = true ∧ (t.bob b).ring = [] ∨ wseq = t.fld (bobWord b 18) BOBBIN_WNEXT ∧ (t.bob b).needRst = false) ∧ windFilter (t.bob b).ctx recs = some (keep, bad) ∧ (n = keep.foldl (fun a p => a + recUnits p.1) 0) ∧ ringUnits (t.bob b).ring + n ≤ t.bobCap b ∧ t.winderLoad (t.bobStack b) + 16 * n ≤ 4 * 1048576 ∧ v = t.ringAppend b false keep ∧ (u = (((v.setBob b { v.bob b with needRst := false, lastSeg := (t.bob b).lastSeg || keep.any (fun p => recType p.1 == 3 && segLast p.1) }).setFld (bobWord b 18) BOBBIN_WNEXT ((wseq + 1) % 65536)).bobCount b 5))) ∧
  (∃ (s : State) (t : State) (it : Item) (rest : List Item) (h : List Byte) (recs : List (List Byte × List Byte)) (b : Nat) (wseq : Nat) (d : Nat), s.windIn = it :: rest ∧ t = { s with windIn := rest } ∧ windParse it = some (h, recs) ∧ b = beAt h 2 2 % 4096 ∧ wseq = beAt h 4 2 ∧ t.bobValid b = true ∧ t.bobCapture b = false ∧ t.bobTenant b = it.tenant ∧ d = (t.fld (bobWord b 18) BOBBIN_WNEXT + 65536 - wseq) % 65536 ∧ ((oct h 1).testBit 7 = false ∨ (t.bob b).ring ≠ []) ∧ (wseq ≠ t.fld (bobWord b 18) BOBBIN_WNEXT ∨ (t.bob b).needRst = true)) ∧
  (∃ (s : State) (t : State) (die : Nat) (j : FillJob) (rest : List FillJob), s.fills die = j :: rest ∧ t = s.setFills die rest) ∧
  (∃ (s : State) (u : State) (v : State) (x : State) (b : Nat) (p : Nat) (m : Nat) (c : Nat) (r : RingRec) (it : Item), s.bobValid b = true ∧ s.bobCapture b = false ∧ s.bobState b = 1 ∧ (s.bob b).ring.find? (fun r => decide ((s.bob b).pos ≤ r.id)) = some r ∧ r.written = true ∧ r.isSeg = false ∧ u = s.setFld (bobWord b 16) BOBBIN_STARVED 0 ∧ p = u.bobPanel b ∧ (u.bob b).skip = false ∧ u.poolBad b r = false ∧ ((u.bob b).crossed = true → newerSeq (u.bobLastSeq b) (recSeq r.hdr) = true) ∧ recFits (u.bobDkind b) (recType r.hdr) = true ∧ m = u.releaseTick (u.bobTenant b) ((recRt r.hdr + u.bobShift b) % 2 ^ 64) ∧ m ≤ u.mer + stageLead u b ∧ it = u.recItem b r ∧ c = cellsOf it.stored ∧ (if stageCells u b < c then (u.bob b).held = 0 else (u.bob b).held < stageCells u b) ∧ u.fld (CORE_PNLp_STAGE p) CORE_PNLp_STAGE_STAGE_USE < u.fld (CORE_PNLp_STAGE p) CORE_PNLp_STAGE_STAGE_MAX ∧ c ≤ u.sharedFree p ∧ u.mayStage (panelDie p) = true ∧ v = (u.poolRead b r).staged (panelDie p) (16 * r.units) ∧ ((m < v.mer → v.fld (bobWord b 5) BOBBIN_LATE_MAX = 65535 ∨ v.mer - m ≤ v.fld (bobWord b 5) BOBBIN_LATE_MAX * usTicks)) ∧ x = (v.setBob b { v.bob b with pos := r.id + 1 }).setBobLastSeq b (recSeq r.hdr)) ∧
  (∃ (s : State) (t : State) (u : State) (b : Nat) (m : Nat) (r : Staged) (x : Staged), s.releasable b = some r ∧ (t = (s.bobs.filter (fun p => decide (p.1 < b))).foldl (fun t p => t.releaseUpTo p.1 (s.stagedTick b r) (t.bob p.1).staged.length) s) ∧ t.releasable b = some x ∧ m = t.stagedTick b x ∧ u = (((t.setBob b { t.bob b with staged := (t.bob b).staged.tail, relId := x.id, relSeq := x.seq }).bobCount b 0).obs (t.bobPanel b) 0x090 1 (some (t.bobTenant b))).histSample 4 (t.bobPanel b) b (m - t.stagedDue b x) (some (t.bobTenant b))) ∧
  (∃ (s : State) (b : Nat) (n : Nat) (d : Dest) (first : RingRec) (more : List RingRec) (it : Item), s.unwindReady b = true ∧ s.unwindTake b = first :: more ∧ ((s.unwindFull b (first :: more) = true ∨ first.at_ + 100 * usTicks ≤ s.mer)) ∧ n = s.bobTarget b ∧ it = s.unwindItem b (first :: more) ∧ d = .port n (s.queueOf it n) ∧ s.admits d.panel (s.sharedFree d.panel) (cellsOf it.stored) false false d = true) ∧
  (∃ (s : State) (b : Nat) (n : Nat) (d : Dest) (first : RingRec) (more : List RingRec) (it : Item), s.unwindReady b = true ∧ s.unwindTake b = first :: more ∧ ((s.unwindFull b (first :: more) = true ∨ first.at_ + 100 * usTicks ≤ s.mer)) ∧ n = s.bobTarget b ∧ it = s.unwindItem b (first :: more) ∧ d = .port n (s.queueOf it n) ∧ s.admits d.panel (s.sharedFree d.panel) (cellsOf it.stored) false false d = false) :=
  ⟨⟨{ st [(BOBBIN 4095, BOBBIN_VALID, 1), (bobWord 4095 3, BOBBIN_SIZE, 1)] with windIn := [{ Item.blank with data := List.replicate 14 0 ++ [0x10, 0x80, 0x0F, 0xFF, 0, 0, 0, 1, 0, 32] ++ List.replicate 6 0 ++ ([0xC0] ++ List.replicate 22 0 ++ [0] ++ List.replicate 8 0) }] }, _, { Item.blank with data := List.replicate 14 0 ++ [0x10, 0x80, 0x0F, 0xFF, 0, 0, 0, 1, 0, 32] ++ List.replicate 6 0 ++ ([0xC0] ++ List.replicate 22 0 ++ [0] ++ List.replicate 8 0) }, [], _, _, 4095, 0, _, by decide, rfl, rfl, rfl, by decide, by decide, by decide, by decide, rfl, Or.inr (by decide), by decide⟩,
   ⟨{ st [(BOBBIN 4095, BOBBIN_VALID, 1), (bobWord 4095 3, BOBBIN_SIZE, 1)] with windIn := [{ Item.blank with data := List.replicate 14 0 ++ [0x10, 0x80, 0x0F, 0xFF, 0, 0, 0, 1, 0, 32] ++ List.replicate 6 0 ++ ([0xC0] ++ List.replicate 22 0 ++ [1] ++ List.replicate 8 0) }] }, _, _, _, { Item.blank with data := List.replicate 14 0 ++ [0x10, 0x80, 0x0F, 0xFF, 0, 0, 0, 1, 0, 32] ++ List.replicate 6 0 ++ ([0xC0] ++ List.replicate 22 0 ++ [1] ++ List.replicate 8 0) }, [], _, _, 4095, 0, _, _, _, _, by decide, rfl, rfl, rfl, by decide, by decide, by decide, by decide, rfl, Or.inr (by decide), rfl, rfl, by decide, by decide, rfl, rfl⟩,
   ⟨{ st [(BOBBIN 4095, BOBBIN_VALID, 1), (bobWord 4095 3, BOBBIN_SIZE, 1)] with windIn := [{ Item.blank with data := List.replicate 14 0 ++ [0x10, 0, 0x0F, 0xFF, 0, 7, 0, 1, 0, 32] ++ List.replicate 6 0 ++ ([0xC0] ++ List.replicate 22 0 ++ [1] ++ List.replicate 8 0) }] }, _, { Item.blank with data := List.replicate 14 0 ++ [0x10, 0, 0x0F, 0xFF, 0, 7, 0, 1, 0, 32] ++ List.replicate 6 0 ++ ([0xC0] ++ List.replicate 22 0 ++ [1] ++ List.replicate 8 0) }, [], _, _, 4095, 7, _, by decide, rfl, rfl, rfl, by decide, by decide, by decide, by decide, rfl, Or.inl (by decide), Or.inl (by decide)⟩,
   ⟨{ st [] with winder := [(1, [{ bob := 4095, last := 1, octets := 32, src := none }])] }, _, 1, { bob := 4095, last := 1, octets := 32, src := none }, [], by decide, rfl⟩,
   ⟨(st [(BOBBIN 4095, BOBBIN_VALID, 1), (bobWord 4095 16, BOBBIN_STATE, 1), (CORE_PNLp_STAGE 0, CORE_PNLp_STAGE_STAGE_MAX, 8)]).setBob 4095 { BobSt.reset with ring := [{ id := 0, off := 0, units := 3, hdr := [0, 14], data := List.replicate 14 0, written := true, gone := false, at_ := 0 }] }, _, _, _, 4095, _, _, _, { id := 0, off := 0, units := 3, hdr := [0, 14], data := List.replicate 14 0, written := true, gone := false, at_ := 0 }, _, by decide, by decide, by decide, by decide, by decide, by decide, rfl, rfl, by decide, by decide, by decide, by decide, rfl, by decide, rfl, rfl, by decide, by decide, by decide, by decide, rfl, by decide, rfl⟩,
   ⟨(st [(BOBBIN 4095, BOBBIN_VALID, 1), (bobWord 4095 16, BOBBIN_STATE, 1)]).setBob 4095 { BobSt.reset with staged := [{ id := 0, seq := 0, rtEff := 0, item := Item.blank, cells := 1, late := false }] }, _, _, 4095, _, { id := 0, seq := 0, rtEff := 0, item := Item.blank, cells := 1, late := false }, { id := 0, seq := 0, rtEff := 0, item := Item.blank, cells := 1, late := false }, by decide, rfl, by decide, rfl, rfl⟩,
   ⟨{ ((st [(BOBBIN 4095, BOBBIN_VALID, 1), (BOBBIN 4095, BOBBIN_KIND, 1), (BOBBIN 4095, BOBBIN_UNW_EN, 1), (bobWord 4095 1, BOBBIN_TARGET, 1023)])).setBob 4095 { BobSt.reset with ring := [{ id := 0, off := 0, units := 3, hdr := [0, 14], data := List.replicate 14 0, written := true, gone := false, at_ := 0 }] } with mer := 1000000 }, 4095, _, _, { id := 0, off := 0, units := 3, hdr := [0, 14], data := List.replicate 14 0, written := true, gone := false, at_ := 0 }, [], _, by decide, by decide, Or.inr (by decide), rfl, rfl, rfl, by decide⟩,
   ⟨{ ((st [(BOBBIN 4095, BOBBIN_VALID, 1), (BOBBIN 4095, BOBBIN_KIND, 1), (BOBBIN 4095, BOBBIN_UNW_EN, 1), (bobWord 4095 1, BOBBIN_TARGET, 1023)]).setShared 15 0).setBob 4095 { BobSt.reset with ring := [{ id := 0, off := 0, units := 3, hdr := [0, 14], data := List.replicate 14 0, written := true, gone := false, at_ := 0 }] } with mer := 1000000 }, 4095, _, _, { id := 0, off := 0, units := 3, hdr := [0, 14], data := List.replicate 14 0, written := true, gone := false, at_ := 0 }, [], _, by decide, by decide, Or.inr (by decide), rfl, rfl, rfl, by decide⟩⟩

/-! ### Witnesses of the statements of fragment 12 -/

theorem witness_CipherLaneCommandsComplete :
  (∃ (s : State) (v : State) (n : Nat) (q : CiphReq) (rest : List CiphReq), (s.lane n).reqs = q :: rest ∧ s.flag (CIPH_LANEn n) CIPH_LANEn_RESET = false ∧ v = (s.serve n q).2.2.histSample 5 (n / 2) n (s.mer - q.accepted) (some q.tenant)) ∧
  (∃ (s : State) (t : State) (u : State) (v : State) (w : State) (n : Nat) (cause : Nat) (recent : List Nat) (log : List (Nat × Nat)), (recent = ((s.lane n).alarms.filter (fun a => decide (s.mer < a + 1000 * msTicks))) ++ [s.mer]) ∧ (log = (s.laneAlarms.filter (fun p => p.1 != n && decide (s.mer < p.2 + msTicks))) ++ [(n, s.mer)]) ∧ t = (s.loseRequests n).laneCount n 5 ∧ u = (((((t.setLane n { t.lane n with alarms := recent, cache := [] }).setFld (CIPH_LANEn n) CIPH_LANEn_RESET 1).setFld (CIPH_LANEn n) CIPH_LANEn_LAST_ALM cause).setFld (CIPH_LANEn n) CIPH_LANEn_ALM_1S (min recent.length 255)).setFld CIPH_EVT CIPH_EVT_LANE_ALM 1).log 397 n [cause] ∧ (v = (if u.fld CIPH_CTRL CIPH_CTRL_ALM_LIMIT < recent.length ∧ u.fld CIPH_CTRL CIPH_CTRL_ALM_LIMIT ≠ 0 then ((u.setFld (CIPH_LANEn n) CIPH_LANEn_EN 0).setFld (CIPH_LANEn n) CIPH_LANEn_ALM_DIS 1).setFld CIPH_EVT CIPH_EVT_LANE_DIS 1 else u)) ∧ w = { v with laneAlarms := log }) ∧
  (∃ (s : State) (t : State) (i : Iface) (n : Nat) (w : Word), s.hostUp = true ∧ t = s.typedWrite i (CIPH_LANEn n) w) ∧
  (∃ (s : State), s.powerState ≠ 3) ∧
  (∃ (s : State) (t : State) (u : State) (x : Nat) (times : List Nat), t = ((s.bumpSat (CIPH_PROOFu x) CIPH_PROOFu_MISMATCHES).setFld CIPH_EVT CIPH_EVT_PROOF_MISMATCH 1).log 396 x ∧ (times = (s.proofTimes.filter (fun a => decide (s.mer < a + msTicks))) ++ [s.mer]) ∧ u = { t with proofTimes := times } ∧ times.length < 4 ∧ (x ≠ 1 ∨ s.kumQueue = [])) ∧
  (∃ (s : State) (t : State) (u : State) (x : Nat) (times : List Nat) (m : KumMsg) (rest : List KumMsg), t = ((s.bumpSat (CIPH_PROOFu x) CIPH_PROOFu_MISMATCHES).setFld CIPH_EVT CIPH_EVT_PROOF_MISMATCH 1).log 396 x ∧ (times = (s.proofTimes.filter (fun a => decide (s.mer < a + msTicks))) ++ [s.mer]) ∧ u = { t with proofTimes := times } ∧ times.length < 4 ∧ x = 1 ∧ s.kumQueue = m :: rest ∧ m.src < 3) :=
  ⟨⟨(st []).setLane 31 { reqs := [{ engine := 127, op := 0, alg := 0, tbits := 128, slot := 4095, aad := [], data := [], nonce := [], rxTag := [], tenant := 0, stamp := 0, accepted := 0 , keys := []}], alarms := [] }, _, 31, { engine := 127, op := 0, alg := 0, tbits := 128, slot := 4095, aad := [], data := [], nonce := [], rxTag := [], tenant := 0, stamp := 0, accepted := 0 , keys := []}, [], by decide, by decide, rfl⟩,
   ⟨st [], _, _, _, _, 31, 3, _, _, rfl, rfl, rfl, rfl, rfl, rfl⟩,
   ⟨st [], _, .pcie, 31, setF 0 CIPH_LANEn_EN 1, by decide, rfl⟩,
   ⟨st [], by decide⟩,
   ⟨st [], _, _, 3, _, rfl, rfl, rfl, by decide, Or.inl (by decide)⟩,
   ⟨{ st [] with kumQueue := [{ src := 2, octets := [] }] }, _, _, 1, _, { src := 2, octets := [] }, [], rfl, rfl, rfl, by decide, by decide, by decide, by decide⟩⟩

theorem witness_KeyStoreCommandsComplete :
  (∃ (s : State) (t : State) (i : Iface) (a : Nat) (k : Nat) (w : Word), ((i = .pcie ∧ a = KEYS_KUMCMD0 ∧ k = 0 ∨ i = .spi ∧ a = KEYS_KUMCMD1 ∧ k = 1)) ∧ s.hostUp = true ∧ t = s.typedWrite i a w ∧ s.flag a KEYS_KUMCMD0_BUSY = false ∧ getB w KEYS_KUMCMD0_SUBMIT = true) ∧
  (∃ (s : State) (t : State) (u : State) (ok : Bool) (m : KumMsg) (rest : List KumMsg) (r : Nat) (j : Nat), s.kumQueue = m :: rest ∧ s.kumJudge m.octets ok = (r, j, t) ∧ u = (State.showQueue { t with kumQueue := rest }).kumResult m.src r j) ∧
  (∃ (s : State) (t : State) (u : State), s.lifecycle ≠ 4 ∧ s.flag CIPH_STAT CIPH_STAT_READY = false ∧ (s.fld ECC_INIT ECC_INIT_DONE).testBit 6 = true ∧ t = (if s.keyMram.tamper = true then { s with keyMram := { s.keyMram with blob0 := none, blob1 := none, tamper := false } } else s) ∧ (u = (match t.keyMram.pick with | some b => State.showFill (b.attrs.foldl (fun (x : State) (p : Nat × Word) => x.wr p.1 p.2) { t with keyMat := b.keys }) | none => ((t.setFld CIPH_STAT CIPH_STAT_RESTORE_ERR 1).setFld CIPH_EVT CIPH_EVT_RESTORE_ERR 1).log 385 0))) :=
  ⟨⟨st [], _, .spi, KEYS_KUMCMD1, 1, setF 0 KEYS_KUMCMD0_SUBMIT 1, by decide, by decide, rfl, by decide, by decide⟩,
   ⟨{ st [] with kumQueue := [{ src := 2, octets := [] }] }, _, _, true, { src := 2, octets := [] }, [], _, _, by decide, rfl, rfl⟩,
   ⟨{ st [(ECC_INIT, ECC_INIT_DONE, 127)] with keyMram := { State.reset.keyMram with blob1 := some { gen := 1, counter := 1, attrs := [], keys := [], sound := true } } }, _, _, by decide, by decide, by decide, rfl, rfl⟩⟩

/-! ### Witnesses of the statements of fragment 13 -/

set_option maxRecDepth 100000 in
theorem witness_TransactionCommandsComplete :
  (∃ (s : State) (pdu : List Byte), s.paired = true ∧ s.isTwinB = false ∧ s.seamUp = true ∧ s.writeCheck 3 (pduBody pdu) = 0 ∧ writeRefused (s.writeRun 0 3 (pduBody pdu) none) = false) ∧
  (∃ (s : State) (pdu : List Byte) (c : Nat), s.paired = true ∧ s.isTwinB = false ∧ s.seamUp = true ∧ c = s.writeCheck 3 (pduBody pdu) ∧ ((c ≠ 0 ∨ writeRefused (s.writeRun 0 3 (pduBody pdu) none) = true))) ∧
  (∃ (s : State) (t : State) (c : Nat) (pdu : List Byte) (own : Option Txn), s.paired = true ∧ s.isTwinB = true ∧ s.seamUp = true ∧ c = (if s.writeCheck 3 (pduBody pdu) ≠ 0 then s.writeCheck 3 (pduBody pdu) else if writeRefused (s.writeRun 0 3 (pduBody pdu) none) = true then (s.writeRun 0 3 (pduBody pdu) none).1 else 0) ∧ (own = s.sm.txns.find? (fun t => t.body == pdu)) ∧ t = (match own with | some x => s.setTxns (s.sm.txns.erase x) | none => s)) ∧
  (∃ (s : State) (num : Nat) (x : Txn), (s.sm.txns.find? (fun x => x.num == num) = some x) ∧ s.paired = true ∧ s.isTwinB = false) ∧
  (∃ (s : State) (num : Nat) (status : Nat) (x : Txn), (s.sm.txns.find? (fun x => x.num == num) = some x) ∧ s.paired = true ∧ s.isTwinB = false ∧ status ≠ 0) ∧
  (∃ (s : State) (num : Nat) (x : Txn), (s.sm.prepared.find? (fun x => x.num == num) = some x) ∧ s.paired = true ∧ s.isTwinB = true ∧ s.seamUp = true) ∧
  (∃ (s : State) (num : Nat) (x : Txn), (s.sm.prepared.find? (fun x => x.num == num) = some x) ∧ s.paired = true ∧ s.isTwinB = true) ∧
  (∃ (s : State) (x : Txn) (l : List Txn), (s.sm.prepared.find? (fun x => x.num == 0) = none) ∧ s.sm.txns = x :: l ∧ s.paired = true ∧ s.isTwinB = true) ∧
  (∃ (s : State) (x : Txn) (l : List Txn), s.sm.txns = x :: l ∧ s.isTwinB = false ∧ x.at_ + 200 * usTicks ≤ s.mer) ∧
  (∃ (s : State), s.seamState = 5) :=
  ⟨⟨{ (st [(SEAM_CTRL, SEAM_CTRL_EN, 1), (SEAM_STAT, SEAM_STAT_UP, 1)]) with node := .config }, tPdu 0x11 1 (tWr 0x80 2 [0, 1]), by decide, by decide, by decide, by decide, by decide⟩,
   ⟨{ (st [(SEAM_CTRL, SEAM_CTRL_EN, 1), (SEAM_STAT, SEAM_STAT_UP, 1)]) with node := .config }, tPdu 0x11 1 (tWr 0x7FFF 2 [0, 7]), _, by decide, by decide, by decide, rfl, by decide⟩,
   ⟨{ (st [(SEAM_CTRL, SEAM_CTRL_EN, 1), (SEAM_STAT, SEAM_STAT_UP, 1), (SEAM_STAT, SEAM_STAT_ROLE, 1)]) with node := .config }, _, _, tPdu 0x11 1 (tWr 0x80 2 [0, 1]), _, by decide, by decide, by decide, rfl, rfl, rfl⟩,
   ⟨{ (st [(SEAM_CTRL, SEAM_CTRL_EN, 1)]) with sm := { SeamSt.reset with txns := [tTxn] } }, 1, tTxn, by decide, by decide, by decide⟩,
   ⟨{ (st [(SEAM_CTRL, SEAM_CTRL_EN, 1)]) with sm := { SeamSt.reset with txns := [tTxn] } }, 1, 7, tTxn, by decide, by decide, by decide, by decide⟩,
   ⟨{ (st [(SEAM_CTRL, SEAM_CTRL_EN, 1), (SEAM_STAT, SEAM_STAT_UP, 1), (SEAM_STAT, SEAM_STAT_ROLE, 1)]) with sm := { SeamSt.reset with prepared := [tTxn] } }, 1, tTxn, by decide, by decide, by decide, by decide⟩,
   ⟨{ (st [(SEAM_CTRL, SEAM_CTRL_EN, 1), (SEAM_STAT, SEAM_STAT_ROLE, 1)]) with sm := { SeamSt.reset with prepared := [tTxn] } }, 1, tTxn, by decide, by decide, by decide⟩,
   ⟨{ (st [(SEAM_CTRL, SEAM_CTRL_EN, 1), (SEAM_STAT, SEAM_STAT_ROLE, 1)]) with sm := { SeamSt.reset with txns := [tTxn], prepared := [tTxn] } }, tTxn, [], by decide, by decide, by decide, by decide⟩,
   ⟨{ (st [(SEAM_CTRL, SEAM_CTRL_EN, 1)]) with sm := { SeamSt.reset with txns := [tTxn] }, mer := 200 * usTicks }, tTxn, [], by decide, by decide, by decide⟩,
   ⟨st [(SEAM_STAT, SEAM_STAT_STATE, 5)], by decide⟩⟩

set_option maxRecDepth 100000 in
theorem witness_SeamBringUpCommandsComplete :
  (∃ (s : State) (t : State) (i : Iface) (w : Word), s.hostUp = true ∧ t = s.typedWrite i SEAM_CTRL w ∧ t.paired = true) ∧
  (∃ (s : State) (t : State) (i : Iface) (w : Word), s.hostUp = true ∧ t = s.typedWrite i SEAM_CTRL w ∧ t.paired = false ∧ t.flag SEAM_STAT SEAM_STAT_SPLIT = false ∧ t.flag SEAM_STAT SEAM_STAT_TWIN_DOWN = false ∧ s.seamState = 0) ∧
  (∃ (s : State), s.hostUp = true ∧ s.paired = true ∧ s.seamState ≠ 0) ∧
  (∃ (s : State), s.seamState = 1) ∧
  (∃ (s : State) (t : State) (k : Nat) (o : List Byte), 2 ≤ s.seamState ∧ s.seamLane k = 0 ∧ markPattern o = markWant ∧ markSelf o = true ∧ oct o 3 / 128 = laneGroup k ∧ t = s.setFld (SEAM_LANEk k) SEAM_LANEk_LSTATE 1) ∧
  (∃ (s : State) (t : State) (u : State) (k : Nat) (n : Nat) (o : List Byte) (bip : Bool), 2 ≤ s.seamState ∧ s.seamLane k = 1 ∧ markPattern o = markWant ∧ markSelf o = true ∧ oct o 3 / 128 = laneGroup k ∧ oct o 3 / 16 % 8 = s.fld (SEAM_LANEk k) SEAM_LANEk_L ∧ t = (if bip = true then s else s.bumpSat (SEAM_LANEk k) SEAM_LANEk_BIP_ERR) ∧ (n = Sparse.get (fun _ => 0) t.sm.run k + 1) ∧ (u = { t with sm := { t.sm with run := Sparse.set (fun _ => 0) t.sm.run k n, missed := Sparse.set (fun _ => 0) t.sm.missed k 0 } })) ∧
  (∃ (s : State) (t : State) (k : Nat) (o : List Byte) (bip : Bool), 2 ≤ s.seamState ∧ s.seamLane k = 2 ∧ ones 48 (markPattern o ^^^ markWant) ≤ 6 ∧ oct o 3 / 16 = 8 * laneGroup k + s.fld (SEAM_LANEk k) SEAM_LANEk_L ∧ t = (if bip = true then s else s.bumpSat (SEAM_LANEk k) SEAM_LANEk_BIP_ERR)) ∧
  (∃ (s : State) (g : Nat) (skew : Nat), (List.range 8).all (fun i => s.seamLane (8 * g + i) == 2) = true ∧ ((List.range 8).map (fun i => s.fld (SEAM_LANEk (8 * g + i)) SEAM_LANEk_L)).eraseDups.length = 8 ∧ skew ≤ 512) ∧
  (∃ (s : State) (g : Nat) (skew : Nat), (List.range 8).all (fun i => s.seamLane (8 * g + i) == 2) = true ∧ ((List.range 8).map (fun i => s.fld (SEAM_LANEk (8 * g + i)) SEAM_LANEk_L)).eraseDups.length = 8 ∧ 512 < skew) ∧
  (∃ (s : State), s.seamState = 2 ∧ s.sm.since + 10 * msTicks ≤ s.mer) ∧
  (∃ (s : State) (t : State) (u : State) (g : Nat) (cls : Nat) (cnt : Nat) (k : Nat) (o : List Byte) (pay : List Byte) (whole : List Byte), s.sm.aligned.contains g = true ∧ (pay = (descramble (Sparse.get (fun _ => 0) s.sm.scr g) (slice o 1 31)).1) ∧ cls = oct o 0 / 32 % 2 ∧ cnt = oct o 0 % 32 ∧ k = 2 * g + cls ∧ (t = { s with sm := { s.sm with scr := Sparse.set (fun _ => 0) s.sm.scr g (descramble (Sparse.get (fun _ => 0) s.sm.scr g) (slice o 1 31)).2 } }) ∧ whole = (t.openPkt k).getD [] ++ pay.take (cnt + 1) ∧ u = (t.setOpenPkt k none).seamCount (if cls = 0 then 7 else 1)) ∧
  (∃ (s : State) (t : State) (u : State) (g : Nat) (cls : Nat) (cnt : Nat) (k : Nat) (o : List Byte) (pay : List Byte) (whole : List Byte), s.sm.aligned.contains g = true ∧ (pay = (descramble (Sparse.get (fun _ => 0) s.sm.scr g) (slice o 1 31)).1) ∧ cls = oct o 0 / 32 % 2 ∧ cnt = oct o 0 % 32 ∧ k = 2 * g + cls ∧ (t = { s with sm := { s.sm with scr := Sparse.set (fun _ => 0) s.sm.scr g (descramble (Sparse.get (fun _ => 0) s.sm.scr g) (slice o 1 31)).2 } }) ∧ whole = (t.openPkt k).getD [] ++ pay.take (cnt + 1) ∧ u = (t.setOpenPkt k none).seamCount (if cls = 0 then 7 else 1) ∧ oct o 0 / 64 = 0 ∧ cls = 0 ∧ cnt = 0) ∧
  (∃ (s : State) (t : State) (u : State) (g : Nat) (cls : Nat) (cnt : Nat) (k : Nat) (o : List Byte) (pay : List Byte) (whole : List Byte), s.sm.aligned.contains g = true ∧ (pay = (descramble (Sparse.get (fun _ => 0) s.sm.scr g) (slice o 1 31)).1) ∧ cls = oct o 0 / 32 % 2 ∧ cnt = oct o 0 % 32 ∧ k = 2 * g + cls ∧ (t = { s with sm := { s.sm with scr := Sparse.set (fun _ => 0) s.sm.scr g (descramble (Sparse.get (fun _ => 0) s.sm.scr g) (slice o 1 31)).2 } }) ∧ whole = (t.openPkt k).getD [] ++ pay.take (cnt + 1) ∧ u = (t.setOpenPkt k none).seamCount (if cls = 0 then 7 else 1) ∧ oct o 0 / 64 = 1 ∧ cnt = 0 ∧ t.openPkt k = none) ∧
  (∃ (s : State) (t : State) (u : State) (g : Nat) (cls : Nat) (cnt : Nat) (k : Nat) (o : List Byte) (pay : List Byte) (whole : List Byte), s.sm.aligned.contains g = true ∧ (pay = (descramble (Sparse.get (fun _ => 0) s.sm.scr g) (slice o 1 31)).1) ∧ cls = oct o 0 / 32 % 2 ∧ cnt = oct o 0 % 32 ∧ k = 2 * g + cls ∧ (t = { s with sm := { s.sm with scr := Sparse.set (fun _ => 0) s.sm.scr g (descramble (Sparse.get (fun _ => 0) s.sm.scr g) (slice o 1 31)).2 } }) ∧ whole = (t.openPkt k).getD [] ++ pay.take (cnt + 1) ∧ u = (t.setOpenPkt k none).seamCount (if cls = 0 then 7 else 1) ∧ oct o 0 / 64 = 2 ∧ cnt = 0 ∧ t.openPkt k ≠ none) ∧
  (∃ (s : State) (t : State) (u : State) (g : Nat) (cls : Nat) (cnt : Nat) (k : Nat) (o : List Byte) (pay : List Byte) (whole : List Byte), s.sm.aligned.contains g = true ∧ (pay = (descramble (Sparse.get (fun _ => 0) s.sm.scr g) (slice o 1 31)).1) ∧ cls = oct o 0 / 32 % 2 ∧ cnt = oct o 0 % 32 ∧ k = 2 * g + cls ∧ (t = { s with sm := { s.sm with scr := Sparse.set (fun _ => 0) s.sm.scr g (descramble (Sparse.get (fun _ => 0) s.sm.scr g) (slice o 1 31)).2 } }) ∧ whole = (t.openPkt k).getD [] ++ pay.take (cnt + 1) ∧ u = (t.setOpenPkt k none).seamCount (if cls = 0 then 7 else 1) ∧ oct o 0 / 64 = 3 ∧ cnt ≠ 31 ∧ t.openPkt k ≠ none ∧ cls = 0 ∧ oct whole 0 = 1) ∧
  (∃ (s : State) (t : State) (u : State) (g : Nat) (cls : Nat) (cnt : Nat) (k : Nat) (o : List Byte) (pay : List Byte) (whole : List Byte), s.sm.aligned.contains g = true ∧ (pay = (descramble (Sparse.get (fun _ => 0) s.sm.scr g) (slice o 1 31)).1) ∧ cls = oct o 0 / 32 % 2 ∧ cnt = oct o 0 % 32 ∧ k = 2 * g + cls ∧ (t = { s with sm := { s.sm with scr := Sparse.set (fun _ => 0) s.sm.scr g (descramble (Sparse.get (fun _ => 0) s.sm.scr g) (slice o 1 31)).2 } }) ∧ whole = (t.openPkt k).getD [] ++ pay.take (cnt + 1) ∧ u = (t.setOpenPkt k none).seamCount (if cls = 0 then 7 else 1) ∧ oct o 0 / 64 = 3 ∧ cnt ≠ 31 ∧ t.openPkt k ≠ none ∧ cls = 1) ∧
  (∃ (s : State) (t : State) (uid : List Byte) (ident : List Byte) (node : Nat) (sig : Bool) (ok : Bool), s.seamState = 3 ∧ (t = (List.range 4).foldl (fun t k => t.wr (SEAM_PEER_UIDk k) (BitVec.ofNat 32 (beAt uid (4 * k) 4))) s) ∧ ok = (sig && node == s.nodeNumber ^^^ 1 && (s.od 0x006002 == 0 || s.od 0x006002 == beNat uid) && (s.od 0x006003 == 0 || s.od 0x006003 == beNat ident))) ∧
  (∃ (s : State) (probes : List (Int × Int × Int × Int)), s.seamState = 4 ∧ probes.length = 16) ∧
  (∃ (s : State) (t : State) (o : List Byte), s.seamState = 6 ∧ (∀ a : Nat, s.sm.hbSent = some a → a + usTicks ≤ s.mer) ∧ o = s.mirrorPacket 0x10 s.sm.hbCnt s.heartbeatBody ∧ t = { s with sm := { s.sm with hbSent := some s.mer, hbCnt := (s.sm.hbCnt + 1) % 2 ^ 32 } }) ∧
  (∃ (s : State) (t : State) (u : State) (g : Nat) (o : List Byte) (body : List Byte), s.seamState = 6 ∧ body = o.drop 16 ∧ t = s.mirrorAck (beAt o 8 4) ∧ (u = State.twinLeave { t with twinPortUp := (List.range 1024).filter (fun n => (oct body (16 + n / 8)).testBit (n % 8)), sm := { t.sm with hbAt := Sparse.set (fun _ => 0) t.sm.hbAt g t.mer, twinNode := oct body 8, twinAuth := (oct body 9).testBit 0, twinTxn := beAt body 12 4 } })) ∧
  (∃ (s : State), s.seamUp = true ∧ ((s.hbLast 0 + 7 * usTicks ≤ s.mer ∨ s.hbLast 1 + 7 * usTicks ≤ s.mer))) :=
  ⟨⟨st [], _, .pcie, setF 0 SEAM_CTRL_EN 1, by decide, rfl, by decide⟩,
   ⟨st [], _, .pcie, 0, by decide, rfl, by decide, by decide, by decide, by decide⟩,
   ⟨(st [(SEAM_CTRL, SEAM_CTRL_EN, 1), (SEAM_STAT, SEAM_STAT_STATE, 6)]), by decide, by decide, by decide⟩,
   ⟨st [(SEAM_STAT, SEAM_STAT_STATE, 1)], by decide⟩,
   ⟨st [(SEAM_STAT, SEAM_STAT_STATE, 2)], _, 15, [0x4D, 0x9B, 0x2E, 0xF0, 0, 0xB2, 0x64, 0xD1], by decide, by decide, by decide, by decide, by decide, rfl⟩,
   ⟨st [(SEAM_STAT, SEAM_STAT_STATE, 2), (SEAM_LANEk 15, SEAM_LANEk_LSTATE, 1), (SEAM_LANEk 15, SEAM_LANEk_L, 7)], _, _, 15, _, [0x4D, 0x9B, 0x2E, 0xF0, 0, 0xB2, 0x64, 0xD1], true, by decide, by decide, by decide, by decide, by decide, by decide, rfl, rfl, rfl⟩,
   ⟨st [(SEAM_STAT, SEAM_STAT_STATE, 2), (SEAM_LANEk 15, SEAM_LANEk_LSTATE, 2), (SEAM_LANEk 15, SEAM_LANEk_L, 7)], _, 15, [0x4D, 0x9B, 0x2E, 0xF0, 0, 0xB2, 0x64, 0xD1], true, by decide, by decide, by decide, by decide, rfl⟩,
   ⟨st [(SEAM_LANEk 8, SEAM_LANEk_LSTATE, 2), (SEAM_LANEk 8, SEAM_LANEk_L, 0), (SEAM_LANEk 9, SEAM_LANEk_LSTATE, 2), (SEAM_LANEk 9, SEAM_LANEk_L, 1), (SEAM_LANEk 10, SEAM_LANEk_LSTATE, 2), (SEAM_LANEk 10, SEAM_LANEk_L, 2), (SEAM_LANEk 11, SEAM_LANEk_LSTATE, 2), (SEAM_LANEk 11, SEAM_LANEk_L, 3), (SEAM_LANEk 12, SEAM_LANEk_LSTATE, 2), (SEAM_LANEk 12, SEAM_LANEk_L, 4), (SEAM_LANEk 13, SEAM_LANEk_LSTATE, 2), (SEAM_LANEk 13, SEAM_LANEk_L, 5), (SEAM_LANEk 14, SEAM_LANEk_LSTATE, 2), (SEAM_LANEk 14, SEAM_LANEk_L, 6), (SEAM_LANEk 15, SEAM_LANEk_LSTATE, 2), (SEAM_LANEk 15, SEAM_LANEk_L, 7)], 1, 512, by decide, by decide, by decide⟩,
   ⟨st [(SEAM_LANEk 8, SEAM_LANEk_LSTATE, 2), (SEAM_LANEk 8, SEAM_LANEk_L, 0), (SEAM_LANEk 9, SEAM_LANEk_LSTATE, 2), (SEAM_LANEk 9, SEAM_LANEk_L, 1), (SEAM_LANEk 10, SEAM_LANEk_LSTATE, 2), (SEAM_LANEk 10, SEAM_LANEk_L, 2), (SEAM_LANEk 11, SEAM_LANEk_LSTATE, 2), (SEAM_LANEk 11, SEAM_LANEk_L, 3), (SEAM_LANEk 12, SEAM_LANEk_LSTATE, 2), (SEAM_LANEk 12, SEAM_LANEk_L, 4), (SEAM_LANEk 13, SEAM_LANEk_LSTATE, 2), (SEAM_LANEk 13, SEAM_LANEk_L, 5), (SEAM_LANEk 14, SEAM_LANEk_LSTATE, 2), (SEAM_LANEk 14, SEAM_LANEk_L, 6), (SEAM_LANEk 15, SEAM_LANEk_LSTATE, 2), (SEAM_LANEk 15, SEAM_LANEk_L, 7)], 1, 513, by decide, by decide, by decide⟩,
   ⟨{ st [(SEAM_STAT, SEAM_STAT_STATE, 2)] with mer := 10 * msTicks }, by decide, by decide⟩,
   ⟨{ st [] with sm := { SeamSt.reset with aligned := [1] } }, _, _, 1, _, _, _, [], _, _, by decide, rfl, rfl, rfl, rfl, rfl, rfl, rfl⟩,
   ⟨{ st [] with sm := { SeamSt.reset with aligned := [1] } }, _, _, 1, _, _, _, [0], _, _, by decide, rfl, rfl, rfl, rfl, rfl, rfl, rfl, by decide, by decide, by decide⟩,
   ⟨{ st [] with sm := { SeamSt.reset with aligned := [1] } }, _, _, 1, _, _, _, [0x40], _, _, by decide, rfl, rfl, rfl, rfl, rfl, rfl, rfl, by decide, by decide, by decide⟩,
   ⟨{ st [] with sm := { SeamSt.reset with aligned := [1], open_ := [(2, some [])] } }, _, _, 1, _, _, _, [0x80], _, _, by decide, rfl, rfl, rfl, rfl, rfl, rfl, rfl, by decide, by decide, by decide⟩,
   ⟨{ st [] with sm := { SeamSt.reset with aligned := [1], open_ := [(2, some [1])] } }, _, _, 1, _, _, _, [0xC0], _, _, by decide, rfl, rfl, rfl, rfl, rfl, rfl, rfl, by decide, by decide, by decide, by decide, by decide⟩,
   ⟨{ st [] with sm := { SeamSt.reset with aligned := [1], open_ := [(3, some [])] } }, _, _, 1, _, _, _, [0xE0], _, _, by decide, rfl, rfl, rfl, rfl, rfl, rfl, rfl, by decide, by decide, by decide, by decide⟩,
   ⟨st [(SEAM_STAT, SEAM_STAT_STATE, 3)], _, [], [], 0, true, _, by decide, rfl, rfl⟩,
   ⟨st [(SEAM_STAT, SEAM_STAT_STATE, 4)], List.replicate 16 (0, 0, 0, 0), by decide, by decide⟩,
   ⟨{ st [(SEAM_STAT, SEAM_STAT_STATE, 6)] with mer := usTicks, sm := { SeamSt.reset with hbSent := some 0 } }, _, _, by decide, by intro a h; injection h with h; subst h; decide, rfl, rfl⟩,
   ⟨st [(SEAM_STAT, SEAM_STAT_STATE, 6)], _, _, 1, [], _, by decide, rfl, rfl, rfl⟩,
   ⟨{ st [(SEAM_STAT, SEAM_STAT_UP, 1)] with mer := 7 * usTicks }, by decide, by decide⟩⟩

set_option maxRecDepth 100000 in
theorem witness_SeamPairCommandsComplete :
  (∃ (s : State) (u : State) (o : List Byte) (next : Bool), 5 ≤ s.seamState ∧ (oct o 0 = 0x11 ∨ oct o 0 = 0x12) ∧ (s.mirrorAck (beAt o 8 4)).mirrorNext (beAt o 4 4) = (next, u)) ∧
  (∃ (s : State) (t : State), 5 ≤ s.seamState ∧ s.mirrorOut ≠ [] ∧ s.sm.ackAt + 20 * usTicks ≤ s.mer ∧ t = { s with sm := { s.sm with ackAt := s.mer } }) ∧
  (∃ (s : State) (t : State) (x : Nat) (due : Nat) (v : List Nat), (s.sm.epochs.find? (fun p => p.1.head? == some x) = some (v, due)) ∧ due ≤ s.mer ∧ (t = { s with sm := { s.sm with epochs := s.sm.epochs.filter (fun p => p.1.head? != some x) } })) ∧
  (∃ (s : State) (t : State) (u : State) (g : Nat) (o : List Byte) (rest : List (Nat × List Byte)) (n : Nat) (f : Nat) (it : Item), s.sm.rxData = (g, o) :: rest ∧ t = { s with sm := { s.sm with rxData := rest } } ∧ (f, u) = (if (oct o 1).testBit 3 = true then t.takeFree else (0, t)) ∧ it = u.seamItem g o (f % 4) ∧ n = beAt o 6 2 % 1024 ∧ u.portTenant n ≠ some it.tenant) ∧
  (∃ (s : State) (t : State) (u : State) (v : State) (g : Nat) (o : List Byte) (rest : List (Nat × List Byte)) (n : Nat) (f : Nat) (it : Item) (pass : Bool), s.sm.rxData = (g, o) :: rest ∧ t = { s with sm := { s.sm with rxData := rest } } ∧ (f, u) = (if (oct o 1).testBit 3 = true then t.takeFree else (0, t)) ∧ it = u.seamItem g o (f % 4) ∧ n = beAt o 6 2 % 1024 ∧ u.portTenant n = some it.tenant ∧ u.portEn n = true ∧ u.vlanMember it.vid n = true ∧ (pass, v) = (match it.handle with | some (h, q) => if u.flag (HANDLE h) HANDLE_REC = true then u.recover h q else (true, u) | none => (true, u))) ∧
  (∃ (s : State), s.paired = true ∧ s.sm.keyed = true ∧ (∀ a : Nat, s.sm.statusAt = some a → a + msTicks ≤ s.mer)) ∧
  (∃ (s : State) (t : State) (node : Nat) (body : List Byte), s.paired = true ∧ node = s.nodeNumber ^^^ 1 ∧ (∀ p : Nat, s.sm.statusRx = some p → p < beAt body 4 4) ∧ t = State.setFld { s with sm := { s.sm with heardAt := some s.mer, statusRx := some (beAt body 4 4), twinNode := oct body 2, twinAuth := (oct body 3).testBit 3, twinTxn := beAt body 16 4 } } SEAM_STAT SEAM_STAT_TWIN_MB 1) ∧
  (∃ (s : State) (t : State) (a : Nat), ((s.sm.heardAt = some a ∨ s.sm.heardAt = none ∧ a = s.sm.lostAt.getD 0)) ∧ a + 5 * msTicks ≤ s.mer ∧ t = s.setFld SEAM_STAT SEAM_STAT_TWIN_MB 0) ∧
  (∃ (s : State) (t : State), s.paired = true ∧ s.flag SEAM_STAT SEAM_STAT_TWIN_DOWN = true ∧ s.isTwinB = true ∧ s.sm.took = false ∧ t = ((State.showAuth { s with sm := { s.sm with took := true } }).seamEvent SEAM_EVT_TAKEOVER).log 435 0 ∧ s.hostUp = true) ∧
  (∃ (s : State) (t : State), s.paired = true ∧ s.flag SEAM_STAT SEAM_STAT_TWIN_DOWN = true ∧ s.isTwinB = true ∧ s.sm.took = false ∧ t = ((State.showAuth { s with sm := { s.sm with took := true } }).seamEvent SEAM_EVT_TAKEOVER).log 435 0 ∧ s.acceptsWrites = true) ∧
  (∃ (s : State) (t : State), s.paired = true ∧ s.flag SEAM_STAT SEAM_STAT_TWIN_DOWN = true ∧ s.isTwinB = true ∧ s.sm.took = false ∧ t = ((State.showAuth { s with sm := { s.sm with took := true } }).seamEvent SEAM_EVT_TAKEOVER).log 435 0 ∧ s.od 0x006004 = 1 ∧ s.sm.downAt + 5 * msTicks ≤ s.mer) :=
  ⟨⟨st [(SEAM_STAT, SEAM_STAT_STATE, 5)], _, [0x11], _, by decide, by decide, rfl⟩,
   ⟨{ st [(SEAM_STAT, SEAM_STAT_STATE, 5)] with mer := 20 * usTicks, mirrorOut := [{ mseq := 1, kind := 0, values := [] }] }, _, by decide, by decide, by decide, rfl⟩,
   ⟨{ st [] with sm := { SeamSt.reset with epochs := [([5, 1], 0)] } }, _, 5, 0, [5, 1], by decide, by decide, rfl⟩,
   ⟨{ st [] with sm := { SeamSt.reset with rxData := [(0, [0, 0, 0, 14, 0, 0, 3, 0xFF, 0, 0, 0, 0, 0, 0, 0, 0, 0, 0, 0, 0] ++ List.replicate 14 0)] } }, _, _, 0, [0, 0, 0, 14, 0, 0, 3, 0xFF, 0, 0, 0, 0, 0, 0, 0, 0, 0, 0, 0, 0] ++ List.replicate 14 0, [], _, _, _, by decide, rfl, rfl, rfl, rfl, by decide⟩,
   ⟨{ st [(PORT_CFGn 1023, PORT_CFGn_BOUND, 1), (PORT_CFGn 1023, PORT_CFGn_EN, 1), (VLAN_MEMBERS 0 31, ⟨31, 31⟩, 1)] with sm := { SeamSt.reset with rxData := [(0, [0, 0, 0, 14, 0, 0, 3, 0xFF, 0, 0, 0, 0, 0, 0, 0, 0, 0, 0, 0, 0] ++ List.replicate 14 0)] } }, _, _, _, 0, [0, 0, 0, 14, 0, 0, 3, 0xFF, 0, 0, 0, 0, 0, 0, 0, 0, 0, 0, 0, 0] ++ List.replicate 14 0, [], _, _, _, _, by decide, rfl, rfl, rfl, rfl, by decide, by decide, by decide, rfl⟩,
   ⟨{ (st [(SEAM_CTRL, SEAM_CTRL_EN, 1)]) with mer := msTicks, sm := { SeamSt.reset with keyed := true, statusAt := some 0 } }, by decide, by decide, by intro a h; injection h with h; subst h; decide⟩,
   ⟨(st [(SEAM_CTRL, SEAM_CTRL_EN, 1)]), _, _, [], by decide, rfl, by decide, rfl⟩,
   ⟨{ st [] with mer := 5 * msTicks, sm := { SeamSt.reset with heardAt := some 0 } }, _, 0, by decide, by decide, rfl⟩,
   ⟨(st [(SEAM_CTRL, SEAM_CTRL_EN, 1), (SEAM_STAT, SEAM_STAT_ROLE, 1), (SEAM_STAT, SEAM_STAT_TWIN_DOWN, 1)]), _, by decide, by decide, by decide, by decide, rfl, by decide⟩,
   ⟨{ (st [(SEAM_CTRL, SEAM_CTRL_EN, 1), (SEAM_STAT, SEAM_STAT_ROLE, 1), (SEAM_STAT, SEAM_STAT_TWIN_DOWN, 1)]) with node := .run }, _, by decide, by decide, by decide, by decide, rfl, by decide⟩,
   ⟨{ (st [(SEAM_CTRL, SEAM_CTRL_EN, 1), (SEAM_STAT, SEAM_STAT_ROLE, 1), (SEAM_STAT, SEAM_STAT_TWIN_DOWN, 1)]) with mer := 5 * msTicks, ods := [(0x006004, 1)] }, _, by decide, by decide, by decide, by decide, rfl, by decide, by decide⟩⟩

/-! ### Witnesses of the statements of fragment 14 -/

set_option maxRecDepth 100000 in
theorem witness_OapArrivalCommandsComplete :
  (∃ (s : State) (k : Nat) (at_ : Nat) (p : List Byte), s.oap.mbReq = [(k, p, at_)] ∧ pduFormed false 0 p = true ∧ pduOp p = 0x10 ∧ pduSession p = 0 ∧ s.session? 0 = none ∧ s.mayAsk p = true ∧ pduBcast p = false ∧ pduNode p = s.nodeNumber ∧ s.oap.queue.length < 256) ∧
  (∃ (s : State) (t : State) (k : Nat) (m : Nat × List Byte × Nat), (s.oap.mbReq.find? (fun m => m.1 == k) = some m) ∧ pduFormed false 0 m.2.1 = true ∧ pduOp m.2.1 ≠ 0x30 ∧ pduBcast m.2.1 = false ∧ pduNode m.2.1 = s.nodeNumber ∧ (s.recovering = true → pduOp m.2.1 = 0x10 ∧ pduSession m.2.1 = 0) ∧ t = { s with oap := { s.oap with mbReq := s.oap.mbReq.erase m } }) ∧
  (∃ (s : State) (n : Nat) (o : List Byte) (p : List Byte), s.serves = true ∧ s.flag (PORT_STATn n) PORT_STATn_LINK = true ∧ (s.od 0x000302).testBit n = true ∧ (oct o 0).testBit 3 = false ∧ pduFormed false 46 o = true ∧ p = o.take (pduTotal o) ∧ pduOp p ≠ 0x30 ∧ pduBcast p = false ∧ pduNode p = s.nodeNumber) ∧
  (∃ (s : State) (b : Nat) (f : CanFrame), s.serves = true ∧ f.fmt = 2 ∧ f.sdt = 0x3E ∧ f.sec = false ∧ f.vcid = 0 ∧ f.af = 65536 * 0x4F41 + 32 * s.fld (MBb_CFG b) MBb_CFG_ADDR + f.af % 32 ∧ pduNode f.data = s.nodeNumber ∧ pduFormed false 0 f.data = true ∧ pduOp f.data ≠ 0x30 ∧ pduBcast f.data = false) ∧
  (∃ (s : State) (n : Nat) (q : Nat) (o : List Byte) (p : List Byte), s.serves = true ∧ s.th.restricted = false ∧ s.flag (PORT_STATn n) PORT_STATn_LINK = true ∧ (s.od 0x000302).testBit n = true ∧ (oct o 0).testBit 3 = false ∧ pduFormed false 46 o = true ∧ p = o.take (pduTotal o) ∧ pduBcast p = false ∧ pduNode p ≠ s.nodeNumber ∧ pduOp p ≠ 0x30 ∧ s.routeTo (pduNode p) = some q) ∧
  (∃ (s : State) (n : Nat) (o : List Byte) (p : List Byte) (e : RelayEnt), s.serves = true ∧ s.th.restricted = false ∧ s.flag (PORT_STATn n) PORT_STATn_LINK = true ∧ (s.od 0x000302).testBit n = true ∧ (oct o 0).testBit 3 = true ∧ pduFormed true 46 o = true ∧ p = o.take (pduTotal o) ∧ (oct p 12).testBit 7 = true ∧ pduEntry p = s.nodeNumber ∧ (s.oap.relays.find? (fun e => e.session == pduSession p && e.seq == pduSeq p) = some e)) ∧
  (∃ (s : State) (n : Nat) (o : List Byte) (p : List Byte) (q : Nat), s.serves = true ∧ s.th.restricted = false ∧ s.flag (PORT_STATn n) PORT_STATn_LINK = true ∧ (s.od 0x000302).testBit n = true ∧ (oct o 0).testBit 3 = true ∧ pduFormed true 46 o = true ∧ p = o.take (pduTotal o) ∧ (oct p 12).testBit 7 = true ∧ pduEntry p ≠ s.nodeNumber ∧ s.routeTo (pduEntry p) = some q) ∧
  (∃ (s : State) (x : Session) (late : List OapReq) (keep : List OapReq), s.oap.sessions = [x] ∧ (late, keep) = x.held.partition (fun r => decide (r.at_ + 100 * msTicks ≤ s.mer))) :=
  ⟨⟨{ st [] with oap := { OapSt.reset with mbReq := [(1, tPdu 0x10 0 (natBe 2 0x0001 ++ [1] ++ List.replicate 21 0), 0)] } }, 1, 0, tPdu 0x10 0 (natBe 2 0x0001 ++ [1] ++ List.replicate 21 0), by decide, by decide, by decide, by decide, by decide, by decide, by decide, by decide, by decide⟩,
   ⟨{ st [] with oap := { OapSt.reset with mbReq := [(1, tPdu 0x10 0 (natBe 2 0x0001 ++ [1] ++ List.replicate 21 0), 0)] } }, _, 1, (1, tPdu 0x10 0 (natBe 2 0x0001 ++ [1] ++ List.replicate 21 0), 0), by decide, by decide, by decide, by decide, by decide, by intro _; decide, rfl⟩,
   ⟨{ st [(PORT_STATn 255, PORT_STATn_LINK, 1)] with ods := [(0x000302, 2 ^ 255)] }, 255, tPdu 0x10 0 (natBe 2 0x0001 ++ [1] ++ List.replicate 21 0), _, by decide, by decide, by decide, by decide, by decide, rfl, by decide, by decide, by decide⟩,
   ⟨st [], 1, { canFr with fmt := 2, sdt := 0x3E, af := 65536 * 0x4F41 + 31, data := tPdu 0x10 0 (natBe 2 0x0001 ++ [1] ++ List.replicate 21 0) }, by decide, by decide, by decide, by decide, by decide, by decide, by decide, by decide, by decide, by decide⟩,
   ⟨{ st [(PORT_STATn 255, PORT_STATn_LINK, 1)] with ods := [(0x000302, 2 ^ 255)], jn := { State.reset.jn with store := [(1023, [], some 3)] }, oap := { OapSt.reset with relays := [{ session := 0, seq := 0, port := 1, addr := [], tag := [], at_ := 0 }] } }, 255, 3, [0x10, 0x10, 3, 0xFF, 0, 0, 0, 0, 0, 0, 0, 24, 0, 0, 0, 0] ++ List.replicate 24 0, _, by decide, by decide, by decide, by decide, by decide, by decide, rfl, by decide, by decide, by decide, by decide⟩,
   ⟨{ st [(PORT_STATn 255, PORT_STATn_LINK, 1)] with ods := [(0x000302, 2 ^ 255)], jn := { State.reset.jn with store := [(1023, [], some 3)] }, oap := { OapSt.reset with relays := [{ session := 0, seq := 0, port := 1, addr := [], tag := [], at_ := 0 }] } }, 255, [0x18, 0x10, 0, 0, 0, 0, 0, 0, 0, 0, 0, 0, 0x80, 0, 0, 0] ++ List.replicate 30 0, _, { session := 0, seq := 0, port := 1, addr := [], tag := [], at_ := 0 }, by decide, by decide, by decide, by decide, by decide, by decide, rfl, by decide, by decide, by decide⟩,
   ⟨{ st [(PORT_STATn 255, PORT_STATn_LINK, 1)] with ods := [(0x000302, 2 ^ 255)], jn := { State.reset.jn with store := [(1023, [], some 3)] }, oap := { OapSt.reset with relays := [{ session := 0, seq := 0, port := 1, addr := [], tag := [], at_ := 0 }] } }, 255, [0x18, 0x10, 0, 0, 0, 0, 0, 0, 0, 0, 0, 0, 0x83, 0xFF, 0, 0] ++ List.replicate 30 0, _, 3, by decide, by decide, by decide, by decide, by decide, by decide, rfl, by decide, by decide, by decide⟩,
   ⟨{ st [] with mer := 200000000, oap := { OapSt.reset with sessions := [{ tSes with held := [{ src := .mb 0 0, pdu := [], at_ := 0 }] }] } }, { tSes with held := [{ src := .mb 0 0, pdu := [], at_ := 0 }] }, _, _, by decide, rfl⟩⟩

set_option maxRecDepth 100000 in
theorem witness_OapSessionCommandsComplete :
  (∃ (s : State) (r : OapReq), s.oapNext 1 = some r ∧ pduSession r.pdu = 0 ∧ s.session? 0 = none) ∧
  (∃ (s : State) (r : OapReq) (x : Session), s.oapNext 2 = some r ∧ s.session? (pduSession r.pdu) = some x ∧ (pduBody r.pdu).length = 96) ∧
  (∃ (s : State) (r : OapReq) (x : Session), s.oapNext 3 = some r ∧ s.session? (pduSession r.pdu) = some x ∧ pduBody r.pdu = []) ∧
  (∃ (s : State) (x : Session) (o : Nat) (tk : Nat) (l : List Byte), s.oap.sessions = [x] ∧ x.snap = some (o, l, tk) ∧ tk + secTicks ≤ s.mer) ∧
  (∃ (s : State) (x : Session) (o : Nat) (tk : Nat) (l : List Byte), s.oap.sessions = [x] ∧ x.asm_ = some (o, l, tk) ∧ tk + secTicks ≤ s.mer) :=
  ⟨⟨{ st [] with oap := { OapSt.reset with queue := [tReq (tPdu 1 0 [])] } }, tReq (tPdu 1 0 []), by decide, by decide, by decide⟩,
   ⟨{ st [] with oap := { OapSt.reset with queue := [tReq (tPdu 2 1 (List.replicate 96 0))], sessions := [tSes] } }, tReq (tPdu 2 1 (List.replicate 96 0)), tSes, by decide, by decide, by decide⟩,
   ⟨{ st [] with oap := { OapSt.reset with queue := [tReq (tPdu 3 1 [])], sessions := [tSes] } }, tReq (tPdu 3 1 []), tSes, by decide, by decide, by decide⟩,
   ⟨{ st [] with mer := 2000000000, oap := { OapSt.reset with sessions := [{ tSes with snap := some (0x005101, [], 0) }] } }, { tSes with snap := some (0x005101, [], 0) }, 0x005101, 0, [], by decide, by decide, by decide⟩,
   ⟨{ st [] with mer := 2000000000, oap := { OapSt.reset with sessions := [{ tSes with asm_ := some (0x005101, [], 0) }] } }, { tSes with asm_ := some (0x005101, [], 0) }, 0x005101, 0, [], by decide, by decide, by decide⟩⟩

set_option maxRecDepth 100000 in
theorem witness_OapAccessCommandsComplete :
  (∃ (s : State) (r : OapReq), s.oapNext 0x10 = some r ∧ (pduSession r.pdu ≠ 0 → (s.session? (pduSession r.pdu)).isSome = true)) ∧
  (∃ (s : State) (r : OapReq), (s.oap.bcasts.find? (fun r => decide (r.at_ + s.nodeNumber * 4000 ≤ s.mer)) = some r)) ∧
  (∃ (s : State) (r : OapReq) (x : Session) (e : Od), s.oapNext 0x11 = some r ∧ s.session? (pduSession r.pdu) = some x ∧ odEntry (wrIndex (pduBody r.pdu)) (wrSub (pduBody r.pdu)) = some e ∧ e.ty ≠ .msg ∧ (s.unqueue r).writeCheck x.role (pduBody r.pdu) = 0) ∧
  (∃ (s : State), s.fenceWaits = false) ∧
  (∃ (s : State) (j : SaveJob), s.oap.waits = [] ∧ s.th.saving = some j ∧ s.th.saveNext = false) ∧
  (∃ (s : State), s.oap.waits = [] ∧ s.saveDue = true) ∧
  (∃ (s : State), s.datumHeld = true ∧ s.flag TIME_DCMD TIME_DCMD_BUSY = true) :=
  ⟨⟨{ st [] with oap := { OapSt.reset with queue := [tReq (tPdu 16 0 (natBe 2 0x0001 ++ [1] ++ List.replicate 21 0))] } }, tReq (tPdu 16 0 (natBe 2 0x0001 ++ [1] ++ List.replicate 21 0)), by decide, by decide⟩,
   ⟨{ { (st [(SYS_BOOT, SYS_BOOT_NODE, 1022)]) with mer := 1022 * 4000 } with oap := { OapSt.reset with bcasts := [tReq []] } }, tReq [], by decide⟩,
   ⟨{ { st [] with oap := { OapSt.reset with queue := [tReq (tPdu 17 1 (tWr 0x80 2 [0, 1]))], sessions := [tSes] } } with node := .config }, tReq (tPdu 17 1 (tWr 0x80 2 [0, 1])), tSes, _, by decide, by decide, rfl, by decide, by decide⟩,
   ⟨st [], by decide⟩,
   ⟨{ st [] with th := { State.reset.th with saving := some { area := 0, snap := { snap := 0, schema := 0, entries := [] } } } }, { area := 0, snap := { snap := 0, schema := 0, entries := [] } }, by decide, by decide, by decide⟩,
   ⟨{ st [] with th := { State.reset.th with saveNext := true } }, by decide, by decide⟩,
   ⟨st [(TIME_DCMD, TIME_DCMD_BUSY, 1)], by decide, by decide⟩⟩

/-! ### Witnesses of the statements of fragment 15 -/

set_option maxRecDepth 100000 in
theorem witness_HostInterfaceCommandsComplete :
  (∃ (s : State) (w : Word), s.hostUp = true ∧ getB w SYS_CTRL_LOCKALL = true) ∧
  (∃ (s : State) (b : Nat) (a : Nat) (d : RegDesc), s.hostUp = true ∧ b < 32 ∧ a < 2 ^ 23 ∧ a % 4 = 0 ∧ regDesc? a = some d ∧ aliasable d b = true) ∧
  (∃ (s : State) (t : State) (u : State) (i : Iface) (k : Nat) (n : Nat) (w : Word), s.hostUp = true ∧ mailboxOf i = some k ∧ getB w THIM_MBCTLk_SUBMIT = true ∧ s.flag (THIM_MBCTLk k) THIM_MBCTLk_BUSY = false ∧ s.flag (THIM_MBCTLk k) THIM_MBCTLk_RESP = false ∧ n = getF w THIM_MBCTLk_LEN ∧ 16 ≤ n ∧ n ≤ 1056 ∧ getB w THIM_MBCTLk_RELEASE = false ∧ t = s.typedWrite i (THIM_MBCTLk k) w ∧ u = (t.setFld (THIM_MBCTLk k) THIM_MBCTLk_BUSY 1).setFld (THIM_MBCTLk k) THIM_MBCTLk_NORESP 0) ∧
  (∃ (s : State) (i : Iface) (k : Nat) (w : Word), s.hostUp = true ∧ mailboxOf i = some k ∧ getB w THIM_MBCTLk_SUBMIT = false ∧ getB w THIM_MBCTLk_RELEASE = true) ∧
  (∃ (s : State) (t : State) (k : Nat) (r : Nat × List Byte), (s.oap.mbResp.find? (fun r => r.1 == k) = some r) ∧ s.flag (THIM_MBCTLk k) THIM_MBCTLk_BUSY = true ∧ (t = (List.range ((r.2.length + 3) / 4)).foldl (fun t j => t.wr (THIM_MBRESP k j) (BitVec.ofNat 32 (leNat (slice r.2 (4 * j) 4)))) { s with oap := { s.oap with mbResp := s.oap.mbResp.erase r } })) ∧
  (∃ (s : State) (n : Nat), s.hostUp = true ∧ n < 8 ∧ n ≠ 0) ∧
  (∃ (s : State) (t : State) (u : State) (c : Nat) (a : Nat) (upset : List Nat), s.flag ECC_CTRL ECC_CTRL_SCRUB_EN = true ∧ c < 7 ∧ s.fld (ECC_CLSk c + 28) ECC_CLSk_PERIOD ≠ 0 ∧ (Sparse.get (fun _ => 0) s.scrubAt c ≤ a) ∧ (t = State.flushKey { s with scrubAt := Sparse.set (fun _ => 0) s.scrubAt c a } (codeKey c a)) ∧ (u = (t.setFlaws c a ((upset.filter (fun p => decide (p < codeBits c))).foldl flip (t.flawsAt c a))).codeRead c a)) :=
  ⟨⟨st [], setF 0 SYS_CTRL_LOCKALL 1, by decide, by decide⟩,
   ⟨st [], 31, PORT_CFGn 1023, _, by decide, by decide, by decide, by decide, rfl, by decide⟩,
   ⟨st [], _, _, .pcie, _, _, setF (setF 0 THIM_MBCTLk_SUBMIT 1) THIM_MBCTLk_LEN 1056, by decide, rfl, by decide, by decide, by decide, rfl, by decide, by decide, by decide, rfl, rfl⟩,
   ⟨st [], .pcie, _, setF 0 THIM_MBCTLk_RELEASE 1, by decide, rfl, by decide, by decide⟩,
   ⟨{ st [(THIM_MBCTLk 1, THIM_MBCTLk_BUSY, 1)] with oap := { OapSt.reset with mbResp := [(1, [1, 2, 3])] } }, _, 1, (1, [1, 2, 3]), by decide, by decide, rfl⟩,
   ⟨st [], 7, by decide, by decide, by decide⟩,
   ⟨st [(ECC_CTRL, ECC_CTRL_SCRUB_EN, 1), (ECC_CLSk 6 + 28, ECC_CLSk_PERIOD, 1)], _, _, 6, 5, [], by decide, by decide, by decide, by decide, rfl, rfl⟩⟩

set_option maxRecDepth 100000 in
theorem witness_BridgeAndMemoryCommandsComplete :
  (∃ (s : State) (a : Nat), s.hostUp = true ∧ s.hs.spiQ = [] ∧ s.pcieDown = false ∧ a < 0x10000000 ∧ a % 4 = 0) ∧
  (∃ (s : State) (a : Nat), s.hostUp = true ∧ s.hs.spiQ = [] ∧ s.pcieDown = false ∧ a < 0x10000000 ∧ a % 4 = 0) ∧
  (∃ (s : State) (a : Nat) (ws : List Word), s.hostUp = true ∧ s.pcieDown = false ∧ ws ≠ [] ∧ ws.length ≤ 64 ∧ a % 4 = 0 ∧ 0x10000000 ≤ a ∧ a + 4 * ws.length ≤ 0x20000000 ∧ brWin a = brWin (a + 4 * ws.length - 4) ∧ s.brCount 0 < 64) ∧
  (∃ (s : State) (a : Nat) (n : Nat), s.hostUp = true ∧ s.hs.spiQ = [] ∧ 0 < n ∧ n ≤ 64 ∧ a % 4 = 0 ∧ 0x10000000 ≤ a ∧ a + 4 * n ≤ 0x20000000 ∧ brWin a = brWin (a + 4 * n - 4) ∧ s.brCount 1 < 64) ∧
  (∃ (s : State) (i : Nat) (o : BrOp), s.brHead i = some o ∧ 0 < o.tries ∧ o.sentAt + s.brTmo * usTicks ≤ s.mer ∧ o.tries ≤ s.fld BRDG_CTRL BRDG_CTRL_RETRY ∧ s.brReachable (brWin o.addr) = true) ∧
  (∃ (s : State) (p : List Byte) (o : BrOp), s.seamUp = true ∧ oct p 0 = 0xB1 ∧ s.brMatch true p = some o ∧ o.write = true ∧ 16 ≤ p.length ∧ oct p 1 = 0x82 ∧ beAt p 4 4 = s.brRemote o.addr ∧ beAt p 8 2 = o.data.length ∧ oct p 10 = 0) ∧
  (∃ (s : State) (i : Nat) (b : Nat × PfBuf), (s.hs.pf.find? (fun p => p.1 == i) = some b) ∧ b.2.at_ + 100 * usTicks ≤ s.mer) ∧
  (∃ (s : State) (t : State) (p : List Byte) (l : List Word), s.seamUp = true ∧ brFormed p = true ∧ oct p 1 = 1 ∧ (s.hs.done.find? (fun d => d.1 == beAt p 2 2) = none) ∧ s.twinRead (beAt p 4 4 / 4 * 4) (beAt p 8 2) = (l, t) ∧ l.length = beAt p 8 2) ∧
  (∃ (s : State) (t : State) (p : List Byte) (n : Nat), s.seamUp = true ∧ brFormed p = true ∧ oct p 1 = 2 ∧ (s.hs.done.find? (fun d => d.1 == beAt p 2 2) = none) ∧ n = beAt p 8 2 ∧ (s.twinWrite (beAt p 4 4 / 4 * 4) ((List.range n).map (fun k => BitVec.ofNat 32 (beAt p (16 + 4 * k) 4))) = (n, t))) ∧
  (∃ (s : State) (c : Nat) (n : Nat), c < 7 ∧ n = s.fld (ECC_CLSk c) ECC_CLSk_LEAK * msTicks ∧ n ≠ 0 ∧ (Sparse.get (fun _ => 0) s.leakAt c < s.mer / n * n)) ∧
  (∃ (s : State) (c : Nat) (e : Nat × Nat × Nat), (s.merge.find? (fun e => e.1 / 2 ^ 32 == c) = some e)) ∧
  (∃ (s : State) (t : State) (v : State) (island : Nat) (u : State), island < 1024 ∧ t = s.bumpSat (ECC_CLSk 7 + 16) ECC_CLSk_UE_CNT ∧ v = ((if t.flag ECC_EVT ECC_EVT_FIFO_UE = true then t else t.wr (ECC_CLSk 7 + 20) (BitVec.ofNat 32 (0x7F000000 + island))).setFld ECC_EVT ECC_EVT_FIFO_UE 1).log 578 island [island] ∧ (v.hurtParsed (island / 64) (fun it => it.src == island) = some u)) ∧
  (∃ (s : State) (t : State) (v : State) (island : Nat) (x : TxFrame) (u : State), island < 1024 ∧ t = s.bumpSat (ECC_CLSk 7 + 16) ECC_CLSk_UE_CNT ∧ v = ((if t.flag ECC_EVT ECC_EVT_FIFO_UE = true then t else t.wr (ECC_CLSk 7 + 20) (BitVec.ofNat 32 (0x7F000000 + island))).setFld ECC_EVT ECC_EVT_FIFO_UE 1).log 578 island [island] ∧ (v.hurtParsed (island / 64) (fun it => it.src == island) = none) ∧ (v.port island).tx = some x ∧ u = v.dropItem x.item rMalformed) :=
  ⟨⟨st [], 0x0FFFFFFC, by decide, by decide, by decide, by decide, by decide⟩,
   ⟨st [], 0x0FFFFFFC, by decide, by decide, by decide, by decide, by decide⟩,
   ⟨st [], 0x1FFFFF00, List.replicate 64 0, by decide, by decide, by decide, by decide, by decide, by decide, by decide, by decide, by decide⟩,
   ⟨st [], 0x1FFFFF00, 64, by decide, by decide, by decide, by decide, by decide, by decide, by decide, by decide, by decide⟩,
   ⟨{ st [(BRDG_WINw 0, BRDG_WINw_VALID, 1), (BRDG_WINw 0, BRDG_WINw_KIND, 1), (SEAM_STAT, SEAM_STAT_UP, 1), (BRDG_CTRL, BRDG_CTRL_RETRY, 1)] with mer := 50000 * usTicks, hs := { HostSt.reset with ops := [{ iface := 1, write := true, addr := 0x10000000, data := [5], count := 1, fetch := 1, seq := 3, tries := 1, sentAt := 0 }] } }, 1, { iface := 1, write := true, addr := 0x10000000, data := [5], count := 1, fetch := 1, seq := 3, tries := 1, sentAt := 0 }, by decide, by decide, by decide, by decide, by decide⟩,
   ⟨{ st [(BRDG_WINw 0, BRDG_WINw_VALID, 1), (BRDG_WINw 0, BRDG_WINw_KIND, 1), (SEAM_STAT, SEAM_STAT_UP, 1)] with hs := { HostSt.reset with ops := [{ iface := 1, write := true, addr := 0x10000000, data := [5], count := 1, fetch := 1, seq := 3, tries := 1, sentAt := 0 }] } }, [0xB1, 0x82, 0x40, 3, 0, 0, 0, 0, 0, 1, 0, 0, 0, 1, 0, 0], { iface := 1, write := true, addr := 0x10000000, data := [5], count := 1, fetch := 1, seq := 3, tries := 1, sentAt := 0 }, by decide, by decide, by decide, by decide, by decide, by decide, by decide, by decide, by decide⟩,
   ⟨{ st [] with mer := 100 * usTicks, hs := { HostSt.reset with pf := [(1, { win := 0, off := 0, words := [], at_ := 0 })] } }, 1, (1, { win := 0, off := 0, words := [], at_ := 0 }), by decide, by decide⟩,
   ⟨st [(SEAM_STAT, SEAM_STAT_UP, 1)], _, [0xB1, 1, 0, 3, 0, 0, 0, 0, 0, 1, 0, 0, 0, 0, 0, 0], _, by decide, by decide, by decide, by decide, rfl, by decide⟩,
   ⟨st [(SEAM_STAT, SEAM_STAT_UP, 1)], _, [0xB1, 2, 0, 3, 0, 0, 0, 0, 0, 1, 0, 0, 0, 0, 0, 0, 0, 0, 0, 0], _, by decide, by decide, by decide, by decide, rfl, rfl⟩,
   ⟨{ st [(ECC_CLSk 6, ECC_CLSk_LEAK, 1)] with mer := msTicks }, 6, _, by decide, rfl, by decide, by decide⟩,
   ⟨{ st [] with merge := [(6 * 2 ^ 32, 0, 0)] }, 6, (6 * 2 ^ 32, 0, 0), by decide⟩,
   ⟨{ st [] with parserIn := [(15, [{ Item.blank with src := 1023 }])] }, _, _, 1023, _, by decide, rfl, rfl, rfl⟩,
   ⟨{ st [(ECC_EVT, ECC_EVT_FIFO_UE, 1)] with ports := [(1023, { PortSt.reset with tx := some { q := 0, item := Item.blank, len := 0, raw := 0, began := 0, sent := 0, pre := false, stamped := false } })] }, _, _, 1023, _, _, by decide, rfl, rfl, rfl, rfl, rfl⟩⟩

/-! ### Witnesses of the statements of fragment 16 -/

set_option maxRecDepth 100000 in
theorem witness_ThimbleSensorAndLogCommandsComplete :
  (∃ (s : State) (t : State), 2 ≤ s.pw.boot ∧ s.node ≠ .init ∧ s.node ≠ .safe ∧ t = (State.setFld { s.dataStop.log 507 0 [0] with safeAlarm := true } THIM_EVT THIM_EVT_SAFE 1).enterSafe) ∧
  (∃ (s : State) (t : State) (n : Nat) (temp : Nat), s.pw.boot ≠ 0 ∧ s.th.restricted = false ∧ sext 16 temp < s.warnTemp ∧ s.th.hotWarn = false ∧ sext 16 temp < s.critTemp ∧ -720 ≤ sext 16 temp ∧ t = (if sext 16 (s.fld THIM_TMAX THIM_TMAX_TEMP) < sext 16 temp then ((s.setFld (THIM_TSENSn n) THIM_TSENSn_TEMP temp).setFld THIM_TMAX THIM_TMAX_TEMP temp).setFld THIM_TMAX THIM_TMAX_SENSOR n else s.setFld (THIM_TSENSn n) THIM_TSENSn_TEMP temp)) ∧
  (∃ (s : State) (n : Nat) (since : Nat), (Sparse.get (fun _ => none) s.th.critSince n = some since) ∧ since + msTicks ≤ s.mer ∧ s.th.restricted = false ∧ s.node ≠ .init ∧ s.node ≠ .safe) ∧
  (∃ (s : State) (t : State) (r : Nat) (st : Nat), s.flag (THIM_RAILCFGr r) THIM_RAILCFGr_VALID = true ∧ s.th.restricted = false ∧ (t = State.emitOut { s with th := { s.th with pmbSeen := Sparse.set (fun _ => false) s.th.pmbSeen r true } } (.pmbus r ((if Sparse.get (fun _ => false) s.th.pmbSeen r = true then [] else [0x20]) ++ [0x88, 0x8B, 0x8C, 0x8D, 0x79] ++ (if st = 0 then [] else [0x03]))))) ∧
  (∃ (s : State) (r : LogRec) (rest : List LogRec) (q : Nat) (o : List Byte), s.logQueue = r :: rest ∧ (s.fld ECC_INIT ECC_INIT_DONE).testBit 5 = true ∧ q = (s.rd THIM_LOGSEQ).toNat ∧ o = committed (r.body q)) ∧
  (∃ (s : State), s.acceptsWrites = true) ∧
  (∃ (s : State), s.acceptsWrites = true ∧ s.saveReady = true) ∧
  (∃ (s : State) (k : Nat), s.acceptsWrites = true ∧ 0 < k ∧ k ≤ 3 ∧ k ≤ (s.img s.runBank).field 5 1) :=
  ⟨⟨{ st [] with node := .run, pw := { State.reset.pw with boot := 2 } }, _, by decide, by decide, by decide, rfl⟩,
   ⟨{ st [(THIM_THERM, THIM_THERM_WARN, 1000), (THIM_THERM, THIM_THERM_CRIT, 1500)] with pw := { State.reset.pw with boot := 2 } }, _, 15, 400, by decide, by decide, by decide, by decide, by decide, by decide, rfl⟩,
   ⟨{ st [] with mer := msTicks, node := .run, th := { ThimSt.reset with critSince := [(15, some 0)] } }, 15, 0, by decide, by decide, by decide, by decide, by decide⟩,
   ⟨st [(THIM_RAILCFGr 63, THIM_RAILCFGr_VALID, 1)], _, 63, 0, by decide, by decide, rfl⟩,
   ⟨{ st [(ECC_INIT, ECC_INIT_DONE, 127)] with logQueue := [{ rule := 434, first := 0, last := 0, count := 1, inst := 0, node := .run, lost := false, params := [], code := none }] }, { rule := 434, first := 0, last := 0, count := 1, inst := 0, node := .run, lost := false, params := [], code := none }, [], _, _, by decide, by decide, rfl, rfl⟩,
   ⟨{ st [] with node := .run }, by decide⟩,
   ⟨{ st [] with node := .run }, by decide, by decide⟩,
   ⟨{ st [] with node := .run, th := { ThimSt.reset with imgBanks := [(0, { mid := 1, count := 1, blocks := [(0, [0, 0, 0, 0, 0, 3])] })] } }, 3, by decide, by decide, by decide, by decide⟩⟩

set_option maxRecDepth 100000 in
theorem witness_ThimbleImageCommandsComplete :
  (∃ (s : State) (k : Nat) (h : List Byte) (x : Session), s.acceptsWrites = true ∧ s.session? k = some x ∧ h.length = 16) ∧
  (∃ (s : State) (t : State) (k : Nat) (x : Session), s.acceptsWrites = true ∧ s.session? k = some x ∧ t = s.setSession { x with hdr := [] } ∧ s.od 0x008101 = 1) ∧
  (∃ (s : State) (w : Word), s.hostUp = true ∧ s.th.restricted = false ∧ getF w THIM_IMGCTL_OP = 1 ∧ s.flag THIM_IMGCTL THIM_IMGCTL_BUSY = false) ∧
  (∃ (s : State) (v : Nat), (v = 1 ∨ v = 2) ∧ s.acceptsWrites = true ∧ (s.img s.standby).complete = true ∧ s.upd = 0 ∧ s.paired = false) ∧
  (∃ (s : State) (v : Nat) (w : Nat), (v = 1 ∨ v = 2) ∧ s.acceptsWrites = true ∧ (s.img s.standby).complete = true ∧ s.upd = 0 ∧ s.paired = true ∧ bits w 31 29 = 0) ∧
  (∃ (s : State), s.hostUp = true ∧ s.th.restricted = false ∧ s.flag THIM_IMGCTL THIM_IMGCTL_BUSY = false ∧ (s.img s.standby).complete = true ∧ s.upd = 0 ∧ s.paired = false) ∧
  (∃ (s : State), s.acceptsWrites = true ∧ s.flag SEAM_STAT SEAM_STAT_TWIN_DOWN = true ∧ (s.img s.standby).complete = true ∧ s.upd = 0) ∧
  (∃ (s : State), s.acceptsWrites = true) ∧
  (∃ (s : State) (a : Nat), s.runAt = some a ∧ s.od 0x008109 ≠ 0 ∧ a + s.od 0x008109 * 1000 * msTicks ≤ s.mer ∧ s.th.restricted = false) ∧
  (∃ (s : State), s.acceptsWrites = true ∧ s.upd ≠ 1 ∧ s.upd ≠ 2) ∧
  (∃ (s : State), s.hostUp = true ∧ s.th.restricted = false ∧ s.flag THIM_IMGCTL THIM_IMGCTL_BUSY = false ∧ s.upd ≠ 1 ∧ s.upd ≠ 2) ∧
  (∃ (s : State), s.threadNode ≠ 65535 ∧ s.th.restricted = false ∧ s.th.thread.retry = none ∧ s.th.thread.waiting.length < 8 ∧ (s.img s.standby).has s.th.thread.next = true ∧ s.th.thread.open_ = true) ∧
  (∃ (s : State) (k : Nat) (a : Nat) (rest : List (Nat × Nat)), s.threadNode ≠ 65535 ∧ s.th.restricted = false ∧ s.th.thread.waiting = (k, a) :: rest) ∧
  (∃ (s : State) (a : Nat), s.threadNode ≠ 65535 ∧ s.th.restricted = false ∧ s.th.thread.retry = some a ∧ a ≤ s.mer) ∧
  (∃ (s : State), s.od 0x008203 = 1 ∧ s.upd = 0 ∧ s.hasPart 5 = true ∧ s.hostUp = true ∧ s.th.restricted = false) :=
  ⟨⟨{ st [] with node := .run, oap := { OapSt.reset with sessions := [tSes] } }, 1, List.replicate 16 0, tSes, by decide, by decide, by decide⟩,
   ⟨{ st [] with node := .run, oap := { OapSt.reset with sessions := [tSes] }, ods := [(0x008101, 1)] }, _, 1, tSes, by decide, by decide, rfl, by decide⟩,
   ⟨st [], setF 0 THIM_IMGCTL_OP 1, by decide, by decide, by decide, by decide⟩,
   ⟨{ st [(SEAM_CTRL, SEAM_CTRL_EN, 0)] with node := .run, th := { ThimSt.reset with imgBanks := [(1, { mid := 1, count := 2, blocks := [(0, []), (1, [])] })] } }, 2, by decide, by decide, by decide, by decide, by decide⟩,
   ⟨{ st [(SEAM_CTRL, SEAM_CTRL_EN, 1)] with node := .run, th := { ThimSt.reset with imgBanks := [(1, { mid := 1, count := 2, blocks := [(0, []), (1, [])] })] } }, 1, 0, by decide, by decide, by decide, by decide, by decide, by decide⟩,
   ⟨{ st [(SEAM_CTRL, SEAM_CTRL_EN, 0)] with th := { ThimSt.reset with imgBanks := [(1, { mid := 1, count := 2, blocks := [(0, []), (1, [])] })] } }, by decide, by decide, by decide, by decide, by decide, by decide⟩,
   ⟨{ st [(SEAM_STAT, SEAM_STAT_TWIN_DOWN, 1)] with node := .run, th := { ThimSt.reset with imgBanks := [(1, { mid := 1, count := 2, blocks := [(0, []), (1, [])] })] } }, by decide, by decide, by decide, by decide⟩,
   ⟨{ st [] with node := .run }, by decide⟩,
   ⟨{ st [] with runAt := some 0, mer := 1000 * msTicks, ods := [(0x008109, 1)] }, 0, by decide, by decide, by decide, by decide⟩,
   ⟨{ st [] with node := .run }, by decide, by decide, by decide⟩,
   ⟨st [], by decide, by decide, by decide, by decide, by decide⟩,
   ⟨{ st [] with ods := [(0x008201, 3 * 65536)], th := { ThimSt.reset with imgBanks := [(1, { mid := 1, count := 2, blocks := [(0, []), (1, [])] })], thread := { ThreadSt.reset with open_ := true, next := 1 } } }, by decide, by decide, by decide, by decide, by decide, by decide⟩,
   ⟨{ st [] with ods := [(0x008201, 3 * 65536)], th := { ThimSt.reset with thread := { ThreadSt.reset with waiting := [(1, 0)] } } }, 1, 0, [], by decide, by decide, by decide⟩,
   ⟨{ st [] with ods := [(0x008201, 3 * 65536)], th := { ThimSt.reset with thread := { ThreadSt.reset with retry := some 0 } } }, 0, by decide, by decide, by decide, by decide⟩,
   ⟨{ st [] with ods := [(0x008203, 1)], th := { ThimSt.reset with imgBanks := [(0, { mid := 1, count := 1, blocks := [(0, [0, 0, 0, 0, 0, 0, 0, 1] ++ List.replicate 56 0 ++ [5])] })] } }, by decide, by decide, by decide, by decide, by decide⟩⟩

/-! ### Witnesses of the statements of fragment 17 -/

set_option maxRecDepth 100000 in
theorem witness_PowerCommandsComplete :
  (∃ (s : State), s.powerJudge 0 = 0) ∧
  (∃ (s : State), s.powerJudge 1 = 0) ∧
  (∃ (s : State), s.powerJudge 2 = 0) ∧
  (∃ (s : State), s.powerJudge 3 = 0) ∧
  (∃ (s : State) (t : State) (i : Iface) (w : Word) (v : Nat), s.hostUp = true ∧ getB w SYS_PWR_CTRL_REQ_V = true ∧ getF w SYS_PWR_CTRL_REQ = v ∧ getB w SYS_PWR_CTRL_SUPP_CLR = false ∧ t = s.typedWrite i SYS_PWR_CTRL w ∧ t.powerJudge v = 0 ∧ v = 0) ∧
  (∃ (s : State) (t : State) (i : Iface) (w : Word) (v : Nat), s.hostUp = true ∧ getB w SYS_PWR_CTRL_REQ_V = true ∧ getF w SYS_PWR_CTRL_REQ = v ∧ getB w SYS_PWR_CTRL_SUPP_CLR = false ∧ t = s.typedWrite i SYS_PWR_CTRL w ∧ t.powerJudge v = 0 ∧ v = 1) ∧
  (∃ (s : State) (t : State) (i : Iface) (w : Word) (v : Nat), s.hostUp = true ∧ getB w SYS_PWR_CTRL_REQ_V = true ∧ getF w SYS_PWR_CTRL_REQ = v ∧ getB w SYS_PWR_CTRL_SUPP_CLR = false ∧ t = s.typedWrite i SYS_PWR_CTRL w ∧ t.powerJudge v = 0 ∧ v = 2) ∧
  (∃ (s : State) (t : State) (i : Iface) (w : Word) (v : Nat), s.hostUp = true ∧ getB w SYS_PWR_CTRL_REQ_V = true ∧ getF w SYS_PWR_CTRL_REQ = v ∧ getB w SYS_PWR_CTRL_SUPP_CLR = false ∧ t = s.typedWrite i SYS_PWR_CTRL w ∧ t.powerJudge v = 0 ∧ v = 3) ∧
  (∃ (s : State) (t : State) (u : State), s.pw.entering = some 2 ∧ (s.chans.any (fun p => match p.2.trans with | some t => t.target == 3 && decide (p.1 < 64) | none => false) = false) ∧ t = s.clearDomains ∧ u = ((State.setFld { t with pw := { t.pw with entering := none, enteredAt := some s.mer, wake := none, jtag := if 2 < t.pw.jtag then 0 else t.pw.jtag } } SYS_PWR_STAT SYS_PWR_STAT_STATE 2).setFld SYS_PWR_STAT SYS_PWR_STAT_TRANS 0).setFld SYS_PWR_STAT SYS_PWR_STAT_READY 0 ∧ s.pw.wake = none) ∧
  (∃ (s : State) (t : State) (u : State) (code : Nat) (c : Nat), s.pw.entering = some 2 ∧ (s.chans.any (fun p => match p.2.trans with | some t => t.target == 3 && decide (p.1 < 64) | none => false) = false) ∧ t = s.clearDomains ∧ u = ((State.setFld { t with pw := { t.pw with entering := none, enteredAt := some s.mer, wake := none, jtag := if 2 < t.pw.jtag then 0 else t.pw.jtag } } SYS_PWR_STAT SYS_PWR_STAT_STATE 2).setFld SYS_PWR_STAT SYS_PWR_STAT_TRANS 0).setFld SYS_PWR_STAT SYS_PWR_STAT_READY 0 ∧ s.pw.wake = some (code, c)) ∧
  (∃ (s : State) (c : Nat), s.wakeable = true ∧ s.flag SYS_PWR_STAT SYS_PWR_STAT_SUPP = false ∧ s.powerState = 3 ∧ 64 ≤ c ∧ s.wakeOn (c - 63) = true) ∧
  (∃ (s : State) (c : Nat), s.wakeable = true ∧ s.flag SYS_PWR_STAT SYS_PWR_STAT_SUPP = false ∧ s.powerState = 3 ∧ c < 64 ∧ s.loomSource c = true ∧ getB (s.wakeWord (chWake c)) LCn_WAKE_EN = true) ∧
  (∃ (s : State) (c : Nat), s.powerState ≠ 3 ∧ c < 64 ∧ s.chArmed c = true ∧ s.loomSource c = true) ∧
  (∃ (s : State) (t : State), t = { s with pw := { s.pw with wakeHigh := true } } ∧ s.wakeOn 4 = true) ∧
  (∃ (s : State), s.wakeOn 5 = true) ∧
  (∃ (s : State) (a : Nat), s.pw.enteredAt = some a ∧ s.powerState = 2 ∧ s.wakeOn 6 = true ∧ (s.rd SYS_PWR_TIMER).toNat ≠ 0 ∧ a + (s.rd SYS_PWR_TIMER).toNat * msTicks ≤ s.mer) ∧
  (∃ (s : State) (t : State) (u : State), s.pw.exiting = true ∧ t = (s.setFld ECC_INIT ECC_INIT_DONE 127).setFld ECC_INIT ECC_INIT_ALL 1 ∧ u = (State.keyRestoreOp ((State.setFld { t with pw := { t.pw with exiting := false } } SYS_PWR_STAT SYS_PWR_STAT_STATE 0).setFld SYS_PWR_STAT SYS_PWR_STAT_TRANS 0)).setReady.callTwin) ∧
  (∃ (s : State) (t : State) (u : State) (j : WakeJudge) (a : Nat), s.pw.judge = some j ∧ s.pw.readyAt = some a ∧ s.fld SYS_PWR_WAKE SYS_PWR_WAKE_FW_WIN ≠ 0 ∧ a + s.fld SYS_PWR_WAKE SYS_PWR_WAKE_FW_WIN * 1000 * msTicks ≤ s.mer ∧ t = State.bumpSat { s with pw := { s.pw with judge := none } } SYS_PWR_STAT SYS_PWR_STAT_FW_CNT ∧ (u = (if s.fld SYS_PWR_WAKE SYS_PWR_WAKE_FW_THR ≠ 0 ∧ t.fld SYS_PWR_STAT SYS_PWR_STAT_FW_CNT = s.fld SYS_PWR_WAKE SYS_PWR_WAKE_FW_THR then t.setFld SYS_PWR_STAT SYS_PWR_STAT_SUPP 1 else t).log 550 j.code [j.chan]) ∧ u.flag SYS_PWR_STAT SYS_PWR_STAT_TRANS = false ∧ u.powerState < 2) ∧
  (∃ (s : State) (w : Word), s.hostUp = true ∧ getB w SYS_PWR_CTRL_SUPP_CLR = true ∧ getB w SYS_PWR_CTRL_REQ_V = false) ∧
  (∃ (s : State), s.acceptsWrites = true) ∧
  (Config.ecdsaOk (slice (List.replicate 584 1) 488 96) (slice ([0x4C, 0x4C, 0x43, 0x53, 1, 1, 3, 0] ++ List.replicate 120 0 : List Byte) 0 32) (slice ([0x4C, 0x4C, 0x43, 0x53, 1, 1, 3, 0] ++ List.replicate 120 0 : List Byte) 32 96) = true → ∃ (s : State) (t : State) (m : List Byte), s.acceptsWrites = true ∧ s.lifecycleReq m = (0, t)) ∧
  (∃ (s : State) (v : Nat) (role : Nat), v ≤ 3 ∧ 1 ≤ role ∧ s.acceptsWrites = true ∧ (s.fld SYS_LCS SYS_LCS_OBS < v → v ≤ role ∧ v ≤ obsCap s.lifecycle)) ∧
  (∃ (s : State) (code : Nat), s.powerState ≠ 3 ∧ ((code ≤ 2 ∨ s.flag SYS_LCS SYS_LCS_JTAG_FULL = true ∧ s.powerState ≠ 2))) :=
  ⟨⟨{ st [] with node := .run }, by decide⟩,
   ⟨{ st [] with node := .run }, by decide⟩,
   ⟨{ st [] with node := .run }, by decide⟩,
   ⟨{ st [] with node := .run }, by decide⟩,
   ⟨{ st [] with node := .run }, _, .pcie, setF (setF 0 SYS_PWR_CTRL_REQ_V 1) SYS_PWR_CTRL_REQ 0, 0, by decide, by decide, by decide, by decide, rfl, by decide, by decide⟩,
   ⟨{ st [] with node := .run }, _, .pcie, setF (setF 0 SYS_PWR_CTRL_REQ_V 1) SYS_PWR_CTRL_REQ 1, 1, by decide, by decide, by decide, by decide, rfl, by decide, by decide⟩,
   ⟨{ st [] with node := .run }, _, .pcie, setF (setF 0 SYS_PWR_CTRL_REQ_V 1) SYS_PWR_CTRL_REQ 2, 2, by decide, by decide, by decide, by decide, rfl, by decide, by decide⟩,
   ⟨{ st [] with node := .run }, _, .pcie, setF (setF 0 SYS_PWR_CTRL_REQ_V 1) SYS_PWR_CTRL_REQ 3, 3, by decide, by decide, by decide, by decide, rfl, by decide, by decide⟩,
   ⟨{ st [] with pw := { PowerSt.reset with entering := some 2 } }, _, _, by decide, by decide, rfl, rfl, by decide⟩,
   ⟨{ st [] with pw := { PowerSt.reset with entering := some 2, wake := some (4, 0) } }, _, _, 4, 0, by decide, by decide, rfl, rfl, by decide⟩,
   ⟨st [(SYS_PWR_STAT, SYS_PWR_STAT_STATE, 3)], 65, by decide, by decide, by decide, by decide, by decide⟩,
   ⟨{ st [(SYS_PWR_STAT, SYS_PWR_STAT_STATE, 3)] with pw := { PowerSt.reset with wakeRegs := [(SYS_PWR_WAKE, 0x20000000), (SYS_PWR_LOOMSRC1, 0x80000000), (chWake 63, 0x80000000)] } }, 63, by decide, by decide, by decide, by decide, by decide, by decide⟩,
   ⟨st [(SYS_PWR_WAKE, SYS_PWR_WAKE_LOOM, 1), (SYS_PWR_LOOMSRC1, SYS_PWR_LOOMSRC1_WAKE_SRC, 0x80000000), (chWake 63, LCn_WAKE_EN, 1), (chStat 63, LCn_STAT_TRX, 3)], 63, by decide, by decide, by decide, by decide⟩,
   ⟨st [], _, rfl, by decide⟩,
   ⟨st [], by decide⟩,
   ⟨{ st [(SYS_PWR_STAT, SYS_PWR_STAT_STATE, 2), (SYS_PWR_WAKE, SYS_PWR_WAKE_TIMER, 1), (SYS_PWR_TIMER, ⟨31, 0⟩, 1)] with mer := msTicks, pw := { PowerSt.reset with enteredAt := some 0 } }, 0, by decide, by decide, by decide, by decide, by decide⟩,
   ⟨{ st [] with pw := { PowerSt.reset with exiting := true } }, _, _, by decide, rfl, rfl⟩,
   ⟨{ st [(SYS_PWR_WAKE, SYS_PWR_WAKE_FW_WIN, 1)] with mer := 1000 * msTicks, pw := { PowerSt.reset with readyAt := some 0, judge := some { code := 3, chan := 5, was := 0, test := false } } }, _, _, { code := 3, chan := 5, was := 0, test := false }, 0, by decide, by decide, by decide, by decide, rfl, rfl, by decide, by decide⟩,
   ⟨st [], setF 0 SYS_PWR_CTRL_SUPP_CLR 1, by decide, by decide, by decide⟩,
   ⟨{ st [] with node := .run }, by decide⟩,
   fun h => ⟨({ st [] with node := .config, anchor := some (List.replicate 584 1) } : State), _, ([0x4C, 0x4C, 0x43, 0x53, 1, 1, 3, 0] ++ List.replicate 120 0 : List Byte), by decide, by
    unfold State.lifecycleReq
    dsimp only
    rw [if_neg (by decide), if_neg (by
      rintro (h1 | h1)
      · exact absurd h1 (by decide)
      · change (!Config.ecdsaOk (slice (List.replicate 584 1) 488 96) (slice ([0x4C, 0x4C, 0x43, 0x53, 1, 1, 3, 0] ++ List.replicate 120 0 : List Byte) 0 32) (slice ([0x4C, 0x4C, 0x43, 0x53, 1, 1, 3, 0] ++ List.replicate 120 0 : List Byte) 32 96)) = true at h1
        rw [h] at h1
        exact absurd h1 (by decide)), if_neg (by decide)]⟩,
   ⟨{ st [] with node := .run }, 2, 2, by decide, by decide, by decide, by decide⟩,
   ⟨st [], 2, by decide, Or.inl (by decide)⟩⟩

set_option maxRecDepth 100000 in
theorem witness_JoinCommandsComplete :
  (∃ (s : State) (t : State) (n : Nat) (k : Nat), s.trainExpired n = true ∧ t = ((s.setFld (PORT_STATn n) PORT_STATn_TRAIN 3).portEvent n PORT_EVTn_TRAIN_FAIL).setPort n { s.port n with trainAt := s.mer } ∧ (k = Sparse.get (fun _ => 0) s.jn.fails n + 1) ∧ s.jn.ports.testBit n = false) ∧
  (∃ (s : State) (t : State) (n : Nat) (k : Nat), s.trainExpired n = true ∧ t = ((s.setFld (PORT_STATn n) PORT_STATn_TRAIN 3).portEvent n PORT_EVTn_TRAIN_FAIL).setPort n { s.port n with trainAt := s.mer } ∧ (k = Sparse.get (fun _ => 0) s.jn.fails n + 1) ∧ s.jn.ports.testBit n = true ∧ k ≠ 3) ∧
  (∃ (s : State) (t : State) (n : Nat) (k : Nat), s.trainExpired n = true ∧ t = ((s.setFld (PORT_STATn n) PORT_STATn_TRAIN 3).portEvent n PORT_EVTn_TRAIN_FAIL).setPort n { s.port n with trainAt := s.mer } ∧ (k = Sparse.get (fun _ => 0) s.jn.fails n + 1) ∧ s.jn.ports.testBit n = true ∧ k = 3) ∧
  (∃ (s : State) (n : Nat), 5 ≤ s.pw.boot ∧ s.jn.ports.testBit n = true ∧ s.flag (PORT_STATn n) PORT_STATn_LINK = true ∧ (s.jn.hello.find? (fun p => p.1 == n) = none)) ∧
  (∃ (s : State) (t : State) (u : State) (n : Nat) (p : List Byte) (x : Neighbour), u = s.ctlTake n ∧ s.jn.ports.testBit n = true ∧ s.flag (PORT_STATn n) PORT_STATn_LINK = true ∧ joinFormed p = true ∧ oct p 1 % 16 = msgHello ∧ beAt p 4 2 ≠ s.nodeNumber ∧ slice (p.drop 16) 0 16 ≠ s.otp.uid ∧ s.jn.barred.contains n = false ∧ (s.jn.neighbours.any (fun q => q.1 == n && q.2.uid == slice (p.drop 16) 0 16) = false) ∧ (oct (p.drop 16) 19).testBit 0 = false ∧ x = { uid := slice (p.drop 16) 0 16, node := beAt p 4 2, port := beAt p 6 2, vec := if oct (p.drop 16) 18 = 255 then none else some (beAt (p.drop 16) 16 2, oct (p.drop 16) 18), cand := (oct (p.drop 16) 19).testBit 1, complete := false, parent := if beAt (p.drop 16) 20 2 = 0xFFFF then none else some (beAt (p.drop 16) 20 2), heard := s.mer } ∧ t = u.dropNeighbour n) ∧
  (∃ (s : State) (n : Nat) (q : Nat × Neighbour), (s.jn.neighbours.find? (fun p => p.1 == n) = some q) ∧ q.2.heard + 35 * msTicks ≤ s.mer ∧ (s.joinParent.all (fun k => k.2 != n) = true)) ∧
  (∃ (s : State) (n : Nat) (q : Nat × Neighbour) (k : Nat), (s.jn.neighbours.find? (fun p => p.1 == n) = some q) ∧ q.2.heard + 35 * msTicks ≤ s.mer ∧ s.joinParent = some (k, n)) ∧
  (∃ (s : State), 5 ≤ s.pw.boot ∧ s.jn.vec.isSome = true ∧ (s.jn.store.any (fun p => p.1 == s.nodeNumber) = false) ∧ s.timeReady.1 = true ∧ s.seamReady.1 = true) ∧
  (∃ (s : State) (u : State) (v : State) (n : Nat) (p : List Byte), u = s.ctlTake n ∧ s.jn.ports.testBit n = true ∧ s.flag (PORT_STATn n) PORT_STATn_LINK = true ∧ joinFormed p = true ∧ beAt p 8 4 = (s.jlink n).rx ∧ v = u.setJlink n { u.jlink n with rx := ((u.jlink n).rx + 1) % 2 ^ 32 } ∧ oct p 1 % 16 = msgRecords ∧ (s.jn.neighbours.any (fun q => q.1 == n) = true)) ∧
  (∃ (s : State) (u : State) (v : State) (n : Nat) (p : List Byte) (rs : List (List Byte)), u = s.ctlTake n ∧ s.jn.ports.testBit n = true ∧ s.flag (PORT_STATn n) PORT_STATn_LINK = true ∧ joinFormed p = true ∧ beAt p 8 4 = (s.jlink n).rx ∧ v = u.setJlink n { u.jlink n with rx := ((u.jlink n).rx + 1) % 2 ^ 32 } ∧ oct p 1 % 16 = msgReport ∧ (s.jn.neighbours.any (fun q => q.1 == n) = true) ∧ (rs = (List.range ((beAt p 2 2 - 16) / 24)).map (fun i => slice p (16 + 24 * i) 24)) ∧ s.isRoot = true) ∧
  (∃ (s : State) (u : State) (v : State) (n : Nat) (p : List Byte) (rs : List (List Byte)) (a : Nat) (m : Nat), u = s.ctlTake n ∧ s.jn.ports.testBit n = true ∧ s.flag (PORT_STATn n) PORT_STATn_LINK = true ∧ joinFormed p = true ∧ beAt p 8 4 = (s.jlink n).rx ∧ v = u.setJlink n { u.jlink n with rx := ((u.jlink n).rx + 1) % 2 ^ 32 } ∧ oct p 1 % 16 = msgReport ∧ (s.jn.neighbours.any (fun q => q.1 == n) = true) ∧ (rs = (List.range ((beAt p 2 2 - 16) / 24)).map (fun i => slice p (16 + 24 * i) 24)) ∧ s.isRoot = false ∧ s.joinParent = some (a, m)) ∧
  (∃ (s : State) (u : State) (n : Nat) (p : List Byte) (gone : List (Nat × Nat × List (List Byte))) (t : State), u = s.ctlTake n ∧ s.jn.ports.testBit n = true ∧ s.flag (PORT_STATn n) PORT_STATn_LINK = true ∧ joinFormed p = true ∧ oct p 1 % 16 = msgAck ∧ (gone = (s.jlink n).unacked.filter (fun f => decide ((beAt p 8 4 + 2 ^ 32 - f.1) % 2 ^ 32 < 2 ^ 31))) ∧ gone ≠ [] ∧ (t = { u with jn := { u.jn with acked := u.jn.acked || (gone.any (fun f => f.2.1 == msgRecords && f.2.2.any (fun r => recNode r == s.nodeNumber)) && s.joinParent.any (fun k => k.2 == n)) } })) ∧
  (∃ (s : State) (u : State) (n : Nat) (p : List Byte), u = s.ctlTake n ∧ s.jn.ports.testBit n = true ∧ s.flag (PORT_STATn n) PORT_STATn_LINK = true ∧ joinFormed p = true ∧ oct p 1 % 16 = msgComplete) ∧
  (∃ (s : State) (n : Nat), (s.jlink n).unacked.isEmpty = false ∧ (s.jlink n).at_ + 2 * msTicks ≤ s.mer) ∧
  (∃ (s : State) (a : Nat), s.jn.ownAt = some a ∧ s.isRoot = true ∧ s.jn.complete = false ∧ s.od 0x00B003 ≠ 0 ∧ s.joinMissing = []) ∧
  (∃ (s : State) (t : State), s.node = .joining ∧ s.jn.complete = true ∧ ((s.isRoot = true ∨ s.jn.acked = true)) ∧ (t = (s.setNode (if s.configFirst = true ∨ s.flag THIM_STAT THIM_STAT_DEFAULTS = true then .config else .run)).settleDegraded)) :=
  ⟨⟨{ st [(PORT_CFGn 255, PORT_CFGn_EN, 1), (PORT_STATn 255, PORT_STATn_TRAIN, 1), (PORT_REFSTAT, PORT_REFSTAT_PRESENT, 8)] with mer := 300 * msTicks }, _, 255, _, by decide, rfl, rfl, by decide⟩,
   ⟨{ st [(PORT_CFGn 255, PORT_CFGn_EN, 1), (PORT_STATn 255, PORT_STATn_TRAIN, 1), (PORT_REFSTAT, PORT_REFSTAT_PRESENT, 8)] with mer := 300 * msTicks, jn := { JoinSt.reset with ports := 2 ^ 255 } }, _, 255, _, by decide, rfl, rfl, by decide, by decide⟩,
   ⟨{ st [(PORT_CFGn 255, PORT_CFGn_EN, 1), (PORT_STATn 255, PORT_STATn_TRAIN, 1), (PORT_REFSTAT, PORT_REFSTAT_PRESENT, 8)] with mer := 300 * msTicks, jn := { JoinSt.reset with ports := 2 ^ 255, fails := [(255, 2)] } }, _, 255, _, by decide, rfl, rfl, by decide, by decide⟩,
   ⟨{ st [(PORT_STATn 255, PORT_STATn_LINK, 1)] with jn := { JoinSt.reset with ports := 2 ^ 255 }, pw := { PowerSt.reset with boot := 5 } }, 255, by decide, by decide, by decide, by decide⟩,
   ⟨{ st [(PORT_STATn 255, PORT_STATn_LINK, 1)] with jn := { JoinSt.reset with ports := 2 ^ 255 } }, _, _, 255, [0x4A, 0x11, 0, 40, 3, 0xFF] ++ List.replicate 10 0 ++ [1] ++ List.replicate 23 0, _, rfl, by decide, by decide, by decide, by decide, by decide, by decide, by decide, by decide, by decide, rfl, rfl⟩,
   ⟨{ st [(PORT_STATn 255, PORT_STATn_LINK, 1)] with jn := { JoinSt.reset with ports := 2 ^ 255, neighbours := [(255, { uid := [], node := 5, port := 0, vec := none, cand := false, complete := false, parent := none, heard := 0 })] }, mer := 35 * msTicks }, 255, (255, { uid := [], node := 5, port := 0, vec := none, cand := false, complete := false, parent := none, heard := 0 }), by decide, by decide, by decide⟩,
   ⟨{ st [(PORT_STATn 255, PORT_STATn_LINK, 1)] with jn := { JoinSt.reset with ports := 2 ^ 255, vec := some (0, 1, some (5, 255)), neighbours := [(255, { uid := [], node := 5, port := 0, vec := none, cand := false, complete := false, parent := none, heard := 0 })] }, mer := 35 * msTicks }, 255, (255, { uid := [], node := 5, port := 0, vec := none, cand := false, complete := false, parent := none, heard := 0 }), 5, by decide, by decide, by decide⟩,
   ⟨{ st [(SEAM_STAT, SEAM_STAT_UP, 1)] with pw := { PowerSt.reset with boot := 5 }, jn := { JoinSt.reset with vec := some (0, 0, none) }, servo := { State.reset.servo with mode := 0 } }, by decide, by decide, by decide, by decide, by decide⟩,
   ⟨{ st [(PORT_STATn 255, PORT_STATn_LINK, 1)] with jn := { JoinSt.reset with ports := 2 ^ 255, neighbours := [(255, { uid := [], node := 5, port := 0, vec := none, cand := false, complete := false, parent := none, heard := 0 })] } }, _, _, 255, [0x4A, 0x12, 0, 48] ++ List.replicate 44 0, rfl, by decide, by decide, by decide, by decide, rfl, by decide, by decide⟩,
   ⟨{ st [(PORT_STATn 255, PORT_STATn_LINK, 1)] with jn := { JoinSt.reset with ports := 2 ^ 255, neighbours := [(255, { uid := [], node := 5, port := 0, vec := none, cand := false, complete := false, parent := none, heard := 0 })], vec := some (0, 0, none) } }, _, _, 255, [0x4A, 0x15, 0, 40] ++ List.replicate 36 0, _, rfl, by decide, by decide, by decide, by decide, rfl, by decide, by decide, rfl, by decide⟩,
   ⟨{ st [(PORT_STATn 255, PORT_STATn_LINK, 1)] with jn := { JoinSt.reset with ports := 2 ^ 255, neighbours := [(255, { uid := [], node := 5, port := 0, vec := none, cand := false, complete := false, parent := none, heard := 0 })], vec := some (0, 1, some (5, 3)) } }, _, _, 255, [0x4A, 0x15, 0, 40] ++ List.replicate 36 0, _, 5, 3, rfl, by decide, by decide, by decide, by decide, rfl, by decide, by decide, rfl, by decide, by decide⟩,
   ⟨{ st [(PORT_STATn 255, PORT_STATn_LINK, 1)] with jn := { JoinSt.reset with ports := 2 ^ 255, links := [(255, { JoinLink.reset with unacked := [(0, 2, [])] })] } }, _, 255, [0x4A, 0x13, 0, 16] ++ List.replicate 12 0, [(0, 2, [])], _, rfl, by decide, by decide, by decide, by decide, by decide, by decide, rfl⟩,
   ⟨{ st [(PORT_STATn 255, PORT_STATn_LINK, 1)] with jn := { JoinSt.reset with ports := 2 ^ 255 } }, _, 255, [0x4A, 0x14, 0, 24] ++ List.replicate 20 0, rfl, by decide, by decide, by decide, by decide⟩,
   ⟨{ st [(PORT_STATn 255, PORT_STATn_LINK, 1)] with jn := { JoinSt.reset with ports := 2 ^ 255, links := [(255, { JoinLink.reset with unacked := [(0, 2, [])] })] }, mer := 2 * msTicks }, 255, by decide, by decide⟩,
   ⟨{ st [] with ods := [(0x00B003, 1)], jn := { JoinSt.reset with ownAt := some 0, vec := some (0, 0, none), table := [(0, [])] } }, 0, by decide, by decide, by decide, by decide, by decide⟩,
   ⟨{ st [] with node := .joining, jn := { JoinSt.reset with complete := true, vec := some (0, 0, none) } }, _, by decide, by decide, Or.inl (by decide), rfl⟩⟩

/-! ### Witnesses of the statements of fragment 18 -/

set_option maxRecDepth 100000 in
theorem witness_SnapshotAndTraceCommandsComplete :
  (∃ (s : State) (w : Word), getB w OBS_SNAPCTL_REQ = true ∧ s.hostUp = true ∧ s.obsLevel ≠ 0) ∧
  (∃ (s : State), s.fld OBS_SNAPCTL OBS_SNAPCTL_PERIOD ≠ 0 ∧ s.obsLevel ≠ 0 ∧ s.snapLast + s.fld OBS_SNAPCTL OBS_SNAPCTL_PERIOD * usTicks ≤ s.mer ∧ s.snapCopy = none) ∧
  (∃ (s : State) (a : Nat) (l : List (Nat × Word)), s.snapCopy = some (a, l) ∧ s.snapAgain = none ∧ s.flag OBS_SNAPCTL OBS_SNAPCTL_BANK = true) ∧
  (∃ (s : State) (a : Nat) (l : List (Nat × Word)), s.snapCopy = some (a, l) ∧ s.snapAgain = none ∧ s.flag OBS_SNAPCTL OBS_SNAPCTL_BANK = false) ∧
  (∃ (s : State) (d : Nat) (r : TraceRec) (rest : List TraceRec), (Sparse.get (fun _ => []) s.traceIn d = r :: rest) ∧ traceLen (s.traceOf d) + r.octets.length ≤ 2 ^ 20) ∧
  (∃ (s : State) (t : State) (u : State) (d : Nat) (n : Nat) (q : Nat) (r : TraceRec) (rest : List TraceRec) (l : List TraceRec), s.flag OBS_TRCTL OBS_TRCTL_PORT_EN = true ∧ t = s.traceLossNext d ∧ ((t.traceOf d).filter (fun e => !e.port)).map (fun e => e.rcd) = r :: rest ∧ l = fitting s.traceRoom (r :: rest) ∧ l ≠ [] ∧ r.mer + 50 * usTicks ≤ s.mer ∧ n = s.fld OBS_TRPORT OBS_TRPORT_PORT ∧ q = s.fld OBS_TRPORT OBS_TRPORT_QUEUE ∧ u = t.traceFramed d l.length ∧ u.destLive (.port n q) = true ∧ u.admits (n / 64) (u.sharedFree (n / 64)) (cellsOf (s.traceItem d l).stored) false false (.port n q) = true) ∧
  (∃ (s : State) (st : Nat), s.fld OBS_OLSTAT OBS_OLSTAT_RX0 = 2 ∧ st ≠ 2) ∧
  (∃ (s : State), s.fld OBS_OLSTAT OBS_OLSTAT_RX1 ≠ 2) ∧
  (∃ (s : State) (suspect : Nat) (slot : Nat), s.coalIn = [] ∧ s.coalFree ≤ s.mer ∧ (s.coal.find? (fun p => p.2.suspect == suspect) = none) ∧ (List.range 256).find? (fun k => !s.coal.any (fun p => p.1 == k)) = some slot) ∧
  (∃ (s : State), s.mer < s.coalFree ∧ s.coalIn.length < 4096) ∧
  (∃ (s : State) (k : Nat) (p : Nat × CoalEnt), (s.coal.find? (fun p => p.1 == k) = some p) ∧ s.coalDue p.2 = true) :=
  ⟨⟨st [(SYS_LCS, SYS_LCS_OBS, 2)], setF 0 OBS_SNAPCTL_REQ 1, by decide, by decide, by decide⟩,
   ⟨{ st [(SYS_LCS, SYS_LCS_OBS, 2), (OBS_SNAPCTL, OBS_SNAPCTL_PERIOD, 5)] with mer := 5 * usTicks }, by decide, by decide, by decide, by decide⟩,
   ⟨{ st [(OBS_SNAPCTL, OBS_SNAPCTL_BANK, 1)] with snapCopy := some (1, []) }, 1, [], by decide, by decide, by decide⟩,
   ⟨{ st [] with snapCopy := some (1, []) }, 1, [], by decide, by decide, by decide⟩,
   ⟨{ st [] with traceIn := [(1, [{ kind := 1, poison := false, tseq := 0, mer := 0, body := [1, 2, 3, 4] }])] }, 1, { kind := 1, poison := false, tseq := 0, mer := 0, body := [1, 2, 3, 4] }, [], by decide, by decide⟩,
   ⟨{ st [(OBS_TRCTL, OBS_TRCTL_PORT_EN, 1), (PORT_CFGn 0, PORT_CFGn_EN, 1), (PORT_STATn 0, PORT_STATn_LINK, 1)] with mer := 50 * usTicks, traceQ := [(1, [{ rcd := { kind := 1, poison := false, tseq := 0, mer := 0, body := [1, 2, 3, 4] }, lane := true, port := false }])] }, _, _, 1, _, _, { kind := 1, poison := false, tseq := 0, mer := 0, body := [1, 2, 3, 4] }, [], [{ kind := 1, poison := false, tseq := 0, mer := 0, body := [1, 2, 3, 4] }], by decide, rfl, by decide, by decide, by decide, by decide, rfl, rfl, rfl, by decide, by decide⟩,
   ⟨st [(OBS_OLSTAT, OBS_OLSTAT_RX0, 2)], 0, by decide, by decide⟩,
   ⟨st [], by decide⟩,
   ⟨st [], 5, _, by decide, by decide, by decide, rfl⟩,
   ⟨{ st [] with coalFree := 1 }, by decide, by decide⟩,
   ⟨{ st [] with mer := 2 ^ 40, coal := [(255, { suspect := 5, code := 1, sev := 1, count := 1, first := 0, last := 0, partners := [], firstRep := 0, lastRep := 0 })] }, 255, (255, { suspect := 5, code := 1, sev := 1, count := 1, first := 0, last := 0, partners := [], firstRep := 0, lastRep := 0 }), by decide, by decide⟩⟩

/-! ### Witnesses of the statements of fragment 19 -/

set_option maxRecDepth 100000 in
theorem witness_ResetsRestoreTheResetState :
  (∃ (s : State), s.porHeld = false) ∧
  (∃ (s : State), s.porHeld = true) ∧
  (∃ (s : State) (due : Nat), s.th.rstDue = some due ∧ due ≤ s.mer) :=
  ⟨⟨st [(SYS_BOOT, SYS_BOOT_CAUSE, 1)], by decide⟩,
   ⟨st [], by decide⟩,
   ⟨{ st [] with th := { ThimSt.reset with rstDue := some 0 } }, 0, by decide, by decide⟩⟩

set_option maxRecDepth 100000 in
theorem witness_BootCommandsComplete :
  (∃ (s : State), s.pw.boot = 0 ∧ s.powerState ≠ 3 ∧ s.pw.pll = false) ∧
  (∃ (s : State), s.pw.boot = 0 ∧ s.powerState ≠ 3 ∧ s.pw.pll = true) ∧
  (∃ (s : State), s.pw.boot = 1 ∧ s.pw.pll = false) ∧
  (∃ (s : State) (u : State) (stuck : Bool), s.pw.boot = 2 ∧ (s.mramSweep.lifecycleFill stuck).keyMram.tamper = false ∧ u = (s.mramSweep.lifecycleFill stuck).applyAnchor.busesUp.bootAttempt.bootImage) ∧
  (∃ (s : State), s.pw.boot = 2) ∧
  (∃ (s : State), s.pw.boot = 3 ∧ s.recovering = false ∧ s.th.restricted = false) ∧
  (∃ (s : State) (k : Nat), 4 ≤ s.pw.boot ∧ k < 7 ∧ (s.fld ECC_INIT ECC_INIT_DONE ||| 2 ^ k) ≠ 127) ∧
  (∃ (s : State) (k : Nat), 4 ≤ s.pw.boot ∧ k < 7 ∧ (s.fld ECC_INIT ECC_INIT_DONE ||| 2 ^ k) = 127) ∧
  (∃ (s : State) (s1 : State) (s2 : State) (s3 : State) (s4 : State) (l : Option (List (Nat × List Byte))) (k2 : List Nat) (k3 : List Nat) (k4 : List Nat), s.pw.boot = 4 ∧ s.flag ECC_INIT ECC_INIT_ALL = true ∧ s.settings = (l, s1) ∧ (s1.restoreAll ((l.getD []).filter (fun e => !entryEnables e && !entryPairs e)) [] = (s2, k2)) ∧ s2.joinPorts.restoreAll (if s2.joinPorts.autostart then (l.getD []).filter entryEnables else []) k2 = (s3, k3) ∧ s3.restoreAll ((l.getD []).filter entryPairs) k3 = (s4, k4)) ∧
  (∃ (s : State), s.pw.boot = 4 ∧ s.flag ECC_INIT ECC_INIT_ALL = true ∧ s.th.setAreas = [] ∧ s.od 0x00B001 = 0 ∧ s.node = .init ∧ s.paired = false) :=
  ⟨⟨st [], by decide, by decide, by decide⟩,
   ⟨{ st [] with pw := { PowerSt.reset with pll := true } }, by decide, by decide, by decide⟩,
   ⟨{ st [] with pw := { PowerSt.reset with boot := 1 } }, by decide, by decide⟩,
   ⟨{ st [] with pw := { PowerSt.reset with boot := 2 } }, _, true, by decide, by decide, rfl⟩,
   ⟨{ st [] with pw := { PowerSt.reset with boot := 2 } }, by decide⟩,
   ⟨{ st [] with pw := { PowerSt.reset with boot := 3 } }, by decide, by decide, by decide⟩,
   ⟨{ st [] with pw := { PowerSt.reset with boot := 4 } }, 6, by decide, by decide, by decide⟩,
   ⟨{ st [(ECC_INIT, ECC_INIT_DONE, 63)] with pw := { PowerSt.reset with boot := 4 } }, 6, by decide, by decide, by decide⟩,
   ⟨{ st [(ECC_INIT, ECC_INIT_ALL, 1), (SEAM_CTRL, SEAM_CTRL_EN, 0)] with pw := { PowerSt.reset with boot := 4 } }, _, _, _, _, _, _, _, _, by decide, by decide, rfl, rfl, rfl, rfl⟩,
   ⟨{ st [(ECC_INIT, ECC_INIT_ALL, 1), (SEAM_CTRL, SEAM_CTRL_EN, 0)] with pw := { PowerSt.reset with boot := 4 } }, by decide, by decide, by decide, by decide, by decide, by decide⟩⟩

/-! ### Witnesses of the statements of fragment 20 -/

theorem witness_FieldsOfAWrittenWord :
  ((∀ f ∈ tDesc.fields, f.fld.lo ≤ f.fld.hi ∧ f.fld.hi < 32) ∧ tDesc.fields.Pairwise (fun f g => f.fld.hi < g.fld.lo ∨ g.fld.hi < f.fld.lo) ∧ ∃ f ∈ tDesc.fields, f.ty = .rw ∧ f.fld.lo ≤ f.fld.hi) ∧
  ((∀ f ∈ tDesc.fields, f.fld.lo ≤ f.fld.hi ∧ f.fld.hi < 32) ∧ tDesc.fields.Pairwise (fun f g => f.fld.hi < g.fld.lo ∨ g.fld.hi < f.fld.lo) ∧ ∃ f ∈ tDesc.fields, f.ty = .rwl ∧ f.fld.lo ≤ f.fld.hi) ∧
  ((∀ f ∈ tDesc.fields, f.fld.lo ≤ f.fld.hi ∧ f.fld.hi < 32) ∧ tDesc.fields.Pairwise (fun f g => f.fld.hi < g.fld.lo ∨ g.fld.hi < f.fld.lo) ∧ ∃ f ∈ tDesc.fields, f.ty = .ro ∧ f.fld.lo ≤ f.fld.hi) ∧
  ((∀ f ∈ tDesc.fields, f.fld.lo ≤ f.fld.hi ∧ f.fld.hi < 32) ∧ tDesc.fields.Pairwise (fun f g => f.fld.hi < g.fld.lo ∨ g.fld.hi < f.fld.lo) ∧ ∃ f ∈ tDesc.fields, f.ty = .w1c ∧ f.fld.lo ≤ f.fld.hi) ∧
  ((∀ f ∈ tDesc.fields, f.fld.lo ≤ f.fld.hi ∧ f.fld.hi < 32) ∧ tDesc.fields.Pairwise (fun f g => f.fld.hi < g.fld.lo ∨ g.fld.hi < f.fld.lo) ∧ ∃ f ∈ tDesc.fields, f.ty = .w1s ∧ f.fld.lo ≤ f.fld.hi) ∧
  (∃ k, ∀ f ∈ tDesc.fields, k < f.fld.lo ∨ f.fld.hi < k) :=
  ⟨by decide,
   by decide,
   by decide,
   by decide,
   by decide,
   ⟨0, by decide⟩⟩

theorem witness_StitchQueueOperations :
  (∃ (s : State) (q : Nat), (s.sqWr q + 65536 - s.sqRel q) % 65536 < 2 ^ s.fld (SQUEUE q) SQUEUE_DEPTH) ∧
  (∃ (s : State) (q : Nat), 2 ^ s.fld (SQUEUE q) SQUEUE_DEPTH ≤ (s.sqWr q + 65536 - s.sqRel q) % 65536) ∧
  (∃ (s : State) (q : Nat), s.sqRd q ≠ s.sqWr q) ∧
  (∃ (s : State) (q : Nat), s.sqRd q = s.sqWr q) ∧
  (∃ (s : State) (q : Nat), s.sqRd q = s.sqWr q ∧ s.hostEnd q 2 = true) :=
  ⟨⟨st [], 1023, by decide⟩,
   ⟨st [(SQUEUE 1023 + 8, SQUEUE_WR, 1)], 1023, by decide⟩,
   ⟨st [(SQUEUE 1023 + 8, SQUEUE_WR, 1)], 1023, by decide⟩,
   ⟨st [], 1023, by decide⟩,
   ⟨st [(SQUEUE 1023, SQUEUE_VALID, 1), (SQUEUE 1023, SQUEUE_HOST, 2)], 1023, by decide, by decide⟩⟩

theorem witness_HistogramBins :
  (∃ (k : Nat), 1 ≤ k ∧ k ≤ 30) ∧
  (∃ (b : Nat), b < 32) :=
  ⟨⟨30, by decide, by decide⟩,
   ⟨31, by decide⟩⟩

theorem witness_PoisonTagOnWrite :
  (∃ (c : Nat) (a : Nat), c < 7 ∧ a < 2 ^ 32) ∧
  (∃ (s : State) (c : Nat) (a : Nat), c < 7 ∧ a < 2 ^ 32 ∧ s.poisoned c a = true) ∧
  (∃ (s : State) (c : Nat) (a : Nat) (mask : _), c < 7 ∧ a < 2 ^ 32 ∧ s.merge = [] ∧ s.flipArmed c a = false ∧ fullMask c mask = true) ∧
  (∃ (s : State) (c : Nat) (a : Nat) (mask : _), c < 7 ∧ a < 2 ^ 32 ∧ s.merge = [] ∧ s.flipArmed c a = false ∧ fullMask c mask = false ∧ s.poisoned c a = true) :=
  ⟨⟨6, 2 ^ 32 - 1, by decide, by decide⟩,
   ⟨(st []).setPoison 6 (2 ^ 32 - 1) true, 6, 2 ^ 32 - 1, by decide, by decide, by decide⟩,
   ⟨st [], 6, 2 ^ 32 - 1, 2 ^ codeOctets 6 - 1, by decide, by decide, by decide, by decide, by decide⟩,
   ⟨(st []).setPoison 6 (2 ^ 32 - 1) true, 6, 2 ^ 32 - 1, 1, by decide, by decide, by decide, by decide, by decide, by decide⟩⟩

theorem witness_SlotWinnerIsLeast :
  (∃ (l : List VbReq) (w : VbReq), slotWinner l = some w) ∧
  (∃ (l : List VbReq) (w r : VbReq), slotWinner l = some w ∧ r ∈ l ∧ vbKey r.item = vbKey w.item) :=
  ⟨⟨[vbRq], vbRq, by decide⟩,
   ⟨[{ vbRq with member := 1 }, vbRq], vbRq, { vbRq with member := 1 }, by decide, by decide, by decide⟩⟩

theorem witness_FreshnessRaiseAndIncrement :
  (∃ (s : State) (f : Nat) (v : Nat), v < 2 ^ 64 ∧ s.rd64 (FRESH f) < v) ∧
  (∃ (s : State) (f : Nat) (v : Nat), v < 2 ^ 64 ∧ v ≤ s.rd64 (FRESH f)) ∧
  (∃ (s : State) (f : Nat) (v : Nat), v < 2 ^ 64 ∧ s.rd64 (FRESH f) < 2 ^ 64 - 1) ∧
  (∃ (s : State) (f : Nat) (v : Nat), v < 2 ^ 64 ∧ s.rd64 (FRESH f) = 2 ^ 64 - 1) ∧
  (∃ (f : Nat) (v : Nat) (g : _), v < 2 ^ 64 ∧ g ≠ f) :=
  ⟨⟨st [], 65535, 2 ^ 64 - 1, by decide, by decide⟩,
   ⟨st [], 65535, 0, by decide, by decide⟩,
   ⟨st [], 65535, 0, by decide, by decide⟩,
   ⟨(st []).wr64 (FRESH 65535) (2 ^ 64 - 1), 65535, 0, by decide, by decide⟩,
   ⟨65535, 0, 0, by decide, by decide⟩⟩

theorem witness_LinWakeSchedules :
  (∃ (s : State) (v : Nat) (cause : Nat), s.vbProto v = 3 ∧ ((cause = 2 ∨ cause = 1 ∧ s.flag (VBn_WAKE v) VBn_WAKE_WMODE = false))) ∧
  (∃ (s : State) (i : Iface) (v : Nat) (w : Word), s.hostUp = true ∧ (s.typedWrite i (VBn_SLEEP v) w).vbEn v = true ∧ getF w VBn_SLEEP_REQ = 1 ∧ (s.typedWrite i (VBn_SLEEP v) w).vbAsleep v = true ∧ (s.typedWrite i (VBn_SLEEP v) w).vbProto v = 3) :=
  ⟨⟨st [(VBn_CFG 4095, VBn_CFG_PROTO, 3)], 4095, 1, by decide, Or.inr (by decide)⟩,
   ⟨st [(VBn_CFG 4095, VBn_CFG_PROTO, 3), (VBn_CFG 4095, VBn_CFG_EN, 1), (VBn_STAT 4095, VBn_STAT_ASLEEP, 1)], .pcie, 4095, setF 0 VBn_SLEEP_REQ 1, by decide, by decide, by decide, by decide, by decide⟩⟩

theorem witness_DiscardCountsOnceUnderItsReason :
  ∃ (r : Nat) (q : Nat), r < 16 ∧ q < 16 :=
  ⟨15, 15, by decide, by decide⟩

/-! ### The numbers of the spec's worked examples -/

/-- Tenant time at a rate of 4.0 (chapter 03): the release falls at 1,600,200,001. -/
theorem test_releaseTick :
    let r : DatumRec := { anchor := 1600100000, offset := 5600100000, rate := 4 * 2 ^ 40 }
    r.view 1600200001 = 5600500004 ∧ r.view 1600200000 = 5600500000 ∧ r.tickOf 5600500003 = 1600200001 := by decide

/-- Margins of chapter 02: 34, 18 and −5 over a floor of 3,900. -/
theorem test_margin : paceMargin 4030 3900 = 34 ∧ paceMargin 3970 3900 = 18 ∧ paceMargin 3880 3900 = -5 := by decide

/-- The page base and the route index of frame B (chapter 07). -/
theorem test_routeIndex : (match (st [(PAGEBASE 1300, ⟨31, 0⟩, 0x9C051280)]).routeIndex 1300 81 false 0x120 with | .ok i => i | .error _ => 0) = 164128 ∧
    getF 0x9C051280 PAGEBASE_NPAGES = 7 ∧ getF 0x9C051280 PAGEBASE_TENANT = 81 ∧ getF 0x9C051280 PAGEBASE_PAGE_BASE = 640 ∧
    PAGEBASE 1300 = 0x01801450 ∧ ROUTE 164128 = 0x010A0480 ∧ DESCRIPTOR 20000 = 0x0144E200 := by decide

/-- The age of an entry stamped 0xFF00 (chapter 07). -/
theorem test_age :
    let e : StaEnt := { static := false, drop := false, ten := 5, vid := 1, mac := 1, stamp := 0xFF00, mcast := false, dest := 0 }
    State.staAged { st [(TENANT 5, TENANT_AGE_LIMIT, 38147)] with mer := 0x9400 * 2 ^ 20 } e = false ∧
    State.staAged { st [(TENANT 5, TENANT_AGE_LIMIT, 38147)] with mer := 0x9404 * 2 ^ 20 } e = true := by decide

/-- Program 17's words (chapter 10) are the instructions named beside them. -/
theorem test_program17_words :
    instrCode 0x14801000 = some 0x500 ∧ instrCode 0x04E10040 = some 0x100 ∧ instrCode 0x40C7000F = some 0x1000 ∧
    instrCode 0x452B6403 = some 0x1100 ∧ instrCode 0x72000004 = some 0x1C00 ∧ instrCode 0x8E560001 = some 0x2301 ∧
    instrCode 0x60200011 = some 0x1800 ∧ instrCode 0xA004E000 = some 0x2800 ∧ instrCode 0xA4000000 = some 0x2900 ∧
    iRd 0x14801000 = 4 ∧ iRa 0x04E10040 = 1 ∧ iFn 0x40C7000F % 32 + 1 = 16 := by decide

/-- PC 2, 4, 12 and 14 of program 17: the signal read, the value scaled and put in. -/
theorem test_signals :
    sigGet false 0 16 [0x3C, 0x1E, 0] = 7740 ∧ 7740 * 52429 / 2 ^ 18 = 1548 ∧
    sigPut true 0 12 0x60C [0, 0] = [0x60, 0xC0] ∧ sigPut true 12 4 0xA [0xC0] = [0xCA] := by decide

/-- Frame B's engine is 43 (chapter 09). -/
theorem test_engine : pickEngine (2 ^ 40 + 2 ^ 41 + 2 ^ 42 + 2 ^ 43) 0x9D3A6C15 5 = some 43 := by decide

/-- 700 ticks under SHIFT 2 fall in bin 8 (R586). -/
theorem test_histBin : histBin 2 700 = 8 := by decide

/-- The alias word of PORT_CFG77.EN (chapter 15). -/
theorem test_alias : PORT_CFGn 77 = 0x00301340 ∧ 0x40000000 + 2 ^ 23 * 31 + PORT_CFGn 77 = 0x4FB01340 := by decide

/-! ### Ill-formed commands are refused -/

theorem test_illFormed_1 : ([
    .resetRelease 1024, .initClassDone 7, .monitorWindowEnd 32 0,
    .monitorWindowEnd 0 65536, .controlPeriodEnd 2, .degradedLevelRaise 2,
    .degradedLevelExit 2, .avsTransactionEnd 2 0, .avsTransactionEnd 0 3,
    .railDeviation 2 0, .railDeviation 0 2048, .datumChangeComplete false 4,
    .pendingRecordEffect 1032, .txTimestampEntry 1024, .tsqHeadRead .pcie 1104,
    .datumSnapshotRead .pcie 1032, .portEnable .pcie 1024 0, .portStop .pcie 1024 0,
    .portDrained 1024, .portConfigWrite .pcie 1024 0, .laneEqWrite .pcie 1042 0,
    .refWindowEnd 16 0, .trainingComplete 1024, .trainingTimeout 1024,
    .linkDown 1024 false, .linkUp 1024, .remoteFault 1024,
    .frameReceive 1024 [] 0 0, .frameReceive 0 [] 5 0, .itemLookup 16 [] false,
    .itemLookup 0 (List.replicate 17 0) false, .itemEnqueue 16, .transmitStart 1024 0,
    .transmitComplete 1026, .gateChange .pcie 1024 0, .gateConfigEffect 1024,
    .gateEvent 1024, .verifySend 1024, .verifyResponse 1024,
    .lpiEntry 1024, .lpiExit 1024, .groupHashWrite .pcie 1024 0 0,
    .groupHashWrite .pcie 0 128 0, .statsRead .pcie 1024 0] : List Instr).all (fun c => !c.wellFormed) = true := by
  decide

theorem test_illFormed_2 : ([
    .statsRead .pcie 0 16, .channelEnable .pcie 80 0, .channelStop .pcie 80 0,
    .canFrameReceive 66 canFr 0 0 0, .canFrameReceive 0 canFr 9 0 0, .canFrameReceive 0 canFr 0 256 0,
    .channelItemArrival 64, .canTxAttemptEnd 66 0 0 0 none 0, .canTxAttemptEnd 0 3 0 0 none 0,
    .canTxAttemptEnd 0 0 7 0 none 0, .canTxAttemptEnd 0 0 0 32 none 0, .loomRecover .pcie 64 0,
    .busOffRecoveryComplete 66, .linNoResponse 64, .linIdleTimeout 64,
    .linLocalWakeStart 64, .rxRelease .pcie 64 0, .hostBufferRead .pcie 64 0,
    .hostBufferRead .pcie 0 1024, .trxRequest .pcie 66 0, .trxModeSettled 66,
    .inhOffDelay 64, .inhOnSettled 64, .channelWake 66 0,
    .wakeFrameDecode 66 canFr false 0, .falseWakeWindowEnd 64, .loomSuppClear .pcie 64 0,
    .maxawake 64, .plcaFrameReceive 16 [] 0 0, .plcaFrameReceive 0 [] 5 0,
    .plcaTxAttemptEnd 16 false 0, .plcaBeacon 16 0, .plcaBeacon 0 256,
    .plcaBeaconLoss 16, .mdioComplete 65536, .phyLinkPoll 16 false,
    .mbConfigApply 2, .vbusEnable .pcie 4096 0, .vbusStop .pcie 4096 0,
    .vbusStopped 4096, .vbusRequest 4096, .slotClose 4096,
    .vbusDelivery 4096, .memberRecover .pcie 4096 0 0] : List Instr).all (fun c => !c.wellFormed) = true := by
  decide

theorem test_illFormed_3 : ([
    .memberRecover .pcie 0 16 0, .memberRecoveryComplete 4096 0, .memberRecoveryComplete 0 16,
    .injectorWrite .pcie 64 0, .vbusLinScheduleEntry 4096, .vbusLinNoResponse 4096,
    .vbusFalseWakeWindowEnd 4096, .vbusSleepRequest .pcie 4096 0, .vbusIdleSleep 4096,
    .vbusMaxawake 4096, .vbusSuppClear .pcie 4096 0, .loadWindowEnd 4096,
    .ntscfReceive 16, .abortReq 4096, .wakeReq 4096,
    .tableStageWrite .pcie 268435456 0, .tableCommit .pcie 268435456 0, .ownershipWrite .pcie 268435456 0,
    .walkerVisit 524288, .spillFrame 16, .spillWriteComplete 16,
    .recallFrame 16, .recallComplete 16 false, .lagMemberLeave 256 0,
    .lagMemberLeave 0 64, .lagSlotMove 256, .surveyRecord 16,
    .workItemStart 128, .programCommit .pcie 4096 0, .imemWrite .pcie 128 0 0,
    .imemWrite .pcie 0 16384 0, .stitchQueueCommit .pcie 1024 0, .add 128,
    .sub 128, .andW 128, .orW 128,
    .xorW 128, .sll 128, .srl 128,
    .sra 128, .slli 128, .srli 128,
    .srai 128, .mul 128] : List Instr).all (fun c => !c.wellFormed) = true := by
  decide

theorem test_illFormed_4 : ([
    .mulhu 128, .mulhs 128, .divu 128,
    .remu 128, .minW 128, .maxW 128,
    .minu 128, .maxu 128, .cmp 128,
    .tst 128, .bswap 128, .clz 128,
    .movf 128, .setf 128, .adds 128,
    .subs 128, .addi 128, .andi 128,
    .ori 128, .xori 128, .lui 128,
    .cmpi 128, .ldw 128, .ldh 128,
    .ldhs 128, .ldb 128, .ldbs 128,
    .stw 128, .sth 128, .stb 128,
    .bc 128, .jal 128, .jalr 128,
    .sigx 128, .sigi 128, .scale 128,
    .ctrIncrement 128, .ctrDelta 128, .crc 128,
    .amoadd 128, .amoswap 128, .amomaxu 128,
    .timeRead 128, .qopGet 128] : List Instr).all (fun c => !c.wellFormed) = true := by
  decide

theorem test_illFormed_5 : ([
    .qopPut 128, .qopMark 128, .qopRewind 128,
    .qopRelease 128, .qopFill 128, .rlkp 128,
    .slkp 128, .frshRead 128, .frshRaise 128,
    .frshIncrement 128, .ciph 128, .emit 128,
    .endItem 128, .dropItem 128, .notify 128,
    .stallEnd 128, .stallLimitExpiry 128 false, .hostQueueGet .pcie 1024,
    .hostQueuePut .pcie 1024 0, .hostQueueMark .pcie 1024, .hostQueueRewind .pcie 1024,
    .hostQueueRelease .pcie 1024, .freshnessHostWrite .pcie 65536 0, .bobbinCommit .pcie 4096 0,
    .windWriteComplete 2, .bobbinStart 4096, .bobbinStartAt 4096,
    .bobbinPause 4096, .bobbinResume 4096, .bobbinStop 4096,
    .bobbinFlush 4096, .stageRecord 4096, .bobbinRelease 4096,
    .unwindFrame 4096, .cipherResult 32, .laneAlarm 32 0,
    .laneAlarm 0 4, .laneResetComplete 32, .laneEnableWrite .pcie 32 0,
    .globalTamper 5, .proofMismatch 4, .alignmentMarker 16 [] false,
    .alignmentMarker 0 (List.replicate 9 0) false, .groupAligned 2 0] : List Instr).all (fun c => !c.wellFormed) = true := by
  decide

theorem test_illFormed_6 : ([
    .seamBlock 2 [] false, .seamHello (List.replicate 17 0) 0 [] false, .seamHello [] 1024 [] false,
    .measureComplete (List.replicate 17 (0, 0, 0, 0)), .heartbeatReceive 2 [] false, .epochDiffCheck 4096,
    .txnPrepare 4294967296 [], .txnVote 4294967296 0, .txnVote 0 256,
    .txnCommit 4294967296, .txnAbort 4294967296, .twinStatus 1024 [] false,
    .twinStatus 0 (List.replicate 25 0) false, .oapRelay 1024 [] [] [], .oapRelay 0 (List.replicate 7 0) [] [],
    .oapRelay 0 [] (List.replicate 5 0) [], .stateReq 256, .tenantStop 1024,
    .mailboxResponse 2, .registerWrite .pcie 8589934592 0 0 0, .registerWrite .pcie 0 16 0 0,
    .registerWrite .pcie 0 0 4 0, .aliasWrite .pcie 32 0 0, .aliasWrite .pcie 0 8388608 0,
    .spiTransactionEnd 4294967296 0 false, .spiTransactionEnd 0 1099511627776 false, .spiReadWord .pcie 4295032832 false,
    .puntItem 256, .puntSlotWrite 256, .puntTimeout 256,
    .puntConfigWrite .pcie 256 0, .upRdWrite .pcie 256 0, .dnWrWrite .pcie 256 0,
    .injectSlot 256 [] false, .bridgeOperation .pcie false 4294967296 [] 0, .bridgeOperation .pcie false 0 [] 65,
    .bridgeTimeout 3, .prefetchExpiry 3, .thermalSample 64 0,
    .thermalSample 0 65536, .thermalCritical 64, .pmbusPoll 8 none,
    .blockHeader 65536 [], .submitBlock 65536 []] : List Instr).all (fun c => !c.wellFormed) = true := by
  decide

theorem test_illFormed_7 : ([
    .activateImage 4 false none, .revokeKeys 256, .threadReopen 1024 false,
    .networkWake 66, .obsReq 256 0, .obsReq 0 4,
    .jtagInstruction 8, .leakTick 8, .scrubAccess 8 0 [],
    .scrubAccess 0 4294967296 [], .mergeFlush 8, .fifoParityError 65536,
    .traceRecord 2, .traceFrame 2, .olLockChange 2 0,
    .olLockChange 0 3, .faultReport 4294967296 0 0 0, .faultReport 0 1024 0 0,
    .faultReport 0 0 4 0, .faultReport 0 0 0 65536, .coalescerClose 257,
    .joinHelloSend 1024, .joinHello 1024 [], .neighbourLoss 1024,
    .joinRecords 1024 [], .joinAck 1024 [], .joinResend 1024,
    .joinComplete 1024 [], .joinReport 1024 [], .remoteFaultEnd 1024,
    .lpiReceiveChange 1024 false, .recoveryResetTimeout 65536, .gptpMessageSend 1024 0,
    .gptpMessageSend 0 16, .bobbinMirrorReport 4096] : List Instr).all (fun c => !c.wellFormed) = true := by
  decide

theorem test_illFormed_long :
    Instr.wellFormed (.frameReceive 0 (List.replicate 16385 0) 0 0) = false ∧
    Instr.wellFormed (.plcaFrameReceive 0 (List.replicate 16385 0) 0 0) = false ∧
    Instr.wellFormed (.keyUpdateSubmit .pcie 0 (List.replicate 65537 0)) = false ∧
    Instr.wellFormed (.seamBlock 0 (List.replicate 33 0) false) = false ∧
    Instr.wellFormed (.seamHello [] 0 (List.replicate 97 0) false) = false ∧
    Instr.wellFormed (.heartbeatReceive 0 (List.replicate 161 0) false) = false ∧
    Instr.wellFormed (.mirrorPacket (List.replicate 65553 0) false) = false ∧
    Instr.wellFormed (.txnRequest (List.replicate 1057 0)) = false ∧
    Instr.wellFormed (.txnPrepare 0 (List.replicate 1057 0)) = false ∧
    Instr.wellFormed (.oapRelay 0 [] [] (List.replicate 1501 0)) = false ∧
    Instr.wellFormed (.injectSlot 0 (List.replicate 16385 0) false) = false ∧
    Instr.wellFormed (.bridgeOperation .pcie false 0 (List.replicate 65 0) 0) = false ∧
    Instr.wellFormed (.bridgeRequestReceive (List.replicate 273 0)) = false ∧
    Instr.wellFormed (.anchorUpdate (List.replicate 65537 0)) = false ∧
    Instr.wellFormed (.blockHeader 0 (List.replicate 1025 0)) = false ∧
    Instr.wellFormed (.submitBlock 0 (List.replicate 65537 0)) = false ∧
    Instr.wellFormed (.lifecycleReq (List.replicate 65537 0)) = false ∧
    Instr.wellFormed (.scrubAccess 0 0 (List.replicate 138 0)) = false ∧
    Instr.wellFormed (.joinHello 0 (List.replicate 1501 0)) = false ∧
    Instr.wellFormed (.joinRecords 0 (List.replicate 1501 0)) = false ∧
    Instr.wellFormed (.joinAck 0 (List.replicate 1501 0)) = false ∧
    Instr.wellFormed (.joinComplete 0 (List.replicate 1501 0)) = false ∧
    Instr.wellFormed (.joinReport 0 (List.replicate 1501 0)) = false := by
  simp only [Instr.wellFormed, List.length_replicate]
  decide

end Sys2Proof.Machine
end

/-! ## The type rules of a written word (R12, R13, R480)

A register write is read off bit by bit: what the write of one field leaves of a bit, then what the writes of fields apart
from one another, made one after the other, leave of it. The statements about whole fields follow from those about bits. -/

namespace Sys2Proof.Machine

/-- What a write leaves of a bit o of a field of type ty when the bit n is written (R12), in a block locked or not (R480). -/
def writtenBit (locked : Bool) (ty : FieldType) (o n : Bool) : Bool :=
  match ty with
  | .rw => n
  | .rwl => if locked then o else n
  | .w1c => o && !n
  | .w1s => o || n
  | .ro | .rc | .wo => o

/-- The write of a list of fields, one after the other. -/
def writeFields (locked : Bool) (new : Word) (fs : List FieldDesc) (old : Word) : Word :=
  fs.foldl (fun w f => writeField locked new w f) old

theorem writeWord_eq_writeFields (locked : Bool) (d : RegDesc) (old new : Word) :
    writeWord locked d old new = writeFields locked new d.fields old := rfl

@[simp] theorem writeFields_nil (locked : Bool) (new old : Word) : writeFields locked new [] old = old := rfl

@[simp] theorem writeFields_cons (locked : Bool) (new old : Word) (f : FieldDesc) (fs : List FieldDesc) :
    writeFields locked new (f :: fs) old = writeFields locked new fs (writeField locked new old f) := rfl

/-- Bit i of a field is bit lo + i of its word. -/
theorem testBit_getF (w : Word) (f : Fld) (i : Nat) :
    (getF w f).testBit i = (decide (i < Fld.width f) && w.getLsbD (f.lo + i)) := by
  rw [getF, Nat.testBit_mod_two_pow, Nat.testBit_shiftRight, BitVec.testBit_toNat]

/-- Words that agree on the bits of a field agree on the field. -/
theorem getF_congr {v w : Word} {f : Fld} (h : f.lo ≤ f.hi)
    (hbits : ∀ k, f.lo ≤ k → k ≤ f.hi → v.getLsbD k = w.getLsbD k) : getF v f = getF w f := by
  refine Nat.eq_of_testBit_eq fun i => ?_
  have hw := Fld.width_le f h
  by_cases hi : i < Fld.width f
  · simp [testBit_getF, hbits (f.lo + i) (by omega) (by omega)]
  · simp [testBit_getF, hi]

/-- Copying a field of another word replaces the field's bits and no other. -/
theorem getLsbD_setF_getF (w v : Word) (f : Fld) (k : Nat) (h : f.lo ≤ f.hi) (h32 : f.hi < 32) :
    (setF w f (getF v f)).getLsbD k = if f.lo ≤ k ∧ k ≤ f.hi then v.getLsbD k else w.getLsbD k := by
  have hw := Fld.width_le f h
  simp only [← BitVec.testBit_toNat, testBit_setF w f _ k h h32]
  by_cases hlo : k < f.lo
  · rw [if_pos hlo, if_neg (by omega)]
  · by_cases hhi : k ≤ f.hi
    · have hk : f.lo + (k - f.lo) = k := by omega
      rw [if_neg hlo, if_pos hhi, if_pos ⟨by omega, hhi⟩, testBit_getF, hk, decide_eq_true (by omega), Bool.true_and,
        BitVec.testBit_toNat]
    · rw [if_neg hlo, if_neg hhi, if_neg (by omega)]

/-- The write of a field: its bits as their type says, every other bit as it was. -/
theorem getLsbD_writeField (locked : Bool) (new old : Word) (d : FieldDesc) (k : Nat) (h : d.fld.lo ≤ d.fld.hi)
    (h32 : d.fld.hi < 32) :
    (writeField locked new old d).getLsbD k =
      if d.fld.lo ≤ k ∧ k ≤ d.fld.hi then writtenBit locked d.ty (old.getLsbD k) (new.getLsbD k) else old.getLsbD k := by
  have hset (v : Word) := getLsbD_setF_getF old v d.fld k h h32
  have hkept : old.getLsbD k = if d.fld.lo ≤ k ∧ k ≤ d.fld.hi then old.getLsbD k else old.getLsbD k := (ite_self _).symm
  unfold writeField writtenBit
  cases d.ty with
  | rw => exact hset new
  | rwl => cases locked with
    | false => exact hset new
    | true => exact hkept
  | w1c =>
    refine (hset _).trans (ite_congr rfl (fun ⟨_, hk⟩ => ?_) fun _ => rfl)
    have hk32 : k < 32 := by omega
    simp [hk32]
  | w1s => simp [hset]
  | ro | rc | wo => exact hkept

/-- The write of a list of fields leaves a bit outside them all as it was. -/
theorem getLsbD_writeFields_outside (locked : Bool) (new : Word) {fs : List FieldDesc} {k : Nat}
    (hin : ∀ f ∈ fs, f.fld.lo ≤ f.fld.hi ∧ f.fld.hi < 32) (hk : ∀ f ∈ fs, k < f.fld.lo ∨ f.fld.hi < k) (old : Word) :
    (writeFields locked new fs old).getLsbD k = old.getLsbD k := by
  induction fs generalizing old with
  | nil => rw [writeFields_nil]
  | cons g gs ih =>
    obtain ⟨hg, hgs⟩ := List.forall_mem_cons.mp hin
    obtain ⟨hkg, hkgs⟩ := List.forall_mem_cons.mp hk
    rw [writeFields_cons, ih hgs hkgs, getLsbD_writeField locked new old g k hg.1 hg.2, if_neg (by omega)]

/-- The write of fields apart from one another leaves a bit of each as that field's own write does: the fields before and
after it in the list do not touch the bit. -/
theorem getLsbD_writeFields_inside (locked : Bool) (new : Word) {fs : List FieldDesc} {f : FieldDesc} {k : Nat}
    (hin : ∀ f ∈ fs, f.fld.lo ≤ f.fld.hi ∧ f.fld.hi < 32)
    (hapart : fs.Pairwise (fun f g => f.fld.hi < g.fld.lo ∨ g.fld.hi < f.fld.lo))
    (hf : f ∈ fs) (hlo : f.fld.lo ≤ k) (hhi : k ≤ f.fld.hi) (old : Word) :
    (writeFields locked new fs old).getLsbD k = writtenBit locked f.ty (old.getLsbD k) (new.getLsbD k) := by
  induction fs generalizing old with
  | nil => cases hf
  | cons g gs ih =>
    obtain ⟨hg, hgs⟩ := List.forall_mem_cons.mp hin
    obtain ⟨hgapart, hgsapart⟩ := List.pairwise_cons.mp hapart
    rw [writeFields_cons]
    rcases List.mem_cons.mp hf with rfl | hfgs
    · have hafter : ∀ g ∈ gs, k < g.fld.lo ∨ g.fld.hi < k := fun e he => by
        have := hgapart e he
        omega
      rw [getLsbD_writeFields_outside locked new hgs hafter, getLsbD_writeField locked new old f k hg.1 hg.2,
        if_pos ⟨hlo, hhi⟩]
    · have hbefore : k < g.fld.lo ∨ g.fld.hi < k := by
        have := hgapart f hfgs
        omega
      rw [ih hgs hgsapart hfgs, getLsbD_writeField locked new old g k hg.1 hg.2, if_neg (by omega)]

/-- Settles O53: every bit of a field is its type's `writtenBit` (induction over the fields, which lie apart), and the
fields' values follow from their bits. -/
theorem fieldsOfAWrittenWord : Obligations.FieldsOfAWrittenWord := by
  intro locked d old new hin hapart
  simp only [writeWord_eq_writeFields]
  refine ⟨fun f hf => ?_, fun k hk => getLsbD_writeFields_outside locked new hin hk old⟩
  have hle := (hin f hf).1
  have hbit {k : Nat} (hlo : f.fld.lo ≤ k) (hhi : k ≤ f.fld.hi) :=
    getLsbD_writeFields_inside locked new hin hapart hf hlo hhi old
  refine ⟨fun hty => ?rw, fun hty => ?rwl, fun hty => ?kept, fun k hlo hhi => ⟨fun hty => ?w1c, fun hty => ?w1s⟩⟩
  case rw => exact getF_congr hle fun k hlo hhi => by rw [hbit hlo hhi, hty]; rfl
  case rwl => cases locked <;> exact getF_congr hle fun k hlo hhi => by rw [hbit hlo hhi, hty]; rfl
  case kept =>
    refine getF_congr hle fun k hlo hhi => (hbit hlo hhi).trans ?_
    rcases hty with h | h | h <;> rw [h] <;> rfl
  case w1c => rw [hbit hlo hhi, hty]; rfl
  case w1s => rw [hbit hlo hhi, hty]; rfl

end Sys2Proof.Machine

/-! ## Discards (R29, R582) -/

namespace Sys2Proof.Machine

/-- Reasons below 16 keep the drop counters of different tenants and reasons apart. -/
theorem dropKey_eq_iff {u q t r : Nat} (hq : q < 16) (hr : r < 16) : dropKey u q = dropKey t r ↔ u = t ∧ q = r := by
  simp only [dropKey]
  omega

/-- Settles O60: a discard writes one entry of the drop counters, whose key names one tenant and reason. -/
theorem discardCountsOnceUnderItsReason : Obligations.DiscardCountsOnceUnderItsReason := by
  intro s t r u q hr hq
  refine ⟨?count, State.dropFor_frame s t r, fun _ => rfl, rfl⟩
  case count =>
    split
    · next h =>
      obtain ⟨rfl, rfl⟩ := h
      exact State.dropFor_count s u q
    · next h => exact State.dropFor_count_other s t r u q (mt (dropKey_eq_iff hq hr).mp h)

end Sys2Proof.Machine

/-! ## Table commands (R24, R216, R230, R233 to R236, R245, R246, R249, R250, R428)

Each command's effect is given by an equation of the model's own operation under the command's guard. The walker's visit is
an induction over the ways of its bucket: dropping one entry moves neither the time nor any tenant's age limit, so what is
aged before the visit is what is aged at each way's turn. -/

namespace Sys2Proof.Machine

/-- Once the host's interfaces are up an access takes its effect. -/
theorem State.hostAccess_of_up {s : State} (h : s.hostUp = true) (t : State) : s.hostAccess t = t := if_pos h

/-! ### Lookup -/

/-- An item with no tenant is discarded as unbound. -/
theorem State.lookupOp_unbound {s t : State} {p : Nat} {full : List Nat} {slow : Bool} {it : Item} {rest : List Item}
    (hin : Sparse.get (fun _ => []) s.parserIn p = it :: rest)
    (ht : t = State.pressed { s with parserIn := Sparse.set (fun _ => []) s.parserIn p rest } p full)
    (hten : t.parsedTenant it = none) :
    s.lookupOp p full slow = t.dropItem { it with tenant := 1024 } rUnbound := by
  subst ht
  simp only [State.lookupOp, hin, hten]

/-- An item with a tenant, an injected frame stamped, takes its lookup; of a bad one only its offers stay. -/
theorem State.lookupOp_bound {s t : State} {p ten : Nat} {full : List Nat} {slow : Bool} {it : Item} {rest : List Item}
    (hin : Sparse.get (fun _ => []) s.parserIn p = it :: rest)
    (ht : t = State.pressed { s with parserIn := Sparse.set (fun _ => []) s.parserIn p rest } p full)
    (hten : t.parsedTenant it = some ten) :
    s.lookupOp p full slow =
      let jt := if it.eth = true ∧ it.member ≠ 0 then { it with stamp := t.mer } else it
      let u := t.lookupItem p { jt with tenant := ten } full slow
      if it.bad = true then { t with offers := u.offers } else u := by
  subst ht
  simp only [State.lookupOp, hin, hten]
  by_cases hj : it.eth = true ∧ it.member ≠ 0 <;> simp [hj]

/-! ### Staged writes and commits -/

/-- A word other than the commit word goes to the writer's staging copy. -/
theorem State.tableStage_of_ne_commit {s : State} {who a base k : Nat} {w : Word} {d : TableDesc}
    (he : stagedEntry? a = some (d, base, k)) (hk : k ≠ d.commit) : s.tableStage who a w = s.stageWord who a w := by
  simp only [State.tableStage, he, if_neg hk]

/-- The commit word of a table with no commit rule of its own stores the staged words. -/
theorem State.tableCommit_plain {s : State} {who a base : Nat} {w : Word} {d : TableDesc}
    (he : stagedEntry? a = some (d, base, d.commit))
    (hd : d.base ∉ [0x00B80000, 0x00B82000, 0x00B82080, 0x00E00000, 0x00E08000, 0x05100000, 0x07000000, 0x0A000000,
      0x0A100000, 0x0A200000]) :
    (s.tableCommit who a w).2 = (s.commitEntry who d base w).afterCommit base := by
  simp only [List.mem_cons, List.not_mem_nil, or_false, not_or] at hd
  simp [State.tableCommit, he, hd]

/-- The commit word of a table with a commit rule of its own. -/
theorem State.tableCommit_ruled {s : State} {who a base : Nat} {w : Word} {d : TableDesc}
    (he : stagedEntry? a = some (d, base, d.commit)) :
    (d.base = 0x00B80000 → (s.tableCommit who a w).2 = (s.eqCommit who ((base - 0x00B80000) / 8) w).2) ∧
    (d.base = 0x00E00000 → (s.tableCommit who a w).2 = (s.attCommit who ((base - 0x00E00000) / 32) w).2) ∧
    (d.base = 0x00E08000 → (s.tableCommit who a w).2 = s.injCommit who ((base - 0x00E08000) / 16) w) ∧
    (d.base = 0x05100000 → (s.tableCommit who a w).2 = (s.lagCommit who ((base - 0x05100000) / 512) w).2) ∧
    (d.base = 0x07000000 → (s.tableCommit who a w).2 = (s.bobCommit who ((base - 0x07000000) / 128) w).2) := by
  refine ⟨?_, ?_, ?_, ?_, ?_⟩ <;> intro hd <;> simp [State.tableCommit, he, hd]

/-! ### Ownership -/

/-- A write of an unlocked ownership entry is taken where the entry is not in use, and is an ownership error where it is. -/
theorem State.ownerWriteOp_unlocked {s : State} {i : Iface} {a : Nat} {w : Word} (hup : s.hostUp = true)
    (hown : ownerTable a ≠ 0) (hlock : s.flag CORE_TBLCTRL CORE_TBLCTRL_LOCK = false) :
    s.ownerWriteOp i a w = if s.ownerBusy a = true then
      (if ownerTable a = 4 then s.setFld PANEL_STEVT PANEL_STEVT_OWN_ERR 1 else s.tblEvent CORE_TBLEVT_OWN_ERR)
      else s.typedWrite i a w := by
  rw [State.ownerWriteOp, if_neg hown, State.hostAccess_of_up hup]
  cases hbusy : s.ownerBusy a <;> simp [State.ownerWrite, hlock, hbusy]

/-! ### The walker -/

/-- What a visit does to one way: its aged entry is dropped and counted. -/
def State.walkWay (s : State) (k : Nat) : State :=
  if (s.staAt k).any s.staAged = true then (s.staDrop k).tblCount 6 else s

theorem State.walkWay_of_aged {s : State} {k : Nat} (h : (s.staAt k).any s.staAged = true) :
    s.walkWay k = (s.staDrop k).tblCount 6 := if_pos h

theorem State.walkWay_of_kept {s : State} {k : Nat} (h : ¬ (s.staAt k).any s.staAged = true) : s.walkWay k = s := if_neg h

/-- A visit goes through the ways of its bucket one after the other. -/
theorem State.walkerOp_eq_foldl {s : State} {b : Nat} (hen : s.flag CORE_TBLCTRL CORE_TBLCTRL_WALK_EN = true) :
    s.walkerOp b = (staWays b).foldl State.walkWay s := by
  simp only [State.walkerOp, hen, Bool.not_true, Bool.false_eq_true, if_false]
  congr 1
  funext t k
  unfold State.walkWay
  cases t.staAt k <;> rfl

/-- Ageing looks at the time and at the tenants' first words only. -/
theorem State.staAged_congr {s t : State} (hmer : t.mer = s.mer) (hlim : ∀ ten, t.rd (TENANT ten) = s.rd (TENANT ten)) :
    t.staAged = s.staAged := by
  have hlimit (ten : Nat) : t.ageLimit ten = s.ageLimit ten := by simp only [State.ageLimit, State.fld, hlim]
  have hcoarse : t.coarse = s.coarse := by simp only [State.coarse, hmer]
  funext e
  rw [State.staAged, State.staAged, hlimit, hcoarse]

theorem State.walkWay_mer (s : State) (k : Nat) : (s.walkWay k).mer = s.mer := by
  unfold State.walkWay State.staDrop
  split
  · split <;> rfl
  · rfl

/-- A drop writes the tenant's third word and the count its own: no tenant's first word. -/
theorem State.walkWay_rd_tenant (s : State) (k ten : Nat) : (s.walkWay k).rd (TENANT ten) = s.rd (TENANT ten) := by
  have hcount (t : State) : (t.tblCount 6).rd (TENANT ten) = t.rd (TENANT ten) :=
    State.rd_wr_other _ _ _ _ (by simp only [TENANT, CORE_TBLCNTc]; omega)
  unfold State.walkWay State.staDrop
  split
  · rw [hcount]
    split
    · exact State.rd_setFld_other _ _ _ _ _ (by simp only [TENANT]; omega)
    · rfl
  · rfl

theorem State.walkWay_staAged (s : State) (k : Nat) : (s.walkWay k).staAged = s.staAged :=
  State.staAged_congr (s.walkWay_mer k) (s.walkWay_rd_tenant k)

/-- Dropping the entry at a place empties it and no other place. -/
theorem State.staDrop_staAt (s : State) (k j : Nat) : (s.staDrop k).staAt j = if j = k then none else s.staAt j := by
  unfold State.staDrop
  split
  · show Sparse.get (fun _ => none) (Sparse.set (fun _ => none) s.sta k none) j = _
    split
    · next hj => rw [hj, Sparse.get_set_same]
    · next hj => exact Sparse.get_set_other _ _ _ _ _ hj
  · next hk =>
    split
    · next hj => rw [hj, hk]
    · rfl

theorem State.walkWay_staAt (s : State) (k j : Nat) :
    (s.walkWay k).staAt j = if j = k ∧ (s.staAt j).any s.staAged = true then none else s.staAt j := by
  by_cases haged : (s.staAt k).any s.staAged = true
  · rw [State.walkWay_of_aged haged]
    refine (State.staDrop_staAt s k j).trans ?_
    by_cases hj : j = k
    · rw [if_pos hj, if_pos ⟨hj, hj ▸ haged⟩]
    · rw [if_neg hj, if_neg fun h => hj h.1]
  · rw [State.walkWay_of_kept haged, if_neg fun ⟨hj, h⟩ => haged (hj ▸ h)]

/-- Going through a list of ways drops their aged entries and no other. -/
theorem State.foldl_walkWay_staAt (ways : List Nat) (s : State) (j : Nat) :
    (ways.foldl State.walkWay s).staAt j =
      if j ∈ ways ∧ (s.staAt j).any s.staAged = true then none else s.staAt j := by
  induction ways generalizing s with
  | nil => simp
  | cons k ways ih =>
    rw [List.foldl_cons, ih, State.walkWay_staAged, State.walkWay_staAt]
    by_cases haged : (s.staAt j).any s.staAged = true
    · by_cases hj : j = k
      · have hdropped : (if j = k ∧ (s.staAt j).any s.staAged = true then none else s.staAt j) = none := if_pos ⟨hj, haged⟩
        rw [hdropped, ite_self, if_pos ⟨hj ▸ List.mem_cons_self, haged⟩]
      · simp [hj, haged]
    · simp [haged]

/-! ### Station and LPM commands -/

/-- The state in which the station command of a written word runs, with its data words captured. -/
def State.staRunning (s : State) (w : Word) : State :=
  State.setFld { s with staCmd := some (w, (List.range 4).map (fun k => s.rd (CORE_STADATAk k))) } CORE_STACMD CORE_STACMD_BUSY 1

/-- A station command starts where the interfaces are up and none is running. -/
theorem State.staStart_idle {s : State} {op : Nat} {w : Word} (hup : s.hostUp = true)
    (hidle : s.flag CORE_STACMD CORE_STACMD_BUSY = false) (hop : getF w CORE_STACMD_OP = op) (h0 : op ≠ 0) (h5 : op ≤ 5) :
    s.staStart op w = s.staRunning w := by
  rw [State.staStart, if_pos hop, State.hostAccess_of_up hup]
  simp [State.staWrite, State.staRunning, hidle, hop, h0, h5]

/-- The state in which the LPM command of a written word runs, with its key and leaf captured after the write. -/
def State.lpmRunning (t : State) (w : Word) : State :=
  State.setFld { t with lpmCmd := some (w, [t.rd CORE_LPMKEY0, t.rd CORE_LPMKEY1, t.rd CORE_LPMLEAF]) } CORE_LPMCMD
    CORE_LPMCMD_BUSY 1

/-- An LPM command starts where the interfaces are up and none is running. -/
theorem State.lpmStart_idle {s : State} {i : Iface} {op : Nat} {w : Word} (hup : s.hostUp = true)
    (hidle : s.flag CORE_LPMCMD CORE_LPMCMD_BUSY = false) (hop : getF w CORE_LPMCMD_OP = op) (h0 : op ≠ 0) (h4 : op ≤ 4) :
    s.lpmStart i op w = (s.typedWrite i CORE_LPMCMD w).lpmRunning w := by
  rw [State.lpmStart, if_pos hop, State.hostAccess_of_up hup]
  simp [State.lpmWrite, State.lpmRunning, hidle, hop, h0, h4]

/-! ### Fences -/

/-- A request clears DONE. -/
theorem State.fenceWrite_done {s : State} {w : Word} (hreq : getB w CORE_TBLFENCE_REQ = true) :
    (s.fenceWrite w).flag CORE_TBLFENCE CORE_TBLFENCE_DONE = false := by
  rw [State.fenceWrite, if_pos hreq]
  exact State.flag_setFld_same _ CORE_TBLFENCE CORE_TBLFENCE_DONE 0 (by decide) (by decide)

/-- A request marks every running work item. -/
theorem State.fenceWrite_engs {s : State} {w : Word} (hreq : getB w CORE_TBLFENCE_REQ = true) :
    (∀ p ∈ (s.fenceWrite w).engs, ∀ r : Run, p.2.run = some r → r.fenced = true) ∧
      (s.fenceWrite w).engs.length = s.engs.length := by
  simp only [State.fenceWrite, if_pos hreq, State.setFld_engs, List.length_map, and_true]
  intro p hp r hr
  obtain ⟨q, -, rfl⟩ := List.mem_map.mp hp
  obtain ⟨r', -, rfl⟩ := Option.map_eq_some_iff.mp hr
  rfl

/-- A request marks every held cipher request. -/
theorem State.fenceWrite_lanes {s : State} {w : Word} (hreq : getB w CORE_TBLFENCE_REQ = true) :
    (∀ p ∈ (s.fenceWrite w).lanes, ∀ q ∈ p.2.reqs, q.fenced = true) ∧ (s.fenceWrite w).lanes.length = s.lanes.length := by
  simp only [State.fenceWrite, if_pos hreq, State.setFld_lanes, List.length_map, and_true]
  intro p hp q hq
  obtain ⟨p', -, rfl⟩ := List.mem_map.mp hp
  obtain ⟨q', -, rfl⟩ := List.mem_map.mp hq
  rfl

/-! ### The statement -/

/-- Settles O25: every clause is the equation of its command's operation, the walker's the induction over its ways. -/
theorem tableCommandsComplete : Obligations.TableCommandsComplete := by
  refine ⟨?lookup, ?stage, ?commit, ?ruledCommit, ?owner, ?walker, ?station, ?stationDone, ?lpm, ?lpmDone, ?fence,
    ?recovery⟩
  case lookup =>
    intro s t p ten full slow it jt rest hin ht hjt
    refine ⟨fun hten => ?_, fun hten hbad => ?_, fun hten hbad => ?_⟩
    · exact next_settle_congr _ _ _ (State.lookupOp_unbound hin ht hten)
    · refine next_settle_congr _ _ _ ((State.lookupOp_bound hin ht hten).trans ?_)
      simp only [hbad, hjt, Bool.false_eq_true, if_false]
    · refine next_settle_congr _ _ _ ((State.lookupOp_bound hin ht hten).trans ?_)
      simp only [hbad, hjt, if_true]
  case stage =>
    intro s i a base k w d hup he hk
    exact next_settle_congr _ _ _ ((State.hostAccess_of_up hup _).trans (State.tableStage_of_ne_commit he hk))
  case commit =>
    intro s i a base w d hup he hd
    exact next_settle_congr _ _ _ ((State.hostAccess_of_up hup _).trans (State.tableCommit_plain he hd))
  case ruledCommit =>
    intro s i a base w d hup he
    have hcommit {t : State} (h : (s.tableCommit (ifaceNum i) a w).2 = t) :
        exec (.tableCommit i a w) s = .next (settle s t) :=
      next_settle_congr _ _ _ ((State.hostAccess_of_up hup _).trans h)
    obtain ⟨heq, hatt, hinj, hlag, hbob⟩ := State.tableCommit_ruled (s := s) (who := ifaceNum i) (w := w) he
    exact ⟨fun hd => hcommit (heq hd), fun hd => hcommit (hatt hd), fun hd => hcommit (hinj hd), fun hd => hcommit (hlag hd),
      fun hd => hcommit (hbob hd)⟩
  case owner =>
    intro s i a w hup hown hlock
    have heffect := State.ownerWriteOp_unlocked (i := i) (w := w) hup hown hlock
    exact ⟨fun hbusy => next_settle_congr _ _ _ (heffect.trans (if_neg (ne_true_of_eq_false hbusy))),
      fun hbusy => next_settle_congr _ _ _ (heffect.trans (if_pos hbusy))⟩
  case walker =>
    intro s b hen
    refine ⟨_, rfl, fun k => ?_⟩
    rw [State.walkerOp_eq_foldl hen, ← State.foldl_walkWay_staAt (staWays b) s k]
    simp only [State.staAt, settle_sta]
  case station =>
    intro s i w hup hidle
    have hstart {op : Nat} (hop : getF w CORE_STACMD_OP = op) (h0 : op ≠ 0) (h5 : op ≤ 5) :
        finish s (s.staStart op w) = .next (settle s (s.staRunning w)) :=
      next_settle_congr _ _ _ (State.staStart_idle hup hidle hop h0 h5)
    exact ⟨fun h => hstart h (by decide) (by decide), fun h => hstart h (by decide) (by decide),
      fun h => hstart h (by decide) (by decide), fun h => hstart h (by decide) (by decide),
      fun h => hstart h (by decide) (by decide)⟩
  case stationDone =>
    intro s t w data l r hcmd hrun
    refine next_settle_congr _ _ _ ?_
    cases l <;> simp only [State.staDoneOp, hcmd, hrun]
  case lpm =>
    intro s t i w hup hidle ht
    have hstart {op : Nat} (hop : getF w CORE_LPMCMD_OP = op) (h0 : op ≠ 0) (h4 : op ≤ 4) :
        finish s (s.lpmStart i op w) = .next (settle s (t.lpmRunning w)) :=
      next_settle_congr _ _ _ (ht ▸ State.lpmStart_idle hup hidle hop h0 h4)
    exact ⟨fun h => hstart h (by decide) (by decide), fun h => hstart h (by decide) (by decide),
      fun h => hstart h (by decide) (by decide), fun h => hstart h (by decide) (by decide)⟩
  case lpmDone =>
    intro s t w l e r op fam hcmd hop hfam hrun
    subst hop hfam
    refine next_settle_congr _ _ _ ?_
    cases e <;> simp only [State.lpmDoneOp, hcmd, hrun]
  case fence =>
    intro s i w hup hreq
    have heffect : s.fenceOp i w = s.fenceWrite w := State.hostAccess_of_up hup _
    obtain ⟨hengs, hengsLen⟩ := State.fenceWrite_engs (s := s) hreq
    obtain ⟨hlanes, hlanesLen⟩ := State.fenceWrite_lanes (s := s) hreq
    refine ⟨settle s (s.fenceWrite w), next_settle_congr _ _ _ heffect, ?_⟩
    simp only [settle_flag, settle_engs, settle_lanes]
    exact ⟨State.fenceWrite_done hreq, hengs, hengsLen, hlanes, hlanesLen⟩
  case recovery =>
    intro s h due hdue hle
    refine next_settle_congr _ _ _ ?_
    simp only [State.recovTimeoutOp, hdue, if_pos hle]

end Sys2Proof.Machine

/-! ## Folds and the settled state -/

namespace Sys2Proof.Machine

/-- What no step of a fold changes, the fold does not change. -/
theorem State.foldl_keeps {β γ : Type} (g : State → γ) {f : State → β → State} (h : ∀ t b, g (f t b) = g t) (l : List β)
    (s : State) : g (l.foldl f s) = g s := by
  induction l generalizing s with
  | nil => rfl
  | cons b l ih => rw [List.foldl_cons, ih, h]

@[simp] theorem settle_gov (s t : State) (d : Nat) : (settle s t).gov d = t.gov d := by simp [State.gov]

@[simp] theorem State.log_out (s : State) (rule inst : Nat) (p : List Nat) : (s.log rule inst p).out = s.out := by
  rw [State.log_frame]

@[simp] theorem State.log_gov (s : State) (rule inst : Nat) (p : List Nat) (d : Nat) : (s.log rule inst p).gov d = s.gov d := by
  rw [State.log_frame]; rfl

end Sys2Proof.Machine

/-! ## Pace governors (R53, R55, R57, R59 to R64, R66)

A control period's end is the period's count (`periodOver`), the command it sends (`periodSend`) and the breach rule
(`periodBreach`). Only the second moves a target or sends a voltage write, so what a period's end answers follows from what
the governor wants. -/

namespace Sys2Proof.Machine

/-! ### The breach rule and the level -/

/-- The breach rule notes when a die's breach began, and nothing else. -/
theorem State.trackBreach_cases (s : State) (d : Nat) :
    s.trackBreach d = s ∨ ∃ b, s.trackBreach d = s.setGov d { s.gov d with breachAt := b } := by
  simp only [State.trackBreach]
  split
  · split
    · exact .inl rfl
    · exact .inr ⟨_, rfl⟩
  · exact .inr ⟨_, rfl⟩

/-- The change between DEGRADED and the states under it is at most a change of node state. -/
theorem State.settleDegraded_cases (s : State) :
    s.settleDegraded = s ∨ ∃ under n, s.settleDegraded = State.setNode { s with nodeUnder := under } n := by
  simp only [State.settleDegraded]
  split
  · exact .inr ⟨_, _, rfl⟩
  · split
    · exact .inr ⟨_, _, rfl⟩
    · exact .inl rfl

@[simp] theorem State.settleDegraded_gov (s : State) (d : Nat) : s.settleDegraded.gov d = s.gov d := by
  obtain h | ⟨under, n, h⟩ := s.settleDegraded_cases
  · rw [h]
  · rw [h, State.setNode_frame]; rfl

@[simp] theorem State.settleDegraded_out (s : State) : s.settleDegraded.out = s.out := by
  obtain h | ⟨under, n, h⟩ := s.settleDegraded_cases
  · rw [h]
  · rw [h, State.setNode_frame]

/-- Of the governors a change of level touches its die's level and the moment of the change. -/
theorem State.setLevel_gov (s : State) (d l e : Nat) :
    (s.setLevel d l).gov e = (s.setGov d { s.gov d with level := l, levelAt := s.mer }).gov e := by
  simp only [State.setLevel, State.settleDegraded_gov, State.log_gov]
  rfl

@[simp] theorem State.setLevel_out (s : State) (d l : Nat) : (s.setLevel d l).out = s.out := by
  simp only [State.setLevel, State.settleDegraded_out, State.log_out]
  rfl

/-! ### The parts of a control period's end -/

theorem State.foldl_periodMon (held : Bool) (l : List Nat) (s : State) :
    ∃ m, l.foldl (fun t n => t.periodMon held n) s = { s with mons := m } := by
  induction l generalizing s with
  | nil => exact ⟨_, rfl⟩
  | cons n l ih =>
    obtain ⟨m, h⟩ := ih (s.periodMon held n)
    exact ⟨m, h⟩

/-- The count of a period touches the monitors, and of the die's governor the calm periods and the period's end. -/
theorem State.periodOver_cases (s : State) (d : Nat) (want : Option Nat) :
    ∃ m k, s.periodOver d want =
      State.setGov { s with mons := m } d { s.gov d with calm := k, raised := false, periodAt := s.mer } := by
  obtain ⟨m, h⟩ := s.foldl_periodMon (!s.paceEn || (s.gov d).target == s.vmax) (dieMons d)
  simp only [State.periodOver, h]
  exact ⟨m, _, rfl⟩

/-- A die's breach changes no target, no period's end and no other governor, and sends nothing. -/
theorem State.periodBreach_keeps (s : State) (d : Nat) :
    ((s.periodBreach d).gov d).target = (s.gov d).target ∧ ((s.periodBreach d).gov d).periodAt = (s.gov d).periodAt ∧
      (s.periodBreach d).out = s.out ∧ ∀ e, e ≠ d → (s.periodBreach d).gov e = s.gov e := by
  have htrack : ((s.trackBreach d).gov d).target = (s.gov d).target ∧ ((s.trackBreach d).gov d).periodAt = (s.gov d).periodAt ∧
      (s.trackBreach d).out = s.out ∧ ∀ e, e ≠ d → (s.trackBreach d).gov e = s.gov e := by
    obtain h | ⟨b, h⟩ := s.trackBreach_cases d
    · rw [h]; exact ⟨rfl, rfl, rfl, fun _ _ => rfl⟩
    · rw [h, State.gov_setGov_same]
      exact ⟨rfl, rfl, rfl, fun e he => State.gov_setGov_other _ _ _ _ he⟩
  simp only [State.periodBreach]
  split
  · obtain ⟨htarget, hat, hout, hother⟩ := htrack
    rw [State.setLevel_gov, State.gov_setGov_same, State.setLevel_out]
    refine ⟨htarget, hat, hout, fun e he => ?_⟩
    rw [State.setLevel_gov, State.gov_setGov_other _ _ _ _ he, hother e he]
  · exact htrack

/-! ### What a period's end answers -/

theorem State.avsStart_gov (s : State) (d mv e : Nat) :
    (s.avsStart d mv).gov e =
      (s.setGov d { s.gov d with target := mv, started := true, lastCmd := some s.mer,
                                 tx := some { mv := mv, attempts := 1, held := none } }).gov e := rfl

theorem State.avsStart_out (s : State) (d mv : Nat) : (s.avsStart d mv).out = .avs d 1 mv :: .avs d 0 mv :: s.out := rfl

/-- A period's end whose wanted target goes out as a command. -/
theorem State.controlPeriod_sends {s : State} {d v want : Nat} (hdue : (s.gov d).periodAt + s.paceTicks ≤ s.mer)
    (hboot : 4 ≤ s.pw.boot) (htx : (s.gov d).tx = none) (hwant : s.periodWant d = some want) (hv : s.clampMv want = v)
    (hne : v ≠ (s.gov d).target) (herr : (s.gov d).avsErr = false ∨ (s.gov d).target < v) :
    ∃ t : State, exec (.controlPeriodEnd d) s = .next t ∧ (t.gov d).target = v ∧ (t.gov d).periodAt = s.mer ∧
      Out.avs d 0 v ∈ t.out ∧ Out.avs d 1 v ∈ t.out ∧ (∀ e, e ≠ d → t.gov e = s.gov e) := by
  obtain ⟨m, k, hover⟩ := s.periodOver_cases d (some want)
  have hclamp : (s.periodOver d (some want)).clampMv want = v := by rw [hover]; exact hv
  have hgov : (s.periodOver d (some want)).gov d = { s.gov d with calm := k, raised := false, periodAt := s.mer } := by
    rw [hover, State.gov_setGov_same]
  have hsend : (s.periodOver d (some want)).periodSend d (some want) = (s.periodOver d (some want)).avsStart d v := by
    have hdrop : ((s.gov d).avsErr && decide (v ≤ (s.gov d).target)) = false := by
      rcases herr with h | h
      · simp [h]
      · simp [h]
    have hserved : ¬ (s.periodOver d (some want)).pw.boot < 4 := by rw [hover]; exact Nat.not_lt.mpr hboot
    simp [State.periodSend, State.sendTarget, hclamp, hgov, htx, hdrop, hne, hserved]
  have hop : s.controlPeriodOp d = ((s.periodOver d (some want)).avsStart d v).periodBreach d := by
    simp only [State.controlPeriodOp, if_neg (Nat.not_lt.mpr hdue), hwant, hsend]
  obtain ⟨htarget, hat, hout, hother⟩ := State.periodBreach_keeps ((s.periodOver d (some want)).avsStart d v) d
  refine ⟨Machine.settle s (s.controlPeriodOp d), rfl, ?_, ?_, settle_out_mem _ _ _ ?_, settle_out_mem _ _ _ ?_, fun e he => ?_⟩
  · rw [settle_gov, hop, htarget, State.avsStart_gov, State.gov_setGov_same]
  · rw [settle_gov, hop, hat, State.avsStart_gov, State.gov_setGov_same, hgov]
  · rw [hop, hout, State.avsStart_out]
    exact .tail _ (.head _)
  · rw [hop, hout, State.avsStart_out]
    exact .head _
  · rw [settle_gov, hop, hother e he, State.avsStart_gov, State.gov_setGov_other _ _ _ _ he, hover,
      State.gov_setGov_other _ _ _ _ he]
    rfl

/-- A voltage write, its read-back or a status read. -/
def Out.isAvs : Out → Bool
  | .avs _ _ _ => true
  | _ => false

/-- A period's end that sends no command. -/
theorem State.controlPeriod_silent {s : State} {d : Nat}
    (hsend : ∀ t : State, (t.gov d).target = (s.gov d).target → t.regs = s.regs → t.periodSend d (s.periodWant d) = t) :
    ∃ t : State, exec (.controlPeriodEnd d) s = .next t ∧ (∀ e, (t.gov e).target = (s.gov e).target) ∧
      t.out.filter Out.isAvs = s.out.filter Out.isAvs := by
  suffices h : (∀ e, ((s.controlPeriodOp d).gov e).target = (s.gov e).target) ∧ (s.controlPeriodOp d).out = s.out by
    refine ⟨Machine.settle s (s.controlPeriodOp d), rfl, fun e => ?_, ?_⟩
    · rw [settle_gov]; exact h.1 e
    · rw [settle_out_filter _ (fun _ => rfl), h.2]
  rw [State.controlPeriodOp]
  split
  · exact ⟨fun _ => rfl, rfl⟩
  · obtain ⟨m, k, hover⟩ := s.periodOver_cases d (s.periodWant d)
    have htarget : ((s.periodOver d (s.periodWant d)).gov d).target = (s.gov d).target := by
      rw [hover, State.gov_setGov_same]
    simp only [hsend _ htarget (by rw [hover]; rfl)]
    obtain ⟨hkeep, -, hout, hother⟩ := State.periodBreach_keeps (s.periodOver d (s.periodWant d)) d
    refine ⟨fun e => ?_, by rw [hout, hover]; rfl⟩
    by_cases he : e = d
    · rw [he, hkeep, htarget]
    · rw [hother e he, hover, State.gov_setGov_other _ _ _ _ he]; rfl

/-- A wanted target that clamps to the present one sends nothing. -/
theorem State.periodSend_present {s : State} {d v : Nat} (h : s.clampMv v = (s.gov d).target) : s.periodSend d (some v) = s := by
  have hsend : s.sendTarget d v = s := by
    simp only [State.sendTarget, h, Nat.lt_irrefl, if_false, if_true]
    split
    · rfl
    · split <;> rfl
  simp only [State.periodSend, hsend, ite_self]

/-! ### What the governor wants -/

/-- A sound die inside its limits asks for a raise where a margin lies below RAISE. -/
theorem State.periodTarget_raise {s : State} {d : Nat} (hsound : s.flag PACE_STAT (mfaultFld d) = false)
    (hin : s.clampMv (s.gov d).target = (s.gov d).target)
    (hlow : ∃ n ∈ s.goodMons d, sext 12 (s.fld (PACE_MONn n) PACE_MONn_MARGIN) < (s.fld PACE_THRESH PACE_THRESH_RAISE : Int)) :
    s.periodTarget d = some ((s.gov d).target + orElse (s.fld PACE_CTRL PACE_CTRL_STEP_UP) 1) := by
  simp only [State.periodTarget, hsound, hin, List.any_map]
  rw [if_neg (by decide), if_neg (by simp), if_pos]
  simpa using hlow

/-- With no margin below RAISE it asks for a lower target after HOLD calm periods, where RAISE lies below LOWER. -/
theorem State.periodTarget_high {s : State} {d : Nat} (hsound : s.flag PACE_STAT (mfaultFld d) = false)
    (hin : s.clampMv (s.gov d).target = (s.gov d).target)
    (hhigh : ∀ n ∈ s.goodMons d, (s.fld PACE_THRESH PACE_THRESH_RAISE : Int) ≤ sext 12 (s.fld (PACE_MONn n) PACE_MONn_MARGIN)) :
    s.periodTarget d =
      if !(s.goodMons d).isEmpty && orElse (s.fld PACE_CTRL PACE_CTRL_HOLD) 1 ≤ (s.gov d).calm + 1 &&
          s.fld PACE_THRESH PACE_THRESH_RAISE < s.fld PACE_THRESH PACE_THRESH_LOWER then
        some ((s.gov d).target - orElse (s.fld PACE_CTRL PACE_CTRL_STEP_DN) 1) else none := by
  simp only [State.periodTarget, hsound, hin, List.any_map]
  rw [if_neg (by decide), if_neg (by simp), if_neg]
  simpa using hhigh

theorem State.periodWant_calm {s : State} {d : Nat} (hen : s.paceEn = true) (hstarted : (s.gov d).started = true)
    (hcalm : s.periodCalm d = true) : s.periodWant d = s.periodTarget d := by
  simp [State.periodWant, hen, hstarted, hcalm]

/-- After a period that was not calm no lower target is wanted of a governor inside its limits. -/
theorem State.periodWant_not_calm {s : State} {d : Nat} (hen : s.paceEn = true) (hstarted : (s.gov d).started = true)
    (hin : s.clampMv (s.gov d).target = (s.gov d).target) (hcalm : s.periodCalm d = false) :
    s.periodWant d = ((s.calmless d).periodTarget d).filter (fun v => decide ((s.gov d).target ≤ s.clampMv v)) := by
  simp only [State.periodWant, hen, hstarted, hcalm, hin, and_true]
  cases (s.calmless d).periodTarget d with
  | none => rfl
  | some v => by_cases h : s.clampMv v < (s.gov d).target <;> simp [Option.filter, h, Nat.not_le.mpr, Nat.le_of_not_lt]

end Sys2Proof.Machine

/-! ## The end of a monitor's window (R51)

Whatever else a window's end does (a lane alarm, a tamper alarm, an emergency command) leaves the count and the margin that it
published. -/

namespace Sys2Proof.Machine

/-! ### Alarms leave the pace registers alone -/

theorem State.setNode_rd (s : State) (n : NodeState) {a : Nat} (h1 : a ≠ THIM_LOGLOST) (h2 : a ≠ THIM_EVT) :
    (s.setNode n).rd a = s.rd a := by
  unfold State.setNode
  split
  · rfl
  · rw [State.log_rd _ _ _ _ _ h1 h2]; rfl

theorem Sparse.get_filter {α : Type} (d : Nat → α) (q : Nat × α → Bool) {k : Nat} (hq : ∀ v, q (k, v) = true)
    (m : List (Nat × α)) : Sparse.get d (m.filter q) k = Sparse.get d m k := by
  induction m with
  | nil => rfl
  | cons p m ih =>
    obtain ⟨j, v⟩ := p
    by_cases hj : j = k
    · subst hj; simp [Sparse.get, hq]
    · cases hp : q (j, v) <;> simp [hp, Sparse.get, hj, ih]

section
variable {a : Nat} (ha : a < CIPH_STAT)
include ha

/-- The erasure of the key store clears the words of its slots. -/
theorem State.eraseSlots_rd (s : State) (keep : Nat → Bool) : (s.eraseSlots keep).rd a = s.rd a := by
  have hbefore : a < 0x6900000 := ha.trans (by decide)
  exact Sparse.get_filter _ _ (fun v => by simp [Nat.not_le.mpr hbefore]) _

theorem State.loseRequests_rd (s : State) (n : Nat) : (s.loseRequests n).rd a = s.rd a := by
  refine State.foldl_keeps (fun t : State => t.rd a) (fun t q => ?_) _ s
  refine (State.rd_wr_other _ _ _ _ ?_).trans ?_
  · simp only [CIPH_LANECNTn, CIPH_STAT] at ha ⊢; omega
  · unfold State.reply
    split <;> rfl

theorem State.globalTamper_rd (s : State) (cause : Nat) : (s.globalTamper cause).rd a = s.rd a := by
  have hthim : a ≠ THIM_LOGLOST ∧ a ≠ THIM_EVT := by simp only [CIPH_STAT, THIM_LOGLOST, THIM_EVT] at ha ⊢; omega
  have hciph : a ≠ CIPH_STAT ∧ a ≠ CIPH_EVT ∧ a ≠ KEYS_FILL := by simp only [CIPH_STAT, CIPH_EVT, KEYS_FILL] at ha ⊢; omega
  have hsafe (t : State) : t.enterSafe.rd a = t.rd a := by
    unfold State.enterSafe
    split
    · rfl
    · exact State.setNode_rd _ _ hthim.1 hthim.2
  simp only [State.globalTamper]
  rw [hsafe, State.log_rd _ _ _ _ _ hthim.1 hthim.2, State.rd_setFld_other _ _ _ _ _ hciph.2.1, State.rd_setFld_other _ _ _ _ _ hciph.1]
  refine (State.foldl_keeps (fun t : State => t.rd a) (fun t n => ?_) _ _).trans ?_
  · refine (State.rd_setFld_other _ _ _ _ _ ?_).trans (State.loseRequests_rd ha t n)
    simp only [CIPH_LANEn, CIPH_STAT] at ha ⊢; omega
  · exact (State.rd_setFld_other _ _ _ _ _ hciph.2.2).trans (State.eraseSlots_rd ha s _)

theorem State.laneAlarm_rd (s : State) (n cause : Nat) : (s.laneAlarm n cause).rd a = s.rd a := by
  have hthim : a ≠ THIM_LOGLOST ∧ a ≠ THIM_EVT := by simp only [CIPH_STAT, THIM_LOGLOST, THIM_EVT] at ha ⊢; omega
  have hciph : a ≠ CIPH_EVT ∧ a ≠ CIPH_LANEn n ∧ a ≠ CIPH_LANECNTn n 5 := by
    simp only [CIPH_STAT, CIPH_EVT, CIPH_LANEn, CIPH_LANECNTn] at ha ⊢; omega
  have hfld (t : State) (f : Fld) (v : Nat) : (t.setFld (CIPH_LANEn n) f v).rd a = t.rd a :=
    State.rd_setFld_other _ _ _ _ _ hciph.2.1
  have hevt (t : State) (f : Fld) (v : Nat) : (t.setFld CIPH_EVT f v).rd a = t.rd a :=
    State.rd_setFld_other _ _ _ _ _ hciph.1
  have hlost : ((s.loseRequests n).laneCount n 5).rd a = s.rd a :=
    (State.rd_wr_other _ _ _ _ hciph.2.2).trans (State.loseRequests_rd ha s n)
  unfold State.laneAlarm
  extract_lets counted recent lane alarmed caused shown logged limited recorded left
  have hlogged : logged.rd a = s.rd a := by
    refine (State.log_rd _ _ _ _ _ hthim.1 hthim.2).trans ?_
    simp only [shown, caused, hevt, hfld]
    exact hlost
  have hlimited : limited.rd a = s.rd a := by
    simp only [limited]
    split
    · rw [hevt, hfld, hfld, hlogged]
    · exact hlogged
  split
  · exact (State.globalTamper_rd ha _ _).trans hlimited
  · exact hlimited

end

/-! ### What the window published stays -/

/-- PACE_MONn shows a count and a margin. -/
def State.showsWindow (s : State) (n count margin : Nat) : Prop :=
  s.fld (PACE_MONn n) PACE_MONn_COUNT = count ∧ s.fld (PACE_MONn n) PACE_MONn_MARGIN = margin

theorem State.showsWindow_of_rd {s t : State} {n count margin : Nat} (h : t.rd (PACE_MONn n) = s.rd (PACE_MONn n))
    (hs : s.showsWindow n count margin) : t.showsWindow n count margin := by
  unfold State.showsWindow State.fld at hs ⊢
  rwa [h]

/-- The word that a window's end stores shows what it has counted. -/
theorem State.showsWindow_wr (s : State) {n count : Nat} (margin : Int) (below fault : Nat) (w : Word) (hcount : count < 65536) :
    (s.wr (PACE_MONn n) (setF (setF (setF (setF w PACE_MONn_COUNT count) PACE_MONn_MARGIN (trunc 12 margin)) PACE_MONn_BELOW
      below) PACE_MONn_FAULT fault)).showsWindow n count (trunc 12 margin) := by
  have hmargin : trunc 12 margin < 2 ^ 12 := by unfold trunc; omega
  have hother (v : Word) (f g : Fld) (x : Nat) (hf : f.lo ≤ f.hi ∧ f.hi < 32) (hg : g.lo ≤ g.hi) (hfg : g.hi < f.lo) :
      getF (setF v f x) g = getF v g := getF_setF_other v f g x hf.1 hf.2 (.inl hfg) hg
  unfold State.showsWindow State.fld
  rw [State.rd_wr_same]
  constructor
  · rw [hother _ _ _ _ (by decide) (by decide) (by decide), hother _ _ _ _ (by decide) (by decide) (by decide),
      hother _ _ _ _ (by decide) (by decide) (by decide), getF_setF_same _ _ _ (by decide) (by decide)]
    exact Nat.mod_eq_of_lt hcount
  · rw [hother _ _ _ _ (by decide) (by decide) (by decide), hother _ _ _ _ (by decide) (by decide) (by decide),
      getF_setF_same _ _ _ (by decide) (by decide)]
    exact Nat.mod_eq_of_lt hmargin

/-- The anomaly bit lies apart from both fields. -/
theorem State.showsWindow_anom {s : State} {n count margin : Nat} (hs : s.showsWindow n count margin) (v : Nat) :
    (s.setFld (PACE_MONn n) PACE_MONn_ANOM v).showsWindow n count margin := by
  obtain ⟨hcount, hmargin⟩ := hs
  exact ⟨(State.fld_setFld_apart _ _ _ _ _ (by decide) (by decide) (by decide) (by decide)).trans hcount,
    (State.fld_setFld_apart _ _ _ _ _ (by decide) (by decide) (by decide) (by decide)).trans hmargin⟩

/-- EXIT's timer is a note of the die's governor. -/
theorem State.trackExit_cases (s : State) (d : Nat) :
    s.trackExit d = s ∨ ∃ b, s.trackExit d = s.setGov d { s.gov d with okSince := b } := by
  simp only [State.trackExit]
  split
  · split
    · exact .inl rfl
    · exact .inr ⟨_, rfl⟩
  · exact .inr ⟨_, rfl⟩

/-- The timers of a die's governor are no registers. -/
theorem State.track_rd (s : State) (d a : Nat) : ((s.trackExit d).trackBreach d).rd a = s.rd a := by
  obtain hb | ⟨b, hb⟩ := (s.trackExit d).trackBreach_cases d <;> obtain he | ⟨e, he⟩ := s.trackExit_cases d <;>
    rw [hb, he] <;> rfl

/-- A command to a rail is no register. -/
theorem State.sendTarget_rd (s : State) (d v a : Nat) : (s.sendTarget d v).rd a = s.rd a := by
  simp only [State.sendTarget]
  split
  · rfl
  · split
    · split <;> rfl
    · split <;> rfl

theorem State.monitorWindowOp_shows {s : State} {n count : Nat} (hn : n < 32) (hcount : count < 65536)
    (hfloor : s.fld (PACE_FLOORn n) PACE_FLOORn_FLOOR ≠ 0) :
    (s.monitorWindowOp n count).showsWindow n count
      (trunc 12 (paceMargin count (s.fld (PACE_FLOORn n) PACE_FLOORn_FLOOR))) := by
  have hapart : PACE_MONn n ≠ PACE_EVT ∧ PACE_MONn n ≠ PACE_STAT ∧ PACE_MONn n ≠ THIM_LOGLOST ∧ PACE_MONn n ≠ THIM_EVT ∧
      PACE_MONn n < CIPH_STAT := by
    simp only [PACE_MONn, PACE_EVT, PACE_STAT, THIM_LOGLOST, THIM_EVT, CIPH_STAT]; omega
  obtain ⟨hevt, hstat, hlost, hthim, hciph⟩ := hapart
  have hlog (t : State) (p : List Nat) : (t.log 53 n p).rd (PACE_MONn n) = t.rd (PACE_MONn n) := State.log_rd _ _ _ _ _ hlost hthim
  unfold State.monitorWindowOp
  extract_lets d m g floor was good fault below governs
  rw [if_neg hfloor]
  dsimp -zeta only
  extract_lets margin word taken logged shown least recorded tracked alarmed ruled want
  have hmargin : margin = paceMargin count floor := if_neg hfloor
  have htaken : taken.showsWindow n count (trunc 12 (paceMargin count floor)) := by
    rw [← hmargin]
    exact State.showsWindow_wr s margin _ _ _ hcount
  have hlogged : logged.showsWindow n count (trunc 12 (paceMargin count floor)) := by
    refine State.showsWindow_of_rd ?_ htaken
    simp only [logged]
    split
    · rw [hlog, State.rd_setFld_other _ _ _ _ _ hevt]
    · split
      · exact hlog _ _
      · rfl
  have htracked : tracked.showsWindow n count (trunc 12 (paceMargin count floor)) := by
    refine State.showsWindow_of_rd ((State.track_rd recorded d _).trans ?_) hlogged
    exact (State.rd_setFld_other _ _ _ _ _ hstat).trans (State.rd_setFld_other _ _ _ _ _ hstat)
  have halarmed : alarmed.showsWindow n count (trunc 12 (paceMargin count floor)) := by
    simp only [alarmed]
    split
    · refine State.showsWindow_of_rd ?_ (State.showsWindow_anom htracked 1)
      rw [State.laneAlarm_rd hciph, State.laneAlarm_rd hciph, State.rd_setFld_other _ _ _ _ _ hevt]
    · exact htracked
  split
  · split
    · exact State.showsWindow_of_rd rfl halarmed
    · refine State.showsWindow_of_rd ?_ halarmed
      rw [State.sendTarget_rd, State.rd_setFld_other _ _ _ _ _ hevt]
      rfl
  · exact halarmed

/-- Settles O9: the window's word shows the count and the margin, and no later part of the window's end writes either
field. -/
theorem paceWindowPublishesCountAndMargin : Obligations.PaceWindowPublishesCountAndMargin := by
  intro s n count hn hcount hfloor
  obtain ⟨hc, hm⟩ := State.monitorWindowOp_shows hn hcount hfloor
  refine ⟨settle s (s.monitorWindowOp n count), rfl, ?_, ?_⟩
  · rw [settle_fld, hc]
  · rw [settle_fld, hm]
    rfl

end Sys2Proof.Machine

/-! ## The governors' commands -/

namespace Sys2Proof.Machine

/-! ### A sound window -/

/-- A sound monitor's window above its floor, without a jump: no alarm and no emergency. -/
theorem State.monitorWindowOp_sound {s : State} {n count : Nat} (hfloor : s.fld (PACE_FLOORn n) PACE_FLOORn_FLOOR ≠ 0)
    (hsound : s.monFaulty n = false) (hlo : 1 ≤ count) (hhi : count ≤ 65534)
    (habove : s.fld (PACE_FLOORn n) PACE_FLOORn_FLOOR ≤ count) (hjump : countJump (s.mon n).prev count = false) :
    s.monitorWindowOp n count =
      ((((((s.wr (PACE_MONn n) (setF (setF (setF (setF (s.rd (PACE_MONn n)) PACE_MONn_COUNT count) PACE_MONn_MARGIN
        (trunc 12 (paceMargin count (s.fld (PACE_FLOORn n) PACE_FLOORn_FLOOR)))) PACE_MONn_BELOW 0) PACE_MONn_FAULT 0)).showMfault
        (n / 16)).showBelow (n / 16)).setMon n
          { s.mon n with prev := some count, lastBad := false, lastGood := true, windows := (s.mon n).windows + 1,
                         minMargin := some ((s.mon n).minMargin.elim (paceMargin count (s.fld (PACE_FLOORn n) PACE_FLOORn_FLOOR))
                           (fun x => min x (paceMargin count (s.fld (PACE_FLOORn n) PACE_FLOORn_FLOOR)))),
                         margin := paceMargin count (s.fld (PACE_FLOORn n) PACE_FLOORn_FLOOR), breach := 0 }).trackExit
        (n / 16)).trackBreach (n / 16)) := by
  have hbelow : ¬ count < s.fld (PACE_FLOORn n) PACE_FLOORn_FLOOR := Nat.not_lt.mpr habove
  cases hleast : (s.mon n).minMargin <;>
    simp [State.monitorWindowOp, hfloor, hsound, hlo, hhi, hbelow, hjump, hleast, bit]

/-! ### AVSBus -/

/-- A good response accepts the value and sends a raise that was held. -/
theorem State.avsEndOp_good {s : State} {rail mv n : Nat} {h : Option Nat}
    (htx : (s.gov rail).tx = some { mv := mv, attempts := n, held := h }) :
    s.avsEndOp rail 0 =
      h.elim ((s.setGov rail { s.gov rail with tx := none, accepted := mv, avsErr := false }).setFld PACE_STAT PACE_STAT_AVS_ERR 0)
        (fun v => ((s.setGov rail { s.gov rail with tx := none, accepted := mv, avsErr := false }).setFld PACE_STAT
          PACE_STAT_AVS_ERR 0).sendTarget rail v) := by
  cases h <;> simp [State.avsEndOp, htx]

/-- A failed attempt before the fourth is repeated. -/
theorem State.avsEndOp_retry {s : State} {rail res mv n : Nat} {h : Option Nat}
    (htx : (s.gov rail).tx = some { mv := mv, attempts := n, held := h }) (hres : res ≠ 0) (hn : n < 4) :
    s.avsEndOp rail res =
      (((if res = 1 then s.emitOut (.avs rail 2 mv) else s).setGov rail
        { s.gov rail with tx := some { mv := mv, attempts := n + 1, held := h }, lastCmd := some s.mer }).emitOut
          (.avs rail 0 mv)).emitOut (.avs rail 1 mv) := by
  by_cases hone : res = 1 <;> simp [State.avsEndOp, htx, hres, hn, hone]

/-- The fourth failure with nothing held gives up the target. -/
theorem State.avsEndOp_failed {s : State} {rail mv : Nat}
    (htx : (s.gov rail).tx = some { mv := mv, attempts := 4, held := none }) :
    s.avsEndOp rail 2 =
      (((s.setGov rail { s.gov rail with tx := none, target := (s.gov rail).accepted, avsErr := true }).setFld PACE_STAT
        PACE_STAT_AVS_ERR 1).setFld PACE_EVT PACE_EVT_AVS 1).log 57 rail [mv] := by
  simp [State.avsEndOp, htx]

/-! ### The statement -/

theorem State.clampMv_mono (s : State) {v w : Nat} (h : v ≤ w) : s.clampMv v ≤ s.clampMv w := by
  unfold State.clampMv
  omega

/-- Settles O10: the windows, AVSBus ends and level changes by the equations of their operations; a control period's end by
what the governor wants, which is sent (`controlPeriod_sends`) or leaves the rail alone (`controlPeriod_silent`). -/
theorem paceGovernorCommandsComplete : Obligations.PaceGovernorCommandsComplete := by
  refine ⟨?window, ?raise, ?lower, ?uncalm, ?off, ?good, ?retry, ?failed, ?levelUp, ?levelDown⟩
  case window =>
    intro s n count hfloor hsound hlo hhi habove hjump
    exact next_settle_congr _ _ _ (State.monitorWindowOp_sound hfloor hsound hlo hhi habove hjump)
  case raise =>
    intro s d v hdue hen hstarted htx hboot hsound hin hv hup hlow
    refine State.controlPeriod_sends hdue hboot htx ?_ hv.symm (Nat.ne_of_gt hup) (.inr hup)
    cases hcalm : s.periodCalm d with
    | true => rw [State.periodWant_calm hen hstarted hcalm, State.periodTarget_raise hsound hin hlow]
    | false =>
      have hgov : ((s.calmless d).gov d).target = (s.gov d).target := by rw [State.calmless, State.gov_setGov_same]
      have hraise : (s.calmless d).periodTarget d = some ((s.gov d).target + orElse (s.fld PACE_CTRL PACE_CTRL_STEP_UP) 1) := by
        rw [State.periodTarget_raise (s := s.calmless d) hsound (by rw [hgov]; exact hin) hlow, hgov]
        rfl
      rw [State.periodWant_not_calm hen hstarted hin hcalm, hraise]
      exact Option.filter_some_pos (decide_eq_true (hv ▸ hup.le))
  case lower =>
    intro s d v hdue hen hstarted htx hboot hsound hin herr hmons hcalm hhold horder hv hne hhigh
    refine State.controlPeriod_sends hdue hboot htx ?_ hv.symm hne (.inl herr)
    rw [State.periodWant_calm hen hstarted hcalm, State.periodTarget_high hsound hin hhigh]
    simp [hmons, hhold, horder]
  case uncalm =>
    intro s d hdue hen hstarted hsound hin hcalm hhigh
    refine State.controlPeriod_silent fun t htarget hregs => ?_
    have hgov : ((s.calmless d).gov d).target = (s.gov d).target := by rw [State.calmless, State.gov_setGov_same]
    have hclamp (v : Nat) : t.clampMv v = s.clampMv v := by
      simp only [State.clampMv, State.vmin, State.vmax, State.fld, State.rd, hregs]
    rw [State.periodWant_not_calm hen hstarted hin hcalm,
      State.periodTarget_high (s := s.calmless d) hsound (by rw [hgov]; exact hin) hhigh, hgov]
    split
    · rw [Option.filter_some]
      split
      · next hlow =>
        have hle := s.clampMv_mono (Nat.sub_le (s.gov d).target (orElse ((s.calmless d).fld PACE_CTRL PACE_CTRL_STEP_DN) 1))
        rw [hin] at hle
        exact State.periodSend_present (by rw [hclamp, htarget]; exact Nat.le_antisymm hle (of_decide_eq_true hlow))
      · rfl
    · rfl
  case off =>
    intro s d hen
    refine State.controlPeriod_silent fun t _ _ => ?_
    simp [State.periodWant, hen, State.periodSend]
  case good =>
    intro s rail mv n h htx
    exact next_settle_congr _ _ _ (State.avsEndOp_good htx)
  case retry =>
    intro s rail res mv n h htx hlo hhi hn
    exact next_settle_congr _ _ _ (State.avsEndOp_retry htx (Nat.pos_iff_ne_zero.mp hlo) hn)
  case failed =>
    intro s rail mv htx
    exact next_settle_congr _ _ _ (State.avsEndOp_failed htx)
  case levelUp =>
    intro s d a hlevel htop hbreach hat hstood hsince
    refine next_settle_congr _ _ _ (if_pos ⟨hlevel, htop, hbreach, ?_, hsince⟩)
    rw [hat]
    exact decide_eq_true hstood
  case levelDown =>
    intro s d a hlevel hok hstood hsince
    refine next_settle_congr _ _ _ (if_pos ⟨hlevel, ?_, hsince⟩)
    rw [hok]
    exact decide_eq_true hstood

end Sys2Proof.Machine

/-! ## The boot sequence (R62, R73, R524, R534, R574, R602, R603)

A boot with no image ends in recovery because nothing before the image's verification stores an image or a bank-select record:
the sweep of MRAM can only lose one, and the rest of the boot ROM's work leaves the Thimble's stores alone. -/

namespace Sys2Proof.Machine

/-! ### Steps that leave the Thimble's stores alone -/

@[simp] theorem State.setFlag_th (s : State) (a : Nat) (f : Fld) (b : Bool) : (s.setFlag a f b).th = s.th := rfl

@[simp] theorem State.bumpSat_th (s : State) (a : Nat) (f : Fld) (n : Nat) : (s.bumpSat a f n).th = s.th := rfl

@[simp] theorem State.log_th (s : State) (rule inst : Nat) (p : List Nat) : (s.log rule inst p).th = s.th := by
  rw [State.log_frame]

theorem State.setNode_th (s : State) (n : NodeState) : (s.setNode n).th = s.th := by rw [State.setNode_frame]

theorem State.counterAdd_th (s : State) (c n : Nat) : (s.counterAdd c n).th = s.th := by
  have hlatch : (s.latchTakes c n).th = s.th := by
    unfold State.latchTakes
    split
    · split <;> rfl
    · rfl
  rw [← hlatch]
  simp only [State.counterAdd, apply_ite State.th, State.setFld_th, State.wr_th, ite_self]

theorem State.counterStep_th (s : State) (c amount : Nat) : (s.counterStep c amount).th = s.th := by
  unfold State.counterStep
  split
  · split
    · rfl
    · exact State.counterAdd_th _ _ _
  · exact State.counterAdd_th _ _ _

theorem State.obs_th (s : State) (panel code amount : Nat) (tenant master cls addr priv : Option Nat) :
    (s.obs panel code amount tenant master cls addr priv).th = s.th := by
  unfold State.obs
  split
  · rfl
  · refine State.foldl_keeps State.th (fun t c => ?_) _ _
    split
    · exact State.counterStep_th _ _ _
    · rfl

theorem State.obsDie_th (s : State) (die code amount : Nat) (tenant master cls addr priv : Option Nat) :
    (s.obsDie die code amount tenant master cls addr priv).th = s.th :=
  State.foldl_keeps State.th (fun t _ => t.obs_th _ _ _ _ _ _ _ _) _ _

@[simp] theorem State.obsEcc_th (s : State) (c a code : Nat) : (s.obsEcc c a code).th = s.th := by
  simp only [State.obsEcc, apply_ite State.th, State.obs_th, State.obsDie_th, ite_self]

theorem State.corrected_th (s : State) (c a : Nat) (data : Bool) : (s.corrected c a data).th = s.th := by
  simp only [State.corrected, apply_ite State.th, State.log_th, State.setFld_th, State.wr_th,
    State.obsEcc_th, State.bumpSat_th, ite_self]

theorem State.uncorrectable_th (s : State) (c a : Nat) (fresh : Bool) : (s.uncorrectable c a fresh).th = s.th := by
  simp only [State.uncorrectable, apply_ite State.th, State.log_th, State.setFld_th, State.wr_th, State.obsEcc_th,
    State.bumpSat_th, ite_self]

/-- A read of a code word corrects or tags it. -/
theorem State.codeRead_th (s : State) (c a : Nat) : (s.codeRead c a).th = s.th := by
  unfold State.codeRead
  split
  · exact State.uncorrectable_th _ _ _ _
  · split
    · rfl
    · exact State.corrected_th _ _ _ _
    · exact State.uncorrectable_th _ _ _ _

theorem State.showLcs_th (s : State) : s.showLcs.th = s.th := by
  simp only [State.showLcs, State.setFlag_th, State.setFld_th]

theorem State.lifecycleFill_th (s : State) (stuck : Bool) : (s.lifecycleFill stuck).th = s.th := by
  unfold State.lifecycleFill
  split
  · exact State.showLcs_th _
  · simp only [apply_ite State.th, State.setFld_th, State.showLcs_th, State.log_th, ite_self]

theorem State.reply_th (s : State) (e st : Nat) (o : List Byte) : (s.reply e st o).th = s.th := by
  unfold State.reply
  split <;> rfl

theorem State.loseRequests_th (s : State) (n : Nat) : (s.loseRequests n).th = s.th := by
  refine State.foldl_keeps State.th (fun t q => ?_) (s.lane n).reqs s
  rw [State.laneCount, State.count, State.wr_th, State.reply_th]

theorem State.enterSafe_th (s : State) : s.enterSafe.th = s.th := by
  unfold State.enterSafe
  split
  · rfl
  · exact State.setNode_th _ _

theorem State.globalTamper_th (s : State) (cause : Nat) : (s.globalTamper cause).th = s.th := by
  have hlanes (t : State) : ((List.range 32).foldl (fun t n => (t.loseRequests n).setFld (CIPH_LANEn n) CIPH_LANEn_LAST_ALM 4)
      t).th = t.th :=
    State.foldl_keeps State.th (fun t n => (State.setFld_th _ _ _ _).trans (t.loseRequests_th n)) _ _
  simp only [State.globalTamper, State.enterSafe_th, State.log_th, State.setFld_th, hlanes]
  simp only [State.showFill, State.setFld_th]
  rfl

theorem State.applyNode_th (s : State) : s.applyNode.th = s.th := by
  simp only [State.applyNode, State.showAuth, State.setFlag_th, State.setFld_th]

theorem State.applyAnchor_th (s : State) : s.applyAnchor.th = s.th := by
  unfold State.applyAnchor
  split
  · simp only [State.applyNode_th, State.anchorBus, State.wr_th, State.setFld_th]
  · simp only [State.applyNode_th, State.log_th, State.setFld_th]

theorem State.setChan_th (s : State) (c : Nat) (x : ChanSt) : (s.setChan c x).th = s.th := rfl

theorem State.chSetTrans_th (s : State) (c : Nat) (t : Option LoomTrans) : (s.chSetTrans c t).th = s.th := by
  rw [State.chSetTrans, State.setFlag_th, State.setChan_th]

theorem State.chDrive_th (s : State) (c st : Nat) : (s.chDrive c st).th = s.th := by
  rw [State.chDrive, State.setFld_th, State.setChan_th]

theorem State.chAdvance_th (s : State) (c : Nat) {t : LoomTrans} (h : t.target ≠ 3) : (s.chAdvance c t).th = s.th := by
  simp only [State.chAdvance, if_neg h, apply_ite State.th, State.chSetTrans_th, State.chDrive_th, State.setChan_th, ite_self]

/-- A request of another state than sleep discards no frame. -/
theorem State.chRequest_th (s : State) (c : Nat) {st : Nat} (h : st ≠ 3) : (s.chRequest c st).th = s.th := by
  have hadvance (t : State) (due : Nat) :
      (t.chAdvance c { target := st, phase := 0, due := due, deaf := false }).th = t.th := State.chAdvance_th _ _ h
  unfold State.chRequest
  split
  · simp only [apply_ite State.th, State.chEvent, State.setFld_th, State.setChan_th, ite_self]
  · simp only [State.chMove, apply_ite State.th, State.chSetTrans_th, hadvance, State.setChan_th, ite_self]

theorem State.busesUp_th (s : State) : s.busesUp.th = s.th :=
  (State.chRequest_th _ 65 (by decide)).trans (State.chRequest_th _ 64 (by decide))

/-! ### No image in either bank -/

/-- No image is stored in either bank, and no bank-select record. -/
def State.noImages (s : State) : Prop := s.th.imgBanks = [] ∧ s.th.bankSels = []

theorem State.noImages_of_th {s t : State} (h : t.th = s.th) (hs : s.noImages) : t.noImages := by
  unfold State.noImages at hs ⊢
  rwa [h]

/-- A lost code word stores nothing. -/
theorem State.mramLost_noImages {s : State} (a : Nat) (hs : s.noImages) : (s.mramLost a).noImages := by
  obtain ⟨himg, hsel⟩ := hs
  unfold State.mramLost
  extract_lets th noBlock mram
  have hblock (b k : Nat) : (noBlock b k).noImages := by
    simp [noBlock, th, State.noImages, himg, hsel, Sparse.get, Sparse.set, Sparse.erase, ImgBank.reset]
  have hsels (k : Nat) : Sparse.set (fun _ => none) s.th.bankSels k none = [] := by
    rw [hsel]; rfl
  repeat' refine iteInduction (motive := State.noImages) (fun _ => ?_) (fun _ => ?_)
  case refine_1 => exact hblock _ _
  exacts [⟨himg, hsel⟩, ⟨himg, hsel⟩, ⟨himg, hsel⟩, ⟨himg, hsel⟩, ⟨himg, hsel⟩, ⟨himg, hsel⟩, ⟨himg, hsels _⟩, ⟨himg, hsel⟩, hblock _ _,
    hblock _ _, ⟨himg, hsel⟩]

theorem State.mramSweep_noImages {s : State} (hs : s.noImages) : s.mramSweep.noImages := by
  refine List.foldlRecOn _ _ hs fun t ht p _ => ?_
  have hread : (t.codeRead 5 (p.1 % 2 ^ 32)).noImages := State.noImages_of_th (State.codeRead_th _ _ _) ht
  simp only []
  split
  · exact State.mramLost_noImages _ hread
  · exact hread

theorem State.img_of_noImages {s : State} (hs : s.noImages) (b : Nat) : s.img b = ImgBank.reset := by
  unfold State.img
  rw [hs.1]
  rfl

/-- An empty bank holds no manifest. -/
theorem ImgBank.shape_reset : ImgBank.reset.shape = false := by
  have hmagic : (ImgBank.reset.field 0 4 == 0x4C484D46) = false := by decide
  simp only [ImgBank.shape, hmagic, Bool.false_and]

theorem State.rulingSel_of_noImages {s : State} (hs : s.noImages) : s.rulingSel = none := by
  unfold State.rulingSel State.bankSel
  rw [hs.2]
  rfl

theorem State.upd_pw (s : State) (p : PowerSt) : State.upd { s with pw := p } = s.upd := rfl

theorem State.runImage_upd (s : State) (b : Nat) {upd : Nat} (h : upd < 8) : (s.runImage b upd).upd = upd := by
  simp only [State.runImage, State.showStandby, State.upd]
  rw [State.fld_setFld_apart _ _ _ _ _ (by decide) (by decide) (by decide) (by decide),
    State.fld_setFld_apart _ _ _ _ _ (by decide) (by decide) (by decide) (by decide),
    State.fld_setFld_same _ _ _ _ (by decide) (by decide)]
  exact Nat.mod_eq_of_lt h

/-- With no image to verify the boot ends in recovery. -/
theorem State.bootImage_upd_of_noImages {s : State} (hs : s.noImages) : s.bootAttempt.bootImage.upd = 3 := by
  have hattempt : s.bootAttempt = s := by rw [State.bootAttempt, State.rulingSel_of_noImages hs]
  have hselected : s.selected = (0, false) := by rw [State.selected, State.rulingSel_of_noImages hs]
  have hfails : s.manifestFails 0 ≠ 0 := by
    simp [State.manifestFails, State.img_of_noImages hs, ImgBank.shape_reset]
  have hother : (s.img 1).complete = false := by
    rw [State.img_of_noImages hs]
    rfl
  have himage : s.bootImage = (s.rejectLog 0).runImage 0 3 := by
    simp [State.bootImage, hselected, hfails, hother]
  rw [hattempt, himage]
  exact State.runImage_upd _ _ (by decide)

/-- The tamper part of the boot ROM's work: a shield fault's alarm, and the completion of an erase. -/
def State.bootTamper (s : State) (shield : Bool) : State :=
  let t := if shield && !s.flag CIPH_STAT CIPH_STAT_TAMPER then s.globalTamper 0 else s
  if t.keyMram.tamper then { t with keyMram := { t.keyMram with blob0 := none, blob1 := none, tamper := false } } else t

theorem State.bootTamper_th (s : State) (shield : Bool) : (s.bootTamper shield).th = s.th := by
  simp only [State.bootTamper, apply_ite State.th, State.globalTamper_th, ite_self]

/-- A sound shield and no erase to complete. -/
theorem State.bootTamper_idle {s : State} (h : s.keyMram.tamper = false) : s.bootTamper false = s := by
  simp [State.bootTamper, h]

/-- The boot ROM's work before the image. -/
def State.bootReady (s : State) (stuck shield : Bool) : State :=
  ((s.mramSweep.lifecycleFill stuck).bootTamper shield).applyAnchor.busesUp

theorem State.bootRomOp_eq {s : State} (stuck shield : Bool) (h : s.pw.boot = 2) :
    s.bootRomOp stuck shield =
      { (s.bootReady stuck shield).bootAttempt.bootImage with
        pw := { (s.bootReady stuck shield).bootAttempt.bootImage.pw with boot := 3 } } := by
  simp only [State.bootRomOp, if_neg (not_not_intro h), State.bootReady, State.bootTamper]

theorem State.bootReady_noImages {s : State} (stuck shield : Bool) (hs : s.noImages) : (s.bootReady stuck shield).noImages := by
  refine State.noImages_of_th ?_ (State.mramSweep_noImages hs)
  unfold State.bootReady
  rw [State.busesUp_th, State.applyAnchor_th, State.bootTamper_th, State.lifecycleFill_th]

/-! ### The end of Thimble boot -/

/-- What the Thimble does as it boots, before the first commands to the rails, touches registers, the event log, the OTP and
free values. -/
def State.thimbleKept (s t : State) : Prop :=
  ∃ f o q l r, t = { s with freeCtr := f, otp := o, logQueue := q, logLost := l, regs := r }

theorem State.thimbleKept_trans {s t u : State} (h : s.thimbleKept t) (h' : t.thimbleKept u) : s.thimbleKept u := by
  obtain ⟨f, o, q, l, r, rfl⟩ := h
  obtain ⟨f', o', q', l', r', rfl⟩ := h'
  exact ⟨f', o', q', l', r', rfl⟩

theorem State.thimbleKept_refl (s : State) : s.thimbleKept s := ⟨_, _, _, _, _, rfl⟩

theorem State.thimbleKept_wr (s : State) (a : Nat) (w : Word) : s.thimbleKept (s.wr a w) := ⟨_, _, _, _, _, rfl⟩

theorem State.thimbleKept_burnStep (s : State) (c : Nat) : s.thimbleKept (s.burnStep c).2 := by
  simp only [State.burnStep]
  split
  · exact ⟨_, _, _, _, _, rfl⟩
  · rw [State.log_frame]
    exact ⟨_, _, _, _, _, rfl⟩

theorem State.thimbleKept_burnTo (s : State) (c k n : Nat) : s.thimbleKept (s.burnTo c k n) := by
  induction n generalizing s with
  | zero => exact s.thimbleKept_refl
  | succ n ih =>
    unfold State.burnTo
    split
    · exact s.thimbleKept_refl
    · split
      · exact State.thimbleKept_trans (s.thimbleKept_burnStep c) (ih _)
      · exact s.thimbleKept_burnStep c

theorem State.thimbleKept_burnFloor (s : State) : s.thimbleKept s.burnFloor := by
  unfold State.burnFloor
  split
  · split
    · exact s.thimbleKept_refl
    · exact s.thimbleKept_burnTo _ _ _
  · exact s.thimbleKept_refl

theorem State.thimbleKept_logScan (s : State) : s.thimbleKept s.logScan := by
  simp only [State.logScan]
  split
  · exact s.thimbleKept_refl
  · exact s.thimbleKept_wr _ _

theorem State.thimbleKept_bootTime (s : State) (k : Nat) : s.thimbleKept (s.bootTime k) := by
  unfold State.bootTime
  split
  · exact s.thimbleKept_wr _ _
  · exact s.thimbleKept_refl

theorem State.avsStart_pw (s : State) (d mv : Nat) : (s.avsStart d mv).pw = s.pw := rfl
theorem State.avsStart_hostUp (s : State) (d mv : Nat) : (s.avsStart d mv).hostUp = s.hostUp := rfl
theorem State.avsStart_node (s : State) (d mv : Nat) : (s.avsStart d mv).node = s.node := rfl

/-- The hosts are served. -/
def State.thimbleServes (s : State) : State := { s with pw := { s.pw with boot := 4 }, hostUp := true }

/-- The state in which the first commands to the rails go out. -/
def State.thimbleReady (s : State) : State :=
  (s.thimbleServes.burnFloor.logScan.setFld ECC_INIT ECC_INIT_DONE
    (s.thimbleServes.burnFloor.fld ECC_INIT ECC_INIT_DONE ||| 2)).bootTime 0

theorem State.thimbleKept_thimbleReady (s : State) : s.thimbleServes.thimbleKept s.thimbleReady :=
  State.thimbleKept_trans (State.thimbleKept_burnFloor _) (State.thimbleKept_trans (State.thimbleKept_logScan _)
    (State.thimbleKept_trans (State.thimbleKept_wr _ _ _) (State.thimbleKept_bootTime _ _)))

/-- The end of Thimble boot starts both rails at their governors' targets. -/
theorem State.thimbleBootOp_eq {s : State} (hboot : s.pw.boot = 3) (hrec : s.recovering = false)
    (hrestr : s.th.restricted = false) :
    s.thimbleBootOp =
      (s.thimbleReady.avsStart 0 (s.thimbleReady.gov 0).target).avsStart 1 (s.thimbleReady.gov 1).target := by
  simp only [State.thimbleBootOp, hboot, hrec, hrestr, ne_eq, not_true_eq_false, Bool.false_eq_true, or_self, if_false,
    State.thimbleReady, State.thimbleServes]

/-! ### The initialisers -/

theorem State.initDoneOp_eq {s : State} {k : Nat} (hboot : 4 ≤ s.pw.boot) (hk : k < 7) :
    s.initDoneOp k =
      if (s.fld ECC_INIT ECC_INIT_DONE ||| 2 ^ k) = 127 then
        (s.setFld ECC_INIT ECC_INIT_DONE (s.fld ECC_INIT ECC_INIT_DONE ||| 2 ^ k)).setFld ECC_INIT ECC_INIT_ALL 1
      else s.setFld ECC_INIT ECC_INIT_DONE (s.fld ECC_INIT ECC_INIT_DONE ||| 2 ^ k) := by
  have hold : s.fld ECC_INIT ECC_INIT_DONE < 2 ^ 7 := Nat.mod_lt _ (by decide)
  have hnew : (s.fld ECC_INIT ECC_INIT_DONE ||| 2 ^ k) < 2 ^ 7 := Nat.or_lt_two_pow hold (Nat.pow_lt_pow_right (by decide) hk)
  have hread : (s.setFld ECC_INIT ECC_INIT_DONE (s.fld ECC_INIT ECC_INIT_DONE ||| 2 ^ k)).fld ECC_INIT ECC_INIT_DONE =
      (s.fld ECC_INIT ECC_INIT_DONE ||| 2 ^ k) :=
    (State.fld_setFld_same _ _ _ _ (by decide) (by decide)).trans (Nat.mod_eq_of_lt hnew)
  rw [State.initDoneOp, if_neg fun h => Nat.not_lt.mpr hboot h.1]
  simp only [hread]

/-! ### Settings and JOINING -/

/-- With no snapshot stored the defaults stand. -/
theorem State.settings_of_no_snapshot {s : State} (h : s.th.setAreas = []) :
    s.settings = (none, (s.setFld THIM_STAT THIM_STAT_DEFAULTS 1).log 524 0) := by
  have hsnap (bank schema : Nat) : s.snapOf bank schema = none := by
    simp [State.snapOf, State.setArea, h, Sparse.get]
  simp [State.settings, hsnap]

/-- With no join port configured only the join's own state and the servo's mode are set. -/
theorem State.joinPorts_of_none {s : State} (h : s.od 0x00B001 = 0) :
    ∃ j v, s.joinPorts = { s with jn := j, servo := v } := by
  unfold State.joinPorts
  extract_lets node on gptp jn noted servo served
  have hserved : ∃ v, served = { noted with servo := v } := by
    simp only [served]
    split
    · exact ⟨_, rfl⟩
    · exact ⟨_, rfl⟩
  obtain ⟨v, hserved⟩ := hserved
  have hports : served.jn.ports = 0 := by
    rw [hserved]
    exact h
  simp only [hports, Nat.zero_testBit, List.filter_false, List.foldl_nil]
  exact ⟨_, _, hserved⟩

/-- Under way into JOINING: boot is complete, and the node unpaired as it was. -/
def State.joins (s : State) : Prop := s.pw.boot = 5 ∧ s.node = .joining ∧ s.paired = false

theorem State.joins_setFld {s : State} {a : Nat} (ha : a ≠ SEAM_CTRL) (hs : s.joins) (f : Fld) (v : Nat) :
    (s.setFld a f v).joins := by
  obtain ⟨hboot, hnode, hpaired⟩ := hs
  refine ⟨by rwa [State.setFld_pw], by rwa [State.setFld_node], ?_⟩
  rwa [State.paired, State.flag_setFld_other _ _ _ _ _ _ ha.symm]

theorem State.joins_setNode {s : State} (hboot : s.pw.boot = 5) (hpaired : s.paired = false) : (s.setNode .joining).joins := by
  refine ⟨by rwa [State.setNode_frame], State.setNode_node _ _, ?_⟩
  rwa [State.paired, State.flag, State.setNode_rd _ _ (by decide) (by decide)]

theorem State.joins_bootTime {s : State} (hs : s.joins) : (s.bootTime 1).joins := by
  obtain ⟨hboot, hnode, hpaired⟩ := hs
  unfold State.bootTime
  split
  · refine ⟨by rwa [State.wr_pw], by rwa [State.wr_node], ?_⟩
    rwa [State.paired, State.flag, State.rd_wr_other _ _ _ _ (by decide)]
  · exact ⟨hboot, hnode, hpaired⟩

theorem State.joins_setReady {s : State} (hs : s.joins) : s.setReady.joins := by
  unfold State.setReady
  obtain ⟨hboot, hnode, hpaired⟩ := hs
  exact State.joins_setFld (by decide) ⟨hboot, hnode, hpaired⟩ _ _

theorem State.joins_callTwin {s : State} (hs : s.joins) : s.callTwin.joins := by
  obtain ⟨hboot, hnode, hpaired⟩ := hs
  unfold State.callTwin
  split
  · exact ⟨hboot, hnode, hpaired⟩
  · exact ⟨hboot, hnode, hpaired⟩

/-- An unpaired node leaves INIT for JOINING with boot complete. -/
theorem State.joins_enterJoining {s : State} (hnode : s.node = .init) (hpaired : s.paired = false) : s.enterJoining.joins := by
  unfold State.enterJoining
  extract_lets pw jn sm begun joined ready called
  have hjoined : joined.joins := by
    have hset : joined = begun.setNode .joining := if_pos hnode
    rw [hset]
    exact State.joins_setNode rfl hpaired
  have hready : ready.joins := State.joins_setReady (State.joins_setFld (by decide) (State.joins_bootTime hjoined) _ _)
  have hcalled : called.joins := by
    simp only [called]
    split
    · exact State.joins_callTwin hready
    · exact hready
  have hunpaired : called.paired = false := hcalled.2.2
  rw [hunpaired, Bool.false_and, if_neg Bool.false_ne_true]
  exact hcalled

/-- The settings' entries are applied in their order, and JOINING begins. -/
theorem State.settingsRestoreOp_eq {s s1 s2 s3 s4 : State} {l : Option (List (Nat × List Byte))} {k2 k3 k4 : List Nat}
    (hboot : s.pw.boot = 4) (hall : s.flag ECC_INIT ECC_INIT_ALL = true) (hsettings : s.settings = (l, s1))
    (hfirst : s1.restoreAll ((l.getD []).filter (fun e => !entryEnables e && !entryPairs e)) [] = (s2, k2))
    (henable : s2.joinPorts.restoreAll (if s2.joinPorts.autostart then (l.getD []).filter entryEnables else []) k2 = (s3, k3))
    (hpair : s3.restoreAll ((l.getD []).filter entryPairs) k3 = (s4, k4)) :
    s.settingsRestoreOp =
      State.enterJoining { s4.noteSkipped k4 with th := { (s4.noteSkipped k4).th with saveDirty := none } } := by
  simp only [State.settingsRestoreOp, hboot, hall, hsettings, hfirst, henable, hpair, ne_eq, not_true_eq_false, Bool.not_true,
    Bool.false_eq_true, or_self, if_false]

theorem State.noteSkipped_nil (s : State) : s.noteSkipped [] = s := rfl

/-- With no settings to restore nothing is applied or skipped. -/
theorem State.settingsRestoreOp_defaults {s s1 : State} (hboot : s.pw.boot = 4) (hall : s.flag ECC_INIT ECC_INIT_ALL = true)
    (hsettings : s.settings = (none, s1)) :
    s.settingsRestoreOp = State.enterJoining { s1.joinPorts with th := { s1.joinPorts.th with saveDirty := none } } := by
  have henable : s1.joinPorts.restoreAll (if s1.joinPorts.autostart then [] else []) [] = (s1.joinPorts, []) := by
    rw [ite_self]
    rfl
  have hrestored := State.settingsRestoreOp_eq (s2 := s1) (k2 := []) (s4 := s1.joinPorts) (k4 := []) hboot hall hsettings rfl
    henable rfl
  rwa [State.noteSkipped_nil] at hrestored

/-- A node in INIT with no snapshot, no join port and no twin goes to JOINING. -/
theorem State.settingsRestore_joins {s : State} (hboot : s.pw.boot = 4) (hall : s.flag ECC_INIT ECC_INIT_ALL = true)
    (hareas : s.th.setAreas = []) (hports : s.od 0x00B001 = 0) (hnode : s.node = .init) (hpaired : s.paired = false) :
    s.settingsRestoreOp.joins := by
  have hsettings := State.settings_of_no_snapshot hareas
  set s1 := (s.setFld THIM_STAT THIM_STAT_DEFAULTS 1).log 524 0 with hs1
  have hports1 : s1.od 0x00B001 = 0 := by rwa [hs1, State.log_frame]
  have hnode1 : s1.node = .init := by rwa [hs1, State.log_frame]
  have hpaired1 : s1.paired = false := by
    rwa [hs1, State.paired, State.flag, State.log_rd _ _ _ _ _ (by decide) (by decide),
      State.rd_setFld_other _ _ _ _ _ (by decide)]
  obtain ⟨j, v, hjoin⟩ := State.joinPorts_of_none hports1
  rw [State.settingsRestoreOp_defaults hboot hall hsettings]
  clear_value s1
  refine State.joins_enterJoining ?_ ?_
  · rw [hjoin]
    exact hnode1
  · rw [hjoin]
    exact hpaired1

/-- The end of Thimble boot serves the hosts and sends each governor's first target. -/
theorem State.thimbleBoot_serves {s : State} (hboot : s.pw.boot = 3) (hrec : s.recovering = false)
    (hrestr : s.th.restricted = false) :
    ∃ t : State, exec .thimbleBootComplete s = .next t ∧ t.pw.boot = 4 ∧ t.hostUp = true ∧ t.node = s.node ∧
      ∀ d : Nat, d < 2 → (t.gov d).started = true ∧ Out.avs d 0 (s.gov d).target ∈ t.out ∧ Out.avs d 1 (s.gov d).target ∈ t.out := by
  obtain ⟨f, o, q, l, r, hready⟩ := s.thimbleKept_thimbleReady
  have hgov (d : Nat) : s.thimbleReady.gov d = s.gov d := by rw [hready]; rfl
  refine ⟨Machine.settle s s.thimbleBootOp, rfl, ?_⟩
  rw [settle_pw, settle_hostUp, settle_node, State.thimbleBootOp_eq hboot hrec hrestr]
  refine ⟨?_, ?_, ?_, fun d hd => ?_⟩
  · rw [State.avsStart_pw, State.avsStart_pw, hready]; rfl
  · rw [State.avsStart_hostUp, State.avsStart_hostUp, hready]; rfl
  · rw [State.avsStart_node, State.avsStart_node, hready]; rfl
  · rw [settle_gov, State.avsStart_gov, hgov, hgov]
    obtain rfl | rfl : d = 0 ∨ d = 1 := by omega
    · rw [State.gov_setGov_other _ _ _ _ (by decide), State.avsStart_gov, State.gov_setGov_same]
      exact ⟨rfl, settle_out_mem _ _ _ (.tail _ (.tail _ (.tail _ (.head _)))), settle_out_mem _ _ _ (.tail _ (.tail _ (.head _)))⟩
    · rw [State.gov_setGov_same]
      exact ⟨rfl, settle_out_mem _ _ _ (.tail _ (.head _)), settle_out_mem _ _ _ (.head _)⟩

/-! ### The statement -/

/-- Settles O52: each step by the equation of its operation; the recovery of a boot with no image, the first commands of the
rails and the entry into JOINING by what the work before them leaves alone. -/
theorem bootCommandsComplete : Obligations.BootCommandsComplete := by
  refine ⟨?release, ?releaseLocked, ?lock, ?rom, ?recovery, ?thimble, ?initDone, ?initAll, ?restore, ?joining⟩
  case release =>
    intro s nid hboot hpower hpll
    refine next_settle_congr _ _ _ ?_
    simp [State.releaseOp, State.startMeridian, hboot, hpower, hpll]
  case releaseLocked =>
    intro s nid hboot hpower hpll
    refine next_settle_congr _ _ _ ?_
    simp [State.releaseOp, State.startMeridian, hboot, hpower, hpll]
  case lock =>
    intro s hboot hpll
    refine next_settle_congr _ _ _ ?_
    simp [State.pllLockOp, State.startMeridian, hboot, hpll]
  case rom =>
    intro s u stuck hboot htamper hu
    refine next_settle_congr _ _ _ ?_
    rw [State.bootRomOp_eq stuck false hboot, State.bootReady, State.bootTamper_idle htamper, hu]
  case recovery =>
    intro s stuck shield hboot
    refine ⟨settle s (s.bootRomOp stuck shield), rfl, ?_, fun himg hsel => ?_⟩
    · rw [settle_pw, State.bootRomOp_eq stuck shield hboot]
    · rw [State.upd, settle_fld, ← State.upd, State.bootRomOp_eq stuck shield hboot, State.upd_pw]
      exact State.bootImage_upd_of_noImages (State.bootReady_noImages stuck shield ⟨himg, hsel⟩)
  case thimble => exact fun s => State.thimbleBoot_serves
  case initDone =>
    intro s k hboot hk hsome
    exact next_settle_congr _ _ _ ((State.initDoneOp_eq hboot hk).trans (if_neg hsome))
  case initAll =>
    intro s k hboot hk hall
    refine next_settle_congr _ _ _ ((State.initDoneOp_eq hboot hk).trans ((if_pos hall).trans ?_))
    rw [hall]
  case restore =>
    intro s s1 s2 s3 s4 l k2 k3 k4 hboot hall hsettings hfirst henable hpair
    exact next_settle_congr _ _ _ (State.settingsRestoreOp_eq hboot hall hsettings hfirst henable hpair)
  case joining =>
    intro s hboot hall hareas hports hnode hpaired
    obtain ⟨hdone, hjoining, -⟩ := State.settingsRestore_joins hboot hall hareas hports hnode hpaired
    refine ⟨settle s s.settingsRestoreOp, rfl, ?_, ?_⟩
    · rwa [settle_pw]
    · rwa [settle_node]

end Sys2Proof.Machine

/-! ## Datums (R77 to R80, R82 to R86, R638)

A change that passes the checks of R638 ends as one write of its datum's state: what else an accepted commit, a cancel or an
effect does (the mirror record, the log, the gates and schedules of ports and channels) leaves every datum alone. -/

namespace Sys2Proof.Machine

/-! ### What leaves the datums alone -/

@[simp] theorem settle_datum (s t : State) (d : Nat) : (settle s t).datum d = t.datum d := by simp [State.datum]

@[simp] theorem State.setFld_datum (s : State) (a : Nat) (f : Fld) (v d : Nat) : (s.setFld a f v).datum d = s.datum d := rfl

@[simp] theorem State.log_datums (s : State) (rule inst : Nat) (p : List Nat) : (s.log rule inst p).datums = s.datums := by
  rw [State.log_frame]

@[simp] theorem State.mirrorSend_datums (s : State) (kind : Nat) (values : List Nat) :
    (s.mirrorSend kind values).datums = s.datums := rfl

@[simp] theorem State.mirror_datums (s : State) (kind : Nat) (values : List Nat) : (s.mirror kind values).datums = s.datums := by
  simp only [State.mirror, apply_ite State.datums, State.mirrorSend_datums, State.setFld_datums, State.count, State.wr_datums,
    ite_self]

theorem State.mirror_datum (s : State) (kind : Nat) (values : List Nat) (d : Nat) :
    (s.mirror kind values).datum d = s.datum d := by rw [State.datum, State.mirror_datums]; rfl

@[simp] theorem State.portSync_datums (s : State) (n : Nat) : (s.portSync n).datums = s.datums := rfl

@[simp] theorem State.preempt_datums (s : State) (n : Nat) : (s.preempt n).datums = s.datums := by
  unfold State.preempt
  split
  · rfl
  · dsimp only
    split <;> rfl

@[simp] theorem State.gateStep_datums (s : State) (n : Nat) : (s.gateStep n).datums = s.datums := by
  simp only [State.gateStep]
  split
  · simp only [apply_ite State.datums, State.preempt_datums, State.portSync_datums, ite_self]
  · exact State.portSync_datums s n

@[simp] theorem State.linRetime_datums (s : State) (c : Nat) : (s.linRetime c).datums = s.datums := by
  simp only [State.linRetime, apply_ite State.datums]
  exact ite_self _

/-- The gates and schedules that a datum times follow it and leave it alone. -/
theorem State.recordEffectOp_datums (s : State) (d : Nat) : (s.recordEffectOp d).datums = (s.pendingEffectOp d).datums := by
  have hgates : (s.pendingRecordOp d).datums = (s.pendingEffectOp d).datums := by
    refine State.foldl_keeps State.datums (fun t p => ?_) _ _
    simp only [apply_ite State.datums, State.gateStep_datums, ite_self]
  simp only [State.recordEffectOp]
  split
  · exact hgates
  · refine (State.foldl_keeps State.datums (fun t p => ?_) _ _).trans hgates
    simp only [apply_ite State.datums, State.linRetime_datums, ite_self]

/-! ### A pending record takes effect -/

/-- A datum once a pending record of it has taken effect (R79). -/
def DatumSt.taken (x : DatumSt) (p : DatumPend) : DatumSt :=
  { x with act := x.next p, past := x.act :: x.past, pend := none, gen := (x.gen + 1) % 2 ^ 16 }

theorem State.pendingEffectOp_datums {s : State} {d : Nat} {p : DatumPend} (hpend : (s.datum d).pend = some p)
    (hdue : p.eff ≤ s.mer) : (s.pendingEffectOp d).datums = (s.setDatum d ((s.datum d).taken p)).datums := by
  simp only [State.pendingEffectOp, hpend, if_neg (Nat.not_lt.mpr hdue), apply_ite State.datums, State.log_datums,
    State.setFld_datums]
  exact ite_self _

/-- At its anchor a record's view is its offset. -/
theorem DatumRec.view_anchor (r : DatumRec) : r.view r.anchor = r.offset % 2 ^ 64 := by simp [DatumRec.view]

/-- A view is a number of 64 bits. -/
theorem DatumRec.view_mod (r : DatumRec) (m : Nat) : r.view m % 2 ^ 64 = r.view m := Nat.mod_mod _ _

/-- A continuous change starts at the view of the record before it (R82). -/
theorem DatumSt.next_view_of_continuous (x : DatumSt) {p : DatumPend} (hstep : p.step = false) :
    (x.next p).view p.eff = x.act.view p.eff := by
  have hoffset : (x.next p).offset = x.act.view p.eff := by simp [DatumSt.next, hstep]
  rw [show p.eff = (x.next p).anchor from rfl, DatumRec.view_anchor, hoffset, DatumRec.view_mod]
  rfl

/-- Settles O15: of the datums the effect writes only the one whose record takes effect, and a continuous change starts at the
old view. -/
theorem pendingRecordTakesEffect : Obligations.PendingRecordTakesEffect := by
  intro s d p hpend hdue
  have hdatum (e : Nat) : (settle s (s.recordEffectOp d)).datum e = (s.setDatum d ((s.datum d).taken p)).datum e := by
    rw [settle_datum, State.datum, State.recordEffectOp_datums, State.pendingEffectOp_datums hpend hdue]
    rfl
  refine ⟨settle s (s.recordEffectOp d), rfl, ?_⟩
  rw [hdatum d, State.datum_setDatum_same]
  refine ⟨rfl, rfl, rfl, fun e he => ?_, fun hstep => (s.datum d).next_view_of_continuous hstep⟩
  rw [hdatum e, State.datum_setDatum_other _ _ _ _ he]

/-! ### A change is judged and accepted -/

/-- The registers may change a datum that neither follows nor is system datum 0, where configuration is taken. -/
theorem State.datumMay_regs {s : State} {q : DatumReq} (i : Iface) (commit : Bool) (htaken : s.refusesConfig = false)
    (hsys : q.d ≠ 1024) (hfollow : q.d < 1024 → (s.datum q.d).follow = false) : s.datumMay (.regs i) q commit = true := by
  by_cases hten : q.d < 1024
  · simp [State.datumMay, htaken, hsys, hfollow hten]
  · simp [State.datumMay, htaken, hsys, hten]

/-- A permitted request passes the checks where the pending record, if there is one, is the lead ahead, and of a commit the
rate is not 0 and E lies in its range. -/
theorem State.datumChecks_pass {s : State} {src : DatumSrc} {q : DatumReq} {commit : Bool} (hd : q.d ≤ 1031)
    (hsys : q.d ≠ 1024) (hpend : ∀ p, (s.datum q.d).pend = some p → s.mer + s.datumLead ≤ p.eff)
    (hcommit : commit = true → q.rate ≠ 0 ∧ s.mer + s.datumLead ≤ q.eff ∧ q.eff ≤ s.mer + 2 ^ 44) :
    s.datumChecks src q commit true = 0 := by
  have hexists : ¬ 1031 < q.d := Nat.not_lt.mpr hd
  have hvalue : (commit && (q.rate == 0 || (q.d == 1024 && s.servo.mode == 3 && q.step && !srcIsServo src &&
      q.offset % 2000000000 != 0))) = false := by
    cases commit with
    | false => rfl
    | true => simp [hsys, (hcommit rfl).1]
  have hrange : (commit && (decide (q.eff < s.mer + s.datumLead) || decide (s.mer + 2 ^ 44 < q.eff))) = false := by
    cases commit with
    | false => rfl
    | true => simpa using (hcommit rfl).2
  cases hp : (s.datum q.d).pend with
  | none => simp only [State.datumChecks, if_neg hexists, hvalue, hrange, hp, Bool.not_true, Bool.false_eq_true, if_false]
  | some p =>
    have hlate : ¬ p.eff < s.mer + s.datumLead := Nat.not_lt.mpr (hpend p hp)
    simp only [State.datumChecks, if_neg hexists, hvalue, hrange, hp, decide_eq_false hlate, Bool.not_true,
      Bool.false_eq_true, if_false]

/-- The state that an accepted commit leaves its datum in, where the datum does not follow (R79). -/
def DatumSt.asked (x : DatumSt) (q : DatumReq) : DatumSt :=
  { x with nominal := if q.d < 1024 then q.rate else x.nominal,
           pend := some { eff := q.eff, step := q.step, rate := q.rate, offset := q.offset } }

theorem State.datumAccept_datum {s : State} {q : DatumReq} (hsys : q.d ≠ 1024)
    (hfollow : q.d < 1024 → (s.datum q.d).follow = false) (e : Nat) :
    (s.datumAccept q).datum e = (s.setDatum q.d ((s.datum q.d).asked q)).datum e := by
  have hfree : ((s.datum q.d).follow && decide (q.d < 1024)) = false := by
    by_cases hten : q.d < 1024
    · simp [hfollow hten]
    · simp [hten]
  simp only [State.datumAccept, hfree, hsys, Bool.false_and, Bool.false_eq_true, false_and, if_false, State.putPending,
    State.mirror_datum]
  by_cases he : e = q.d
  · subst he
    simp only [State.datum_setDatum_same]
    rfl
  · simp only [State.datum_setDatum_other _ _ _ _ he]

/-- An acceptable commit of the registers becomes the pending record of its datum and of no other. -/
theorem State.datumCommitOp_accepted {s : State} {i : Iface} {q : DatumReq} (hq : s.datumReq (.regs i) = q)
    (hready : s.datumReady (.regs i) = true) (htwin : s.viaTwin = false) (htaken : s.refusesConfig = false) (hd : q.d ≤ 1031)
    (hsys : q.d ≠ 1024) (hfollow : q.d < 1024 → (s.datum q.d).follow = false) (hpend : (s.datum q.d).pend = none)
    (hrate : q.rate ≠ 0) (hlead : s.mer + s.datumLead ≤ q.eff) (hfar : q.eff ≤ s.mer + 2 ^ 44) :
    ∃ t : State, s.datumCommitOp (.regs i) = t.datumResult (.regs i) 0 ∧
      ∀ e, t.datum e = (s.setDatum q.d ((s.datum q.d).asked q)).datum e := by
  have hjudge : s.datumJudge (.regs i) q true = 0 := by
    rw [State.datumJudge, State.datumMay_regs i true htaken hsys hfollow]
    exact State.datumChecks_pass hd hsys (fun p hp => absurd (hpend.symm.trans hp) nofun) fun _ => ⟨hrate, hlead, hfar⟩
  refine ⟨s.datumAccept q, ?_, State.datumAccept_datum hsys hfollow⟩
  simp [State.datumCommitOp, State.datumFirst, hq, hready, htwin, hjudge, hsys]

/-- An acceptable cancel of the registers removes the pending record of its datum and no other. -/
theorem State.datumCancelOp_accepted {s : State} {i : Iface} {q : DatumReq} {p : DatumPend} (hq : s.datumReq (.regs i) = q)
    (hready : s.datumReady (.regs i) = true) (htwin : s.viaTwin = false) (htaken : s.refusesConfig = false) (hd : q.d ≤ 1031)
    (hsys : q.d ≠ 1024) (hfollow : q.d < 1024 → (s.datum q.d).follow = false) (hpend : (s.datum q.d).pend = some p)
    (hlead : s.mer + s.datumLead ≤ p.eff) :
    ∃ t : State, s.datumCancelOp (.regs i) = t.datumResult (.regs i) 0 ∧
      ∀ e, t.datum e = (s.setDatum q.d { s.datum q.d with pend := none }).datum e := by
  have hjudge : s.datumJudge (.regs i) q false = 0 := by
    rw [State.datumJudge, State.datumMay_regs i false htaken hsys hfollow]
    refine State.datumChecks_pass hd hsys (fun p' hp' => ?_) nofun
    rwa [Option.some.inj (hp'.symm.trans hpend)]
  refine ⟨(s.setDatum q.d { s.datum q.d with pend := none }).mirror 2 [q.d, q.eff, q.rate, q.offset, 2], ?_,
    State.mirror_datum _ _ _⟩
  simp only [State.datumCancelOp, State.datumFirst, hq, hready, htwin, hjudge, hpend, Option.isSome_some, Bool.not_true,
    Bool.false_eq_true, and_self, if_true, if_false]

/-- RESULT and BUSY of an accepted request of the registers; no datum is touched. -/
theorem settle_datumResult_regs (s t : State) (i : Iface) :
    (settle s (t.datumResult (.regs i) 0)).flag TIME_DCMD TIME_DCMD_BUSY = true ∧
      (settle s (t.datumResult (.regs i) 0)).fld TIME_DCMD TIME_DCMD_RESULT = 0 ∧
      ∀ e, (settle s (t.datumResult (.regs i) 0)).datum e = t.datum e := by
  have hresult : t.datumResult (.regs i) 0 = (t.setFld TIME_DCMD TIME_DCMD_RESULT 0).setFld TIME_DCMD TIME_DCMD_BUSY 1 := rfl
  rw [hresult, settle_flag, settle_fld,
    State.fld_setFld_apart _ _ _ _ _ (by decide) (by decide) (by decide) (by decide)]
  exact ⟨State.flag_setFld_same _ _ _ 1 (by decide) (by decide), State.fld_setFld_same _ _ _ 0 (by decide) (by decide),
    fun e => settle_datum s _ e⟩

/-! ### A fetch -/

theorem State.rd64_wr64 (s : State) (a : Nat) {v : Nat} (hv : v < 2 ^ 64) : (s.wr64 a v).rd64 a = v := by
  simp only [State.rd64, State.wr64, State.rd_wr_same, State.rd_wr_other _ _ _ _ (show a ≠ a + 4 by omega),
    BitVec.toNat_ofNat]
  omega

/-- The two words of a 64-bit value stay where another word is written. -/
theorem State.rd64_wr_other (s : State) {a b : Nat} (w : Word) (hlo : a ≠ b) (hhi : a + 4 ≠ b) :
    (s.wr b w).rd64 a = s.rd64 a := by
  rw [State.rd64, State.rd64, State.rd_wr_other _ _ _ _ hlo, State.rd_wr_other _ _ _ _ hhi]

theorem State.rd64_wr64_other (s : State) {a b : Nat} (v : Nat) (hlo : a ≠ b ∧ a ≠ b + 4) (hhi : a + 4 ≠ b) :
    (s.wr64 b v).rd64 a = s.rd64 a := by
  have hlast : a + 4 ≠ b + 4 := fun h => hlo.1 (Nat.add_right_cancel h)
  rw [State.wr64, State.rd64_wr_other _ _ hlo.2 hlast, State.rd64_wr_other _ _ hlo.1 hhi]

theorem State.rd64_setFld_other (s : State) {a b : Nat} (f : Fld) (v : Nat) (hlo : a ≠ b) (hhi : a + 4 ≠ b) :
    (s.setFld b f v).rd64 a = s.rd64 a := State.rd64_wr_other _ _ hlo hhi

/-- The staging registers and RESULT that a fetch of a pending record fills. -/
def State.datumFetched (s : State) (x : DatumSt) (p : DatumPend) : State :=
  (((((s.setFlag TIME_DSEL TIME_DSEL_MODE p.step).wr64 TIME_DEFF_LO p.eff).wr TIME_DRATE_LO (BitVec.ofNat 32 p.rate)).setFld
    TIME_DRATE_HI TIME_DRATE_HI_RATE (p.rate / 2 ^ 32)).wr64 TIME_DOFF_LO (x.next p).offset).setFld TIME_DCMD
    TIME_DCMD_RESULT 0

/-- What a fetch with no command running does for a datum that exists. -/
theorem State.datumFetchOp_eq {s : State} (i : Iface) (hup : s.hostUp = true) (hidle : s.flag TIME_DCMD TIME_DCMD_BUSY = false)
    (hd : s.fld TIME_DSEL TIME_DSEL_DATUM ≤ 1031) :
    s.datumFetchOp i = (s.datum (s.fld TIME_DSEL TIME_DSEL_DATUM)).pend.elim (s.setFld TIME_DCMD TIME_DCMD_RESULT 3)
      (s.datumFetched (s.datum (s.fld TIME_DSEL TIME_DSEL_DATUM))) := by
  simp only [State.datumFetchOp, hup, hidle, Bool.not_true, Bool.or_self, Bool.false_eq_true, if_false,
    if_neg (Nat.not_lt.mpr hd)]
  cases (s.datum (s.fld TIME_DSEL TIME_DSEL_DATUM)).pend <;> rfl

theorem State.datumFetched_eff (s : State) (x : DatumSt) {p : DatumPend} (h : p.eff < 2 ^ 64) :
    (s.datumFetched x p).rd64 TIME_DEFF_LO = p.eff := by
  rw [State.datumFetched, State.rd64_setFld_other _ _ _ (by decide) (by decide),
    State.rd64_wr64_other _ _ (by decide) (by decide), State.rd64_setFld_other _ _ _ (by decide) (by decide),
    State.rd64_wr_other _ _ (by decide) (by decide), State.rd64_wr64 _ _ h]

theorem State.datumFetched_result (s : State) (x : DatumSt) (p : DatumPend) :
    (s.datumFetched x p).fld TIME_DCMD TIME_DCMD_RESULT = 0 :=
  State.fld_setFld_same _ TIME_DCMD TIME_DCMD_RESULT 0 (by decide) (by decide)

theorem settle_rd64 (s t : State) (a : Nat) : (settle s t).rd64 a = t.rd64 a := by simp only [State.rd64, settle_rd]

/-! ### The statements -/

/-- Settles O14: a commit or cancel that passes the checks of R638 is one write of its datum's state with its RESULT; a fetch
fills the staging registers. -/
theorem datumChangeBecomesPending : Obligations.DatumChangeBecomesPending := by
  refine ⟨?commit, ?cancel, ?fetchNone, ?fetchSome⟩
  case commit =>
    intro s i d eff rate hup hidle htwin htaken hsel hd hsys hfollow hpend heff hrate hrate0 hlead hfar
    have hq : s.datumReq (.regs i) =
        { d, eff, step := s.flag TIME_DSEL TIME_DSEL_MODE, offset := s.rd64 TIME_DOFF_LO, rate } := by
      rw [← hsel, ← heff, ← hrate]
      rfl
    obtain ⟨t, hop, hdatum⟩ := State.datumCommitOp_accepted hq (by simp [State.datumReady, hup, hidle]) htwin htaken hd hsys
      hfollow hpend hrate0 hlead hfar
    obtain ⟨hbusy, hresult, hsettled⟩ := settle_datumResult_regs s t i
    refine ⟨_, next_settle_congr _ _ _ hop, ?_⟩
    rw [hsettled, hdatum, State.datum_setDatum_same]
    refine ⟨rfl, rfl, rfl, fun e he => ?_, hbusy, hresult⟩
    rw [hsettled, hdatum, State.datum_setDatum_other _ _ _ _ he]
  case cancel =>
    intro s i d p hup hidle htwin htaken hsel hd hsys hfollow hpend hlead
    have hq : s.datumReq (.regs i) = { s.datumReq (.regs i) with d := d } := by
      rw [← hsel]
      rfl
    obtain ⟨t, hop, hdatum⟩ := State.datumCancelOp_accepted hq (by simp [State.datumReady, hup, hidle]) htwin htaken hd hsys
      hfollow hpend hlead
    obtain ⟨hbusy, hresult, hsettled⟩ := settle_datumResult_regs s t i
    refine ⟨_, next_settle_congr _ _ _ hop, ?_⟩
    rw [hsettled, hdatum, State.datum_setDatum_same]
    refine ⟨rfl, rfl, fun e he => ?_, hbusy, hresult⟩
    rw [hsettled, hdatum, State.datum_setDatum_other _ _ _ _ he]
  case fetchNone =>
    intro s i hup hidle hd hpend
    refine next_settle_congr _ _ _ ((State.datumFetchOp_eq i hup hidle hd).trans ?_)
    rw [hpend]
    rfl
  case fetchSome =>
    intro s i p hup hidle hd hpend heff
    refine ⟨settle s (s.datumFetchOp i), rfl, ?_⟩
    rw [settle_rd64, settle_fld, State.datumFetchOp_eq i hup hidle hd, hpend]
    exact ⟨State.datumFetched_eff _ _ heff, State.datumFetched_result _ _ _⟩

/-- Settles O12: nothing is stored for any datum at reset. -/
theorem datumsAtReset : Obligations.DatumsAtReset := by
  intro d _
  have hreset : State.reset.datum d = DatumSt.reset := rfl
  rw [hreset]
  exact ⟨rfl, rfl, rfl, rfl, rfl⟩

end Sys2Proof.Machine

/-! ## The reads of the time block (R74, R78, R98, R105) -/

namespace Sys2Proof.Machine

/-- A read of the selected view, by the value it answers. -/
theorem State.viewReadOp_eq {s : State} {v : Nat} (i : Iface) (hup : s.hostUp = true)
    (hv : (if 1031 < s.fld TIME_VSEL TIME_VSEL_DATUM then 0 else s.viewNow (s.fld TIME_VSEL TIME_VSEL_DATUM)) = v) :
    s.viewReadOp i =
      ((((s.latch i TIME_VIEW_HI (BitVec.ofNat 32 (v / 2 ^ 32))).latch i TIME_VMER_LO (BitVec.ofNat 32 s.mer)).latch i
        TIME_VMER_HI (BitVec.ofNat 32 (s.mer / 2 ^ 32))).answer i TIME_VIEW_LO (BitVec.ofNat 32 v)) := by
  subst hv
  exact State.hostAccess_of_up hup _

/-- A read of the head word of an empty queue, on a page that is not hidden. -/
theorem State.tsqReadOp_empty {s : State} {u : Nat} (i : Iface) (hup : s.hostUp = true) (hshown : s.tsqHidden u = false)
    (hq : s.tsq u = []) :
    s.tsqReadOp i u =
      (((((s.latch i (tsqAddr u + 4) 0).latch i (tsqAddr u + 8) 0).latch i (tsqAddr u + 12) 0).latch i (tsqAddr u + 16) 0).answer
        i (tsqAddr u) 0) := by
  rw [State.tsqReadOp, if_neg (ne_true_of_eq_false hshown), hq]
  exact State.hostAccess_of_up hup _

/-- A read of the head word of a queue removes its oldest entry, on a page that is not hidden. -/
theorem State.tsqReadOp_head {s : State} {u : Nat} {e : TsqEntry} {rest : List TsqEntry} (i : Iface) (hup : s.hostUp = true)
    (hshown : s.tsqHidden u = false) (hq : s.tsq u = e :: rest) :
    s.tsqReadOp i u =
      ((((((s.setTsq u rest).latch i (tsqAddr u + 4) (BitVec.ofNat 32 e.mer)).latch i (tsqAddr u + 8)
        (BitVec.ofNat 32 (e.mer / 2 ^ 32))).latch i (tsqAddr u + 12) (BitVec.ofNat 32 e.ten)).latch i (tsqAddr u + 16)
        (BitVec.ofNat 32 (e.ten / 2 ^ 32))).answer i (tsqAddr u)
          (BitVec.ofNat 32 (2 ^ 31 + 2 ^ 30 * bit e.disc + 2 ^ 28 * (e.src % 4) + e.ident % 2 ^ 16))) := by
  rw [State.tsqReadOp, if_neg (ne_true_of_eq_false hshown), hq]
  exact State.hostAccess_of_up hup _

/-- Settles O13: every read is its operation's equation once the interfaces are up. -/
theorem timeReadsComplete : Obligations.TimeReadsComplete := by
  refine ⟨?meridian, ?noView, ?view, ?snapshot, ?pps, ?head, ?hidden, ?empty⟩
  case meridian =>
    intro s i hup
    refine next_settle_congr _ _ _ ?_
    exact State.hostAccess_of_up hup _
  case noView =>
    intro s i hup hsel
    refine next_settle_congr _ _ _ ((State.viewReadOp_eq i hup (if_pos hsel)).trans ?_)
    rw [Nat.zero_div]
    rfl
  case view =>
    exact fun s i hup hsel => next_settle_congr _ _ _ (State.viewReadOp_eq i hup (if_neg (Nat.not_lt.mpr hsel)))
  case snapshot =>
    intro s i d hup
    refine next_settle_congr _ _ _ ?_
    exact State.hostAccess_of_up hup _
  case pps =>
    intro s i hup
    refine next_settle_congr _ _ _ ?_
    exact State.hostAccess_of_up hup _
  case head =>
    exact fun s i u e rest hup hshown hq => next_settle_congr _ _ _ (State.tsqReadOp_head i hup hshown hq)
  case hidden =>
    exact fun s i u hup hhidden => next_settle_congr _ _ _ ((if_pos hhidden).trans (State.hostAccess_of_up hup _))
  case empty => exact fun s i u hup hshown hq => next_settle_congr _ _ _ (State.tsqReadOp_empty i hup hshown hq)

end Sys2Proof.Machine

/-! ## Frames in and out of a port (R103, R116, R119, R120, R127 to R135, R256, R425) -/

namespace Sys2Proof.Machine

/-! ### Receive -/

/-- An enabled port that holds its own page, with its panel's reference and lock, receives frames. -/
def State.receives (s : State) (n : Nat) : Prop :=
  s.portEn n = true ∧ s.portShadowed n = false ∧ s.refPresent (n / 64) = true ∧ (s.port n).noLock = false

/-- A data frame for which the MAC found the receive FIFO full is an overrun. -/
theorem State.frameReceiveOp_overrun {s : State} {n : Nat} {d : List Byte} (raw : Nat) (hopen : s.receives n)
    (hctl : s.isCtl n d = false) (hmac : isMacCtl d = false) :
    s.frameReceiveOp n d 4 raw = (s.portCount n 8).portDrop n rOverrun := by
  obtain ⟨hen, hpage, href, hlock⟩ := hopen
  simp [State.frameReceiveOp, hen, hpage, href, hlock, hctl, hmac]

/-- What the MAC decides on a frame that does not find the data FIFO full. -/
theorem State.frameReceiveOp_of_room {s : State} {n found : Nat} {d : List Byte} (raw : Nat) (hopen : s.receives n)
    (hroom : s.isCtl n d = true ∨ s.rxWords n < 64) (hfound : found ≠ 4) :
    s.frameReceiveOp n d found raw =
      if found = 2 then (s.portCount n 6).portDrop n rMalformed
      else if found = 3 then (s.portCount n 15).portDrop n rMalformed
      else if d.length + 4 < 64 then (s.portCount n 5).portDrop n rMalformed
      else if s.portMaxlen n < d.length + 4 then s.rxBad n 5 d raw
      else if found = 1 then s.rxBad n 4 d raw
      else if isMacCtl d = true then s.portCount n 9
      else s.rxGood n d raw := by
  obtain ⟨hen, hpage, href, hlock⟩ := hopen
  have hfree : (!s.isCtl n d && !isMacCtl d && (found == 4 || decide (64 ≤ s.rxWords n))) = false := by
    rcases hroom with h | h
    · simp [h]
    · simp [hfound, Nat.not_le.mpr h]
  simp [State.frameReceiveOp, hen, hpage, href, hlock, hfree]

/-- A sound frame of a legal length that is no MAC control frame is accepted (R119). -/
theorem State.frameReceiveOp_good {s : State} {n : Nat} {d : List Byte} (raw : Nat) (hopen : s.receives n)
    (hroom : s.isCtl n d = true ∨ s.rxWords n < 64) (hmin : 60 ≤ d.length) (hmax : d.length + 4 ≤ s.portMaxlen n)
    (hmac : isMacCtl d = false) : s.frameReceiveOp n d 0 raw = s.rxGood n d raw := by
  rw [State.frameReceiveOp_of_room raw hopen hroom (by decide), if_neg (by decide), if_neg (by decide),
    if_neg (by omega), if_neg (by omega), if_neg (by decide), if_neg (ne_true_of_eq_false hmac)]

/-- An admission to a parser moves the panel's pace alone (R65). -/
theorem State.admitData_frame (s : State) (p : Nat) : ∃ f, (s.admitData p).2 = { s with admitAt := f } := by
  simp only [State.admitData]
  split
  · exact ⟨_, rfl⟩
  · split <;> exact ⟨_, rfl⟩

/-- A data frame that passes the group filter and is admitted goes to its panel's parser. -/
theorem State.rxGood_parsed {s a u : State} {n : Nat} {d : List Byte} {hit : Bool} (raw : Nat) (hctl : s.isCtl n d = false)
    (hgptp : s.isGptp n d = false) (hadm : s.admitData (n / 64) = (true, a)) (hsample : (a.rxCount n d).sampleStep n = (hit, u))
    (hpass : oct d 0 % 2 = 0 ∨ s.groupPass n d = true) :
    s.rxGood n d raw =
      (u.capture n { a.rxItem n d raw with mirror := if hit then some 0 else none }
        (a.tenantStamp (a.portTenant n) (a.rxItem n d raw).stamp)).parse (n / 64)
          { a.rxItem n d raw with mirror := if hit then some 0 else none } := by
  have hfilter : (oct d 0 % 2 == 0 || s.groupPass n d) = true := by simpa using hpass
  obtain ⟨f, hf⟩ := s.admitData_frame (n / 64)
  have ha : a = { s with admitAt := f } := by rw [← hf, hadm]
  have hctl' : a.isCtl n d = false := by rw [ha]; exact hctl
  have hgptp' : a.isGptp n d = false := by rw [ha]; exact hgptp
  simp [State.rxGood, hfilter, hctl, hgptp, hadm, hsample, hctl', hgptp']

/-- A group frame that the filter does not pass is counted and discarded. -/
theorem State.rxGood_denied {s u : State} {n : Nat} {d : List Byte} {hit : Bool} (raw : Nat) (hctl : s.isCtl n d = false)
    (hgroup : oct d 0 % 2 = 1) (hdeny : s.groupPass n d = false) (hsample : (s.rxCount n d).sampleStep n = (hit, u)) :
    s.rxGood n d raw =
      ((u.capture n { s.rxItem n d raw with mirror := if hit then some 0 else none }
        (s.tenantStamp (s.portTenant n) (s.rxItem n d raw).stamp)).portCount n 7).dropItem
          { s.rxItem n d raw with mirror := if hit then some 0 else none, tenant := (s.portTenant n).getD 1024 }
          rFilterDeny := by
  simp [State.rxGood, hgroup, hdeny, hctl, hsample]

/-- A control-class frame goes to the control FIFO, filtered or not. -/
theorem State.rxGood_control {s u : State} {n : Nat} {d : List Byte} {hit : Bool} (raw : Nat) (hctl : s.isCtl n d = true)
    (hsample : (s.rxCount n d).sampleStep n = (hit, u)) : s.rxGood n d raw = u.ctlEnter n d := by
  simp [State.rxGood, hctl, hsample]

/-! ### Admission to a port's queue -/

/-- The oldest admission, for one queue of a port whose owner is still the one it was offered under. -/
theorem State.itemEnqueueOp_port {s t : State} {p n q : Nat} {o : Offer} {rest : List Offer}
    (hin : Sparse.get (fun _ => []) s.offers p = o :: rest) (hcopies : o.copies = [.port n q])
    (hown : o.own = [t.destOwner (.port n q)])
    (ht : t = State.portSync { s with offers := Sparse.set (fun _ => []) s.offers p rest } n)
    (hlive : t.destLive (.port n q) = true) :
    s.itemEnqueueOp p =
      if o.item.bad && !t.cutThrough o then t
      else if t.cutThrough o && (t.queueIn p o).chainCtr != t.chainCtr then (t.queueIn p o).count (CORE_PNLp_CNTc p 6)
      else t.queueIn p o := by
  have hwhole : { o with copies := [.port n q], own := [t.destOwner (.port n q)] } = o := by rw [← hcopies, ← hown]
  have hkept : (t.destOwner (.port n q) != t.destOwner (.port n q)) = false := bne_self_eq_false _
  simp only [State.itemEnqueueOp, hin, hcopies, hown, List.foldl_cons, List.foldl_nil, ← ht, List.zip_cons_cons,
    List.zip_nil_right, List.filter_cons, List.filter_nil, List.map_cons, List.map_nil, hkept, hlive, hwhole, Bool.not_false,
    Bool.not_true, Bool.false_eq_true, if_true, if_false]

/-! ### Transmission -/

/-- An enabled port with its link up, no remote fault and no LPI, once its credits are brought up and its unfit heads are
discarded. -/
theorem State.transmitStartOp_ready {s t : State} {n : Nat} (raw : Nat) (hen : s.portEn n = true) (hlink : s.portLink n = true)
    (hfault : s.flag (PORT_STATn n) PORT_STATn_RFAULT = false) (hlpi : s.flag (PORT_STATn n) PORT_STATn_LPI_TX = false)
    (hsync : (s.portSync n).portEn n = true) (ht : t = (List.range 17).foldl (fun u r => u.purgeQueue n r) (s.portSync n)) :
    (∀ q, (t.port n).tx = none → t.pickQueue n false = some q → s.transmitStartOp n raw = t.txBegin n q raw) ∧
    (∀ q x, (t.port n).tx = some x → t.pickQueue n true = some q → ((t.preempt n).port n).tx = none →
      s.transmitStartOp n raw = (t.preempt n).txBegin n q raw) := by
  refine ⟨fun q htx hpick => ?_, fun q x htx hpick hcut => ?_⟩
  · simp only [State.transmitStartOp, State.portRuns, hen, hlink, hfault, hlpi, hsync, ← ht, htx, hpick, Bool.true_or,
      Bool.not_true, Bool.or_false, Bool.false_eq_true, if_false]
  · simp only [State.transmitStartOp, State.portRuns, hen, hlink, hfault, hlpi, hsync, ← ht, htx, hpick, hcut, Bool.true_or,
      Bool.not_true, Bool.or_false, Bool.false_eq_true, if_false, Option.isNone_none, if_true]

/-- With no preempted frame the entry is that of the frame on the wire, once it has crossed the plane. -/
theorem State.txStampOp_wire {s : State} {n : Nat} {x : TxFrame} (hrem : (s.port n).rem = none) (htx : (s.port n).tx = some x)
    (hcrossed : x.raw ≤ s.mer) :
    s.txStampOp n = (s.txStamp n x).setPort n { s.port n with tx := some { x with stamped := true } } := by
  simp only [State.txStampOp, hrem, htx, if_neg (Nat.not_lt.mpr hcrossed), Bool.false_eq_true, if_false]

/-- A preempted frame that still owes its entry crossed the plane first. -/
theorem State.txStampOp_preempted {s : State} {n : Nat} {x : TxFrame} (hrem : (s.port n).rem = some x)
    (howed : x.stamped = false) (hreq : x.item.tsreq.isSome = true) : s.txStampOp n = s.remStamp n := by
  simp only [State.txStampOp, hrem, howed, hreq, Bool.not_false, Bool.and_self, if_true]

/-- The head of the highest queue of a Seam egress that holds an item goes over its group. -/
theorem State.seamSend_head {s t : State} {g q m : Nat} {e : QEnt} {rest : List QEnt}
    (hup : s.flag SEAM_STAT SEAM_STAT_UP = true)
    (hpick : (List.range 16).reverse.find? (fun r => !(s.queue (Dest.seam g 0 r).key).isEmpty) = some q)
    (hqueue : s.queue (Dest.seam g 0 q).key = e :: rest) (hsound : e.item.poison = false) (hdest : e.dest = .seam g m q)
    (ht : t = s.obs e.dest.panel 0x021 e.cells (tenant := some e.item.tenant) (cls := some e.dest.cls)) :
    s.seamSend g =
      (((t.setQueue (.seam g 0 q) rest).freeEntry e).count (SEAM_CNTc 6)).emitOut (.seamData g (seamPacket m q e.item)) := by
  subst ht
  simp only [State.seamSend, hup, hpick, hqueue, hsound, hdest, Bool.not_true, Bool.false_eq_true, if_false]

/-! ### Gates -/

/-- An accepted CHANGE waits as the pending configuration (R129). -/
theorem State.gateChangeOp_accepted {s t : State} {n : Nat} {g : GateCfg} (i : Iface) {w : Word} (hup : s.hostUp = true)
    (hpage : s.portShadowed n = false) (hchange : getB w PORT_GCTLn_CHANGE = true)
    (ht : t = (State.typedWrite (s.portSync n) i (PORT_GCTLn n) w).portSync n) (hcfg : t.gateChange n = some g) :
    s.gateChangeOp i n w =
      (t.setPort n { t.port n with gatePend := some g }).setFld (PORT_STATn n) PORT_STATn_GATE_PEND 1 := by
  subst ht
  rw [State.gateChangeOp, State.hostAccess_of_up hup]
  simp only [State.gctlWrite, hpage, hchange, hcfg, Bool.not_true, Bool.false_eq_true, if_false]

/-- The pending configuration takes effect once its base time is reached (R130). -/
theorem State.gateEffectOp_due {s : State} {n : Nat} {g : GateCfg} (hpend : (s.port n).gatePend = some g)
    (hdue : reached (s.viewNow g.ten) g.base = true) :
    s.gateEffectOp n =
      ((State.showGates (State.setFld (State.setFld (s.setPort n { s.port n with gateOper := some g, gatePend := none })
        (PORT_STATn n) PORT_STATn_GATE_PEND 0) (PORT_STATn n) PORT_STATn_GATE_OPER 1) n g).portEvent n
          PORT_EVTn_GATE_CHG).gateStep n := by
  simp only [State.gateEffectOp, hpend, hdue, Bool.not_true, Bool.false_eq_true, if_false]

/-! ### The statement -/

/-- Settles O18: every clause is the equation of its command's operation under the command's guard. -/
theorem portTrafficCommandsComplete : Obligations.PortTrafficCommandsComplete := by
  refine ⟨?parsed, ?denied, ?control, ?discarded, ?enqueue, ?start, ?express, ?stamp, ?stampPreempted, ?complete, ?seam,
    ?change, ?effect, ?event, ?lpiEntry, ?lpiExit, ?lpiReceive⟩
  case parsed =>
    intro s a u v n raw d hit it hen hpage href hlock hmin hmax hmac hctl hwords hgptp hadm hsample hitem hv hpass
    subst hitem hv
    have hgood := State.frameReceiveOp_good raw ⟨hen, hpage, href, hlock⟩ (.inr hwords) hmin hmax hmac
    exact next_settle_congr _ _ _ (hgood.trans (State.rxGood_parsed raw hctl hgptp hadm hsample hpass))
  case denied =>
    intro s u v n raw d hit it hen hpage href hlock hmin hmax hmac hctl hwords hgroup hdeny hsample hitem hv
    subst hitem hv
    have hgood := State.frameReceiveOp_good raw ⟨hen, hpage, href, hlock⟩ (.inr hwords) hmin hmax hmac
    exact next_settle_congr _ _ _ (hgood.trans (State.rxGood_denied raw hctl hgroup hdeny hsample))
  case control =>
    intro s u n raw d hit hen hpage href hlock hmin hmax hmac hctl hsample
    have hgood := State.frameReceiveOp_good raw ⟨hen, hpage, href, hlock⟩ (.inl hctl) hmin hmax hmac
    exact next_settle_congr _ _ _ (hgood.trans (State.rxGood_control raw hctl hsample))
  case discarded =>
    intro s n raw d hen hpage href hlock hctl hwords
    have hopen : s.receives n := ⟨hen, hpage, href, hlock⟩
    have hjudged {found : Nat} (h : found ≠ 4) := State.frameReceiveOp_of_room raw hopen (d := d) (.inr hwords) h
    refine ⟨next_settle_congr _ _ _ (hjudged (by decide)), next_settle_congr _ _ _ (hjudged (by decide)),
      fun hmac => next_settle_congr _ _ _ (State.frameReceiveOp_overrun raw hopen hctl hmac),
      fun hshort => ?_, fun hmin hmax hmac => ?_, fun hmin hmax => ?_⟩
    · refine next_settle_congr _ _ _ ((hjudged (by decide)).trans ?_)
      simp [hshort]
    · refine next_settle_congr _ _ _ ((hjudged (by decide)).trans ?_)
      rw [if_neg (by decide), if_neg (by decide), if_neg (by omega), if_neg (by omega), if_neg (by decide), if_pos hmac]
    · refine next_settle_congr _ _ _ ((hjudged (by decide)).trans ?_)
      rw [if_neg (by decide), if_neg (by decide), if_neg (by omega), if_neg (by omega), if_pos rfl]
  case enqueue =>
    intro s t p n q o rest hin hcopies hown ht hlive
    have hop := State.itemEnqueueOp_port hin hcopies hown ht hlive
    refine ⟨fun ⟨hcut, hqueued⟩ => next_settle_congr _ _ _ (hop.trans ?_),
      fun hcut hsound => next_settle_congr _ _ _ (hop.trans ?_)⟩
    · simp [hcut, hqueued]
    · simp [hcut, hsound]
  case start =>
    intro s t n q raw hen hlink hfault hlpi hsync ht htx hpick
    exact next_settle_congr _ _ _ ((State.transmitStartOp_ready raw hen hlink hfault hlpi hsync ht).1 q htx hpick)
  case express =>
    intro s t n q raw x hen hlink hfault hlpi hsync ht htx hpick hcut
    exact next_settle_congr _ _ _ ((State.transmitStartOp_ready raw hen hlink hfault hlpi hsync ht).2 q x htx hpick hcut)
  case stamp => exact fun s n x hrem htx hcrossed => next_settle_congr _ _ _ (State.txStampOp_wire hrem htx hcrossed)
  case stampPreempted =>
    exact fun s n x hrem howed hreq => next_settle_congr _ _ _ (State.txStampOp_preempted hrem howed hreq)
  case complete => exact fun s n x hn _ => next_settle_congr _ _ _ (if_pos hn)
  case seam =>
    intro s t g q m e rest hup hpick hqueue hsound hdest ht
    have hgroup : s.transmitCompleteOp (1024 + g) = s.seamSend g := by
      rw [State.transmitCompleteOp, if_neg (by omega), Nat.add_sub_cancel_left]
    exact next_settle_congr _ _ _ (hgroup.trans (State.seamSend_head hup hpick hqueue hsound hdest ht))
  case change =>
    exact fun s t i n w g hup hpage hchange ht hcfg =>
      next_settle_congr _ _ _ (State.gateChangeOp_accepted i hup hpage hchange ht hcfg)
  case effect =>
    intro s t n g hpend hdue ht
    subst ht
    exact next_settle_congr _ _ _ (State.gateEffectOp_due hpend hdue)
  case event => exact fun s n hruns => next_settle_congr _ _ _ (if_pos hruns)
  case lpiEntry =>
    intro s n hen hlink hfault hempty hbarred hidle
    exact next_settle_congr _ _ _ (if_pos (by simp [hen, hlink, hfault, hempty, hbarred, hidle]))
  case lpiExit =>
    intro s n hlpi hleave
    exact next_settle_congr _ _ _ (if_pos (by simpa [hlpi] using hleave))
  case lpiReceive => exact fun s n on hruns => next_settle_congr _ _ _ (if_pos hruns)

end Sys2Proof.Machine

/-! ## READ, WRITE and the answers that follow a result (R86, R250, R444, R451, R452, R469, R523, R550) -/

namespace Sys2Proof.Machine

/-! ### Requests -/

/-- A request in turn whose session, if it names one, is open is executed for it. -/
theorem State.oapRun_open {s : State} {op : Nat} {r : OapReq} (f : State → OapReq → Option Session → State)
    (hnext : s.oapNext op = some r) (hopen : pduSession r.pdu ≠ 0 → (s.session? (pduSession r.pdu)).isSome = true) :
    s.oapRun op f = f (s.unqueue r) r (s.session? (pduSession r.pdu)) := by
  have hsession : (s.unqueue r).session? (pduSession r.pdu) = s.session? (pduSession r.pdu) := rfl
  have hserved : ¬ (pduSession r.pdu ≠ 0 ∧ (s.session? (pduSession r.pdu)).isNone = true) := fun ⟨hnum, hnone⟩ =>
    Option.not_isSome_iff_eq_none.mpr (Option.isNone_iff_eq_none.mp hnone) (hopen hnum)
  simp only [State.oapRun, hnext, hsession, if_neg hserved]

/-- A WRITE of a value or of records that passes its checks. -/
theorem State.writeServe_passed {s : State} {r : OapReq} {x : Session} {e : Od} (twin : Option Nat)
    (hentry : odEntry (wrIndex (pduBody r.pdu)) (wrSub (pduBody r.pdu)) = some e) (hty : e.ty ≠ .msg)
    (hcheck : s.writeCheck x.role (pduBody r.pdu) = 0) :
    State.writeServe twin s r (some x) = s.wakeValid.writeGo r e (pduBody r.pdu) x.num x.role twin := by
  simp only [State.writeServe, hentry, hcheck, ne_eq, not_true_eq_false, if_false, if_neg hty]

/-! ### Responses that wait -/

/-- With no response waiting none leaves. -/
theorem State.oapWakeAll_of_no_waits {s : State} (h : s.oap.waits = []) (kind status : Nat) : s.oapWakeAll kind status = s := by
  simp [State.oapWakeAll, h]

/-- With no response waiting the end or the start of a save answers none. -/
theorem State.saveAnswers_of_no_waits {s : State} (h : s.oap.waits = []) (done : Bool) : s.saveAnswers done = s := by
  have hmapped (f : Nat × OapReq → Nat × OapReq) : { s with oap := { s.oap with waits := s.oap.waits.map f } } = s := by
    rw [h, List.map_nil, ← h]
  simp only [State.saveAnswers, hmapped, State.oapWakeAll_of_no_waits h, ite_self]

/-! ### Saves -/

/-- A store in MRAM touches the code words it covers. -/
theorem State.mramStored_th (s : State) (o n : Nat) : (s.mramStored o n).th = s.th := by
  simp only [State.mramStored, apply_ite State.th, State.flipNow, State.setFld_th]
  exact ite_self _

theorem State.mramStored_oap (s : State) (o n : Nat) : (s.mramStored o n).oap = s.oap := by
  simp only [State.mramStored, apply_ite State.oap, State.flipNow, State.setFld_oap]
  exact ite_self _

/-- The Thimble's stores once a save is committed. -/
theorem State.saveCommit_th {s : State} {j : SaveJob} (h : s.th.saving = some j) :
    s.saveCommit.th =
      { s.th with saving := none, setAreas := Sparse.set (fun _ => none) s.th.setAreas j.area (some j.snap) } := by
  simp only [State.saveCommit, h, State.setFld_th, State.mramStored_th]

theorem State.saveCommit_oap (s : State) : s.saveCommit.oap = s.oap := by
  unfold State.saveCommit
  split
  · rfl
  · rw [State.setFld_oap, State.mramStored_oap]

/-- A committed save shows SAVED. -/
theorem State.saveCommit_saved {s : State} {j : SaveJob} (h : s.th.saving = some j) :
    s.saveCommit.flag THIM_EVT THIM_EVT_SAVED = true := by
  simp only [State.saveCommit, h]
  exact State.flag_setFld_same _ _ _ 1 (by decide) (by decide)

/-- A save with no further one asked for ends with its commit. -/
theorem State.saveEndOp_eq {s : State} {j : SaveJob} (hwaits : s.oap.waits = []) (hsaving : s.th.saving = some j)
    (hlast : s.th.saveNext = false) : s.saveEndOp = s.saveCommit := by
  have hdone : s.saveDoneOp = s.saveCommit := by
    have hnext : s.saveCommit.th.saveNext = false := by rw [State.saveCommit_th hsaving]; exact hlast
    simp only [State.saveDoneOp, hnext, Bool.false_and, Bool.false_eq_true, if_false]
  have hbusy : s.th.saving.isNone = false := by rw [hsaving]; rfl
  rw [State.saveEndOp, if_neg (ne_true_of_eq_false hbusy), hdone,
    State.saveAnswers_of_no_waits ((congrArg OapSt.waits s.saveCommit_oap).trans hwaits)]

/-- A save that is due starts. -/
theorem State.saveStartOp_due {s : State} (hwaits : s.oap.waits = []) (hdue : s.saveDue = true) :
    s.saveStartOp = s.saveStart := by
  rw [State.saveStartOp, if_pos hdue, State.saveDelayOp, if_pos hdue]
  exact State.saveAnswers_of_no_waits (s := s.saveStart) hwaits false

/-! ### The statement -/

/-- Settles O43: requests by what `oapRun` makes of one in turn; saves by their commit and start, which with no response
waiting answer nobody. -/
theorem oapAccessCommandsComplete : Obligations.OapAccessCommandsComplete := by
  refine ⟨?read, ?broadcast, ?write, ?fence, ?saveEnd, ?saveStart, ?datumRegs, ?datumDict⟩
  case read => exact fun s r hnext hopen => next_settle_congr _ _ _ (State.oapRun_open _ hnext hopen)
  case broadcast =>
    intro s r hfind
    refine next_settle_congr _ _ _ ?_
    have hdue : s.oap.bcasts.find? (fun r => decide (r.at_ + s.nodeNumber * (2 * usTicks) ≤ s.mer)) = some r := hfind
    simp only [State.bcastOp, hdue]
  case write =>
    intro s r x e twin hnext hsession hentry hty hcheck
    have hrun := State.oapRun_open (State.writeServe twin) hnext fun _ => Option.isSome_of_eq_some hsession
    rw [hsession] at hrun
    exact next_settle_congr _ _ _ (hrun.trans (State.writeServe_passed twin hentry hty hcheck))
  case fence => exact fun s hdone => next_settle_congr _ _ _ (if_neg (ne_true_of_eq_false hdone))
  case saveEnd =>
    intro s j hwaits hsaving hlast
    refine ⟨settle s s.saveEndOp, rfl, ?_⟩
    rw [settle_th, settle_flag, State.saveEndOp_eq hwaits hsaving hlast, State.saveCommit_th hsaving]
    exact ⟨Sparse.get_set_same (fun _ => none) s.th.setAreas j.area (some j.snap), rfl, State.saveCommit_saved hsaving⟩
  case saveStart =>
    intro s hwaits hdue
    refine ⟨settle s s.saveStartOp, rfl, ?_⟩
    simp only [settle_th, settle_rd, State.saveStartOp_due hwaits hdue]
    exact ⟨rfl, rfl, rfl, fun _ => rfl⟩
  case datumRegs =>
    intro s result hheld hbusy
    refine next_settle_congr _ _ _ ?_
    simp [State.datumDoneOp, State.datumComplete, hheld, hbusy]
  case datumDict =>
    intro s result hheld
    refine next_settle_congr _ _ _ ?_
    simp [State.datumDoneOp, hheld]

end Sys2Proof.Machine

/-! ## Configuration, link and references of ports (R111 to R118, R126, R133, R136) -/

namespace Sys2Proof.Machine

/-! ### Writes of the configuration word -/

/-- A write to a stopped port that holds its own page: EN 0 stores it, EN 1 enables the port where R115 accepts the word. -/
theorem State.portCfg_stopped {s : State} {n : Nat} (i : Iface) (w : Word) (hpage : s.portShadowed n = false)
    (hen : s.portEn n = false) (hstopped : s.portStopped n = true) :
    (s.portCfg i n w).2 =
      if getB w PORT_CFGn_EN = true then
        if s.portMayEnable n ((s.typedWrite i (PORT_CFGn n) w).rd (PORT_CFGn n)) = true then
          (s.typedWrite i (PORT_CFGn n) w).portStart n
        else s.portEvent n PORT_EVTn_CFG_ERR
      else s.typedWrite i (PORT_CFGn n) w := by
  simp only [State.portCfg, hpage, hen, hstopped, Bool.not_false, Bool.and_self, if_true, Bool.false_eq_true, if_false]
  cases getB w PORT_CFGn_EN with
  | false => rfl
  | true =>
    simp only [Bool.not_true, Bool.false_eq_true, if_false, if_true]
    split <;> rfl

/-- An enabled port with CFG_ERR shown where the write w would change a stored field other than EN (R115). -/
def State.portCfgKept (s : State) (i : Iface) (n : Nat) (w : Word) : State :=
  if setF ((s.typedWrite i (PORT_CFGn n) w).rd (PORT_CFGn n)) PORT_CFGn_EN 1 = s.rd (PORT_CFGn n) then s
  else s.portEvent n PORT_EVTn_CFG_ERR

/-- A write to an enabled port stores nothing but an EN of 0, which stops it. -/
theorem State.portCfg_enabled {s : State} {n : Nat} (i : Iface) (w : Word) (hpage : s.portShadowed n = false)
    (hen : s.portEn n = true) :
    (s.portCfg i n w).2 =
      if getB w PORT_CFGn_EN = true then s.portCfgKept i n w
      else ((s.portCfgKept i n w).setFld (PORT_CFGn n) PORT_CFGn_EN 0).portHalt n := by
  simp only [State.portCfg, hpage, hen, Bool.not_true, Bool.false_and, Bool.false_eq_true, if_false]
  split <;> rfl

theorem State.portEnableOp_stopped {s : State} {n : Nat} {i : Iface} {w : Word} (hup : s.hostUp = true)
    (hen : s.portEn n = false) (hstopped : s.portStopped n = true) (hw : getB w PORT_CFGn_EN = true) :
    s.portEnableOp i n w = (s.portCfg i n w).2 :=
  (if_pos (by simp [hen, hstopped, hw])).trans (State.hostAccess_of_up hup _)

theorem State.portStopOp_enabled {s : State} {n : Nat} {i : Iface} {w : Word} (hup : s.hostUp = true)
    (hen : s.portEn n = true) (hw : getB w PORT_CFGn_EN = false) : s.portStopOp i n w = (s.portCfg i n w).2 :=
  (if_pos (by simp [hen, hw])).trans (State.hostAccess_of_up hup _)

/-- A write that leaves EN as it is neither enables nor stops the port. -/
theorem State.portConfigOp_of_same_en {s : State} {n : Nat} {i : Iface} {w : Word} (hup : s.hostUp = true)
    (hw : getB w PORT_CFGn_EN = s.portEn n) : s.portConfigOp i n w = (s.portCfg i n w).2 :=
  (if_neg (by cases h : s.portEn n <;> simp [hw, h])).trans (State.hostAccess_of_up hup _)

/-! ### The end of a drain -/

/-- A stopping port that has nothing more to send becomes STOPPED, with its link status at 0. -/
theorem State.portDrainedOp_empty {s t u : State} {n : Nat} (hen : s.portEn n = false) (hdraining : s.portStopped n = false)
    (htx : (s.port n).tx = none) (hrem : (s.port n).rem = none)
    (ht : t = (if s.portLink n then s.linkFall n else s).setFld (PORT_STATn n) PORT_STATn_STOPPED 1)
    (hu : u = [PORT_STATn_RFAULT, PORT_STATn_LFAULT, PORT_STATn_LPI_TX, PORT_STATn_LPI_RX, PORT_STATn_TRAIN,
      PORT_STATn_PVS].foldl (fun v f => v.setFld (PORT_STATn n) f 0) t) :
    s.portDrainedOp n = u.setPort n { u.port n with rxOpen := none, noLock := true, downAt := none, upAt := none } := by
  subst hu ht
  exact if_neg (by simp [hen, hdraining, htx, hrem])

/-! ### Windows of the reference detector -/

/-- A good window while the PLL is locked: the tenth in a row makes an absent reference present (R113). -/
theorem State.refWindowOp_good {s t : State} {p edges : Nat} (hlock : s.flag TIME_STAT TIME_STAT_PLL_LOCK = true)
    (hmin : 155 ≤ edges) (hmax : edges ≤ 158) (hnew : Sparse.get (fun _ => 0) s.refWin p < s.mer / 2000)
    (ht : t = { s with refWin := Sparse.set (fun _ => 0) s.refWin p (s.mer / 2000),
                       refGood := Sparse.set (fun _ => 0) s.refGood p (min 10 (Sparse.get (fun _ => 0) s.refGood p + 1)) }) :
    s.refWindowOp p edges =
      if 9 ≤ Sparse.get (fun _ => 0) s.refGood p ∧ s.refPresent p = false then
        (t.panelPorts p).foldl (fun u n => u.retrain n)
          (t.setFld PORT_REFSTAT PORT_REFSTAT_PRESENT (t.fld PORT_REFSTAT PORT_REFSTAT_PRESENT ||| 2 ^ p))
      else t := by
  subst ht
  have htenth : (min 10 (Sparse.get (fun _ => 0) s.refGood p + 1) = 10 ∧ (!s.refPresent p) = true) =
      (9 ≤ Sparse.get (fun _ => 0) s.refGood p ∧ s.refPresent p = false) := by
    rw [Bool.not_eq_true', eq_iff_iff]
    exact and_congr_left fun _ => by omega
  have hjudged : ¬ (s.flag TIME_STAT TIME_STAT_PLL_LOCK &&
      decide (s.mer / 2000 ≤ Sparse.get (fun _ => 0) s.refWin p)) = true := by
    simp [hnew]
  have hgood : (s.flag TIME_STAT TIME_STAT_PLL_LOCK && decide (155 ≤ edges) && decide (edges ≤ 158)) = true := by
    simp [hlock, hmin, hmax]
  exact (if_neg hjudged).trans ((if_pos hgood).trans (ite_congr htenth (fun _ => rfl) fun _ => rfl))

/-- A bad window, or any while the PLL is not locked, takes the streak and a reference that was present (R113). -/
theorem State.refWindowOp_bad {s t : State} {p edges : Nat}
    (hbad : s.flag TIME_STAT TIME_STAT_PLL_LOCK = false ∨
      Sparse.get (fun _ => 0) s.refWin p < s.mer / 2000 ∧ (edges < 155 ∨ 158 < edges))
    (ht : t = { s with refWin := Sparse.set (fun _ => 0) s.refWin p (s.mer / 2000),
                       refGood := Sparse.set (fun _ => 0) s.refGood p 0 }) :
    s.refWindowOp p edges =
      if s.refPresent p = true then
        State.refGone (State.log ((t.setFld PORT_REFSTAT PORT_REFSTAT_PRESENT
          (t.fld PORT_REFSTAT PORT_REFSTAT_PRESENT - 2 ^ p)).setFld PORT_REFSTAT PORT_REFSTAT_LOST
            (t.fld PORT_REFSTAT PORT_REFSTAT_LOST ||| 2 ^ p)) 113 p) p
      else t := by
  subst ht
  have hjudged : ¬ (s.flag TIME_STAT TIME_STAT_PLL_LOCK &&
      decide (s.mer / 2000 ≤ Sparse.get (fun _ => 0) s.refWin p)) = true := by
    rcases hbad with h | ⟨h, -⟩ <;> simp [h]
  have hfails : ¬ (s.flag TIME_STAT TIME_STAT_PLL_LOCK && decide (155 ≤ edges) && decide (edges ≤ 158)) = true := by
    rcases hbad with h | ⟨-, h⟩
    · simp [h]
    · simp only [Bool.and_eq_true, decide_eq_true_eq]
      omega
  exact (if_neg hjudged).trans (if_neg hfails)

/-! ### Link up and link down -/

/-- With the training of the lanes done, a port that sees the link free of faults waits for UP_HOLD and then declares it up
(R117). -/
theorem State.linkUpOp_clear {s r t u v : State} {n : Nat} (hruns : s.portRuns n = true) (href : s.refPresent (n / 64) = true)
    (htrained : s.portTrains n = false ∨ s.fld (PORT_STATn n) PORT_STATn_TRAIN = 2)
    (hr : r = (s.setFld (PORT_STATn n) PORT_STATn_LFAULT 0).setPort n
      { s.port n with noLock := false, downAt := none, upAt := some ((s.port n).upAt.getD s.mer) })
    (ht : t = ((r.setFld (PORT_STATn n) PORT_STATn_LINK 1).portEvent n PORT_EVTn_LINK_UP).log 117 n [1])
    (hu : u = (t.setPort n { t.port n with idleAt := r.mer }).startVerify n)
    (hv : v = (if r.jn.ports.testBit n ∧ r.jn.upAt.isNone then
      State.wr { u with jn := { u.jn with upAt := some r.mer } } (SYS_BOOTTk 2) (BitVec.ofNat 32 (r.mer / usTicks)) else u)) :
    s.linkUpOp n =
      if r.portLink n = true ∨ r.mer < (r.port n).upAt.getD r.mer + r.upHold n then r
      else (v.lagOf n).elim v v.lagRefresh := by
  subst hr ht hu hv
  have hopen : ¬ (!s.portRuns n || !s.refPresent (n / 64) ||
      (s.portTrains n && s.fld (PORT_STATn n) PORT_STATn_TRAIN != 2)) = true := by
    rcases htrained with h | h <;> simp [hruns, href, h]
  refine (if_neg hopen).trans (ite_congr (by simp) (fun _ => rfl) fun _ => ?_)
  dsimp only
  split <;> next hgroup => rw [hgroup]; rfl

/-- The conditions of link down, once they have stood for DN_HOLD, declare the link down (R117). -/
theorem State.linkDownOp_faulty {s r t : State} {n : Nat} {fault : Bool} (hruns : s.portRuns n = true)
    (hr : r = s.linkFaulty n fault)
    (ht : t = (if (r.port n).noLock then (r.linkFall n).retrain n else r.linkFall n).dropRem n) :
    s.linkDownOp n fault =
      if r.portLink n = false ∨ r.mer < (r.port n).downAt.getD r.mer + r.dnHold n then r
      else (t.lagOf n).elim (t.flushPort n) fun _ => t := by
  subst hr ht
  refine (if_neg (by simp [hruns])).trans (ite_congr (by simp) (fun _ => rfl) fun _ => ?_)
  dsimp only
  split <;> next hgroup => rw [hgroup]; rfl

/-- The indications of link down leave LINK as it is. -/
theorem State.linkFaulty_portLink (s : State) (n : Nat) (fault : Bool) : (s.linkFaulty n fault).portLink n = s.portLink n :=
  State.flag_setFld_apart s (PORT_STATn n) PORT_STATn_LFAULT PORT_STATn_LINK _ (by decide) (by decide) (by decide) (by decide)

/-- A link that does not fall loses no neighbour. -/
theorem State.joinLinkFall_of_same_link {s t : State} {n : Nat} (h : t.portLink n = s.portLink n) : s.joinLinkFall t n = t :=
  if_neg (by simp [h])

/-! ### Verification of preemption -/

/-- An attempt that is due goes out, or after the third the verification has failed (R133). -/
theorem State.verifySendOp_due {s : State} {n : Nat} (hverifying : s.fld (PORT_STATn n) PORT_STATn_PVS = 1)
    (hdue : (s.port n).vAt ≤ s.mer) (hfault : s.flag (PORT_STATn n) PORT_STATn_RFAULT = false) :
    s.verifySendOp n =
      if (s.port n).vTries < 3 then
        (s.setPort n { s.port n with vTries := (s.port n).vTries + 1, vAt := s.mer + s.verifyTicks n }).emitOut (.verify n)
      else (s.setFld (PORT_STATn n) PORT_STATn_PVS 3).portEvent n PORT_EVTn_VERIFY_FAIL :=
  if_neg (by simp [hverifying, hfault, hdue])

/-! ### The statement -/

/-- Settles O17: every clause is the equation of its command's operation under the command's guard. -/
theorem portLinkCommandsComplete : Obligations.PortLinkCommandsComplete := by
  refine ⟨?stopped, ?stop, ?enabled, ?drained, ?laneEq, ?refGood, ?refBad, ?trained, ?linkUp, ?linkDown, ?remoteFault,
    ?remoteFaultEnd, ?verifySend, ?verifyResponse, ?groupHash, ?stats⟩
  case stopped =>
    intro s t i n w hup hpage hen hstopped ht
    subst ht
    have hcfg := State.portCfg_stopped i w hpage hen hstopped
    refine ⟨fun hw => next_settle_congr _ _ _ ?_, fun hw => next_settle_congr _ _ _ ?_⟩
    · exact (State.portEnableOp_stopped hup hen hstopped hw).trans (hcfg.trans (if_pos hw))
    · exact (State.portConfigOp_of_same_en hup (hw.trans hen.symm)).trans (hcfg.trans (if_neg (ne_true_of_eq_false hw)))
  case stop =>
    intro s i n w hup hpage hen hw
    exact next_settle_congr _ _ _ ((State.portStopOp_enabled hup hen hw).trans
      ((State.portCfg_enabled i w hpage hen).trans (if_neg (ne_true_of_eq_false hw))))
  case enabled =>
    intro s i n w hup hpage hen hw
    exact next_settle_congr _ _ _ ((State.portConfigOp_of_same_en hup (hw.trans hen.symm)).trans
      ((State.portCfg_enabled i w hpage hen).trans (if_pos hw)))
  case drained =>
    intro s t u n hen hdraining htx hrem ht hu
    exact next_settle_congr _ _ _
      (congrArg (s.joinLinkFall · n) (State.portDrainedOp_empty hen hdraining htx hrem ht hu))
  case laneEq =>
    intro s i l w hup htaps
    exact next_settle_congr _ _ _ ((State.hostAccess_of_up hup _).trans (congrArg Prod.snd (if_pos htaps)))
  case refGood =>
    intro s t p edges hlock hmin hmax hnew ht
    have hop := State.refWindowOp_good hlock hmin hmax hnew ht
    refine ⟨fun hkept => next_settle_congr _ _ _ (hop.trans (if_neg ?_)),
      fun hnine habsent => next_settle_congr _ _ _ (hop.trans (if_pos ⟨hnine, habsent⟩))⟩
    rintro ⟨hnine, habsent⟩
    rcases hkept with hfew | hpresent
    · exact absurd hnine (Nat.not_le.mpr hfew)
    · exact absurd hpresent (ne_true_of_eq_false habsent)
  case refBad =>
    intro s t p edges hbad ht
    have hop := State.refWindowOp_bad hbad ht
    exact ⟨fun habsent => next_settle_congr _ _ _ (hop.trans (if_neg (ne_true_of_eq_false habsent))),
      fun hpresent => next_settle_congr _ _ _ (hop.trans (if_pos hpresent))⟩
  case trained =>
    intro s n hen htrains href hrunning
    exact next_settle_congr _ _ _ (if_pos (by simpa [hen, htrains, href] using hrunning))
  case linkUp =>
    intro s r t u v n hruns href htrained hr
    refine ⟨fun hheld => next_settle_congr _ _ _ ((State.linkUpOp_clear hruns href htrained hr rfl rfl rfl).trans
      (if_pos hheld)), fun hdown hlong ht hu hv => next_settle_congr _ _ _
        ((State.linkUpOp_clear hruns href htrained hr ht hu hv).trans ((if_neg ?_).trans ?_))⟩
    · simp [hdown, hlong]
    · cases v.lagOf n <;> rfl
  case linkDown =>
    intro s r t n fault hruns hr
    have hlink : r.portLink n = s.portLink n := by rw [hr, State.linkFaulty_portLink]
    refine ⟨fun hheld => next_settle_congr _ _ _ ?_, fun hup hlong ht => next_settle_congr _ _ _ ?_⟩
    · exact (congrArg (s.joinLinkFall · n) ((State.linkDownOp_faulty hruns hr rfl).trans (if_pos hheld))).trans
        (State.joinLinkFall_of_same_link hlink)
    · refine congrArg (s.joinLinkFall · n) ((State.linkDownOp_faulty hruns hr ht).trans ((if_neg ?_).trans ?_))
      · simp [hup, hlong]
      · cases t.lagOf n <;> rfl
  case remoteFault =>
    exact fun s n hruns hnone => next_settle_congr _ _ _ (if_pos (by simp [hruns, hnone]))
  case remoteFaultEnd => exact fun s n => rfl
  case verifySend =>
    intro s n hverifying hdue hfault
    have hop := State.verifySendOp_due hverifying hdue hfault
    exact ⟨fun hfew => next_settle_congr _ _ _ (hop.trans (if_pos hfew)),
      fun hthree => next_settle_congr _ _ _ (hop.trans (if_neg (Nat.not_lt.mpr hthree)))⟩
  case verifyResponse => exact fun s n hverifying hsent => next_settle_congr _ _ _ (if_pos ⟨hverifying, hsent⟩)
  case groupHash => exact fun s i n k w hup => next_settle_congr _ _ _ (State.hostAccess_of_up hup _)
  case stats => exact fun s i n c hup => next_settle_congr _ _ _ (State.hostAccess_of_up hup _)

end Sys2Proof.Machine

/-! ## Join (R112, R446, R608 to R618)

A join frame is taken from the control FIFO (`joinTake`) and, where it is sequenced, applied when it is the one awaited
(`joinSeq`). The take touches nothing that the meaning of a frame reads, so each clause speaks of the state before it. -/

namespace Sys2Proof.Machine

/-! ### Join frames in -/

@[simp] theorem State.ctlTake_jn (s : State) (n : Nat) : (s.ctlTake n).jn = s.jn := rfl
@[simp] theorem State.ctlTake_flag (s : State) (n a : Nat) (f : Fld) : (s.ctlTake n).flag a f = s.flag a f := rfl
@[simp] theorem State.ctlTake_otp (s : State) (n : Nat) : (s.ctlTake n).otp = s.otp := rfl
@[simp] theorem State.ctlTake_nodeNumber (s : State) (n : Nat) : (s.ctlTake n).nodeNumber = s.nodeNumber := rfl
@[simp] theorem State.ctlTake_jlink (s : State) (n m : Nat) : (s.ctlTake n).jlink m = s.jlink m := rfl
@[simp] theorem State.ctlTake_joinParent (s : State) (n : Nat) : (s.ctlTake n).joinParent = s.joinParent := rfl

/-- A join port with its link up takes frames laid out as R609 has it. -/
def State.joinHears (s : State) (n : Nat) (p : List Byte) : Prop :=
  s.jn.ports.testBit n = true ∧ s.flag (PORT_STATn n) PORT_STATn_LINK = true ∧ joinFormed p = true

/-- A well-formed frame of its MSG leaves the control FIFO and is applied. -/
theorem State.joinTake_formed {s : State} {n msg : Nat} {p : List Byte} (f : State → State) (hears : s.joinHears n p)
    (hmsg : oct p 1 % 16 = msg) : s.joinTake n msg p f = f (s.ctlTake n) := by
  obtain ⟨hport, hlink, hformed⟩ := hears
  have hopen : ¬ (!(s.ctlTake n).jn.ports.testBit n || !(s.ctlTake n).flag (PORT_STATn n) PORT_STATn_LINK) = true := by
    simp [hport, hlink]
  exact (if_neg hopen).trans ((if_neg (by simp [hformed])).trans (if_pos hmsg))

/-- The sequenced frame that a port awaits is applied, with the next one awaited, and acknowledged (R610). -/
theorem State.joinSeq_next {s v : State} {n seq : Nat} (f : State → State) (h : seq = (s.jlink n).rx)
    (hv : v = s.setJlink n { s.jlink n with rx := ((s.jlink n).rx + 1) % 2 ^ 32 }) :
    s.joinSeq n seq f = (f v).joinSend n msgAck seq [] := by
  subst h hv
  exact if_pos (by simp)

/-- RECORDS awaited from a neighbour are held and acknowledged. -/
theorem State.joinRecordsOp_next {s u v : State} {n : Nat} {p : List Byte} (hears : s.joinHears n p)
    (hmsg : oct p 1 % 16 = msgRecords) (hu : u = s.ctlTake n) (hseq : beAt p 8 4 = (u.jlink n).rx)
    (hv : v = u.setJlink n { u.jlink n with rx := ((u.jlink n).rx + 1) % 2 ^ 32 })
    (hknown : u.jn.neighbours.any (fun q => q.1 == n) = true) :
    s.joinRecordsOp n p =
      (v.joinHold (some n) ((List.range ((beAt p 2 2 - 16) / 32)).map (fun i => slice p (16 + 32 * i) 32))).joinSend
        n msgAck (beAt p 8 4) [] := by
  rw [State.joinRecordsOp, State.joinTake_formed _ hears hmsg, ← hu]
  exact (if_neg (by simp [hknown])).trans (State.joinSeq_next _ hseq hv)

/-- REPORT records at the root: each within the range of FAULT_REPORT is applied as one (R618). -/
def State.joinApply (s : State) (rs : List (List Byte)) : State :=
  rs.foldl (fun t r => if 3 < oct r 6 ∨ 1023 < beAt r 4 2 then t else
    t.reportOwn { suspect := beAt r 0 4, reporter := beAt r 4 2, sev := oct r 6, code := beAt r 8 2 }) s

/-- REPORT records awaited from a neighbour are applied at the root and sent to the parent by another node (R618). -/
theorem State.joinReportOp_next {s u v : State} {n : Nat} {p : List Byte} {rs : List (List Byte)} (hears : s.joinHears n p)
    (hmsg : oct p 1 % 16 = msgReport) (hu : u = s.ctlTake n) (hseq : beAt p 8 4 = (u.jlink n).rx)
    (hv : v = u.setJlink n { u.jlink n with rx := ((u.jlink n).rx + 1) % 2 ^ 32 })
    (hknown : u.jn.neighbours.any (fun q => q.1 == n) = true)
    (hrs : rs = (List.range ((beAt p 2 2 - 16) / 24)).map (fun i => slice p (16 + 24 * i) 24)) :
    s.joinReportOp n p =
      (if v.isRoot then v.joinApply rs
       else v.joinParent.elim v fun k => v.joinQueue k.2 msgReport rs).joinSend n msgAck (beAt p 8 4) [] := by
  subst hrs
  rw [State.joinReportOp, State.joinTake_formed _ hears hmsg, ← hu]
  refine (if_neg (by simp [hknown])).trans ((State.joinSeq_next _ hseq hv).trans ?_)
  refine congrArg (fun t : State => t.joinSend n msgAck (beAt p 8 4) []) (ite_congr rfl (fun _ => rfl) fun _ => ?_)
  cases v.joinParent <;> rfl

/-- An ACK that frees frames of port n notes a record of this node that the parent has taken, and lets waiting frames out
(R610, R615). -/
theorem State.joinAckOp_frees {s t : State} {n : Nat} {p : List Byte} {gone : List (Nat × Nat × List (List Byte))}
    (hears : s.joinHears n p) (hmsg : oct p 1 % 16 = msgAck)
    (hgone : gone = (s.jlink n).unacked.filter (fun f => decide ((beAt p 8 4 + 2 ^ 32 - f.1) % 2 ^ 32 < 2 ^ 31)))
    (hsome : gone ≠ [])
    (ht : t = { s.ctlTake n with jn := { s.jn with acked := s.jn.acked ||
      (gone.any (fun f => f.2.1 == msgRecords && f.2.2.any (fun r => recNode r == s.nodeNumber)) &&
        s.joinParent.any (fun k => k.2 == n)) } }) :
    s.joinAckOp n p =
      (t.setJlink n { s.jlink n with
        unacked := (s.jlink n).unacked.filter (fun f => !decide ((beAt p 8 4 + 2 ^ 32 - f.1) % 2 ^ 32 < 2 ^ 31)),
        at_ := s.mer }).joinPump n 8 := by
  subst hgone ht
  rw [State.joinAckOp, State.joinTake_formed _ hears hmsg]
  refine (if_neg (by simpa using hsome)).trans ?_
  rw [State.ctlTake_joinParent]
  cases s.joinParent <;> rfl

/-! ### Neighbours -/

/-- The neighbour that a HELLO describes, heard at a time of Meridian (R611). -/
def helloNeighbour (p : List Byte) (mer : Nat) : Neighbour :=
  { uid := slice (p.drop 16) 0 16, node := beAt p 4 2, port := beAt p 6 2
    vec := if oct (p.drop 16) 18 = 255 then none else some (beAt (p.drop 16) 16 2, oct (p.drop 16) 18)
    cand := (oct (p.drop 16) 19).testBit 1, complete := (oct (p.drop 16) 19).testBit 0
    parent := if beAt (p.drop 16) 20 2 = 0xFFFF then none else some (beAt (p.drop 16) 20 2), heard := mer }

/-- x is the neighbour of port n. -/
def State.putNeighbour (s : State) (n : Nat) (x : Neighbour) : State :=
  { s with jn := { s.jn with neighbours := s.jn.neighbours.filter (fun q => q.1 != n) ++ [(n, x)] } }

/-- A HELLO of a neighbour not known on its port, before completion, puts it in place of the one before (R611). -/
theorem State.joinHelloOp_new {s : State} {n : Nat} {p : List Byte} (hears : s.joinHears n p) (hmsg : oct p 1 % 16 = msgHello)
    (hnode : beAt p 4 2 ≠ s.nodeNumber) (huid : slice (p.drop 16) 0 16 ≠ s.otp.uid) (hopen : s.jn.barred.contains n = false)
    (hnew : s.jn.neighbours.any (fun q => q.1 == n && q.2.uid == slice (p.drop 16) 0 16) = false)
    (hmore : (oct (p.drop 16) 19).testBit 0 = false) :
    s.joinHelloOp n p = (((s.ctlTake n).dropNeighbour n).putNeighbour n (helloNeighbour p s.mer)).joinTree := by
  have hother : ¬ (beAt p 4 2 = (s.ctlTake n).nodeNumber ∨ slice (p.drop 16) 0 16 = (s.ctlTake n).otp.uid) := by
    simp [hnode, huid]
  have hopen' : ¬ (s.ctlTake n).jn.barred.contains n = true := by rw [State.ctlTake_jn, hopen]; decide
  have hnew' : (!(s.ctlTake n).jn.neighbours.any (fun q => q.1 == n && q.2.uid == slice (p.drop 16) 0 16)) = true := by
    rw [State.ctlTake_jn, hnew]
    rfl
  rw [State.joinHelloOp, State.joinTake_formed _ hears hmsg]
  refine (if_neg hother).trans ((if_neg hopen').trans (congrArg State.joinTree ((if_neg (ne_true_of_eq_false hmore)).trans ?_)))
  exact congrArg (fun t : State => t.putNeighbour n (helloNeighbour p s.mer)) (if_pos hnew')

/-- A neighbour unheard for 35 ms is forgotten; where it was the parent, that is reported (R611, R618). -/
theorem State.neighbourLossOp_unheard {s : State} {n : Nat} {q : Nat × Neighbour}
    (hheld : s.jn.neighbours.find? (fun p => p.1 == n) = some q) (hlate : q.2.heard + 35 * msTicks ≤ s.mer) :
    s.neighbourLossOp n =
      if s.joinParent.any (fun k => k.2 == n) then (s.dropNeighbour n).joinTree.joinReport (suspectNode q.2.node)
      else (s.dropNeighbour n).joinTree := by
  obtain ⟨port, x⟩ := q
  rw [State.neighbourLossOp, hheld]
  refine (if_neg fun h => absurd h.2 (Nat.not_lt.mpr hlate)).trans ?_
  cases s.joinParent <;> rfl

/-- A HELLO goes out on a join port with its link up that has sent none (R611). -/
theorem State.helloSendOp_first {s : State} {n : Nat} (hboot : 5 ≤ s.pw.boot) (hport : s.jn.ports.testBit n = true)
    (hlink : s.flag (PORT_STATn n) PORT_STATn_LINK = true) (hfirst : s.jn.hello.find? (fun p => p.1 == n) = none) :
    s.helloSendOp n = State.joinSend
      { s with jn := { s.jn with
        hello := s.jn.hello.filter (fun p => p.1 != n) ++ [(n, s.mer)], trig := s.jn.trig.filter (fun k => k != n) } }
      n msgHello 0 s.helloBody := by
  refine if_neg ?_
  rw [hfirst]
  simp [hport, hlink, Nat.not_lt.mpr hboot]

/-! ### Records, completion and leaving -/

/-- Once tree, time and Seam conditions hold, a node that holds no record of its own creates it (R613). -/
theorem State.recordCreateOp_ready {s : State} (hboot : 5 ≤ s.pw.boot) (htree : s.jn.vec.isSome = true)
    (hnone : s.jn.store.any (fun p => p.1 == s.nodeNumber) = false) (htime : s.timeReady.1 = true)
    (hseam : s.seamReady.1 = true) :
    s.recordCreateOp = (s.noteConds.joinHold none [s.noteConds.ownRecord (s.noteConds.mer / usTicks)]).showPhase := by
  have hfind : s.jn.store.find? (fun p => p.1 == s.nodeNumber) = none := by
    simpa using hnone
  rw [State.recordCreateOp, if_neg (by simp [Nat.not_lt.mpr hboot, Option.isSome_iff_ne_none.mp htree]), hfind]
  exact if_neg (by simp [htime, hseam])

/-- The root completes once its table lacks no expected node (R614). -/
theorem State.rootCompleteOp_full {s : State} {a : Nat} (hown : s.jn.ownAt = some a) (hroot : s.isRoot = true)
    (hopen : s.jn.complete = false) (hexpect : s.od 0x00B003 ≠ 0) (hfull : s.joinMissing = []) :
    s.rootCompleteOp = (s.joinHeard.joinTell
      (natBe 2 s.nodeNumber ++ natBe 2 s.jn.table.length ++ natBe 2 0 ++ natBe 2 0)).showPhase := by
  rw [State.rootCompleteOp, hown]
  dsimp only
  rw [hfull, if_neg (by simp [hroot, hopen, hexpect])]
  rfl

theorem State.setNode_mer (s : State) (n : NodeState) : (s.setNode n).mer = s.mer := by rw [State.setNode_frame]

theorem State.settleDegraded_mer (s : State) : s.settleDegraded.mer = s.mer := by
  obtain h | ⟨under, n, h⟩ := s.settleDegraded_cases
  · rw [h]
  · rw [h, State.setNode_mer]

/-- A node in JOINING that has heard COMPLETE, and whose record is at the root, leaves it (R446, R615). -/
theorem State.joinLeaveOp_member {s t : State} (hjoining : s.node = .joining) (hcomplete : s.jn.complete = true)
    (hrecorded : s.isRoot = true ∨ s.jn.acked = true)
    (ht : t = (s.setNode (if s.configFirst = true ∨ s.flag THIM_STAT THIM_STAT_DEFAULTS = true then .config
      else .run)).settleDegraded) :
    s.joinLeaveOp = (State.bootTime { t with pw := { t.pw with joinedAt := some s.mer } } 6).showPhase := by
  have hmer : t.mer = s.mer := by rw [ht, State.settleDegraded_mer, State.setNode_mer]
  have hstate : (s.setNode (if (s.configFirst || s.flag THIM_STAT THIM_STAT_DEFAULTS) = true then .config
      else .run)).settleDegraded = t := by
    rw [ht]
    simp only [Bool.or_eq_true]
  refine (if_neg (not_not.mpr hjoining)).trans ((if_pos ⟨hcomplete, hrecorded⟩).trans ?_)
  dsimp only
  rw [hstate, hmer]

/-! ### Training failures -/

/-- A training attempt of 300 ms is given up; on a join port the failures in a row are counted, and the third is reported
(R112, R618). -/
theorem State.joinTrainOp_expired {s t : State} {n k : Nat} (hexpired : s.trainExpired n = true)
    (ht : t = ((s.setFld (PORT_STATn n) PORT_STATn_TRAIN 3).portEvent n PORT_EVTn_TRAIN_FAIL).setPort n
      { s.port n with trainAt := s.mer })
    (hk : k = Sparse.get (fun _ => 0) s.jn.fails n + 1) :
    s.joinTrainOp n =
      if s.jn.ports.testBit n = true then
        if k = 3 then
          State.joinReport { t with jn := { t.jn with fails := Sparse.set (fun _ => 0) t.jn.fails n (k % 3) } }
            (s.suspectPort n)
        else { t with jn := { t.jn with fails := Sparse.set (fun _ => 0) t.jn.fails n (k % 3) } }
      else t := by
  have hgiven : s.trainTimeoutOp n = t := ht ▸ if_pos hexpired
  subst hk
  rw [State.joinTrainOp, hgiven, hexpired, Bool.and_true]

/-! ### The statement -/

/-- Settles O49: every clause is the equation of its command's operation under the command's guard. -/
theorem joinCommandsComplete : Obligations.JoinCommandsComplete := by
  refine ⟨?training, ?helloSend, ?hello, ?loss, ?record, ?sequenced, ?acked, ?resend, ?root, ?leave⟩
  case training =>
    intro s t n k hexpired ht hk
    have hop := State.joinTrainOp_expired hexpired ht hk
    refine ⟨fun hport => next_settle_congr _ _ _ (hop.trans (if_neg (ne_true_of_eq_false hport))),
      fun hport hnot => next_settle_congr _ _ _ (hop.trans ((if_pos hport).trans (if_neg hnot))),
      fun hport hthird => next_settle_congr _ _ _ (hop.trans ((if_pos hport).trans ((if_pos hthird).trans ?_)))⟩
    rw [hthird]
  case helloSend =>
    exact fun s n hboot hport hlink hfirst => next_settle_congr _ _ _ (State.helloSendOp_first hboot hport hlink hfirst)
  case hello =>
    intro s t u n p x hu hport hlink hformed hmsg hnode huid hopen hnew hmore hx ht
    subst ht hu
    have hneighbour : x = helloNeighbour p s.mer := by rw [hx, helloNeighbour, hmore]
    rw [hneighbour]
    exact next_settle_congr _ _ _ (State.joinHelloOp_new ⟨hport, hlink, hformed⟩ hmsg hnode huid hopen hnew hmore)
  case loss =>
    intro s n q hheld hlate
    have hop := State.neighbourLossOp_unheard hheld hlate
    refine ⟨fun hother => next_settle_congr _ _ _ (hop.trans (if_neg ?_)),
      fun k hparent => next_settle_congr _ _ _ (hop.trans (if_pos ?_))⟩
    · cases hparent : s.joinParent with
      | none => simp
      | some k => simpa [hparent] using hother
    · simp [hparent]
  case record =>
    exact fun s hboot htree hnone htime hseam =>
      next_settle_congr _ _ _ (State.recordCreateOp_ready hboot htree hnone htime hseam)
  case sequenced =>
    intro s u v n p hu hport hlink hformed hseq hv
    have hears : s.joinHears n p := ⟨hport, hlink, hformed⟩
    have hseq' : beAt p 8 4 = (u.jlink n).rx := by rw [hu, State.ctlTake_jlink, hseq]
    have hjn : u.jn = s.jn := by rw [hu, State.ctlTake_jn]
    refine ⟨fun hmsg hknown => next_settle_congr _ _ _ ?_, fun rs hmsg hknown hrs => ?_⟩
    · exact State.joinRecordsOp_next hears hmsg hu hseq' hv (hjn ▸ hknown)
    · have hop := State.joinReportOp_next hears hmsg hu hseq' hv (hjn ▸ hknown) hrs
      have hroot : v.isRoot = s.isRoot := by rw [hv, hu]; rfl
      have hparent : v.joinParent = s.joinParent := by rw [hv, hu]; rfl
      rw [hroot, hparent] at hop
      refine ⟨fun h => next_settle_congr _ _ _ (hop.trans ?_), fun a m h hp => next_settle_congr _ _ _ (hop.trans ?_)⟩
      · rw [if_pos h]
        rfl
      · rw [if_neg (ne_true_of_eq_false h), hp]
        rfl
  case acked =>
    intro s u n p hu hport hlink hformed
    have hears : s.joinHears n p := ⟨hport, hlink, hformed⟩
    subst hu
    exact ⟨fun gone t hmsg hgone hsome ht => next_settle_congr _ _ _ (State.joinAckOp_frees hears hmsg hgone hsome ht),
      fun hmsg => next_settle_congr _ _ _ (State.joinTake_formed _ hears hmsg)⟩
  case resend =>
    intro s n hwaiting hdue
    exact next_settle_congr _ _ _ (if_neg (by simp [hwaiting, hdue]))
  case root =>
    exact fun s a hown hroot hopen hexpect hfull =>
      next_settle_congr _ _ _ (State.rootCompleteOp_full hown hroot hopen hexpect hfull)
  case leave =>
    exact fun s t hjoining hcomplete hrecorded ht =>
      next_settle_congr _ _ _ (State.joinLeaveOp_member hjoining hcomplete hrecorded ht)

end Sys2Proof.Machine

/-! ## Loom channels: CAN (R139, R140, R145, R147 to R149, R153, R154) -/

namespace Sys2Proof.Machine

/-! ### Enabling and stopping -/

theorem State.channelEnableOp_loom {s : State} {i : Iface} {c : Nat} {w : Word} (hup : s.hostUp = true) (hc : c < 64)
    (hen : s.chEn c = false) (hw : getB w LCn_CFG_EN = true) : s.channelEnableOp i c w = (s.chanCfg i c w).2 := by
  simp only [State.channelEnableOp, State.unitEn, State.channelWrite, hc, hen, hw, State.hostAccess_of_up hup, if_true,
    Bool.not_false, Bool.and_self]

theorem State.channelStopOp_loom {s : State} {i : Iface} {c : Nat} {w : Word} (hup : s.hostUp = true) (hc : c < 64)
    (hen : s.chEn c = true) (hw : getB w LCn_CFG_EN = false) : s.channelStopOp i c w = (s.chanCfg i c w).2 := by
  simp only [State.channelStopOp, State.unitEn, State.channelWrite, hc, hen, hw, State.hostAccess_of_up hup, if_true,
    Bool.not_false, Bool.and_self]

/-- Units from 64 up are the PLCA channels. -/
theorem State.unitEn_plca (s : State) (m : Nat) : s.unitEn (64 + m) = s.pcEn m := by
  rw [State.unitEn, if_neg (by omega), Nat.add_sub_cancel_left]

theorem State.channelWrite_plca (s : State) (i : Iface) (m : Nat) (w : Word) :
    s.channelWrite i (64 + m) w = s.plcaCfg i m w := by
  rw [State.channelWrite, if_neg (by omega), Nat.add_sub_cancel_left]

theorem State.channelEnableOp_plca {s : State} {i : Iface} {m : Nat} {w : Word} (hup : s.hostUp = true)
    (hen : s.pcEn m = false) (hw : getB w PCm_CFG_EN = true) : s.channelEnableOp i (64 + m) w = (s.plcaCfg i m w).2 := by
  rw [State.channelEnableOp, State.unitEn_plca, State.channelWrite_plca, State.hostAccess_of_up hup, hen]
  exact if_pos hw

theorem State.channelStopOp_plca {s : State} {i : Iface} {m : Nat} {w : Word} (hup : s.hostUp = true)
    (hen : s.pcEn m = true) (hw : getB w PCm_CFG_EN = false) : s.channelStopOp i (64 + m) w = (s.plcaCfg i m w).2 := by
  rw [State.channelStopOp, State.unitEn_plca, State.channelWrite_plca, State.hostAccess_of_up hup, hen]
  exact if_pos (congrArg not hw)

/-- The enabling of a channel that does not run: accepted with its host buffers empty, or refused with CFG_ERR (R139). -/
theorem State.chanCfg_enables {s r t : State} {i : Iface} {c : Nat} {w : Word} (hidle : s.chRuns c = false)
    (hw : getB w LCn_CFG_EN = true) (hr : r = s.typedWrite i (LCn_CFG c) w)
    (ht : t = (if s.loomTenant c = r.loomTenant c then r else r.linRebind c (s.chTime c))) :
    (s.chanCfg i c w).2 =
      if s.chMayEnable c (r.rd (LCn_CFG c)) then
        (((t.setChan c { t.chan c with cur := none, shd := none, linAct := t.mer }).setFld (chStat c) LCn_STAT_RXCUR 0).setFld
          (chStat c) LCn_STAT_RXSHD 0).chPick c
      else s.chEvent c LCn_EVT_CFG_ERR := by
  subst hr ht
  simp only [State.chanCfg, hidle, hw, Bool.not_false, Bool.not_true, Bool.false_eq_true, if_true, if_false]
  split <;> rfl

/-- A write of EN 0 to an enabled channel stops it; any other field it would change is CFG_ERR (R115, R139). -/
theorem State.chanCfg_stops {s : State} {i : Iface} {c : Nat} {w : Word} (hen : s.chEn c = true)
    (hw : getB w LCn_CFG_EN = false) :
    (s.chanCfg i c w).2 =
      ((((if setF ((s.typedWrite i (LCn_CFG c) w).rd (LCn_CFG c)) LCn_CFG_EN 1 = s.rd (LCn_CFG c) then s
        else s.chEvent c LCn_EVT_CFG_ERR).setFld (LCn_CFG c) LCn_CFG_EN 0).chFlush c true).flushQueue (.loom c)) := by
  simp only [State.chanCfg, State.chRuns, hen, hw, Bool.true_or, Bool.not_true, Bool.false_eq_true, if_false]

/-- A stopped PLCA channel with no frame in transmission starts with its statistics at 0. -/
theorem State.plcaCfg_enables {s t : State} {i : Iface} {m : Nat} {w : Word} (hen : s.pcEn m = false)
    (htx : (s.plca m).txq = none) (hrun : s.mayRun = true) (hw : getB w PCm_CFG_EN = true)
    (ht : t = s.typedWrite i (PCm_CFG m) w) :
    (s.plcaCfg i m w).2 =
      (List.range 16).foldl (fun u k => u.wr64 (PCm_STATS m k) 0) (t.setPlca m { t.plca m with rxOpen := none }) := by
  subst ht
  simp only [State.plcaCfg, hen, htx, hrun, hw, Option.isNone_none, Bool.not_false, Bool.not_true, Bool.and_self,
    Bool.and_false, Bool.false_eq_true, if_true, if_false]

theorem State.plcaCfg_stops {s : State} {i : Iface} {m : Nat} {w : Word} (hen : s.pcEn m = true)
    (hw : getB w PCm_CFG_EN = false) :
    (s.plcaCfg i m w).2 =
      State.pcFlush ((s.setFld (PCm_CFG m) PCm_CFG_EN 0).setPlca m { s.plca m with rxOpen := some s.mer }) m := by
  simp only [State.plcaCfg, hen, hw, Bool.not_true, Bool.false_and, Bool.false_eq_true, if_false]

/-! ### Arrival -/

/-- The head of a channel's queue is taken into the channel, or discarded there (R149). -/
theorem State.chArrivalOp_head {s t : State} {c : Nat} {e : QEnt} {rest : List QEnt}
    (hqueue : s.queue (Dest.loom c).key = e :: rest) (hroom : (s.chan c).tset.length < 8)
    (ht : t = ((s.setQueue (.loom c) rest).freeEntry e).obs (Dest.loom c).panel 0x021 e.cells
      (tenant := some e.item.tenant) (cls := some 0)) :
    s.chArrivalOp c =
      if (s.chRefuses c || e.item.poison || !s.chTakes c e.item) = true then
        if e.item.poison = true then (t.dropAt e.item (.loom c) (dequeueReason e.item)).tsqDiscard (1024 + c) e.item
        else ((t.dropAt e.item (.loom c) (dequeueReason e.item)).tsqDiscard (1024 + c) e.item).chCount c 7
      else (t.pathEnd (e.item.mark 8 s.mer)
        { kind := 2, num := c, queue := 0, verdict := 0, panel := (Dest.loom c).panel, tsOut := s.mer }).chAccept c
          (e.item.mark 8 s.mer) := by
  subst ht
  simp only [State.chArrivalOp, hqueue, if_neg (Nat.not_le.mpr hroom)]

/-! ### Frames received -/

/-- A channel of CAN takes frames from its bus. -/
def State.hearsCan (s : State) (c : Nat) : Prop := s.chReceives c = true ∧ s.chProto c ≠ 3

/-- A frame received without error lowers REC, clears LEC, counts and may make a wake valid (R147, R161). -/
def State.canGood (s : State) (c : Nat) : State :=
  ((((s.chRecDown c).setFld (chErr c) LCn_ERR_LEC 0).chErrState c).chCount c 0).chValid c

/-- A correct frame is delivered by a loom channel; a management bus only counts it (R140, R169). -/
theorem State.canReceiveOp_correct {s r : State} {c found : Nat} {f : CanFrame} (rec sof : Nat) (hears : s.hearsCan c)
    (hformed : canFormed f (s.chProto c) = true) (hfound : found = 0 ∨ found = 7)
    (hr : r = s.setChan c { s.chan c with rxBusy := false }) :
    s.canReceiveOp c f found rec sof =
      State.chAfter (if 64 ≤ c then r.canGood c else (r.canGood c).chDeliver c (canItem f c sof) (found == 7)) c := by
  obtain ⟨hopen, hproto⟩ := hears
  subst hr
  have hend : found ≠ 8 := by omega
  simp [State.canReceiveOp, State.canGood, hopen, hproto, hformed, hfound, hend]

/-- A frame with an error counts in RX_ERR and LEC, and in REC of a channel that is not in listen-only (R147). -/
theorem State.canReceiveOp_faulty {s r t : State} {c found : Nat} {f : CanFrame} (rec sof : Nat) (hears : s.hearsCan c)
    (hmin : 1 ≤ found) (hmax : found ≤ 6) (hr : r = s.setChan c { s.chan c with rxBusy := false })
    (ht : t = (r.chCount c 2).setFld (chErr c) LCn_ERR_LEC found) :
    s.canReceiveOp c f found rec sof =
      ((if r.chTrxSt c = 0 then t.bumpSat (chErr c) LCn_ERR_REC rec else t).chErrState c).chAfter c := by
  obtain ⟨hopen, hproto⟩ := hears
  subst hr ht
  have hfound : ¬ (found = 0 ∨ found = 7) := by omega
  have hend : found ≠ 8 := by omega
  simp [State.canReceiveOp, hopen, hproto, hfound, hend]

/-- The start of a frame makes it the one in progress. -/
theorem State.canReceiveOp_start {s : State} {c : Nat} (f : CanFrame) (rec sof : Nat) (hears : s.hearsCan c)
    (hen : s.chEn c = true) (hsettled : (s.chan c).trans = none) :
    s.canReceiveOp c f 8 rec sof = State.chPick (s.setChan c { s.chan c with rxBusy := true }) c := by
  obtain ⟨hopen, hproto⟩ := hears
  simp [State.canReceiveOp, hopen, hproto, hen, hsettled]

/-! ### Attempts -/

/-- The frame of an attempt that failed stays in the set of an enabled channel; a stopped one sends nothing again (R139). -/
def State.chRetry (s : State) (c : Nat) : State :=
  if s.chEn c then s.setChan c { s.chan c with txNow := none } else s.chFlush c false

/-- A loop delay measured is shown in TDCV (R144). -/
def State.tdcShow (s : State) (c : Nat) (meas : Option Nat) : State :=
  meas.elim s fun v => s.setFld (chTdc c) LCn_TDC_TDCV (min 127 v)

/-- A channel in normal that has a frame in transmission. -/
def State.sendsCan (s : State) (c : Nat) (it : Item) : Prop := (s.chan c).frame = some it ∧ s.chTrxSt c = 0

/-- A lost arbitration counts, and measures no loop delay. -/
theorem State.canTxEndOp_lost {s : State} {c : Nat} {it : Item} (lec eights : Nat) (tdcv : Option Nat) (sof : Nat)
    (hsends : s.sendsCan c it) :
    s.canTxEndOp c 1 lec eights tdcv sof = ((s.chCount c 4).chRetry c).chAfter c := by
  obtain ⟨hframe, hnormal⟩ := hsends
  simp [State.canTxEndOp, State.chRetry, hframe, hnormal]

/-- An attempt that came to its end, with a loop delay that can be compensated: sent, or in error (R147, R148). -/
theorem State.canTxEndOp_ended {s t u : State} {c how : Nat} {it jt : Item} {lec eights : Nat} {tdcv meas : Option Nat}
    {sof : Nat} (hsends : s.sendsCan c it) (hended : how ≠ 1)
    (hmeas : meas = (if it.fmt ≠ 0 ∧ s.flag (chTdc c) LCn_TDC_EN then tdcv else none)) (hinTime : meas.getD 0 ≤ 127)
    (ht : t = s.tdcShow c meas) (hjt : jt = (if it.fmt = 0 then it else { it with esi := s.chState c == 1 }))
    (hu : u = (t.takeFree.2.chCount c 3).setFld (chErr c) LCn_ERR_LEC lec) :
    s.canTxEndOp c how lec eights tdcv sof =
      if how = 0 then
        (((((t.chTaken c).setFld (chErr c) LCn_ERR_TEC (t.fld (chErr c) LCn_ERR_TEC - 1)).setFld (chErr c) LCn_ERR_LEC 0).chErrState
          c).chSent c jt sof).chAfter c
      else if 255 < t.fld (chErr c) LCn_ERR_TEC + 8 * eights then (u.chBusOff c).chAfter c
      else (((u.setFld (chErr c) LCn_ERR_TEC (t.fld (chErr c) LCn_ERR_TEC + 8 * eights)).chErrState c).chRetry c).chAfter c := by
  obtain ⟨hframe, hnormal⟩ := hsends
  have hfmt : jt.fmt = it.fmt := by rw [hjt]; split <;> rfl
  have hmeasured : (if jt.fmt ≠ 0 ∧ s.flag (chTdc c) LCn_TDC_EN = true ∧ how ≠ 1 then tdcv else none) = meas := by
    simp [hmeas, hended, hfmt]
  subst ht hu
  simp only [State.canTxEndOp, hframe, if_neg (not_not.mpr hnormal), ← hjt, hmeasured, if_neg hended]
  cases meas with
  | none =>
    simp only [Bool.not_false, and_true, false_and, Bool.false_eq_true, if_false]
    rfl
  | some v =>
    have hnotLate : decide (127 < v) = false := decide_eq_false (Nat.not_lt.mpr hinTime)
    simp only [hnotLate, Bool.not_false, and_true, false_and, Bool.false_eq_true, if_false]
    rfl

/-! ### The statement -/

/-- Settles O19: every clause is the equation of its command's operation under the command's guard. -/
theorem canChannelCommandsComplete : Obligations.CanChannelCommandsComplete := by
  refine ⟨?enable, ?enablePlca, ?stop, ?stopPlca, ?arrival, ?correct, ?faulty, ?start, ?attempt, ?recover, ?recovered, ?release,
    ?read⟩
  case enable =>
    intro s r t i c w hup hc hidle hw hr ht
    have hen : s.chEn c = false := (Bool.or_eq_false_iff.mp hidle).1
    exact next_settle_congr _ _ _ ((State.channelEnableOp_loom hup hc hen hw).trans (State.chanCfg_enables hidle hw hr ht))
  case enablePlca =>
    intro s t i m w hup hen htx hrun hw ht
    exact next_settle_congr _ _ _ ((State.channelEnableOp_plca hup hen hw).trans (State.plcaCfg_enables hen htx hrun hw ht))
  case stop =>
    intro s i c w hup hc hen hw
    exact next_settle_congr _ _ _ ((State.channelStopOp_loom hup hc hen hw).trans (State.chanCfg_stops hen hw))
  case stopPlca =>
    intro s i m w hup hen hw
    exact next_settle_congr _ _ _ ((State.channelStopOp_plca hup hen hw).trans (State.plcaCfg_stops hen hw))
  case arrival =>
    intro s t u c e rest hqueue hroom ht hu
    subst hu
    have hop := State.chArrivalOp_head hqueue hroom ht
    refine ⟨fun hpoison => next_settle_congr _ _ _ (hop.trans ?_),
      fun hsound hrefused => next_settle_congr _ _ _ (hop.trans ?_),
      fun hopen hsound htakes => next_settle_congr _ _ _ (hop.trans ?_)⟩
    · rw [if_pos (by simp [hpoison]), if_pos hpoison]
    · rw [if_pos (by simpa [hsound] using hrefused), if_neg (ne_true_of_eq_false hsound)]
    · rw [if_neg (by simp [hopen, hsound, htakes])]
  case correct =>
    intro s r t c rec sof f hopen hproto hformed hr ht
    have hop {found : Nat} (h : found = 0 ∨ found = 7) :=
      State.canReceiveOp_correct rec sof ⟨hopen, hproto⟩ hformed h hr
    subst ht
    refine ⟨fun hloom => ⟨?_, ?_⟩, fun hmgmt => next_settle_congr _ _ _ ((hop (.inl rfl)).trans ?_)⟩
    · exact next_settle_congr _ _ _ ((hop (.inl rfl)).trans (congrArg (State.chAfter · c) (if_neg (Nat.not_le.mpr hloom))))
    · exact next_settle_congr _ _ _ ((hop (.inr rfl)).trans (congrArg (State.chAfter · c) (if_neg (Nat.not_le.mpr hloom))))
    · exact congrArg (State.chAfter · c) (if_pos hmgmt)
  case faulty =>
    exact fun s r t c found rec sof f hopen hproto hmin hmax hr ht =>
      next_settle_congr _ _ _ (State.canReceiveOp_faulty rec sof ⟨hopen, hproto⟩ hmin hmax hr ht)
  case start =>
    exact fun s c rec sof f hopen hproto hen hsettled =>
      next_settle_congr _ _ _ (State.canReceiveOp_start f rec sof ⟨hopen, hproto⟩ hen hsettled)
  case attempt =>
    intro s t c lec eights sof tdcv meas it jt hframe hnormal hmeas ht hjt
    have hsends : s.sendsCan c it := ⟨hframe, hnormal⟩
    have ht' : t = s.tdcShow c meas := by cases meas <;> exact ht
    refine ⟨fun hinTime => next_settle_congr _ _ _ ?_, fun u hu => next_settle_congr _ _ _ ?_,
      fun u hinTime hu hlimit => next_settle_congr _ _ _ ?_, fun u v hinTime hu hlimit hv => next_settle_congr _ _ _ ?_⟩
    · exact (State.canTxEndOp_ended hsends (by decide) hmeas hinTime ht' hjt rfl).trans (if_pos rfl)
    · subst hu
      exact State.canTxEndOp_lost lec eights tdcv sof hsends
    · exact (State.canTxEndOp_ended hsends (by decide) hmeas hinTime ht' hjt hu).trans
        ((if_neg (by decide)).trans (if_pos hlimit))
    · subst hv
      exact (State.canTxEndOp_ended hsends (by decide) hmeas hinTime ht' hjt hu).trans
        ((if_neg (by decide)).trans (if_neg (Nat.not_lt.mpr hlimit)))
  case recover =>
    intro s i c w hup hc hoff hw
    exact next_settle_congr _ _ _ ((State.hostAccess_of_up hup _).trans (if_pos (by simp [hw, hoff, hc])))
  case recovered => exact fun s c hrecovering => next_settle_congr _ _ _ (if_pos hrecovering)
  case release =>
    intro s i c w hup hw hheld
    refine next_settle_congr _ _ _ ((State.hostAccess_of_up hup _).trans (if_neg ?_))
    simp [hw, Option.isSome_iff_ne_none.mp hheld]
  case read =>
    intro s i c k hup
    have hop : s.bufferReadOp i c k = s.answer i (LOOM_RXBUF c k) (s.rxWord c k) := State.hostAccess_of_up hup _
    refine ⟨fun b hheld => next_settle_congr _ _ _ (hop.trans ?_), fun hnone => next_settle_congr _ _ _ (hop.trans ?_)⟩
    · rw [State.rxWord, hheld]
    · rw [State.rxWord, hnone]

end Sys2Proof.Machine

/-! ## Loom channels: LIN (R150 to R152, R163) -/

namespace Sys2Proof.Machine

@[simp] theorem State.setChan_flag (s : State) (c : Nat) (x : ChanSt) (a : Nat) (f : Fld) :
    (s.setChan c x).flag a f = s.flag a f := rfl

/-! ### Headers and responses -/

/-- A header that an enabled responder in no transition hears while it awaits no response (R150, R155). -/
theorem State.linHeaderOp_header {s t : State} {c id err stamp : Nat} {resp : Option (List Byte)} (hopen : s.chReceives c = true)
    (hen : s.chEn c = true) (hproto : s.chProto c = 3) (hresponder : s.flag (LCn_CFG c) LCn_CFG_LIN_ROLE = false)
    (hwait : (s.chan c).linWait = none) (hsettled : (s.chan c).trans = none)
    (ht : t = s.setChan c { s.chan c with linAct := s.mer }) :
    s.linHeaderOp c id (err, resp) stamp =
      if err = 5 ∨ err = 6 then (t.chCount c 2).setFld (chErr c) LCn_ERR_LEC err
      else if s.linLen c id = 0 then t
      else ((if t.chTrxSt c = 0 then (t.chan c).lin.find? (fun p => p.1 == id) else none).elim
        (resp.elim (t.setChan c { t.chan c with linWait := some (id, t.mer + t.linTimeout c (t.linLen c id)) })
          fun d => t.linTake c id d err stamp)
        fun p => t.linAnswer c p.2 (err == 1) stamp) := by
  have hrole : ¬ (t.flag (LCn_CFG c) LCn_CFG_LIN_ROLE = true ∨ (t.chan c).trans.isSome = true) := by
    simp [ht, hresponder, hsettled]
  have hwait' : (t.chan c).linWait = none := by rw [ht, State.chan_setChan_same]; exact hwait
  have hlen : t.linLen c id = s.linLen c id := by rw [ht]; rfl
  simp only [State.linHeaderOp, ← ht]
  simp only [hopen, hen, hproto, hwait, hwait', if_neg hrole, bne_self_eq_false, Bool.not_true, Bool.or_false,
    Bool.false_and, Bool.false_eq_true, if_false, Option.isSome_none]
  refine ite_congr rfl (fun _ => rfl) fun _ => ite_congr (by rw [hlen]) (fun _ => rfl) fun _ => ?_
  cases (if t.chTrxSt c = 0 then (t.chan c).lin.find? (fun p => p.1 == id) else none) with
  | some p => rfl
  | none => cases resp <;> rfl

/-- A response with the identifier of the one awaited is taken. -/
theorem State.linHeaderOp_awaited {s t : State} {c id err stamp due : Nat} {d : List Byte} (hopen : s.chReceives c = true)
    (hproto : s.chProto c = 3) (hwait : (s.chan c).linWait = some (id, due))
    (ht : t = s.setChan c { s.chan c with linAct := s.mer }) :
    s.linHeaderOp c id (err, some d) stamp = t.linTake c id d err stamp := by
  subst ht
  simp [State.linHeaderOp, hopen, hproto, hwait]

theorem State.linNoRespOp_due {s : State} {c id due : Nat} (hwait : (s.chan c).linWait = some (id, due)) (hdue : due ≤ s.mer) :
    s.linNoRespOp c = (s.linMissed c).chAfter c := by
  simp only [State.linNoRespOp, hwait, if_neg (Nat.not_lt.mpr hdue)]

/-! ### The schedule -/

/-- An enabled commander in normal, in no transition and past its wake-up signal, runs its schedule. -/
structure State.RunsSchedule (s : State) (c : Nat) : Prop where
  enabled : s.chEn c = true
  lin : s.chProto c = 3
  scheduled : s.linScheduled c = true
  normal : s.chTrxSt c = 0
  settled : (s.chan c).trans = none
  awake : (s.chan c).wakeAt = none

/-- The bus carries a frame of the channel's own, or a response is awaited on it (R151). -/
def State.linBusy (s : State) (c : Nat) : Bool := (s.chan c).linWait.isSome || decide (s.mer < (s.chan c).busyTill)

/-- A late entry starts once the bus is free (R151). -/
theorem State.linScheduleOp_late {s : State} {c k : Nat} {l : List Nat} (bitErr : Bool) (hruns : s.RunsSchedule c)
    (hlate : (s.chan c).late = k :: l) (hfree : s.linBusy c = false) :
    s.linScheduleOp (c, bitErr) = State.linRun (s.setChan c { s.chan c with late := l }) c k bitErr := by
  obtain ⟨hen, hproto, hsched, hnormal, hsettled, hawake⟩ := hruns
  simp only [State.linBusy] at hfree
  simp [State.linScheduleOp, hen, hproto, hsched, hnormal, hsettled, hawake, hlate, hfree]

/-- The entry that is due starts on a free bus with none late before it, or is late; the next is due its delay later
(R151). -/
theorem State.linScheduleOp_due {s : State} {c k : Nat} {y : ChanSt} (bitErr : Bool) (hruns : s.RunsSchedule c)
    (hidx : (s.chan c).schedIdx = k) (hk : k < s.schedLen c) (hdue : reached (s.chTime c) (s.chan c).schedDue = true)
    (hy : y = { s.chan c with
      schedIdx := (k + 1) % s.schedLen c, schedDue := ((s.chan c).schedDue + (s.rd (LIN_SCHED c k + 4)).toNat) % 2 ^ 64 })
    (hnext : s.linBusy c = true ∨ (s.chan c).late = []) :
    s.linScheduleOp (c, bitErr) =
      if s.linBusy c = true then State.chCount (s.setChan c { y with late := (s.chan c).late ++ [k] }) c 13
      else (s.setChan c y).linRun c k bitErr := by
  obtain ⟨hen, hproto, hsched, hnormal, hsettled, hawake⟩ := hruns
  subst hidx hy
  have hlen : s.schedLen c ≠ 0 := by omega
  have hfull : ((s.chan c).linWait.isSome || decide (s.mer < (s.chan c).busyTill)) = s.linBusy c := rfl
  simp only [State.linScheduleOp, hen, hproto, hsched, hnormal, hsettled, hawake, hdue, hfull, if_pos hk, bne_self_eq_false,
    Bool.not_true, Bool.or_false, Bool.false_eq_true, if_false, Option.isSome_none, beq_eq_false_iff_ne.mpr hlen]
  cases hbusy : s.linBusy c with
  | true => cases (s.chan c).late <;> rfl
  | false =>
    have hnone : (s.chan c).late = [] := hnext.resolve_left (ne_true_of_eq_false hbusy)
    simp only [hnone]

/-! ### The statement -/

/-- Settles O20: every clause is the equation of its command's operation under the command's guard. -/
theorem linChannelCommandsComplete : Obligations.LinChannelCommandsComplete := by
  refine ⟨?header, ?awaited, ?missing, ?schedule, ?idle, ?localWake⟩
  case header =>
    intro s t c id err stamp resp hopen hen hproto hresponder hwait hsettled ht
    have hop := State.linHeaderOp_header (id := id) (err := err) (stamp := stamp) (resp := resp) hopen hen hproto hresponder
      hwait hsettled ht
    refine ⟨fun hbad => next_settle_congr _ _ _ (hop.trans (if_pos hbad)), fun hsync hparity hlen => ?_⟩
    rw [if_neg (by simp [hsync, hparity]), if_neg hlen] at hop
    refine ⟨fun p hheld hnormal => next_settle_congr _ _ _ (hop.trans ?_), fun hsilent => ?_⟩
    · rw [if_pos hnormal, hheld]
      rfl
    · have hnone : (if t.chTrxSt c = 0 then (t.chan c).lin.find? (fun p => p.1 == id) else none) = none := by
        rcases hsilent with h | h
        · rw [h, ite_self]
        · exact if_neg h
      rw [hnone] at hop
      refine ⟨fun d hd => next_settle_congr _ _ _ (hop.trans ?_), fun hd => next_settle_congr _ _ _ (hop.trans ?_)⟩
      · rw [hd]
        rfl
      · rw [hd]
        rfl
  case awaited =>
    exact fun s t c id err stamp due d hopen hproto ht hwait =>
      next_settle_congr _ _ _ (State.linHeaderOp_awaited hopen hproto hwait ht)
  case missing => exact fun s c id due hwait hdue => next_settle_congr _ _ _ (State.linNoRespOp_due hwait hdue)
  case schedule =>
    intro s c bitErr hen hproto hsched hnormal hsettled hawake
    have hruns : s.RunsSchedule c := ⟨hen, hproto, hsched, hnormal, hsettled, hawake⟩
    have hfree (hwait : (s.chan c).linWait = none) (htill : (s.chan c).busyTill ≤ s.mer) : s.linBusy c = false := by
      simp [State.linBusy, hwait, htill]
    refine ⟨fun k l hlate hwait htill => next_settle_congr _ _ _ ?_, fun k y hidx hk hdue hy =>
      ⟨fun hnone hwait htill => next_settle_congr _ _ _ ?_, fun hbusy => next_settle_congr _ _ _ ?_⟩⟩
    · exact State.linScheduleOp_late bitErr hruns hlate (hfree hwait htill)
    · exact (State.linScheduleOp_due bitErr hruns hidx hk hdue hy (.inr hnone)).trans
        (if_neg (ne_true_of_eq_false (hfree hwait htill)))
    · have hbusy' : s.linBusy c = true := by
        rw [State.linBusy, Bool.or_eq_true, decide_eq_true_eq]
        exact hbusy.symm
      exact (State.linScheduleOp_due bitErr hruns hidx hk hdue hy (.inl hbusy')).trans (if_pos hbusy')
  case idle =>
    intro s c hproto hen hresponder hawake hsettled hlong
    exact next_settle_congr _ _ _ (if_pos (by simp [hproto, hen, hresponder, hawake, hsettled, hlong]))
  case localWake =>
    intro s c a hwake hdue
    have hop : s.linLocalOp c = State.linRestart (s.setChan c { s.chan c with wakeAt := none }) c := by
      simp only [State.linLocalOp, hwake, if_pos hdue]
    exact next_settle_congr _ _ _ hop

end Sys2Proof.Machine

/-! ## Loom channels: transceivers and wake (R155 to R162) -/

namespace Sys2Proof.Machine

/-! ### Requests and transitions -/

/-- A write of LCn_TRX: the new MAP shows on the balls, and REQ_V makes it a request (R155, R157). -/
theorem State.trxRequestOp_loom {s r t : State} {i : Iface} {c : Nat} {w : Word} (hup : s.hostUp = true) (hc : c < 64)
    (hr : r = s.typedWrite i (chTrx c) w) (ht : t = r.setChan c { r.chan c with code := r.chCode c (r.chTrxSt c) }) :
    s.trxRequestOp i c w = if getB w LCn_TRX_REQ_V = true then t.chRequest c (getF w LCn_TRX_REQ) else t := by
  subst hr ht
  simp [State.trxRequestOp, State.trxWrite, State.hostAccess_of_up hup, hc]

theorem State.trxRequestOp_bus {s : State} {i : Iface} {c : Nat} {w : Word} (hup : s.hostUp = true) (hc : 64 ≤ c) :
    s.trxRequestOp i c w = s.mbWrite i (chTrx c) w :=
  (State.hostAccess_of_up hup _).trans (if_neg (Nat.not_lt.mpr hc))

/-- A request with no transition under way begins one, unless the channel is in that state (R157). -/
theorem State.chRequest_settled {s : State} {c : Nat} (st : Nat) (h : (s.chan c).trans = none) :
    s.chRequest c st = if s.chTrxSt c = st then s else s.chMove c st false := by
  rw [State.chRequest, h]

/-- A request during a transition waits for its end, or meets REQ_ERR while entry into sleep is forced (R157). -/
theorem State.chRequest_moving {s : State} {c : Nat} {tr : LoomTrans} (st : Nat) (h : (s.chan c).trans = some tr) :
    s.chRequest c st = if tr.deaf then s.chEvent c LCn_EVT_REQ_ERR else s.setChan c { s.chan c with held := some st } := by
  rw [State.chRequest, h]

/-- What ends each phase of a transition: the frame in progress, T_MODE, T_INHOFF and T_INHON (R156). -/
theorem State.loomTrans_phase_ends {s : State} {c : Nat} {tr : LoomTrans} (h : (s.chan c).trans = some tr) :
    (tr.phase = 0 → s.trxSettledOp c = s.chAfter c) ∧
    (tr.phase = 1 → tr.due ≤ s.mer → s.trxSettledOp c = s.chSettle c) ∧
    (tr.phase = 2 → tr.due ≤ s.mer → s.inhOffOp c =
      State.chSettle (s.setChan c { s.chan c with inh := false, awake := none }) c) ∧
    (tr.phase = 3 → tr.due ≤ s.mer → s.inhOnOp c =
      (s.chDrive c tr.target).chSetTrans c (some { tr with phase := 1, due := s.mer + s.chDelay c LCn_TRX_T_MODE })) := by
  refine ⟨fun hphase => ?_, fun hphase hdue => ?_, fun hphase hdue => ?_, fun hphase hdue => ?_⟩
  · simp only [State.trxSettledOp, h, if_pos hphase]
  · simp only [State.trxSettledOp, h, if_neg (show tr.phase ≠ 0 by omega), if_pos (And.intro hphase hdue)]
  · simp only [State.inhOffOp, h, if_pos (And.intro hphase hdue)]
  · simp only [State.inhOnOp, h, if_pos (And.intro hphase hdue)]

/-! ### Wake -/

theorem State.channelWakeOp_pattern {s : State} {c low : Nat} (harmed : s.chArmed c = true)
    (hmode : s.flag (chWake c) LCn_WAKE_WMODE = false) (hlong : s.chFilter c ≤ low) : s.channelWakeOp c low = s.chWakeUp c :=
  if_pos (by simp [harmed, hmode, hlong])

/-- A detector armed for wake frames. -/
def State.decodesWake (s : State) (c : Nat) : Prop := s.chArmed c = true ∧ s.flag (chWake c) LCn_WAKE_WMODE = true

/-- A classical frame without error lowers the error count; a match wakes the channel, in the filter regime the second of
two within SU_FILT (R159, R160). -/
theorem State.wakeFrameOp_correct {s t : State} {c : Nat} {f : CanFrame} (sof : Nat) (harmed : s.decodesWake c)
    (hfmt : f.fmt = 0) (ht : t = s.setChan c { s.chan c with wufErr := (s.chan c).wufErr - 1 }) :
    s.wakeFrameOp c f false sof =
      if t.wufMatch c f = false then t
      else if t.filterRegime c = false then t.chWakeUp c
      else (s.chan c).wufPrev.elim (t.setChan c { t.chan c with wufPrev := some sof }) fun p =>
        if sof - p ≤ t.fld (chWtime c) LCn_WTIME_SU_FILT * usTicks then t.chWakeUp c
        else t.setChan c { t.chan c with wufPrev := some sof } := by
  obtain ⟨harmed, hmode⟩ := harmed
  subst ht
  simp only [State.wakeFrameOp, harmed, hmode, hfmt, bne_self_eq_false, Bool.not_true, Bool.or_false, Bool.false_eq_true,
    if_false, Bool.not_eq_true']
  refine ite_congr rfl (fun _ => rfl) fun _ => ite_congr rfl (fun _ => rfl) fun _ => ?_
  cases (s.chan c).wufPrev <;> rfl

/-- A classical frame with an error raises the error count; beyond 31 it wakes the channel (R159). -/
theorem State.wakeFrameOp_bad {s : State} {c : Nat} {f : CanFrame} (sof : Nat) (harmed : s.decodesWake c) (hfmt : f.fmt = 0) :
    s.wakeFrameOp c f true sof =
      if 31 ≤ (s.chan c).wufErr then s.chWakeUp c else s.setChan c { s.chan c with wufErr := (s.chan c).wufErr + 1 } := by
  obtain ⟨harmed, hmode⟩ := harmed
  simp only [State.wakeFrameOp, harmed, hmode, hfmt, bne_self_eq_false, Bool.not_true, Bool.or_false, Bool.false_eq_true,
    if_false, if_true, Nat.lt_succ_iff]

/-! ### False wakes and MAXAWAKE -/

/-- A wake that is not valid by the end of its window counts as false, suppresses the detector at FW_THR, and puts the channel
to sleep unless it sleeps or is on its way there (R161). -/
theorem State.falseWakeOp_elapsed {s t u : State} {c t0 : Nat} (hfw : (s.chan c).fw = some t0)
    (hend : reached (s.chTime c) (t0 + s.fld (chWake c) LCn_WAKE_FW_WIN * msTicks) = true)
    (ht : t = ((State.chCount (s.setChan c { s.chan c with fw := none }) c 10).bumpSat (chStat c) LCn_STAT_FW_CNT).chEvent c
      LCn_EVT_FALSE_WAKE)
    (hu : u = (if t.fld (chWake c) LCn_WAKE_FW_THR ≠ 0 ∧ t.fld (chStat c) LCn_STAT_FW_CNT = t.fld (chWake c) LCn_WAKE_FW_THR then
      ((t.setFld (chStat c) LCn_STAT_WAKE_SUPP 1).chEvent c LCn_EVT_SUPP).log 161 c else t)) :
    s.falseWakeOp c =
      (u.chan c).trans.elim (if u.chTrxSt c = 3 then u else u.chMove c 3 false) fun m =>
        if m.target = 3 then u else u.chMove c 3 false := by
  simp only [State.falseWakeOp, hfw, hend, Bool.not_true, Bool.false_eq_true, if_false, ← ht, ← hu]
  cases (u.chan c).trans <;> rfl

theorem State.chEvtWrite_supp {s : State} {i : Iface} {c : Nat} {w : Word} (hc : c < 64) (hw : getB w LCn_EVT_SUPP = true) :
    s.chEvtWrite i c w =
      ((s.typedWrite i (chEvt c) w).setFld (chStat c) LCn_STAT_WAKE_SUPP 0).setFld (chStat c) LCn_STAT_FW_CNT 0 :=
  if_pos (by simp [hc, hw])

/-- The awake timer at MAXAWAKE forces the channel into sleep, or makes an entry under way the forced one (R162). -/
theorem State.maxAwakeOp_elapsed {s t : State} {c t0 : Nat} (hawake : (s.chan c).awake = some t0) (hc : c < 64)
    (hlimit : s.fld (chWtime c) LCn_WTIME_MAXAWAKE ≠ 0)
    (hend : reached (s.chTime c) (t0 + s.fld (chWtime c) LCn_WTIME_MAXAWAKE * 100 * msTicks) = true)
    (ht : t = s.setChan c { s.chan c with awake := none, held := none }) :
    s.maxAwakeOp c =
      ((((t.chan c).trans.elim (t.chMove c 3 true) fun x =>
        if x.target = 3 then t.chSetTrans c (some { x with deaf := true }) else t.chMove c 3 true).chEvent c
          LCn_EVT_MAXAWAKE).chCount c 11).log 162 c := by
  have hopen : (s.fld (chWtime c) LCn_WTIME_MAXAWAKE == 0 || decide (64 ≤ c) ||
      !reached (s.chTime c) (t0 + s.fld (chWtime c) LCn_WTIME_MAXAWAKE * 100 * msTicks)) = false := by
    simp [hlimit, hend, hc]
  simp only [State.maxAwakeOp, hawake, hopen, Bool.false_eq_true, if_false, ← ht]
  cases (t.chan c).trans <;> rfl

/-! ### The statement -/

/-- Settles O21: every clause is the equation of its command's operation under the command's guard. -/
theorem transceiverCommandsComplete : Obligations.TransceiverCommandsComplete := by
  refine ⟨?request, ?bus, ?phases, ?pattern, ?frame, ?falseWake, ?supp, ?maxawake⟩
  case request =>
    intro s r t i c w hup hc hr ht
    have hop := State.trxRequestOp_loom hup hc hr ht
    refine ⟨fun hw => next_settle_congr _ _ _ (hop.trans (if_neg (ne_true_of_eq_false hw))),
      fun hw hsettled => next_settle_congr _ _ _ ?_, fun tr hw hmoving => next_settle_congr _ _ _ ?_⟩
    · exact (hop.trans (if_pos hw)).trans (State.chRequest_settled _ hsettled)
    · exact (hop.trans (if_pos hw)).trans (State.chRequest_moving _ hmoving)
  case bus => exact fun s i c w hup hc => next_settle_congr _ _ _ (State.trxRequestOp_bus hup hc)
  case phases =>
    intro s c tr hmoving
    obtain ⟨hframe, hmode, hoff, hon⟩ := State.loomTrans_phase_ends hmoving
    exact ⟨fun h => next_settle_congr _ _ _ (hframe h), fun h hdue => next_settle_congr _ _ _ (hmode h hdue),
      fun h hdue => next_settle_congr _ _ _ (hoff h hdue), fun h hdue => next_settle_congr _ _ _ (hon h hdue)⟩
  case pattern =>
    exact fun s c low harmed hmode hlong => next_settle_congr _ _ _ (State.channelWakeOp_pattern harmed hmode hlong)
  case frame =>
    intro s t c sof f harmed hmode hfmt ht
    have hcorrect := State.wakeFrameOp_correct sof ⟨harmed, hmode⟩ hfmt ht
    have hbad := State.wakeFrameOp_bad sof ⟨harmed, hmode⟩ hfmt
    refine ⟨fun hmatch hregime => next_settle_congr _ _ _ (hcorrect.trans ?_), fun hmatch hregime => ?_,
      fun hmatch => next_settle_congr _ _ _ (hcorrect.trans (if_pos hmatch)),
      fun hmany => next_settle_congr _ _ _ (hbad.trans (if_pos hmany)),
      fun hfew => next_settle_congr _ _ _ (hbad.trans (if_neg (Nat.not_le.mpr hfew)))⟩
    · rw [if_neg (by simp [hmatch]), if_pos hregime]
    · rw [if_neg (by simp [hmatch]), if_neg (by simp [hregime])] at hcorrect
      refine ⟨fun hfirst => next_settle_congr _ _ _ (hcorrect.trans ?_),
        fun p hsecond => next_settle_congr _ _ _ (hcorrect.trans ?_)⟩
      · rw [hfirst]
        rfl
      · rw [hsecond]
        rfl
  case falseWake =>
    intro s t u c t0 hfw hend ht hu
    have hop := State.falseWakeOp_elapsed hfw hend ht hu
    refine ⟨fun hsettled => next_settle_congr _ _ _ (hop.trans ?_),
      fun m hmoving => next_settle_congr _ _ _ (hop.trans ?_)⟩
    · rw [hsettled]
      rfl
    · rw [hmoving]
      rfl
  case supp =>
    exact fun s i c w hup hc hw =>
      next_settle_congr _ _ _ ((State.hostAccess_of_up hup _).trans (State.chEvtWrite_supp hc hw))
  case maxawake =>
    intro s t u c t0 hawake hc hlimit hend ht hu
    refine next_settle_congr _ _ _ ((State.maxAwakeOp_elapsed hawake hc hlimit hend ht).trans ?_)
    rw [hu]
    cases (t.chan c).trans <;> rfl

end Sys2Proof.Machine

/-! ## PLCA channels, their PHYs and the management buses (R165 to R168, R170) -/

namespace Sys2Proof.Machine

/-! ### Frames received -/

/-- A frame of an enabled channel that is no MAC control frame and finds room in the crossing FIFO (R120, R167). -/
structure State.PlcaHears (s : State) (m : Nat) (d : List Byte) : Prop where
  enabled : s.pcEn m = true
  data : (beAt d 12 2 == 0x8808) = false
  room : s.waitsOf (12288 + m) < 8

/-- The counters of a frame received: all, octets, and those of broadcast and multicast (R119). -/
def State.pcRxCount (s : State) (m : Nat) (d : List Byte) : State :=
  let t := (s.pcCount m 0).pcCount m 1 (d.length + 4)
  if beAt d 0 6 = 2 ^ 48 - 1 then t.pcCount m 3 else if oct d 0 % 2 == 1 then t.pcCount m 2 else t

/-- A good frame that the filter and the panel's pace pass is counted and goes to the parser. -/
theorem State.plcaReceiveOp_good {s a : State} {m : Nat} {d : List Byte} {it : Item} (raw : Nat) (hears : s.PlcaHears m d)
    (hmin : 60 ≤ d.length) (hmax : d.length ≤ 1518) (hpass : oct d 0 % 2 = 0 ∨ s.pcPass m d = true)
    (hadm : s.admitData (srcPanel (12288 + m)) = (true, a))
    (hit : it = { Item.blank with data := d, src := 12288 + m, stamp := raw, tenant := 1024 }) :
    s.plcaReceiveOp m d 0 raw =
      ((a.pcRxCount m d).capture (12288 + m) it (a.tenantStamp (a.plcaTenant m) raw)).parse (srcPanel it.src) it := by
  obtain ⟨hen, hdata, hroom⟩ := hears
  have hpasses : (!(oct d 0 % 2 == 1) || s.pcPass m d) = true := by
    rcases hpass with h | h <;> simp [h]
  have hlength : ¬ (d.length + 4 < 64 ∨ 1522 < d.length + 4) := by omega
  subst hit
  simp [State.plcaReceiveOp, State.pcRxCount, hen, hdata, Nat.not_le.mpr hroom, hlength, hpasses, hadm]

/-- A frame that the MAC found bad is counted by its fault and discarded. -/
theorem State.plcaReceiveOp_bad {s : State} {m found : Nat} {d : List Byte} (raw : Nat) (hears : s.PlcaHears m d)
    (hbad : (1 ≤ found ∧ found ≤ 4) ∨ d.length < 60 ∨ 1518 < d.length) :
    s.plcaReceiveOp m d found raw =
      if found = 4 then (s.pcCount m 8).dropFor ((s.plcaTenant m).getD 1024) rOverrun
      else if found = 2 ∨ found = 3 then (s.pcCount m 6).dropFor ((s.plcaTenant m).getD 1024) rMalformed
      else if d.length < 60 ∨ 1518 < d.length then (s.pcCount m 5).dropFor ((s.plcaTenant m).getD 1024) rMalformed
      else (s.pcCount m 4).dropFor ((s.plcaTenant m).getD 1024) rMalformed := by
  obtain ⟨hen, hdata, hroom⟩ := hears
  have hlength : (d.length + 4 < 64 ∨ 1522 < d.length + 4) = (d.length < 60 ∨ 1518 < d.length) := by
    rw [eq_iff_iff]
    omega
  simp only [State.plcaReceiveOp, hen, hdata, decide_eq_false (Nat.not_le.mpr hroom), hlength, Bool.true_or, Bool.not_true,
    Bool.not_false, Bool.true_and, Bool.or_false, Bool.false_eq_true, if_false, if_true, beq_iff_eq]
  refine ite_congr rfl (fun _ => rfl) fun hnotFull => ite_congr rfl (fun _ => rfl) fun hformed => ite_congr rfl (fun _ => rfl)
    fun hlegal => if_pos (by omega)

/-! ### Attempts -/

/-- A channel that may begin a frame, with a whole one at the head of the queue it sends from. -/
structure State.PlcaSends (s : State) (m q : Nat) (e : QEnt) (rest : List QEnt) (raw : Nat) : Prop where
  link : s.flag (PCm_STAT m) PCm_STAT_LINK = true
  enabled : s.pcEn m = true
  turn : s.plcaMay m raw = true
  queue : s.pcQueue m = some q
  head : s.queue (Dest.plca m q).key = e :: rest
  sound : e.item.poison = false
  fits : max ((s.pcSent m e.item).length + 4) e.item.stored ≤ 1526

/-- The head of queue q leaves the channel, which has sent it or given it up. -/
def State.pcTaken (s : State) (m q : Nat) (rest : List QEnt) : State :=
  State.setPlca (s.setQueue (.plca m q) rest) m { s.plca m with txq := none, coll := 0 }

@[simp] theorem Item.mark_tsreq (it : Item) (stage now : Nat) : (it.mark stage now).tsreq = it.tsreq := by
  unfold Item.mark
  split <;> rfl

/-- A frame that asked for no time stamp leaves, with its counters and its path record (R121, R167). -/
theorem State.plcaTxEndOp_sent {s u v : State} {m q raw : Nat} {e : QEnt} {rest : List QEnt} {it : Item}
    (hsends : s.PlcaSends m q e rest raw) (hreq : e.item.tsreq = none)
    (hit : it = { e.item.mark 8 s.mer with data := s.pcSent m e.item })
    (hu : u = ((s.pcTaken m q rest).freeEntry e).obs (Dest.plca m q).panel 0x021 e.cells (tenant := some it.tenant)
      (cls := some q))
    (hv : v = (u.setPlca m { u.plca m with sent := (s.plca m).sent + 1, sentAt := s.mer }).emitOut (.frame (1024 + m) it false)) :
    s.plcaTxEndOp m true raw =
      ((v.pcCount m 9).pcCount m 10 ((s.pcSent m e.item).length + 4)).pathEnd (e.item.mark 8 s.mer)
        { kind := 3, num := m, queue := q, verdict := 0, panel := (Dest.plca m q).panel, tsOut := s.mer } := by
  obtain ⟨hlink, hen, hturn, hqueue, hhead, hsound, hfits⟩ := hsends
  have hkept : (e.item.mark 8 s.mer).tsreq = none := by rw [Item.mark_tsreq, hreq]
  subst hv hu hit
  simp only [State.plcaTxEndOp, hlink, hen, hturn, hqueue, hhead, hsound, hkept, Nat.not_lt.mpr hfits, Bool.not_true,
    Bool.false_eq_true, false_and, or_false, if_false, if_true]
  rfl

/-- A collision is retried; the sixteenth discards the frame (R166). -/
theorem State.plcaTxEndOp_collided {s : State} {m q raw : Nat} {e : QEnt} {rest : List QEnt}
    (hsends : s.PlcaSends m q e rest raw) :
    s.plcaTxEndOp m false raw =
      if (s.plca m).coll + 1 < 16 then
        (s.pcCount m 12).setPlca m { s.plca m with txq := some q, coll := (s.plca m).coll + 1 }
      else ((((s.pcCount m 12).pcTaken m q rest).discardEntry e rEgress).pcCount m 13).pcEvent m PCm_EVT_EXCESS_COLL := by
  obtain ⟨hlink, hen, hturn, hqueue, hhead, hsound, hfits⟩ := hsends
  simp only [State.plcaTxEndOp, hlink, hen, hturn, hqueue, hhead, hsound, Nat.not_lt.mpr hfits, Bool.not_true,
    Bool.false_eq_true, false_and, or_false, if_false]
  rfl

/-! ### Beacons -/

/-- A follower's cycle ends with the beacon it receives (R166). -/
theorem State.plcaBeaconOp_follower {s : State} {m : Nat} (seen : Nat) (hon : s.plcaOn m = true)
    (hnode : s.fld (PCm_PLCA m) PCm_PLCA_NODE_ID ≠ 0) : s.plcaBeaconOp m seen = s.plcaCycle m seen := by
  rw [State.plcaBeaconOp, if_neg (by simp [hon]), if_neg hnode]

/-- The coordinator sends a beacon once its cycle is over, or as its first (R166). -/
theorem State.plcaBeaconOp_coordinator {s : State} {m nodes : Nat} (seen : Nat) (hon : s.plcaOn m = true)
    (hnode : s.fld (PCm_PLCA m) PCm_PLCA_NODE_ID = 0) (hnodes : nodes = max 1 (s.fld (PCm_PLCA m) PCm_PLCA_NODE_CNT))
    (hdue : s.flag (PCm_STAT m) PCm_STAT_PLCA_ST = false ∨
      (s.plca m).beaconAt + (20 + nodes * s.plcaTo m) * plcaBit ≤ s.mer) :
    s.plcaBeaconOp m seen = (s.emitOut (.beacon m)).plcaCycle m nodes := by
  subst hnodes
  rw [State.plcaBeaconOp, if_neg (by simp [hon]), if_pos hnode]
  refine if_neg ?_
  rintro ⟨hup, hearly⟩
  rcases hdue with h | h
  · exact absurd hup (ne_true_of_eq_false h)
  · exact absurd hearly (Nat.not_lt.mpr h)

theorem State.plcaLossOp_unheard {s : State} {m : Nat} (hup : s.flag (PCm_STAT m) PCm_STAT_PLCA_ST = true)
    (hnode : s.fld (PCm_PLCA m) PCm_PLCA_NODE_ID ≠ 0)
    (hlate : (s.plca m).beaconAt + 4 * max 1 (s.plca m).seen * (s.plcaTo m + 20) * plcaBit ≤ s.mer) :
    s.plcaLossOp m =
      ((s.setPlca m { s.plca m with seen := 0 }).setFld (PCm_STAT m) PCm_STAT_PLCA_ST 0).pcEvent m PCm_EVT_PLCA_DOWN :=
  if_pos (by simp [hup, hnode, hlate])

/-! ### PHYs -/

/-- A write of BUSY while none is under way starts a Clause 22 access (R168). -/
theorem State.mdioWrite_starts {s : State} {i : Iface} {w : Word} (hidle : s.flag LOOM_MDIO LOOM_MDIO_BUSY = false)
    (hw : getB w LOOM_MDIO_BUSY = true) :
    s.mdioWrite i w = (s.typedWrite i LOOM_MDIO w).emitOut
      (.mdio (getB w LOOM_MDIO_OP) (getF w LOOM_MDIO_PHYAD) (getF w LOOM_MDIO_REGAD) (getF w LOOM_MDIO_DATA)) :=
  (if_neg (ne_true_of_eq_false hidle)).trans (if_pos hw)

/-- A read that completes shows its value; BUSY clears (R168). -/
theorem State.mdioDoneOp_busy {s : State} (v : Nat) (hbusy : s.flag LOOM_MDIO LOOM_MDIO_BUSY = true) :
    s.mdioDoneOp v =
      (if s.flag LOOM_MDIO LOOM_MDIO_OP = true then s else s.setFld LOOM_MDIO LOOM_MDIO_DATA v).setFld LOOM_MDIO
        LOOM_MDIO_BUSY 0 :=
  if_neg (by simp [hbusy])

/-- A change of an enabled channel's link is shown with its event; a link that falls discards what waits (R118, R168). -/
theorem State.phyPollOp_change {s : State} {m : Nat} {up : Bool} (hen : s.pcEn m = true)
    (hchange : s.flag (PCm_STAT m) PCm_STAT_LINK ≠ up) :
    s.phyPollOp m up =
      let t := (s.setFlag (PCm_STAT m) PCm_STAT_LINK up).pcEvent m (if up then PCm_EVT_LINK_UP else PCm_EVT_LINK_DOWN)
      if up then t else State.pcFlush (t.setPlca m { t.plca m with txq := none, coll := 0 }) m :=
  if_neg (by simp [hen, hchange])

/-! ### The statement -/

/-- Settles O22: every clause is the equation of its command's operation under the command's guard. -/
theorem plcaAndManagementCommandsComplete : Obligations.PlcaAndManagementCommandsComplete := by
  refine ⟨?good, ?bad, ?attempt, ?follower, ?coordinator, ?loss, ?mdio, ?mdioDone, ?phy, ?settings⟩
  case good =>
    intro s a t u m raw d it hen hmin hmax hdata hroom hpass hadm ht hu hit
    subst ht hu
    exact next_settle_congr _ _ _ (State.plcaReceiveOp_good raw ⟨hen, hdata, hroom⟩ hmin hmax hpass hadm hit)
  case bad =>
    intro s m raw d hen hdata hroom
    have hop {found : Nat} := State.plcaReceiveOp_bad (found := found) raw ⟨hen, hdata, hroom⟩
    refine ⟨fun hmin hmax => next_settle_congr _ _ _ ((hop (.inl (by decide))).trans ?_),
      next_settle_congr _ _ _ ((hop (.inl (by decide))).trans ?_),
      next_settle_congr _ _ _ (hop (.inl (by decide))),
      fun hlength => next_settle_congr _ _ _ ((hop (.inr hlength)).trans ?_)⟩
    · rw [if_neg (by decide), if_neg (by decide), if_neg (by omega)]
    · rfl
    · rw [if_neg (by decide), if_neg (by decide), if_pos hlength]
  case attempt =>
    intro s t m q raw e rest hlink hen hturn hqueue hhead hsound hfits ht
    have hsends : s.PlcaSends m q e rest raw := ⟨hlink, hen, hturn, hqueue, hhead, hsound, hfits⟩
    have hcollided := State.plcaTxEndOp_collided hsends
    refine ⟨fun it u v w hreq hit hu hv hw => next_settle_congr _ _ _ ?_,
      fun hfew => next_settle_congr _ _ _ (hcollided.trans (if_pos (by omega))),
      fun u hmany hu => next_settle_congr _ _ _ (hcollided.trans ((if_neg (by omega)).trans ?_))⟩
    · subst ht hw
      exact State.plcaTxEndOp_sent hsends hreq hit hu hv
    · subst hu
      rfl
  case follower =>
    exact fun s m seen hon hnode => next_settle_congr _ _ _ (State.plcaBeaconOp_follower seen hon hnode)
  case coordinator =>
    exact fun s m seen nodes hon hnode hnodes hdue =>
      next_settle_congr _ _ _ (State.plcaBeaconOp_coordinator seen hon hnode hnodes hdue)
  case loss => exact fun s m hup hnode hlate => next_settle_congr _ _ _ (State.plcaLossOp_unheard hup hnode hlate)
  case mdio =>
    exact fun s i w hup hidle hw =>
      next_settle_congr _ _ _ ((State.hostAccess_of_up hup _).trans (State.mdioWrite_starts hidle hw))
  case mdioDone =>
    intro s v hbusy
    have hop := State.mdioDoneOp_busy v hbusy
    refine ⟨fun hread => next_settle_congr _ _ _ (hop.trans ?_), fun hwrite => next_settle_congr _ _ _ (hop.trans ?_)⟩
    · rw [if_pos hread]
    · rw [if_neg (ne_true_of_eq_false hwrite)]
  case phy =>
    intro s t m hen
    refine ⟨fun hdown => next_settle_congr _ _ _ (State.phyPollOp_change hen (by simp [hdown])),
      fun hup ht => next_settle_congr _ _ _ ?_⟩
    subst ht
    exact State.phyPollOp_change hen (by simp [hup])
  case settings =>
    intro s t b hidle ht
    subst ht
    exact next_settle_congr _ _ _ (if_neg (ne_true_of_eq_false hidle))

end Sys2Proof.Machine

/-! ## The winner of a slot (R182)

A slot's fold keeps the first request of the least rank, its key before its member: it is the library's `List.argmin`. -/

namespace Sys2Proof.Machine

/-- What a slot compares: the arbitration key, then the member (R182). -/
def VbReq.rank (r : VbReq) : ℕ ×ₗ ℕ := toLex (vbKey r.item, r.member)

theorem VbReq.rank_lt_iff {q r : VbReq} :
    q.rank < r.rank ↔ vbKey q.item < vbKey r.item ∨ (vbKey q.item = vbKey r.item ∧ q.member < r.member) :=
  Prod.Lex.toLex_lt_toLex

theorem VbReq.rank_le_iff {q r : VbReq} :
    q.rank ≤ r.rank ↔ vbKey q.item ≤ vbKey r.item ∧ (vbKey r.item = vbKey q.item → q.member ≤ r.member) := by
  rw [VbReq.rank, VbReq.rank, Prod.Lex.toLex_le_toLex]
  dsimp only
  omega

theorem slotWinner_eq_argmin (l : List VbReq) : slotWinner l = l.argmin VbReq.rank := by
  cases l with
  | nil => rfl
  | cons r t =>
    refine (List.foldl_hom some fun b q => ?_).symm
    simp only [List.argAux, VbReq.rank_lt_iff, apply_ite some]

/-- Settles O57: the winner is the least request by rank, and `List.argmin` gives the first of those. -/
theorem slotWinnerIsLeast : Obligations.SlotWinnerIsLeast := by
  intro l
  rw [slotWinner_eq_argmin]
  refine ⟨List.argmin_eq_none, fun w hw => ?_⟩
  obtain ⟨hmem, hleast, hfirst⟩ := List.argmin_eq_some_iff.mp hw
  refine ⟨hmem, fun r hr => VbReq.rank_le_iff.mp (hleast r hr), ?_⟩
  obtain ⟨a, b, rfl, hnew⟩ := List.eq_append_cons_of_mem hmem
  refine ⟨a, b, rfl, fun r hr ⟨hkey, hmember⟩ => ?_⟩
  have hrank : r.rank ≤ w.rank := VbReq.rank_le_iff.mpr ⟨hkey.le, fun _ => hmember.le⟩
  have hindex := hfirst r (by simp [hr]) hrank
  rw [List.idxOf_append_of_notMem hnew, List.idxOf_append_of_mem hr, List.idxOf_cons_self] at hindex
  have hlength := List.idxOf_lt_length_of_mem hr
  omega

end Sys2Proof.Machine

/-! ## Wakes of virtual buses (R196, R198, R200) -/

namespace Sys2Proof.Machine

/-! ### What control messages leave alone -/

@[simp] theorem settle_vb (s t : State) (v : Nat) : (settle s t).vb v = t.vb v := by simp [State.vb]

@[simp] theorem State.setFld_vb (s : State) (a : Nat) (f : Fld) (x v : Nat) : (s.setFld a f x).vb v = s.vb v := rfl

@[simp] theorem State.count_vb (s : State) (a n v : Nat) : (s.count a n).vb v = s.vb v := rfl

theorem State.count_flag_other (s : State) {a b : Nat} (f : Fld) (n : Nat) (h : b ≠ a) :
    (s.count a n).flag b f = s.flag b f := by
  rw [State.flag, State.count, State.rd_wr_other _ _ _ _ h]
  rfl

theorem State.vbTellAll_regs (s : State) (v : Nat) (time : Int) (ms : List Nat) (op p : Nat) :
    (s.vbTellAll v time ms op p).regs = s.regs :=
  State.foldl_keeps State.regs (fun _ _ => by rfl) ms s.takeFree.2

@[simp] theorem State.vbTellAll_flag (s : State) (v : Nat) (time : Int) (ms : List Nat) (op p a : Nat) (f : Fld) :
    (s.vbTellAll v time ms op p).flag a f = s.flag a f := by
  rw [State.flag, State.rd, State.vbTellAll_regs]
  rfl

/-- Control messages change nothing of their bus but what is due on it (R208). -/
theorem State.vbTellAll_vb (s : State) (v : Nat) (time : Int) (ms : List Nat) (op p : Nat) :
    ∃ due : List VbDue, (s.vbTellAll v time ms op p).vb v = { s.vb v with due := due } := by
  have hrest : { (s.vbTellAll v time ms op p).vb v with due := [] } = { s.vb v with due := [] } :=
    State.foldl_keeps (fun t => { t.vb v with due := [] }) (fun t m => by simp [State.vbDue]) ms s.takeFree.2
  exact ⟨_, congrArg (fun x : VbSt => { x with due := ((s.vbTellAll v time ms op p).vb v).due }) hrest⟩

/-! ### What a wake does -/

theorem State.vbWake_awake (s : State) (v cause : Nat) (p : Int) (r : List Word) : (s.vbWake v cause p r).vbAsleep v = false := by
  have hevt : VBn_STAT v ≠ VBn_EVT v := by simp only [VBn_STAT, VBn_EVT]; omega
  have hcnt : VBn_STAT v ≠ VBn_CNT v 6 := by simp only [VBn_STAT, VBn_CNT]; omega
  simp only [State.vbWake, State.vbAsleep, State.vbCount, State.vbEvent, State.vbTellAll_flag]
  rw [State.count_flag_other _ _ _ hcnt, State.flag_setFld_other _ _ _ _ _ _ hevt]
  exact State.flag_setFld_same _ _ _ _ (by decide) (by decide)

/-- A wake of a LIN bus by a pattern in mode 0, or a local one, makes schedule entry 0 due 100 ms later (R200). -/
theorem State.vbWake_schedules {s : State} {v cause : Nat} (p : Int) (r : List Word) (hlin : s.vbProto v = 3)
    (hcause : cause = 2 ∨ cause = 1 ∧ s.flag (VBn_WAKE v) VBn_WAKE_WMODE = false) :
    ((s.vbWake v cause p r).vb v).schedIdx = 0 ∧ ((s.vbWake v cause p r).vb v).schedDue = p + 100 * msTicks ∧
      ((s.vbWake v cause p r).vb v).hdrs = [] := by
  have hwakes : s.vbProto v = 3 ∧ (cause = 2 ∨ (!s.flag (VBn_WAKE v) VBn_WAKE_WMODE) = true) :=
    ⟨hlin, hcause.imp id fun h => by simp [h.2]⟩
  simp only [State.vbWake]
  obtain ⟨due, hdue⟩ := State.vbTellAll_vb _ v p _ 7 cause
  rw [hdue]
  simp only [State.vbCount, State.vbEvent, State.count_vb, State.setFld_vb, State.vb_setVb_same, if_pos hwakes, and_self]

/-- A write of REQ 1 wakes an enabled bus that sleeps (R198). -/
theorem State.vbSleepOp_wakes {s t : State} {i : Iface} {v : Nat} {w : Word} (hup : s.hostUp = true)
    (ht : t = s.typedWrite i (VBn_SLEEP v) w) (hen : t.vbEn v = true) (hreq : getF w VBn_SLEEP_REQ = 1)
    (hsleeps : t.vbAsleep v = true) : s.vbSleepOp i v w = t.vbWake v 2 (t.vbPos v) (t.vbRule v) := by
  subst ht
  simp [State.vbSleepOp, State.vbSleepWrite, State.hostAccess_of_up hup, hen, hreq, hsleeps]

/-- Settles O59: the clause on states is what a wake does; the write's is that wake at the bus's position. -/
theorem linWakeSchedules : Obligations.LinWakeSchedules := by
  refine ⟨fun s v cause p r hlin hcause => ?_, fun s i v w hup hen hreq hsleeps hlin => ?_⟩
  · obtain ⟨hidx, hdue, hhdrs⟩ := State.vbWake_schedules p r hlin hcause
    exact ⟨hidx, hdue, hhdrs, State.vbWake_awake s v cause p r⟩
  · refine ⟨_, next_settle_congr _ _ _ (State.vbSleepOp_wakes hup rfl hen hreq hsleeps), ?_⟩
    obtain ⟨hidx, hdue, -⟩ := State.vbWake_schedules (State.vbPos _ v) (State.vbRule _ v) hlin (.inl rfl)
    rw [settle_vb]
    exact ⟨hidx, hdue⟩

end Sys2Proof.Machine

/-! ## Virtual buses: traffic (R174, R179, R180, R182, R185, R186, R189, R190, R192, R194, R201) -/

namespace Sys2Proof.Machine

/-! ### Starting and stopping -/

/-- A write of EN 1 to a bus that has stopped starts it where R174 accepts the word, and is a configuration error else. -/
theorem State.vbEnableOp_stopped {s t : State} {i : Iface} {v : Nat} {w : Word} (hup : s.hostUp = true)
    (hstopped : s.vbRuns v = false) (hen : s.vbEn v = false) (hw : getB w VBn_CFG_EN = true)
    (ht : t = s.typedWrite i (VBn_CFG v) w) :
    s.vbEnableOp i v w =
      if s.mayRun && s.vbMayEnable v (t.rd (VBn_CFG v)) then t.vbStart v else s.vbEvent v VBn_EVT_CFG_ERR := by
  subst ht
  simp only [State.vbEnableOp, State.vbCfg, hen, hw, hstopped, State.hostAccess_of_up hup, Bool.not_true, Bool.not_false,
    Bool.true_and, if_true, Bool.false_eq_true, if_false, apply_ite Prod.snd]

/-- A write of EN 0 stops an enabled bus at once; what else it would change is a configuration error (R174, R201). -/
theorem State.vbStopOp_enabled {s : State} {i : Iface} {v : Nat} {w : Word} (hup : s.hostUp = true)
    (hen : s.vbEn v = true) (hw : getB w VBn_CFG_EN = false) :
    s.vbStopOp i v w =
      (if setF ((s.typedWrite i (VBn_CFG v) w).rd (VBn_CFG v)) VBn_CFG_EN 1 = s.rd (VBn_CFG v) then s
        else s.vbEvent v VBn_EVT_CFG_ERR).vbHalt v := by
  have hruns : s.vbRuns v = true := by rw [State.vbRuns, hen, Bool.true_or]
  simp only [State.vbStopOp, State.vbCfg, hen, hw, hruns, State.hostAccess_of_up hup, Bool.not_true, Bool.not_false,
    Bool.true_and, if_true, Bool.false_eq_true, if_false]

/-! ### Requests -/

/-- The head of a bus's queue has left the shared memory for the bus's home panel. -/
def State.vbTaken (s : State) (v : Nat) (e : QEnt) (rest : List QEnt) : State :=
  ((s.setQueue (.vbus v) rest).freeEntry e).obs (Dest.vbus v).panel 0x021 e.cells (tenant := some e.item.tenant) (cls := some 0)

/-- A whole item that an enabled bus carries, from a valid member that talks and is not bus-off (R176, R177). -/
structure State.VbAdmits (t : State) (v : Nat) (it : Item) : Prop where
  sound : it.poison = false
  enabled : t.vbEn v = true
  fits : t.memFits v it = true
  format : fmtOk (t.vbProto v) it = true
  talks : t.memListen v it.member = false
  active : t.memState v it.member < 2

/-- An item admitted to the bus; one whose tau has passed is late (R178, R179). -/
def State.vbAdmitted (t : State) (v : Nat) (it : Item) : State :=
  let x := t.pathEnd it { kind := 1, num := v, queue := 0, verdict := 0, panel := (Dest.vbus v).panel, tsOut := t.mer }
  if t.vbTau v it < t.vbPos v then (x.vbCount v 1).vbEvent v VBn_EVT_LATE else x

/-- The request that an item makes, at the later of its tau and the bus's position (R179). -/
def State.vbReqOf (t : State) (v : Nat) (it : Item) (data : List Byte) : VbReq :=
  { item := { it with data := data, tsreq := none }, member := it.member, arrival := t.mer,
    rho := max (t.vbTau v it) (t.vbPos v) }

/-- A frame, or a header of the commander member, joins the bus's requests with its effective time (R179, R192). -/
theorem State.vbRequestOp_joins {s t u : State} {v : Nat} {e : QEnt} {rest : List QEnt} {it : Item} {data : List Byte}
    {r : VbReq} (hhead : s.queue (Dest.vbus v).key = e :: rest) (ht : t = s.vbTaken v e rest) (hit : it = e.item.mark 8 t.mer)
    (hadmits : t.VbAdmits v it)
    (hkind : it.fmt ≠ 3 ∨ it.data.isEmpty = true ∧ t.flag (VBn_CFG v) VBn_CFG_LIN_CMDR = true ∧
      t.fld (VBn_CFG v) VBn_CFG_CMDR_MEMBER = it.member)
    (hroom : (t.vb v).reqs.length < 64)
    (hdata : data = if it.fmt = 1 then padTo (fdLen it.data.length) (t.fld (VBn_CFG v) VBn_CFG_PAD) it.data else it.data)
    (hu : u = t.vbAdmitted v it) (hr : r = t.vbReqOf v it data) :
    s.vbRequestOp v = (u.setVb v { u.vb v with reqs := (u.vb v).reqs ++ [r] }).vbShow v it.member := by
  obtain ⟨hsound, hen, hfits, hformat, htalks, hactive⟩ := hadmits
  have hheader : ((it.fmt == 3 && it.data.isEmpty) &&
      !(t.flag (VBn_CFG v) VBn_CFG_LIN_CMDR && t.fld (VBn_CFG v) VBn_CFG_CMDR_MEMBER == it.member)) = false := by
    rcases hkind with h | ⟨-, hcmdr, hmember⟩
    · simp [h]
    · simp [hcmdr, hmember]
  have hframe : ¬ (it.fmt = 3 ∧ (!(it.fmt == 3 && it.data.isEmpty)) = true) := by
    rcases hkind with h | ⟨hempty, -⟩
    · exact fun h3 => h h3.1
    · rintro ⟨h3, h⟩
      simp [h3, hempty] at h
  have hlong (n : Nat) : ¬ (it.fmt = 3 ∧ (!(it.fmt == 3 && it.data.isEmpty)) = true ∧ n < it.data.length) :=
    fun ⟨h3, h, _⟩ => hframe ⟨h3, h⟩
  subst hu hr hdata
  rw [State.vbRequestOp, hhead]
  simp only []
  rw [← State.vbTaken, ← ht, ← hit]
  simp only [hsound, hen, hfits, hformat, htalks, hheader, Nat.not_le.mpr hroom, Nat.not_le.mpr hactive, if_neg hframe,
    if_neg (hlong _), decide_false, Bool.not_true, Bool.or_false, Bool.false_eq_true, if_false, and_false,
    State.vbAdmitted, State.vbReqOf]

/-- A LIN response that fits its slot waits as the update of its identifier (R193). -/
theorem State.vbRequestOp_held {s t u : State} {v : Nat} {e : QEnt} {rest : List QEnt} {it : Item} {data : List Byte}
    {r : VbReq} (hhead : s.queue (Dest.vbus v).key = e :: rest) (ht : t = s.vbTaken v e rest) (hit : it = e.item.mark 8 t.mer)
    (hadmits : t.VbAdmits v it) (hlin : it.fmt = 3) (hresponse : it.data.isEmpty = false)
    (hlength : it.data.length ≤ t.vlinLen v it.ident)
    (hdata : data = padTo (t.vlinLen v it.ident) (t.fld (VBn_CFG v) VBn_CFG_PAD) it.data) (hu : u = t.vbAdmitted v it)
    (hr : r = t.vbReqOf v it data) :
    s.vbRequestOp v = u.vbHold v r := by
  obtain ⟨hsound, hen, hfits, hformat, htalks, hactive⟩ := hadmits
  subst hu hr hdata
  rw [State.vbRequestOp, hhead]
  simp only []
  rw [← State.vbTaken, ← ht, ← hit]
  simp [hsound, hen, hfits, hformat, htalks, hlin, hresponse, Nat.not_le.mpr hactive, Nat.not_lt.mpr hlength,
    State.vbAdmitted, State.vbReqOf]

/-! ### Slots -/

/-- The close tick stays where the view reaches it when some request that is ready had arrived by then. -/
theorem foldl_close_of_arrived {near : List VbReq} {close : Nat} (h : ∃ q ∈ near, q.arrival ≤ close) :
    near.foldl (fun c r => if near.all (fun q => decide (r.arrival ≤ q.arrival)) then max c r.arrival else c) close = close := by
  obtain ⟨q, hq, hclose⟩ := h
  refine List.foldl_fixed' (fun r => ?_) near
  split
  next hfirst =>
    have hr : r.arrival ≤ q.arrival := of_decide_eq_true (List.all_eq_true.mp hfirst q hq)
    omega
  next => rfl

theorem slotWinner_mem {l : List VbReq} {w : VbReq} (h : slotWinner l = some w) : w ∈ l :=
  ((slotWinnerIsLeast l).2 w h).1

/-- A due slot of a CAN bus is decided, and its winner attempts; equal keys of two members count (R180, R182). -/
theorem State.canSlot_decided {s u : State} {v : Nat} {st : Int} {w : VbReq} {e : List VbReq}
    (hstart : (s.vb v).start (s.vbParts v) = some st) (hdue : s.vbReached v st = true)
    (he : e = (s.vbParts v).filter
      (fun r => decide ((s.vb v).ready r ≤ st) && decide (r.arrival ≤ s.vbTick v (st + s.vbLead v))))
    (hwinner : slotWinner e = some w) (hu : u = s.vbDecided v (s.vbTick v (st + s.vbLead v))) :
    s.canSlot v =
      (if e.any (fun r => r.member != w.member && vbKey r.item == vbKey w.item) then u.vbCount v 5 else u).vbAttempt v w st := by
  have he' : e = ((s.vbParts v).filter (fun r => decide ((s.vb v).ready r ≤ st))).filter
      (fun r => decide (r.arrival ≤ s.vbTick v (st + s.vbLead v))) := by
    rw [he, List.filter_filter]
    exact List.filter_congr fun r _ => Bool.and_comm _ _
  have hclose := foldl_close_of_arrived (close := s.vbTick v (st + s.vbLead v))
    (near := (s.vbParts v).filter (fun r => decide ((s.vb v).ready r ≤ st))) (by
      have hmem := slotWinner_mem hwinner
      rw [he', List.mem_filter, decide_eq_true_eq] at hmem
      exact ⟨w, hmem⟩)
  simp only [State.canSlot, hstart, hdue, Bool.not_true, Bool.false_eq_true, if_false, hclose, ← he', hwinner, ← hu]

/-- The commander member's request of the least effective time gets the header slot that is due; late when it waited (R192). -/
theorem State.linSlot_commander {s u : State} {v : Nat} {r r0 : VbReq} {l : List VbReq} {st : Int}
    (hcmdr : s.flag (VBn_CFG v) VBn_CFG_LIN_CMDR = true) (hreqs : (s.vb v).reqs = r0 :: l)
    (hr : r = l.foldl (fun b q => if q.rho < b.rho then q else b) r0) (hst : st = max (s.vb v).free r.rho)
    (hdue : s.vbReached v st = true)
    (hu : u = (s.setVb v { s.vb v with reqs := (s.vb v).reqs.erase r }).vbShow v r.member) :
    s.linSlot v = (if r.rho < st then u.vbCount v 10 else u).vlinSlot v (r.item.ident % 64) false st := by
  rw [State.linSlot, if_pos hcmdr]
  subst hst hu
  simp only [hreqs, ← hr, hdue, Bool.not_true, Bool.false_eq_true, if_false]

/-- A header that waited for the bus starts its slot once the bus is free (R192). -/
theorem State.linSlot_waited {s : State} {v id : Nat} {sl : Bool} {l : List (Nat × Bool)}
    (hschedule : s.flag (VBn_CFG v) VBn_CFG_LIN_CMDR = false) (hhdrs : (s.vb v).hdrs = (id, sl) :: l)
    (hdue : s.vbReached v (s.vb v).free = true) (hawake : s.vbAsleep v = false) :
    s.linSlot v = (s.setVb v { s.vb v with hdrs := l }).vlinSlot v id sl (s.vb v).free := by
  rw [State.linSlot, if_neg (ne_true_of_eq_false hschedule)]
  simp only [hhdrs, hdue, hawake, Bool.not_true, Bool.or_false, Bool.false_eq_true, if_false]

theorem State.slotCloseOp_can {s : State} {v : Nat} (hen : s.vbEn v = true) (hcan : s.vbProto v ≠ 3) :
    s.slotCloseOp v = s.canSlot v := by
  rw [State.slotCloseOp, if_neg (by simp [hen]), if_neg hcan]

theorem State.slotCloseOp_lin {s : State} {v : Nat} (hen : s.vbEn v = true) (hlin : s.vbProto v = 3) :
    s.slotCloseOp v = s.linSlot v := by
  rw [State.slotCloseOp, if_neg (by simp [hen]), if_pos hlin]

/-! ### Deliveries -/

/-- What is due first on a bus happens with what is due on every live bus by then, and its messages leave together (R186). -/
theorem State.vbDeliveryOp_due {s t : State} {v : Nat} {d : VbDue} {l : List VbDue} {ms : List Msg}
    (hfirst : (s.vb v).due = d :: l) (hen : s.vbEn v = true) (hdue : s.vbReached v d.time = true)
    (hall : s.liveBuses.foldl (fun (p : State × List Msg) u =>
      ((p.1.vbRun u (s.dueAt v d)).1, p.2 ++ (p.1.vbRun u (s.dueAt v d)).2)) (s, []) = (t, ms)) :
    s.vbDeliveryOp v = t.sendMsgs ms := by
  simp only [State.vbDeliveryOp, hfirst, hen, hdue, hall, Bool.not_true, Bool.or_false, Bool.false_eq_true, if_false]

/-! ### Recovery -/

theorem State.memRecoverOp_busOff {s : State} (i : Iface) {v m : Nat} {w : Word} (hup : s.hostUp = true)
    (hw : getB w MEMBER_RECOVER = true) (hoff : s.memState v m = 2) (hen : s.vbEn v = true) :
    s.memRecoverOp i v m w = State.setVb (s.setFld (memErr v m) MEMBER_STATE 3) v
      { s.vb v with recov := (s.vb v).recov ++ [(m, 0, max (s.vbPos v) (s.vb v).free)] } :=
  (State.hostAccess_of_up hup _).trans (if_pos (by simp [hw, hoff, hen]))

/-- The 128th occurrence makes a recovering member error-active (R189). -/
theorem State.memDoneOp_counted {s : State} {v m n : Nat} {p : Int}
    (hrecov : (s.vb v).recov.find? (fun r => r.1 == m) = some (m, n, p)) (hsince : p ≤ s.vbPos v)
    (hcount : 128 ≤ (n : Int) + (s.vbPos v - p) / (11 * s.vbNbt v)) (hen : s.vbEn v = true) :
    s.memDoneOp v m =
      (s.setVb v { s.vb v with recov := (s.vb v).recov.filter (fun r => r.1 != m) }).vbErrSet v m 0 0 (s.vbPos v) := by
  rw [State.memDoneOp, hrecov]
  exact if_neg (by simp [hen, not_lt.mpr hsince, not_lt.mpr hcount])

/-! ### The LIN schedule -/

/-- An enabled LIN bus awake that runs its schedule itself. -/
structure State.VbSchedules (s : State) (v : Nat) : Prop where
  enabled : s.vbEn v = true
  lin : s.vbProto v = 3
  own : s.flag (VBn_CFG v) VBn_CFG_LIN_CMDR = false
  scheduled : s.flag (VBn_LIN v) VBn_LIN_SCHED_EN = true
  awake : s.vbAsleep v = false

/-- The entry that is due starts its slot on a free bus with none waiting before it, or waits and counts; the next is due its
delay later (R192). -/
theorem State.vlinScheduleOp_due {s : State} {v k a : Nat} {y : VbSt} (hruns : s.VbSchedules v)
    (hdue : s.vbReached v (s.vb v).schedDue = true) (hidx : (s.vb v).schedIdx = k) (hk : k < s.vlinCount v)
    (ha : a = VLIN_SCHED (s.fld (VBn_LIN v) VBn_LIN_SCHED_BASE + k))
    (hy : y = { s.vb v with
      schedIdx := (k + 1) % s.vlinCount v, schedDue := (s.vb v).schedDue + (s.rd (a + 4)).toNat }) :
    s.vlinScheduleOp v =
      if (s.vb v).schedDue < (s.vb v).free ∨ (!(s.vb v).hdrs.isEmpty) = true then
        State.vbCount (s.setVb v { y with
          hdrs := (s.vb v).hdrs ++ [(s.fld a VLIN_SCHED_FRAME_ID, s.flag a VLIN_SCHED_CMD_SLEEP)] }) v 10
      else (s.setVb v y).vlinSlot v (s.fld a VLIN_SCHED_FRAME_ID) (s.flag a VLIN_SCHED_CMD_SLEEP) (s.vb v).schedDue := by
  obtain ⟨hen, hlin, hown, hsched, hawake⟩ := hruns
  subst hidx ha hy
  have hsome : s.vlinCount v ≠ 0 := by omega
  simp only [State.vlinScheduleOp, hen, hlin, hown, hsched, hawake, hdue, if_pos hk, bne_self_eq_false, Bool.not_true,
    Bool.or_false, Bool.false_eq_true, if_false, beq_eq_false_iff_ne.mpr hsome]

theorem State.vlinNoRespOp_due {s : State} {v : Nat} {p : Int} {l : List Int} (hnone : (s.vb v).noResp = p :: l)
    (hdue : s.vbReached v p = true) : s.vlinNoRespOp v = (s.setVb v { s.vb v with noResp := l }).vbCount v 11 := by
  rw [State.vlinNoRespOp, hnone]
  exact if_pos hdue

/-! ### The statement -/

/-- Settles O23: every clause is the equation of its command's operation under the command's guard; a CAN slot's close tick
stays at the view's, because its winner had arrived by then. -/
theorem vBusTrafficCommandsComplete : Obligations.VBusTrafficCommandsComplete := by
  refine ⟨?enable, ?stop, ?stopped, ?request, ?slot, ?header, ?waited, ?delivery, ?recover, ?recovered, ?injector, ?schedule,
    ?noResponse, ?load⟩
  case enable =>
    exact fun s t i v w hup hruns hen hw ht => next_settle_congr _ _ _ (State.vbEnableOp_stopped hup hruns hen hw ht)
  case stop => exact fun s i v w hup hen hw => next_settle_congr _ _ _ (State.vbStopOp_enabled hup hen hw)
  case stopped => exact fun s v hen => next_settle_congr _ _ _ (if_neg (ne_true_of_eq_false hen))
  case request =>
    intro s t u x v m e rest it data r hhead hit ht hsound hmember hen hfits hformat htalks hactive hx hu hr
    subst hmember hx
    have hadmits : t.VbAdmits v it := ⟨hsound, hen, hfits, hformat, htalks, hactive⟩
    refine ⟨fun hframe hroom hdata => next_settle_congr _ _ _ ?_,
      fun hlin hempty hcmdr hcommander hroom hdata => next_settle_congr _ _ _ ?_,
      fun hlin hresponse hlength hdata => next_settle_congr _ _ _ ?_⟩
    · exact State.vbRequestOp_joins hhead ht hit hadmits (.inl hframe) hroom hdata hu hr
    · exact State.vbRequestOp_joins hhead ht hit hadmits (.inr ⟨hempty, hcmdr, hcommander⟩) hroom
        (hdata.trans (if_neg (by omega)).symm) hu hr
    · exact State.vbRequestOp_held hhead ht hit hadmits hlin hresponse hlength hdata hu hr
  case slot =>
    exact fun s v st w e u hen hcan hstart hdue he hwinner hu => next_settle_congr _ _ _
      ((State.slotCloseOp_can hen hcan).trans (State.canSlot_decided hstart hdue he hwinner hu))
  case header =>
    exact fun s u v r r0 l st hen hlin hcmdr hreqs hr hst hdue hu => next_settle_congr _ _ _
      ((State.slotCloseOp_lin hen hlin).trans (State.linSlot_commander hcmdr hreqs hr hst hdue hu))
  case waited =>
    exact fun s v id sl l hen hlin hschedule hhdrs hdue hawake => next_settle_congr _ _ _
      ((State.slotCloseOp_lin hen hlin).trans (State.linSlot_waited hschedule hhdrs hdue hawake))
  case delivery =>
    exact fun s t v d l ms hfirst hen hdue hall => next_settle_congr _ _ _ (State.vbDeliveryOp_due hfirst hen hdue hall)
  case recover =>
    exact fun s i v m w hup hw hoff hen => next_settle_congr _ _ _ (State.memRecoverOp_busOff i hup hw hoff hen)
  case recovered =>
    exact fun s v m n p hrecov hsince hcount hen =>
      next_settle_congr _ _ _ (State.memDoneOp_counted hrecov hsince hcount hen)
  case injector =>
    intro s t i f w hup ht
    subst ht
    exact next_settle_congr _ _ _ (State.hostAccess_of_up hup _)
  case schedule =>
    intro s v k a y hen hlin hown hsched hawake hdue hidx hk ha hy
    have hop := State.vlinScheduleOp_due ⟨hen, hlin, hown, hsched, hawake⟩ hdue hidx hk ha hy
    refine ⟨fun hfree hnone => next_settle_congr _ _ _ (hop.trans (if_neg ?_)),
      fun hbusy => next_settle_congr _ _ _ (hop.trans (if_pos (.inl hbusy)))⟩
    simp [hnone, not_lt.mpr hfree]
  case noResponse => exact fun s v p l hnone hdue => next_settle_congr _ _ _ (State.vlinNoRespOp_due hnone hdue)
  case load =>
    intro s v e used hen he hdue hused
    subst hused he
    exact next_settle_congr _ _ _ (if_neg (by simp [hen, hdue]))

end Sys2Proof.Machine

/-! ## Virtual buses: sleep, wake and expanders (R196 to R199, R205, R208) -/

namespace Sys2Proof.Machine

/-! ### False wakes, sleep and the awake timer -/

/-- A window that ends with no frame to be judged in it counts a false wake, suppresses the wake rule at FW_THR, and puts the
bus to sleep (R197). -/
theorem State.vbFalseWakeOp_elapsed {s t u : State} {v : Nat} {a e : Int} (hfw : (s.vb v).fw = some a) (hen : s.vbEn v = true)
    (he : e = a + s.fld (VBn_WAKE v) VBn_WAKE_FW_WIN * msTicks) (hend : s.vbReached v e = true)
    (hjudged : (s.vb v).due.any (fun d => d.kind == 0 && decide (d.time ≤ e)) = false)
    (ht : t = ((s.vbCount v 7).bumpSat (VBn_STAT v) VBn_STAT_FW_CNT).vbEvent v VBn_EVT_FALSE_WAKE)
    (hu : u = (if t.fld (VBn_WAKE v) VBn_WAKE_FW_THR ≠ 0 ∧
        t.fld (VBn_STAT v) VBn_STAT_FW_CNT = t.fld (VBn_WAKE v) VBn_WAKE_FW_THR then
      (t.setFld (VBn_STAT v) VBn_STAT_WAKE_SUPP 1).vbEvent v VBn_EVT_SUPP else t)) :
    s.vbFalseWakeOp v = u.vbSleep v 3 e := by
  simp only [State.vbFalseWakeOp, hfw, ← he, hen, hend, hjudged, Bool.not_true, Bool.or_false, Bool.false_eq_true, if_false,
    ← ht, ← hu]

/-- A write of VBn_SLEEP to a bus that stays enabled (R198). -/
theorem State.vbSleepOp_enabled {s t : State} {i : Iface} {v : Nat} {w : Word} (hup : s.hostUp = true)
    (ht : t = s.typedWrite i (VBn_SLEEP v) w) (hen : t.vbEn v = true) :
    s.vbSleepOp i v w =
      match getF w VBn_SLEEP_REQ with
      | 1 => if t.vbAsleep v then t.vbWake v 2 (t.vbPos v) (t.vbRule v) else t
      | 2 => t.vbSleep v 1 (t.vbPos v)
      | _ => t := by
  subst ht
  exact (State.hostAccess_of_up hup _).trans (if_neg (by simp [hen]))

/-- An enabled bus awake goes to sleep after its idle time, or after 4 s without a LIN header (R198). -/
theorem State.vbIdleOp_awake {s : State} {v : Nat} (hen : s.vbEn v = true) (hawake : s.vbAsleep v = false) :
    s.vbIdleOp v =
      if s.fld (VBn_SLEEP v) VBn_SLEEP_IDLE_SLEEP ≠ 0 ∧
          s.vbReached v ((s.vb v).last + s.fld (VBn_SLEEP v) VBn_SLEEP_IDLE_SLEEP * msTicks) = true ∧
          (s.vb v).due.all (fun d => d.kind != 0 ||
            decide ((s.vb v).last + s.fld (VBn_SLEEP v) VBn_SLEEP_IDLE_SLEEP * msTicks < d.time)) = true then
        s.vbSleep v 2 (s.vbPos v)
      else if s.vbProto v = 3 ∧ s.vbReached v ((s.vb v).lastHdr + 4000 * msTicks) = true then s.vbSleep v 4 (s.vbPos v)
      else s :=
  if_neg (by simp [hen, hawake])

/-- The awake timer at MAXAWAKE forces sleep and discards what is pending (R199). -/
theorem State.vbMaxAwakeOp_elapsed {s : State} {v m : Nat} {a : Int} (hawake : (s.vb v).awake = some a)
    (hm : s.fld (VBn_WTIME v) VBn_WTIME_MAXAWAKE = m) (hlimit : m ≠ 0) (hen : s.vbEn v = true)
    (hend : s.vbReached v (a + m * 100 * msTicks) = true) :
    s.vbMaxAwakeOp v =
      (((((s.vbSleep v 5 (a + m * 100 * msTicks)).vbDropReqs v (fun _ => true)).vbEvent v VBn_EVT_MAXAWAKE).vbCount v 8).log
        199 v) := by
  subst hm
  rw [State.vbMaxAwakeOp, hawake]
  exact if_neg (by simp [hlimit, hen, hend])

/-! ### NTSCF frames -/

/-- A frame whose NTSCF header is inconsistent is malformed; another is unpacked message by message, and a sequence number
other than the attachment's next one shows a gap (R205). -/
theorem State.ntscfOp_head {s t u : State} {p a b o len q : Nat} {it : Item}
    (hhead : s.ntscfIn.find? (fun x => x.1 == p) = some (b, a, it)) (ho : o = it.etherOff + 2)
    (hlen : len = beAt it.data (o + 1) 2 % 2048) (hq : q = oct it.data (o + 3))
    (ht : t = { s with ntscfIn := s.ntscfIn.erase (p, a, it) })
    (hu : u = { t with attRx := Sparse.set (fun _ => none) t.attRx a (some ((q + 1) % 256)) }) :
    s.ntscfOp p =
      if oct it.data (o + 1) / 16 % 8 ≠ 0 ∨ it.data.length < o + 12 + len then t.dropFor it.tenant rMalformed
      else (acfSplit 512 (slice it.data (o + 12) len)).foldl
        (fun x m => if m.1 then x.acfTake p a it.tenant it m.2 else x.dropFor it.tenant rMalformed)
        (if Sparse.get (fun _ => none) s.attRx a = none ∨ Sparse.get (fun _ => none) s.attRx a = some q then u
          else u.seqGap a) := by
  subst ho hlen hq hu ht
  simp only [State.ntscfOp, hhead]
  refine ite_congr rfl (fun _ => rfl) fun _ => congrArg (List.foldl _ · _) ?_
  cases Sparse.get (fun _ => none) s.attRx a with
  | none => simp
  | some e => by_cases he : e = oct it.data (it.etherOff + 2 + 3) <;> simp [he]

/-! ### Control messages from expanders -/

/-- An ABORT discards its member's requests that it names and answers with their number (R208). -/
theorem State.abortOp_first {s t : State} {v : Nat} {c : VbCtl} {hit : VbReq → Bool}
    (hfirst : (s.vb v).ctl.find? (fun c => c.op == 2) = some c)
    (ht : t = s.setVb v { s.vb v with ctl := (s.vb v).ctl.erase c }) (hen : t.vbEn v = true)
    (hhit : hit = (fun r => r.member == c.member && (c.all || identWord r.item == c.ident))) :
    s.abortOp v = (t.vbDropReqs v hit).vbTell v (t.vbPos v) [c.member] 3 [((t.vb v).reqs.filter hit).length, 0, 0, 0] c.ident
      (t.vbPos v) := by
  subst hhit
  rw [State.abortOp, hfirst]
  simp only [← ht, hen, Bool.not_true, Bool.false_eq_true, if_false]

/-- A sleeping bus that listens for patterns and is not suppressed (R196, R197). -/
structure State.VbListens (t : State) (v : Nat) : Prop where
  asleep : t.vbAsleep v = true
  armed : t.flag (VBn_WAKE v) VBn_WAKE_EN = true
  patterns : t.flag (VBn_WAKE v) VBn_WAKE_WMODE = false
  unsuppressed : t.flag (VBn_STAT v) VBn_STAT_WAKE_SUPP = false

/-- A WAKE_REQ whose time has come is offered to the wake rule of a bus that listens (R196, R208). -/
theorem State.wakeReqOp_due {s t u : State} {v : Nat} {c : VbCtl} {wakes : Bool}
    (hfirst : (s.vb v).ctl.find? (fun c => c.op == 8) = some c)
    (ht : t = s.setVb v { s.vb v with ctl := (s.vb v).ctl.erase c }) (hen : s.vbEn v = true)
    (hdue : s.vbReached v c.rho = true) (hlistens : t.VbListens v) (hsince : (t.vb v).slp ≤ c.rho)
    (hpair : t.vbPair v c.rho (t.vbRule v) = (wakes, u)) :
    s.wakeReqOp v = if wakes then u.vbWake v 1 c.rho (t.vbRule v) else u := by
  obtain ⟨hasleep, harmed, hpatterns, hfree⟩ := hlistens
  rw [State.wakeReqOp, hfirst]
  simp only [← ht, hen, hdue, hasleep, harmed, hpatterns, hfree, decide_eq_true hsince, hpair, Bool.not_true, Bool.not_false,
    Bool.and_true, Bool.false_eq_true, or_false, if_false, if_true]

/-! ### The statement -/

/-- Settles O24: every clause is the equation of its command's operation under the command's guard. -/
theorem vBusSleepAndExpanderCommandsComplete : Obligations.VBusSleepAndExpanderCommandsComplete := by
  refine ⟨?falseWake, ?sleep, ?idle, ?maxawake, ?supp, ?ntscf, ?abort, ?wake⟩
  case falseWake =>
    exact fun s t u v a e hfw hen he hend hjudged ht hu =>
      next_settle_congr _ _ _ (State.vbFalseWakeOp_elapsed hfw hen he hend hjudged ht hu)
  case sleep =>
    intro s t i v w hup ht hen
    have hop := State.vbSleepOp_enabled hup ht hen
    refine ⟨fun hreq hsleeps => next_settle_congr _ _ _ (State.vbSleepOp_wakes hup ht hen hreq hsleeps),
      fun hreq => next_settle_congr _ _ _ ?_, fun hreq => next_settle_congr _ _ _ ?_⟩
    · rw [hreq] at hop
      exact hop
    · rw [hreq] at hop
      exact hop
  case idle =>
    intro s v hen hawake
    have hop := State.vbIdleOp_awake hen hawake
    refine ⟨fun htime hreached hquiet => next_settle_congr _ _ _ (hop.trans (if_pos ⟨htime, hreached, hquiet⟩)),
      fun htime hlin hreached => next_settle_congr _ _ _ ?_⟩
    exact (hop.trans (if_neg fun h => h.1 htime)).trans (if_pos ⟨hlin, hreached⟩)
  case maxawake =>
    exact fun s v m a hawake hm hlimit hen hend =>
      next_settle_congr _ _ _ (State.vbMaxAwakeOp_elapsed hawake hm hlimit hen hend)
  case supp =>
    exact fun s i v w hup hw => next_settle_congr _ _ _ ((State.hostAccess_of_up hup _).trans (if_pos hw))
  case ntscf =>
    intro s t u p a b o len q it hhead ho hlen hq ht hu
    have hop := State.ntscfOp_head hhead ho hlen hq ht hu
    refine ⟨fun hbad => next_settle_congr _ _ _ (hop.trans (if_pos hbad)),
      fun hversion hwhole e he => next_settle_congr _ _ _ ?_⟩
    subst he
    exact hop.trans (if_neg (by omega))
  case abort =>
    exact fun s t v c hit hfirst ht hen hhit => next_settle_congr _ _ _ (State.abortOp_first hfirst ht hen hhit)
  case wake =>
    exact fun s t u v c wakes hfirst ht hen hdue hasleep harmed hpatterns hfree hsince hpair =>
      next_settle_congr _ _ _
        (State.wakeReqOp_due hfirst ht hen hdue ⟨hasleep, harmed, hpatterns, hfree⟩ hsince hpair)

end Sys2Proof.Machine

/-! ## Spill and recall, slots of a group, survey records (R260 to R265, R271, R278) -/

namespace Sys2Proof.Machine

/-! ### Spill and recall -/

/-- A spilling panel, with no recall to do first, puts the frame it picks of its victim queue on its way (R260, R261). -/
theorem State.spillFrameOp_picked {s : State} {p k i o : Nat} {x : QEnt}
    (hspilling : s.flag (CORE_PNLp_STAT p) CORE_PNLp_STAT_SPILLING = true)
    (hmark : s.fld (CORE_PNLp_SPILLCFG p) CORE_PNLp_SPILLCFG_SPILL_MARK ≠ 0) (hrecall : s.recallDue p = false)
    (hvictim : s.spillVictim p (s.fld (CORE_PNLp_RECALL p) CORE_PNLp_RECALL_RECALL_MARK) = some k)
    (hpick : s.spillPick p k = some (i, o, x)) :
    s.spillFrameOp p = (s.setQueue (.port (k / 32) (k % 32))
      (setAt (s.queue k) i { x with place := 1, item := { x.item with spilled := true } })).deepTake
        (panelDie p) x.item.tenant x.cells := by
  simp only [State.spillFrameOp, hspilling, hmark, hrecall, hvictim, hpick, Bool.not_true, Bool.false_eq_true, if_false]

/-- The first frame of the panel whose spill write is under way becomes deep, and its fast cells are freed (R261). -/
theorem State.spillDoneOp_first {s : State} {p k i : Nat} {x : QEnt} (hfirst : s.firstAt p 1 = some (k, i, x)) :
    s.spillDoneOp p =
      ((((s.setQueue (.port (k / 32) (k % 32)) (setAt (s.queue k) i { x with place := 2 })).count (CORE_PNLp_CNTc p 0)).obs
        p 0x022 x.cells (some x.item.tenant) none (some x.dest.cls)).releaseChain x.chain).obsDie (panelDie p) 0x071
        (256 * x.cells) := by
  simp only [State.spillDoneOp, hfirst]

/-- The oldest spilled frame of the queue that needs a recall takes its cells when they are free (R262). -/
theorem State.recallFrameOp_roomy {s : State} {p k i o : Nat} {x : QEnt} (hpick : s.recallPick p = some (k, i, o, x))
    (hroom : x.cells ≤ s.sharedFree p) :
    s.recallFrameOp p = ((s.setQueue (.port (k / 32) (k % 32)) (setAt (s.queue k) i { x with place := 3 })).setShared p
      (s.sharedFree p - x.cells)).showRecall p := by
  simp only [State.recallFrameOp, hpick, if_neg (Nat.not_lt.mpr hroom)]

/-- A recall that ends without an error gives the frame a chain of fast cells (R262). -/
theorem State.recallDoneOp_good {s t : State} {p k i : Nat} {x : QEnt} (hfirst : s.firstAt p 3 = some (k, i, x))
    (ht : t = (s.deepFree (panelDie p) x.item.tenant x.cells).obsDie (panelDie p) 0x070 (256 * x.cells)) :
    s.recallDoneOp p false =
      (((State.setQueue { (t.newChain p 1 x.cells 0).2 with chains := Sparse.erase (t.newChain p 1 x.cells 0).2.chains x.chain }
        (.port (k / 32) (k % 32)) (setAt (s.queue k) i { x with place := 0, chain := t.chainCtr })).count
        (CORE_PNLp_CNTc p 1)).showRecall p).obs p 0x023 x.cells (some x.item.tenant) none
        (some (Dest.cls (.port (k / 32) (k % 32)))) := by
  simp only [State.recallDoneOp, hfirst, Bool.false_eq_true, if_false, ← ht, State.newChain]

/-- A recall that ends with an error discards the frame (R263). -/
theorem State.recallDoneOp_bad {s t u v : State} {p k i : Nat} {x : QEnt} (hfirst : s.firstAt p 3 = some (k, i, x))
    (ht : t = (s.deepFree (panelDie p) x.item.tenant x.cells).obsDie (panelDie p) 0x070 (256 * x.cells))
    (hu : u = (t.setQueue (.port (k / 32) (k % 32)) ((s.queue k).eraseIdx i)).setShared p
      ((t.setQueue (.port (k / 32) (k % 32)) ((s.queue k).eraseIdx i)).sharedFree p + x.cells))
    (hv : v = u.dropAt x.item (.port (k / 32) (k % 32)) rMalformed) :
    s.recallDoneOp p true =
      ((((State.tsqDiscard { v with chains := Sparse.erase v.chains x.chain } (k / 32) x.item).count
        (CORE_PNLp_CNTc p 3)).setFld CORE_EVT CORE_EVT_SPILL_ERR 1).showRecall p).noteIdle (k / 32) := by
  simp only [State.recallDoneOp, hfirst, if_true, ← ht, ← hu, ← hv]

/-- The oldest cells that wait to be free become free (R265). -/
theorem State.deepFreedOp_cons {s : State} {die tenant c : Nat} {rest : List (Nat × Nat × Nat)}
    (hwait : s.deepFreeing = (die, tenant, c) :: rest) :
    s.deepFreedOp = State.deepFree { s with deepFreeing := rest } die tenant c := by
  simp only [State.deepFreedOp, hwait]

/-! ### The active set of a group -/

theorem State.lagMask_lt (s : State) (a w : Nat) : s.lagMask a w < 2 ^ 64 := by
  have hlow := (s.rd (LAG a + 4 * (w + 1))).isLt
  have hhigh := (s.rd (LAG a + 4 * w)).isLt
  simp only [State.lagMask]
  omega

/-- A mask shows the two words it stands in only. -/
theorem State.lagMask_wr_other (s : State) {a w b : Nat} (v : Word) (hhigh : LAG a + 4 * w ≠ b)
    (hlow : LAG a + 4 * (w + 1) ≠ b) : (s.wr b v).lagMask a w = s.lagMask a w := by
  rw [State.lagMask, State.lagMask, State.rd_wr_other _ _ _ _ hlow, State.rd_wr_other _ _ _ _ hhigh]

theorem State.lagMask_setFld_other (s : State) {a w b : Nat} (f : Fld) (v : Nat) (hhigh : LAG a + 4 * w ≠ b)
    (hlow : LAG a + 4 * (w + 1) ≠ b) : (s.setFld b f v).lagMask a w = s.lagMask a w :=
  State.lagMask_wr_other s _ hhigh hlow

theorem State.lagMask_setLagActive (s : State) (a : Nat) {m : Nat} (hm : m < 2 ^ 64) :
    (s.setLagActive a m).lagMask a 4 = m := by
  simp only [State.lagMask, State.setLagActive, State.rd_wr_same, State.rd_wr_other _ _ _ _ (show LAG a + 16 ≠ LAG a + 20 by omega),
    BitVec.toNat_ofNat, Nat.shiftRight_eq_div_pow]
  omega

/-- The slots of a group stand apart from its active mask. -/
theorem State.lagMask_setLagSlot (s : State) (a k i : Nat) : (s.setLagSlot a k i).lagMask a 4 = s.lagMask a 4 :=
  State.lagMask_setFld_other s _ _ (by omega) (by omega)

theorem State.lagMask_lagDeal (s : State) (a : Nat) (slots : List Nat) : (s.lagDeal a slots).lagMask a 4 = s.lagMask a 4 := by
  rw [State.lagDeal]
  split
  · rfl
  · refine List.foldlRecOn (motive := fun q : State × Nat => q.1.lagMask a 4 = s.lagMask a 4) slots _ rfl
      fun q hq k _ => ?_
    rw [State.lagMask_setLagSlot, hq]

/-- A bit that is set goes out when its power is taken away. -/
theorem testBit_sub_two_pow_self {m i : Nat} (h : m.testBit i = true) : (m - 2 ^ i).testBit i = false := by
  have hodd : m / 2 ^ i % 2 = 1 := by simpa [Nat.testBit_eq_decide_div_mod_eq] using h
  have hdiv : (m - 2 ^ i) / 2 ^ i = m / 2 ^ i - 1 := by simpa using Nat.sub_mul_div m (2 ^ i) 1
  simp only [Nat.testBit_eq_decide_div_mod_eq, hdiv, decide_eq_false_iff_not]
  omega

/-! ### A member that leaves, a slot that moves -/

/-- An active member that is not fit leaves the mask, and its slots are dealt to the rest (R271). -/
theorem State.lagLeaveOp_unfit {s : State} {a i : Nat} (hvalid : s.lagValid a = true)
    (hactive : (s.lagMask a 4).testBit i = true) (hunfit : s.lagFit a i = false) :
    s.lagLeaveOp a i = ((s.setLagActive a (s.lagMask a 4 - 2 ^ i)).setFld CORE_EVT CORE_EVT_LAG_CHG 1).lagDeal a
      ((List.range 256).filter (fun k => s.lagSlot a k == i)) := by
  simp only [State.lagLeaveOp, hvalid, hactive, hunfit, Bool.not_true, Bool.or_false, Bool.false_eq_true, if_false]

/-- A member that has left is not active: neither the event bit nor the dealt slots touch the mask. -/
theorem State.lagLeaveOp_inactive {s : State} {a i : Nat} (hvalid : s.lagValid a = true)
    (hactive : (s.lagMask a 4).testBit i = true) (hunfit : s.lagFit a i = false) :
    ((s.lagLeaveOp a i).lagMask a 4).testBit i = false := by
  have hevt (k : Nat) : LAG a + k ≠ CORE_EVT := by
    simp only [LAG, CORE_EVT]
    omega
  rw [State.lagLeaveOp_unfit hvalid hactive hunfit, State.lagMask_lagDeal, State.lagMask_setFld_other _ _ _ (hevt _) (hevt _),
    State.lagMask_setLagActive _ _ (Nat.lt_of_le_of_lt (Nat.sub_le _ _) (s.lagMask_lt a 4))]
  exact testBit_sub_two_pow_self hactive

/-- A member that leaves has its queues emptied (R116, R271). -/
theorem State.lagLeaveFullOp_unfit {s : State} {a i : Nat} (hvalid : s.lagValid a = true)
    (hactive : (s.lagMask a 4).testBit i = true) (hunfit : s.lagFit a i = false) :
    s.lagLeaveFullOp a i = (s.lagLeaveOp a i).lagFlush (s.lagMember a i) := by
  simp only [State.lagLeaveFullOp, hactive, State.lagLeaveOp_inactive hvalid hactive hunfit, Bool.not_true, Bool.or_false,
    Bool.false_eq_true, if_false]

/-- The highest slot of the largest holder moves to the smallest once nothing it carried is in flight (R271). -/
theorem State.lagMoveOp_quiet {s : State} {a most least k : Nat} (hvalid : s.lagValid a = true)
    (hends : s.lagEnds a = some (most, least)) (hmore : s.lagHeld a least + 1 < s.lagHeld a most)
    (hlast : ((List.range 256).filter (fun k => s.lagSlot a k == most)).getLast? = some k) (hquiet : s.lagQuiet a k = true) :
    s.lagMoveOp a = s.setLagSlot a k least := by
  simp only [State.lagMoveOp, hvalid, hends, hlast, hquiet, if_neg (Nat.not_le.mpr hmore), Bool.not_true, Bool.false_eq_true,
    if_false, if_true]

/-! ### The survey ring -/

/-- The registers of a panel's ring half: its own die's write pointer and read pointer (R278). -/
theorem svPointers_of_panel {p wp rp : Nat}
    (hhalf : p < 8 ∧ wp = CORE_SVWPTR0 ∧ rp = CORE_SVRPTR0 ∨ 8 ≤ p ∧ p < 16 ∧ wp = CORE_SVWPTR1 ∧ rp = CORE_SVRPTR1) :
    (if panelDie p = 0 then CORE_SVWPTR0 else CORE_SVWPTR1) = wp ∧
      (if panelDie p = 0 then CORE_SVRPTR0 else CORE_SVRPTR1) = rp := by
  obtain ⟨hp, rfl, rfl⟩ | ⟨hp, -, rfl, rfl⟩ := hhalf
  · have hdie : panelDie p = 0 := Nat.div_eq_of_lt hp
    exact ⟨if_pos hdie, if_pos hdie⟩
  · have hdie : panelDie p ≠ 0 := Nat.ne_of_gt (Nat.div_pos hp (by decide))
    exact ⟨if_neg hdie, if_neg hdie⟩

/-- With the survey enabled and room in the ring half, or SV_WRAP set, the oldest record goes to the write pointer's
place (R278). -/
theorem State.surveyRecordOp_room {s t : State} {p w wp rp : Nat} {rcd : List Byte} {rest : List (List Byte)}
    (hhalf : p < 8 ∧ wp = CORE_SVWPTR0 ∧ rp = CORE_SVRPTR0 ∨ 8 ≤ p ∧ p < 16 ∧ wp = CORE_SVWPTR1 ∧ rp = CORE_SVRPTR1)
    (hfifo : Sparse.get (fun _ => []) s.svFifo p = rcd :: rest) (hen : s.flag CORE_CTRL CORE_CTRL_SV_EN = true)
    (hw : w = s.fld wp CORE_SVWPTR0_WPTR)
    (hroom : s.flag CORE_CTRL CORE_CTRL_SV_WRAP = true ∨ (w + 1) % 2 ^ 22 ≠ s.fld rp CORE_SVRPTR0_RPTR)
    (ht : t = (State.setFld { s with svFifo := Sparse.set (fun _ => []) s.svFifo p rest
                                     svRing := Sparse.set (fun _ => []) s.svRing (2 ^ 22 * (p / 8) + w) rcd }
        wp CORE_SVWPTR0_WPTR (w + 1)).memWrote 4 (surveyOctet (2 ^ 22 * (p / 8) + w)) 128) :
    s.surveyRecordOp p = if w + 1 = 2 ^ 22 then t.setFld wp CORE_SVWPTR0_WRAPPED 1 else t := by
  obtain ⟨hwp, hrp⟩ := svPointers_of_panel hhalf
  have hnotOff : ¬ (!s.flag CORE_CTRL CORE_CTRL_SV_EN) = true := by simp [hen]
  have hnotFull : ¬ (!s.flag CORE_CTRL CORE_CTRL_SV_WRAP && (w + 1) % 2 ^ 22 == s.fld rp CORE_SVRPTR0_RPTR) = true := by
    rw [Bool.and_eq_true, Bool.not_eq_true', beq_iff_eq]
    rintro ⟨hstops, hfull⟩
    exact hroom.elim (fun hwrap => by simp [hwrap] at hstops) (fun hfree => hfree hfull)
  subst hw ht
  simp only [State.surveyRecordOp, hfifo, hwp, hrp]
  exact (if_neg hnotOff).trans (if_neg hnotFull)

/-! ### The statement -/

/-- Settles O27: every clause is the equation of its command's operation in the case that the clause describes. -/
theorem spillAndRecallCommandsComplete : Obligations.SpillAndRecallCommandsComplete := by
  refine ⟨?spill, ?written, ?recallTaken, ?recallDone, ?freed, ?move, ?leave, ?survey⟩
  case spill =>
    exact fun s p k i o x hspilling hmark hrecall hvictim hpick =>
      next_settle_congr _ _ _ (State.spillFrameOp_picked hspilling hmark hrecall hvictim hpick)
  case written => exact fun s p k i x hfirst => next_settle_congr _ _ _ (State.spillDoneOp_first hfirst)
  case recallTaken =>
    exact fun s p k i o x hpick hroom => next_settle_congr _ _ _ (State.recallFrameOp_roomy hpick hroom)
  case recallDone =>
    exact fun s t u v p k i x hfirst ht hu hv => ⟨next_settle_congr _ _ _ (State.recallDoneOp_good hfirst ht),
      next_settle_congr _ _ _ (State.recallDoneOp_bad hfirst ht hu hv)⟩
  case freed => exact fun s die tenant c rest hwait => next_settle_congr _ _ _ (State.deepFreedOp_cons hwait)
  case move =>
    exact fun s a most least k hvalid hends hmore hlast hquiet =>
      next_settle_congr _ _ _ (State.lagMoveOp_quiet hvalid hends hmore hlast hquiet)
  case leave =>
    intro s a i _ hvalid hactive hunfit
    refine next_settle_congr _ _ _ ((State.lagLeaveFullOp_unfit hvalid hactive hunfit).trans ?_)
    rw [State.lagLeaveOp_unfit hvalid hactive hunfit]
  case survey =>
    exact fun s t p w wp rp rcd rest hhalf hfifo hen hw hroom ht =>
      next_settle_congr _ _ _ (State.surveyRecordOp_room hhalf hfifo hen hw hroom ht)

end Sys2Proof.Machine

/-! ## Freshness entries (R307)

A change of a VALUE tells the twin of it, which moves words of the Seam only; so the words of the entries are those that
the change itself writes. -/

namespace Sys2Proof.Machine

/-- Of the register words a record for the twin moves two counters and the events of the Seam only. -/
theorem State.mirror_rd (s : State) (kind : Nat) (values : List Nat) {a : Nat} (hsent : a ≠ SEAM_CNTc 0)
    (hlost : a ≠ SEAM_CNTc 5) (hevt : a ≠ SEAM_EVT) : (s.mirror kind values).rd a = s.rd a := by
  have hsend : (s.mirrorSend kind values).rd a = s.rd a := by
    rw [State.mirrorSend, State.mirrorEmit, State.rd_emitOut, State.count, State.rd_wr_other _ _ _ _ hsent]
    rfl
  have hdrop : ((s.count (SEAM_CNTc 5)).setFld SEAM_EVT SEAM_EVT_MIRROR_DROP 1).rd a = s.rd a := by
    rw [State.rd_setFld_other _ _ _ _ _ hevt, State.count, State.rd_wr_other _ _ _ _ hlost]
  unfold State.mirror
  split_ifs
  exacts [rfl, hsend, rfl, hdrop, rfl]

/-- The freshness entries stand above the Seam's registers. -/
theorem State.mirror_rd64_fresh (s : State) (kind : Nat) (values : List Nat) (f : Nat) :
    (s.mirror kind values).rd64 (FRESH f) = s.rd64 (FRESH f) := by
  have hword (a : Nat) (ha : FRESH f ≤ a) : (s.mirror kind values).rd a = s.rd a := by
    apply State.mirror_rd <;> · simp only [FRESH, SEAM_CNTc, SEAM_EVT] at *; omega
  rw [State.rd64, State.rd64, hword _ (Nat.le_refl _), hword _ (Nat.le_add_right _ _)]

theorem State.freshSet_rd64 (s : State) (f : Nat) {v : Nat} (hv : v < 2 ^ 64) : (s.freshSet f v).rd64 (FRESH f) = v := by
  rw [State.freshSet, State.mirror_rd64_fresh, State.rd64_wr64 _ _ hv]

theorem State.freshSet_rd64_other (s : State) {f g : Nat} (v : Nat) (h : g ≠ f) :
    (s.freshSet f v).rd64 (FRESH g) = s.rd64 (FRESH g) := by
  have hapart : (FRESH g ≠ FRESH f ∧ FRESH g ≠ FRESH f + 4) ∧ FRESH g + 4 ≠ FRESH f := by
    simp only [FRESH]
    omega
  rw [State.freshSet, State.mirror_rd64_fresh, State.rd64_wr64_other _ _ hapart.1 hapart.2]

theorem State.freshRaise_greater {s : State} {f v : Nat} (h : s.rd64 (FRESH f) < v) :
    s.freshRaise f v = (true, s.freshSet f v) := if_pos h

theorem State.freshRaise_refused {s : State} {f v : Nat} (h : v ≤ s.rd64 (FRESH f)) : s.freshRaise f v = (false, s) :=
  if_neg (Nat.not_lt.mpr h)

theorem State.freshInc_below {s : State} {f : Nat} (h : s.rd64 (FRESH f) ≠ 2 ^ 64 - 1) :
    s.freshInc f = (true, s.freshSet f (s.rd64 (FRESH f) + 1)) := if_neg h

theorem State.freshInc_last {s : State} {f : Nat} (h : s.rd64 (FRESH f) = 2 ^ 64 - 1) : s.freshInc f = (false, s) := if_pos h

/-- A raise of one entry leaves the VALUE of every other. -/
theorem State.freshRaise_rd64_other (s : State) {f g : Nat} (v : Nat) (h : g ≠ f) :
    (s.freshRaise f v).2.rd64 (FRESH g) = s.rd64 (FRESH g) := by
  by_cases hv : s.rd64 (FRESH f) < v
  · rw [State.freshRaise_greater hv, State.freshSet_rd64_other _ _ h]
  · rw [State.freshRaise_refused (Nat.not_lt.mp hv)]

/-- An increment of one entry leaves the VALUE of every other. -/
theorem State.freshInc_rd64_other (s : State) {f g : Nat} (h : g ≠ f) :
    (s.freshInc f).2.rd64 (FRESH g) = s.rd64 (FRESH g) := by
  by_cases hv : s.rd64 (FRESH f) = 2 ^ 64 - 1
  · rw [State.freshInc_last hv]
  · rw [State.freshInc_below hv, State.freshSet_rd64_other _ _ h]

/-- Settles O58: each operation either changes nothing or sets the VALUE of its own entry. -/
theorem freshnessRaiseAndIncrement : Obligations.FreshnessRaiseAndIncrement := by
  intro s f v hv
  refine ⟨?raised, State.freshRaise_refused, ?incremented, State.freshInc_last, ?others⟩
  case raised =>
    intro hgreater
    rw [State.freshRaise_greater hgreater]
    exact ⟨rfl, State.freshSet_rd64 s f hv⟩
  case incremented =>
    intro hbelow
    rw [State.freshInc_below (Nat.ne_of_lt hbelow)]
    exact ⟨rfl, State.freshSet_rd64 s f (by omega)⟩
  case others => exact fun g hg => ⟨State.freshRaise_rd64_other s v hg, State.freshInc_rd64_other s hg⟩

end Sys2Proof.Machine

/-! ## The operations of a stitch queue (R302)

The four pointers are fields of two words, and the slots of the ring are words apart from one another; each operation is
read off through what it leaves in those. -/

namespace Sys2Proof.Machine

/-! ### The pointers -/

theorem getF_lt (w : Word) (f : Fld) : getF w f < 2 ^ Fld.width f := Nat.mod_lt _ (by positivity)

theorem State.sqWr_lt (s : State) (q : Nat) : s.sqWr q < 65536 := getF_lt _ SQUEUE_WR

theorem State.sqRd_lt (s : State) (q : Nat) : s.sqRd q < 65536 := getF_lt _ SQUEUE_RD

theorem State.sqMark_lt (s : State) (q : Nat) : s.sqMark q < 65536 := getF_lt _ SQUEUE_MARK

/-- Nothing is unread when the read pointer has come to the write pointer, and only then. -/
theorem State.sqUnread_eq_zero_iff (s : State) (q : Nat) : s.sqUnread q = 0 ↔ s.sqRd q = s.sqWr q := by
  have hw := s.sqWr_lt q
  have hr := s.sqRd_lt q
  rw [State.sqUnread]
  omega

/-- A read pointer that is set leaves the other three. -/
theorem State.setRd_pointers (s : State) (q p : Nat) :
    (s.setFld (SQUEUE q + 8) SQUEUE_RD p).sqRd q = p % 65536 ∧ (s.setFld (SQUEUE q + 8) SQUEUE_RD p).sqWr q = s.sqWr q ∧
      (s.setFld (SQUEUE q + 8) SQUEUE_RD p).sqRel q = s.sqRel q ∧ (s.setFld (SQUEUE q + 8) SQUEUE_RD p).sqMark q = s.sqMark q :=
  ⟨State.fld_setFld_same _ _ SQUEUE_RD p (by decide) (by decide),
    State.fld_setFld_apart _ _ _ _ _ (by decide) (by decide) (by decide) (by decide),
    State.fld_setFld_other _ _ _ _ _ _ (by omega), State.fld_setFld_other _ _ _ _ _ _ (by omega)⟩

/-- A mark that is set leaves the other three. -/
theorem State.setMark_pointers (s : State) (q p : Nat) :
    (s.setFld (SQUEUE q + 12) SQUEUE_MARK p).sqMark q = p % 65536 ∧
      (s.setFld (SQUEUE q + 12) SQUEUE_MARK p).sqRel q = s.sqRel q ∧
      (s.setFld (SQUEUE q + 12) SQUEUE_MARK p).sqRd q = s.sqRd q ∧ (s.setFld (SQUEUE q + 12) SQUEUE_MARK p).sqWr q = s.sqWr q :=
  ⟨State.fld_setFld_same _ _ SQUEUE_MARK p (by decide) (by decide),
    State.fld_setFld_apart _ _ _ _ _ (by decide) (by decide) (by decide) (by decide),
    State.fld_setFld_other _ _ _ _ _ _ (by omega), State.fld_setFld_other _ _ _ _ _ _ (by omega)⟩

/-- A release sets REL and MARK and leaves RD and WR. -/
theorem State.sqFree_pointers (s : State) (q p : Nat) :
    (s.sqFree q p).sqRel q = p % 65536 ∧ (s.sqFree q p).sqMark q = p % 65536 ∧ (s.sqFree q p).sqRd q = s.sqRd q ∧
      (s.sqFree q p).sqWr q = s.sqWr q := by
  obtain ⟨hmark, hrel, hrd, hwr⟩ := (s.setFld (SQUEUE q + 12) SQUEUE_REL p).setMark_pointers q p
  refine ⟨hrel.trans ?_, hmark, hrd.trans ?_, hwr.trans ?_⟩
  · exact State.fld_setFld_same _ _ SQUEUE_REL p (by decide) (by decide)
  · exact State.fld_setFld_other _ _ _ _ _ _ (by omega)
  · exact State.fld_setFld_other _ _ _ _ _ _ (by omega)

/-! ### The slots -/

/-- Words stored at a row of addresses leave every other address. -/
theorem State.rd_storeRow_other (s : State) (addr : Nat → Nat) (val : Nat → Word) {a : Nat} (n : Nat)
    (h : ∀ k < n, a ≠ addr k) : ((List.range n).foldl (fun t k => t.wr (addr k) (val k)) s).rd a = s.rd a := by
  induction n with
  | zero => rfl
  | succ n ih =>
    rw [List.range_succ, List.foldl_append, List.foldl_cons, List.foldl_nil, State.rd_wr_other _ _ _ _ (h n (Nat.lt_succ_self n)),
      ih fun k hk => h k (Nat.lt_succ_of_lt hk)]

/-- Words stored at a row of addresses that differ are read back there. -/
theorem State.rd_storeRow_same (s : State) {addr : Nat → Nat} (val : Nat → Word) (hinj : Function.Injective addr) {n k : Nat}
    (hk : k < n) : ((List.range n).foldl (fun t k => t.wr (addr k) (val k)) s).rd (addr k) = val k := by
  induction n with
  | zero => exact absurd hk (Nat.not_lt_zero k)
  | succ n ih =>
    rw [List.range_succ, List.foldl_append, List.foldl_cons, List.foldl_nil, State.rd_wr]
    split
    · next heq => rw [hinj heq]
    · next hne => exact ih (Nat.lt_of_le_of_ne (Nat.lt_succ_iff.mp hk) fun heq => hne (congrArg addr heq))

theorem State.sqSlot_injective (s : State) (q p : Nat) : Function.Injective (s.sqSlot q p) := by
  intro j k h
  simp only [State.sqSlot] at h
  omega

/-! ### put and get -/

/-- Word k of an item as put stores it: bit 31 of word 0 is the queue's own. -/
def sqPutWord (item : List Word) (k : Nat) : Word := if k = 0 then item.getD 0 0 ||| 0x80000000#32 else item.getD k 0

/-- The words of an item stored in the slot of the write pointer. -/
def State.sqStored (s : State) (q : Nat) (item : List Word) : State :=
  (List.range (s.sqBytes q / 4)).foldl (fun t k => t.wr (s.sqSlot q (s.sqWr q) k) (sqPutWord item k)) s

theorem State.sqPut_roomy {s : State} {q : Nat} (item : List Word) (h : s.sqHeld q < s.sqDepth q) :
    s.sqPut q item = some (((s.sqStored q item).memWrote 0 (s.sqSlot q (s.sqWr q) 0) (4 * (s.sqBytes q / 4))).setFld
      (SQUEUE q + 8) SQUEUE_WR (s.sqWr q + 1)) := if_neg (Nat.not_le.mpr h)

theorem State.sqPut_full {s : State} {q : Nat} (item : List Word) (h : s.sqDepth q ≤ s.sqHeld q) :
    s.sqPut q item = none := if_pos h

/-- get of a queue with an unread item answers it and moves RD on; with AUTOREL it releases it too. -/
theorem State.sqGet_unread {s : State} {q : Nat} (h : s.sqRd q ≠ s.sqWr q) :
    s.sqGet q = some (s.sqItem q, if s.flag (SQUEUE q) SQUEUE_AUTOREL = true then
      (s.setFld (SQUEUE q + 8) SQUEUE_RD (s.sqRd q + 1)).sqFree q ((s.sqRd q + 1) % 65536)
      else s.setFld (SQUEUE q + 8) SQUEUE_RD (s.sqRd q + 1)) := if_neg (mt (s.sqUnread_eq_zero_iff q).mp h)

theorem State.sqGet_empty {s : State} {q : Nat} (h : s.sqRd q = s.sqWr q) : s.sqGet q = none :=
  sqGet_none ((s.sqUnread_eq_zero_iff q).mpr h)

/-- The state that a get leaves. -/
theorem State.sqGet_pointers {s : State} {q : Nat} (h : s.sqRd q ≠ s.sqWr q) : ∃ t : State, s.sqGet q = some (s.sqItem q, t) ∧
    t.sqRd q = (s.sqRd q + 1) % 65536 ∧ t.sqWr q = s.sqWr q ∧
    (s.flag (SQUEUE q) SQUEUE_AUTOREL = true → t.sqRel q = t.sqRd q ∧ t.sqMark q = t.sqRd q) ∧
    (s.flag (SQUEUE q) SQUEUE_AUTOREL = false → t.sqRel q = s.sqRel q ∧ t.sqMark q = s.sqMark q) := by
  obtain ⟨hrd, hwr, hrel, hmark⟩ := s.setRd_pointers q (s.sqRd q + 1)
  refine ⟨_, State.sqGet_unread h, ?_⟩
  cases hauto : s.flag (SQUEUE q) SQUEUE_AUTOREL
  case false => exact ⟨hrd, hwr, nofun, fun _ => ⟨hrel, hmark⟩⟩
  case true =>
    obtain ⟨hrel', hmark', hrd', hwr'⟩ :=
      (s.setFld (SQUEUE q + 8) SQUEUE_RD (s.sqRd q + 1)).sqFree_pointers q ((s.sqRd q + 1) % 65536)
    rw [Nat.mod_mod] at hrel' hmark'
    have hmoved := hrd'.trans hrd
    exact ⟨hmoved, hwr'.trans hwr, fun _ => ⟨hrel'.trans hmoved.symm, hmark'.trans hmoved.symm⟩, nofun⟩

/-! ### The host's end -/

/-- What a GET of the host with its end answers: the item of the queue, or the idle item, into the snapshot. -/
theorem State.hostGet_end {s t : State} {q : Nat} {l : List Word} (i : Iface) (hend : s.hostEnd q 2 = true)
    (hget : (s.sqGet q).getD ([], s) = (l, t)) :
    s.hostGet i q =
      ((List.range 32).foldl (fun u k => u.latch i (SQ_ITEM q k) (l.getD k 0)) t).answer i (SQ_GET q) (l.getD 0 0) := by
  simp only [State.hostGet, hend, hget, Bool.not_true, Bool.false_eq_true, if_false]

/-! ### The statement -/

/-- Settles O54: put is a row of stores and a step of WR, and the other operations set pointers that are fields apart. -/
theorem stitchQueueOperations : Obligations.StitchQueueOperations := by
  intro s q
  refine ⟨?put, ?get, ?empty, ?mark, ?rewind, ?release⟩
  case put =>
    refine fun item => ⟨fun hroom => ⟨s.sqStored q item, State.sqPut_roomy item hroom, ?stored, ?frame⟩,
      State.sqPut_full item, ?bit⟩
    case stored => exact fun k hk => State.rd_storeRow_same s (sqPutWord item) (s.sqSlot_injective q (s.sqWr q)) hk
    case frame => exact fun a ha => State.rd_storeRow_other s _ _ _ ha
    case bit => simp
  case get => exact State.sqGet_pointers
  case empty =>
    intro h
    refine ⟨State.sqGet_empty h, fun i hend => ?_⟩
    rw [State.hostGet_end i hend (by rw [State.sqGet_empty h, Option.getD_none])]
    exact List.mem_cons_self
  case mark =>
    obtain ⟨hmark, hrel, hrd, -⟩ := s.setMark_pointers q (s.sqRd q)
    exact ⟨hmark.trans (Nat.mod_eq_of_lt (s.sqRd_lt q)), hrd, hrel⟩
  case rewind =>
    obtain ⟨hrd, hwr, -, hmark⟩ := s.setRd_pointers q (s.sqMark q)
    exact ⟨hrd.trans (Nat.mod_eq_of_lt (s.sqMark_lt q)), hmark, hwr⟩
  case release =>
    obtain ⟨hrel, hmark, hrd, -⟩ := s.sqFree_pointers q (s.sqRd q)
    rw [Nat.mod_eq_of_lt (s.sqRd_lt q)] at hrel hmark
    exact ⟨hrel, hmark, hrd⟩

end Sys2Proof.Machine

/-! ## Stitch engines and their host registers (R286, R288, R290, R292, R294, R301, R305, R307, R310)

Each command's effect is the equation of its operation in the case that the clause describes. -/

namespace Sys2Proof.Machine

/-! ### Dispatch and start -/

/-- An item for a program that is valid and runs joins the queue of the engine picked for it, or is discarded where that
has no room (R290, R291). -/
theorem State.dispatchOp_picked {s t : State} {r : WorkReq} {rest : List WorkReq} {l : List Word} {e : Nat}
    (hin : s.workIn = r :: rest) (ht : t = State.freeHeld { s with workIn := rest } r.held) (hl : l = t.progEntry r.prog)
    (hvalid : getB (entWord l 0) PROGRAM_VALID = true) (hruns : getB (entWord l 0) PROGRAM_SUSPENDED = false)
    (hpick : pickEngine (entMask l) r.item.hash r.item.here = some e) :
    s.dispatchOp =
      if 32 ≤ (t.eng e).count ∨ 32768 < (t.eng e).octets + r.item.data.length then
        ((t.dropItem r.item rStitch).engCount e 3).stEvent PANEL_STEVT_INQ_FULL
      else ((t.crossed r.item (e / 8)).setEng e { t.eng e with inq := (t.eng e).inq ++
        [{ item := r.item, prog := r.prog, desc := r.desc, kind := r.kind, entry := l, handed := t.mer }] }).engShow e := by
  subst hl
  simp only [State.dispatchOp, hin, ← ht, hvalid, hruns, hpick, Bool.not_true, Bool.or_self, Bool.false_eq_true, if_false]

/-- An idle engine starts the oldest item of its queue at ENTRY, and the start is counted (R292, R294). -/
theorem State.workStartOp_idle {s t u : State} {e : Nat} {w x : StWork} {rest : List StWork} (hidle : (s.eng e).run = none)
    (hinq : (s.eng e).inq = w :: rest) (ht : t = (s.setEng e { s.eng e with inq := rest }).engShow e)
    (hruns : t.flag (PROGRAM w.prog) PROGRAM_SUSPENDED = false) (hx : x = { w with item := w.item.mark 4 t.mer })
    (hu : u = (((t.setEng e { s.eng e with inq := rest, run := some (x.start t.mer) }).engShow e).engCount e 0).count
      (PROGRAM x.prog + 48)) :
    s.workStartOp e =
      (u.obs (e / 8) 0x043 1 (tenant := some x.item.tenant) (master := some e)).obs (e / 8) 0x042 1 (master := some e) := by
  subst hu hx
  simp only [hidle] at ht
  simp only [State.workStartOp, hidle, hinq, ← ht, hruns, Bool.false_eq_true, if_false]

/-! ### Programs -/

/-- A commit of a program's entry that R286 allows is taken with SUSPENDED at 0; another is an ownership error. -/
theorem State.progCommitOp_up {s : State} (i : Iface) {p : Nat} {w : Word} {l : List Word} (hup : s.hostUp = true)
    (hl : l = (List.range 12).map (fun k => s.newWord (ifaceNum i) (PROGRAM p) 0 k w)) :
    s.progCommitOp i p w =
      if s.progOk p l = true then
        (s.commitEntry (ifaceNum i) ⟨0x0A000000, 64, 4096, 1, 1, 12, 0, false⟩ (PROGRAM p) w).setFld (PROGRAM p) PROGRAM_SUSPENDED 0
      else s.stEvent PANEL_STEVT_OWN_ERR := by
  subst hl
  rw [State.progCommitOp, State.hostAccess_of_up hup]
  exact apply_ite Prod.snd _ _ _

/-- Some valid program of engine e holds the instruction word k. -/
def State.imemHeld (s : State) (e k : Nat) : Bool :=
  s.validProgs.any (fun p => (entMask (s.progEntry p)).testBit e && decide (entCodeBase (s.progEntry p) ≤ k) &&
    decide (k < entCodeBase (s.progEntry p) + entCodeLen (s.progEntry p)))

theorem State.imemHeld_iff (s : State) (e k : Nat) : s.imemHeld e k = true ↔
    ∃ p ∈ s.validProgs, (entMask (s.progEntry p)).testBit e = true ∧ entCodeBase (s.progEntry p) ≤ k ∧
      k < entCodeBase (s.progEntry p) + entCodeLen (s.progEntry p) := by
  simp only [State.imemHeld, List.any_eq_true, Bool.and_eq_true, decide_eq_true_eq, and_assoc]

/-- An instruction word is written where no valid program holds it (R288). -/
theorem State.imemWriteOp_up {s : State} (i : Iface) (e k : Nat) (w : Word) (hup : s.hostUp = true) :
    s.imemWriteOp i e k w = if s.imemHeld e k = true then s.stEvent PANEL_STEVT_OWN_ERR
      else (s.wr (IMEM e k) w).memWrote 0 (IMEM e k) 4 := by
  rw [State.imemWriteOp, State.hostAccess_of_up hup]
  exact apply_ite Prod.snd _ _ _

/-! ### The host's stitch queues -/

/-- The commit of a queue whose ring lies in its memory and meets no other range empties it (R301). -/
theorem State.sqCommitOp_apart {s t : State} {i : Iface} {q : Nat} {w w1 : Word} (hup : s.hostUp = true)
    (hw1 : w1 = s.newWord (ifaceNum i) (SQUEUE q) 0 1 w) (hfits : (ringOf w w1).1 + (ringOf w w1).2 ≤ 4194304)
    (hdepth : 4 ≤ getF w SQUEUE_DEPTH) (hhost : getF w SQUEUE_HOST ≠ 3)
    (hprogs : ∀ p ∈ s.validProgs, (maskPanels (entMask (s.progEntry p))).testBit (q / 64) = true →
      rangesMeet (entShared (s.progEntry p)) (ringOf w w1) = false)
    (hqueues : ∀ k ∈ s.validQueues, k ≠ q → k / 64 = q / 64 → rangesMeet (s.sqRing k) (ringOf w w1) = false)
    (ht : t = s.commitEntry (ifaceNum i) ⟨0x0A100000, 32, 1024, 1, 1, 2, 0, false⟩ (SQUEUE q) w) :
    s.sqCommitOp i q w = (t.wr (SQUEUE q + 8) 0).wr (SQUEUE q + 12) 0 := by
  have hnoProg : s.validProgs.any (fun p => (maskPanels (entMask (s.progEntry p))).testBit (q / 64) &&
      rangesMeet (entShared (s.progEntry p)) (ringOf w w1)) = false := by
    simpa using hprogs
  have hnoQueue : s.validQueues.any (fun k => k != q && k / 64 == q / 64 && rangesMeet (s.sqRing k) (ringOf w w1)) = false := by
    simpa using hqueues
  rw [State.sqCommitOp, State.hostAccess_of_up hup]
  simp only [State.sqCommit, ← hw1, ← ht, hnoProg, hnoQueue, decide_eq_false (Nat.not_lt.mpr hfits),
    decide_eq_false (Nat.not_lt.mpr hdepth), beq_false_of_ne hhost, Bool.or_self, Bool.false_eq_true, if_false]

/-- A PUT of the host with its end puts the staged item, and tells whether the ring took it (R305). -/
theorem State.hostPut_end {s : State} {i : Iface} {q : Nat} {l : List Word} (hend : s.hostEnd q 1 = true)
    (hl : l = (List.range 32).map (fun k => s.stagedWord (ifaceNum i) (SQ_ITEM q k))) :
    s.hostPut i q 1 = (s.sqPut q l).elim ((s.count (SQUEUE q + 16)).sqResult i q 1) (fun t => t.sqResult i q 0) := by
  subst hl
  simp only [State.hostPut, hend, Bool.not_true, Bool.false_eq_true, if_false, ne_eq, not_true_eq_false]
  cases s.sqPut q _ <;> rfl

/-- CTRL of the host with its end: 1 marks, 2 rewinds, 3 releases (R305). -/
theorem State.hostCtrl_end {s : State} (i : Iface) {q : Nat} (hend : s.hostEnd q 2 = true) :
    s.hostCtrl i q 1 = s.sqMarkNow q ∧ s.hostCtrl i q 2 = s.sqRewind q ∧ s.hostCtrl i q 3 = s.sqRelease q := by
  simp [State.hostCtrl, hend]

/-! ### Completion records -/

/-- A read of the oldest completion record takes it and returns its credit (R310). -/
theorem State.completionReadOp_oldest {s t : State} (i : Iface) {c : CqRec} {rest : List CqRec} (hup : s.hostUp = true)
    (hcq : s.cq = c :: rest) (ht : t = { s with cq := rest }) :
    s.completionReadOp i =
      ((List.range 3).foldl (fun u k => u.latch i (PANEL_CQk k) (c.words.getD (k + 1) 0))
        (t.setFld (PANEL_ENGe_STAT c.engine) PANEL_ENGe_STAT_CREDITS
          (t.fld (PANEL_ENGe_STAT c.engine) PANEL_ENGe_STAT_CREDITS + 1)).showCq).answer i PANEL_CQ0 (c.words.getD 0 0) := by
  simp only [State.completionReadOp, State.cqTake, hcq, ← ht, State.hostAccess_of_up hup]

/-! ### The statement -/

/-- Settles O28: every clause is the equation of its command's operation in the case that the clause describes. -/
theorem stitchCommandsComplete : Obligations.StitchCommandsComplete := by
  refine ⟨?dispatch, ?start, ?program, ?imem, ?queue, ?get, ?put, ?control, ?completion, ?freshness⟩
  case dispatch =>
    exact fun s t r rest l e hin ht hl hvalid hruns hpick =>
      next_settle_congr _ _ _ (State.dispatchOp_picked hin ht hl hvalid hruns hpick)
  case start =>
    exact fun s t u e w x rest hidle hinq ht hruns hx hu =>
      next_settle_congr _ _ _ (State.workStartOp_idle hidle hinq ht hruns hx hu)
  case program => exact fun s i p w l hup hl => next_settle_congr _ _ _ (State.progCommitOp_up i hup hl)
  case imem =>
    refine fun s i e k w hup => ⟨fun hfree => ?free, fun p hp hmask hbase hlen => ?held⟩
    case free =>
      have hnone : ¬ s.imemHeld e k = true := fun h => by
        obtain ⟨p, hp, hmask, hbase, hlen⟩ := (s.imemHeld_iff e k).mp h
        exact Nat.not_lt.mpr (hfree p hp hmask hbase) hlen
      exact next_settle_congr _ _ _ ((State.imemWriteOp_up i e k w hup).trans (if_neg hnone))
    case held =>
      have hsome : s.imemHeld e k = true := (s.imemHeld_iff e k).mpr ⟨p, hp, hmask, hbase, hlen⟩
      exact next_settle_congr _ _ _ ((State.imemWriteOp_up i e k w hup).trans (if_pos hsome))
  case queue =>
    exact fun s t i q w w1 hup hw1 hfits hdepth hhost hprogs hqueues ht =>
      next_settle_congr _ _ _ (State.sqCommitOp_apart hup hw1 hfits hdepth hhost hprogs hqueues ht)
  case get =>
    intro s t i q l hup hend hget
    refine next_settle_congr _ _ _ ((State.hostAccess_of_up hup _).trans (State.hostGet_end i hend ?_))
    obtain hitem | ⟨hempty, rfl, rfl⟩ := hget
    · rw [hitem, Option.getD_some]
    · rw [hempty, Option.getD_none]
  case put =>
    intro s i q l hup hend hl
    have hput := (State.hostAccess_of_up hup _).trans (State.hostPut_end hend hl)
    refine ⟨fun t ht => next_settle_congr _ _ _ (hput.trans ?_), fun hfull => next_settle_congr _ _ _ (hput.trans ?_)⟩
    · rw [ht, Option.elim_some]
    · rw [hfull, Option.elim_none]
  case control =>
    intro s i q hup hend
    obtain ⟨hmark, hrewind, hrelease⟩ := State.hostCtrl_end i hend
    have hop (t : State) : s.hostAccess t = t := State.hostAccess_of_up hup t
    exact ⟨next_settle_congr _ _ _ ((hop _).trans hmark), next_settle_congr _ _ _ ((hop _).trans hrewind),
      next_settle_congr _ _ _ ((hop _).trans hrelease)⟩
  case completion => exact fun s t i c rest hup hcq ht => next_settle_congr _ _ _ (State.completionReadOp_oldest i hup hcq ht)
  case freshness => exact fun s i f w hup => next_settle_congr _ _ _ (State.hostAccess_of_up hup _)

end Sys2Proof.Machine

/-! ## Requests, emits, ends and stalls of an engine (R295, R310, R324, R342 to R348)

At issue an instruction has none of its waits behind it, so its body starts at step 0; what a sound cipher request or emit
comes to is followed check by check. A stall's two commands are read off the stall that the engine is in. -/

namespace Sys2Proof.Machine

theorem Run.step_issue (r : Run) : r.step false = 0 := rfl

/-! ### Cipher requests -/

/-- CIPH issued with a sound block address waits for the heap to give the block, or reads it at once. -/
theorem bodyCiph_issue {s : State} {e a : Nat} {r : Run} {w : Word} (ha : a = (r.reg (iRa w)).toNat)
    (hsound : r.accessFault a 32 4 = none) :
    bodyCiph s e r w false = if inHeap a = true then .wait 0 s r 1 else s.ciphBlock e r w a := by
  subst ha
  simp only [bodyCiph, Run.step_issue, hsound]

/-- Sound inputs with no poison are read, and the request asks for a lane. -/
theorem State.ciphRead_sound {s t : State} {e : Nat} {r : Run} (w : Word) {b : CiphBlk} (blk : List Byte)
    (hform : b.malformed = false) (hclean : b.inputs.findSome? (fun x => s.engPoison e r x.1 x.2) = none)
    (ht : t = b.inputs.foldl (fun u x => u.engRead e r x.1 x.2) s) :
    s.ciphRead e r w b blk = t.ciphAsk e r w b (blk ++ b.inputs.flatMap (fun x => s.engBytes e r x.1 x.2)) := by
  simp only [State.ciphRead, hclean, ite_self, hform, Bool.false_eq_true, if_false, ← ht]

/-- A sound block whose inputs lie outside the heap is followed by the read of its inputs. -/
theorem State.ciphBlock_sound {s g : State} {e a : Nat} {r : Run} (w : Word) {b : CiphBlk}
    (hb : b = CiphBlk.ofOctets (s.engBytes e r a 32)) (hpair : b.pair = true)
    (hinside : (b.inputs ++ [(b.oaddr, b.outLen)]).findSome? (fun x => if x.2 = 0 then none else r.outside x.1 x.2) = none)
    (hclean : s.engPoison e r a 32 = none) (hg : g = s.engRead e r a 32)
    (hnear : b.inputs.any (fun x => inHeap x.1 && decide (0 < x.2)) = false) :
    s.ciphBlock e r w a = g.ciphRead e r w b (s.engBytes e r a 32) := by
  simp only [State.ciphBlock, ← hb, hpair, if_true, hinside, hclean, ← hg, hnear, Bool.and_false, Bool.false_eq_true, if_false]

/-- A request goes to the lane picked for it, waits for one in reset, or ends with status 3 where the lanes are off (R375,
R382). -/
theorem State.ciphAsk_picked (s : State) (e : Nat) (r : Run) (w : Word) (b : CiphBlk) (l : List Byte) :
    (∀ (n : Nat) (moved : Bool), s.pickLane e r.work.item.hash = .lane n moved →
      s.ciphAsk e r w b l = s.ciphSend e r b l n moved) ∧
    (s.pickLane e r.work.item.hash = .wait → s.ciphAsk e r w b l = .wait 3 s r 3 l) ∧
    (s.pickLane e r.work.item.hash = .off → s.ciphAsk e r w b l = s.ciphEnd e r w b 3 []) := by
  refine ⟨fun n moved h => ?_, fun h => ?_, fun h => ?_⟩ <;> simp only [State.ciphAsk, h]

/-! ### Emits -/

/-- EMIT issued with a sound header address waits for the heap to give the header, or stages the emit at once. -/
theorem bodyEmit_issue {s : State} {e a : Nat} {r : Run} {w : Word} (ha : a = (r.reg (iRa w)).toNat)
    (hsound : r.accessFault a 32 4 = none) :
    bodyEmit s e r w false = if inHeap a = true then .wait 0 s r 1 else s.emitStage e r w (s.engBytes e r a 32) 0 := by
  subst ha
  simp only [bodyEmit, Run.step_issue, hsound]

/-- An emit within the limits, whose data lie in a window outside the heap, joins the item's list (R347, R348). -/
theorem State.emitStage_within {s g : State} {e h len n : Nat} {r : Run} {w : Word} {hdr : List Byte}
    (hh : h = leNat (slice hdr 0 4)) (hlen : len = bits h 13 0) (hn : n = if emitRemote h = true then 0 else len)
    (hdata : n = 0 ∨ r.outside (r.reg (iRb w)).toNat n = none ∧ inHeap (r.reg (iRb w)).toNat = false ∧
      g.engPoison e r (r.reg (iRb w)).toNat n = none)
    (hclean : s.engPoison e r (r.reg (iRa w)).toNat 32 = none) (hg : g = s.engRead e r (r.reg (iRa w)).toNat 32)
    (hcount : r.emits.length < 16) (hheld : r.emits.foldl (fun x m => x + m.held) n ≤ 16384) (hok : emitLenBad h = false) :
    s.emitStage e r w hdr 0 = .done (if n = 0 then g else g.engRead e r (r.reg (iRb w)).toNat n)
      (Run.next { r with emits := r.emits ++
        [{ hdr := (List.range 8).map (fun k => BitVec.ofNat 32 (leNat (slice hdr (4 * k) 4)))
           data := if emitRemote h = true then List.replicate len 0 else g.engBytes e r (r.reg (iRb w)).toNat n }] })
      (2 + (32 + len + 15) / 16) := by
  have hinside : (if n = 0 then none else r.outside (r.reg (iRb w)).toNat n) = none := by
    obtain hzero | ⟨hinside, -, -⟩ := hdata
    · rw [if_pos hzero]
    · rw [hinside, ite_self]
  have hnear : ¬ (0 ≠ 2 ∧ inHeap (r.reg (iRb w)).toNat = true ∧ 0 < n) := by
    rintro ⟨-, hheap, hpos⟩
    obtain hzero | ⟨-, hnear, -⟩ := hdata
    · exact Nat.ne_of_gt hpos hzero
    · rw [hnear] at hheap
      exact Bool.false_ne_true hheap
  have hsound : (if n = 0 then none else g.engPoison e r (r.reg (iRb w)).toNat n) = none := by
    obtain hzero | ⟨-, -, hsound⟩ := hdata
    · rw [if_pos hzero]
    · rw [hsound, ite_self]
  have hlimits : ¬ (16 ≤ r.emits.length ∨ 16384 < r.emits.foldl (fun x m => x + m.held) n ∨ emitLenBad h = true) := by
    simp only [hok, Bool.false_eq_true, or_false]
    omega
  simp only [State.emitStage, ← hh, ← hlen, ← hn, hinside, hclean, ← hg, if_neg hnear, hsound, if_neg hlimits,
    show ¬ (0 : Nat) = 2 by decide, if_false]

/-! ### Stalls -/

/-- When what the engine waits for has come within the limit, its instruction goes on with it (R324). -/
theorem State.stallEndOp_come {s : State} {e : Nat} {r : Run} {st : Stall} {body : Body} (hrun : (s.eng e).run = some r)
    (hstall : r.stall = some st) (hintime : st.kind < 3 → s.mer - st.since ≤ s.stallLimit)
    (hbody : (instrCode r.word).bind stallBody = some body) :
    s.stallEndOp e = s.settle e r (body s e r r.word true) := by
  have hnotLate : ¬ (st.kind < 3 ∧ s.stallLimit < s.mer - st.since) := fun ⟨hkind, hlate⟩ =>
    Nat.not_lt.mpr (hintime hkind) hlate
  simp only [State.stallEndOp, hrun, hstall, if_neg hnotLate, hbody]

/-- What a freshness operation that had reached its table does there although its stall expires (R324). -/
def State.freshLate (s : State) (r : Run) (st : Stall) (reached : Bool) : State :=
  if st.kind = 2 ∧ reached = true ∧ s.freshMay (r.reg (iRa r.word)).toNat r.work.item.tenant = true then
    match instrCode r.word with
    | some 0x2301 => (s.freshRaise (r.reg (iRa r.word)).toNat (r.pair (iRd r.word))).2
    | some 0x2302 => (s.freshInc (r.reg (iRa r.word)).toNat).2
    | _ => s
  else s

/-- A lane whose result the engine no longer waits for goes on with the request, with no engine (R324). -/
def State.laneOrphans (s : State) (e : Nat) (r : Run) (st : Stall) : State :=
  if st.kind = 4 then
    s.setLane r.lane { s.lane r.lane with
      reqs := (s.lane r.lane).reqs.map (fun x => if x.engine = e then { x with engine := 128 } else x) }
  else s

/-- A stall past the limit whose event has not come raises exception 7 (R296, R324). -/
theorem State.stallExpiryOp_late {s : State} {e : Nat} {r : Run} {st : Stall} (reached : Bool)
    (hrun : (s.eng e).run = some r) (hstall : r.stall = some st) (hlate : s.stallLimit < s.mer - st.since)
    (hnotCome : s.eventCome e r st = false) :
    s.stallExpiryOp e reached = ((s.freshLate r st reached).laneOrphans e r st).engExc e r 7 0 := by
  have hexpires : ¬ (s.mer - st.since ≤ s.stallLimit ∨ s.eventCome e r st = true) := by
    simp only [hnotCome, Bool.false_eq_true, or_false]
    omega
  simp only [State.stallExpiryOp, hrun, hstall, if_neg hexpires]
  rfl

/-- A freshness operation takes effect late only where it had reached its table. -/
theorem State.freshLate_of_not {s : State} (r : Run) {st : Stall} {reached : Bool} (h : ¬ (st.kind = 2 ∧ reached = true)) :
    s.freshLate r st reached = s := if_neg fun ⟨hkind, hreached, _⟩ => h ⟨hkind, hreached⟩

theorem State.freshLate_raise {s : State} {r : Run} {st : Stall} (hkind : st.kind = 2)
    (hmay : s.freshMay (r.reg (iRa r.word)).toNat r.work.item.tenant = true) (hcode : instrCode r.word = some 0x2301) :
    s.freshLate r st true = (s.freshRaise (r.reg (iRa r.word)).toNat (r.pair (iRd r.word))).2 := by
  simp only [State.freshLate, hkind, hmay, hcode, and_self, if_true]

theorem State.freshLate_increment {s : State} {r : Run} {st : Stall} (hkind : st.kind = 2)
    (hmay : s.freshMay (r.reg (iRa r.word)).toNat r.work.item.tenant = true) (hcode : instrCode r.word = some 0x2302) :
    s.freshLate r st true = (s.freshInc (r.reg (iRa r.word)).toNat).2 := by
  simp only [State.freshLate, hkind, hmay, hcode, and_self, if_true]

theorem State.laneOrphans_of_ne {s : State} (e : Nat) (r : Run) {st : Stall} (h : st.kind ≠ 4) : s.laneOrphans e r st = s := if_neg h

/-! ### The statement -/

/-- Settles O33: an issued instruction does what its body comes to; a stall ends with its event or its limit. -/
theorem requestAndEndInstructionsComplete : Obligations.RequestAndEndInstructionsComplete := by
  intro s f e r q w a d hf hq ha hd
  subst hf hq ha hd
  refine ⟨?ciphHeap, ?ciph, ?emitHeap, ?emit, ?endItem, ?dropItem, ?notify, ?stallEnd, ?expiry⟩
  case ciphHeap =>
    exact fun hissues hsound hheap => engine_issue_next hissues rfl ((bodyCiph_issue rfl hsound).trans (if_pos hheap))
  case ciph =>
    intro g t b l hissues hsound hnear hclean hb hpair hform hinside hg hcleanIn hnearIn ht hl
    have hasks : bodyCiph (s.fetched e r) e (s.fetchedRun e r) w false = t.ciphAsk e (s.fetchedRun e r) w b l := by
      rw [bodyCiph_issue rfl hsound, fetchedRun_reg, if_neg (Bool.eq_false_iff.mp hnear),
        State.ciphBlock_sound w hb hpair hinside hclean hg hnearIn, State.ciphRead_sound w _ hform hcleanIn ht, ← hl]
    obtain ⟨hlane, hwait, hoff⟩ := t.ciphAsk_picked e (s.fetchedRun e r) w b l
    exact ⟨fun n moved h => engine_issue_next hissues rfl (hasks.trans (hlane n moved h)),
      fun h => engine_issue_next hissues rfl (hasks.trans (hwait h)), fun h => engine_issue_next hissues rfl (hasks.trans (hoff h))⟩
  case emitHeap =>
    exact fun hissues hsound hheap => engine_issue_next hissues rfl ((bodyEmit_issue rfl hsound).trans (if_pos hheap))
  case emit =>
    intro h len n g hissues hsound hnear hh hlen hn hdata hclean hg hcount hheld hok
    exact engine_issue_next hissues rfl (((bodyEmit_issue rfl hsound).trans (if_neg (Bool.eq_false_iff.mp hnear))).trans
      (State.emitStage_within hh hlen hn hdata hclean hg hcount hheld hok))
  case endItem => exact fun hissues => engine_issue_next hissues rfl rfl
  case dropItem => exact fun hissues => engine_issue_next hissues rfl rfl
  case notify =>
    intro ok t hissues hrecord
    refine engine_issue_next hissues rfl ?_
    simp only [bodyNotify, fetchedRun_reg, hrecord]
  case stallEnd =>
    exact fun st body hrun hstall hintime hbody => next_settle_congr _ _ _ (State.stallEndOp_come hrun hstall hintime hbody)
  case expiry =>
    intro st reached hrun hstall hlate hnotCome
    have hexpires := State.stallExpiryOp_late reached hrun hstall hlate hnotCome
    refine ⟨fun hfresh hlane => ?other, fun hlane => ?lane, fun hfresh hreached => ?unreached,
      fun hfresh hreached hmay => ?reached⟩
    case other =>
      rw [State.freshLate_of_not r fun h => hfresh h.1, State.laneOrphans_of_ne e r hlane] at hexpires
      exact next_settle_congr _ _ _ hexpires
    case lane =>
      rw [State.freshLate_of_not r fun h => by simp [hlane] at h, State.laneOrphans, if_pos hlane] at hexpires
      exact next_settle_congr _ _ _ hexpires
    case unreached =>
      rw [State.freshLate_of_not r fun h => by simp [hreached] at h, State.laneOrphans_of_ne e r (by omega)] at hexpires
      exact next_settle_congr _ _ _ hexpires
    case reached =>
      subst hreached
      rw [State.laneOrphans_of_ne e r (by omega)] at hexpires
      exact ⟨fun hcode => next_settle_congr _ _ _ (State.freshLate_raise hfresh hmay hcode ▸ hexpires),
        fun hcode => next_settle_congr _ _ _ (State.freshLate_increment hfresh hmay hcode ▸ hexpires)⟩

end Sys2Proof.Machine

/-! ## The instructions that compute on an engine's registers (R327 to R330, R332, R333, R337)

An instruction that waits for nothing retires: its body computes on the fetched work item, whose registers are those of the
item before the fetch. So each clause is its group's rule at the body's own function of the sources; division, branches, CTR
and TIME have cases of their own. -/

namespace Sys2Proof.Machine

/-! ### Retiring and raising -/

section Issue

variable {s : State} {i : Instr} {e c : Nat} {r : Run} {w : Word} {b : Body}

/-- An instruction whose body is done with no effect beyond the work item retires with that effect. -/
theorem engine_retires {n : Nat} {f : Run → Run} (h : s.Issues e c r w) (hx : exec i s = .next (settle s (s.issue e c b)))
    (hb : b (s.fetched e r) e (s.fetchedRun e r) w false = .done (s.fetched e r) (f (s.fetchedRun e r)) n) :
    exec i s = .next (settle s (s.retire e r n f)) :=
  engine_issue_next h hx hb

theorem State.settle_fault (t : State) (e : Nat) (r : Run) (k a : Nat) : t.settle e r (.fault k a) = t.engExc e r k a := by
  rw [State.settle]

/-- An instruction whose body faults raises the exception on the work item that fetched it. -/
theorem engine_raises {k a : Nat} (h : s.Issues e c r w) (hx : exec i s = .next (settle s (s.issue e c b)))
    (hb : b (s.fetched e r) e (s.fetchedRun e r) w false = .fault k a) :
    exec i s = .next (settle s ((s.fetched e r).engExc e (s.fetchedRun e r) k a)) := by
  rw [engine_issue_next h hx hb, State.settle_fault]

/-- A body that only computes on registers retires with what it computes, at the next instruction. -/
theorem pure_retires {n : Nat} {g : Run → Word → Run} {f : Run → Run} (h : s.Issues e c r w)
    (hx : exec i s = .next (settle s (s.issue e c (pureBody n g))))
    (hf : (g (s.fetchedRun e r) w).next = f (s.fetchedRun e r)) : exec i s = .next (settle s (s.retire e r n f)) :=
  engine_retires h hx (congrArg (Ex.done (s.fetched e r) · n) hf)

/-- An ALU instruction writes the value of its two sources. -/
theorem alu_retires {n : Nat} {f : Word → Word → Word} {v : Word} (h : s.Issues e c r w)
    (hx : exec i s = .next (settle s (s.issue e c (alu n f)))) (hv : f (r.reg (iRa w)) (r.reg (iRb w)) = v) :
    exec i s = .next (settle s (s.retire e r n (fun q => (q.setReg (iRd w) v).next))) :=
  hv ▸ pure_retires h hx rfl

/-- A shift by an immediate writes its source shifted by the rb field. -/
theorem shiftImm_retires {f : Word → Nat → Word} {v : Word} (h : s.Issues e c r w)
    (hx : exec i s = .next (settle s (s.issue e c (shiftImm f)))) (hv : f (r.reg (iRa w)) (iRb w) = v) :
    exec i s = .next (settle s (s.retire e r 1 (fun q => (q.setReg (iRd w) v).next))) :=
  hv ▸ pure_retires h hx rfl

/-- An immediate instruction writes the value of its source and the instruction word. -/
theorem aluImm_retires {f : Word → Word → Word} {v : Word} (h : s.Issues e c r w)
    (hx : exec i s = .next (settle s (s.issue e c (aluImm f)))) (hv : f (r.reg (iRa w)) w = v) :
    exec i s = .next (settle s (s.retire e r 1 (fun q => (q.setReg (iRd w) v).next))) :=
  hv ▸ pure_retires h hx rfl

/-- A saturating instruction writes the value held within 32 bits, and sets Q where it was cut. -/
theorem aluSat_retires {f : Int → Int → Int} {v : Int} (h : s.Issues e c r w)
    (hx : exec i s = .next (settle s (s.issue e c (aluSat f)))) (hv : f (r.reg (iRa w)).toInt (r.reg (iRb w)).toInt = v) :
    exec i s = .next (settle s (s.retire e r 1
      (fun q => ((q.setReg (iRd w) (satSigned v).1).setQ (satSigned v).2).next))) :=
  hv ▸ pure_retires h hx rfl

/-- A division by a divisor other than 0 takes 12 slots. -/
theorem divide_retires {f : Nat → Nat → Nat} (h : s.Issues e c r w)
    (hx : exec i s = .next (settle s (s.issue e c (divide f)))) (hne : (r.reg (iRb w)).toNat ≠ 0) :
    exec i s = .next (settle s (s.retire e r 12 (fun q =>
      (q.setReg (iRd w) (BitVec.ofNat 32 (f (r.reg (iRa w)).toNat (r.reg (iRb w)).toNat))).next))) :=
  engine_retires h hx (if_neg hne)

/-- A division by 0 raises DIVZERO. -/
theorem divide_raises {f : Nat → Nat → Nat} (h : s.Issues e c r w)
    (hx : exec i s = .next (settle s (s.issue e c (divide f)))) (hzero : (r.reg (iRb w)).toNat = 0) :
    exec i s = .next (settle s ((s.fetched e r).engExc e (s.fetchedRun e r) 16 0)) :=
  engine_raises h hx (if_pos hzero)

end Issue

/-! ### Register to register -/

/-- Settles O29: each instruction is its group's rule at its own function of the sources. -/
theorem registerArithmeticCompletes : Obligations.RegisterArithmeticCompletes := by
  intro s e r w
  refine ⟨?add, ?sub, ?and, ?or, ?xor, ?sll, ?srl, ?sra, ?slli, ?srli, ?srai, ?mul, ?mulhu, ?mulhs, ?min, ?max, ?minu, ?maxu,
    ?bswap, ?clz, ?divu, ?remu, ?divuZero, ?remuZero, ?cmp, ?tst, ?movf, ?setf, ?adds, ?subs⟩
  case add | sub | and | or | xor | sll | srl | sra | mul | mulhu | mulhs | min | max | minu | maxu | bswap | clz =>
    exact fun h => alu_retires h rfl rfl
  case slli | srli | srai => exact fun h => shiftImm_retires h rfl rfl
  case divu | remu => exact fun h hne => divide_retires h rfl hne
  case divuZero | remuZero => exact fun h hzero => divide_raises h rfl hzero
  case cmp | tst | movf | setf => exact fun h => pure_retires h rfl rfl
  case adds | subs => exact fun h => aluSat_retires h rfl rfl

end Sys2Proof.Machine

/-! ## A fetch takes no time (R315, R568, R575, R589)

The read of the instruction memory and the tagging register's step count, correct and log, and leave Meridian as it is. -/

namespace Sys2Proof.Machine

@[simp] theorem State.bumpSat_mer (s : State) (a : Nat) (f : Fld) (n : Nat) : (s.bumpSat a f n).mer = s.mer := rfl

@[simp] theorem State.log_mer (s : State) (rule inst : Nat) (p : List Nat) : (s.log rule inst p).mer = s.mer := by
  rw [State.log_frame]

theorem State.counterAdd_mer (s : State) (c n : Nat) : (s.counterAdd c n).mer = s.mer := by
  have hlatch : (s.latchTakes c n).mer = s.mer := by
    unfold State.latchTakes
    split
    · split <;> rfl
    · rfl
  simp only [State.counterAdd, apply_ite State.mer, State.setFld_mer, State.wr_mer, hlatch, ite_self]

theorem State.counterStep_mer (s : State) (c amount : Nat) : (s.counterStep c amount).mer = s.mer := by
  simp only [State.counterStep, apply_ite State.mer, State.counterAdd_mer, ite_self]

theorem State.obs_mer (s : State) (panel code amount : Nat) (tenant master cls addr priv : Option Nat) :
    (s.obs panel code amount tenant master cls addr priv).mer = s.mer := by
  unfold State.obs
  split
  · rfl
  · exact State.foldl_keeps State.mer (fun t c => (apply_ite State.mer _ _ _).trans (by rw [State.counterStep_mer, ite_self])) _ _

@[simp] theorem State.obsEcc_mer (s : State) (c a code : Nat) : (s.obsEcc c a code).mer = s.mer := by
  have hdie (die : Nat) : (s.obsDie die code 1 (addr := some a)).mer = s.mer :=
    State.foldl_keeps State.mer (fun t _ => t.obs_mer _ _ _ _ _ _ _ _) _ _
  simp only [State.obsEcc, apply_ite State.mer, State.obs_mer, hdie, ite_self]

theorem State.corrected_mer (s : State) (c a : Nat) (data : Bool) : (s.corrected c a data).mer = s.mer := by
  simp only [State.corrected, apply_ite State.mer, State.log_mer, State.setFld_mer, State.wr_mer, State.obsEcc_mer,
    State.bumpSat_mer, ite_self]

theorem State.uncorrectable_mer (s : State) (c a : Nat) (fresh : Bool) : (s.uncorrectable c a fresh).mer = s.mer := by
  simp only [State.uncorrectable, apply_ite State.mer, State.log_mer, State.setFld_mer, State.wr_mer, State.obsEcc_mer,
    State.bumpSat_mer, ite_self]

theorem State.codeRead_mer (s : State) (c a : Nat) : (s.codeRead c a).mer = s.mer := by
  unfold State.codeRead
  split
  · exact State.uncorrectable_mer _ _ _ _
  · split
    · rfl
    · exact State.corrected_mer _ _ _ _
    · exact State.uncorrectable_mer _ _ _ _

theorem State.flushKey_mer (s : State) (k : Nat) : (s.flushKey k).mer = s.mer := by
  unfold State.flushKey
  split
  · rfl
  · unfold State.codeStore
    split
    · rfl
    · exact State.codeRead_mer _ _ _

theorem State.portAccess_mer (s : State) (c : Nat) : (s.portAccess c).mer = s.mer :=
  State.foldl_keeps State.mer (fun t _ => t.flushKey_mer _) _ _

/-- A read of a protected memory takes no time. -/
theorem State.memRead_mer (s : State) (c o n : Nat) : (s.memRead c o n).mer = s.mer := by
  refine (State.foldl_keeps State.mer (fun t i => ?_) _ _).trans (s.portAccess_mer c)
  split
  · rfl
  · exact State.codeRead_mer _ _ _

theorem State.itagStep_mer (s : State) (e : Nat) (r : Run) : (s.itagStep e r).2.mer = s.mer := by
  simp only [State.itagStep, apply_ite Prod.snd, apply_ite State.mer, ite_self]

/-- A fetch takes no time. -/
theorem State.fetched_mer (s : State) (e : Nat) (r : Run) : (s.fetched e r).mer = s.mer :=
  (State.itagStep_mer _ e r).trans (s.memRead_mer 0 (IMEM e r.pc) 4)

/-! ### Immediates, branches, scaling, counters and tenant time -/

/-- TIME reads the item's own datum, the node's or Meridian, now or at the item's stamp (R337). -/
theorem bodyTime_eq {s : State} {r : Run} {w : Word} {m : Nat} (e : Nat) (fin : Bool)
    (hm : m = if (iFn w).testBit 2 = true then r.work.item.stamp else s.mer) :
    bodyTime s e r w fin = .done s (r.setPair (iRd w)
      (if iFn w % 4 = 0 then s.viewAt r.work.item.tenant m else if iFn w % 4 = 1 then s.viewAt 1024 m else m)).next 3 := by
  subst hm
  unfold bodyTime
  obtain hown | hnode | ⟨hnotOwn, hnotNode⟩ : iFn w % 4 = 0 ∨ iFn w % 4 = 1 ∨ iFn w % 4 ≠ 0 ∧ iFn w % 4 ≠ 1 := by omega
  · simp only [hown, if_true]
  · simp only [hnode, if_true, Nat.one_ne_zero, if_false]
  · simp only [hnotOwn, hnotNode, if_false]

/-- Settles O30: an immediate instruction follows its group's rule; a branch, JALR, CTR delta and TIME go by their cases. -/
theorem immediateAndBranchInstructionsComplete : Obligations.ImmediateAndBranchInstructionsComplete := by
  intro s e r w
  refine ⟨?addi, ?andi, ?ori, ?xori, ?lui, ?cmpi, ?taken, ?passed, ?jal, ?jalr, ?far, ?scale, ?step, ?delta, ?bad, ?time⟩
  case addi | andi | ori | xori => exact fun h => aluImm_retires h rfl rfl
  case lui | cmpi | step => exact fun h => pure_retires h rfl rfl
  case taken => exact fun h htrue => engine_retires h rfl (if_pos htrue)
  case passed => exact fun h hfalse => engine_retires h rfl (if_neg (Bool.eq_false_iff.mp hfalse))
  case jal => exact fun h => engine_retires h rfl rfl
  case jalr => exact fun h hnear => engine_retires h rfl (if_neg (Nat.not_le.mpr hnear))
  case far => exact fun h hfar => engine_raises h rfl (if_pos hfar)
  case scale =>
    intro sg v lo hi h hsg hv hlo hhi
    subst hsg hv hlo hhi
    exact pure_retires h rfl rfl
  case delta =>
    exact fun h hnow hold =>
      pure_retires h rfl (congrArg Run.next (if_neg (not_or.mpr ⟨Nat.not_lt.mpr hnow, Nat.not_lt.mpr hold⟩)))
  case bad => exact fun h hbeyond => pure_retires h rfl (congrArg Run.next (if_pos hbeyond))
  case time => exact fun m h hm => engine_retires h rfl (bodyTime_eq e false (by rwa [State.fetched_mer]))

end Sys2Proof.Machine

/-! ## Stitch queues, lookups and freshness of an engine (R338 to R341, R324)

At issue an instruction has none of its waits behind it; each lemma gives what its body comes to once the checks before that
point have passed. -/

namespace Sys2Proof.Machine

section Body

variable {s g : State} {e k a n : Nat} {r : Run} {w : Word} {l : List Byte}

/-! ### Queue operations without a buffer -/

/-- An operation on a queue that the engine may operate on takes effect and writes its value with Z set. -/
theorem sqSimple_allowed {side : Nat} {f : State → Nat → State × Word} (hk : k = (r.reg (iRa w)).toNat)
    (hok : s.sqFault e r k side = none) :
    sqSimple side f s e r w false = .done (f s k).1 ((r.setReg (iRd w) (f s k).2).setZ true).next 2 := by
  subst hk
  simp only [sqSimple, hok]

/-! ### GET -/

/-- An item delivered is stored in the buffer; its first word is written, with Z set. -/
theorem State.getEnd_item (ha : a = (r.reg (iRb w)).toNat) : s.getEnd e r w (some l) n = .done (s.engStore e r a l).1
    ((((s.engStore e r a l).2.setReg (iRd w) (BitVec.ofNat 32 (leNat (slice l 0 4)))).setZ true).next) 2 := by
  subst ha
  rfl

section Get

variable (hk : k = (r.reg (iRa w)).toNat) (ha : a = (r.reg (iRb w)).toNat) (hn : n = s.sqSize k)
  (hbuf : s.sqBuffer r k a = none) (hok : s.sqFault e r k 0 = none)
include hk ha hn hbuf hok

/-- GET of an unread item delivers it to the buffer, or waits for the heap to take it. -/
theorem bodyQopGet_unread (hlook : s.getLook k n = some (false, l)) :
    bodyQopGet s e r w false =
      if inHeap a = true then .wait 0 s r 2 l else (s.getTake k n).getEnd e r w (some l) n := by
  subst hk ha hn
  simp [bodyQopGet, Run.step_issue, hbuf, hok, hlook]

/-- GET of an item that is poisoned raises POISON. -/
theorem bodyQopGet_poisoned (hlook : s.getLook k n = some (true, l)) :
    bodyQopGet s e r w false = .fault 5 (a / 4 * 4) := by
  subst hk ha hn
  simp [bodyQopGet, Run.step_issue, hbuf, hok, hlook]

/-- GET of a queue without an unread item waits for one, or delivers the idle item where a host is at the other end. -/
theorem bodyQopGet_empty (hlook : s.getLook k n = none) :
    bodyQopGet s e r w false =
      if s.sqHost k = 0 then .wait 5 s r 1 (List.replicate n 0)
      else if inHeap a = true then .wait 0 s r 3 (List.replicate n 0)
      else s.getEnd e r w none n := by
  subst hk ha hn
  simp [bodyQopGet, Run.step_issue, hbuf, hok, hlook]

end Get

/-! ### PUT -/

/-- PUT of a buffer in the heap waits for it. -/
theorem bodyQopPut_heap (hk : k = (r.reg (iRa w)).toNat) (ha : a = (r.reg (iRb w)).toNat)
    (hbuf : s.sqBuffer r k a = none) (hheap : inHeap a = true) : bodyQopPut s e r w false = .wait 0 s r 1 := by
  subst hk ha
  simp [bodyQopPut, Run.step_issue, hbuf, hheap]

/-- PUT of a sound buffer outside the heap adds its item; where the queue has no room it waits, or counts PUT_FAIL where a host
is at the other end. -/
theorem bodyQopPut_read (hk : k = (r.reg (iRa w)).toNat) (ha : a = (r.reg (iRb w)).toNat) (hn : n = s.sqSize k)
    (hbuf : s.sqBuffer r k a = none) (hnear : inHeap a = false) (hclean : s.engPoison e r a n = none)
    (hok : s.sqFault e r k 1 = none) (hl : l = s.engBytes e r a n) (hg : g = s.engRead e r a n) :
    bodyQopPut s e r w false =
      (g.sqPut k ((List.range (n / 4)).map (fun j => BitVec.ofNat 32 (leNat (slice l (4 * j) 4))))).elim
        (if g.sqHost k = 0 then .wait 5 g r 2 l
          else .done (((g.count (SQUEUE k + 16)).engCount e 5).stEvent PANEL_STEVT_PUT_FAIL)
            ((r.setReg (iRd w) 0).setZ false).next 2)
        (fun t => .done t ((r.setReg (iRd w) 0).setZ true).next 2) := by
  subst hk ha hn hl hg
  have hissue : ¬ (0 : Nat) = 2 := by decide
  simp only [bodyQopPut, Run.step_issue, if_true, hbuf, hnear, Bool.false_and, Bool.false_eq_true, if_false, hissue, hclean, hok,
    false_or]
  cases State.sqPut _ _ _ <;> rfl

/-! ### Lookups and freshness -/

/-- RLKP from a source within the tables waits for the lookup. -/
theorem bodyRlkp_issue (hk : k = (r.reg (iRa w)).toNat) (hsrc : k ≤ 5183) : bodyRlkp s e r w false = .wait 1 s r := by
  subst hk
  simp [bodyRlkp, Nat.not_lt.mpr hsrc]

/-- SLKP of an address in the heap waits for it. -/
theorem bodySlkp_heap (ha : a = (r.reg (iRb w)).toNat) (hinside : r.outside a 6 = none) (hheap : inHeap a = true) :
    bodySlkp s e r w false = .wait 0 s r 1 := by
  subst ha
  simp [bodySlkp, Run.step_issue, hinside, hheap]

/-- SLKP of an address read outside the heap waits for the lookup with the address held. -/
theorem bodySlkp_read (ha : a = (r.reg (iRb w)).toNat) (hinside : r.outside a 6 = none) (hnear : inHeap a = false)
    (hclean : s.engPoison e r a 6 = none) :
    bodySlkp s e r w false = .wait 1 (s.engRead e r a 6) r 2 (s.engBytes e r a 6) := by
  subst ha
  simp [bodySlkp, Run.step_issue, hinside, hnear, hclean]

/-- A freshness operation on an entry of the table waits for it. -/
theorem fresh_issue {f : State → Nat → Nat → Bool × State × Option Nat} (hk : k = (r.reg (iRa w)).toNat) (hentry : k ≤ 65535) :
    fresh f s e r w false = .wait 2 s r := by
  subst hk
  simp [fresh, Nat.not_lt.mpr hentry]

end Body

/-! ### The statement -/

/-- Settles O32: each clause is what the instruction's body comes to in the case that the clause describes. -/
theorem queueAndLookupInstructionsComplete : Obligations.QueueAndLookupInstructionsComplete := by
  intro s f e r q w k a hf hq hk ha
  subst hf hq
  rw [← fetchedRun_reg s e] at hk ha
  refine ⟨?mark, ?rewind, ?release, ?fill, ?get, ?put, ?putHeap, ?rlkp, ?slkp, ?slkpHeap, ?read, ?raise, ?increment⟩
  case mark | rewind | release | fill => exact fun h hok => engine_issue_next h rfl (sqSimple_allowed hk hok)
  case get =>
    intro n h hn hbuf hok
    refine ⟨fun l hlook hnear => ?item, fun l hlook hheap => ?itemHeap, fun l hlook => ?poisoned, fun hlook hpeer => ?waits,
      fun hlook hhost hnear => ?idle⟩
    case item =>
      exact engine_issue_next h rfl (((bodyQopGet_unread hk ha hn hbuf hok hlook).trans
        (if_neg (Bool.eq_false_iff.mp hnear))).trans (State.getEnd_item ha))
    case itemHeap => exact engine_issue_next h rfl ((bodyQopGet_unread hk ha hn hbuf hok hlook).trans (if_pos hheap))
    case poisoned => exact engine_raises h rfl (bodyQopGet_poisoned hk ha hn hbuf hok hlook)
    case waits => exact engine_issue_next h rfl ((bodyQopGet_empty hk ha hn hbuf hok hlook).trans (if_pos hpeer))
    case idle =>
      exact engine_issue_next h rfl (((bodyQopGet_empty hk ha hn hbuf hok hlook).trans (if_neg hhost)).trans
        (if_neg (Bool.eq_false_iff.mp hnear)))
  case put =>
    intro n l o h hn hbuf hnear hclean hok hl ho
    have hput := bodyQopPut_read hk ha hn hbuf hnear hclean hok hl rfl
    rw [← ho] at hput
    refine ⟨fun t ht => ?room, fun hfull hpeer => ?waits, fun hfull hhost => ?fails⟩
    case room => exact engine_issue_next h rfl (hput.trans (by rw [ht, Option.elim_some]))
    case waits => exact engine_issue_next h rfl (hput.trans (by rw [hfull, Option.elim_none, if_pos hpeer]))
    case fails => exact engine_issue_next h rfl (hput.trans (by rw [hfull, Option.elim_none, if_neg hhost]))
  case putHeap => exact fun h hbuf hheap => engine_issue_next h rfl (bodyQopPut_heap hk ha hbuf hheap)
  case rlkp => exact fun h hsrc => engine_issue_next h rfl (bodyRlkp_issue hk hsrc)
  case slkp =>
    exact fun h hinside hnear hclean => engine_issue_next h rfl (bodySlkp_read ha hinside hnear hclean)
  case slkpHeap => exact fun h hinside hheap => engine_issue_next h rfl (bodySlkp_heap ha hinside hheap)
  case read | raise | increment => exact fun h hentry => engine_issue_next h rfl (fresh_issue hk hentry)

end Sys2Proof.Machine

/-! ## Bobbins: the commit of an entry and the six commands (R349, R359, R360, R417)

A command of CORE_BOBCMD meets two bars: the entry, the power mode and the lifecycle, then the state of the bobbin. One that
passes both has an equation of its own; one that the state does not fit is refused whatever the first bar says. -/

namespace Sys2Proof.Machine

/-! ### The commit -/

/-- A commit that R349 does not refuse takes the staged words and publishes the stack, the loops and STOPPED; the write offset
stays within the new capacity (log 118). -/
theorem State.bobCommitOp_accepted {s t u : State} {i : Iface} {b : Nat} {w : Word} {nw : Nat → Word} (hup : s.hostUp = true)
    (hnw : nw = fun k => s.newWord (ifaceNum i) (BOBBIN b) 0 k w)
    (ht : t = (s.commitEntry (ifaceNum i) ⟨0x07000000, 128, 4096, 1, 1, 12, 0, false⟩ (BOBBIN b) w).setFld (bobWord b 2)
      BOBBIN_STACK (s.bobNewStack (nw 0) (nw 1)))
    (hu : u = t.setBobLoops b (t.fld (bobWord b 5) BOBBIN_LOOPS)) (haccepted : s.bobRefuses b nw = false) :
    s.bobCommitOp i b w =
      (u.setBob b
        { u.bob b with
          woff := (u.bob b).woff % max 1 (u.bobCap b)
          panel := if getB (nw 0) BOBBIN_KIND = true then 0
            else (s.bobPanelOf (getF (nw 0) BOBBIN_DKIND) (getF (nw 1) BOBBIN_TARGET)).getD 0 }).setFld (bobWord b 16)
        BOBBIN_STATE 0 := by
  subst hnw ht hu
  exact (State.hostAccess_of_up hup _).trans (congrArg Prod.snd (if_neg (ne_true_of_eq_false haccepted)))

theorem State.bobCommitOp_refused {s : State} {i : Iface} {b : Nat} {w : Word} (hup : s.hostUp = true)
    (hrefused : s.bobRefuses b (fun k => s.newWord (ifaceNum i) (BOBBIN b) 0 k w) = true) :
    s.bobCommitOp i b w = s.bobEvent b BOBBIN_EVT_CFG_ERR :=
  (State.hostAccess_of_up hup _).trans (congrArg Prod.snd (if_pos hrefused))

/-! ### The result of a command -/

theorem State.bobCmdReg_done {s t : State} {op b : Nat} (hup : s.hostUp = true)
    (hcmd : s.bobCmd op b (s.rd64 CORE_BOBT_LO) = (true, t)) :
    s.bobCmdReg op b = t.setFld CORE_BOBCMD CORE_BOBCMD_RESULT 0 := by
  rw [State.bobCmdReg, hcmd]
  exact State.hostAccess_of_up hup _

theorem State.bobCmdReg_refused {s t : State} {op b : Nat} (hup : s.hostUp = true)
    (hcmd : s.bobCmd op b (s.rd64 CORE_BOBT_LO) = (false, t)) :
    s.bobCmdReg op b = t.setFld CORE_BOBCMD CORE_BOBCMD_RESULT 1 := by
  rw [State.bobCmdReg, hcmd]
  exact State.hostAccess_of_up hup _

/-! ### A command that the state does not fit -/

/-- The states of a bobbin that a command is for (R359): 0 STOPPED, 1 RUNNING, 2 PAUSED, 3 ENDED. -/
def bobCmdFits (op st : Nat) : Prop :=
  match op with
  | 1 | 2 => st = 0
  | 3 => st = 1
  | 4 => st = 2
  | 5 => st ≠ 0
  | 6 => st = 0 ∨ st = 3
  | _ => False

theorem State.bobCmd_unfit {s : State} {op b time : Nat} (h : ¬ bobCmdFits op (s.bobState b)) :
    s.bobCmd op b time = (false, s) := by
  unfold State.bobCmd
  split
  case isTrue => rfl
  case isFalse =>
    split
    case h_1 | h_2 | h_3 | h_4 => exact if_pos h
    case h_5 => exact if_pos (not_not.mp h)
    case h_6 => exact if_pos (not_or.mp h)
    case h_7 => rfl

theorem State.bobCmdReg_unfit {s : State} {op b : Nat} (hup : s.hostUp = true) (h : ¬ bobCmdFits op (s.bobState b)) :
    s.bobCmdReg op b = s.setFld CORE_BOBCMD CORE_BOBCMD_RESULT 1 :=
  State.bobCmdReg_refused hup (State.bobCmd_unfit h)

/-! ### The commands that are carried out -/

/-- The first bar of a command: a VALID bobbin, not in STANDBY, and for the starts not at the end of life (R359). -/
structure State.BobOpen (s : State) (op b : Nat) : Prop where
  valid : s.bobValid b = true
  power : s.powerState ≠ 2
  alive : op = 1 ∨ op = 2 → s.lifecycle ≠ 4

section Commands

variable {s : State} {b time : Nat}

theorem State.BobOpen.not_barred {op : Nat} (h : s.BobOpen op b) :
    ¬ (!s.bobValid b || s.powerState == 2 || (s.lifecycle == 4 && (op == 1 || op == 2))) = true := by
  obtain ⟨hvalid, hpower, halive⟩ := h
  simp only [hvalid, beq_false_of_ne hpower, Bool.not_true, Bool.or_self, Bool.false_or, Bool.and_eq_true, Bool.or_eq_true,
    beq_iff_eq]
  exact fun ⟨hlife, hop⟩ => halive hop hlife

/-- A start of a capture bobbin with an empty ring begins the numbers of its records anew. -/
def State.bobSeqReset (s : State) (b : Nat) : State :=
  if s.bobCapture b = true ∧ (s.bob b).ring = [] then s.setBob b { s.bob b with capSeq := 0 } else s

theorem State.bobCmd_start (hopen : s.BobOpen 1 b) (hstate : s.bobState b = 0) :
    s.bobCmd 1 b time = (true, (s.bobSeqReset b).setBobState b 1) :=
  (if_neg hopen.not_barred).trans (if_neg (not_not.mpr hstate))

theorem State.bobCmd_startAt_capture (hopen : s.BobOpen 2 b) (hstate : s.bobState b = 0) (hcap : s.bobCapture b = true) :
    s.bobCmd 2 b time = (true, (s.bobSeqReset b).setBobState b 1) :=
  ((if_neg hopen.not_barred).trans (if_neg (not_not.mpr hstate))).trans
    (congrArg (fun t : State => (true, t.setBobState b 1)) (if_neg (by simp [hcap])))

theorem State.bobCmd_startAt_playout {o : Option RingRec} (hopen : s.BobOpen 2 b) (hstate : s.bobState b = 0)
    (hplay : s.bobCapture b = false)
    (ho : o = ((s.bob b).ring.filter (fun r => r.isSeg && decide (r.id ≤ (s.bob b).pos))).getLast?) :
    s.bobCmd 2 b time =
      (true, (o.elim s (fun g => s.setBobShift b (time + 2 ^ 64 - segS g.hdr))).setBobState b 1) := by
  simp only [State.bobCmd, if_neg hopen.not_barred, hstate, hplay, ne_eq, not_true_eq_false, Bool.false_eq_true, false_and,
    Bool.not_false, and_self, if_true, if_false, ← ho]
  cases o with
  | none => rw [Option.elim_none]
  | some g => rw [Option.elim_some]

theorem State.bobCmd_pause (hopen : s.BobOpen 3 b) (hstate : s.bobState b = 1) (hstill : (s.releaseDue b).bobState b = 1) :
    s.bobCmd 3 b time =
      (true, ((s.releaseDue b).setBob b
        { (s.releaseDue b).bob b with vp := (s.releaseDue b).viewNow (s.bobTenant b) }).setBobState b 2) :=
  ((if_neg hopen.not_barred).trans (if_neg (not_not.mpr hstate))).trans (if_neg (not_not.mpr hstill))

theorem State.bobCmd_resume_capture (hopen : s.BobOpen 4 b) (hstate : s.bobState b = 2) (hcap : s.bobCapture b = true) :
    s.bobCmd 4 b time = (true, s.setBobState b 1) :=
  ((if_neg hopen.not_barred).trans (if_neg (not_not.mpr hstate))).trans (if_pos hcap)

theorem State.setBobShift_mer (s : State) (b v : Nat) : (s.setBobShift b v).mer = s.mer := rfl

/-- RESUME adds the time of the pause to the shift, and to the release times of the staged records (log 117). -/
theorem State.bobCmd_resume_playout {d : Nat} (hopen : s.BobOpen 4 b) (hstate : s.bobState b = 2)
    (hplay : s.bobCapture b = false) (hd : d = (s.viewNow (s.bobTenant b) + 2 ^ 64 - (s.bob b).vp) % 2 ^ 64) :
    s.bobCmd 4 b time =
      (true, (((s.setBobShift b (s.bobShift b + d)).setBob b
        { s.bob b with
          staged := (s.bob b).staged.map (fun r =>
            { r with rtEff := (r.rtEff + d) % 2 ^ 64, since := s.mer }) }).setBobState b 1)) := by
  simp only [State.bobCmd, if_neg hopen.not_barred, hstate, hplay, ne_eq, not_true_eq_false, Bool.false_eq_true, if_false,
    State.setBobShift_mer, -Nat.reducePow, ← hd]

theorem State.bobCmd_stop (hopen : s.BobOpen 5 b) (hstate : s.bobState b ≠ 0) :
    s.bobCmd 5 b time = (true, (s.releaseDue b).bobStop b) :=
  (if_neg hopen.not_barred).trans (if_neg hstate)

/-- FLUSH empties the ring and leaves its write offset where it is (log 118). -/
theorem State.bobCmd_flush (hopen : s.BobOpen 6 b) (hstate : s.bobState b = 0 ∨ s.bobState b = 3) :
    s.bobCmd 6 b time =
      (true, ((((s.setBob b
        { s.bob b with
          ring := [], pos := (s.bob b).nextId, staged := [], crossed := false, needRst := true, relSeq := 0, uwseq := 0,
          urst := true, uretry := none, lastSeg := false, curLast := false, skip := false }).setBobLastSeq b 0).setBobLoops b
        (s.fld (bobWord b 5) BOBBIN_LOOPS)).bobSettle b).bobMirror b) :=
  (if_neg hopen.not_barred).trans (if_neg (not_and_or.mpr (hstate.imp not_not.mpr not_not.mpr)))

end Commands

/-! ### The statement -/

/-- Settles O34: a commit and each command are the equation of their case, with the RESULT that CORE_BOBCMD then shows. -/
theorem bobbinCommandRegisterCommandsComplete : Obligations.BobbinCommandRegisterCommandsComplete := by
  refine ⟨?commit, ?carriedOut, ?refused, ?report⟩
  case commit =>
    intro s t u i b w nw hup hnw ht hu
    refine ⟨fun h => next_settle_congr _ _ _ (State.bobCommitOp_accepted hup hnw ht hu h), fun h => ?_⟩
    subst hnw
    exact next_settle_congr _ _ _ (State.bobCommitOp_refused hup h)
  case carriedOut =>
    intro s u v b hup hvalid hpower hu hv
    subst hu hv
    have hstarts (op : Nat) (hlife : s.lifecycle ≠ 4) : s.BobOpen op b := ⟨hvalid, hpower, fun _ => hlife⟩
    have hothers {op : Nat} (hop : 2 < op) : s.BobOpen op b := ⟨hvalid, hpower, fun h => by omega⟩
    have hdone {op : Nat} {t : State} (h : s.bobCmd op b (s.rd64 CORE_BOBT_LO) = (true, t)) := State.bobCmdReg_done hup h
    refine ⟨fun hst hlife => next_settle_congr _ _ _ (hdone ?start),
      fun hst hlife hcap => next_settle_congr _ _ _ (hdone ?startAtCapture),
      fun o hst hlife hplay ho => next_settle_congr _ _ _ (hdone ?startAtPlayout),
      fun hst hstill => next_settle_congr _ _ _ (hdone ?pause),
      fun hst hcap => next_settle_congr _ _ _ (hdone ?resumeCapture),
      fun d hst hplay hd => next_settle_congr _ _ _ (hdone ?resumePlayout),
      fun hst => next_settle_congr _ _ _ (hdone ?stop), fun hst => next_settle_congr _ _ _ (hdone ?flush)⟩
    case start => exact State.bobCmd_start (hstarts 1 hlife) hst
    case startAtCapture => exact State.bobCmd_startAt_capture (hstarts 2 hlife) hst hcap
    case startAtPlayout =>
      refine (State.bobCmd_startAt_playout (hstarts 2 hlife) hst hplay ho).trans ?_
      cases o with
      | none => rw [Option.elim_none]
      | some g => rw [Option.elim_some]
    case pause => exact State.bobCmd_pause (hothers (by decide)) hst hstill
    case resumeCapture => exact State.bobCmd_resume_capture (hothers (by decide)) hst hcap
    case resumePlayout => exact State.bobCmd_resume_playout (hothers (by decide)) hst hplay hd
    case stop => exact State.bobCmd_stop (hothers (by decide)) hst
    case flush => exact State.bobCmd_flush (hothers (by decide)) hst
  case refused =>
    intro s b hup
    have hunfit {op : Nat} (h : ¬ bobCmdFits op (s.bobState b)) := State.bobCmdReg_unfit hup h
    exact ⟨fun h => ⟨next_settle_congr _ _ _ (hunfit (op := 1) h), next_settle_congr _ _ _ (hunfit (op := 2) h)⟩,
      fun h => next_settle_congr _ _ _ (hunfit (op := 3) h), fun h => next_settle_congr _ _ _ (hunfit (op := 4) h),
      fun h => next_settle_congr _ _ _ (hunfit (op := 5) (not_not.mpr h)),
      fun h0 h3 => next_settle_congr _ _ _ (hunfit (op := 6) (not_or.mpr ⟨h0, h3⟩))⟩
  case report => exact fun s b hrunning => next_settle_congr _ _ _ (if_pos hrunning)

end Sys2Proof.Machine

/-! ## Bobbins: winding, staging, release and unwinding (R355 to R358, R361 to R366, R371)

Each operation is a chain of checks. The lemmas follow it down to the outcome that a sound frame or a due record reaches. -/

namespace Sys2Proof.Machine

/-! ### Winding -/

/-- A sound wind frame for a playout bobbin of its tenant is judged by its RST and WSEQ alone (R355, log 62). -/
theorem State.windFrameOp_addressed {s t : State} {it : Item} {rest : List Item} {h : List Byte}
    {recs : List (List Byte × List Byte)} {b wseq : Nat} (hin : s.windIn = it :: rest) (ht : t = { s with windIn := rest })
    (hparse : windParse it = some (h, recs)) (hb : b = beAt h 2 2 % 4096) (hwseq : wseq = beAt h 4 2)
    (hvalid : t.bobValid b = true) (hplay : t.bobCapture b = false) (hten : t.bobTenant b = it.tenant) :
    s.windFrameOp =
      if (oct h 1).testBit 7 = true ∧ (t.bob b).ring = [] ∨
          wseq = t.fld (bobWord b 18) BOBBIN_WNEXT ∧ (t.bob b).needRst = false then
        t.windIt b wseq recs
      else if 1 ≤ (t.fld (bobWord b 18) BOBBIN_WNEXT + 65536 - wseq) % 65536 ∧
          (t.fld (bobWord b 18) BOBBIN_WNEXT + 65536 - wseq) % 65536 ≤ 32768 then t.bobCount b 7
      else (t.bobCount b 8).bobEvent b BOBBIN_EVT_WIND_GAP := by
  subst hb hwseq
  simp only [State.windFrameOp, hin, ← ht, hparse, hvalid, hplay, hten, Bool.not_true, Bool.or_self, Bool.false_eq_true,
    if_false, ne_eq, not_true_eq_false, Bool.and_eq_true, List.isEmpty_iff, Bool.not_eq_true', ite_or]

theorem State.windIt_malformed {s : State} {b wseq : Nat} {recs : List (List Byte × List Byte)}
    (hfilter : windFilter (s.bob b).ctx recs = none) :
    s.windIt b wseq recs = (s.bobCount b 6).bobEvent b BOBBIN_EVT_WIND_ERR := by
  rw [State.windIt, hfilter]

/-- With room in the ring and in the winder the records that pass are appended, and wait for their stack (R356 to R358). -/
theorem State.windIt_wound {s u v : State} {b wseq n bad : Nat} {recs keep : List (List Byte × List Byte)}
    (hfilter : windFilter (s.bob b).ctx recs = some (keep, bad)) (hn : n = keep.foldl (fun a p => a + recUnits p.1) 0)
    (hring : ringUnits (s.bob b).ring + n ≤ s.bobCap b) (hload : s.winderLoad (s.bobStack b) + 16 * n ≤ 4 * 1048576)
    (hv : v = s.ringAppend b false keep)
    (hu : u = ((v.setBob b
      { v.bob b with
        needRst := false
        lastSeg := (s.bob b).lastSeg || keep.any (fun p => recType p.1 == 3 && segLast p.1) }).setFld (bobWord b 18) BOBBIN_WNEXT
      ((wseq + 1) % 65536)).bobCount b 5) :
    s.windIt b wseq recs =
      (let x := if bad = 0 then u else (u.bobCount b 6 bad).bobEvent b BOBBIN_EVT_WIND_ERR
       if keep = [] then x
       else x.setFills (s.bobStack b)
         (x.fills (s.bobStack b) ++ [{ bob := b, last := (x.bob b).nextId, octets := 16 * n, src := none }])) := by
  subst hn hv hu
  simp only [State.windIt, hfilter, if_neg (Nat.not_lt.mpr hring), if_neg (Nat.not_lt.mpr hload), List.isEmpty_iff]

/-- The oldest write that waits for a stack goes to the pool, and its records are in the stack (R358). -/
theorem State.windDoneOp_oldest {s t : State} {die : Nat} {j : FillJob} {rest : List FillJob} (hfills : s.fills die = j :: rest)
    (ht : t = s.setFills die rest) :
    s.windDoneOp die =
      ((((t.bob j.bob).ring.filter (fun r => !r.written && decide (r.id < j.last))).foldl
        (fun u r => (u.poolWrite j.bob r).poolCoded j.bob r) t).setBob j.bob
        { t.bob j.bob with
          ring := (t.bob j.bob).ring.map (fun r => if r.id < j.last then { r with written := true } else r) }).obsDie die 0x071
        j.octets := by
  simp only [State.windDoneOp, hfills, ← ht]

/-! ### Staging -/

/-- The next record at the stager of a RUNNING playout bobbin, where it is a data record in the stack (R361). -/
theorem State.stageRecordOp_data {s : State} {b : Nat} {r : RingRec} (hvalid : s.bobValid b = true)
    (hplay : s.bobCapture b = false) (hrunning : s.bobState b = 1)
    (hnext : (s.bob b).ring.find? (fun r => decide ((s.bob b).pos ≤ r.id)) = some r) (hwritten : r.written = true)
    (hdata : r.isSeg = false) :
    s.stageRecordOp b = (s.setFld (bobWord b 16) BOBBIN_STARVED 0).stageData b r := by
  simp only [State.stageRecordOp, hvalid, hplay, hrunning, Bool.not_false, Bool.and_self, beq_self_eq_true, if_true,
    State.stagerRun, hnext, hwritten, hdata, Bool.not_true, Bool.false_eq_true, if_false]

/-- The stager may take the cells of a record (R362): within the bobbin's cells and the panel's STAGE_MAX, free, and not held
back by the die's degraded level (R65). A record of more cells than the bobbin may stage goes alone. -/
structure State.StageRoom (s : State) (b c : Nat) : Prop where
  own : if stageCells s b < c then (s.bob b).held = 0 else (s.bob b).held < stageCells s b
  panel : s.fld (CORE_PNLp_STAGE (s.bobPanel b)) CORE_PNLp_STAGE_STAGE_USE <
    s.fld (CORE_PNLp_STAGE (s.bobPanel b)) CORE_PNLp_STAGE_STAGE_MAX
  free : c ≤ s.sharedFree (s.bobPanel b)
  level : s.mayStage (panelDie (s.bobPanel b)) = true

theorem State.StageRoom.not_held {s : State} {b c : Nat} (h : s.StageRoom b c) :
    ¬ ((if stageCells s b < c then (s.bob b).held ≠ 0 else stageCells s b ≤ (s.bob b).held) ∨
      s.fld (CORE_PNLp_STAGE (s.bobPanel b)) CORE_PNLp_STAGE_STAGE_MAX ≤
        s.fld (CORE_PNLp_STAGE (s.bobPanel b)) CORE_PNLp_STAGE_STAGE_USE ∨
      s.sharedFree (s.bobPanel b) < c ∨ (!s.mayStage (panelDie (s.bobPanel b))) = true) := by
  obtain ⟨hown, hpanel, hfree, hlevel⟩ := h
  have hcells : ¬ if stageCells s b < c then (s.bob b).held ≠ 0 else stageCells s b ≤ (s.bob b).held := by
    split_ifs at hown ⊢
    · exact not_not.mpr hown
    · exact Nat.not_le.mpr hown
  simp [hcells, Nat.not_le.mpr hpanel, Nat.not_lt.mpr hfree, hlevel]

/-- A data record that no check of R362, R364, R365 and R572 turns away, due within the lead and not too late, is staged. -/
theorem State.stageData_staged {s v x : State} {b m c : Nat} {r : RingRec} {it : Item} (hskip : (s.bob b).skip = false)
    (hsound : s.poolBad b r = false) (hnewer : (s.bob b).crossed = true → newerSeq (s.bobLastSeq b) (recSeq r.hdr) = true)
    (hfits : recFits (s.bobDkind b) (recType r.hdr) = true)
    (hm : m = s.releaseTick (s.bobTenant b) ((recRt r.hdr + s.bobShift b) % 2 ^ 64)) (hlead : m ≤ s.mer + stageLead s b)
    (hit : it = s.recItem b r) (hc : c = cellsOf it.stored) (hroom : s.StageRoom b c)
    (hv : v = (s.poolRead b r).staged (panelDie (s.bobPanel b)) (16 * r.units))
    (htime : m < v.mer → v.fld (bobWord b 5) BOBBIN_LATE_MAX = 65535 ∨
      v.mer - m ≤ v.fld (bobWord b 5) BOBBIN_LATE_MAX * usTicks)
    (hx : x = (v.setBob b { v.bob b with pos := r.id + 1 }).setBobLastSeq b (recSeq r.hdr)) :
    s.stageData b r = State.addStaged
      ((((x.setBob b { x.bob b with crossed := false }).obsDie (panelDie (s.bobPanel b)) 0x070 (16 * r.units)).addStageUse
        (s.bobPanel b) c).setShared (s.bobPanel b) (v.sharedFree (s.bobPanel b) - c)) b
      { id := r.id, seq := recSeq r.hdr, rtEff := (recRt r.hdr + s.bobShift b) % 2 ^ 64, item := it, cells := c,
        late := decide (m < v.mer), since := v.mer } := by
  have hread : ¬ ((s.bob b).skip || s.poolBad b r) = true := by simp [hskip, hsound]
  have hnew : ¬ ((s.bob b).crossed && !newerSeq (s.bobLastSeq b) (recSeq r.hdr)) = true := by simpa using hnewer
  have hkind : ¬ (!recFits (s.bobDkind b) (recType r.hdr)) = true := by simp [hfits]
  have hlate : ¬ (m < v.mer ∧ v.fld (bobWord b 5) BOBBIN_LATE_MAX ≠ 65535 ∧
      v.fld (bobWord b 5) BOBBIN_LATE_MAX * usTicks < v.mer - m) := fun ⟨hpast, hmax, hover⟩ =>
    (htime hpast).elim hmax (Nat.not_le.mpr hover)
  subst hm hit hc hv hx
  exact (if_neg hread).trans ((if_neg hnew).trans ((if_neg hkind).trans ((if_neg (Nat.not_lt.mpr hlead)).trans
    ((if_neg hroom.not_held).trans (if_neg hlate)))))

/-! ### Release -/

/-- A record whose tick has come leaves the staged ones of its bobbin for the destination (R363 to R366). -/
theorem State.releaseHead_due {t u : State} {b m : Nat} {x : Staged} (hdue : t.releasable b = some x) (hm : m = t.stagedTick b x)
    (hu : u = (((t.setBob b
      { t.bob b with staged := (t.bob b).staged.tail, relId := x.id, relSeq := x.seq }).bobCount b 0).obs (t.bobPanel b) 0x090 1
        (some (t.bobTenant b))).histSample 4 (t.bobPanel b) b (m - t.stagedDue b x) (some (t.bobTenant b))) :
    t.releaseHead b =
      ((if x.late = true then
          ((u.bobCount b 2).bobEvent b BOBBIN_EVT_LATE).obs (t.bobPanel b) 0x091 1 (some (t.bobTenant b))
        else u).releaseTo b x m).ringGone b x.id := by
  simp only [State.releaseHead, hdue, ← hm, ← hu]

/-- A release lets the bobbins of lower number go first, as far as they are due at its tick (R363). -/
theorem State.bobReleaseOp_due {s : State} {b : Nat} {r : Staged} (hdue : s.releasable b = some r) :
    s.bobReleaseOp b = ((s.bobs.filter (fun p => decide (p.1 < b))).foldl
      (fun t p => t.releaseUpTo p.1 (s.stagedTick b r) (t.bob p.1).staged.length) s).releaseHead b := by
  simp only [State.bobReleaseOp, hdue]

/-! ### Unwinding -/

/-- The wind frame that is full, or whose oldest record has waited 100 µs, goes to its port if that admits it (R371). -/
theorem State.unwindFrameOp_due {s : State} {b n : Nat} {d : Dest} {first : RingRec} {more : List RingRec} {it : Item}
    (hready : s.unwindReady b = true) (htake : s.unwindTake b = first :: more)
    (hdue : s.unwindFull b (first :: more) = true ∨ first.at_ + 100 * usTicks ≤ s.mer) (hn : n = s.bobTarget b)
    (hit : it = s.unwindItem b (first :: more)) (hd : d = .port n (s.queueOf it n)) :
    s.unwindFrameOp b =
      if s.admits d.panel (s.sharedFree d.panel) (cellsOf it.stored) false false d = true then
        (((s.setBob b ((s.bob b).unwind (first :: more))).obsDie (s.bobStack b) 0x070
          (16 * ringUnits (first :: more))).bobCount b 14).queueOne it d
      else s.setBob b { s.bob b with uretry := some (s.mer + usTicks) } := by
  have hgoes : ¬ ((!s.unwindFull b (first :: more)) = true ∧ s.mer < first.at_ + 100 * usTicks) := by
    rw [Bool.not_eq_true', ← Bool.not_eq_true, ← Nat.not_le]
    exact not_and_or.mpr (hdue.imp not_not.mpr not_not.mpr)
  subst hn hit hd
  simp only [State.unwindFrameOp, hready, htake, Bool.not_true, Bool.false_eq_true, if_false, if_neg hgoes]

/-! ### The statement -/

/-- Settles O35: each clause is its operation followed down its checks to the outcome that the clause names. -/
theorem bobbinDataCommandsComplete : Obligations.BobbinDataCommandsComplete := by
  refine ⟨?wind, ?written, ?stage, ?release, ?unwind⟩
  case wind =>
    intro s t u v it rest h recs b wseq n d hin ht hparse hb hwseq hvalid hplay hten hd
    subst hd
    have hop := State.windFrameOp_addressed hin ht hparse hb hwseq hvalid hplay hten
    refine ⟨fun hdue => ⟨fun hbad => ?malformed, fun keep bad hfilter hn hring hload hv hu => ?wound⟩,
      fun hrst hnext => ?ignored⟩
    case malformed => exact next_settle_congr _ _ _ (hop.trans ((if_pos hdue).trans (State.windIt_malformed hbad)))
    case wound =>
      exact next_settle_congr _ _ _
        (hop.trans ((if_pos hdue).trans (State.windIt_wound hfilter hn hring hload hv hu)))
    case ignored =>
      refine next_settle_congr _ _ _ (hop.trans (if_neg (not_or.mpr ⟨?_, ?_⟩)))
      · exact not_and_or.mpr (hrst.imp_left ne_true_of_eq_false)
      · exact not_and_or.mpr (hnext.imp_right ne_false_of_eq_true)
  case written => exact fun s t die j rest hfills ht => next_settle_congr _ _ _ (State.windDoneOp_oldest hfills ht)
  case stage =>
    intro s u v x b p m c r it hvalid hplay hrunning hnext hwritten hdata hu hp hskip hsound hnewer hfits hm hlead hit hc hown
      hpanel hfree hlevel hv htime hx
    subst hu hp
    exact next_settle_congr _ _ _ ((State.stageRecordOp_data hvalid hplay hrunning hnext hwritten hdata).trans
      (State.stageData_staged hskip hsound hnewer hfits hm hlead hit hc ⟨hown, hpanel, hfree, hlevel⟩ hv htime hx))
  case release =>
    intro s t u b m r x hfirst ht hdue hm hu
    subst ht
    exact next_settle_congr _ _ _ ((State.bobReleaseOp_due hfirst).trans (State.releaseHead_due hdue hm hu))
  case unwind =>
    intro s b n d first more it hready htake hdue hn hit hd
    have hop := State.unwindFrameOp_due hready htake hdue hn hit hd
    exact ⟨fun hadmits => next_settle_congr _ _ _ (hop.trans (if_pos hadmits)),
      fun hfull => next_settle_congr _ _ _ (hop.trans (if_neg (ne_true_of_eq_false hfull)))⟩

end Sys2Proof.Machine

/-! ## What every step ends with (R483, R484)

Every command's answer is its effect settled, and settling sends, source by source, what rose; so what holds of `settle` holds of
every step. -/

namespace Sys2Proof.Machine

/-! ### Every step settles -/

/-- Every command answers its effect, settled. -/
theorem exec_settles (c : Instr) (s : State) : ∃ t, exec c s = .next (settle s t) := by
  cases c <;> exact ⟨_, rfl⟩

/-- Every step settles an effect on the state without its front command. -/
theorem step_settles (s : State) : ∃ t, step s = .next (settle { s with pending := s.pending.tail } t) := by
  unfold step
  split
  · next h => exact ⟨s.tick, by rw [h]; exact congrArg (fun q => Host.Outcome.next (settle { s with pending := q } s.tick)) h⟩
  · next c rest h => simpa only [h, List.tail_cons] using exec_settles c { s with pending := rest }

/-- What a step answers. -/
theorem eq_settle_of_step {s t : State} (h : step s = .next t) : ∃ u, t = settle { s with pending := s.pending.tail } u := by
  obtain ⟨u, hu⟩ := step_settles s
  exact ⟨u, by simpa [hu] using h.symm⟩

/-- Settling settles the edge detector. -/
theorem settle_irqSettled (s t : State) : IrqSettled (settle s t) := (settle_irqNow s t).symm

/-! ### What is sent -/

@[simp] theorem State.sendMsix_masked (s : State) (v i : Nat) : (s.sendMsix v).msixMasked i = s.msixMasked i := by
  rw [State.sendMsix_frame]; rfl

/-- Vector i's message has left the device, or the vector is masked and its pending bit is set. -/
def State.signalled (s : State) (i : Nat) : Prop := Out.msix i ∈ s.out ∨ (s.msixMasked i = true ∧ s.msixPend.testBit i = true)

theorem State.sendMsix_signalled (s : State) (i : Nat) : (s.sendMsix i).signalled i := by
  unfold State.sendMsix State.signalled
  split
  · next h => exact Or.inr ⟨h, by simp [Nat.testBit_or, Nat.testBit_two_pow_self]⟩
  · exact Or.inl List.mem_cons_self

/-- What has been signalled stays so when another message is sent. -/
theorem State.signalled.sendMsix {s : State} {i : Nat} (h : s.signalled i) (v : Nat) : (s.sendMsix v).signalled i := by
  rcases h with hout | ⟨hmask, hpend⟩
  · refine Or.inl ?_
    unfold State.sendMsix
    split
    · exact hout
    · exact List.mem_cons_of_mem _ hout
  · refine Or.inr ⟨(s.sendMsix_masked v i).trans hmask, ?_⟩
    unfold State.sendMsix
    split
    · simp [Nat.testBit_or, hpend]
    · exact hpend

/-- Every source of a list that the mask names is signalled once the list has been gone through. -/
theorem foldl_sendMsix_signalled {m i : Nat} (hm : m.testBit i = true) (l : List Nat) {s : State} (h : i ∈ l ∨ s.signalled i) :
    (l.foldl (fun t k => if m.testBit k then t.sendMsix k else t) s).signalled i := by
  induction l generalizing s with
  | nil => exact h.resolve_left List.not_mem_nil
  | cons k l ih =>
    refine ih ?_
    beta_reduce
    rcases h with hmem | hsig
    · rcases List.mem_cons.mp hmem with rfl | hl
      · exact Or.inr (by rw [if_pos hm]; exact s.sendMsix_signalled i)
      · exact Or.inl hl
    · refine Or.inr ?_
      split
      · exact hsig.sendMsix k
      · exact hsig

/-- Every source below 15 that rose has been signalled once the effect has settled. -/
theorem settle_signalled {s t : State} {i : Nat} (hi : i < 15) (hnow : t.irqNow.testBit i = true)
    (hprev : s.irqPrev.testBit i = false) : (settle s t).signalled i :=
  foldl_sendMsix_signalled (by simp [Nat.testBit_and, Nat.testBit_xor, hnow, hprev]) (List.range 15) (Or.inl (List.mem_range.mpr hi))

/-- Sources of which the mask names none send nothing. -/
theorem State.sendSources_none {s : State} {m : Nat} (h : ∀ i < 15, m.testBit i = false) : s.sendSources m = s := by
  have hnone (l : List Nat) (hl : ∀ i ∈ l, m.testBit i = false) :
      l.foldl (fun t i => if m.testBit i then t.sendMsix i else t) s = s := by
    induction l with
    | nil => rfl
    | cons i l ih =>
      rw [List.foldl_cons, if_neg (by simp [hl i List.mem_cons_self])]
      exact ih fun j hj => hl j (List.mem_cons_of_mem _ hj)
  exact hnone _ fun i hi => h i (List.mem_range.mp hi)

/-- With no source risen nothing is sent. -/
theorem settle_of_no_rise {s t : State} (h : ∀ i < 15, t.irqNow.testBit i = true → s.irqPrev.testBit i = true) :
    settle s t = { t with irqPrev := t.irqNow, pending := s.pending } := by
  unfold settle
  rw [State.sendSources_none]
  intro i hi
  have hrise := h i hi
  cases hnow : t.irqNow.testBit i
  · simp [Nat.testBit_and, hnow]
  · simp [Nat.testBit_and, Nat.testBit_xor, hnow, hrise hnow]

/-! ### The statements -/

/-- Settles O4: every step ends with `settle`, which sets the edge detector to the present bits and leaves the registers. -/
theorem interruptEdgesAreKept : Obligations.InterruptEdgesAreKept := by
  intro s t _ hstep
  obtain ⟨u, rfl⟩ := eq_settle_of_step hstep
  exact settle_irqSettled _ u

/-- Settles O6: a step ends with `settle`, which goes through the sources that rose, and what one signals no later one unsays. -/
theorem everyRiseIsSignalled : Obligations.EveryRiseIsSignalled := by
  intro s t hs hstep i hi hnow hprev
  obtain ⟨u, rfl⟩ := eq_settle_of_step hstep
  rw [settle_irqNow] at hnow
  rw [← show s.irqPrev = s.irqNow from hs] at hprev
  exact settle_signalled hi hnow hprev

/-- Settles O7: the frame of the messages sent, and that none is sent where no source rose. -/
theorem settleChangesFourFields : Obligations.SettleChangesFourFields := by
  intro s t
  refine ⟨settle_frame s t, fun h => ?_⟩
  rw [settle_of_no_rise h]
  exact ⟨rfl, rfl⟩

/-- Settles O3: every command and every tick answers a settled effect, which has the queue of the state it began with. -/
theorem everyStepGoesOnAndTakesOneCommand : Obligations.EveryStepGoesOnAndTakesOneCommand := by
  intro s
  obtain ⟨u, hu⟩ := step_settles s
  exact ⟨_, hu, rfl⟩

/-- Settles O1: a step on a queue that is not empty is the command at its front. -/
theorem stepRunsFrontCommand : Obligations.StepRunsFrontCommand := fun _ _ _ => rfl

/-- Settles O5: nothing is listed after reset, so every source's level is 0. -/
theorem resetIsSettled : Obligations.ResetIsSettled := ⟨rfl, reset_memWf, rfl, rfl, rfl, rfl⟩

/-- Settles O8: register and heap words are entries of sparse maps, whose writes keep the canonical form. -/
theorem memoryKeepsCanonicalForm : Obligations.MemoryKeepsCanonicalForm := by
  intro s a k w hwf
  refine ⟨⟨s.wr_memWf a w hwf, s.rd_wr_same a w, fun b hb => s.rd_wr_other a b w hb⟩,
    s.heapWrite_memWf k w hwf, ?same, fun j hj => ?other⟩
  case same => exact Sparse.get_set_same _ _ _ _
  case other => exact Sparse.get_set_other _ _ _ _ _ hj

end Sys2Proof.Machine

/-! ## A tick (R73, log entry 2)

What a tick does beside Meridian's advance neither moves Meridian nor puts a word in the SPI write queue or a write among those
left to apply alone. -/

namespace Sys2Proof.Machine

/-- What a tick's work must not touch for Meridian to advance by 1: Meridian, the SPI write queue and the lone writes. -/
def State.tickPart (s : State) : Nat × List (Nat × Word) × List Txn := (s.mer, s.hs.spiQ, s.sm.lone)

theorem State.tickPart_congr {s t : State} (hmer : t.mer = s.mer) (hhs : t.hs = s.hs) (hlone : t.sm.lone = s.sm.lone) :
    t.tickPart = s.tickPart := by
  rw [State.tickPart, State.tickPart, hmer, hhs, hlone]

/-- A record for the twin touches the mirror's queues and count, register words and the record of what left the device. -/
theorem State.mirror_frame (s : State) (kind : Nat) (values : List Nat) :
    ∃ regs out mirrorOut mirrorWait mseqTx nonce, s.mirror kind values =
      { s with regs := regs, out := out, mirrorOut := mirrorOut, mirrorWait := mirrorWait, mseqTx := mseqTx,
               sm := { s.sm with nonceTx := nonce } } := by
  unfold State.mirror
  split
  · exact ⟨_, _, _, _, _, _, rfl⟩
  · split
    · exact ⟨_, _, _, _, _, _, rfl⟩
    · split
      · exact ⟨_, _, _, _, _, _, rfl⟩
      · split <;> exact ⟨_, _, _, _, _, _, rfl⟩

theorem State.mirror_tickPart (s : State) (kind : Nat) (values : List Nat) : (s.mirror kind values).tickPart = s.tickPart := by
  obtain ⟨_, _, _, _, _, _, h⟩ := s.mirror_frame kind values
  rw [h]
  exact State.tickPart_congr rfl rfl rfl

theorem State.frerTick_tickPart (s : State) : s.frerTick.tickPart = s.tickPart := by
  unfold State.frerTick
  split
  · rfl
  · refine State.foldl_keeps State.tickPart (fun t p => ?_) _ s
    rw [State.mirror_tickPart]
    exact State.tickPart_congr rfl rfl rfl

theorem State.traceLossNext_tickPart (s : State) (d : Nat) : (s.traceLossNext d).tickPart = s.tickPart := by
  unfold State.traceLossNext
  dsimp only
  split
  · rfl
  · exact State.tickPart_congr rfl rfl rfl

theorem State.laneSend_tickPart (s : State) (d : Nat) : (s.laneSend d).tickPart = s.tickPart := by
  unfold State.laneSend
  split
  · rfl
  · have hnext := s.traceLossNext_tickPart d
    generalize s.traceLossNext d = t at hnext ⊢
    dsimp only
    split
    · rfl
    · rw [← hnext]
      exact State.tickPart_congr rfl rfl rfl

theorem State.logRec_tickPart (s : State) (r : LogRec) : (s.logRec r).tickPart = s.tickPart := by
  unfold State.logRec
  split <;> exact State.tickPart_congr rfl rfl rfl

theorem State.setCoal_tickPart (s : State) (l : List (Nat × CoalEnt)) : (s.setCoal l).tickPart = s.tickPart :=
  State.tickPart_congr rfl rfl rfl

theorem State.coalClose_tickPart (s : State) (k : Nat) (x : CoalEnt) : (s.coalClose k x).tickPart = s.tickPart := by
  unfold State.coalClose
  exact .trans (State.tickPart_congr rfl rfl rfl) ((State.logRec_tickPart _ _).trans (s.setCoal_tickPart _))

theorem State.coalClose_ite_tickPart (s : State) (k : Nat) (x : CoalEnt) :
    (if s.coalDue x = true then s.coalClose k x else s).tickPart = s.tickPart := by
  rw [apply_ite State.tickPart, State.coalClose_tickPart, ite_self]

theorem State.faultReport_tickPart (s : State) (suspect reporter sev code : Nat) :
    (s.faultReport suspect reporter sev code).tickPart = s.tickPart := by
  unfold State.faultReport
  extract_lets s1 known slot full id s2 s3
  have h1 : s1.tickPart = s.tickPart := by
    simp only [s1]
    split
    · exact State.coalClose_ite_tickPart _ _ _
    · rfl
  have h2 : s2.tickPart = s1.tickPart := by
    simp only [s2]
    split
    · exact State.tickPart_congr rfl rfl rfl
    · rfl
  have h3 : s3.tickPart = s2.tickPart := by
    simp only [s3]
    split
    · split
      · exact State.coalClose_ite_tickPart _ _ _
      · rfl
    · rfl
  rw [← h1, ← h2, ← h3]
  split <;> exact State.setCoal_tickPart _ _

theorem State.coalTake_tickPart (s : State) : s.coalTake.tickPart = s.tickPart := by
  unfold State.coalTake
  split
  · rfl
  · split
    · rfl
    · exact (State.faultReport_tickPart _ _ _ _ _).trans (State.tickPart_congr rfl rfl rfl)

theorem State.loneApply_of_none {s : State} (h : s.sm.lone = []) : s.loneApply = s := by
  rw [State.loneApply, h, List.foldl_nil, ← h]

theorem State.spiDrain_of_none {s : State} (n : Nat) (h : s.hs.spiQ = []) : s.spiDrain n = s := by
  cases n with
  | zero => rfl
  | succ n => simp only [State.spiDrain, h]

theorem State.levelTick_mer (s : State) : s.levelTick.mer = s.mer := by
  unfold State.levelTick
  split
  · rfl
  · exact State.foldl_keeps State.mer (fun t c => by rw [apply_ite State.mer, State.counterStep_mer, ite_self]) _ _

theorem State.tick_of_stopped {s : State} (h : s.flag TIME_STAT TIME_STAT_RUN = false) : s.tick = s :=
  if_neg (ne_true_of_eq_false h)

/-- While Meridian counts and nothing waits to be applied, a tick advances it by 1. -/
theorem State.tick_mer {s : State} (hrun : s.flag TIME_STAT TIME_STAT_RUN = true) (hspi : s.hs.spiQ = []) (hlone : s.sm.lone = []) :
    s.tick.mer = (s.mer + 1) % 2 ^ 64 := by
  have hpart : (State.coalTake (State.laneSend (State.laneSend { s with mer := (s.mer + 1) % 2 ^ 64 } 0) 1)).tickPart =
      ((s.mer + 1) % 2 ^ 64, [], []) := by
    rw [State.coalTake_tickPart, State.laneSend_tickPart, State.laneSend_tickPart]
    simp only [State.tickPart, hspi, hlone]
  rw [State.tick, if_pos hrun, State.levelTick_mer]
  generalize State.coalTake _ = t at hpart
  have ht : t.sm.lone = [] := congrArg (fun p => p.2.2) hpart
  rw [State.loneApply_of_none ht]
  have hfrer := (State.frerTick_tickPart t).trans hpart
  rw [State.spiDrain_of_none 64 (congrArg (fun p => p.2.1) hfrer)]
  exact congrArg Prod.fst hfrer

/-- Settles O2: with no command waiting a step is a tick, which stands while Meridian does. -/
theorem emptyQueueTicks : Obligations.EmptyQueueTicks := by
  intro s hempty
  refine ⟨?_, State.tick_of_stopped, State.tick_mer⟩
  simp only [step, hempty]
  rfl

end Sys2Proof.Machine

/-! ## Histogram bins (R586) -/

namespace Sys2Proof.Machine

theorem histBin_zero {shift v : Nat} (h : v >>> shift = 0) : histBin shift v = 0 := if_pos h

theorem histBin_pos {shift v : Nat} (h : v >>> shift ≠ 0) : histBin shift v = min 31 (1 + Nat.log2 (v >>> shift)) := if_neg h

theorem histBin_le (shift v : Nat) : histBin shift v ≤ 31 := by
  unfold histBin
  dsimp only
  split <;> omega

theorem histBin_eq_zero_iff (shift v : Nat) : histBin shift v = 0 ↔ v >>> shift = 0 := by
  by_cases h : v >>> shift = 0
  · simp only [histBin_zero h, h]
  · rw [histBin_pos h]
    simp only [h, iff_false]
    omega

/-- Bins 1 to 30 are those between two powers of 2. -/
theorem histBin_eq_iff {k : Nat} (shift v : Nat) (h1 : 1 ≤ k) (h30 : k ≤ 30) :
    histBin shift v = k ↔ 2 ^ (k - 1) ≤ v >>> shift ∧ v >>> shift < 2 ^ k := by
  by_cases h : v >>> shift = 0
  · have hpow : 0 < 2 ^ (k - 1) := by positivity
    rw [histBin_zero h, h]
    omega
  · rw [histBin_pos h, ← Nat.le_log2 h, ← Nat.log2_lt h]
    omega

theorem histBin_eq_last_iff (shift v : Nat) : histBin shift v = 31 ↔ 2 ^ 30 ≤ v >>> shift := by
  by_cases h : v >>> shift = 0
  · rw [histBin_zero h, h]
    decide
  · rw [histBin_pos h, ← Nat.le_log2 h]
    omega

/-- Settles O55: the bin by the binary logarithm; a sample writes one entry, whose key names the unit and one bin. -/
theorem histogramBins : Obligations.HistogramBins := by
  refine ⟨fun shift v k => ⟨histBin_eq_zero_iff shift v, histBin_eq_iff shift v, histBin_eq_last_iff shift v, histBin_le shift v⟩, ?bins⟩
  case bins =>
    intro s h v b hb
    have hle := histBin_le (s.fld (HISTUNIT h) HISTUNIT_SHIFT) v
    unfold State.histAdd
    split
    · next heq => rw [heq]; exact Sparse.get_set_same _ _ _ _
    · next hne => exact Sparse.get_set_other _ _ _ _ _ (by omega)

end Sys2Proof.Machine

/-! ## Poison tags under writes (R573, R575) -/

namespace Sys2Proof.Machine

/-! ### What observation and an uncorrectable read touch -/

/-- Only register words, counter intervals and the running snapshot differ. -/
def State.countsOnly (s t : State) : Prop := ∃ regs ctrInt snapCopy, t = { s with regs := regs, ctrInt := ctrInt, snapCopy := snapCopy }

theorem State.countsOnly.refl (s : State) : s.countsOnly s := ⟨_, _, _, rfl⟩

theorem State.countsOnly.trans {s t u : State} (h : s.countsOnly t) (h' : t.countsOnly u) : s.countsOnly u := by
  obtain ⟨_, _, _, rfl⟩ := h
  obtain ⟨_, _, _, rfl⟩ := h'
  exact ⟨_, _, _, rfl⟩

theorem State.countsOnly.ite {s t u : State} {p : Prop} [Decidable p] (ht : s.countsOnly t) (hu : s.countsOnly u) :
    s.countsOnly (if p then t else u) := by
  split
  · exact ht
  · exact hu

theorem State.foldl_countsOnly {β : Type} {f : State → β → State} (h : ∀ (t : State) b, t.countsOnly (f t b)) (l : List β) (s : State) :
    s.countsOnly (l.foldl f s) := by
  induction l generalizing s with
  | nil => exact .refl s
  | cons b l ih => exact (h s b).trans (ih _)

theorem State.wr_countsOnly (s : State) (a : Nat) (w : Word) : s.countsOnly (s.wr a w) := ⟨_, _, _, rfl⟩

theorem State.latchTakes_countsOnly (s : State) (c n : Nat) : s.countsOnly (s.latchTakes c n) := by
  unfold State.latchTakes
  split
  · split
    · exact ⟨_, _, _, rfl⟩
    · exact .refl s
  · exact .refl s

theorem State.counterAdd_countsOnly (s : State) (c n : Nat) : s.countsOnly (s.counterAdd c n) := by
  refine (s.latchTakes_countsOnly c n).trans ?_
  unfold State.counterAdd
  dsimp only
  split
  · exact .refl _
  · split
    · exact (State.wr_countsOnly _ _ _).trans ((State.wr_countsOnly _ _ _).trans (State.wr_countsOnly _ _ _))
    · exact (State.wr_countsOnly _ _ _).trans (State.wr_countsOnly _ _ _)

theorem State.counterStep_countsOnly (s : State) (c amount : Nat) : s.countsOnly (s.counterStep c amount) := by
  unfold State.counterStep
  split
  · split
    · exact .refl s
    · exact State.countsOnly.trans ⟨_, _, _, rfl⟩ (State.counterAdd_countsOnly _ c 1)
  · exact s.counterAdd_countsOnly c amount

theorem State.obs_countsOnly (s : State) (panel code amount : Nat) (tenant master cls addr priv : Option Nat) :
    s.countsOnly (s.obs panel code amount tenant master cls addr priv) := by
  unfold State.obs
  split
  · exact .refl s
  · refine State.foldl_countsOnly (fun t c => ?_) _ s
    split
    · exact t.counterStep_countsOnly c amount
    · exact .refl t

theorem State.obsDie_countsOnly (s : State) (die code amount : Nat) (tenant master cls addr priv : Option Nat) :
    s.countsOnly (s.obsDie die code amount tenant master cls addr priv) :=
  State.foldl_countsOnly (fun t _ => t.obs_countsOnly _ _ _ _ _ _ _ _) _ s

@[simp] theorem State.obsEcc_poison (s : State) (c a code : Nat) : (s.obsEcc c a code).poison = s.poison := by
  have h : s.countsOnly (s.obsEcc c a code) := by
    unfold State.obsEcc
    have hpanel (p : Nat) := s.obs_countsOnly p code 1 none none none (some a) none
    have hdie (d : Nat) := s.obsDie_countsOnly d code 1 none none none (some a) none
    exact .ite (hpanel _) (.ite (hdie _) (.ite (hpanel _) (.ite (hpanel _) (.ite (hpanel _) (hdie _)))))
  obtain ⟨_, _, _, hs⟩ := h
  rw [hs]

@[simp] theorem State.log_poison (s : State) (rule inst : Nat) (p : List Nat) : (s.log rule inst p).poison = s.poison := by
  rw [State.log_frame]

@[simp] theorem State.bumpSat_poison (s : State) (a : Nat) (f : Fld) (n : Nat) : (s.bumpSat a f n).poison = s.poison := rfl

theorem State.uncorrectable_poison (s : State) (c a : Nat) (fresh : Bool) : (s.uncorrectable c a fresh).poison = s.poison := by
  simp only [State.uncorrectable, apply_ite State.poison, State.log_poison, State.setFld_poison, State.wr_poison,
    State.obsEcc_poison, State.bumpSat_poison, ite_self]

/-! ### Stores -/

/-- A read of a tagged word leaves it tagged. -/
theorem State.codeRead_poisoned {s : State} {c a : Nat} (h : s.poisoned c a = true) : (s.codeRead c a).poisoned c a = true := by
  rw [State.codeRead, if_pos h, State.poisoned, State.uncorrectable_poison]
  exact h

@[simp] theorem State.setPoison_poisoned (s : State) (c a : Nat) (b : Bool) : (s.setPoison c a b).poisoned c a = b := by
  simp [State.setPoison, State.poisoned]

theorem State.codeStore_whole (s : State) (c a : Nat) : (s.codeStore c a true).poisoned c a = false := by
  rw [State.codeStore, if_pos rfl, State.setPoison_poisoned]

/-- With nothing in the merge buffers an access ages and flushes nothing. -/
theorem State.portAccess_of_no_merge {s : State} (c : Nat) (h : s.merge = []) : s.portAccess c = s := by
  rw [State.portAccess, h, List.filter_nil, List.foldl_nil, List.map_nil, ← h]

/-- A write of the whole word with nothing merged and no flip armed is stored. -/
theorem State.codeWrite_whole {s : State} {c a mask : Nat} (hmerge : s.merge = []) (hflip : s.flipArmed c a = false)
    (hfull : fullMask c mask = true) : s.codeWrite c a mask = s.codeStore c a true := by
  simp [State.codeWrite, hflip, s.portAccess_of_no_merge c hmerge, hmerge, hfull]

/-- A narrow write with nothing merged and no flip armed waits in the merge buffer. -/
theorem State.codeWrite_narrow {s : State} {c a mask : Nat} (hmerge : s.merge = []) (hflip : s.flipArmed c a = false)
    (hnarrow : fullMask c mask = false) : s.codeWrite c a mask = { s with merge := [(codeKey c a, mask, 0)] } := by
  simp [State.codeWrite, hflip, s.portAccess_of_no_merge c hmerge, hmerge, hnarrow]

theorem codeKey_class {c a : Nat} (ha : a < 2 ^ 32) : codeKey c a / 2 ^ 32 = c := by
  unfold codeKey
  omega

theorem codeKey_addr {c a : Nat} (ha : a < 2 ^ 32) : codeKey c a % 2 ^ 32 = a := by
  unfold codeKey
  omega

/-- Flushing the one entry that waits reads its word, where the entry is narrow. -/
theorem State.flushKey_narrow {s : State} {c a mask n : Nat} (ha : a < 2 ^ 32) (hmerge : s.merge = [(codeKey c a, mask, n)])
    (hnarrow : fullMask c mask = false) : s.flushKey (codeKey c a) = State.codeRead { s with merge := [] } c a := by
  simp [State.flushKey, hmerge, codeKey_class ha, codeKey_addr ha, hnarrow, State.codeStore, -Nat.reducePow]

/-- Settles O56: a whole store writes the tag, a narrow one reads the word first, and a merged write stores nothing yet. -/
theorem poisonTagOnWrite : Obligations.PoisonTagOnWrite := by
  intro s c a _ ha
  refine ⟨s.codeStore_whole c a, fun h => State.codeRead_poisoned h, fun hmerge hflip => ⟨fun mask hfull => ?whole,
    fun mask hnarrow h => ?narrow⟩⟩
  case whole => rw [State.codeWrite_whole hmerge hflip hfull, State.codeStore_whole]
  case narrow =>
    rw [State.codeWrite_narrow hmerge hflip hnarrow, State.flushKey_narrow ha rfl hnarrow]
    exact ⟨h, State.codeRead_poisoned h⟩

end Sys2Proof.Machine

/-! ## Cipher lanes and the tamper alarm (R375, R377, R397 to R399)

A lane alarm and a global alarm lose a lane's requests one by one, which touches neither the keys nor the node's state. -/

namespace Sys2Proof.Machine

/-! ### The global alarm -/

/-- What a global tamper alarm decides: the keys, their copies in MRAM, the alarm and the node state. -/
def State.tamperPart (s : State) : List (Nat × Nat) × KeyMram × Bool × NodeState := (s.keyMat, s.keyMram, s.tamperAlarm, s.node)

theorem State.reply_tamperPart (s : State) (e st : Nat) (o : List Byte) : (s.reply e st o).tamperPart = s.tamperPart := by
  unfold State.reply State.tamperPart
  split <;> rfl

theorem State.wr_tamperPart (s : State) (a : Nat) (w : Word) : (s.wr a w).tamperPart = s.tamperPart := by
  unfold State.tamperPart
  rfl

theorem State.loseRequests_tamperPart (s : State) (n : Nat) : (s.loseRequests n).tamperPart = s.tamperPart := by
  have hlane (t : State) (x : LaneSt) : (t.setLane n x).tamperPart = t.tamperPart := by
    unfold State.tamperPart
    rfl
  unfold State.loseRequests
  dsimp only
  rw [hlane]
  refine State.foldl_keeps State.tamperPart (fun t q => ?_) _ s
  rw [State.laneCount, State.count, State.wr_tamperPart, State.reply_tamperPart]

theorem State.enterSafe_frame (s : State) :
    s.enterSafe = { s with node := s.enterSafe.node, nodeSince := s.enterSafe.nodeSince, runAt := s.enterSafe.runAt,
                           logQueue := s.enterSafe.logQueue, logLost := s.enterSafe.logLost, regs := s.enterSafe.regs } := by
  unfold State.enterSafe
  split
  · rfl
  · rw [State.setNode_frame]

theorem State.enterSafe_node {s : State} (h : s.node ≠ .init) : s.enterSafe.node = .safe := by
  rw [State.enterSafe, if_neg h, State.setNode_node]

theorem State.enterSafe_rd (s : State) {a : Nat} (h1 : a ≠ THIM_LOGLOST) (h2 : a ≠ THIM_EVT) : s.enterSafe.rd a = s.rd a := by
  unfold State.enterSafe
  split
  · rfl
  · exact State.setNode_rd _ _ h1 h2

/-- A global tamper alarm ends with a record and SAFE; before them the keys are gone and the alarm stands. -/
theorem State.globalTamper_eq (s : State) (cause : Nat) :
    ∃ t : State, s.globalTamper cause = (t.log 399 cause).enterSafe ∧ t.flag CIPH_STAT CIPH_STAT_TAMPER = true ∧
      t.tamperPart = ([], { s.keyMram with tamper := true, blob0 := none, blob1 := none }, true, s.node) := by
  refine ⟨_, rfl, ?flag, ?part⟩
  case flag =>
    rw [State.flag_setFld_other _ _ _ _ _ _ (by decide)]
    exact State.flag_setFld_same _ CIPH_STAT CIPH_STAT_TAMPER 1 (by decide) (by decide)
  case part =>
    have hlanes (t : State) : ((List.range 32).foldl (fun t n => (t.loseRequests n).setFld (CIPH_LANEn n) CIPH_LANEn_LAST_ALM 4)
        t).tamperPart = t.tamperPart :=
      State.foldl_keeps State.tamperPart (fun t n => (State.wr_tamperPart _ _ _).trans (t.loseRequests_tamperPart n)) _ _
    rw [State.setFld, State.wr_tamperPart, State.setFld, State.wr_tamperPart, hlanes, State.tamperPart]
    simp only [State.showFill, State.eraseSlots, State.setFld_keyMram, State.setFld_keyMat, State.setFld_node, List.filter_false]

/-- A global tamper alarm outside SLEEP. -/
theorem globalTamperOp_awake {s : State} (cause : Nat) (h : s.powerState ≠ 3) :
    let t := settle s (s.globalTamperOp cause)
    t.keyMat = [] ∧ t.tamperAlarm = true ∧ t.flag CIPH_STAT CIPH_STAT_TAMPER = true ∧ t.keyMram.blob0 = none ∧
      t.keyMram.blob1 = none ∧ (s.node ≠ .init → t.node = .safe) := by
  obtain ⟨t, htamper, hflag, hpart⟩ := s.globalTamper_eq cause
  simp only [State.tamperPart, Prod.mk.injEq] at hpart
  obtain ⟨hkeys, hmram, halarm, hnode⟩ := hpart
  have hlog : (t.log 399 cause).node = t.node := by rw [State.log_frame]
  have hflagSafe : (t.log 399 cause).enterSafe.flag CIPH_STAT CIPH_STAT_TAMPER = true := by
    rw [State.flag, State.enterSafe_rd _ (by decide) (by decide), State.log_rd _ _ _ _ _ (by decide) (by decide)]
    exact hflag
  simp only [State.globalTamperOp, if_neg h, htamper, settle_keyMat, settle_tamperAlarm, settle_flag, settle_keyMram, settle_node]
  refine ⟨?_, ?_, hflagSafe, ?_, ?_, fun hs => State.enterSafe_node (by rwa [hlog, hnode])⟩ <;>
    rw [State.enterSafe_frame, State.log_frame]
  · exact hkeys
  · exact halarm
  · exact congrArg KeyMram.blob0 hmram
  · exact congrArg KeyMram.blob1 hmram

/-! ### Lanes -/

/-- A lane that is not in reset serves its oldest request. -/
theorem State.cipherResultOp_oldest {s : State} {n : Nat} {q : CiphReq} {rest : List CiphReq} (hreqs : (s.lane n).reqs = q :: rest)
    (hreset : s.flag (CIPH_LANEn n) CIPH_LANEn_RESET = false) :
    s.cipherResultOp n =
      let v := (s.serve n q).2.2.histSample 5 (n / 2) n (s.mer - q.accepted) (some q.tenant)
      (v.setLane n { (v.lane n).keyUsed q with reqs := rest }).reply q.engine (s.serve n q).1 (s.serve n q).2.1 := by
  simp only [State.cipherResultOp, hreqs, hreset, Bool.false_eq_true, if_false]

/-! ### Proof mismatches -/

@[simp] theorem State.log_kumQueue (s : State) (rule inst : Nat) (p : List Nat) : (s.log rule inst p).kumQueue = s.kumQueue := by
  rw [State.log_frame]

/-- What the fourth mismatch in 1 ms would decide is idle before it. -/
theorem not_fourth {l : List Nat} (h : l.length < 4) (p : Prop) : ¬ (4 ≤ l.length ∧ p) := fun h' => absurd h'.1 (Nat.not_le.mpr h)

section Mismatch
variable {s t u : State} {x : Nat} {times : List Nat}
  (ht : t = ((s.bumpSat (CIPH_PROOFu x) CIPH_PROOFu_MISMATCHES).setFld CIPH_EVT CIPH_EVT_PROOF_MISMATCH 1).log 396 x)
  (htimes : times = (s.proofTimes.filter (fun a => decide (s.mer < a + msTicks))) ++ [s.mer])
  (hu : u = { t with proofTimes := times }) (hfew : times.length < 4)

include ht in
theorem State.mismatch_kumQueue : t.kumQueue = s.kumQueue := by
  rw [ht]
  exact State.log_kumQueue _ _ _ _

include ht htimes hu hfew

/-- A mismatch short of the fourth in 1 ms is counted and recorded. -/
theorem State.mismatchOp_counted (h : x ≠ 1 ∨ s.kumQueue = []) : s.mismatchOp x = u.showQueue := by
  have hproof : s.proofMismatchOp x = u := by
    unfold State.proofMismatchOp
    dsimp only
    rw [← ht, ← htimes, if_neg (not_fourth hfew _), ← hu]
    rcases h with hx | hempty
    · rw [if_neg hx]
    · simp only [State.mismatch_kumQueue ht, hempty, ite_self]
  simp only [State.mismatchOp, hproof]
  rcases h with hx | hempty
  · simp only [hx, false_and, if_false]
    split <;> rfl
  · simp only [hempty]

/-- In unit 1 it also refuses the message that waits at the front. -/
theorem State.mismatchOp_refuses {m : KumMsg} {rest : List KumMsg} (hx : x = 1) (hqueue : s.kumQueue = m :: rest)
    (hm : m.src < 3) :
    s.mismatchOp x = (State.kumResult (State.showQueue { u with kumQueue := rest }) m.src 14 255).showQueue := by
  have hproof : s.proofMismatchOp x = State.kumResult (State.showQueue { u with kumQueue := rest }) m.src 14 255 := by
    unfold State.proofMismatchOp
    dsimp only
    rw [← ht, ← htimes, if_neg (not_fourth hfew _), if_pos hx, hu]
    simp only [State.mismatch_kumQueue ht, hqueue]
  simp only [State.mismatchOp, hproof, hqueue, Nat.ne_of_lt hm, and_false, if_false]

end Mismatch

/-- Settles O36: every clause is the equation of its command's operation; the tamper alarm's follows from how the alarm ends. -/
theorem cipherLaneCommandsComplete : Obligations.CipherLaneCommandsComplete := by
  refine ⟨?result, ?alarm, fun _ _ => rfl, ?enable, ?tamper, ?mismatch⟩
  case result =>
    intro s v n q rest hreqs hreset hv
    subst hv
    exact next_settle_congr _ _ _ (State.cipherResultOp_oldest hreqs hreset)
  case alarm =>
    intro s t u v w n cause recent log hrecent hlog ht hu hv hw
    subst hw hv hu ht hlog hrecent
    refine next_settle_congr _ _ _ ?_
    unfold State.laneAlarmOp State.laneAlarm
    simp only [Bool.not_eq_true']
  case enable =>
    intro s t i n w hup ht
    subst ht
    exact next_settle_congr _ _ _ (State.hostAccess_of_up hup _)
  case tamper => exact fun s cause h => ⟨_, rfl, globalTamperOp_awake cause h⟩
  case mismatch =>
    intro s t u x times ht htimes hu hfew
    exact ⟨fun h => next_settle_congr _ _ _ (State.mismatchOp_counted ht htimes hu hfew h),
      fun m rest hx hqueue hm => next_settle_congr _ _ _ (State.mismatchOp_refuses ht htimes hu hfew hx hqueue hm)⟩

end Sys2Proof.Machine

/-! ## Key-update messages and the key store's restore (R385, R389, R391, R393) -/

namespace Sys2Proof.Machine

/-- A submission over PCIe or SPI with its interface idle. -/
theorem State.kumSubmitOp_host {s : State} {i : Iface} {a k : Nat} {w : Word} (octets : List Byte)
    (hi : i = .pcie ∧ a = KEYS_KUMCMD0 ∧ k = 0 ∨ i = .spi ∧ a = KEYS_KUMCMD1 ∧ k = 1) (hup : s.hostUp = true)
    (hbusy : s.flag a KEYS_KUMCMD0_BUSY = false) (hsubmit : getB w KEYS_KUMCMD0_SUBMIT = true) :
    s.kumSubmitOp i w octets =
      let t := s.typedWrite i a w
      if 4 ≤ s.kumQueue.length then t.kumResult k 1 255
      else if s.flag KEYS_CTRL KEYS_CTRL_HOST_KUM_DIS = true then t.kumResult k 12 255
      else (t.setFld a KEYS_KUMCMD0_BUSY 1).kumArrive k (s.kumBuffer k (getF w KEYS_KUMCMD0_LEN)) := by
  rcases hi with ⟨rfl, rfl, rfl⟩ | ⟨rfl, rfl, rfl⟩ <;> simp [State.kumSubmitOp, hup, hbusy, hsubmit]

/-- The message at the front is judged; the dictionary's sender is answered with what CIPH_KRES shows. -/
theorem State.keyProcessOp_front {s t : State} {ok : Bool} {m : KumMsg} {rest : List KumMsg} {r j : Nat}
    (hqueue : s.kumQueue = m :: rest) (hjudge : s.kumJudge m.octets ok = (r, j, t)) :
    s.keyProcessOp ok =
      let u := (State.showQueue { t with kumQueue := rest }).kumResult m.src r j
      if m.src = 3 then u.oapWake 1 (if u.fld CIPH_KRES CIPH_KRES_RESULT = 0 then 0 else 0x80 + u.fld CIPH_KRES CIPH_KRES_RESULT)
      else u := by
  simp only [State.keyProcessOp, State.kumProcess, hqueue, hjudge]

/-- The restore, once class 6 is initialised. -/
theorem State.keyRestoreOp_due {s t u : State} (hlife : s.lifecycle ≠ 4) (hready : s.flag CIPH_STAT CIPH_STAT_READY = false)
    (hinit : (s.fld ECC_INIT ECC_INIT_DONE).testBit 6 = true)
    (ht : t = (if s.keyMram.tamper = true then
      { s with keyMram := { s.keyMram with blob0 := none, blob1 := none, tamper := false } } else s))
    (hu : u = (match t.keyMram.pick with
      | some b => State.showFill (b.attrs.foldl (fun (x : State) (p : Nat × Word) => x.wr p.1 p.2) { t with keyMat := b.keys })
      | none => ((t.setFld CIPH_STAT CIPH_STAT_RESTORE_ERR 1).setFld CIPH_EVT CIPH_EVT_RESTORE_ERR 1).log 385 0)) :
    s.keyRestoreOp = ((u.burnCheckpoint u.kumCounter 512).showCounters).setFld CIPH_STAT CIPH_STAT_READY 1 := by
  subst hu ht
  unfold State.keyRestoreOp
  rw [if_neg (by simp [hlife, hready, hinit])] <;> rfl

/-- Settles O37: every clause is the equation of its command's operation in the case that the clause describes. -/
theorem keyStoreCommandsComplete : Obligations.KeyStoreCommandsComplete := by
  refine ⟨fun _ _ _ => rfl, ?submit, ?process, ?restore⟩
  case submit =>
    intro s t i a k w octets hi hup ht hbusy hsubmit
    subst ht
    exact next_settle_congr _ _ _ (State.kumSubmitOp_host octets hi hup hbusy hsubmit)
  case process =>
    intro s t u ok m rest r j hqueue hjudge hu
    subst hu
    exact next_settle_congr _ _ _ (State.keyProcessOp_front hqueue hjudge)
  case restore =>
    intro s t u hlife hready hinit ht hu
    exact next_settle_congr _ _ _ (State.keyRestoreOp_due hlife hready hinit ht hu)

end Sys2Proof.Machine

/-! ## Transactions of a pair, and the end of a reconciliation (R423, R424, R434, R436, R437) -/

namespace Sys2Proof.Machine

/-! ### Transactions -/

theorem State.txnRequestOp_accepted {s : State} {pdu : List Byte} (hpaired : s.paired = true) (htwin : s.isTwinB = false)
    (hup : s.seamUp = true) (hcheck : s.writeCheck 3 (pduBody pdu) = 0)
    (hrun : writeRefused (s.writeRun 0 3 (pduBody pdu) none) = false) :
    s.txnRequestOp pdu =
      (s.txnSeen.setTxns (s.sm.txns ++ [{ num := s.nextTxn, body := pdu, req := none, at_ := s.mer }])).txnSend 2 0 s.nextTxn pdu := by
  simp only [State.txnRequestOp, hpaired, htwin, hup, hcheck, hrun]
  rfl

theorem State.txnRequestOp_refused {s : State} {pdu : List Byte} (hpaired : s.paired = true) (htwin : s.isTwinB = false)
    (hup : s.seamUp = true)
    (hrefused : s.writeCheck 3 (pduBody pdu) ≠ 0 ∨ writeRefused (s.writeRun 0 3 (pduBody pdu) none) = true) :
    s.txnRequestOp pdu =
      s.txnSeen.txnSend 5 (if s.writeCheck 3 (pduBody pdu) = 0 then 5 else s.writeCheck 3 (pduBody pdu)) 0 [] := by
  simp only [State.txnRequestOp, hpaired, htwin, hup, if_pos hrefused]
  rfl

theorem State.txnPrepareOp_held {s t : State} {num c : Nat} {pdu : List Byte} {own : Option Txn} (hpaired : s.paired = true)
    (htwin : s.isTwinB = true) (hup : s.seamUp = true)
    (hc : c = (if s.writeCheck 3 (pduBody pdu) ≠ 0 then s.writeCheck 3 (pduBody pdu)
      else if writeRefused (s.writeRun 0 3 (pduBody pdu) none) = true then (s.writeRun 0 3 (pduBody pdu) none).1 else 0))
    (ht : t = (match own with | some x => s.setTxns (s.sm.txns.erase x) | none => s))
    (hown : own = s.sm.txns.find? (fun t => t.body == pdu)) :
    s.txnPrepareOp num pdu =
      (t.setPrepared (t.sm.prepared ++ [{ num := num, body := pdu, req := own.bind (fun x => x.req), at_ := t.mer }])).txnSeen.txnSend
        3 c num [] := by
  simp only [State.txnPrepareOp, hpaired, htwin, hup, ← hown, ← hc]
  subst ht
  cases own <;> rfl

theorem State.txnVoteOp_found {s : State} {num : Nat} (status : Nat) {x : Txn} (hx : s.sm.txns.find? (fun x => x.num == num) = some x)
    (hpaired : s.paired = true) (htwin : s.isTwinB = false) :
    s.txnVoteOp num status =
      let t := (s.setTxns (s.sm.txns.erase x)).txnSeen
      if status = 0 then ((t.txnApply x).journal num x.body false).txnSend 4 0 num []
      else ((t.txnRefuse x).seamEvent SEAM_EVT_CFG_DIVERGE).txnSend 5 0 num [] := by
  simp only [State.txnVoteOp, hx, hpaired, htwin]
  rfl

theorem State.txnCommitOp_held {s : State} {num : Nat} {x : Txn} (hx : s.sm.prepared.find? (fun x => x.num == num) = some x)
    (hpaired : s.paired = true) (htwin : s.isTwinB = true) (hup : s.seamUp = true) :
    s.txnCommitOp num = ((s.setPrepared (s.sm.prepared.erase x)).txnSeen.txnApply x).journal num x.body false := by
  simp only [State.txnCommitOp, hx, hpaired, htwin, hup]
  rfl

theorem State.txnAbortOp_held {s : State} {num : Nat} {x : Txn} (hx : s.sm.prepared.find? (fun x => x.num == num) = some x)
    (hpaired : s.paired = true) (htwin : s.isTwinB = true) :
    s.txnAbortOp num = (s.setPrepared (s.sm.prepared.erase x)).txnSeen.txnRefuse x := by
  simp only [State.txnAbortOp, hx, hpaired, htwin]
  rfl

theorem State.txnAbortOp_asked {s : State} {x : Txn} {l : List Txn} (hx : s.sm.prepared.find? (fun x => x.num == 0) = none)
    (htxns : s.sm.txns = x :: l) (hpaired : s.paired = true) (htwin : s.isTwinB = true) :
    s.txnAbortOp 0 = (s.setTxns l).txnSeen.txnRefuse x := by
  simp only [State.txnAbortOp, hx, htxns, hpaired, htwin]
  rfl

theorem State.txnTimeoutOp_late {s : State} {x : Txn} {l : List Txn} (htxns : s.sm.txns = x :: l) (htwin : s.isTwinB = false)
    (hlate : x.at_ + 200 * usTicks ≤ s.mer) : s.txnTimeoutOp = ((s.setTxns l).txnRefuse x).txnSend 5 0 x.num [] := by
  simp only [State.txnTimeoutOp, htxns, htwin, Nat.not_lt.mpr hlate, Bool.false_eq_true, or_self, if_false]

/-! ### The end of a reconciliation -/

/-- What a reconciliation empties: the journal, the numbers committed alone, the takeover and the tick of the loss. -/
def State.journalPart (s : State) : List (Nat × List Byte) × List Nat × Bool × Option Nat :=
  (s.sm.journal, s.sm.alone, s.sm.took, s.sm.lostAt)

theorem State.journalPart_congr {s t : State} (h : t.sm = s.sm) : t.journalPart = s.journalPart := by
  rw [State.journalPart, State.journalPart, h]

theorem State.mirror_journalPart (s : State) (kind : Nat) (values : List Nat) :
    (s.mirror kind values).journalPart = s.journalPart := by
  obtain ⟨_, _, _, _, _, _, h⟩ := s.mirror_frame kind values
  rw [h]
  unfold State.journalPart
  rfl

theorem State.datumReplace_journalPart (s : State) (d : Nat) : (s.datumReplace d).journalPart = s.journalPart := by
  unfold State.datumReplace
  dsimp only
  split
  · rw [apply_ite State.journalPart, State.mirror_journalPart, State.mirror_journalPart, ite_self]
  · exact State.mirror_journalPart _ _ _

theorem State.staMirror_journalPart (s : State) (e : StaEnt) : (s.staMirror e).journalPart = s.journalPart := by
  unfold State.staMirror
  split
  · rw [apply_ite State.journalPart, State.mirror_journalPart, ite_self]
  · rfl

theorem State.lagDeal_sm (s : State) (a : Nat) (slots : List Nat) : (s.lagDeal a slots).sm = s.sm := by
  rw [State.lagDeal]
  split
  · rfl
  · refine List.foldlRecOn (motive := fun q : State × Nat => q.1.sm = s.sm) slots _ rfl fun q hq k _ => ?_
    rw [State.setLagSlot, State.setFld_sm, hq]

theorem State.lagRefresh_sm (s : State) (a : Nat) : (s.lagRefresh a).sm = s.sm := by
  unfold State.lagRefresh
  split
  · rfl
  · dsimp only
    rw [apply_ite State.sm, apply_ite State.sm, State.lagDeal_sm, State.setFld_sm, State.setLagActive, State.wr_sm, State.wr_sm,
      ite_self, ite_self]

/-- What follows the emptied journal in a reconciliation only mirrors and refreshes the groups. -/
theorem State.reconcileOp_eq {s : State} (writes : List (List Byte)) (diverged both : Bool) (h : s.seamState = 5) :
    ∃ t : State, s.reconcileOp writes diverged both = t.seamEvent SEAM_EVT_RECONCILED ∧ t.journalPart = ([], [], false, none) := by
  unfold State.reconcileOp
  rw [if_neg (not_not_intro h)]
  refine ⟨_, rfl, ?_⟩
  rw [State.showAuth, State.setFlag]
  refine (State.journalPart_congr (State.setFld_sm _ _ _ _)).trans ?_
  refine (State.foldl_keeps State.journalPart (fun t a => State.journalPart_congr (t.lagRefresh_sm a)) _ _).trans ?_
  refine (State.foldl_keeps State.journalPart (fun t a => t.mirror_journalPart _ _) _ _).trans ?_
  refine (State.foldl_keeps State.journalPart (fun t b => t.mirror_journalPart _ _) _ _).trans ?_
  refine (State.foldl_keeps State.journalPart (fun t x => ?keys) _ _).trans ?_
  case keys => rw [apply_ite State.journalPart, State.mirror_journalPart, ite_self]
  refine (State.foldl_keeps State.journalPart (fun t p => ?stations) _ _).trans ?_
  case stations =>
    split
    · exact t.staMirror_journalPart _
    · rfl
  refine (State.foldl_keeps State.journalPart (fun t f => ?fresh) _ _).trans ?_
  case fresh => rw [apply_ite State.journalPart, State.mirror_journalPart, ite_self]
  rw [apply_ite State.journalPart, State.foldl_keeps State.journalPart (fun t d => t.datumReplace_journalPart d), ite_self]
  rfl

/-- Settles O38: every clause is the equation of its command's operation; a reconciliation ends with what keeps the journal empty. -/
theorem transactionCommandsComplete : Obligations.TransactionCommandsComplete := by
  refine ⟨?accepted, ?refused, ?prepare, ?apply, ?refuse, ?commit, ?abort, ?asked, ?timeout, ?reconcile⟩
  case accepted =>
    exact fun s pdu hpaired htwin hup hcheck hrun =>
      next_settle_congr _ _ _ (State.txnRequestOp_accepted hpaired htwin hup hcheck hrun)
  case refused =>
    intro s pdu c hpaired htwin hup hc hrefused
    subst hc
    exact next_settle_congr _ _ _ (State.txnRequestOp_refused hpaired htwin hup hrefused)
  case prepare =>
    exact fun s t num c pdu own hpaired htwin hup hc hown ht =>
      next_settle_congr _ _ _ (State.txnPrepareOp_held hpaired htwin hup hc ht hown)
  case apply => exact fun s num x hx hpaired htwin => next_settle_congr _ _ _ ((State.txnVoteOp_found 0 hx hpaired htwin).trans (if_pos rfl))
  case refuse =>
    exact fun s num status x hx hpaired htwin hstatus =>
      next_settle_congr _ _ _ ((State.txnVoteOp_found status hx hpaired htwin).trans (if_neg hstatus))
  case commit => exact fun s num x hx hpaired htwin hup => next_settle_congr _ _ _ (State.txnCommitOp_held hx hpaired htwin hup)
  case abort => exact fun s num x hx hpaired htwin => next_settle_congr _ _ _ (State.txnAbortOp_held hx hpaired htwin)
  case asked => exact fun s x l hx htxns hpaired htwin => next_settle_congr _ _ _ (State.txnAbortOp_asked hx htxns hpaired htwin)
  case timeout => exact fun s x l htxns htwin hlate => next_settle_congr _ _ _ (State.txnTimeoutOp_late htxns htwin hlate)
  case reconcile =>
    intro s writes diverged both hstate
    obtain ⟨t, hop, hpart⟩ := State.reconcileOp_eq writes diverged both hstate
    simp only [State.journalPart, Prod.mk.injEq] at hpart
    obtain ⟨hjournal, halone, htook, hlost⟩ := hpart
    refine ⟨_, congrArg (fun u => Host.Outcome.next (settle s u)) hop, ?_⟩
    simp only [settle_sm, settle_flag, State.seamEvent, State.setFld_sm]
    exact ⟨hjournal, halone, htook, hlost, State.flag_setFld_same t SEAM_EVT SEAM_EVT_RECONCILED 1 (by decide) (by decide)⟩

end Sys2Proof.Machine

/-! ## The Seam's bring-up, blocks and heartbeats (R404 to R408, R412 to R415) -/

namespace Sys2Proof.Machine

/-! ### Enabling -/

theorem State.seamCtrlWrite_paired {s : State} {i : Iface} {w : Word} (hpaired : (s.typedWrite i SEAM_CTRL w).paired = true) :
    s.seamCtrlWrite i w =
      (if s.seamState = 0 then (s.typedWrite i SEAM_CTRL w).seamTrain else s.typedWrite i SEAM_CTRL w).showAuth := by
  simp only [State.seamCtrlWrite, hpaired, Bool.not_true, Bool.false_eq_true, if_false]

/-- An unpaired node whose Seam is DOWN and whose twin is not classified only shows AUTH. -/
theorem State.seamCtrlWrite_unpaired {s t : State} {i : Iface} {w : Word} (ht : t = s.typedWrite i SEAM_CTRL w)
    (hpaired : t.paired = false) (hsplit : t.flag SEAM_STAT SEAM_STAT_SPLIT = false)
    (hdown : t.flag SEAM_STAT SEAM_STAT_TWIN_DOWN = false) (hstate : s.seamState = 0) :
    s.seamCtrlWrite i w = ((t.setFld SEAM_STAT SEAM_STAT_SPLIT 0).setFld SEAM_STAT SEAM_STAT_TWIN_DOWN 0).showAuth := by
  subst ht
  simp only [State.seamCtrlWrite, hpaired, hstate, if_true, hsplit, hdown, Bool.not_false, Bool.or_self, Bool.false_eq_true, if_false]

theorem State.seamRestartOp_up {s : State} (i : Iface) (hup : s.hostUp = true) (hpaired : s.paired = true) (hstate : s.seamState ≠ 0) :
    s.seamRestartOp i = s.seamTrain := by
  rw [State.seamRestartOp, State.hostAccess_of_up hup, State.seamRestart, hpaired, if_pos (by simpa using hstate)]

/-! ### Markers -/

/-- The octets are the marker of lane k's group, bit by bit. -/
def exactMarker (k : Nat) (o : List Byte) : Prop := markPattern o = markWant ∧ markSelf o = true ∧ oct o 3 / 128 = laneGroup k

theorem exactMarker.eq_true {k : Nat} {o : List Byte} (h : exactMarker k o) :
    (markPattern o == markWant && markSelf o && oct o 3 / 128 == laneGroup k) = true := by
  obtain ⟨hpattern, hself, hgroup⟩ := h
  simp [hpattern, hself, hgroup]

/-- The count of good markers in a row of lane k, and of missed ones. -/
def State.putMarks (s : State) (k r m : Nat) : State :=
  { s with sm := { s.sm with run := Sparse.set (fun _ => 0) s.sm.run k r, missed := Sparse.set (fun _ => 0) s.sm.missed k m } }

/-- A searching lane becomes a candidate. -/
theorem State.markerOp_searching {s : State} {k : Nat} {o : List Byte} (bip : Bool) (hstate : 2 ≤ s.seamState)
    (hlane : s.seamLane k = 0) (hexact : exactMarker k o) :
    s.markerOp k o bip =
      ((s.setFld (SEAM_LANEk k) SEAM_LANEk_LSTATE 1).putMarks k 1 0).setFld (SEAM_LANEk k) SEAM_LANEk_L (oct o 3 / 16 % 8) := by
  simp only [State.markerOp, if_neg (Nat.not_lt.mpr hstate), hlane, hexact.eq_true, if_true]
  rfl

/-- A candidate counts a good marker, and locks at the fourth. -/
theorem State.markerOp_candidate {s t : State} {k n : Nat} {o : List Byte} {bip : Bool} (hstate : 2 ≤ s.seamState)
    (hlane : s.seamLane k = 1) (hexact : exactMarker k o) (hl : oct o 3 / 16 % 8 = s.fld (SEAM_LANEk k) SEAM_LANEk_L)
    (ht : t = (if bip = true then s else s.bumpSat (SEAM_LANEk k) SEAM_LANEk_BIP_ERR))
    (hn : n = Sparse.get (fun _ => 0) t.sm.run k + 1) :
    s.markerOp k o bip = if n < 4 then t.putMarks k n 0
      else ((t.putMarks k n 0).setFld (SEAM_LANEk k) SEAM_LANEk_LSTATE 2).showLocks (laneGroup k) := by
  simp only [State.markerOp, if_neg (Nat.not_lt.mpr hstate), hlane, hexact.eq_true, hl, beq_self_eq_true, Bool.and_self, if_true,
    ← ht, ← hn]
  rfl

/-- A locked lane keeps its lock. -/
theorem State.markerOp_locked {s : State} {k : Nat} {o : List Byte} {bip : Bool} (hstate : 2 ≤ s.seamState) (hlane : s.seamLane k = 2)
    (hones : ones 48 (markPattern o ^^^ markWant) ≤ 6) (hl : oct o 3 / 16 = 8 * laneGroup k + s.fld (SEAM_LANEk k) SEAM_LANEk_L) :
    s.markerOp k o bip = (if bip = true then s else s.bumpSat (SEAM_LANEk k) SEAM_LANEk_BIP_ERR).putMarks k 4 0 := by
  simp only [State.markerOp, if_neg (Nat.not_lt.mpr hstate), hlane, decide_eq_false (Nat.not_lt.mpr hones), hl, bne_self_eq_false,
    Bool.or_self, Bool.false_eq_true, if_false]
  rfl

/-! ### Alignment -/

/-- Eight locked lanes with numbers of their own align their group within the skew, and only show a greater one. -/
theorem State.groupAlignedOp_locked {s : State} {g : Nat} (skew : Nat)
    (hlocked : (List.range 8).all (fun i => s.seamLane (8 * g + i) == 2) = true)
    (hapart : ((List.range 8).map (fun i => s.fld (SEAM_LANEk (8 * g + i)) SEAM_LANEk_L)).eraseDups.length = 8) :
    s.groupAlignedOp g skew = if 512 < skew then s.seamEvent SEAM_EVT_SKEW
      else State.seamSecure { s with sm := { s.sm with aligned := s.sm.aligned.filter (fun x => x != g) ++ [g] } } := by
  simp only [State.groupAlignedOp, hlocked, hapart, bne_self_eq_false, Bool.not_true, Bool.or_self, Bool.false_eq_true, if_false]

/-! ### Blocks -/

/-- The state in which a block of an aligned group is taken: the descrambler has moved on. -/
def State.descrambled (s : State) (g : Nat) (o : List Byte) : State :=
  { s with sm := { s.sm with
      scr := Sparse.set (fun _ => 0) s.sm.scr g (descramble (Sparse.get (fun _ => 0) s.sm.scr g) (slice o 1 31)).2 } }

theorem State.seamBlockOp_bad {s : State} {g : Nat} (o : List Byte) (haligned : s.sm.aligned.contains g = true) :
    s.seamBlockOp g o true =
      (((s.descrambled g o).setOpenPkt (2 * g) none).setOpenPkt (2 * g + 1) none).seamCount 9 := by
  simp only [State.seamBlockOp, haligned, Bool.not_true, Bool.false_eq_true, if_false, if_true]
  rfl

/-- A header that no block has, or that does not fit what its class has open. -/
def blockBad (ty cls cnt : Nat) (p : Option (List Byte)) : Prop :=
  (ty = 0 ∧ (cls ≠ 0 ∨ cnt ≠ 0)) ∨ cnt = 31 ∨ (cnt ≠ 0 ∧ ty ≠ 3) ∨ (2 ≤ ty ∧ p.isNone) ∨ (ty = 1 ∧ p.isSome)

section Block
variable {s t u : State} {g k ty cls cnt : Nat} {o pay whole : List Byte}

/-- What a good block leaves whose header fits: nothing opened, a packet opened, one extended, or one closed. -/
theorem State.seamBlockOp_good (haligned : s.sm.aligned.contains g = true)
    (hpay : pay = (descramble (Sparse.get (fun _ => 0) s.sm.scr g) (slice o 1 31)).1) (hcls : cls = oct o 0 / 32 % 2)
    (hcnt : cnt = oct o 0 % 32) (hk : k = 2 * g + cls) (ht : t = s.descrambled g o)
    (hwhole : whole = (t.openPkt k).getD [] ++ pay.take (cnt + 1))
    (hu : u = (t.setOpenPkt k none).seamCount (if cls = 0 then 7 else 1)) (hty : oct o 0 / 64 = ty)
    (hfits : ¬ blockBad ty cls cnt (t.openPkt k)) :
    (ty = 0 → s.seamBlockOp g o false = t) ∧
    (ty = 1 → s.seamBlockOp g o false = t.setOpenPkt k (some pay)) ∧
    (ty = 2 → s.seamBlockOp g o false = t.setOpenPkt k (some ((t.openPkt k).getD [] ++ pay))) ∧
    (ty = 3 → s.seamBlockOp g o false =
      if cls = 0 ∧ oct whole 0 ≠ 1 then u
      else if cls = 0 then
        (if u.seamUp = true then { u with sm := { u.sm with rxData := u.sm.rxData ++ [(g, whole)] } } else u.seamDiscard whole)
      else if oct whole 0 = 0x15 then u else { u with sm := { u.sm with nonceRx := u.sm.nonceRx + 1 } }) := by
  subst hu ht hk hcls hcnt
  rw [hwhole, hpay]
  rw [← hty] at hfits
  simp only [State.seamBlockOp, haligned, Bool.not_true, Bool.false_eq_true, if_false]
  refine ⟨?idle, ?first, ?more, ?last⟩ <;>
  · intro hkind
    refine (if_neg hfits).trans ?_
    simp only [hty.trans hkind]
    rfl

end Block

theorem blockBad_idle (p : Option (List Byte)) : ¬ blockBad 0 0 0 p := by simp [blockBad]

theorem blockBad_first (cls : Nat) {p : Option (List Byte)} (h : p = none) : ¬ blockBad 1 cls 0 p := by simp [blockBad, h]

theorem blockBad_more (cls : Nat) {p : Option (List Byte)} (h : p ≠ none) : ¬ blockBad 2 cls 0 p := by simp [blockBad, h]

theorem blockBad_last (cls : Nat) {cnt : Nat} {p : Option (List Byte)} (hcnt : cnt ≠ 31) (h : p ≠ none) :
    ¬ blockBad 3 cls cnt p := by simp [blockBad, hcnt, h]

/-! ### Hello, probes and heartbeats -/

theorem State.helloOp_secure {s t : State} {uid ident : List Byte} {node : Nat} {sig ok : Bool} (hstate : s.seamState = 3)
    (ht : t = (List.range 4).foldl (fun t k => t.wr (SEAM_PEER_UIDk k) (BitVec.ofNat 32 (beAt uid (4 * k) 4))) s)
    (hok : ok = (sig && node == s.nodeNumber ^^^ 1 && (s.od 0x006002 == 0 || s.od 0x006002 == beNat uid) &&
      (s.od 0x006003 == 0 || s.od 0x006003 == beNat ident))) :
    s.helloOp uid node ident sig = if ok = true then State.seamEnter
        { t with mirrorOut := [], mirrorWait := [], mseqTx := 0, mseqRx := 0
                 sm := { t.sm with keyed := true, statusRx := none, statusTx := 0, ackAt := t.mer, nonceTx := 0, nonceRx := 0 } } 4
      else ((t.seamEvent SEAM_EVT_PEER_REJECT).log 413 0).seamStop := by
  have hrefuses : (!sig || node != s.nodeNumber ^^^ 1 || (s.od 0x006002 != 0 && s.od 0x006002 != beNat uid) ||
      (s.od 0x006003 != 0 && s.od 0x006003 != beNat ident)) = !ok := by
    simp only [hok, Bool.not_and, Bool.not_or, bne]
  unfold State.helloOp
  dsimp only
  rw [if_neg (not_not_intro hstate), hrefuses, ← ht]
  cases ok
  · rw [Bool.not_false, if_pos rfl, if_neg Bool.false_ne_true]
  · rw [Bool.not_true, if_neg Bool.false_ne_true, if_pos rfl]

theorem State.measureOp_full {s : State} {probes : List (Int × Int × Int × Int)} (hstate : s.seamState = 4)
    (hlen : probes.length = 16) :
    s.measureOp probes = ((State.seamCount { s with sm := { s.sm with nonceTx := s.sm.nonceTx + 16 } } 0 16).wr64 SEAM_DIFF_LO
      (trunc 64 (probeDiff probes))).seamEnter 5 :=
  if_neg (by simp [hstate, hlen])

theorem State.heartbeatSendOp_due {s t : State} {o : List Byte} (hstate : s.seamState = 6)
    (hdue : ∀ a : Nat, s.sm.hbSent = some a → a + usTicks ≤ s.mer) (ho : o = s.mirrorPacket 0x10 s.sm.hbCnt s.heartbeatBody)
    (ht : t = { s with sm := { s.sm with hbSent := some s.mer, hbCnt := (s.sm.hbCnt + 1) % 2 ^ 32 } }) :
    s.heartbeatSendOp = (t.mirrorEmit o).mirrorEmit o := by
  rw [ht, ho]
  unfold State.heartbeatSendOp
  cases hsent : s.sm.hbSent with
  | none => exact if_neg (by simp [hstate])
  | some a => exact if_neg (by simp [hstate, hdue a hsent])

theorem State.heartbeatOp_good {s t u : State} {g : Nat} {o body : List Byte} (hstate : s.seamState = 6) (hbody : body = o.drop 16)
    (ht : t = s.mirrorAck (beAt o 8 4))
    (hu : u = State.twinLeave { t with
      twinPortUp := (List.range 1024).filter (fun n => (oct body (16 + n / 8)).testBit (n % 8))
      sm := { t.sm with
        hbAt := Sparse.set (fun _ => 0) t.sm.hbAt g t.mer, twinNode := oct body 8,
        twinAuth := (oct body 9).testBit 0, twinTxn := beAt body 12 4 } }) :
    s.heartbeatOp g o true = u.lagGroups.foldl (fun x a => x.lagRefresh a) u := by
  subst hu ht hbody
  unfold State.heartbeatOp
  rw [if_neg (not_not_intro hstate), Bool.not_true, if_neg Bool.false_ne_true]

theorem State.heartbeatOp_bad {s : State} (g : Nat) (o : List Byte) (hstate : s.seamState = 6) :
    s.heartbeatOp g o false = s.seamCount 9 := if_neg (not_not_intro hstate)

theorem State.seamLossOp_silent {s : State} (hup : s.seamUp = true)
    (h : s.hbLast 0 + 7 * usTicks ≤ s.mer ∨ s.hbLast 1 + 7 * usTicks ≤ s.mer) : s.seamLossOp = (s.seamLost 2).seamSecure :=
  if_pos (by simpa [hup] using h)

/-- Settles O39: every clause is the equation of its command's operation in the case that the clause describes. -/
theorem seamBringUpCommandsComplete : Obligations.SeamBringUpCommandsComplete := by
  refine ⟨?enable, ?restart, ?trained, ?searching, ?candidate, ?locked, ?aligned, ?alignTimeout, ?block, ?hello, ?measure, ?send,
    ?receive, ?loss⟩
  case enable =>
    intro s t i w hup ht
    have hop := State.hostAccess_of_up hup (s.seamCtrlWrite i w)
    refine ⟨fun hpaired => ?_, fun hpaired hsplit hdown hstate => ?_⟩
    · subst ht
      exact next_settle_congr _ _ _ (hop.trans (State.seamCtrlWrite_paired hpaired))
    · exact next_settle_congr _ _ _ (hop.trans (State.seamCtrlWrite_unpaired ht hpaired hsplit hdown hstate))
  case restart => exact fun s i hup hpaired hstate => next_settle_congr _ _ _ (State.seamRestartOp_up i hup hpaired hstate)
  case trained => exact fun s hstate => next_settle_congr _ _ _ (if_pos hstate)
  case searching =>
    intro s t k o bip hstate hlane hpattern hself hgroup ht
    subst ht
    exact next_settle_congr _ _ _ (State.markerOp_searching bip hstate hlane ⟨hpattern, hself, hgroup⟩)
  case candidate =>
    intro s t u k n o bip hstate hlane hpattern hself hgroup hl ht hn hu
    subst hu
    exact next_settle_congr _ _ _ (State.markerOp_candidate hstate hlane ⟨hpattern, hself, hgroup⟩ hl ht hn)
  case locked =>
    intro s t k o bip hstate hlane hones hl ht
    subst ht
    exact next_settle_congr _ _ _ (State.markerOp_locked hstate hlane hones hl)
  case aligned =>
    intro s g skew hlocked hapart
    have hop := State.groupAlignedOp_locked skew hlocked hapart
    exact ⟨fun hskew => next_settle_congr _ _ _ (hop.trans (if_neg (Nat.not_lt.mpr hskew))),
      fun hskew => next_settle_congr _ _ _ (hop.trans (if_pos hskew))⟩
  case alignTimeout => exact fun s hstate hdue => next_settle_congr _ _ _ (if_pos ⟨hstate, hdue⟩)
  case block =>
    intro s t u g cls cnt k o pay whole haligned hpay hcls hcnt hk ht hwhole hu
    have hgood {ty : Nat} := State.seamBlockOp_good (ty := ty) haligned hpay hcls hcnt hk ht hwhole hu
    refine ⟨?bad, fun hty h0 hn => ?idle, fun hty hn hopen => ?first, fun hty hn hopen => ?more, fun hty hn hopen =>
      ⟨fun h0 hdata => ?data, fun h1 => ?mirror⟩⟩
    case bad =>
      rw [ht]
      exact next_settle_congr _ _ _ (State.seamBlockOp_bad o haligned)
    case idle =>
      obtain ⟨hidle, -⟩ := hgood hty (by rw [h0, hn]; exact blockBad_idle _)
      exact next_settle_congr _ _ _ (hidle rfl)
    case first =>
      obtain ⟨-, hfirst, -⟩ := hgood hty (by rw [hn]; exact blockBad_first cls hopen)
      exact next_settle_congr _ _ _ (hfirst rfl)
    case more =>
      obtain ⟨-, -, hmore, -⟩ := hgood hty (by rw [hn]; exact blockBad_more cls hopen)
      exact next_settle_congr _ _ _ (hmore rfl)
    all_goals obtain ⟨-, -, -, hlast⟩ := hgood hty (blockBad_last cls hn hopen)
    case data => exact next_settle_congr _ _ _ ((hlast rfl).trans ((if_neg (by simp [hdata])).trans (if_pos h0)))
    case mirror => exact next_settle_congr _ _ _ ((hlast rfl).trans ((if_neg (by simp [h1])).trans (if_neg (by simp [h1]))))
  case hello => exact fun s t uid ident node sig ok hstate ht hok => next_settle_congr _ _ _ (State.helloOp_secure hstate ht hok)
  case measure => exact fun s probes hstate hlen => next_settle_congr _ _ _ (State.measureOp_full hstate hlen)
  case send => exact fun s t o hstate hdue ho ht => next_settle_congr _ _ _ (State.heartbeatSendOp_due hstate hdue ho ht)
  case receive =>
    exact fun s t u g o body hstate hbody ht hu => ⟨next_settle_congr _ _ _ (State.heartbeatOp_good hstate hbody ht hu),
      next_settle_congr _ _ _ (State.heartbeatOp_bad g o hstate)⟩
  case loss => exact fun s hup h => next_settle_congr _ _ _ (State.seamLossOp_silent hup h)

end Sys2Proof.Machine

/-! ## Mirror and data packets, the twin's status and takeover (R409, R411, R417, R421, R426, R432, R435, R470) -/

namespace Sys2Proof.Machine

/-! ### Mirror packets -/

section Mirror
variable {s : State} {o : List Byte} (hstate : 5 ≤ s.seamState) (hty : oct o 0 = 0x11 ∨ oct o 0 = 0x12)
include hstate hty

theorem not_foreign_packet : ¬ (s.seamState < 5 ∨ (oct o 0 ≠ 0x11 ∧ oct o 0 ≠ 0x12)) := by
  omega

/-- A good packet acknowledges, and the records of the next one in turn are applied. -/
theorem State.mirrorPacketOp_good {u : State} {next : Bool}
    (hnext : (s.mirrorAck (beAt o 8 4)).mirrorNext (beAt o 4 4) = (next, u)) :
    s.mirrorPacketOp o true =
      if next = true ∧ oct o 0 = 0x11 then (recordsOf 2048 (o.drop 16)).foldl (fun x y => x.mirrorRecord y) u else u := by
  unfold State.mirrorPacketOp
  dsimp only
  rw [if_neg (not_foreign_packet hstate hty), Bool.not_true, if_neg Bool.false_ne_true, hnext]
  simp only [Bool.and_eq_true, beq_iff_eq]

theorem State.mirrorPacketOp_bad : s.mirrorPacketOp o false = s.seamCount 9 := by
  unfold State.mirrorPacketOp
  dsimp only
  rw [if_neg (not_foreign_packet hstate hty), Bool.not_false, if_pos rfl]

end Mirror

theorem State.retransmitOp_due {s t : State} (hstate : 5 ≤ s.seamState) (hout : s.mirrorOut ≠ [])
    (hdue : s.sm.ackAt + 20 * usTicks ≤ s.mer) (ht : t = { s with sm := { s.sm with ackAt := s.mer } }) :
    s.retransmitOp = (s.mirrorOut.foldl (fun u p => u.mirrorEmit (u.mirrorOctets p)) t).seamCount 2 s.mirrorOut.length := by
  subst ht
  exact if_neg (by simp only [hout, false_or]; omega)

theorem State.epochCheckOp_due {s t : State} {x due : Nat} {v : List Nat}
    (hfind : s.sm.epochs.find? (fun p => p.1.head? == some x) = some (v, due)) (hdue : due ≤ s.mer)
    (ht : t = { s with sm := { s.sm with epochs := s.sm.epochs.filter (fun p => p.1.head? != some x) } }) :
    s.epochCheckOp x = if epochDiffers v (s.epochRec x) = true then (t.seamEvent SEAM_EVT_EPOCH_DIFF).log 421 x else t := by
  subst ht
  simp only [State.epochCheckOp, hfind, if_neg (Nat.not_lt.mpr hdue)]

/-! ### Data packets -/

section Data
variable {s t u : State} {g n f : Nat} {o : List Byte} {rest : List (Nat × List Byte)} {it : Item}
  (hrx : s.sm.rxData = (g, o) :: rest) (ht : t = { s with sm := { s.sm with rxData := rest } })
  (hfree : (f, u) = (if (oct o 1).testBit 3 = true then t.takeFree else (0, t))) (hit : it = u.seamItem g o (f % 4))
  (hn : n = beAt o 6 2 % 1024)
include hrx ht hfree hit hn

/-- A packet for another tenant's port is a tenant violation. -/
theorem State.seamDataOp_foreign (hten : u.portTenant n ≠ some it.tenant) : s.seamDataOp = u.dropFor it.tenant rTenant := by
  subst ht hit hn
  simp only [State.seamDataOp, hrx, ← hfree, if_pos hten]

/-- A packet for an enabled member port of its tenant is delivered once sequence recovery passes it. -/
theorem State.seamDataOp_member {v : State} {pass : Bool} (hten : u.portTenant n = some it.tenant) (hen : u.portEn n = true)
    (hvlan : u.vlanMember it.vid n = true)
    (hrecover : (pass, v) = (match it.handle with
      | some (h, q) => if u.flag (HANDLE h) HANDLE_REC = true then u.recover h q else (true, u)
      | none => (true, u))) :
    s.seamDataOp = if pass = true then
        v.deliver { it with handle := it.handle.map (fun p => (p.1, p.2 + 2 ^ 16 * v.fld (HANDLE p.1) HANDLE_ENC +
          2 ^ 17 * v.fld (HANDLE p.1) HANDLE_DEC)) } [.port n (oct o 8 / 16)]
      else v := by
  subst ht hit hn
  simp only [State.seamDataOp, hrx, ← hfree, if_neg (not_not_intro hten), hen, hvlan, Bool.not_true, Bool.or_self, Bool.false_eq_true,
    if_false]
  rw [show pass = _ from congrArg Prod.fst hrecover, show v = _ from congrArg Prod.snd hrecover] <;> rfl

end Data

/-! ### Twin status -/

theorem State.statusSendOp_due {s : State} (hpaired : s.paired = true) (hkeyed : s.sm.keyed = true)
    (hdue : ∀ a : Nat, s.sm.statusAt = some a → a + msTicks ≤ s.mer) :
    s.statusSendOp = State.emitOut
      { s with sm := { s.sm with statusAt := some s.mer, statusTx := (s.sm.statusTx + 1) % 2 ^ 32 } } (.twinStatus s.statusBody) := by
  unfold State.statusSendOp
  cases hat : s.sm.statusAt with
  | none => exact if_neg (by simp [hpaired, hkeyed])
  | some a => exact if_neg (by simp [hpaired, hkeyed, hdue a hat])

/-- A newer status from the twin is taken. -/
theorem State.twinStatusOp_newer {s t : State} {node : Nat} {body : List Byte} (hpaired : s.paired = true)
    (hnode : node = s.nodeNumber ^^^ 1) (hnewer : ∀ p : Nat, s.sm.statusRx = some p → p < beAt body 4 4)
    (ht : t = State.setFld { s with
      sm := { s.sm with
        heardAt := some s.mer, statusRx := some (beAt body 4 4), twinNode := oct body 2,
        twinAuth := (oct body 3).testBit 3, twinTxn := beAt body 16 4 } } SEAM_STAT SEAM_STAT_TWIN_MB 1) :
    s.twinStatusOp node body true =
      if t.classifies = true ∧ t.flag SEAM_STAT SEAM_STAT_SPLIT = false then t.setSplit else t := by
  subst ht hnode
  have hfresh : (match s.sm.statusRx with | some p => decide (beAt body 4 4 ≤ p) | none => false) = false := by
    split
    · next p hp => exact decide_eq_false (Nat.not_le.mpr (hnewer p hp))
    · rfl
  unfold State.twinStatusOp
  dsimp only
  rw [if_neg (by simp only [hpaired, bne_self_eq_false, Bool.not_true, Bool.false_or, Bool.or_false]; exact ne_true_of_eq_false hfresh)]
  simp only [Bool.and_eq_true, Bool.not_eq_true']

/-- A twin not heard for 5 ms is shown as silent, and is down where it is classified. -/
theorem State.twinSilenceOp_silent {s t : State} {a : Nat}
    (ha : s.sm.heardAt = some a ∨ s.sm.heardAt = none ∧ a = s.sm.lostAt.getD 0) (hdue : a + 5 * msTicks ≤ s.mer)
    (ht : t = s.setFld SEAM_STAT SEAM_STAT_TWIN_MB 0) :
    s.twinSilenceOp = if t.classifies = true ∧ t.flag SEAM_STAT SEAM_STAT_TWIN_DOWN = false then t.setTwinDown else t := by
  have hbase : max (s.sm.heardAt.getD 0) (if s.sm.heardAt.isSome = true then 0 else s.sm.lostAt.getD 0) = a := by
    rcases ha with h | ⟨h, rfl⟩ <;> simp [h]
  subst ht
  unfold State.twinSilenceOp
  dsimp only
  rw [hbase, if_neg (Nat.not_lt.mpr hdue)]
  simp only [Bool.and_eq_true, Bool.not_eq_true']

/-! ### Takeover -/

theorem State.takeover_down {s : State} (hpaired : s.paired = true) (hdown : s.flag SEAM_STAT SEAM_STAT_TWIN_DOWN = true)
    (htwin : s.isTwinB = true) (htook : s.sm.took = false) :
    s.takeover = (0, ((State.showAuth { s with sm := { s.sm with took := true } }).seamEvent SEAM_EVT_TAKEOVER).log 435 0) := by
  simp only [State.takeover, hpaired, hdown, htwin, htook, Bool.not_true, Bool.or_self, Bool.false_eq_true, if_false]

/-- Settles O40: every clause is the equation of its command's operation in the case that the clause describes. -/
theorem seamPairCommandsComplete : Obligations.SeamPairCommandsComplete := by
  refine ⟨?packet, ?retransmit, ?epoch, ?data, ?send, ?status, ?silence, ?takeover⟩
  case packet =>
    exact fun s u o next hstate hty hnext => ⟨next_settle_congr _ _ _ (State.mirrorPacketOp_good hstate hty hnext),
      next_settle_congr _ _ _ (State.mirrorPacketOp_bad hstate hty)⟩
  case retransmit =>
    exact fun s t hstate hout hdue ht => next_settle_congr _ _ _ (State.retransmitOp_due hstate hout hdue ht)
  case epoch => exact fun s t x due v hfind hdue ht => next_settle_congr _ _ _ (State.epochCheckOp_due hfind hdue ht)
  case data =>
    exact fun s t u v g o rest n f it pass hrx ht hfree hit hn =>
      ⟨fun hten => next_settle_congr _ _ _ (State.seamDataOp_foreign hrx ht hfree hit hn hten),
        fun hten hen hvlan hrecover =>
          next_settle_congr _ _ _ (State.seamDataOp_member hrx ht hfree hit hn hten hen hvlan hrecover)⟩
  case send => exact fun s hpaired hkeyed hdue => next_settle_congr _ _ _ (State.statusSendOp_due hpaired hkeyed hdue)
  case status =>
    exact fun s t node body hpaired hnode hnewer ht => next_settle_congr _ _ _ (State.twinStatusOp_newer hpaired hnode hnewer ht)
  case silence => exact fun s t a ha hdue ht => next_settle_congr _ _ _ (State.twinSilenceOp_silent ha hdue ht)
  case takeover =>
    intro s t hpaired hdown htwin htook ht
    have htake := State.takeover_down hpaired hdown htwin htook
    rw [← ht] at htake
    refine ⟨fun hup => next_settle_congr _ _ _ ?reg, fun hwrites => next_settle_congr _ _ _ ?object,
      fun hauto hdue => next_settle_congr _ _ _ ?auto⟩
    case reg => exact (State.hostAccess_of_up hup _).trans (congrArg Prod.snd htake)
    case object => simp only [State.takeoverOp, State.actOwn, if_pos hwrites, htake]; rfl
    case auto => exact (if_pos ⟨hauto, htwin, hdown, hdue⟩).trans (congrArg Prod.snd htake)

end Sys2Proof.Machine

/-! ## Punt queues, injection and stop commands (R445 to R447, R467, R468, R486 to R491) -/

namespace Sys2Proof.Machine

/-! ### Punted items -/

/-- The oldest item of a valid queue that serves it joins the queue, which keeps its cause where it took it. -/
theorem State.puntItemOp_joins {s t u : State} {q why : Nat} {it : Item} {rest : List (Item × Nat)}
    (hin : Sparse.get (fun _ => []) s.puntIn q = (it, why) :: rest)
    (ht : t = { s with puntIn := Sparse.set (fun _ => []) s.puntIn q rest }) (hvalid : t.pqValid q = true)
    (hserves : t.flag (PUNTq q) PUNTq_ANY = true ∨ t.fld (PUNTq q) PUNTq_TENANT = it.tenant ∨ why.testBit 20 = true)
    (hu : u = t.queueIn 0 { item := it, copies := [.punt q], held := false })
    (hjoined : (u.queue (Dest.punt q).key).length ≠ (t.queue (Dest.punt q).key).length) :
    s.puntItemOp q = u.setPuntWhy q (t.puntWhy q ++ [why % 2 ^ 20]) := by
  have hforeign : (!t.flag (PUNTq q) PUNTq_ANY && t.fld (PUNTq q) PUNTq_TENANT != it.tenant && !why.testBit 20) = false := by
    rcases hserves with h | h | h <;> simp [h]
  simp only [State.puntItemOp, hin]
  rw [← ht, ← hu, hvalid, hforeign, Bool.not_true, if_neg Bool.false_ne_true, if_neg Bool.false_ne_true, if_neg hjoined]

/-- The head of a queue with room goes to the up ring. -/
theorem State.puntSlotOp_head {s t u : State} {q : Nat} {x : QEnt} {rest : List QEnt}
    (hqueue : s.queue (Dest.punt q).key = x :: rest) (hvalid : s.pqValid q = true) (hroom : s.upUsed q ≠ s.pqDepth q)
    (hawake : s.wakeable = false) (hsound : x.item.poison = false)
    (ht : t = ((((s.setQueue (.punt q) rest).setPuntWhy q (s.puntWhy q).tail).obs 0 0x021 x.cells (tenant := some x.item.tenant)
      (cls := some x.dest.cls)).releaseChain x.chain).pathEnd x.item
      { kind := 5, num := q, queue := 31, verdict := 14, panel := 0, tsOut := s.mer })
    (hu : u = (((t.emitOut (.puntSlot q (s.upWr q % s.pqDepth q)
      ((s.slotWords q x.item ((s.puntWhy q).headD 0)).flatMap (natLe 4) ++ x.item.data.take (s.pqSlot q - 48)))).bump
        (pqWord q 3) PUNTq_UP_WR).count (pqWord q 10)).setSlotTicks q (s.slotTicks q ++ [s.mer])) :
    s.puntSlotOp q = if max 1 (s.fld (pqWord q 7) PUNTq_IRQ_THR) ≤ u.upUsed q then u.setPend q else u := by
  subst hu ht
  have hopen : (!s.pqValid q || s.upUsed q == s.pqDepth q || s.wakeable) = false := by simp [hvalid, hroom, hawake]
  simp only [State.puntSlotOp, hqueue, hopen, hsound, Bool.false_eq_true, if_false]
  rfl

theorem State.puntTimeoutOp_due {s : State} {q a : Nat} {rest : List Nat} (hticks : s.slotTicks q = a :: rest)
    (htmo : s.fld (pqWord q 7) PUNTq_IRQ_TMO ≠ 0) (hused : s.upUsed q ≠ 0)
    (hdue : a + s.fld (pqWord q 7) PUNTq_IRQ_TMO * usTicks ≤ s.mer) : s.puntTimeoutOp q = s.setPend q := by
  simp only [State.puntTimeoutOp, hticks]
  exact if_pos ⟨htmo, hused, hdue⟩

/-! ### The queue's page -/

theorem State.puntCfg_validates {s t : State} {i : Iface} {q : Nat} {w : Word} (hstopped : s.pqValid q = false)
    (hmay : i = .pcie ∨ i = .spi ∨ s.flag (PUNTq q) PUNTq_ANY = false ∧ getB w PUNTq_ANY = false)
    (ht : t = s.typedWrite i (PUNTq q) w) (hvalid : t.pqValid q = true) :
    s.puntCfg i q w = ((t.wr (pqWord q 3) 0).wr (pqWord q 6) 0).setSlotTicks q [] := by
  have htyped : (if i = .pcie ∨ i = .spi ∨ (!s.flag (PUNTq q) PUNTq_ANY && !getB w PUNTq_ANY) = true then s.typedWrite i (PUNTq q) w
      else s.hostErr SYS_HOSTERR_PUNT i (PUNTq q)) = t := by
    rw [ht]
    exact if_pos (by simpa using hmay)
  unfold State.puntCfg
  dsimp only
  rw [htyped, if_neg (by simp [hstopped]), if_pos (by simp [hstopped, hvalid])]

theorem State.upRdWrite_within {s : State} (i : Iface) {q left : Nat} {w : Word}
    (hleft : left = (s.upWr q + 65536 - getF w PUNTq_UP_RD) % 65536) (h : left ≤ s.upUsed q) :
    s.upRdWrite i q w = (s.typedWrite i (pqWord q 3) w).setSlotTicks q ((s.slotTicks q).drop (s.upUsed q - left)) := by
  subst hleft
  exact if_neg (Nat.not_lt.mpr h)

theorem State.dnWrWrite_within {s : State} (i : Iface) {q : Nat} {w : Word}
    (h : (getF w PUNTq_DN_WR + 65536 - s.dnRd q) % 65536 ≤ s.pqDepth q) :
    s.dnWrWrite i q w = s.typedWrite i (pqWord q 6) w := if_neg (Nat.not_lt.mpr h)

/-! ### Injection -/

/-- The queue's next slot may be read. -/
theorem State.injectOp_parsed {s : State} {q ten n : Nat} {o : List Byte} (hvalid : s.pqValid q = true)
    (hinj : s.flag (PUNTq q) PUNTq_INJ_EN = true) (hslot : s.dnWr q ≠ s.dnRd q) (hawake : s.wakeable = false)
    (hup : s.hostUp = true) (hformed : slotFormed o (s.pqSlot q) = true) (hten : ten = bits (slotWord o 0) 23 14)
    (hn : n = bits (slotWord o 1) 25 16) (hserves : s.flag (PUNTq q) PUNTq_ANY = true ∨ s.fld (PUNTq q) PUNTq_TENANT = ten)
    (hen : s.portEn n = true) (hbound : s.portTenant n = some ten ∨ s.portTenant n = none) :
    s.injectOp q o false = (s.setFld (pqWord q 6) PUNTq_DN_RD (s.dnRd q + 1)).parse (n / 64) (s.slotItem o n) := by
  have hopen : (!s.pqValid q || !s.flag (PUNTq q) PUNTq_INJ_EN || s.dnWr q == s.dnRd q || s.wakeable || !s.hostUp) = false := by
    simp [hvalid, hinj, hslot, hawake, hup]
  have hserved : (!s.flag (PUNTq q) PUNTq_ANY && s.fld (PUNTq q) PUNTq_TENANT != ten) = false := by
    rcases hserves with h | h <;> simp [h]
  have hforeign : (s.portTenant n != some ten && (s.portTenant n).isSome) = false := by
    rcases hbound with h | h <;> simp [h]
  simp only [State.injectOp, hopen, ← hten, ← hn, hformed, hserved, hen, hforeign, Bool.not_true, Bool.false_eq_true, if_false]

/-! ### Node states and stops -/

theorem State.stateReqOp_taken {s : State} {v : Nat} (hv : v = 1 ∨ v = 2) (haccepts : s.acceptsWrites = true)
    (hconfig : s.refusesConfig = false) : s.stateReqOp v = (s.stateReq v).emitOut (.status 0x000103 0) := by
  rw [State.stateReqOp, State.actWrite, if_pos (by simp [haccepts, hconfig]), if_pos hv]
  rfl

theorem State.dataStopOp_taken {s : State} (haccepts : s.acceptsStops = true) :
    s.dataStopOp = s.dataStop.emitOut (.status 0x000201 0) := by
  rw [State.dataStopOp, State.actStop, if_pos haccepts, actDone]

theorem State.tenantStopOp_taken {s : State} (t : Nat) (haccepts : s.acceptsStops = true) :
    s.tenantStopOp t = (s.tenantStop t).emitOut (.status (256 * (0x4000 + 16 * t) + 2) 0) := by
  rw [State.tenantStopOp, State.actStop, if_pos haccepts, actDone]

/-- Settles O26: every clause is the equation of its command's operation in the case that the clause describes. -/
theorem puntAndStopCommandsComplete : Obligations.PuntAndStopCommandsComplete := by
  refine ⟨?item, ?slot, ?timeout, ?config, ?upRd, ?dnWr, ?inject, ?stateReq, ?dataStop, ?tenantStop⟩
  case item =>
    exact fun s t u q why it rest hin ht hvalid hserves hu hjoined =>
      next_settle_congr _ _ _ (State.puntItemOp_joins hin ht hvalid hserves hu hjoined)
  case slot =>
    exact fun s t u q x rest hqueue hvalid hroom hawake hsound ht hu =>
      next_settle_congr _ _ _ (State.puntSlotOp_head hqueue hvalid hroom hawake hsound ht hu)
  case timeout =>
    exact fun s q a rest hticks htmo hused hdue => next_settle_congr _ _ _ (State.puntTimeoutOp_due hticks htmo hused hdue)
  case config =>
    exact fun s t i q w hup hstopped hmay ht hvalid =>
      next_settle_congr _ _ _ ((State.hostAccess_of_up hup _).trans (State.puntCfg_validates hstopped hmay ht hvalid))
  case upRd =>
    exact fun s i q left w hup hleft h =>
      next_settle_congr _ _ _ ((State.hostAccess_of_up hup _).trans (State.upRdWrite_within i hleft h))
  case dnWr =>
    exact fun s i q w hup h => next_settle_congr _ _ _ ((State.hostAccess_of_up hup _).trans (State.dnWrWrite_within i h))
  case inject =>
    exact fun s q ten n o hvalid hinj hslot hawake hup hformed hten hn hserves hen hbound =>
      next_settle_congr _ _ _ (State.injectOp_parsed hvalid hinj hslot hawake hup hformed hten hn hserves hen hbound)
  case stateReq =>
    exact fun s haccepts hconfig => ⟨next_settle_congr _ _ _ (State.stateReqOp_taken (.inl rfl) haccepts hconfig),
      next_settle_congr _ _ _ (State.stateReqOp_taken (.inr rfl) haccepts hconfig)⟩
  case dataStop => exact fun s haccepts => next_settle_congr _ _ _ (State.dataStopOp_taken haccepts)
  case tenantStop => exact fun s t haccepts => next_settle_congr _ _ _ (State.tenantStopOp_taken t haccepts)

end Sys2Proof.Machine

/-! ## Requests arrive, are relayed and leave the tables they wait in (R444, R448, R455 to R458, R463, R465, R469) -/

namespace Sys2Proof.Machine

@[simp] theorem State.ctlTake_serves (s : State) (n : Nat) : (s.ctlTake n).serves = s.serves := rfl
@[simp] theorem State.ctlTake_th (s : State) (n : Nat) : (s.ctlTake n).th = s.th := rfl
@[simp] theorem State.ctlTake_oap (s : State) (n : Nat) : (s.ctlTake n).oap = s.oap := rfl
@[simp] theorem State.ctlTake_od (s : State) (n k : Nat) : (s.ctlTake n).od k = s.od k := rfl
@[simp] theorem State.ctlTake_mer (s : State) (n : Nat) : (s.ctlTake n).mer = s.mer := rfl
@[simp] theorem State.ctlTake_routeTo (s : State) (n k : Nat) : (s.ctlTake n).routeTo k = s.routeTo k := rfl

/-! ### Arrival -/

/-- The request of a mailbox leaves its submission and goes through the checks of session and sequence. -/
theorem State.oapInBox_takes {s t : State} {k : Nat} {m : Nat × List Byte × Nat}
    (hfind : s.oap.mbReq.find? (fun m => m.1 == k) = some m) (hformed : pduFormed false 0 m.2.1 = true)
    (hop : pduOp m.2.1 ≠ 0x30) (hbcast : pduBcast m.2.1 = false) (hnode : pduNode m.2.1 = s.nodeNumber)
    (hrec : s.recovering = true → pduOp m.2.1 = 0x10 ∧ pduSession m.2.1 = 0)
    (ht : t = { s with oap := { s.oap with mbReq := s.oap.mbReq.erase m } }) :
    s.oapInBox k = t.oapTake { src := .mailbox k, pdu := m.2.1, at_ := m.2.2 } := by
  have hserved : ¬ (t.recovering = true ∧ (!(pduOp m.2.1 = 0x10 ∧ pduSession m.2.1 = 0)) = true) := by
    rintro ⟨h, hnot⟩
    have hrecovering : s.recovering = true := by rw [← h, ht]; rfl
    simp [hrec hrecovering] at hnot
  have hmine : ¬ pduNode m.2.1 ≠ t.nodeNumber := by
    rw [ht]
    exact not_not_intro hnode
  simp only [State.oapInBox, hfind]
  rw [← ht, hformed, hbcast, Bool.not_true, if_neg Bool.false_ne_true, if_neg hop, if_neg Bool.false_ne_true, if_neg hmine]
  exact if_neg (by simpa using hserved)

/-- A sessionless request that may be asked joins a queue with room. -/
theorem State.oapTake_sessionless {s : State} {r : OapReq} (hsession : pduSession r.pdu = 0) (hnone : s.session? 0 = none)
    (hmay : s.mayAsk r.pdu = true) (hroom : s.oap.queue.length < 256) :
    s.oapTake r = { s with oap := { s.oap with queue := s.oap.queue ++ [r] } } := by
  simp only [State.oapTake, hsession, hnone, hmay, if_true, State.oapQueue, if_neg (Nat.not_le.mpr hroom)]

/-- Without a session what may be asked does not depend on the state. -/
theorem State.mayAsk_sessionless (s t : State) {p : List Byte} (hsession : pduSession p = 0) : t.mayAsk p = s.mayAsk p := by
  simp only [State.mayAsk, hsession, if_true]

/-- A request for this node on an OAP port whose link is up. -/
theorem State.oapInBand_takes {s : State} {n : Nat} {addr tag o p : List Byte} (hserves : s.serves = true)
    (hlink : s.flag (PORT_STATn n) PORT_STATn_LINK = true) (hport : (s.od 0x000302).testBit n = true)
    (hreq : (oct o 0).testBit 3 = false) (hformed : pduFormed false 46 o = true) (hp : p = o.take (pduTotal o))
    (hop : pduOp p ≠ 0x30) (hbcast : pduBcast p = false) (hnode : pduNode p = s.nodeNumber) :
    s.oapInBand n addr tag o = (s.ctlTake n).oapTake { src := .port n addr tag, pdu := p, at_ := s.mer } := by
  simp only [State.oapInBand, State.ctlTake_serves, State.ctlTake_flag, State.ctlTake_od, State.ctlTake_nodeNumber,
    State.ctlTake_mer, ← hp, hserves, hlink, hport, hreq, hformed, hbcast, hnode, if_neg hop, Bool.not_true, Bool.or_self,
    Bool.false_eq_true, if_false, if_true]

/-- The acceptance field of a frame to a management bus address holds the mark of OAP, the address and the sender. -/
theorem busAddress_fields {af me snd : Nat} (haf : af = 65536 * 0x4F41 + 32 * me + snd) (hme : me < 32) (hsnd : snd < 32) :
    af / 65536 = 0x4F41 ∧ af % 65536 / 2048 = 0 ∧ af / 32 % 32 = me := by
  omega

/-- A request in a CAN XL frame to this unit's address on a management bus. -/
theorem State.oapOnBus_takes {s : State} {b : Nat} {f : CanFrame} (hserves : s.serves = true) (hfmt : f.fmt = 2)
    (hsdt : f.sdt = 0x3E) (hsec : f.sec = false) (hvcid : f.vcid = 0)
    (haf : f.af = 65536 * 0x4F41 + 32 * s.fld (MBb_CFG b) MBb_CFG_ADDR + f.af % 32) (hnode : pduNode f.data = s.nodeNumber)
    (hformed : pduFormed false 0 f.data = true) (hop : pduOp f.data ≠ 0x30) (hbcast : pduBcast f.data = false) :
    s.oapOnBus b f = s.oapTake { src := .mb b (f.af % 32), pdu := f.data, at_ := s.mer } := by
  obtain ⟨hmark, hzero, haddr⟩ := busAddress_fields haf (getF_lt _ MBb_CFG_ADDR) (Nat.mod_lt _ (by decide))
  have hcarrier : (!s.serves || f.fmt != 2 || f.sdt != 0x3E || f.sec || f.vcid != 0 || f.af / 65536 != 0x4F41 ||
      f.af % 65536 / 2048 != 0) = false := by
    simp [hserves, hfmt, hsdt, hsec, hvcid, hmark, hzero]
  have hmine : (f.af / 32 % 32 == s.fld (MBb_CFG b) MBb_CFG_ADDR) = true := by simp [haddr]
  simp only [State.oapOnBus, hcarrier, hmine, hformed, hbcast, hnode, if_neg hop, Bool.not_true, Bool.false_and, ne_eq,
    not_true_eq_false, false_and, Bool.false_eq_true, if_false]

/-! ### Relaying -/

/-- A request for another node goes on towards it. -/
theorem State.oapRelayOp_request {s : State} {n q : Nat} {addr tag o p : List Byte} (hserves : s.serves = true)
    (hfull : s.th.restricted = false) (hlink : s.flag (PORT_STATn n) PORT_STATn_LINK = true)
    (hport : (s.od 0x000302).testBit n = true) (hreq : (oct o 0).testBit 3 = false) (hformed : pduFormed false 46 o = true)
    (hp : p = o.take (pduTotal o)) (hbcast : pduBcast p = false) (hnode : pduNode p ≠ s.nodeNumber) (hop : pduOp p ≠ 0x30)
    (hroute : s.routeTo (pduNode p) = some q) :
    s.oapRelayOp n addr tag o = (s.ctlTake n).relayRequest n addr tag p [q] := by
  have helse : (pduBcast p || pduNode p == s.nodeNumber || pduOp p == 0x30) = false := by simp [hbcast, hnode, hop]
  simp only [State.oapRelayOp, State.ctlTake_serves, State.ctlTake_flag, State.ctlTake_od, State.ctlTake_nodeNumber,
    State.ctlTake_th, State.ctlTake_routeTo, ← hp, hserves, hfull, hlink, hport, hreq, hformed, helse, hroute, Bool.not_true,
    Bool.or_self, Bool.false_eq_true, if_false, Option.toList_some]

/-- A well-formed response that was relayed goes on as its entry node says. -/
theorem State.oapRelayOp_response {s : State} {n : Nat} {addr tag o p : List Byte} (hserves : s.serves = true)
    (hfull : s.th.restricted = false) (hlink : s.flag (PORT_STATn n) PORT_STATn_LINK = true)
    (hport : (s.od 0x000302).testBit n = true) (hresp : (oct o 0).testBit 3 = true) (hformed : pduFormed true 46 o = true)
    (hp : p = o.take (pduTotal o)) (hrelayed : (oct p 12).testBit 7 = true) :
    (∀ e : RelayEnt, pduEntry p = s.nodeNumber →
      s.oap.relays.find? (fun e => e.session == pduSession p && e.seq == pduSeq p) = some e →
      s.oapRelayOp n addr tag o = ((s.ctlTake n).oapCount 9).oapSend (.port e.port e.addr e.tag) 2 p) ∧
    (∀ q : Nat, pduEntry p ≠ s.nodeNumber → s.routeTo (pduEntry p) = some q →
      s.oapRelayOp n addr tag o = (s.ctlTake n).relaySend q p) := by
  refine ⟨fun e hentry hfind => ?noted, fun q hentry hroute => ?onward⟩
  case noted =>
    simp only [State.oapRelayOp, State.ctlTake_serves, State.ctlTake_flag, State.ctlTake_od, State.ctlTake_nodeNumber,
      State.ctlTake_th, State.ctlTake_oap, ← hp, hserves, hfull, hlink, hport, hresp, hformed, hrelayed, hfind, Bool.not_true,
      Bool.or_self, Bool.false_eq_true, if_false, if_true, if_pos hentry]
  case onward =>
    simp only [State.oapRelayOp, State.ctlTake_serves, State.ctlTake_flag, State.ctlTake_od, State.ctlTake_nodeNumber,
      State.ctlTake_th, State.ctlTake_routeTo, ← hp, hserves, hfull, hlink, hport, hresp, hformed, hrelayed, hroute,
      Bool.not_true, Bool.or_self, Bool.false_eq_true, if_false, if_true, if_neg hentry]

/-- The relay entries that remain are those younger than 1 s. -/
theorem State.mem_relayExpiryOp (s : State) (e : RelayEnt) :
    e ∈ s.relayExpiryOp.oap.relays ↔ e ∈ s.oap.relays ∧ s.mer < e.at_ + secTicks := by
  simp [State.relayExpiryOp]

/-! ### The settlement -/

/-- Settles O41: every clause is the equation of its command's operation in the case that the clause describes. -/
theorem oapArrivalCommandsComplete : Obligations.OapArrivalCommandsComplete := by
  refine ⟨?sessionless, ?mailbox, ?port, ?bus, ?relayed, ?response, ?expiry, ?held⟩
  case sessionless =>
    intro s k at_ p hbox hformed hop hsession hnone hmay hbcast hnode hroom
    have hfind : s.oap.mbReq.find? (fun m => m.1 == k) = some (k, p, at_) := by rw [hbox]; simp
    have hempty : s.oap.mbReq.erase (k, p, at_) = [] := by rw [hbox]; simp
    refine next_settle_congr _ _ _ ((State.oapInBox_takes hfind hformed (by simp [hop]) hbcast hnode
      (fun _ => ⟨hop, hsession⟩) rfl).trans ?_)
    rw [hempty]
    exact State.oapTake_sessionless hsession hnone ((State.mayAsk_sessionless s _ hsession).trans hmay) hroom
  case mailbox =>
    exact fun s t k m hfind hformed hop hbcast hnode hrec ht =>
      next_settle_congr _ _ _ (State.oapInBox_takes hfind hformed hop hbcast hnode hrec ht)
  case port =>
    exact fun s n addr tag o p hserves hlink hport hreq hformed hp hop hbcast hnode =>
      next_settle_congr _ _ _ (State.oapInBand_takes hserves hlink hport hreq hformed hp hop hbcast hnode)
  case bus =>
    exact fun s b f hserves hfmt hsdt hsec hvcid haf hnode hformed hop hbcast =>
      next_settle_congr _ _ _ (State.oapOnBus_takes hserves hfmt hsdt hsec hvcid haf hnode hformed hop hbcast)
  case relayed =>
    exact fun s n q addr tag o p hserves hfull hlink hport hreq hformed hp hbcast hnode hop hroute =>
      next_settle_congr _ _ _ (State.oapRelayOp_request hserves hfull hlink hport hreq hformed hp hbcast hnode hop hroute)
  case response =>
    intro s n addr tag o p hserves hfull hlink hport hresp hformed hp hrelayed
    obtain ⟨hnoted, honward⟩ := State.oapRelayOp_response (addr := addr) (tag := tag) hserves hfull hlink hport hresp hformed hp hrelayed
    exact ⟨fun e hentry hfind => next_settle_congr _ _ _ (hnoted e hentry hfind),
      fun q hentry hroute => next_settle_congr _ _ _ (honward q hentry hroute)⟩
  case expiry =>
    refine fun s => ⟨settle s s.relayExpiryOp, rfl, fun e => ?_, by rw [settle_oap]; rfl, fun a => by rw [settle_rd]; rfl⟩
    rw [settle_oap]
    exact s.mem_relayExpiryOp e
  case held =>
    intro s x late keep hone hsplit
    refine next_settle_congr _ _ _ ?_
    simp only [State.heldTimeoutOp, hone, List.foldl_cons, List.foldl_nil, ← hsplit]

end Sys2Proof.Machine

/-! ## OPEN, PROVE, CLOSE and the session timers (R453, R454, R459 to R461) -/

namespace Sys2Proof.Machine

theorem State.openOp_sessionless {s t : State} {r : OapReq} (hnext : s.oapNext 1 = some r) (ht : t = s.unqueue r)
    (hsession : pduSession r.pdu = 0) :
    s.openOp = if t.openStatus (pduBody r.pdu) = 0 then t.openAllocate r (pduBody r.pdu)
      else (if t.openStatus (pduBody r.pdu) = 9 then t.oapCount 5 else t).oapOut r 2
        (t.replyPdu r.pdu none (t.openStatus (pduBody r.pdu)) []) := by
  rw [State.openOp, State.oapRun_open _ hnext (fun h => absurd hsession h), ht]

theorem State.proveOp_signature {s t : State} {r : OapReq} {x : Session} (hnext : s.oapNext 2 = some r) (ht : t = s.unqueue r)
    (hopen : s.session? (pduSession r.pdu) = some x) (hlen : (pduBody r.pdu).length = 96) :
    s.proveOp = if t.proves x (pduBody r.pdu) = true then (t.setSession { x with proved := true }).oapReply r 2 0 []
      else ((t.oapCount 6).oapReply r 2 12 []).closeSession x.num := by
  rw [State.proveOp, State.oapRun_open _ hnext (fun _ => by rw [hopen]; rfl), hopen, ht]
  exact if_neg (not_not_intro hlen)

theorem State.closeOp_empty {s : State} {r : OapReq} {x : Session} (hnext : s.oapNext 3 = some r)
    (hopen : s.session? (pduSession r.pdu) = some x) (hbody : pduBody r.pdu = []) :
    s.closeOp = ((s.unqueue r).oapReply r 2 0 []).closeSession (pduSession r.pdu) := by
  rw [State.closeOp, State.oapRun_open _ hnext (fun _ => by rw [hopen]; rfl), hbody]
  exact if_pos rfl

/-! ### Timers -/

/-- The sessions that remain are proved, have a PROVE in the queue, or are younger than 1 s. -/
theorem State.mem_proveTimeoutOp (s : State) (x : Session) :
    x ∈ s.proveTimeoutOp.oap.sessions ↔ x ∈ s.oap.sessions ∧ ((x.proved = true ∨
      s.oap.queue.any (fun r => pduOp r.pdu == 2 && pduSession r.pdu == x.num) = true) ∨ s.mer < x.opened + secTicks) := by
  simp only [State.proveTimeoutOp, List.mem_filter, Bool.or_eq_true, decide_eq_true_eq]

/-- The sessions that remain had a valid request within SESSION_IDLE seconds. -/
theorem State.mem_sessionIdleOp (s : State) (x : Session) :
    x ∈ s.sessionIdleOp.oap.sessions ↔ x ∈ s.oap.sessions ∧ s.mer < x.used + s.od 0x000304 * secTicks := by
  simp only [State.sessionIdleOp, List.mem_filter, decide_eq_true_eq]

/-- A snapshot or an assembly last touched a second ago is not kept. -/
theorem filter_touched_old {p : Nat × List Byte × Nat} {now : Nat} (hold : p.2.2 + secTicks ≤ now) :
    (some p).filter (fun p => decide (now < p.2.2 + secTicks)) = none := by
  simp [hold]

theorem State.snapTimeoutOp_one {s : State} {x : Session} {p : Nat × List Byte × Nat} (hone : s.oap.sessions = [x])
    (hsnap : x.snap = some p) (hold : p.2.2 + secTicks ≤ s.mer) :
    s.snapTimeoutOp = { s with oap := { s.oap with sessions := [{ x with snap := none }] } } := by
  simp only [State.snapTimeoutOp, hone, List.map_cons, List.map_nil, hsnap, filter_touched_old hold]

theorem State.asmTimeoutOp_one {s : State} {x : Session} {p : Nat × List Byte × Nat} (hone : s.oap.sessions = [x])
    (hasm : x.asm_ = some p) (hold : p.2.2 + secTicks ≤ s.mer) :
    s.asmTimeoutOp = { s with oap := { s.oap with sessions := [{ x with asm_ := none, aborted := true }] } } := by
  simp only [State.asmTimeoutOp, hone, List.map_cons, List.map_nil, hasm]
  simp [hold]

/-! ### The settlement -/

/-- Settles O42: every clause is the equation of its command's operation in the case that the clause describes. -/
theorem oapSessionCommandsComplete : Obligations.OapSessionCommandsComplete := by
  refine ⟨?opens, ?proves, ?proveTimeout, ?closes, ?idle, ?snapshot, ?assembly⟩
  case opens => exact fun s r hnext hsession _ => next_settle_congr _ _ _ (State.openOp_sessionless hnext rfl hsession)
  case proves => exact fun s r x hnext hopen hlen => next_settle_congr _ _ _ (State.proveOp_signature hnext rfl hopen hlen)
  case proveTimeout =>
    refine fun s => ⟨settle s s.proveTimeoutOp, rfl, fun x => ?_⟩
    rw [settle_oap, State.mem_proveTimeoutOp]
  case closes => exact fun s r x hnext hopen hbody => next_settle_congr _ _ _ (State.closeOp_empty hnext hopen hbody)
  case idle =>
    refine fun s => ⟨settle s s.sessionIdleOp, rfl, fun x => ?_⟩
    rw [settle_oap, State.mem_sessionIdleOp]
  case snapshot =>
    exact fun s x o tk l hone hsnap hold => next_settle_congr _ _ _ (State.snapTimeoutOp_one hone hsnap hold)
  case assembly =>
    exact fun s x o tk l hone hasm hold => next_settle_congr _ _ _ (State.asmTimeoutOp_one hone hasm hold)

end Sys2Proof.Machine

/-! ## Locks, rearm, aliases, mailboxes, SPI ends, PCIe resets and a scrub (R474 to R485, R494 to R498, R576) -/

namespace Sys2Proof.Machine

theorem State.thimAccess_of_up {s : State} (h : s.hostUp = true) (t : State) : s.thimAccess t = t := by
  rw [State.thimAccess, h, Bool.true_or, if_pos rfl]

/-- A bit number below 32 and a word's address below 2^23 are those of the alias. -/
theorem State.aliasWriteOp_bit {s : State} {i : Iface} {b a : Nat} {w : Word} {d : RegDesc} (hup : s.hostUp = true) (hb : b < 32)
    (ha : a < 2 ^ 23) (halign : a % 4 = 0) (hdef : regDesc? a = some d) (hbit : aliasable d b = true) :
    s.aliasWriteOp i b a w = s.regWrite i a (aliasValue d (s.rd a) b (w.getLsbD 0)) := by
  have hword : a % 2 ^ 23 / 4 * 4 = a := by omega
  rw [State.aliasWriteOp, State.hostAccess_of_up hup, Nat.mod_eq_of_lt hb, hword]
  simp only [State.aliasWrite, hdef, hbit, Bool.not_true, Bool.false_eq_true, if_false]

/-! ### Mailboxes -/

/-- A submission of 16 to 1,056 octets to a free mailbox. -/
theorem State.mbSubmitOp_free {s t u : State} {i : Iface} {k n : Nat} {w : Word} (hup : s.hostUp = true)
    (hbox : mailboxOf i = some k) (hsubmit : getB w THIM_MBCTLk_SUBMIT = true)
    (hbusy : s.flag (THIM_MBCTLk k) THIM_MBCTLk_BUSY = false) (hresp : s.flag (THIM_MBCTLk k) THIM_MBCTLk_RESP = false)
    (hn : n = getF w THIM_MBCTLk_LEN) (hmin : 16 ≤ n) (hmax : n ≤ 1056) (hrelease : getB w THIM_MBCTLk_RELEASE = false)
    (ht : t = s.typedWrite i (THIM_MBCTLk k) w)
    (hu : u = (t.setFld (THIM_MBCTLk k) THIM_MBCTLk_BUSY 1).setFld (THIM_MBCTLk k) THIM_MBCTLk_NORESP 0) :
    s.mbSubmitOp i w = { u with oap := { u.oap with mbReq := u.oap.mbReq ++ [(k, u.mbOctets k n, s.mer)] } } := by
  have hlength : ¬ (n < 16 ∨ 1056 < n) := by omega
  simp only [State.mbSubmitOp, hbox, hsubmit, if_true, State.thimAccess_of_up hup, State.mbCtlWrite, ne_eq, not_true_eq_false,
    hbusy, hresp, hrelease, Bool.or_self, Bool.not_true, Bool.false_eq_true, if_false, ← hn, if_neg hlength, ← ht, ← hu]

theorem State.mbReleaseOp_releases {s : State} {i : Iface} {k : Nat} {w : Word} (hup : s.hostUp = true)
    (hbox : mailboxOf i = some k) (hsubmit : getB w THIM_MBCTLk_SUBMIT = false) (hrelease : getB w THIM_MBCTLk_RELEASE = true) :
    s.mbReleaseOp i w = ((s.typedWrite i (THIM_MBCTLk k) w).setFld (THIM_MBCTLk k) THIM_MBCTLk_RESP 0).setFld (THIM_MBCTLk k)
      THIM_MBCTLk_NORESP 0 := by
  simp only [State.mbReleaseOp, hbox, hsubmit, hrelease, Bool.not_false, Bool.and_true, if_true, State.thimAccess_of_up hup,
    State.mbCtlWrite, ne_eq, not_true_eq_false, if_false]

/-- The response to a busy mailbox fills its buffer. -/
theorem State.mbResponseOp_busy {s t : State} {k : Nat} {r : Nat × List Byte}
    (hfind : s.oap.mbResp.find? (fun r => r.1 == k) = some r) (hbusy : s.flag (THIM_MBCTLk k) THIM_MBCTLk_BUSY = true)
    (ht : t = (List.range ((r.2.length + 3) / 4)).foldl
      (fun t j => t.wr (THIM_MBRESP k j) (BitVec.ofNat 32 (leNat (slice r.2 (4 * j) 4))))
      { s with oap := { s.oap with mbResp := s.oap.mbResp.erase r } }) :
    s.mbResponseOp k = (((t.setFld (THIM_MBCTLk k) THIM_MBCTLk_BUSY 0).setFld (THIM_MBCTLk k) THIM_MBCTLk_RESP 1).setFld
      (THIM_MBRLENk k) THIM_MBRLENk_RLEN r.2.length).setFld THIM_MBEVT
        (if k = 0 then THIM_MBEVT_RESP0 else THIM_MBEVT_RESP1) 1 := by
  have hbusy' : State.flag { s with oap := { s.oap with mbResp := s.oap.mbResp.erase r } } (THIM_MBCTLk k) THIM_MBCTLk_BUSY = true :=
    hbusy
  simp only [State.mbResponseOp, hfind, hbusy', Bool.not_true, Bool.false_eq_true, if_false, ← ht]

/-! ### SPI transactions and the scrubber -/

/-- No clock edge since the last whole word: a clean end. -/
theorem State.spiEndOp_clean {s : State} (hup : s.hostUp = true) (cmd : Nat) : s.spiEndOp 0 cmd true = s := by
  simp [State.spiEndOp, State.thimAccess_of_up hup]

/-- Fewer than 8 edges end inside the command, whose bits are not judged. -/
theorem State.spiEndOp_inCommand {s : State} {n : Nat} (hup : s.hostUp = true) (hn : n < 8) (hn0 : n ≠ 0) (cmd : Nat) :
    s.spiEndOp n cmd false = (s.hostErr SYS_HOSTERR_SPI_FRAME .spi (bits cmd 31 0)).bumpSat SYS_SPICNT SYS_SPICNT_FRAME := by
  have h8 : ¬ 8 ≤ n := by omega
  have h40 : ¬ 40 ≤ n := by omega
  simp only [State.spiEndOp, h8, h40, hn0, false_and, and_false, or_self, Bool.false_eq_true, if_false, State.thimAccess_of_up hup]

theorem State.scrubAccessOp_inOrder {s t u : State} {c a : Nat} {upset : List Nat} (hon : s.flag ECC_CTRL ECC_CTRL_SCRUB_EN = true)
    (hc : c < 7) (hperiod : s.fld (ECC_CLSk c + 28) ECC_CLSk_PERIOD ≠ 0) (hpass : Sparse.get (fun _ => 0) s.scrubAt c ≤ a)
    (ht : t = State.flushKey { s with scrubAt := Sparse.set (fun _ => 0) s.scrubAt c a } (codeKey c a))
    (hu : u = (t.setFlaws c a ((upset.filter (fun p => decide (p < codeBits c))).foldl flip (t.flawsAt c a))).codeRead c a) :
    s.scrubAccessOp c a upset = if u.poisoned c a = true ∧ s.poisoned c a = false then u.wordLost c a else u := by
  have hscrubs : ¬ ((!s.flag ECC_CTRL ECC_CTRL_SCRUB_EN) = true ∨ 7 ≤ c ∨ s.fld (ECC_CLSk c + 28) ECC_CLSk_PERIOD = 0) := by
    simp [hon, hperiod, hc]
  have hread : s.scrubOp c a upset = u := by
    simp only [State.scrubOp, if_neg hscrubs, if_neg (Nat.not_lt.mpr hpass), ← ht, ← hu]
  simp only [State.scrubAccessOp, hread]
  cases hpu : u.poisoned c a <;> cases hps : s.poisoned c a <;> simp

/-! ### The settlement -/

/-- Settles O44: every clause is the equation of its command's operation in the case that the clause describes. -/
theorem hostInterfaceCommandsComplete : Obligations.HostInterfaceCommandsComplete := by
  refine ⟨?lockall, ?rearm, ?aliases, ?submit, ?release, ?response, ?clean, ?unclean, ?flr, ?perst, ?scrub⟩
  case lockall =>
    exact fun s i w hup hall => next_settle_congr _ _ _
      ((if_pos hall).trans ((State.hostAccess_of_up hup _).trans (if_pos hall)))
  case rearm => exact fun s i w hup => next_settle_congr _ _ _ (State.hostAccess_of_up hup _)
  case aliases =>
    exact fun s i b a w d hup hb ha halign hdef hbit => next_settle_congr _ _ _ (State.aliasWriteOp_bit hup hb ha halign hdef hbit)
  case submit =>
    exact fun s t u i k n w hup hbox hsubmit hbusy hresp hn hmin hmax hrelease ht hu => next_settle_congr _ _ _
      (State.mbSubmitOp_free hup hbox hsubmit hbusy hresp hn hmin hmax hrelease ht hu)
  case release =>
    exact fun s i k w hup hbox hsubmit hrelease => next_settle_congr _ _ _ (State.mbReleaseOp_releases hup hbox hsubmit hrelease)
  case response => exact fun s t k r hfind hbusy ht => next_settle_congr _ _ _ (State.mbResponseOp_busy hfind hbusy ht)
  case clean => exact fun s cmd hup => next_settle_congr _ _ _ (State.spiEndOp_clean hup cmd)
  case unclean => exact fun s n cmd hup hn hn0 => next_settle_congr _ _ _ (State.spiEndOp_inCommand hup hn hn0 cmd)
  case flr => exact fun s hup => next_settle_congr _ _ _ (State.hostAccess_of_up hup _)
  case perst => exact fun s => ⟨rfl, rfl⟩
  case scrub =>
    exact fun s t u c a upset hon hc hperiod hpass ht hu => next_settle_congr _ _ _
      (State.scrubAccessOp_inOrder hon hc hperiod hpass ht hu)

end Sys2Proof.Machine

/-! ## Words, bridge operations and the protected memories (R477, R499 to R505, R569, R575, R577, R578) -/

namespace Sys2Proof.Machine

/-! ### Words written and read -/

/-- With no SPI word waiting there is none to apply. -/
theorem State.spiDrained {s : State} (hempty : s.hs.spiQ = []) (i : Iface) : (if i = .spi then s.spiDrain 64 else s) = s := by
  have hdrain : s.spiDrain 64 = s := by simp only [State.spiDrain, hempty]
  rw [hdrain, ite_self]

/-- Below the bridge region with no SPI word waiting nothing must wait. -/
theorem State.spiHeld_control {s : State} {a : Nat} (hempty : s.hs.spiQ = []) (hregion : inBridge a = false) (i : Iface) :
    s.spiHeld i a = false := by
  simp [State.spiHeld, State.spiReady, hempty, hregion]

theorem inBridge_control {a : Nat} (ha : a < 0x10000000) : inBridge a = false := by
  simp only [inBridge, decide_eq_false (Nat.not_le.mpr ha), Bool.false_and]

theorem inBridge_of_within {a n : Nat} (hlow : 0x10000000 ≤ a) (hn : 0 < n) (hhigh : a + 4 * n ≤ 0x20000000) : inBridge a = true := by
  rw [inBridge, decide_eq_true hlow, decide_eq_true (by omega), Bool.and_self]

theorem State.hostWrite_control {s : State} {i : Iface} {a : Nat} {w : Word} (hlink : s.pcieDown = false) (ha : a < 0x10000000)
    (halign : a % 4 = 0) : s.hostWrite i a 15 0 w = s.regWrite i a w := by
  have hword : a / 4 * 4 = a := by omega
  have hbar : ¬ 2 ^ 32 ≤ a := by omega
  simp only [State.hostWrite, hword, hlink, Bool.false_eq_true, and_false, if_false, if_neg hbar, if_pos ha,
    OfNat.zero_ne_ofNat, zero_ne_one, if_true]

theorem State.hostRead_control {s : State} {i : Iface} {a : Nat} (ha : a < 0x10000000) (halign : a % 4 = 0) :
    s.hostRead i a = s.regRead i a := by
  have hword : a / 4 * 4 = a := by omega
  have hbar : ¬ (i = .pcie ∧ 2 ^ 32 ≤ a) := by omega
  simp only [State.hostRead, hword, if_neg hbar, if_pos ha]

/-- A full word written in the control region has the effect of its register. -/
theorem State.registerWriteOp_control {s : State} {a : Nat} (hup : s.hostUp = true) (hempty : s.hs.spiQ = [])
    (hlink : s.pcieDown = false) (ha : a < 0x10000000) (halign : a % 4 = 0) (i : Iface) (w : Word) :
    s.registerWriteOp i a 15 0 w = s.regWrite i a w := by
  simp only [State.registerWriteOp, State.spiDrained hempty, State.spiHeld_control hempty (inBridge_control ha) i,
    inBridge_control ha, Bool.false_eq_true, and_false, false_and, if_false, State.thimAccess_of_up hup,
    State.hostWrite_control hlink ha halign]

/-- A word read in the control region is answered. -/
theorem State.spiReadOp_control {s : State} {a : Nat} (hup : s.hostUp = true) (hempty : s.hs.spiQ = [])
    (hlink : s.pcieDown = false) (ha : a < 0x10000000) (halign : a % 4 = 0) (i : Iface) :
    s.spiReadOp i a false = (s.regRead i a).2.emitOut (.readData i a (s.regRead i a).1) := by
  have hword : a / 4 * 4 = a := by omega
  simp only [State.spiReadOp, State.spiDrained hempty, hlink, hempty, inBridge_control ha, State.thimAccess_of_up hup,
    State.hostRead_control ha halign, hword, Bool.false_eq_true, and_false, false_and, ne_eq, not_true_eq_false, or_self, if_false]

/-! ### Bridge operations -/

section Enter
variable {s : State} {a n : Nat} (halign : a % 4 = 0) (hlow : 0x10000000 ≤ a) (hn : 0 < n) (hmax : n ≤ 64)
  (hhigh : a + 4 * n ≤ 0x20000000) (hwin : brWin a = brWin (a + 4 * n - 4))
include halign hlow hn hmax hhigh hwin

/-- Words of one window enter the queue of an interface with fewer than 64 operations. -/
theorem State.brEnter_window {i : Iface} (hiface : ifaceNum i < 3) (hroom : s.brCount (ifaceNum i) < 64) (write : Bool)
    (ws : List Word) :
    s.brEnter i write a ws n =
      let t := if write = true then s.pfDropWin (brWin a) else s
      (t.setOps (t.hs.ops ++
        [{ iface := ifaceNum i, write := write, addr := a, data := if write = true then ws else [], count := n, fetch := n, seq := 0,
           tries := 0, sentAt := 0 }])).brStart (ifaceNum i) 64 := by
  have hword : a / 4 * 4 = a := by omega
  have hrefused : ¬ (3 ≤ ifaceNum i ∨ n = 0 ∨ 64 < n ∨ a < 0x10000000 ∨ 0x20000000 < a + 4 * n ∨
      brWin a ≠ brWin (a + 4 * n - 4) ∨ 64 ≤ s.brCount (ifaceNum i)) := by
    rw [not_or, not_or, not_or, not_or, not_or, not_or, not_not]
    exact ⟨by omega, by omega, by omega, by omega, by omega, hwin, by omega⟩
  simp only [State.brEnter, hword, if_neg hrefused]

end Enter

theorem State.bridgeOp_pcieWrite {s : State} {a : Nat} {ws : List Word} (hup : s.hostUp = true) (hlink : s.pcieDown = false)
    (hne : ws ≠ []) (hmax : ws.length ≤ 64) (halign : a % 4 = 0) (hlow : 0x10000000 ≤ a)
    (hhigh : a + 4 * ws.length ≤ 0x20000000) (hwin : brWin a = brWin (a + 4 * ws.length - 4)) (hroom : s.brCount 0 < 64) (k : Nat) :
    s.bridgeOp .pcie true a ws k =
      ((s.pfDropWin (brWin a)).setOps ((s.pfDropWin (brWin a)).hs.ops ++
        [{ iface := 0, write := true, addr := a, data := ws, count := ws.length, fetch := ws.length, seq := 0, tries := 0,
           sentAt := 0 }])).brStart 0 64 := by
  have hheld : s.spiHeld .pcie a = false := rfl
  have henter := State.brEnter_window halign hlow (List.length_pos_iff.mpr hne) hmax hhigh hwin (i := .pcie) (by decide) hroom true ws
  simp only [State.bridgeOp, reduceCtorEq, if_false, hlink, hheld, Bool.false_eq_true, and_false, if_true, State.hostAccess_of_up hup,
    henter]
  rfl

theorem State.bridgeOp_spiRead {s : State} {a n : Nat} (hup : s.hostUp = true) (hempty : s.hs.spiQ = []) (hn : 0 < n)
    (hmax : n ≤ 64) (halign : a % 4 = 0) (hlow : 0x10000000 ≤ a) (hhigh : a + 4 * n ≤ 0x20000000)
    (hwin : brWin a = brWin (a + 4 * n - 4)) (hroom : s.brCount 1 < 64) :
    s.bridgeOp .spi false a [] n =
      (s.setOps (s.hs.ops ++
        [{ iface := 1, write := false, addr := a, data := [], count := n, fetch := n, seq := 0, tries := 0, sentAt := 0 }])).brStart 1 64 := by
  have hheld : s.spiHeld .spi a = false := by
    simp [State.spiHeld, State.spiReady, hempty, hroom]
  have henter := State.brEnter_window halign hlow hn hmax hhigh hwin (i := .spi) (by decide) hroom false []
  rw [State.bridgeOp, State.spiDrained hempty]
  simp only [reduceCtorEq, false_and, if_false, hheld, Bool.false_eq_true, State.hostAccess_of_up hup, henter]
  rfl

/-- An operation without a response that has attempts left is sent again. -/
theorem State.brTimeoutOp_again {s : State} {i : Nat} {o : BrOp} (hhead : s.brHead i = some o) (hsent : 0 < o.tries)
    (hdue : o.sentAt + s.brTmo * usTicks ≤ s.mer) (hleft : o.tries ≤ s.fld BRDG_CTRL BRDG_CTRL_RETRY)
    (hreach : s.brReachable (brWin o.addr) = true) : s.brTimeoutOp i = s.brSend o := by
  have hattempts : ¬ 1 + s.fld BRDG_CTRL BRDG_CTRL_RETRY ≤ o.tries := by omega
  simp only [State.brTimeoutOp, hhead, if_pos (And.intro hsent hdue), State.brAgain, if_neg hattempts, hreach, Bool.not_true,
    Bool.false_eq_true, if_false]

/-- A good response of the twin to a WRITE ends it. -/
theorem State.brResponseOp_written {s : State} {p : List Byte} {o : BrOp} (hup : s.seamUp = true) (hmagic : oct p 0 = 0xB1)
    (hmatch : s.brMatch true p = some o) (hwrite : o.write = true) (hlen : 16 ≤ p.length) (hop : oct p 1 = 0x82)
    (haddr : beAt p 4 4 = s.brRemote o.addr) (hcount : beAt p 8 2 = o.data.length) (hgood : oct p 10 = 0) :
    s.brResponseOp (some p) = (s.brEnd o 0 o.data).brStart o.iface 64 := by
  have hpacket : (!s.seamUp || oct p 0 != 0xB1) = false := by simp [hup, hmagic]
  have hsound : ¬ (p.length < 16 ∨ (!(oct p 1 == 0x82 && beAt p 4 4 == s.brRemote o.addr && beAt p 8 2 == o.data.length)) = true ∨
      3 < oct p 10 ∨ (!o.write) = true ∧ oct p 10 = 0 ∧ p.length < 16 + 4 * o.data.length) := by
    simp [hop, haddr, hcount, hgood, hwrite, hlen]
  simp only [State.brResponseOp, hpacket, hmatch, Bool.false_eq_true, if_false, State.brTake, hwrite, if_true]
  rw [hwrite] at hsound
  rw [if_neg hsound, if_pos hgood]

theorem State.pfExpiryOp_due {s : State} {i : Nat} {b : Nat × PfBuf} (hfind : s.hs.pf.find? (fun p => p.1 == i) = some b)
    (hdue : b.2.at_ + 100 * usTicks ≤ s.mer) : s.pfExpiryOp i = s.pfDrop i := by
  simp only [State.pfExpiryOp, hfind, if_pos hdue]

/-! ### The twin's requests -/

/-- A READ of the twin whose words are all read is answered with them, under its tag. -/
theorem State.bridgeRequestOp_read {s t : State} {p : List Byte} {l : List Word} (hup : s.seamUp = true) (hformed : brFormed p = true)
    (hop : oct p 1 = 1) (hnew : s.hs.done.find? (fun d => d.1 == beAt p 2 2) = none)
    (hread : s.twinRead (beAt p 4 4 / 4 * 4) (beAt p 8 2) = (l, t)) (hall : l.length = beAt p 8 2) :
    s.bridgeRequestOp p =
      (State.count { t with hs := { t.hs with done := ((beAt p 2 2, brResponse p 0 0 l) :: t.hs.done).take 16 } } (SEAM_CNTc 6)).emitOut
        (.bridge none (brResponse p 0 0 l)) := by
  have hread2 : ¬ oct p 1 = 2 := by omega
  simp only [State.bridgeRequestOp, hup, hformed, Bool.not_true, Bool.or_self, Bool.false_eq_true, if_false, hnew, if_neg hread2,
    hread, if_pos hall]

/-- A WRITE of the twin whose words are all applied is answered with their number. -/
theorem State.bridgeRequestOp_write {s t : State} {p : List Byte} {n : Nat} (hup : s.seamUp = true) (hformed : brFormed p = true)
    (hop : oct p 1 = 2) (hnew : s.hs.done.find? (fun d => d.1 == beAt p 2 2) = none) (hn : n = beAt p 8 2)
    (hwrite : s.twinWrite (beAt p 4 4 / 4 * 4) ((List.range n).map (fun k => BitVec.ofNat 32 (beAt p (16 + 4 * k) 4))) = (n, t)) :
    s.bridgeRequestOp p =
      (State.count { t with hs := { t.hs with done := ((beAt p 2 2, brResponse p 0 n []) :: t.hs.done).take 16 } } (SEAM_CNTc 6)).emitOut
        (.bridge none (brResponse p 0 n [])) := by
  simp only [State.bridgeRequestOp, hup, hformed, Bool.not_true, Bool.or_self, Bool.false_eq_true, if_false, hnew, if_pos hop, ← hn,
    hwrite, if_true]

/-! ### Protected memories -/

/-- A leak that has not fallen yet lowers the bucket by one. -/
theorem State.leakTickOp_due {s : State} {c n : Nat} (hc : c < 7) (hn : n = s.fld (ECC_CLSk c) ECC_CLSk_LEAK * msTicks) (hn0 : n ≠ 0)
    (hdue : Sparse.get (fun _ => 0) s.leakAt c < s.mer / n * n) :
    s.leakTickOp c = State.setFld { s with leakAt := Sparse.set (fun _ => 0) s.leakAt c (s.mer / n * n) }
      (ECC_CLSk c + 4) ECC_CLSk_LEVEL (s.fld (ECC_CLSk c + 4) ECC_CLSk_LEVEL - 1) := by
  have hfalls : ¬ (7 ≤ c ∨ n = 0 ∨ s.mer / n * n ≤ Sparse.get (fun _ => 0) s.leakAt c) := by
    rintro (h | h | h) <;> omega
  simp only [State.leakTickOp, ← hn, if_neg hfalls]

theorem State.mergeFlushOp_oldest {s : State} {c : Nat} {e : Nat × Nat × Nat}
    (hfind : s.merge.find? (fun e => e.1 / 2 ^ 32 == c) = some e) : s.mergeFlushOp c = s.flushKey e.1 := by
  simp only [State.mergeFlushOp, hfind]

section Parity
variable {s t v : State} {island : Nat} (hisland : island < 1024) (ht : t = s.bumpSat (ECC_CLSk 7 + 16) ECC_CLSk_UE_CNT)
  (hv : v = ((if t.flag ECC_EVT ECC_EVT_FIFO_UE = true then t
    else t.wr (ECC_CLSk 7 + 20) (BitVec.ofNat 32 (0x7F000000 + island))).setFld ECC_EVT ECC_EVT_FIFO_UE 1).log 578 island [island])
include hisland ht hv

/-- The newest item of the port at its parser is the one that the word carried. -/
theorem State.fifoParityOp_parsed {u : State} (hparsed : v.hurtParsed (island / 64) (fun it => it.src == island) = some u) :
    s.fifoParityOp island = u := by
  simp only [State.fifoParityOp, ← ht, ← hv, if_pos hisland, hparsed]

/-- Otherwise the frame on its way to the port's line goes out as a bad one. -/
theorem State.fifoParityOp_line {x : TxFrame} {u : State}
    (hparsed : v.hurtParsed (island / 64) (fun it => it.src == island) = none) (hline : (v.port island).tx = some x)
    (hu : u = v.dropItem x.item rMalformed) :
    s.fifoParityOp island = u.setPort island { u.port island with tx := some { x with item := { x.item with bad := true } } } := by
  simp only [State.fifoParityOp, ← ht, ← hv, if_pos hisland, hparsed, hline, ← hu]

end Parity

/-! ### The settlement -/

/-- Settles O45: every clause is the equation of its command's operation in the case that the clause describes. -/
theorem bridgeAndMemoryCommandsComplete : Obligations.BridgeAndMemoryCommandsComplete := by
  refine ⟨?written, ?read, ?pcieWrite, ?spiRead, ?timeout, ?response, ?prefetch, ?twinRead, ?twinWrite, ?leak, ?merge, ?armed, ?parity⟩
  case written =>
    exact fun s i a w hup hempty hlink ha halign =>
      next_settle_congr _ _ _ (State.registerWriteOp_control hup hempty hlink ha halign i w)
  case read =>
    exact fun s i a hup hempty hlink ha halign => next_settle_congr _ _ _ (State.spiReadOp_control hup hempty hlink ha halign i)
  case pcieWrite =>
    exact fun s a k ws hup hlink hne hmax halign hlow hhigh hwin hroom => next_settle_congr _ _ _
      (State.bridgeOp_pcieWrite hup hlink hne hmax halign hlow hhigh hwin hroom k)
  case spiRead =>
    exact fun s a n hup hempty hn hmax halign hlow hhigh hwin hroom => next_settle_congr _ _ _
      (State.bridgeOp_spiRead hup hempty hn hmax halign hlow hhigh hwin hroom)
  case timeout =>
    exact fun s i o hhead hsent hdue hleft hreach => next_settle_congr _ _ _ (State.brTimeoutOp_again hhead hsent hdue hleft hreach)
  case response =>
    exact fun s p o hup hmagic hmatch hwrite hlen hop haddr hcount hgood => next_settle_congr _ _ _
      (State.brResponseOp_written hup hmagic hmatch hwrite hlen hop haddr hcount hgood)
  case prefetch => exact fun s i b hfind hdue => next_settle_congr _ _ _ (State.pfExpiryOp_due hfind hdue)
  case twinRead =>
    exact fun s t p l hup hformed hop hnew hread hall => next_settle_congr _ _ _
      (State.bridgeRequestOp_read hup hformed hop hnew hread hall)
  case twinWrite =>
    exact fun s t p n hup hformed hop hnew hn hwrite => next_settle_congr _ _ _
      (State.bridgeRequestOp_write hup hformed hop hnew hn hwrite)
  case leak => exact fun s c n hc hn hn0 hdue => next_settle_congr _ _ _ (State.leakTickOp_due hc hn hn0 hdue)
  case merge => exact fun s c e hfind => next_settle_congr _ _ _ (State.mergeFlushOp_oldest hfind)
  case armed => exact fun s i w hup => next_settle_congr _ _ _ (State.hostAccess_of_up hup _)
  case parity =>
    exact fun s t v island hisland ht hv =>
      ⟨fun u hparsed => next_settle_congr _ _ _ (State.fifoParityOp_parsed hisland ht hv hparsed),
        fun x u hparsed hline hu => next_settle_congr _ _ _ (State.fifoParityOp_line hisland ht hv hparsed hline hu)⟩

end Sys2Proof.Machine

/-! ## The Thimble's sensors, event log, OTP and saves (R507 to R523, R536) -/

namespace Sys2Proof.Machine

/-- An action on a per-twin object in a node state that accepts writes answers its status. -/
theorem State.actOwn_accepts {s : State} (haccepts : s.acceptsWrites = true) (object : Nat) (f : State → Nat × State) :
    s.actOwn object f = (f s).2.emitOut (.status object (f s).1) := by
  rw [State.actOwn, if_pos haccepts, actDone]

/-! ### Sensors -/

/-- Outside INIT and SAFE a cause of R507 enters SAFE. -/
theorem State.safeEntry_enters {s : State} (hinit : s.node ≠ .init) (hsafe : s.node ≠ .safe) (cause : Nat) :
    s.safeEntry cause =
      (State.setFld { s.dataStop.log 507 0 [cause] with safeAlarm := true } THIM_EVT THIM_EVT_SAFE 1).enterSafe :=
  if_neg (not_or.mpr ⟨hinit, hsafe⟩)

theorem State.lockstepOp_running {s t : State} (hboot : 2 ≤ s.pw.boot) (hinit : s.node ≠ .init) (hsafe : s.node ≠ .safe)
    (ht : t = (State.setFld { s.dataStop.log 507 0 [0] with safeAlarm := true } THIM_EVT THIM_EVT_SAFE 1).enterSafe) :
    s.lockstepOp = { t with th := { t.th with restricted := true }, hostUp := true } := by
  have hsafe : s.safeEntry 0 = t := by rw [State.safeEntry_enters hinit hsafe, ht]
  rw [State.lockstepOp, if_neg (Nat.not_lt.mpr hboot), hsafe]

/-- A reading below WARN and CRIT, and no tamper, shows in its sensor, and in TMAX when it is higher. -/
theorem State.thermalOp_cool {s t : State} {n temp : Nat} (hboot : s.pw.boot ≠ 0) (hfull : s.th.restricted = false)
    (hwarn : sext 16 temp < s.warnTemp) (hcool : s.th.hotWarn = false) (hcrit : sext 16 temp < s.critTemp)
    (htamper : -720 ≤ sext 16 temp)
    (ht : t = (if sext 16 (s.fld THIM_TMAX THIM_TMAX_TEMP) < sext 16 temp then
      ((s.setFld (THIM_TSENSn n) THIM_TSENSn_TEMP temp).setFld THIM_TMAX THIM_TMAX_TEMP temp).setFld THIM_TMAX THIM_TMAX_SENSOR n
      else s.setFld (THIM_TSENSn n) THIM_TSENSn_TEMP temp)) :
    s.thermalOp n temp = { t with th := { t.th with critSince := Sparse.set (fun _ => none) t.th.critSince n none } } := by
  have hth : t.th = s.th := by
    rw [ht, apply_ite State.th, State.setFld_th, State.setFld_th, State.setFld_th, ite_self]
  have hcool' : t.th.hotWarn = false := by rw [hth, hcool]
  have hbelow : ¬ s.warnTemp ≤ sext 16 temp := not_le.mpr hwarn
  have hlow : ¬ sext 16 temp < -720 := not_lt.mpr htamper
  simp only [State.thermalOp, if_neg hboot, State.unrestricted, hfull, ← ht, hbelow, hcool', if_neg (not_le.mpr hcrit), hlow,
    Bool.false_eq_true, false_and, if_false]

theorem State.thermalCritOp_due {s : State} {n since : Nat} (hsince : Sparse.get (fun _ => none) s.th.critSince n = some since)
    (hdue : since + msTicks ≤ s.mer) (hfull : s.th.restricted = false) : s.thermalCritOp n = s.safeEntry 1 := by
  simp only [State.thermalCritOp, hsince]
  exact if_pos ⟨hdue, by rw [hfull]; rfl⟩

/-- The answers of a valid regulator. -/
theorem State.pmbusOp_answered {s t : State} {r v i st c : Nat} (hvalid : s.flag (THIM_RAILCFGr r) THIM_RAILCFGr_VALID = true)
    (hfull : s.th.restricted = false)
    (ht : t = State.emitOut { s with th := { s.th with pmbSeen := Sparse.set (fun _ => false) s.th.pmbSeen r true } }
      (.pmbus r ((if Sparse.get (fun _ => false) s.th.pmbSeen r = true then [] else [0x20]) ++ [0x88, 0x8B, 0x8C, 0x8D, 0x79] ++
        (if st = 0 then [] else [0x03])))) :
    s.pmbusOp r (some (v, i, st, c)) =
      ((((t.setFld (THIM_RAILr r) THIM_RAILr_ERR 0).setFld (THIM_RAILr r) THIM_RAILr_VOUT v).setFld (THIM_RAILr r)
        THIM_RAILr_IOUT i).setFld (THIM_RAILr r + 4) THIM_RAILr_STATUS st).setFld (THIM_RAILr r + 4) THIM_RAILr_TEMP c := by
  have hpolled : (!s.flag (THIM_RAILCFGr r) THIM_RAILCFGr_VALID || s.th.restricted) = false := by rw [hvalid, hfull]; rfl
  simp only [State.pmbusOp, hpolled, Bool.false_eq_true, if_false, ← ht]

/-! ### The event log, the trust anchor and saves -/

/-- The oldest record goes to its slot and raises LOGSEQ. -/
theorem State.logWriteOp_oldest {s : State} {r : LogRec} {rest : List LogRec} {q : Nat} {o : List Byte}
    (hqueue : s.logQueue = r :: rest) (hready : (s.fld ECC_INIT ECC_INIT_DONE).testBit 5 = true)
    (hq : q = (s.rd THIM_LOGSEQ).toNat) (ho : o = committed (r.body q)) :
    s.logWriteOp = ((State.wr { s with logQueue := rest
                                       th := { s.th with logRing := Sparse.set (fun _ => []) s.th.logRing (q % 131072) o } }
      THIM_LOGSEQ (BitVec.ofNat 32 (q + 1))).mramStored (0x6800000 + 64 * (q % 131072)) 64).traceDue 0 4 false o := by
  simp only [State.logWriteOp, hqueue, hready, Bool.not_true, Bool.false_eq_true, if_false, ← hq, ← ho]

theorem State.save_ready {s : State} (h : s.saveReady = true) : s.save = (0, s.saveStart) := if_pos h

/-- Counter 1 may be burnt up to what the running image's manifest bears. -/
theorem State.revoke_borne {s : State} {k : Nat} (hk : 0 < k) (hmax : k ≤ 3) (hborne : k ≤ (s.img s.runBank).field 5 1) :
    s.revoke k = (0, s.burn 1 k) := by
  rw [State.revoke, if_neg (by omega), if_neg (by omega)]

/-! ### The settlement -/

/-- Settles O46: every clause is the equation of its command's operation in the case that the clause describes. -/
theorem thimbleSensorAndLogCommandsComplete : Obligations.ThimbleSensorAndLogCommandsComplete := by
  refine ⟨?lockstep, ?sample, ?critical, ?poll, ?logWrite, ?anchor, ?save, ?revoke⟩
  case lockstep =>
    exact fun s t hboot hinit hsafe ht => next_settle_congr _ _ _ (State.lockstepOp_running hboot hinit hsafe ht)
  case sample =>
    exact fun s t n temp hboot hfull hwarn hcool hcrit htamper ht => next_settle_congr _ _ _
      (State.thermalOp_cool hboot hfull hwarn hcool hcrit htamper ht)
  case critical =>
    exact fun s n since hsince hdue hfull hinit hsafe => next_settle_congr _ _ _
      ((State.thermalCritOp_due hsince hdue hfull).trans (State.safeEntry_enters hinit hsafe 1))
  case poll =>
    exact fun s t r v i st c hvalid hfull ht => next_settle_congr _ _ _ (State.pmbusOp_answered hvalid hfull ht)
  case logWrite =>
    exact fun s r rest q o hqueue hready hq ho => next_settle_congr _ _ _ (State.logWriteOp_oldest hqueue hready hq ho)
  case anchor => exact fun s m haccepts => next_settle_congr _ _ _ (State.actOwn_accepts haccepts _ _)
  case save =>
    intro s haccepts hready
    refine next_settle_congr _ _ _ ((State.actOwn_accepts haccepts _ _).trans ?_)
    rw [State.save_ready hready]
  case revoke =>
    intro s k haccepts hk hmax hborne
    refine next_settle_congr _ _ _ ((State.actOwn_accepts haccepts _ _).trans ?_)
    simp only [State.revoke_borne hk hmax hborne]

end Sys2Proof.Machine

/-! ## Blocks, activation, confirmation and the update thread (R527 to R536) -/

namespace Sys2Proof.Machine

/-! ### Blocks -/

theorem State.blockHeader_open {s : State} {k : Nat} {h : List Byte} {x : Session} (hopen : s.session? k = some x)
    (hlen : h.length = 16) : s.blockHeader k h = (0, s.setSession { x with hdr := h }) := by
  simp only [State.blockHeader, hopen, hlen, ne_eq, not_true_eq_false, if_false]

/-- Where updates are allowed a submitted block is stored under the staged header, which is cleared. -/
theorem State.blockSubmit_open {s t : State} {k : Nat} {x : Session} (hopen : s.session? k = some x)
    (ht : t = s.setSession { x with hdr := [] }) (hallowed : s.od 0x008101 = 1) (o : List Byte) :
    s.blockSubmit k o = t.storeBlock x.hdr o := by
  simp only [State.blockSubmit, hopen, hallowed, ne_eq, not_true_eq_false, if_false, ← ht]

theorem State.imgStoreOp_stores {s : State} {w : Word} (hup : s.hostUp = true) (hfull : s.th.restricted = false)
    (hop : getF w THIM_IMGCTL_OP = 1) (hbusy : s.flag THIM_IMGCTL THIM_IMGCTL_BUSY = false) (i : Iface) :
    s.imgStoreOp i w = (s.typedWrite i THIM_IMGCTL w).imgStore := by
  rw [State.imgStoreOp, if_neg (by simp [hop, hbusy, hfull]), State.thimAccess_of_up hup]

/-! ### Activation -/

/-- A complete standby image is selected by an unpaired node. -/
theorem State.activate_unpaired {s : State} (hcomplete : (s.img s.standby).complete = true) (hupd : s.upd = 0)
    (hunpaired : s.paired = false) (v : Nat) (twin : Option Nat) : s.activate v twin = (0, false, s.select v) := by
  simp only [State.activate, hcomplete, hupd, hunpaired, bne_self_eq_false, Bool.not_true, Bool.or_self, Bool.false_eq_true,
    if_false, Bool.not_false, if_true]

/-- By a paired one where the twin's image is CONFIRMED. -/
theorem State.activate_twinConfirmed {s : State} {w : Nat} (hcomplete : (s.img s.standby).complete = true) (hupd : s.upd = 0)
    (hpaired : s.paired = true) (htwin : bits w 31 29 = 0) (v : Nat) : s.activate v (some w) = (0, false, s.select v) := by
  simp only [State.activate, hcomplete, hupd, hpaired, htwin, bne_self_eq_false, Bool.not_true, Bool.or_self, Bool.false_eq_true,
    if_false, true_or, if_true]

/-- ACTIVATE through its object answers the status of the activation. -/
theorem State.activateOp_object {s : State} {v : Nat} (hv : v = 1 ∨ v = 2) (haccepts : s.acceptsWrites = true) {twin : Option Nat}
    (hactive : s.activate v twin = (0, false, s.select v)) :
    s.activateOp v false twin = (s.select v).emitOut (.status 0x008106 0) := by
  rw [State.activateOp, if_neg (by omega), if_neg Bool.false_ne_true, State.actOwn_accepts haccepts]
  simp only [hactive]

/-- OP 2 of THIM_IMGCTL shows the result of the activation. -/
theorem State.activateOp_register {s : State} (hup : s.hostUp = true) (hfull : s.th.restricted = false)
    (hbusy : s.flag THIM_IMGCTL THIM_IMGCTL_BUSY = false) {twin : Option Nat} (hactive : s.activate 1 twin = (0, false, s.select 1)) :
    s.activateOp 1 true twin = (s.select 1).setFld THIM_IMGCTL THIM_IMGCTL_RESULT 0 := by
  have hfree : ¬ (s.flag THIM_IMGCTL THIM_IMGCTL_BUSY || s.th.restricted) = true := by rw [hbusy, hfull]; decide
  have hone : ¬ (1 ≠ 1 ∧ 1 ≠ 2) := by decide
  simp only [State.activateOp, if_neg hone, if_true, if_neg hfree, hactive, State.thimAccess_of_up hup]

theorem State.activateSkip_twinDown {s : State} (hdown : s.flag SEAM_STAT SEAM_STAT_TWIN_DOWN = true)
    (hcomplete : (s.img s.standby).complete = true) (hupd : s.upd = 0) : s.activateSkip = (0, (s.log 533 0).select 3) := by
  rw [State.activateSkip, if_neg (by simp [hdown, hcomplete, hupd])]

/-! ### Confirmation and discard -/

theorem State.autoConfirmOp_due {s : State} {a : Nat} (hrun : s.runAt = some a) (hon : s.od 0x008109 ≠ 0)
    (hdue : a + s.od 0x008109 * 1000 * msTicks ≤ s.mer) (hfull : s.th.restricted = false) : s.autoConfirmOp = s.confirm := by
  simp only [State.autoConfirmOp, hrun]
  exact if_pos ⟨hon, hdue, by rw [hfull]; rfl⟩

/-- Outside a trial and an activation the standby bank is cleared. -/
theorem State.discard_settled {s : State} (htrial : s.upd ≠ 1) (hpending : s.upd ≠ 2) :
    s.discard = (0, (s.setImg s.standby ImgBank.reset).threadAgain.showStandby) :=
  if_neg (not_or.mpr ⟨htrial, hpending⟩)

theorem State.discardOp_register {s : State} (hup : s.hostUp = true) (hfull : s.th.restricted = false)
    (hbusy : s.flag THIM_IMGCTL THIM_IMGCTL_BUSY = false) (htrial : s.upd ≠ 1) (hpending : s.upd ≠ 2) :
    s.discardOp true =
      (s.setImg s.standby ImgBank.reset).threadAgain.showStandby.setFld THIM_IMGCTL THIM_IMGCTL_RESULT 0 := by
  have hfree : ¬ (s.flag THIM_IMGCTL THIM_IMGCTL_BUSY || s.th.restricted) = true := by rw [hbusy, hfull]; decide
  simp only [State.discardOp, if_true, if_neg hfree, State.discard_settled htrial hpending, State.thimAccess_of_up hup,
    bne_self_eq_false]
  rfl

/-! ### The update thread and expanders -/

section Thread
variable {s : State} (hnode : s.threadNode ≠ 65535) (hfull : s.th.restricted = false)
include hnode hfull

/-- The next committed block is sent over the open session. -/
theorem State.threadForwardOp_sends (hretry : s.th.thread.retry = none) (hroom : s.th.thread.waiting.length < 8)
    (hhas : (s.img s.standby).has s.th.thread.next = true) (hopen : s.th.thread.open_ = true) :
    s.threadForwardOp none = (s.setThread { s.th.thread with
      open_ := true, next := s.th.thread.next + 1, waiting := s.th.thread.waiting ++ [(s.th.thread.next, s.mer)], state := 1 }).emitOut
        (.threadBlock s.threadNode s.threadPort s.th.thread.next) := by
  have hruns : ¬ (s.threadNode = 65535 ∨ s.th.restricted = true) := by simp [hnode, hfull]
  have hready : ¬ (s.th.thread.retry.isSome = true ∨ 8 ≤ s.th.thread.waiting.length ∨
      (!(s.img s.standby).has s.th.thread.next) = true) := by
    simp [hretry, hhas, hroom]
  simp only [State.threadForwardOp, if_neg hruns, if_neg hready, hopen, if_true]

/-- The oldest block sent is noted as stored. -/
theorem State.threadForwardOp_stored {k a : Nat} {rest : List (Nat × Nat)} (hwaiting : s.th.thread.waiting = (k, a) :: rest) :
    s.threadForwardOp (some 0) =
      s.setThread { s.th.thread with waiting := rest, last := k, state := if rest = [] then 0 else 1 } := by
  have hruns : ¬ (s.threadNode = 65535 ∨ s.th.restricted = true) := by simp [hnode, hfull]
  simp only [State.threadForwardOp, if_neg hruns, hwaiting, if_true]

theorem State.threadReopenOp_due {a : Nat} (hretry : s.th.thread.retry = some a) (hdue : a ≤ s.mer) (next : Nat) (same : Bool) :
    s.threadReopenOp next same = (s.setThread { s.th.thread with
      open_ := true, next := if same then next else 0, waiting := [], retry := none, state := 1 }).emitOut
        (.threadOpen s.threadNode s.threadPort) := by
  simp only [State.threadReopenOp, hretry, decide_eq_true hdue]
  exact if_neg (by simp [hnode, hfull])

end Thread

theorem State.expanderPushOp_confirmed {s : State} (hon : s.od 0x008203 = 1) (hupd : s.upd = 0) (hpart : s.hasPart 5 = true)
    (hup : s.hostUp = true) (hfull : s.th.restricted = false) :
    s.expanderPushOp =
      ((s.unitsWith (ATTACH 0) 32 1024 (fun w => w.getLsbD 31)).filter (fun a => !s.th.pushed.contains a)).foldl
        (fun t a => State.emitOut { t with th := { t.th with pushed := t.th.pushed ++ [a] } } (.push a)) s :=
  if_neg (by simp [hon, hupd, hpart, hup, hfull])

/-! ### The settlement -/

/-- Settles O47: every clause is the equation of its command's operation in the case that the clause describes. -/
theorem thimbleImageCommandsComplete : Obligations.ThimbleImageCommandsComplete := by
  refine ⟨?header, ?block, ?store, ?activate, ?activateTwin, ?activateReg, ?skip, ?confirm, ?auto, ?discard, ?discardReg, ?sends,
    ?stored, ?reopen, ?push⟩
  case header =>
    intro s k h x haccepts hopen hlen
    refine next_settle_congr _ _ _ ((State.actOwn_accepts haccepts _ _).trans ?_)
    simp only [State.blockHeader_open hopen hlen]
  case block =>
    intro s t k o x haccepts hopen ht hallowed
    refine next_settle_congr _ _ _ ((State.actOwn_accepts haccepts _ _).trans ?_)
    simp only [State.blockSubmit_open hopen ht hallowed]
  case store => exact fun s i w hup hfull hop hbusy => next_settle_congr _ _ _ (State.imgStoreOp_stores hup hfull hop hbusy i)
  case activate =>
    exact fun s v hv haccepts hcomplete hupd hunpaired => next_settle_congr _ _ _
      (State.activateOp_object hv haccepts (State.activate_unpaired hcomplete hupd hunpaired v none))
  case activateTwin =>
    exact fun s v w hv haccepts hcomplete hupd hpaired htwin => next_settle_congr _ _ _
      (State.activateOp_object hv haccepts (State.activate_twinConfirmed hcomplete hupd hpaired htwin v))
  case activateReg =>
    exact fun s hup hfull hbusy hcomplete hupd hunpaired => next_settle_congr _ _ _
      (State.activateOp_register hup hfull hbusy (State.activate_unpaired hcomplete hupd hunpaired 1 none))
  case skip =>
    intro s haccepts hdown hcomplete hupd
    refine next_settle_congr _ _ _ ((State.actOwn_accepts haccepts _ _).trans ?_)
    rw [State.activateSkip_twinDown hdown hcomplete hupd]
  case confirm => exact fun s haccepts => next_settle_congr _ _ _ (State.actOwn_accepts haccepts _ _)
  case auto =>
    exact fun s a hrun hon hdue hfull => next_settle_congr _ _ _ (State.autoConfirmOp_due hrun hon hdue hfull)
  case discard =>
    intro s haccepts htrial hpending
    refine next_settle_congr _ _ _ ((State.actOwn_accepts haccepts _ _).trans ?_)
    rw [State.discard_settled htrial hpending]
  case discardReg =>
    exact fun s hup hfull hbusy htrial hpending => next_settle_congr _ _ _
      (State.discardOp_register hup hfull hbusy htrial hpending)
  case sends =>
    exact fun s hnode hfull hretry hroom hhas hopen => next_settle_congr _ _ _
      (State.threadForwardOp_sends hnode hfull hretry hroom hhas hopen)
  case stored =>
    exact fun s k a rest hnode hfull hwaiting => next_settle_congr _ _ _ (State.threadForwardOp_stored hnode hfull hwaiting)
  case reopen =>
    exact fun s next a same hnode hfull hretry hdue => next_settle_congr _ _ _
      (State.threadReopenOp_due hnode hfull hretry hdue next same)
  case push =>
    exact fun s hon hupd hpart hup hfull => next_settle_congr _ _ _ (State.expanderPushOp_confirmed hon hupd hpart hup hfull)

end Sys2Proof.Machine

/-! ## Power requests, wakes, lifecycle, observation levels and JTAG (R541 to R563) -/

namespace Sys2Proof.Machine

/-! ### Requests -/

/-- An accepted request through the object answers 0 and takes effect. -/
theorem State.powerReqOp_object {s : State} {v : Nat} (hjudge : s.powerJudge v = 0) (test : Bool) :
    s.powerReqOp v none test = (s.emitOut (.status 0x009001 0)).powerGo v test := by
  simp only [State.powerReqOp, hjudge, if_true]

/-- An accepted request through SYS_PWR_CTRL shows RESULT 0 and takes effect. -/
theorem State.powerReqOp_register {s t : State} {i : Iface} {w : Word} {v : Nat} (hup : s.hostUp = true)
    (hreq : getB w SYS_PWR_CTRL_REQ_V = true) (hv : getF w SYS_PWR_CTRL_REQ = v) (hclr : getB w SYS_PWR_CTRL_SUPP_CLR = false)
    (ht : t = s.typedWrite i SYS_PWR_CTRL w) (hjudge : t.powerJudge v = 0) (test : Bool) :
    s.powerReqOp v (some (i, w)) test = (t.setFld SYS_PWR_STAT SYS_PWR_STAT_RESULT 0).powerGo v (getB w SYS_PWR_CTRL_TEST) := by
  simp only [State.powerReqOp, State.hostAccess_of_up hup, State.pwrCtrlWrite, hclr, hreq, Bool.not_true,
    Bool.false_eq_true, if_false, ← ht, hv, hjudge, bne_self_eq_false, and_self, if_true]
  rfl

/-! ### STANDBY -/

/-- The end of STANDBY's entry, with no channel on its way down; a latched wake begins the exit. -/
theorem State.standbyDoneOp_entered {s t u : State} (hentering : s.pw.entering = some 2)
    (hstill : s.chans.any (fun p => match p.2.trans with
      | some t => t.target == 3 && decide (p.1 < 64)
      | none => false) = false)
    (ht : t = s.clearDomains)
    (hu : u = ((State.setFld { t with pw := { t.pw with
          entering := none, enteredAt := some s.mer, wake := none, jtag := if 2 < t.pw.jtag then 0 else t.pw.jtag } }
        SYS_PWR_STAT SYS_PWR_STAT_STATE 2).setFld SYS_PWR_STAT SYS_PWR_STAT_TRANS 0).setFld SYS_PWR_STAT SYS_PWR_STAT_READY 0) :
    s.standbyDoneOp = (s.pw.wake.map (fun w => u.exitStart w.1 w.2)).getD u := by
  have hentered : ¬ (s.pw.entering ≠ some 2 ∨ s.chans.any (fun p => match p.2.trans with
      | some t => t.target == 3 && decide (p.1 < 64)
      | none => false) = true) := not_or.mpr ⟨not_not_intro hentering, ne_true_of_eq_false hstill⟩
  unfold State.standbyDoneOp
  refine (if_neg hentered).trans ?_
  rw [← ht]
  dsimp only
  rw [← hu]
  cases s.pw.wake with
  | none => rfl
  | some w => rfl

/-- Domains and memories are back, READY is set, and the Seam of a paired node trains. -/
theorem State.exitReadyOp_exiting {s t u : State} (hexiting : s.pw.exiting = true)
    (ht : t = (s.setFld ECC_INIT ECC_INIT_DONE 127).setFld ECC_INIT ECC_INIT_ALL 1)
    (hu : u = (State.keyRestoreOp ((State.setFld { t with pw := { t.pw with exiting := false } } SYS_PWR_STAT
      SYS_PWR_STAT_STATE 0).setFld SYS_PWR_STAT SYS_PWR_STAT_TRANS 0)).setReady.callTwin) :
    s.exitReadyOp = if u.paired = true then u.seamTrain else u := by
  simp only [State.exitReadyOp, hexiting, Bool.not_true, Bool.false_eq_true, if_false, ← ht, ← hu]

/-! ### Wakes -/

/-- In SLEEP a management bus that takes part wakes the device. -/
theorem State.networkWakeOp_bus {s : State} {c : Nat} (hsleep : s.powerState = 3) (hc : 64 ≤ c) (hon : s.wakeOn (c - 63) = true) :
    s.networkWakeOp c = s.deviceWake (c - 63) c := by
  rw [State.networkWakeOp, if_pos hsleep, if_pos hc, if_pos hon]

/-- In SLEEP a loom source whose detector is armed wakes the device. -/
theorem State.networkWakeOp_loom {s : State} {c : Nat} (hsleep : s.powerState = 3) (hc : c < 64) (hsource : s.loomSource c = true)
    (hon : getB (s.wakeWord (chWake c)) LCn_WAKE_EN = true) : s.networkWakeOp c = s.deviceWake 3 c := by
  rw [State.networkWakeOp, if_pos hsleep, if_neg (Nat.not_le.mpr hc), hsource, hon, Bool.and_self, if_pos rfl]

theorem State.networkWakeOp_awake {s : State} {c : Nat} (hawake : s.powerState ≠ 3) (hc : c < 64) (harmed : s.chArmed c = true)
    (hsource : s.loomSource c = true) : s.networkWakeOp c = s.chWakeUp c := by
  rw [State.networkWakeOp, if_neg hawake, if_pos ⟨hc, harmed, hsource⟩]

theorem State.pinWakeOp_low (s : State) : s.pinWakeOp false = { s with pw := { s.pw with wakeHigh := false } } := by
  simp only [State.pinWakeOp, Bool.false_eq_true, false_and, if_false]

theorem State.wakeTimerOp_due {s : State} {a : Nat} (hentered : s.pw.enteredAt = some a) (hstandby : s.powerState = 2)
    (hon : s.wakeOn 6 = true) (hset : (s.rd SYS_PWR_TIMER).toNat ≠ 0) (hdue : a + (s.rd SYS_PWR_TIMER).toNat * msTicks ≤ s.mer) :
    s.wakeTimerOp = State.deviceWake { s with pw := { s.pw with enteredAt := none } } 6 0 := by
  simp only [State.wakeTimerOp, hentered]
  exact if_pos ⟨hstandby, hon, hset, hdue⟩

/-- A wake that no valid message followed in its window counts, and the device returns to the state it left. -/
theorem State.deviceFalseOp_due {s t u : State} {j : WakeJudge} {a : Nat} (hjudge : s.pw.judge = some j)
    (hready : s.pw.readyAt = some a) (hwin : s.fld SYS_PWR_WAKE SYS_PWR_WAKE_FW_WIN ≠ 0)
    (hdue : a + s.fld SYS_PWR_WAKE SYS_PWR_WAKE_FW_WIN * 1000 * msTicks ≤ s.mer)
    (ht : t = State.bumpSat { s with pw := { s.pw with judge := none } } SYS_PWR_STAT SYS_PWR_STAT_FW_CNT)
    (hu : u = (if s.fld SYS_PWR_WAKE SYS_PWR_WAKE_FW_THR ≠ 0 ∧
        t.fld SYS_PWR_STAT SYS_PWR_STAT_FW_CNT = s.fld SYS_PWR_WAKE SYS_PWR_WAKE_FW_THR then
      t.setFld SYS_PWR_STAT SYS_PWR_STAT_SUPP 1 else t).log 550 j.code [j.chan])
    (htrans : u.flag SYS_PWR_STAT SYS_PWR_STAT_TRANS = false) (hactive : u.powerState < 2) :
    s.deviceFalseOp = u.enterPower j.was j.test false := by
  have hended : ¬ (s.fld SYS_PWR_WAKE SYS_PWR_WAKE_FW_WIN = 0 ∨
      s.mer < a + s.fld SYS_PWR_WAKE SYS_PWR_WAKE_FW_WIN * 1000 * msTicks) :=
    not_or.mpr ⟨hwin, Nat.not_lt.mpr hdue⟩
  have hreturns : ¬ (u.flag SYS_PWR_STAT SYS_PWR_STAT_TRANS = true ∨ 2 ≤ u.powerState) :=
    not_or.mpr ⟨ne_true_of_eq_false htrans, Nat.not_le.mpr hactive⟩
  unfold State.deviceFalseOp
  rw [hjudge, hready]
  refine (if_neg hended).trans ?_
  rw [← ht]
  dsimp only
  rw [← hu]
  exact if_neg hreturns

theorem State.suppClearOp_register {s : State} {i : Iface} {w : Word} (hup : s.hostUp = true)
    (hclr : getB w SYS_PWR_CTRL_SUPP_CLR = true) (hreq : getB w SYS_PWR_CTRL_REQ_V = false) :
    s.suppClearOp (some (i, w)) = (s.typedWrite i SYS_PWR_CTRL w).clearFalse true := by
  simp only [State.suppClearOp, hclr, if_true, State.hostAccess_of_up hup, State.pwrCtrlWrite, hreq, Bool.not_false]

/-! ### Lifecycle, observation levels and JTAG -/

theorem State.lifecycleOp_accepted {s t : State} {m : List Byte} (haccepts : s.acceptsWrites = true) (hjudge : s.lifecycleReq m = (0, t)) :
    s.lifecycleOp m = (t.emitOut (.status 0x00A002 0)).lifecycleEnd := by
  simp only [State.lifecycleOp, if_pos haccepts, hjudge, if_true, actDone]

/-- A level at or below the present one, or one that the role and the lifecycle state allow. -/
theorem State.obsReq_allowed {s : State} {v role : Nat} (hv : v ≤ 3) (hrole : 1 ≤ role) (haccepts : s.acceptsWrites = true)
    (hraise : s.fld SYS_LCS SYS_LCS_OBS < v → v ≤ role ∧ v ≤ obsCap s.lifecycle) :
    s.obsReq v role = (0, s.setFld SYS_LCS SYS_LCS_OBS v) := by
  have hcap : ¬ (s.fld SYS_LCS SYS_LCS_OBS < v ∧ obsCap s.lifecycle < v) := fun ⟨h, hlow⟩ => Nat.not_lt.mpr (hraise h).2 hlow
  have hmay : ¬ role < (if s.fld SYS_LCS SYS_LCS_OBS < v ∧ v ≤ 3 then v else 1) := by
    split_ifs with h
    · exact Nat.not_lt.mpr (hraise h.1).1
    · exact Nat.not_lt.mpr hrole
  simp only [State.obsReq, if_neg hmay, haccepts, Bool.not_true, Bool.false_eq_true, if_false, if_neg (Nat.not_lt.mpr hv), if_neg hcap]

/-- An instruction that every state serves, or one that the full set allows. -/
theorem State.jtagOp_served {s : State} {code : Nat} (hawake : s.powerState ≠ 3)
    (hserved : code ≤ 2 ∨ s.flag SYS_LCS SYS_LCS_JTAG_FULL = true ∧ s.powerState ≠ 2) :
    s.jtagOp code = { s with pw := { s.pw with jtag := code } } := by
  have hloads : code ≤ 2 ∨ (s.flag SYS_LCS SYS_LCS_JTAG_FULL && s.powerState != 2) = true := by simpa using hserved
  simp only [State.jtagOp, if_neg hawake, if_pos hloads]

/-! ### The settlement -/

/-- Settles O48: every clause is the equation of its command's operation in the case that the clause describes. -/
theorem powerCommandsComplete : Obligations.PowerCommandsComplete := by
  refine ⟨?object, ?register, ?entry, ?asleep, ?awake, ?pinHigh, ?pinLow, ?sideband, ?timer, ?exit, ?falseWake, ?clearReg, ?clears,
    ?lifecycle, ?level, ?jtag⟩
  case object =>
    exact fun s test => ⟨fun h => next_settle_congr _ _ _ (State.powerReqOp_object h false),
      fun h => next_settle_congr _ _ _ (State.powerReqOp_object h false),
      fun h => next_settle_congr _ _ _ (State.powerReqOp_object h test),
      fun h => next_settle_congr _ _ _ (State.powerReqOp_object h test)⟩
  case register =>
    intro s t i w v test hup hreq hv hclr ht hjudge
    refine ⟨fun h => ?_, fun h => ?_, fun h => ?_, fun h => ?_⟩ <;> subst h <;>
      exact next_settle_congr _ _ _ (State.powerReqOp_register hup hreq hv hclr ht hjudge _)
  case entry =>
    intro s t u hentering hstill ht hu
    have hentered := State.standbyDoneOp_entered hentering hstill ht hu
    refine ⟨fun hwake => next_settle_congr _ _ _ ?_, fun code c hwake => next_settle_congr _ _ _ ?_⟩ <;>
      rw [hentered, hwake] <;> rfl
  case asleep =>
    exact fun s c _ _ hsleep => ⟨fun hc hon => next_settle_congr _ _ _ (State.networkWakeOp_bus hsleep hc hon),
      fun hc hsource hon => next_settle_congr _ _ _ (State.networkWakeOp_loom hsleep hc hsource hon)⟩
  case awake =>
    exact fun s c hawake hc harmed hsource => next_settle_congr _ _ _ (State.networkWakeOp_awake hawake hc harmed hsource)
  case pinHigh =>
    intro s t ht hon
    subst ht
    exact next_settle_congr _ _ _ (if_pos ⟨rfl, hon⟩)
  case pinLow => exact fun s => next_settle_congr _ _ _ s.pinWakeOp_low
  case sideband => exact fun s hon => next_settle_congr _ _ _ (if_pos hon)
  case timer =>
    exact fun s a hentered hstandby hon hset hdue => next_settle_congr _ _ _ (State.wakeTimerOp_due hentered hstandby hon hset hdue)
  case exit => exact fun s t u hexiting ht hu => next_settle_congr _ _ _ (State.exitReadyOp_exiting hexiting ht hu)
  case falseWake =>
    exact fun s t u j a hjudge hready hwin hdue ht hu htrans hactive => next_settle_congr _ _ _
      (State.deviceFalseOp_due hjudge hready hwin hdue ht hu htrans hactive)
  case clearReg => exact fun s i w hup hclr hreq => next_settle_congr _ _ _ (State.suppClearOp_register hup hclr hreq)
  case clears =>
    exact fun s haccepts => ⟨next_settle_congr _ _ _ (State.actOwn_accepts haccepts _ _),
      next_settle_congr _ _ _ (State.actOwn_accepts haccepts _ _)⟩
  case lifecycle => exact fun s t m haccepts hjudge => next_settle_congr _ _ _ (State.lifecycleOp_accepted haccepts hjudge)
  case level =>
    intro s v role hv hrole haccepts hraise
    refine next_settle_congr _ _ _ ?_
    rw [State.obsReqOp, State.obsReq_allowed hv hrole haccepts hraise, actDone]
  case jtag => exact fun s code hawake hserved => next_settle_congr _ _ _ (State.jtagOp_served hawake hserved)

end Sys2Proof.Machine

/-! ## Snapshots, trace records and frames, lane locks and the fault coalescer (R583, R590 to R597) -/

namespace Sys2Proof.Machine

/-! ### Snapshots -/

/-- A period that ends with no copy running starts a snapshot. -/
theorem State.snapPeriodOp_due {s : State} (hperiod : s.fld OBS_SNAPCTL OBS_SNAPCTL_PERIOD ≠ 0) (hlevel : s.obsLevel ≠ 0)
    (hdue : s.snapLast + s.fld OBS_SNAPCTL OBS_SNAPCTL_PERIOD * usTicks ≤ s.mer) (hcopy : s.snapCopy = none) :
    s.snapPeriodOp = State.snapStart { s with snapLast := s.mer } (s.flag OBS_SNAPCTL OBS_SNAPCTL_CLR) := by
  have hends : ¬ (s.fld OBS_SNAPCTL OBS_SNAPCTL_PERIOD = 0 ∨ s.obsLevel = 0 ∨
      s.mer < s.snapLast + s.fld OBS_SNAPCTL OBS_SNAPCTL_PERIOD * usTicks) :=
    not_or.mpr ⟨hperiod, not_or.mpr ⟨hlevel, Nat.not_lt.mpr hdue⟩⟩
  have hidle : ¬ s.snapCopy.isSome = true := by rw [hcopy]; decide
  unfold State.snapPeriodOp
  exact (if_neg hends).trans (if_neg hidle)

section Done
variable {s : State} {a : Nat} {l : List (Nat × Word)} (hcopy : s.snapCopy = some (a, l)) (hagain : s.snapAgain = none)
include hcopy hagain

/-- With bank 1 selected a copy that ends goes to bank 0, and selects it. -/
theorem State.snapDoneOp_bank0 (hbank : s.flag OBS_SNAPCTL OBS_SNAPCTL_BANK = true) :
    s.snapDoneOp = ((((State.setFlag { s with snapBank0 := l, snapCopy := none, snapAgain := none } OBS_SNAPCTL OBS_SNAPCTL_BANK
      false).setFld OBS_SNAPCTL OBS_SNAPCTL_BUSY 0).count OBS_SNAPSEQ).wr64 OBS_SNAPT_LO a).setFld OBS_EVT OBS_EVT_SNAP_DONE 1 := by
  simp only [State.snapDoneOp, hcopy, hagain, hbank, if_true, Bool.not_true]

/-- With bank 0 selected it goes to bank 1, and selects it. -/
theorem State.snapDoneOp_bank1 (hbank : s.flag OBS_SNAPCTL OBS_SNAPCTL_BANK = false) :
    s.snapDoneOp = ((((State.setFlag { s with snapBank1 := l, snapCopy := none, snapAgain := none } OBS_SNAPCTL OBS_SNAPCTL_BANK
      true).setFld OBS_SNAPCTL OBS_SNAPCTL_BUSY 0).count OBS_SNAPSEQ).wr64 OBS_SNAPT_LO a).setFld OBS_EVT OBS_EVT_SNAP_DONE 1 := by
  simp only [State.snapDoneOp, hcopy, hagain, hbank, Bool.false_eq_true, if_false, Bool.not_false]

end Done

/-! ### Trace records and frames -/

/-- The oldest due record enters a queue with room. -/
theorem State.traceRecordOp_room {s : State} {d : Nat} {r : TraceRec} {rest : List TraceRec}
    (hin : Sparse.get (fun _ => []) s.traceIn d = r :: rest) (hroom : traceLen (s.traceOf d) + r.octets.length ≤ 2 ^ 20) :
    s.traceRecordOp d =
      { s with traceIn := Sparse.set (fun _ => []) s.traceIn d rest
               traceQ := Sparse.set (fun _ => []) s.traceQ d (s.traceOf d ++ [{ rcd := r, lane := false, port := false }]) } := by
  unfold State.traceRecordOp
  rw [hin]
  exact if_neg (Nat.not_lt.mpr hroom)

/-- A frame that is due sends whole records to a port's queue with room. -/
theorem State.traceFrameOp_due {s t u : State} {d n q : Nat} {r : TraceRec} {rest l : List TraceRec}
    (hon : s.flag OBS_TRCTL OBS_TRCTL_PORT_EN = true) (ht : t = s.traceLossNext d)
    (hunsent : ((t.traceOf d).filter (fun e => !e.port)).map (fun e => e.rcd) = r :: rest) (hl : l = fitting s.traceRoom (r :: rest))
    (hfits : l ≠ []) (hdue : r.mer + 50 * usTicks ≤ s.mer) (hn : n = s.fld OBS_TRPORT OBS_TRPORT_PORT)
    (hq : q = s.fld OBS_TRPORT OBS_TRPORT_QUEUE) (hu : u = t.traceFramed d l.length) (hlive : u.destLive (.port n q) = true)
    (hadmits : u.admits (n / 64) (u.sharedFree (n / 64)) (cellsOf (s.traceItem d l).stored) false false (.port n q) = true) :
    s.traceFrameOp d = (u.queueOne (s.traceItem d l) (.port n q)).traceSent d := by
  have hsome : ¬ l.isEmpty = true := fun h => hfits (List.isEmpty_iff.mp h)
  have hleaves : ¬ (l.length = (r :: rest).length ∧ s.mer < r.mer + 50 * usTicks) := fun h => Nat.not_lt.mpr hdue h.2
  simp only [State.traceFrameOp, hon, Bool.not_true, Bool.false_eq_true, if_false, ← ht, hunsent, ← hl, if_neg hsome,
    if_neg hleaves, ← hn, ← hq, ← hu, hlive, hadmits, Bool.and_self, if_true]

/-- A change of lock of an observation lane is an event. -/
theorem State.olLockOp_changes {s : State} {d st : Nat} (hchange : (s.fld OBS_OLSTAT (olRx d) = 2) ≠ (st = 2)) :
    s.olLockOp d st = (s.setFld OBS_OLSTAT (olRx d) st).setFld OBS_EVT (if d = 0 then OBS_EVT_OL0_LOCK else OBS_EVT_OL1_LOCK) 1 :=
  if_neg hchange

/-! ### The fault coalescer -/

/-- A suspect without an entry opens one in a free slot. -/
theorem State.faultReport_opens {s : State} {suspect slot : Nat} (hnew : s.coal.find? (fun p => p.2.suspect == suspect) = none)
    (hslot : (List.range 256).find? (fun k => !s.coal.any (fun p => p.1 == k)) = some slot) (reporter sev code : Nat) :
    s.faultReport suspect reporter sev code = s.setCoal (s.coal ++
      [(slot, { suspect := suspect, code := code, sev := sev, count := 1, first := s.mer, last := s.mer,
                partners := [reporter], firstRep := reporter, lastRep := reporter })]) := by
  simp only [State.faultReport, hnew, hslot, Option.isNone_some, Bool.and_false, Bool.false_eq_true, if_false, Option.getD_some]

/-- With no report waiting and the coalescer ready, it takes the report at once. -/
theorem State.faultReportOp_taken {s : State} (hempty : s.coalIn = []) (hready : s.coalFree ≤ s.mer)
    (suspect reporter sev code : Nat) :
    s.faultReportOp suspect reporter sev code =
      State.faultReport { s with coalIn := [], coalFree := s.mer + 1000 } suspect reporter sev code := by
  have hroom : s.coalIn.length < 4096 := by rw [hempty]; decide
  unfold State.faultReportOp State.reportFile
  rw [if_pos hroom, hempty]
  exact if_neg (Nat.not_lt.mpr hready)

/-- Before the coalescer's next report is due a report waits in the FIFO. -/
theorem State.faultReportOp_waits {s : State} (hpaced : s.mer < s.coalFree) (hroom : s.coalIn.length < 4096)
    (suspect reporter sev code : Nat) :
    s.faultReportOp suspect reporter sev code =
      { s with coalIn := s.coalIn ++ [{ suspect := suspect, reporter := reporter, sev := sev, code := code }] } := by
  have hwaits (l : List Report) : State.coalTake { s with coalIn := l } = { s with coalIn := l } := by
    cases l with
    | nil => rfl
    | cons r rest => exact if_pos hpaced
  unfold State.faultReportOp State.reportFile
  rw [if_pos hroom, hwaits]

theorem State.coalCloseOp_due {s : State} {k : Nat} {p : Nat × CoalEnt} (hfind : s.coal.find? (fun p => p.1 == k) = some p)
    (hdue : s.coalDue p.2 = true) : s.coalCloseOp k = s.coalClose k p.2 := by
  simp only [State.coalCloseOp, hfind, if_pos hdue]

/-! ### The settlement -/

/-- Settles O50: every clause is the equation of its command's operation in the case that the clause describes. -/
theorem snapshotAndTraceCommandsComplete : Obligations.SnapshotAndTraceCommandsComplete := by
  refine ⟨?request, ?period, ?bank0, ?bank1, ?record, ?frame, ?lane0, ?lane1, ?opens, ?waits, ?close⟩
  case request =>
    exact fun s i w hreq hup _ => next_settle_congr _ _ _ ((if_pos hreq).trans (State.hostAccess_of_up hup _))
  case period =>
    exact fun s hperiod hlevel hdue hcopy => next_settle_congr _ _ _ (State.snapPeriodOp_due hperiod hlevel hdue hcopy)
  case bank0 =>
    exact fun s a l hcopy hagain hbank => next_settle_congr _ _ _ (State.snapDoneOp_bank0 hcopy hagain hbank)
  case bank1 =>
    exact fun s a l hcopy hagain hbank => next_settle_congr _ _ _ (State.snapDoneOp_bank1 hcopy hagain hbank)
  case record => exact fun s d r rest hin hroom => next_settle_congr _ _ _ (State.traceRecordOp_room hin hroom)
  case frame =>
    exact fun s t u d n q r rest l hon ht hunsent hl hfits hdue hn hq hu hlive hadmits => next_settle_congr _ _ _
      (State.traceFrameOp_due hon ht hunsent hl hfits hdue hn hq hu hlive hadmits)
  case lane0 =>
    exact fun s st hlocked hlost => next_settle_congr _ _ _
      (State.olLockOp_changes (d := 0) (fun h => hlost (h.mp hlocked)))
  case lane1 =>
    exact fun s hsearching => next_settle_congr _ _ _ (State.olLockOp_changes (d := 1) (fun h => hsearching (h.mpr rfl)))
  case opens =>
    exact fun s suspect reporter sev code slot hempty hready hnew hslot => next_settle_congr _ _ _
      ((State.faultReportOp_taken hempty hready suspect reporter sev code).trans
        (State.faultReport_opens (s := { s with coalIn := [], coalFree := s.mer + 1000 }) hnew hslot reporter sev code))
  case waits =>
    exact fun s suspect reporter sev code hpaced hroom => next_settle_congr _ _ _
      (State.faultReportOp_waits hpaced hroom suspect reporter sev code)
  case close => exact fun s k p hfind hdue => next_settle_congr _ _ _ (State.coalCloseOp_due hfind hdue)

end Sys2Proof.Machine
